-- ==== Sys2Proof/Word.lean ====
section
/-! DEFINITION. Word: bytes and byte strings, little-endian and big-endian encodings, and the plainest
reading of two's complement. Everything a test could show wrong stands under Machine/, not here. -/

namespace Sys2Proof

/-- One octet. -/
abbrev Byte := BitVec 8

/-- An octet string: a PDU payload, a DOMAIN, an OCTETS or STRING value. -/
abbrev Bytes := List Byte

/-- The byte holding `n` modulo 256. -/
def byteOf (n : Nat) : Byte := BitVec.ofNat 8 n

/-- `k` bytes of `n`, least significant first (R58: integers are little-endian). -/
def leBytes : Nat → Nat → Bytes
  | 0, _ => []
  | k + 1, n => byteOf n :: leBytes k (n / 256)

/-- The number a byte string spells, least significant byte first. -/
def leNat : Bytes → Nat
  | [] => 0
  | b :: bs => b.toNat + 256 * leNat bs

/-- The number a byte string spells, most significant byte first. -/
def beNat (bs : Bytes) : Nat := leNat bs.reverse

/-- `k` bytes of `n`, most significant first. -/
def beBytes (k n : Nat) : Bytes := (leBytes k n).reverse

/-- The bytes of a string of length `k` starting at `off`. -/
def slice (bs : Bytes) (off k : Nat) : Bytes := (bs.drop off).take k

/-- A little-endian field of `k` bytes at offset `off`. -/
def field (bs : Bytes) (off k : Nat) : Nat := leNat (slice bs off k)

/-- The two's complement reading of the low `w` bits of `n`. -/
def toSigned (w n : Nat) : Int :=
  let m := n % 2 ^ w
  if m < 2 ^ (w - 1) then (m : Int) else (m : Int) - (2 ^ w : Nat)

/-- The `w`-bit two's complement encoding of an integer. -/
def ofSigned (w : Nat) (x : Int) : Nat := (x % ((2 ^ w : Nat) : Int)).toNat

/-- Bit `k` of `n`. -/
def bitAt (n k : Nat) : Bool := (n / 2 ^ k) % 2 == 1

/-- Bits `hi` down to `lo` of `n`. -/
def bitsAt (n hi lo : Nat) : Nat := (n / 2 ^ lo) % 2 ^ (hi - lo + 1)

/-- A number from a Boolean. -/
def b2n (b : Bool) : Nat := if b then 1 else 0

end Sys2Proof
end

