-- ==== Sys2Proof/Syntax.lean ====
section
/-! DEFINITION. Syntax: the commands of the block, one constructor of `Instr` per row of
spec/opcode_table.json, in the table's order, with the operands each one carries.
The table gives no row an encoding, so operands are the quantities the rule of the row speaks of.
A field `t` is the device time in ns at which the command comes about (R10, R34), `fill` the bytes held in
the ingest write buffer (R98, R99), `torn` that a table was rewritten between the two reads of its TABLE_SEQ
(R102, R117; for the commit window, the slots whose tables were). For a PDM sample, `unit` is the AUDIO_RATE of its decimator (R88). For an edge of a pin, `t` is the time
of the edge, `falling` its direction, and `width` how long the pin stayed at its active level (R16). The row of a
counter's low word stands for a Window A read at any offset, that of MSIX_VECTOR_UNMASK for a Window A write at any
offset with its byte enables, and that of MEMORY_SPACE_ENABLE for an access to configuration space (R228, R230; log
58). -/

namespace Sys2Proof

/-- The four Shevy ports (R32). -/
inductive Port where
  | C | H | E | S
  deriving DecidableEq, Repr

/-- A Shevy request as it is accepted (R34, R45): device time of acceptance, port, header and payload. `sender` is what
its medium says of it (R47): the identifier of a CAN FD frame on port C, the source MAC address on port E. -/
structure Pdu where
  t : Nat
  port : Port
  sender : Nat
  seq : Nat
  flags : Nat
  index : Nat
  sub : Nat
  payload : Bytes
  deriving DecidableEq, Repr

/-- A Shevy WRITE to an object that has a row of its own: the header without the address. -/
structure Req where
  t : Nat
  port : Port
  sender : Nat
  seq : Nat
  flags : Nat
  payload : Bytes
  deriving DecidableEq, Repr

/-- Why a PDU is dropped without response (R46, R47, R48, R244). -/
inductive Malformed where
  | tooShort | tooLong | wrongTag | lengthField | classicalCan | bufferFull | ringEntry
  deriving DecidableEq, Repr

/-- A pin that can carry a fix event (R16): FRAME_SYNC (source 1) or DSYNC_A to DSYNC_D (sources 3 to 6). -/
inductive FixPin where
  | frameSync | dsyncA | dsyncB | dsyncC | dsyncD
  deriving DecidableEq, Repr

/-- An edge of such a pin, to its low or to its high level (R16). -/
structure PinEdge where
  pin : FixPin
  falling : Bool
  deriving DecidableEq, Repr

/-- An edge of such a pin whose level ends again after `width` ns (R16). -/
structure PinPulse where
  pin : FixPin
  falling : Bool
  width : Nat
  deriving DecidableEq, Repr

/-- What arrives on a port in place of a PDU (R47, R48): its sender, and what is wrong with it. -/
structure BadPdu where
  sender : Nat
  why : Malformed
  deriving DecidableEq, Repr

/-- Header ECC outcome of a CSI-2 packet (R86). -/
inductive CsiEcc where
  | clean | corrected | uncorrectable
  deriving DecidableEq, Repr

/-- What starts a frame (R90, R96): an FS short packet of a receiver and virtual channel with its header's ECC
outcome, or the start of a point-cloud or audio frame of a slot. -/
inductive FrameSource where
  | csi (recv : Fin 8) (vc : Nat) (ecc : CsiEcc)
  | slot (n : Fin 48)
  deriving DecidableEq, Repr

/-- A CSI-2 short packet as received (R86): receiver, virtual channel and the outcome of its header's ECC. -/
structure CsiShort where
  recv : Fin 8
  vc : Nat
  ecc : CsiEcc
  deriving DecidableEq, Repr

/-- A CSI-2 packet as received (R86): receiver, virtual channel, data type, its payload and the link's
verdict on it. -/
structure CsiPacket where
  t : Nat
  recv : Fin 8
  vc : Nat
  dataType : Nat
  payload : Bytes
  ecc : CsiEcc
  crcOk : Bool
  deriving DecidableEq, Repr

/-- A 2.5 Gb/s Ethernet frame (R87): `payload` counts from the first byte after the EtherType. -/
structure EthFrame where
  t : Nat
  ethPort : Fin 2
  fcsOk : Bool
  etherType : Nat
  vlan : Option Nat
  udpPort : Option Nat
  payload : Bytes
  fill : Nat
  deriving DecidableEq, Repr

/-- A random hardware fault that changes one column's result of one vector by an exclusive-or mask
(R156); column 128 is the checksum lane. -/
structure LaneFault where
  vector : Nat
  column : Nat
  mask : Nat
  deriving DecidableEq, Repr

/-- The ports of an operand store (R142), in the order in which R143 serves them. -/
inductive StorePort where
  | activation | accRead | accWrite | weight | vector | fabric
  deriving DecidableEq, Repr

/-- One pass of an array as it runs (R144): which pass of the image it is, the cycle of the old pass in which the
shadow load of its tile begins (R148), the ports that address one bank in one cycle, one list for each such
cycle and bank (R143), the random hardware faults, and the order in which the arrays of a gang completed their
partial sums (fast mode, R222). -/
structure PassOp where
  t : Nat
  passIndex : Nat
  shadowStart : Nat
  contention : List (List StorePort)
  faults : List LaneFault
  order : List (Fin 8)
  deriving DecidableEq, Repr

/-- Operations of a vector unit (R157). -/
inductive VecKind where
  | add | sub | mul | fma | max | min | rectifier | clamp
  | sigmoid | tanh | gelu | exp | log | reciprocal | rsqrt
  | layerNorm | rmsNorm | softmax | sgdMomentum | adamDecoupled
  deriving DecidableEq, Repr

/-- Where a vector stands: in the operand store from a byte address on, or in lane registers from register `r` on
(R157). -/
inductive VecPlace where
  | store (addr : Nat)
  | lanes (r : Fin 64)
  deriving DecidableEq, Repr

/-- A vector-unit operation of a job (R157): `count` elements at up to three places, scalar parameters as FP32
words, the formats of loads and stores (R128), where the result goes, and, for an optimiser step, where its FP32
state stands (momentum, or first and second moment). -/
structure VecOp where
  t : Nat
  kind : VecKind
  loadFmt : Nat
  storeFmt : Nat
  count : Nat
  x : VecPlace
  y : VecPlace
  z : VecPlace
  params : List Nat
  dest : VecPlace
  moments : List VecPlace
  deriving DecidableEq, Repr

/-- Reductions of the graph walker (R159). -/
inductive Reduce where
  | sum | max | min
  deriving DecidableEq, Repr

/-- The two element kinds of the graph walker's reductions (R128). -/
inductive GwElem where
  | int32 | fp32
  deriving DecidableEq, Repr

/-- Indexed gather (R159): `rows` table rows of `rowBytes` bytes at `table`, copied to `dest`. -/
structure GatherOp where
  t : Nat
  table : Nat
  rows : Nat
  rowBytes : Nat
  indices : List Nat
  dest : Nat
  deriving DecidableEq, Repr

/-- Segment reduce (R159): `count` 4-byte elements at `src`, segments given by `offsets`. -/
structure SegmentOp where
  t : Nat
  kind : Reduce
  elem : GwElem
  src : Nat
  count : Nat
  offsets : List Nat
  dest : Nat
  deriving DecidableEq, Repr

/-- One contribution of an atomic add: its source position, the index of its element and its raw value. -/
structure Contribution where
  position : Nat
  index : Nat
  value : Nat
  deriving DecidableEq, Repr

/-- Atomic add (R159, R160): contributions, listed in the order in which they arrive, into `count` elements of the
chart store. -/
structure AtomicOp where
  t : Nat
  elem : GwElem
  base : Nat
  count : Nat
  contributions : List Contribution
  deriving DecidableEq, Repr

/-- Localisation verdicts (R258). -/
inductive Verdict where
  | column | lane | other | unlocalised
  deriving DecidableEq, Repr

/-- Where one vector of a pass stands in the operand store: its activations, the accumulator vector that the
previous K tile wrote, and what the south edge writes (R142, R146). -/
structure VectorAt where
  act : Nat
  acc : Nat
  out : Nat
  deriving DecidableEq, Repr

/-- A transfer through an array's fabric port (R142): `len` bytes between device address `dev` and operand-store
address `store`. -/
structure StoreMove where
  dev : Nat
  store : Nat
  len : Nat
  deriving DecidableEq, Repr

/-- One pass of a job image as the device reads it (R144, R165): the operand pair, the activation zero point, the
rows of K and the output channels of its tile, the tile's place in its reduction (column tile, K tile, whether it
is the last one), the bias of its columns, the 272-byte rescale descriptors of its groups (a last K tile), the
bound of R155, the vectors and the tile's weights in the operand store (rows of 128 elements, one after the
other), the positions marked as padding (vector and row, R132), and the transfers before and after it. `split`
says that the K tiles are spread over the gang; a `combine` pass adds the gang's partial sums (R222). -/
structure ImagePass where
  actFmt : Nat
  weightFmt : Nat
  zeroPoint : Int
  rows : Nat
  outCols : Nat
  column : Nat
  kTile : Nat
  lastTile : Bool
  split : Bool
  combine : Bool
  bias : List Nat
  descriptors : List Bytes
  relBound : Nat
  vectors : List VectorAt
  weights : Nat
  padding : List (Nat × Nat)
  loads : List StoreMove
  stores : List StoreMove
  deriving DecidableEq, Repr

/-- What the device reads from the body of a job image at admission (R165): its passes, every format it
names, and whether a backward operation or an optimiser step is named. The layout of the body is the
compiler's. -/
structure ImageBody where
  passes : List ImagePass
  formats : List Nat
  training : Bool
  deriving DecidableEq, Repr, Inhabited

/-- Where an ECC event lies (R192 to R195): memory, an operand store, or a record of the logbook's ring or persistent
area (R284), by its place from the oldest. -/
inductive EccPlace where
  | device (addr : Nat)
  | chart (addr : Nat)
  | operandStore (array : Fin 8) (word : Nat)
  | logbook (persist : Bool) (index : Nat)
  deriving DecidableEq, Repr

/-- What a scrub read finds (R193 to R195); `passDone` closes a scrub pass, and `upset` is a bit error, correctable or
not, that strikes the place after the read and that the next access to it meets. -/
inductive EccEvent where
  | clean | correctable | uncorrectable | passDone
  | upset (correctable : Bool)
  deriving DecidableEq, Repr

/-- How a TF_RESOLVE reaches the device (R208): a dictionary write, or the Window A mirror. -/
inductive ResolveVia where
  | dictionary (r : Req)
  | windowA (t : Nat)
  deriving DecidableEq, Repr

/-- What reaches an endpoint of a packet that the mesh has changed (R216): the endpoint and the bytes. -/
structure Received where
  atEnd : Fin 24
  bytes : Bytes
  deriving DecidableEq, Repr

/-- A fabric packet (R214) by the header fields its source gave it. `queue` is the queue whose item the source sends it
for, if any, which the header does not name. `received` is none where the packet reaches DST as it was sent. -/
structure Packet where
  src : Fin 24
  dst : Fin 24
  bulk : Bool
  channel : Nat
  partition : Fin 4
  seq : Nat
  addr : Nat
  payload : Bytes
  queue : Option (Fin 32)
  received : Option Received
  deriving DecidableEq, Repr

/-- The service of a transfer on a copy engine (R240): the 64 bytes of a COPY descriptor, or, where
`fromImage` is set, the same fields of a transfer that the queue's running job issues from its image; for a
transfer from host to device, what host memory has returned so far. -/
structure CopyOp where
  t : Nat
  fromImage : Bool
  desc : Bytes
  hostData : Bytes
  deriving DecidableEq, Repr

/-- A register of a ring (R230, R244): its control register, or its first base address (submission or request ring) or
its second (completion or response ring). -/
inductive RingRegister where
  | ctrl
  | base (second : Bool)
  deriving DecidableEq, Repr

/-- A Window A write to the registers of a ring (R230, R244): a word of a base address, or the control register. -/
inductive RingWrite where
  | base (second : Bool) (high : Bool) (value : Nat)
  | ctrl (value : Nat)
  deriving DecidableEq, Repr

/-- The write of a value to a register of a ring, to the high word of a base address or to its low word. -/
def RingRegister.write (r : RingRegister) (high : Bool) (value : Nat) : RingWrite :=
  match r with
  | .ctrl => .ctrl value
  | .base second => .base second high value

/-- A write of a DWORD of Window A with its byte enables (R230). -/
structure RegisterWrite where
  offset : Nat
  value : Nat
  enables : Fin 16
  deriving DecidableEq, Repr

/-- What a configuration read asks for (R228): an item of configuration space. -/
inductive ConfigField where
  | vendorId | deviceId | revisionId | classCode | busMaster | memorySpace | barA | barB | barFour | expansionRom
  | serialNumber | powerState | maxPayloadSupported | maxPayload | maxReadRequest | msixVectors | msixTable | msixPba
  | msixEnable | msixFunctionMask
  deriving DecidableEq, Repr

/-- An access of host software to configuration space (R228, R246, R251): Memory Space Enable, a word of BAR0/BAR1
(Window A) or BAR2/BAR3 (Window B), the sizes in Device Control by their codes, D0 or D3hot, the MSI-X control bits, or
a read. -/
inductive ConfigAccess where
  | memorySpace (on : Bool)
  | bar (windowB : Bool) (high : Bool) (value : Nat)
  | deviceControl (maxPayload : Fin 8) (maxRead : Fin 8)
  | powerState (d3hot : Bool)
  | msixControl (enable : Bool) (functionMask : Bool)
  | read (f : ConfigField)
  deriving DecidableEq, Repr

/-- Clock domains (R358). -/
inductive Domain where
  | aon | ctl | sense | bin | host | ingest | fab | array | mem
  deriving DecidableEq, Repr

/-- Core rails that the voltage monitor compares (R262). -/
inductive Rail where
  | array | logic | sram
  deriving DecidableEq, Repr

/-- A power-good or threshold sample of a battery poll: the eight words, or a failed poll (R345). -/
structure BattWords where
  temperature : Nat
  voltage : Nat
  current : Nat
  soc : Nat
  remaining : Nat
  full : Nat
  status : Nat
  cycles : Nat
  deriving DecidableEq, Repr

/-- One reading of a temperature channel (R336, R337); an SMBus read says whether its packet error check was met. -/
inductive TempReading where
  | onDie (tenths : Int)
  | ntc (code : Nat)
  | smbus (bytes : Bytes) (pecOk : Bool)
  | smbusFail
  deriving DecidableEq, Repr

/-- Instructions of the TAP (R378): those it always provides, and any other by its code. -/
inductive TapInstr where
  | bypass | idcode | samplePreload | extest | dbgAuth
  | other (code : Nat)
  deriving DecidableEq, Repr

/-- How a debug response reaches the device, and what else the TAP does (R378, R379): a segment of a WRITE_BLOCK, the
loading of a TAP instruction, or a scan of the data register that the instruction selects, with the bytes shifted in. -/
inductive DebugVia where
  | request (p : Pdu)
  | tapInstruction (t : Nat) (i : TapInstr)
  | tapScan (t : Nat) (bytes : Bytes)
  deriving DecidableEq, Repr

/-- A run of bytes of the boot flash, from an offset on (R373, R374). -/
structure FlashRun where
  offset : Nat
  bytes : Bytes
  deriving DecidableEq, Repr

/-- A touch frame's measurements (R311, R313): raw counts in node-index order and listen-slot levels. -/
structure TouchFrame where
  t : Nat
  raw : List Nat
  noise : List Nat
  deriving DecidableEq, Repr

/-- The commands of the block: one constructor per row of spec/opcode_table.json. -/
inductive Instr where
  -- 01_tick
  | meridian (t : Nat)
  | pinEventQualified (t : Nat) (edge : PinEdge)
  | gptpScheduleEvent (t : Nat)
  | captureWindowClose
  | realign (r : Req)
  | realignSearchTimeout
  | housekeepingMark
  | camTrigPulse (n : Fin 8)
  | tickReport (t : Nat)
  | syncMessage (t : Nat) (ethPort : Fin 2) (domain : Nat) (origin : Nat) (interval : Nat)
  | pdelayMessage (t : Nat) (ethPort : Fin 2) (t1 : Nat) (t2 : Nat) (t3 : Nat) (t4 : Nat)
  | gptpTimeout (t : Nat)
  -- 02_owners_and_protocol, 03_object_dictionary
  | read (p : Pdu)
  | write (p : Pdu)
  | readBlock (p : Pdu)
  | writeBlock (p : Pdu)
  | claim (p : Pdu)
  | renew (p : Pdu)
  | handover (p : Pdu)
  | accept (p : Pdu)
  | notifyReceived (p : Pdu)
  | unknownService (p : Pdu) (code : Nat)
  | malformedPdu (t : Nat) (port : Port) (what : BadPdu)
  | claimWindowClose
  | leaseExpiry
  | handoverDeadline
  | segmentTimeout (t : Nat) (port : Port)
  | store (r : Req)
  | storeComplete (t : Nat) (verified : Bool)
  | restore (r : Req)
  | restoreFactory (r : Req)
  | counterPreset (r : Req) (index : Nat) (sub : Nat) (sameCycle : Bool)
  | wrapFlagClear (r : Req) (index : Nat) (sub : Nat) (wrapsInCycle : Bool)
  -- 04_sensor_ingest, 05_tensor_shaping
  | frameStart (t : Nat) (src : FrameSource) (fill : Nat) (torn : List (Fin 16))
  | csiPacket (p : CsiPacket)
  | frameEnd (t : Nat) (packet : CsiShort)
  | frameTimeout (slot : Fin 48)
  | ethernetFrame (f : EthFrame)
  | bandwidthAbort (t : Nat) (fill : Nat)
  | statisticsRecord (t : Nat) (slot : Fin 48)
  | shapedHeader (t : Nat) (ctx : Fin 16)
  | commitWindowOpen (torn : List (Fin 48))
  | i2cTransactionDone (t : Nat) (ctrl : Fin 8) (acked : Bool)
  | fusionRecord (t : Nat) (set : Fin 8)
  | release (r : Req) (slot : Fin 48)
  | acquire (r : Req) (slot : Fin 48)
  -- 07_matrix_arrays
  | pass (a : Fin 8) (op : PassOp)
  | vectorOp (a : Fin 8) (op : VecOp)
  | indexedGather (q : Fin 32) (op : GatherOp)
  | segmentReduce (q : Fin 32) (op : SegmentOp)
  | atomicAdd (q : Fin 32) (op : AtomicOp)
  | localisation (t : Nat) (a : Fin 8)
  | localisationVerdict (t : Nat) (a : Fin 8) (v : Verdict)
  -- 08_jobs_partitions_capacity
  | job (t : Nat) (q : Fin 32) (desc : Bytes) (body : ImageBody)
  | slotBoundary (t : Nat)
  | shareExhausted (a : Fin 8)
  | waypoint (t : Nat) (q : Fin 32)
  | contextSaveDone (t : Nat) (q : Fin 32)
  | contextRestoreDone (t : Nat) (q : Fin 32)
  | waypointTimeout (q : Fin 32)
  | jobEnd (t : Nat) (q : Fin 32)
  | completionRecord (t : Nat) (q : Fin 32)
  | carryLimit (q : Fin 32)
  | queueAbort (r : Req) (q : Fin 32)
  | checkTile (t : Nat) (a : Fin 8)
  | checkTileResult (t : Nat) (a : Fin 8) (signatureOk : Bool) (mismatchSeen : Bool)
  -- 09_memory_translation
  | scrubRead (t : Nat) (place : EccPlace) (found : EccEvent)
  | tlbInvalidate (r : Req)
  | tlbInvalidateDone (t : Nat)
  | tfResolveRetry (via : ResolveVia) (q : Fin 32)
  | tfResolveAbort (via : ResolveVia) (q : Fin 32)
  | tfParkTimeout (q : Fin 32)
  -- 10_fabric_ordering_replay
  | fabricWrite (t : Nat) (p : Packet)
  | fabricWriteAck (t : Nat) (p : Packet) (ofBulk : Bool) (ofChannel : Nat)
  | fabricReadReq (t : Nat) (p : Packet)
  | fabricReadData (t : Nat) (p : Packet) (ofBulk : Bool) (ofChannel : Nat)
  | fabricAtomicAdd (t : Nat) (p : Packet) (elem : GwElem)
  | sweep (t : Nat) (p : Packet)
  | sweepDone (t : Nat) (p : Packet)
  | refuse (t : Nat) (p : Packet) (ofBulk : Bool) (ofChannel : Nat)
  | ackTimeout (t : Nat) (src : Fin 24) (dst : Fin 24) (bulk : Bool) (channel : Nat) (seq : Nat)
  | channelReset (t : Nat) (p : Packet) (ofBulk : Bool) (ofChannel : Nat)
  | resetDone (t : Nat) (p : Packet) (ofBulk : Bool) (ofChannel : Nat)
  -- 11_host_link
  | copy (q : Fin 32) (op : CopyOp)
  | fence (t : Nat) (q : Fin 32) (desc : Bytes)
  | sqTail (t : Nat) (q : Fin 32) (value : Nat)
  | cqHead (t : Nat) (q : Fin 32) (value : Nat)
  | ringEnable (t : Nat) (q : Fin 32) (register : RingRegister) (high : Bool) (value : Nat)
  | ringDisable (t : Nat) (q : Fin 32)
  | resume (t : Nat) (q : Fin 32)
  | tlbInvHi (t : Nat) (value : Nat)
  | tlbInvLo (t : Nat) (value : Nat)
  | counterLowRead (t : Nat) (offset : Nat)
  | mirrorPreset (t : Nat) (slot : Fin 64) (high : Bool) (value : Nat)
  | placementWrite (t : Nat) (requester : Nat) (offset : Nat) (data : Bytes)
  | placementSignal (t : Nat) (requester : Nat) (entry : Fin 16) (data : Bytes)
  | windowBRead (t : Nat) (offset : Nat)
  | hostReadCompletion (t : Nat) (engine : Fin 8) (tag : Nat) (data : Bytes)
  | lossOfBusMasterEnable (t : Nat)
  | functionLevelReset (t : Nat)
  | pcieLinkDown (t : Nat)
  | crReqTail (t : Nat) (value : Nat)
  | crRspHead (t : Nat) (value : Nat)
  | controlRingEnable (t : Nat) (register : RingRegister) (high : Bool) (value : Nat)
  | mailboxBufferWrite (t : Nat) (spi : Bool) (m : Fin 8) (offset : Nat) (data : Bytes)
  | inLen (t : Nat) (spi : Bool) (m : Fin 8) (value : Nat)
  | mailboxTake (t : Nat) (m : Fin 8)
  | mailboxOutWrite (t : Nat) (m : Fin 8)
  | outAck (t : Nat) (spi : Bool) (m : Fin 8)
  | overrunClear (t : Nat) (spi : Bool) (m : Fin 8)
  | spiRead (t : Nat) (addr : Nat) (len : Nat)
  | spiWrite (t : Nat) (addr : Nat) (data : Bytes)
  | spiStatus (t : Nat)
  | keyAck (t : Nat) (m : Fin 8) (payload : Bytes)
  | touchAck (t : Nat) (m : Fin 8) (payload : Bytes)
  -- 12_safety_mechanisms, 13_assumptions_and_fault_records
  | sequencerMismatch (t : Nat) (a : Fin 8)
  | dispatcherMismatch (t : Nat)
  | clockFault (t : Nat) (d : Domain)
  | voltageFault (t : Nat) (r : Rail)
  | binnacleLockstepMismatch (t : Nat)
  | binnacleWatchdog (t : Nat)
  | binnacleStart (t : Nat)
  | logbookCommit (t : Nat)
  | persistCopy (t : Nat)
  | faultAck (r : Req)
  | arrayFaultClear (r : Req)
  | safetyMsgPeriodic
  | safetyMsgTransmit (t : Nat)
  | logbookClear (r : Req)
  | readSelectorWrite (r : Req) (persist : Bool)
  | logbookExport (p : Pdu)
  -- 14_keys_encoders
  | keyActivity (t : Nat)
  | keyScan (t : Nat) (pressed : List Nat)
  | buttonSample (t : Nat) (levels : Nat)
  | encoderStep (t : Nat) (e : Fin 8) (a : Bool) (b : Bool)
  | encoderReport (e : Fin 8)
  | eventAck (r : Req)
  | keyLock (r : Req)
  | lockEntry (t : Nat)
  | keyUnlock (r : Req)
  | unlockTimeout
  | keyEnableMask (p : Pdu)
  -- 15_touch
  | panelEnable (r : Req) (p : Fin 4)
  | touchFrameStart (t : Nat) (p : Fin 4)
  | touchFrameEnd (p : Fin 4) (f : TouchFrame)
  | dsyncEdge (t : Nat) (input : Fin 4) (falling : Bool)
  | dsyncTimeout (t : Nat) (p : Fin 4)
  | selfTest (r : Req)
  | selfTestDone (p : Fin 4) (f : TouchFrame) (selfCounts : List Nat)
  | reportAck (r : Req) (p : Fin 4)
  -- 16_platform_management
  | seqRun (r : Req)
  | seqAbort (r : Req)
  | enableOn
  | enableOff
  | waitPgHigh
  | waitPgLow
  | delay
  | delayExpiry
  | requirePgHigh
  | requirePgLow
  | seqEnd
  | waitTimeout
  | pgChange (t : Nat) (line : Fin 32) (pinHigh : Bool)
  | thermalSample (t : Nat) (readings : List TempReading)
  | tripClear (r : Req)
  | fanTachUpdate (t : Nat) (f : Fin 2) (pulses : Nat)
  | vsupSample (t : Nat) (code : Nat)
  | batteryPoll (t : Nat) (words : Option BattWords)
  | platPendingClear (r : Req)
  -- 17_power_reset_startup
  | powerCmd (r : Req)
  | standbyToReady (t : Nat) (channelMib : List Nat) (trained : Bool)
  | readyToRun (t : Nat) (switchFail : Nat) (tileFail : Nat)
  | runToReady (t : Nat)
  | readyToStandby (t : Nat)
  | standbyToDormant (t : Nat)
  | dormantToStandby (rtcTicks : Nat)
  | wakeN (t : Nat) (lowFor : Nat)
  | canWakeFrame (t : Nat) (canId : Nat)
  | powerOnReset
  | resetN (t : Nat) (lowFor : Nat)
  | warmReset (r : Req)
  | ctlReset (r : Req)
  | controllerWatchdog (t : Nat)
  | bootComplete (t : Nat) (directoryA : Bytes) (directoryB : Bytes) (images : List FlashRun)
  | debugResponse (via : DebugVia)
  | debugLock (r : Req)
  | touchRefMapWrite (p : Pdu)
  | persistClear (r : Req)
  | securityVersionRaise (p : Pdu)
  -- rows of a later reading of the source
  | pinEventUnqualified (t : Nat) (pulse : PinPulse)
  | audioWordClockEdge (t : Nat) (tdm : Bool) (unit : Fin 2) (samples : List Nat) (fill : Nat)
  | camTrigPulseEnd (n : Fin 8)
  | pcieLinkUp (t : Nat) (speed : Nat) (width : Nat)
  | memorySpaceEnable (t : Nat) (c : ConfigAccess)
  | busMasterEnableSet (t : Nat)
  | msixVectorUnmask (t : Nat) (w : RegisterWrite)
  | pcieFunctionReady (t : Nat)
  | clockFaultCleared (t : Nat) (d : Domain)
  | voltageFaultCleared (t : Nat) (r : Rail)
  deriving DecidableEq, Repr

end Sys2Proof
end

