-- ==== Sys2Proof/Decode.lean ====
section
/-! DEFINITION. Decode: the command that a word spells by the bits of spec/opcode_table.json. No row of
this block's table gives bits, so no word spells a command: commands reach the block as structured
requests, whose fields the rows' rules give. -/

namespace Sys2Proof

/-- One row of the table that gives bits: its length, the bits it fixes and the command. -/
structure WordRow where
  nbits : Nat
  mask : Nat
  pattern : Nat
  cmd : Instr
  deriving DecidableEq, Repr

/-- The rows of spec/opcode_table.json that give bits: none. -/
def wordRows : List WordRow := []

/-- The command that a word of `nbits` bits spells. -/
def decodeTableWord (nbits w : Nat) : Option Instr :=
  (wordRows.find? (fun r => r.nbits == nbits && Nat.land w r.mask == r.pattern)).map (fun r => r.cmd)

end Sys2Proof
end

