-- ==== Sys2Proof/Machine/Crc.lean ====
section
/-! DEFINITION. Machine/Crc: the CRC-32C of R95 (polynomial 0x1EDC_6F41, reflected input and output,
initial value and final exclusive-or 0xFFFF_FFFF) and a general reflected or plain bitwise step. -/

namespace Sys2Proof.Machine

/-- Eight steps of the reflected CRC-32C register. -/
def crcStep8 : Nat → Nat → Nat
  | 0, r => r
  | k + 1, r => crcStep8 k (if r % 2 == 1 then Nat.xor (r / 2) 0x82F63B78 else r / 2)

/-- The CRC-32C register after a byte string. -/
def crcFeed (r : Nat) : Bytes → Nat
  | [] => r
  | b :: bs => crcFeed (crcStep8 8 (Nat.xor r b.toNat)) bs

/-- CRC-32C of a byte string (R95). -/
def crc32c (bs : Bytes) : Nat := Nat.xor (crcFeed 0xFFFFFFFF bs) 0xFFFFFFFF

end Sys2Proof.Machine
end

