-- ==== Sys2Proof/Machine/Address.lean ====
section
/-! DEFINITION. Machine/Address: the object addresses of the dictionary (R56: index times 256 plus
subindex), under the names the spec gives them. A family of objects takes its instance number `n`
(counted from 0 at the first index of the family), a run of like subindices its offset `k`. -/

namespace Sys2Proof.Machine


/-! Objects of R31. -/

def Adr.deviceTime : Nat := 0x080001
def Adr.timeSource : Nat := 0x080002
def Adr.gptpDomain : Nat := 0x080003
def Adr.gptpStatus : Nat := 0x080004
def Adr.gptpOffset : Nat := 0x080005
def Adr.rateAdjust : Nat := 0x080006
def Adr.tickPeriod : Nat := 0x081001
def Adr.fixSource : Nat := 0x081002
def Adr.fixQual : Nat := 0x081003
def Adr.captureWindow : Nat := 0x081004
def Adr.slewLimit : Nat := 0x081005
def Adr.fixOffset : Nat := 0x081006
def Adr.fixGptpEpoch : Nat := 0x081007
def Adr.phaseGuard : Nat := 0x081008
def Adr.dispatchGuard : Nat := 0x081009
def Adr.hkMargin : Nat := 0x08100A
def Adr.tickCtrl : Nat := 0x08100B
def Adr.realign : Nat := 0x08100C
def Adr.pMin : Nat := 0x081101
def Adr.usable : Nat := 0x081102
def Adr.slotLength : Nat := 0x081103
def Adr.tickNumber : Nat := 0x082001
def Adr.genState : Nat := 0x082002
def Adr.missCount : Nat := 0x082003
def Adr.fixAccepted : Nat := 0x083001
def Adr.fixClamped : Nat := 0x083002
def Adr.fixMissed : Nat := 0x083003
def Adr.fixRejected : Nat := 0x083004
def Adr.fixIgnored : Nat := 0x083005
def Adr.drEntries : Nat := 0x083006
def Adr.camTrigEnable (n : Nat) : Nat := (0x0840 + n) * 256 + 0x01
def Adr.camTrigOffset (n : Nat) : Nat := (0x0840 + n) * 256 + 0x02
def Adr.camTrigWidth (n : Nat) : Nat := (0x0840 + n) * 256 + 0x03
def Adr.camTrigPolarity (n : Nat) : Nat := (0x0840 + n) * 256 + 0x04
def Adr.camTrigDivide (n : Nat) : Nat := (0x0840 + n) * 256 + 0x05
def Adr.camTrigPhase (n : Nat) : Nat := (0x0840 + n) * 256 + 0x06
def Adr.hostAddr : Nat := 0x086001
def Adr.ringEntries : Nat := 0x086002
def Adr.snapshotList (k : Nat) : Nat := 0x086101 + k
def Adr.lastReport : Nat := 0x088001

/-! Objects of R54. -/

def Adr.ownerState : Nat := 0x020001
def Adr.ownerPort : Nat := 0x020002
def Adr.ownerNonce : Nat := 0x020003
def Adr.leaseRemaining : Nat := 0x020004
def Adr.handoverSuccessor : Nat := 0x020005
def Adr.handoverDeadline : Nat := 0x020006
def Adr.vacancyCause : Nat := 0x020007
def Adr.leaseTicks : Nat := 0x020101
def Adr.claimWindow : Nat := 0x020102
def Adr.segTimeout : Nat := 0x020103
def Adr.claimRankC : Nat := 0x020201
def Adr.claimRankH : Nat := 0x020202
def Adr.claimRankE : Nat := 0x020203
def Adr.claimRankS : Nat := 0x020204
def Adr.notifyMaskC : Nat := 0x020301
def Adr.notifyMaskH : Nat := 0x020302
def Adr.notifyMaskE : Nat := 0x020303
def Adr.notifyMaskS : Nat := 0x020304
def Adr.canNodeId : Nat := 0x021001
def Adr.canReqBase : Nat := 0x021002
def Adr.canRspBase : Nat := 0x021003
def Adr.canNominalRate : Nat := 0x021004
def Adr.canDataRate : Nat := 0x021005
def Adr.portEMac : Nat := 0x021401
def Adr.plcaNodeId : Nat := 0x021402
def Adr.plcaNodeCount : Nat := 0x021403
def Adr.requests (n : Nat) : Nat := (0x0221 + n) * 256 + 0x01
def Adr.aborts (n : Nat) : Nat := (0x0221 + n) * 256 + 0x02
def Adr.droppedMalformed (n : Nat) : Nat := (0x0221 + n) * 256 + 0x03
def Adr.transfersDiscarded (n : Nat) : Nat := (0x0221 + n) * 256 + 0x04

/-! Objects of R74. -/

def Adr.vendorId : Nat := 0x010001
def Adr.deviceId : Nat := 0x010002
def Adr.stepping : Nat := 0x010003
def Adr.serialNumber : Nat := 0x010004
def Adr.productName : Nat := 0x010005
def Adr.microcodeVersion : Nat := 0x010006
def Adr.binnacleFwVersion : Nat := 0x010007
def Adr.controllerFwVersion : Nat := 0x010008
def Adr.dictionaryVersion : Nat := 0x010009

/-! Objects of R75. -/

def Adr.arrays : Nat := 0x011001
def Adr.arrayMask : Nat := 0x011002
def Adr.operandStoreKib : Nat := 0x011003
def Adr.streamSlots : Nat := 0x011004
def Adr.memChannels : Nat := 0x011005
def Adr.chartStoreKib : Nat := 0x011006
def Adr.ethPorts : Nat := 0x011007
def Adr.touchPanels : Nat := 0x011008
def Adr.touchDriveLines : Nat := 0x011009
def Adr.touchSenseChannels : Nat := 0x01100A
def Adr.formats : Nat := 0x01100B
def Adr.training : Nat := 0x01100C
def Adr.csiReceivers : Nat := 0x01100D
def Adr.tdmPorts : Nat := 0x01100E
def Adr.pdmPairs : Nat := 0x01100F
def Adr.i2cControllers : Nat := 0x011010
def Adr.fusionSets : Nat := 0x011011
def Adr.jobQueues : Nat := 0x011012
def Adr.partitions : Nat := 0x011013
def Adr.copyEngines : Nat := 0x011014
def Adr.msixVectors : Nat := 0x011015
def Adr.canFdControllers : Nat := 0x011016
def Adr.t1sPorts : Nat := 0x011017
def Adr.memCapacityMib : Nat := 0x011018

/-! Objects of R78. -/

def Adr.almanacNative : Nat := 0x012001
def Adr.almanacSetCount : Nat := 0x012002
def Adr.almanacSelect : Nat := 0x012003
def Adr.almanacEffective : Nat := 0x012004
def Adr.almanacSetEntry (k : Nat) : Nat := 0x012101 + k
def Adr.stagedCount : Nat := 0x018001
def Adr.stagedList : Nat := 0x018002
def Adr.objectDirectory : Nat := 0x019101
def Adr.store : Nat := 0x030001
def Adr.restore : Nat := 0x030002
def Adr.restoreFactory : Nat := 0x030003
def Adr.nvmStatus : Nat := 0x030004
def Adr.nvmFirstDefaulted : Nat := 0x030005
def Adr.storeCount : Nat := 0x030006

/-! Objects of R108. -/

def Adr.enable (n : Nat) : Nat := (0x1000 + 8 * n) * 256 + 0x01
def Adr.sourceKind (n : Nat) : Nat := (0x1000 + 8 * n) * 256 + 0x02
def Adr.sourceUnit (n : Nat) : Nat := (0x1000 + 8 * n) * 256 + 0x03
def Adr.vc (n : Nat) : Nat := (0x1000 + 8 * n) * 256 + 0x04
def Adr.dataType (n : Nat) : Nat := (0x1000 + 8 * n) * 256 + 0x05
def Adr.width (n : Nat) : Nat := (0x1000 + 8 * n) * 256 + 0x06
def Adr.height (n : Nat) : Nat := (0x1000 + 8 * n) * 256 + 0x07
def Adr.priority (n : Nat) : Nat := (0x1000 + 8 * n) * 256 + 0x08
def Adr.guaranteed (n : Nat) : Nat := (0x1000 + 8 * n) * 256 + 0x09
def Adr.guaranteedBytes (n : Nat) : Nat := (0x1000 + 8 * n) * 256 + 0x0A
def Adr.frameTimeout (n : Nat) : Nat := (0x1000 + 8 * n) * 256 + 0x0B
def Adr.tsAdjust (n : Nat) : Nat := (0x1000 + 8 * n) * 256 + 0x0C
def Adr.ringAddr (n : Nat) : Nat := (0x1001 + 8 * n) * 256 + 0x01
def Adr.ringBuffers (n : Nat) : Nat := (0x1001 + 8 * n) * 256 + 0x02
def Adr.bufferBytes (n : Nat) : Nat := (0x1001 + 8 * n) * 256 + 0x03
def Adr.metaBytes (n : Nat) : Nat := (0x1001 + 8 * n) * 256 + 0x04
def Adr.ringMode (n : Nat) : Nat := (0x1001 + 8 * n) * 256 + 0x05
def Adr.partition (n : Nat) : Nat := (0x1001 + 8 * n) * 256 + 0x06
def Adr.release (n : Nat) : Nat := (0x1001 + 8 * n) * 256 + 0x07
def Adr.bufferStates (n : Nat) : Nat := (0x1001 + 8 * n) * 256 + 0x08
def Adr.acquire (n : Nat) : Nat := (0x1001 + 8 * n) * 256 + 0x09
def Adr.flowEthertype (n : Nat) : Nat := (0x1002 + 8 * n) * 256 + 0x01
def Adr.flowVlan (n : Nat) : Nat := (0x1002 + 8 * n) * 256 + 0x02
def Adr.flowUdpPort (n : Nat) : Nat := (0x1002 + 8 * n) * 256 + 0x03
def Adr.payloadSkip (n : Nat) : Nat := (0x1002 + 8 * n) * 256 + 0x04
def Adr.frameRule (n : Nat) : Nat := (0x1002 + 8 * n) * 256 + 0x05
def Adr.markerOffset (n : Nat) : Nat := (0x1002 + 8 * n) * 256 + 0x06
def Adr.audioChannelMask (n : Nat) : Nat := (0x1002 + 8 * n) * 256 + 0x07
def Adr.audioRate (n : Nat) : Nat := (0x1002 + 8 * n) * 256 + 0x08
def Adr.i2cController (n : Nat) : Nat := (0x1004 + 8 * n) * 256 + 0x01
def Adr.pipelineDepth (n : Nat) : Nat := (0x1004 + 8 * n) * 256 + 0x02
def Adr.settingsSource (n : Nat) : Nat := (0x1004 + 8 * n) * 256 + 0x03
def Adr.settings (n : Nat) : Nat := (0x1004 + 8 * n) * 256 + 0x04
def Adr.settingsTableAddr (n : Nat) : Nat := (0x1004 + 8 * n) * 256 + 0x05
def Adr.epoch (n : Nat) : Nat := (0x1004 + 8 * n) * 256 + 0x06
def Adr.epochFrame (n : Nat) : Nat := (0x1004 + 8 * n) * 256 + 0x07
def Adr.statsEnable (n : Nat) : Nat := (0x1005 + 8 * n) * 256 + 0x01
def Adr.statsChannel (n : Nat) : Nat := (0x1005 + 8 * n) * 256 + 0x02
def Adr.statsAddr (n : Nat) : Nat := (0x1005 + 8 * n) * 256 + 0x03
def Adr.statsEntries (n : Nat) : Nat := (0x1005 + 8 * n) * 256 + 0x04
def Adr.frameCounter (n : Nat) : Nat := (0x1006 + 8 * n) * 256 + 0x01
def Adr.framesDelivered (n : Nat) : Nat := (0x1006 + 8 * n) * 256 + 0x02
def Adr.droppedFrames (n : Nat) : Nat := (0x1006 + 8 * n) * 256 + 0x03
def Adr.dropNoBuffer (n : Nat) : Nat := (0x1006 + 8 * n) * 256 + 0x04
def Adr.dropBandwidth (n : Nat) : Nat := (0x1006 + 8 * n) * 256 + 0x05
def Adr.dropOverwritten (n : Nat) : Nat := (0x1006 + 8 * n) * 256 + 0x06
def Adr.linkErrors (n : Nat) : Nat := (0x1006 + 8 * n) * 256 + 0x07
def Adr.truncatedFrames (n : Nat) : Nat := (0x1006 + 8 * n) * 256 + 0x08
def Adr.commitLate (n : Nat) : Nat := (0x1006 + 8 * n) * 256 + 0x09
def Adr.commitFailed (n : Nat) : Nat := (0x1006 + 8 * n) * 256 + 0x0A
def Adr.overGuarantee (n : Nat) : Nat := (0x1006 + 8 * n) * 256 + 0x0B
def Adr.dropMemoryError (n : Nat) : Nat := (0x1006 + 8 * n) * 256 + 0x0C
def Adr.lastHeader (n : Nat) : Nat := (0x1007 + 8 * n) * 256 + 0x01

/-! Objects of R109. -/

def Adr.fusionEnable (n : Nat) : Nat := (0x1400 + n) * 256 + 0x01
def Adr.members (n : Nat) : Nat := (0x1400 + n) * 256 + 0x02
def Adr.requiredMask (n : Nat) : Nat := (0x1400 + n) * 256 + 0x03
def Adr.targetOffset (n : Nat) : Nat := (0x1400 + n) * 256 + 0x04
def Adr.tolerance (n : Nat) : Nat := (0x1400 + n) * 256 + 0x05
def Adr.recordAddr (n : Nat) : Nat := (0x1400 + n) * 256 + 0x06
def Adr.recordEntries (n : Nat) : Nat := (0x1400 + n) * 256 + 0x07
def Adr.setsComplete (n : Nat) : Nat := (0x1400 + n) * 256 + 0x08
def Adr.setsIncomplete (n : Nat) : Nat := (0x1400 + n) * 256 + 0x09
def Adr.commitOffset : Nat := 0x144001
def Adr.commitLength : Nat := 0x144002
def Adr.i2cRate (n : Nat) : Nat := (0x1448 + n) * 256 + 0x01
def Adr.i2cNacks (n : Nat) : Nat := (0x1448 + n) * 256 + 0x02
def Adr.phyMode (n : Nat) : Nat := (0x1460 + n) * 256 + 0x01
def Adr.lanes (n : Nat) : Nat := (0x1460 + n) * 256 + 0x02
def Adr.laneRate (n : Nat) : Nat := (0x1460 + n) * 256 + 0x03
def Adr.eccCorrected (n : Nat) : Nat := (0x1460 + n) * 256 + 0x04
def Adr.packetErrors (n : Nat) : Nat := (0x1460 + n) * 256 + 0x05
def Adr.csiUnmatched (n : Nat) : Nat := (0x1460 + n) * 256 + 0x06
def Adr.fcsErrors (n : Nat) : Nat := (0x1470 + n) * 256 + 0x01
def Adr.ethUnmatched (n : Nat) : Nat := (0x1470 + n) * 256 + 0x02
def Adr.tdmRate (n : Nat) : Nat := (0x1474 + n) * 256 + 0x01
def Adr.ingestCapacity : Nat := 0x147F01
def Adr.guaranteedSum : Nat := 0x147F02

/-! Objects of R123. -/

def Adr.shapeEnable (n : Nat) : Nat := (0x1800 + 8 * n) * 256 + 0x01
def Adr.shapeSlot (n : Nat) : Nat := (0x1800 + 8 * n) * 256 + 0x02
def Adr.demosaic (n : Nat) : Nat := (0x1800 + 8 * n) * 256 + 0x03
def Adr.cfaPhase (n : Nat) : Nat := (0x1800 + 8 * n) * 256 + 0x04
def Adr.blackLevel (n : Nat) : Nat := (0x1800 + 8 * n) * 256 + 0x05
def Adr.ccm (n : Nat) : Nat := (0x1800 + 8 * n) * 256 + 0x06
def Adr.ccmOffset (n : Nat) : Nat := (0x1800 + 8 * n) * 256 + 0x07
def Adr.mean (n : Nat) : Nat := (0x1800 + 8 * n) * 256 + 0x08
def Adr.scale (n : Nat) : Nat := (0x1800 + 8 * n) * 256 + 0x09
def Adr.zeroPoint (n : Nat) : Nat := (0x1800 + 8 * n) * 256 + 0x0A
def Adr.outFormat (n : Nat) : Nat := (0x1801 + 8 * n) * 256 + 0x01
def Adr.layout (n : Nat) : Nat := (0x1801 + 8 * n) * 256 + 0x02
def Adr.channelOrder (n : Nat) : Nat := (0x1801 + 8 * n) * 256 + 0x03
def Adr.roiSource (n : Nat) : Nat := (0x1802 + 8 * n) * 256 + 0x01
def Adr.roiTableAddr (n : Nat) : Nat := (0x1802 + 8 * n) * 256 + 0x02
def Adr.roiStatic (n : Nat) : Nat := (0x1802 + 8 * n) * 256 + 0x03
def Adr.roiMaxCount (n : Nat) : Nat := (0x1802 + 8 * n) * 256 + 0x04
def Adr.roiOutMaxW (n : Nat) : Nat := (0x1802 + 8 * n) * 256 + 0x05
def Adr.roiOutMaxH (n : Nat) : Nat := (0x1802 + 8 * n) * 256 + 0x06
def Adr.pyrLevels (n : Nat) : Nat := (0x1803 + 8 * n) * 256 + 0x01
def Adr.pyrMode (n : Nat) : Nat := (0x1803 + 8 * n) * 256 + 0x02
def Adr.pyrBaseW (n : Nat) : Nat := (0x1803 + 8 * n) * 256 + 0x03
def Adr.pyrBaseH (n : Nat) : Nat := (0x1803 + 8 * n) * 256 + 0x04
def Adr.shapedAddr (n : Nat) : Nat := (0x1804 + 8 * n) * 256 + 0x01
def Adr.shapedBytes (n : Nat) : Nat := (0x1804 + 8 * n) * 256 + 0x02
def Adr.shapedMeta (n : Nat) : Nat := (0x1804 + 8 * n) * 256 + 0x03
def Adr.shapedRequired (n : Nat) : Nat := (0x1804 + 8 * n) * 256 + 0x04
def Adr.framesShaped (n : Nat) : Nat := (0x1805 + 8 * n) * 256 + 0x01
def Adr.shapeOverruns (n : Nat) : Nat := (0x1805 + 8 * n) * 256 + 0x02
def Adr.roiStale (n : Nat) : Nat := (0x1805 + 8 * n) * 256 + 0x03
def Adr.roiInvalid (n : Nat) : Nat := (0x1805 + 8 * n) * 256 + 0x04
def Adr.shapeContexts : Nat := 0x188001
def Adr.shapeCapacity : Nat := 0x188002

/-! Objects of R140. -/

def Adr.roundingProfileNative : Nat := 0x20C001
def Adr.roundingProfileEffective : Nat := 0x20C002
def Adr.rescaleSaturated (n : Nat) : Nat := (0x20C1 + n) * 256 + 0x01
def Adr.fpSaturated (n : Nat) : Nat := (0x20C1 + n) * 256 + 0x02
def Adr.nanOut (n : Nat) : Nat := (0x20C1 + n) * 256 + 0x03

/-! Objects of R163. -/

def Adr.arrayEnable : Nat := 0x200001
def Adr.arrayPowered : Nat := 0x200002
def Adr.checkRelBoundDefault : Nat := 0x200003
def Adr.arrayState (n : Nat) : Nat := (0x2008 + n) * 256 + 0x01
def Adr.gatingUnit (n : Nat) : Nat := (0x2008 + n) * 256 + 0x02
def Adr.passes (n : Nat) : Nat := (0x2010 + n) * 256 + 0x01
def Adr.vectors (n : Nat) : Nat := (0x2010 + n) * 256 + 0x02
def Adr.activeCellCycles (n : Nat) : Nat := (0x2010 + n) * 256 + 0x03
def Adr.gatedCellCycles (n : Nat) : Nat := (0x2010 + n) * 256 + 0x04
def Adr.swapsBank (n : Nat) : Nat := (0x2010 + n) * 256 + 0x05
def Adr.swapsFront (n : Nat) : Nat := (0x2010 + n) * 256 + 0x06
def Adr.frontStallCycles (n : Nat) : Nat := (0x2010 + n) * 256 + 0x07
def Adr.operandStallCycles (n : Nat) : Nat := (0x2010 + n) * 256 + 0x08
def Adr.checkMismatches (n : Nat) : Nat := (0x2010 + n) * 256 + 0x09
def Adr.checkSkipped (n : Nat) : Nat := (0x2010 + n) * 256 + 0x0A
def Adr.gwGatherBytes : Nat := 0x208001
def Adr.gwReducedElements : Nat := 0x208002
def Adr.gwAtomicAdds : Nat := 0x208003
def Adr.gwIndexRange : Nat := 0x208004

/-! Objects of R185. -/

def Adr.partEnable (n : Nat) : Nat := (0x2400 + n) * 256 + 0x01
def Adr.guaranteeUs (n : Nat) : Nat := (0x2400 + n) * 256 + 0x02
def Adr.bwCredits (n : Nat) : Nat := (0x2400 + n) * 256 + 0x03
def Adr.carryLimit (n : Nat) : Nat := (0x2400 + n) * 256 + 0x04
def Adr.carryLimitEffective (n : Nat) : Nat := (0x2400 + n) * 256 + 0x05
def Adr.bwCapacity : Nat := 0x240401
def Adr.preemptLatencyMax : Nat := 0x240402
def Adr.waypointTimeout : Nat := 0x240403
def Adr.slotTable (n : Nat) : Nat := (0x2410 + n) * 256 + 0x01
def Adr.arrayOwner (n : Nat) : Nat := (0x2410 + n) * 256 + 0x02
def Adr.slotTableEffective (n : Nat) : Nat := (0x2410 + n) * 256 + 0x03
def Adr.queueEnable (n : Nat) : Nat := (0x2420 + 2 * n) * 256 + 0x01
def Adr.queuePartition (n : Nat) : Nat := (0x2420 + 2 * n) * 256 + 0x02
def Adr.queuePriority (n : Nat) : Nat := (0x2420 + 2 * n) * 256 + 0x03
def Adr.queueArrays (n : Nat) : Nat := (0x2420 + 2 * n) * 256 + 0x04
def Adr.queueDepth (n : Nat) : Nat := (0x2420 + 2 * n) * 256 + 0x05
def Adr.queueMode (n : Nat) : Nat := (0x2420 + 2 * n) * 256 + 0x06
def Adr.contextAddr (n : Nat) : Nat := (0x2420 + 2 * n) * 256 + 0x07
def Adr.queueState (n : Nat) : Nat := (0x2420 + 2 * n) * 256 + 0x08
def Adr.queueAbort (n : Nat) : Nat := (0x2421 + 2 * n) * 256 + 0x01
def Adr.standingImageAddr (n : Nat) : Nat := (0x2421 + 2 * n) * 256 + 0x02
def Adr.standingRecordAddr (n : Nat) : Nat := (0x2421 + 2 * n) * 256 + 0x03
def Adr.standingInputSet (n : Nat) : Nat := (0x2421 + 2 * n) * 256 + 0x04
def Adr.standingParamAddr (n : Nat) : Nat := (0x2421 + 2 * n) * 256 + 0x05
def Adr.jobsEnded (n : Nat) : Nat := (0x2460 + n) * 256 + 0x01
def Adr.carries (n : Nat) : Nat := (0x2460 + n) * 256 + 0x02
def Adr.preemptions (n : Nat) : Nat := (0x2460 + n) * 256 + 0x03
def Adr.borrowedNsTotal (n : Nat) : Nat := (0x2460 + n) * 256 + 0x04
def Adr.bwExhaustedTicks (n : Nat) : Nat := (0x2460 + n) * 256 + 0x05
def Adr.waypointsOverdue (n : Nat) : Nat := (0x2460 + n) * 256 + 0x06

/-! Objects of R211. -/

def Adr.chartBase : Nat := 0x280001
def Adr.hostWindowBase : Nat := 0x280002
def Adr.scrubInterval : Nat := 0x280003
def Adr.tlbInvalidate : Nat := 0x280004
def Adr.regionTable (n : Nat) : Nat := (0x2808 + n) * 256 + 0x01
def Adr.regionEffective (n : Nat) : Nat := (0x2808 + n) * 256 + 0x02
def Adr.ptBase (n : Nat) : Nat := (0x2808 + n) * 256 + 0x03
def Adr.tfRingAddr (n : Nat) : Nat := (0x2808 + n) * 256 + 0x04
def Adr.tfRingEntries (n : Nat) : Nat := (0x2808 + n) * 256 + 0x05
def Adr.tfPending (n : Nat) : Nat := (0x2808 + n) * 256 + 0x06
def Adr.tfLast (n : Nat) : Nat := (0x2808 + n) * 256 + 0x07
def Adr.regionViolations (n : Nat) : Nat := (0x2810 + n) * 256 + 0x01
def Adr.translationFaults (n : Nat) : Nat := (0x2810 + n) * 256 + 0x02
def Adr.parks (n : Nat) : Nat := (0x2810 + n) * 256 + 0x03
def Adr.walks (n : Nat) : Nat := (0x2810 + n) * 256 + 0x04
def Adr.channelCeCorrected (n : Nat) : Nat := (0x2818 + n) * 256 + 0x01
def Adr.channelUeDetected (n : Nat) : Nat := (0x2818 + n) * 256 + 0x02
def Adr.channelScrubPasses (n : Nat) : Nat := (0x2818 + n) * 256 + 0x03
def Adr.chartCeCorrected : Nat := 0x281C01
def Adr.chartUeDetected : Nat := 0x281C02
def Adr.chartScrubPasses : Nat := 0x281C03
def Adr.operandCeCorrected (n : Nat) : Nat := (0x2820 + n) * 256 + 0x01
def Adr.operandUeDetected (n : Nat) : Nat := (0x2820 + n) * 256 + 0x02
def Adr.tfMode (n : Nat) : Nat := (0x2840 + n) * 256 + 0x01
def Adr.tfModeEffective (n : Nat) : Nat := (0x2840 + n) * 256 + 0x02
def Adr.tfResolve (n : Nat) : Nat := (0x2840 + n) * 256 + 0x03
def Adr.tfParkTimeout (n : Nat) : Nat := (0x2840 + n) * 256 + 0x04

/-! Objects of R227. -/

def Adr.ackTimeout : Nat := 0x2C0001
def Adr.resendLimit : Nat := 0x2C0002
def Adr.replayProfileNative : Nat := 0x2C0003
def Adr.replayProfileEffective : Nat := 0x2C0004
def Adr.almanacMiss : Nat := 0x2C0005
def Adr.almanacMissEntry : Nat := 0x2C0006
def Adr.closedNumberings : Nat := 0x2C0007
def Adr.replayJobs : Nat := 0x2C0101
def Adr.almanacRefusals : Nat := 0x2C0102
def Adr.replayRevalidationRefusals : Nat := 0x2C0103
def Adr.packetsSent (n : Nat) : Nat := (0x2C10 + n) * 256 + 0x01
def Adr.resends (n : Nat) : Nat := (0x2C10 + n) * 256 + 0x02
def Adr.crcRefused (n : Nat) : Nat := (0x2C10 + n) * 256 + 0x03
def Adr.ackTimeouts (n : Nat) : Nat := (0x2C10 + n) * 256 + 0x04
def Adr.duplicates (n : Nat) : Nat := (0x2C10 + n) * 256 + 0x05
def Adr.fabricFaults (n : Nat) : Nat := (0x2C10 + n) * 256 + 0x06
def Adr.sweeps (n : Nat) : Nat := (0x2C10 + n) * 256 + 0x07

/-! Objects of R252. -/

def Adr.placementTable : Nat := 0x300001
def Adr.linkStatus : Nat := 0x300002
def Adr.mirrorList (k : Nat) : Nat := 0x300101 + k
def Adr.queueCopyEngine (n : Nat) : Nat := (0x3040 + n) * 256 + 0x01
def Adr.placementBytes : Nat := 0x302001
def Adr.placementRefused : Nat := 0x302002
def Adr.placementSignals : Nat := 0x302003
def Adr.mirrorWritesIgnored : Nat := 0x302004
def Adr.lateCompletionsDiscarded : Nat := 0x302005
def Adr.placementSignalLast (n : Nat) : Nat := (0x3021 + n) * 256 + 0x01
def Adr.mbxSide (n : Nat) : Nat := (0x3400 + n) * 256 + 0x01
def Adr.mbxState (n : Nat) : Nat := (0x3400 + n) * 256 + 0x02
def Adr.mbxInMessages (n : Nat) : Nat := (0x3400 + n) * 256 + 0x03
def Adr.mbxOutMessages (n : Nat) : Nat := (0x3400 + n) * 256 + 0x04
def Adr.mbxWrongSide (n : Nat) : Nat := (0x3400 + n) * 256 + 0x05

/-! Objects of R273. -/

def Adr.safetyState : Nat := 0x400001
def Adr.faultLatchedMask : Nat := 0x400002
def Adr.faultAck : Nat := 0x400003
def Adr.checkTileTime : Nat := 0x400004
def Adr.localiseTime : Nat := 0x400005
def Adr.arrayFaultClear : Nat := 0x400006
def Adr.safetyCanController : Nat := 0x400101
def Adr.safetyMsgId : Nat := 0x400102
def Adr.safetyDataId : Nat := 0x400103
def Adr.safetyMsgOffset : Nat := 0x400104
def Adr.safetyMsgEnable : Nat := 0x400105
def Adr.safetyCanNominalRate : Nat := 0x400106
def Adr.safetyCanDataRate : Nat := 0x400107
def Adr.safetyOutput (k : Nat) : Nat := 0x400201 + k
def Adr.guardRaw (n : Nat) : Nat := (0x4020 + n) * 256 + 0x01
def Adr.localiseVerdict (n : Nat) : Nat := (0x4008 + n) * 256 + 0x01
def Adr.seqMismatches : Nat := 0x401001
def Adr.guardFails : Nat := 0x401002
def Adr.clockFaults : Nat := 0x401003
def Adr.voltageFaults : Nat := 0x401004
def Adr.deadlineFaults : Nat := 0x401005
def Adr.tickMonitorFaults : Nat := 0x401006
def Adr.safetyFaults : Nat := 0x401007
def Adr.loggedFaults : Nat := 0x401008
def Adr.safetyMsgSent : Nat := 0x401009
def Adr.safetyMsgReplaced : Nat := 0x40100A
def Adr.checkTileRuns (n : Nat) : Nat := (0x4018 + n) * 256 + 0x01
def Adr.checkTileFails (n : Nat) : Nat := (0x4018 + n) * 256 + 0x02
def Adr.checkTileMissed (n : Nat) : Nat := (0x4018 + n) * 256 + 0x03
def Adr.localisations (n : Nat) : Nat := (0x4018 + n) * 256 + 0x04

/-! Objects of R288. -/

def Adr.logbookCapacity : Nat := 0x440001
def Adr.logbookCount : Nat := 0x440002
def Adr.logbookFirstSeq : Nat := 0x440003
def Adr.logbookLastSeq : Nat := 0x440004
def Adr.logbookPolicy : Nat := 0x440005
def Adr.logbookExportedUpto : Nat := 0x440006
def Adr.logbookClear : Nat := 0x440007
def Adr.logbookReadSeq : Nat := 0x440008
def Adr.logbookRecord : Nat := 0x440009
def Adr.logbookExport : Nat := 0x44000A
def Adr.persistCapacity : Nat := 0x440101
def Adr.persistCount : Nat := 0x440102
def Adr.persistReadIndex : Nat := 0x440103
def Adr.persistRecord : Nat := 0x440104
def Adr.recordsWritten : Nat := 0x441001
def Adr.recordsOverwritten : Nat := 0x441002
def Adr.recordsDiscarded : Nat := 0x441003
def Adr.recordsSuppressed : Nat := 0x441004
def Adr.recordsDamaged : Nat := 0x441005
def Adr.persistWrites : Nat := 0x441006

/-! Objects of R307. -/

def Adr.keyColumns : Nat := 0x500001
def Adr.keyRows : Nat := 0x500002
def Adr.settleUs : Nat := 0x500003
def Adr.scanPeriodMs : Nat := 0x500004
def Adr.debounceScans : Nat := 0x500005
def Adr.scanAlign : Nat := 0x500006
def Adr.scanPhaseUs : Nat := 0x500007
def Adr.keyEnableMask : Nat := 0x500008
def Adr.keyState : Nat := 0x500009
def Adr.scanMode : Nat := 0x50000A
def Adr.btnEnable : Nat := 0x500401
def Adr.btnPolarity : Nat := 0x500402
def Adr.btnPeriodMs : Nat := 0x500403
def Adr.btnDebounce : Nat := 0x500404
def Adr.buttonState : Nat := 0x500405
def Adr.encEnable (n : Nat) : Nat := (0x5008 + n) * 256 + 0x01
def Adr.countsPerDetent (n : Nat) : Nat := (0x5008 + n) * 256 + 0x02
def Adr.encFilterUs (n : Nat) : Nat := (0x5008 + n) * 256 + 0x03
def Adr.encDirection (n : Nat) : Nat := (0x5008 + n) * 256 + 0x04
def Adr.encPosition (n : Nat) : Nat := (0x5008 + n) * 256 + 0x05
def Adr.encWrap (n : Nat) : Nat := (0x5008 + n) * 256 + 0x06
def Adr.encReportMs (n : Nat) : Nat := (0x5008 + n) * 256 + 0x07
def Adr.eventWindow : Nat := 0x501001
def Adr.eventCount : Nat := 0x501002
def Adr.eventAck : Nat := 0x501003
def Adr.eventNextSeq : Nat := 0x501004
def Adr.keyIrqEnable : Nat := 0x501005
def Adr.keyLock : Nat := 0x501401
def Adr.lockScope : Nat := 0x501402
def Adr.unlockSequence : Nat := 0x501403
def Adr.unlockTimeoutMs : Nat := 0x501404
def Adr.lockAtStart : Nat := 0x501405
def Adr.unlockProgress : Nat := 0x501406
def Adr.scans : Nat := 0x501801
def Adr.keyEvents : Nat := 0x501802
def Adr.eventsLost : Nat := 0x501803
def Adr.encErrors : Nat := 0x501804
def Adr.unlockFailures : Nat := 0x501805
def Adr.suppressedEvents : Nat := 0x501806

/-! Objects of R326. -/

def Adr.panelEnable (n : Nat) : Nat := (0x5400 + 16 * n) * 256 + 0x01
def Adr.driveFirst (n : Nat) : Nat := (0x5400 + 16 * n) * 256 + 0x02
def Adr.driveCount (n : Nat) : Nat := (0x5400 + 16 * n) * 256 + 0x03
def Adr.senseFirst (n : Nat) : Nat := (0x5400 + 16 * n) * 256 + 0x04
def Adr.senseCount (n : Nat) : Nat := (0x5400 + 16 * n) * 256 + 0x05
def Adr.xRes (n : Nat) : Nat := (0x5400 + 16 * n) * 256 + 0x06
def Adr.yRes (n : Nat) : Nat := (0x5400 + 16 * n) * 256 + 0x07
def Adr.axisFlags (n : Nat) : Nat := (0x5400 + 16 * n) * 256 + 0x08
def Adr.frameRate (n : Nat) : Nat := (0x5401 + 16 * n) * 256 + 0x01
def Adr.frameAlign (n : Nat) : Nat := (0x5401 + 16 * n) * 256 + 0x02
def Adr.frameAlignEffective (n : Nat) : Nat := (0x5401 + 16 * n) * 256 + 0x03
def Adr.framesPerTick (n : Nat) : Nat := (0x5401 + 16 * n) * 256 + 0x04
def Adr.touchPhaseUs (n : Nat) : Nat := (0x5401 + 16 * n) * 256 + 0x05
def Adr.burstCycles (n : Nat) : Nat := (0x5401 + 16 * n) * 256 + 0x06
def Adr.listenUs (n : Nat) : Nat := (0x5401 + 16 * n) * 256 + 0x07
def Adr.standbyRate (n : Nat) : Nat := (0x5401 + 16 * n) * 256 + 0x08
def Adr.noiseMode (n : Nat) : Nat := (0x5402 + 16 * n) * 256 + 0x01
def Adr.noiseModeEffective (n : Nat) : Nat := (0x5402 + 16 * n) * 256 + 0x02
def Adr.freqTable (n : Nat) : Nat := (0x5402 + 16 * n) * 256 + 0x03
def Adr.freqEnable (n : Nat) : Nat := (0x5402 + 16 * n) * 256 + 0x04
def Adr.freqIndex (n : Nat) : Nat := (0x5402 + 16 * n) * 256 + 0x05
def Adr.noiseLevels (n : Nat) : Nat := (0x5402 + 16 * n) * 256 + 0x06
def Adr.noiseThreshold (n : Nat) : Nat := (0x5402 + 16 * n) * 256 + 0x07
def Adr.noiseHyst (n : Nat) : Nat := (0x5402 + 16 * n) * 256 + 0x08
def Adr.noiseDwell (n : Nat) : Nat := (0x5402 + 16 * n) * 256 + 0x09
def Adr.dsyncInput (n : Nat) : Nat := (0x5402 + 16 * n) * 256 + 0x0A
def Adr.dsyncPolarity (n : Nat) : Nat := (0x5402 + 16 * n) * 256 + 0x0B
def Adr.quietDelayUs (n : Nat) : Nat := (0x5402 + 16 * n) * 256 + 0x0C
def Adr.quietUs (n : Nat) : Nat := (0x5402 + 16 * n) * 256 + 0x0D
def Adr.dsyncTimeoutMs (n : Nat) : Nat := (0x5402 + 16 * n) * 256 + 0x0E
def Adr.touchThreshold (n : Nat) : Nat := (0x5403 + 16 * n) * 256 + 0x01
def Adr.touchHyst (n : Nat) : Nat := (0x5403 + 16 * n) * 256 + 0x02
def Adr.touchDebounce (n : Nat) : Nat := (0x5403 + 16 * n) * 256 + 0x03
def Adr.liftDebounce (n : Nat) : Nat := (0x5403 + 16 * n) * 256 + 0x04
def Adr.trackMaxDist (n : Nat) : Nat := (0x5403 + 16 * n) * 256 + 0x05
def Adr.baselineInterval (n : Nat) : Nat := (0x5403 + 16 * n) * 256 + 0x06
def Adr.baselineStep (n : Nat) : Nat := (0x5403 + 16 * n) * 256 + 0x07
def Adr.negRecalFrames (n : Nat) : Nat := (0x5403 + 16 * n) * 256 + 0x08
def Adr.openLimitPct (n : Nat) : Nat := (0x5403 + 16 * n) * 256 + 0x09
def Adr.shortLimitPct (n : Nat) : Nat := (0x5403 + 16 * n) * 256 + 0x0A
def Adr.touchState (n : Nat) : Nat := (0x5404 + 16 * n) * 256 + 0x01
def Adr.mapStatus (n : Nat) : Nat := (0x5404 + 16 * n) * 256 + 0x02
def Adr.referenceMap (n : Nat) : Nat := (0x5404 + 16 * n) * 256 + 0x03
def Adr.selftestResult (n : Nat) : Nat := (0x5404 + 16 * n) * 256 + 0x04
def Adr.reportWindow (n : Nat) : Nat := (0x5404 + 16 * n) * 256 + 0x05
def Adr.reportCount (n : Nat) : Nat := (0x5404 + 16 * n) * 256 + 0x06
def Adr.reportAck (n : Nat) : Nat := (0x5404 + 16 * n) * 256 + 0x07
def Adr.reportNextSeq (n : Nat) : Nat := (0x5404 + 16 * n) * 256 + 0x08
def Adr.rawCounts (n : Nat) : Nat := (0x5404 + 16 * n) * 256 + 0x09
def Adr.deltaCounts (n : Nat) : Nat := (0x5404 + 16 * n) * 256 + 0x0A
def Adr.framesScanned (n : Nat) : Nat := (0x5405 + 16 * n) * 256 + 0x01
def Adr.framesSkipped (n : Nat) : Nat := (0x5405 + 16 * n) * 256 + 0x02
def Adr.reports (n : Nat) : Nat := (0x5405 + 16 * n) * 256 + 0x03
def Adr.reportsLost (n : Nat) : Nat := (0x5405 + 16 * n) * 256 + 0x04
def Adr.hops (n : Nat) : Nat := (0x5405 + 16 * n) * 256 + 0x05
def Adr.dsyncFallbacks (n : Nat) : Nat := (0x5405 + 16 * n) * 256 + 0x06
def Adr.contactsDiscarded (n : Nat) : Nat := (0x5405 + 16 * n) * 256 + 0x07
def Adr.negRecals (n : Nat) : Nat := (0x5405 + 16 * n) * 256 + 0x08
def Adr.selfTest : Nat := 0x548001
def Adr.touchIrqEnable : Nat := 0x548002

/-! Objects of R354. -/

def Adr.seqRun : Nat := 0x580001
def Adr.seqAbort : Nat := 0x580002
def Adr.seqActive : Nat := 0x580003
def Adr.seqStep : Nat := 0x580004
def Adr.enState : Nat := 0x580005
def Adr.pgState : Nat := 0x580006
def Adr.enPolarity : Nat := 0x580007
def Adr.pgPolarity : Nat := 0x580008
def Adr.pgFilterUs : Nat := 0x580009
def Adr.pgWatchMask : Nat := 0x58000A
def Adr.arrayRailEn : Nat := 0x58000B
def Adr.arrayRailPg : Nat := 0x58000C
def Adr.enPolarityEffective : Nat := 0x58000D
def Adr.seqName (n : Nat) : Nat := (0x5808 + n) * 256 + 0x01
def Adr.seqScript (n : Nat) : Nat := (0x5808 + n) * 256 + 0x02
def Adr.seqLastResult (n : Nat) : Nat := (0x5808 + n) * 256 + 0x03
def Adr.seqRuns : Nat := 0x582001
def Adr.seqFailures : Nat := 0x582002
def Adr.pgLosses : Nat := 0x582003
def Adr.platPortClasses (n : Nat) : Nat := (0x58F1 + n) * 256 + 0x01
def Adr.platIrqEnable : Nat := 0x58F801
def Adr.platPending : Nat := 0x58F802
def Adr.platMsgSent : Nat := 0x58F901
def Adr.platMsgLost : Nat := 0x58F902
def Adr.platMsgRefused : Nat := 0x58F903

/-! Objects of R355. -/

def Adr.thermSampleMs : Nat := 0x5C0001
def Adr.thermHyst : Nat := 0x5C0002
def Adr.thermDwell : Nat := 0x5C0003
def Adr.tripMask : Nat := 0x5C0004
def Adr.tripLatch : Nat := 0x5C0005
def Adr.tripClear : Nat := 0x5C0006
def Adr.thermTripState : Nat := 0x5C0007
def Adr.tempMax : Nat := 0x5C0008
def Adr.ntcPullupOhm : Nat := 0x5C0801
def Adr.ntcNominalOhm : Nat := 0x5C0802
def Adr.ntcBeta : Nat := 0x5C0803
def Adr.ntcNominalTemp : Nat := 0x5C0804
def Adr.smbTempAddr (n : Nat) : Nat := (0x5C0C + n) * 256 + 0x01
def Adr.smbTempReg (n : Nat) : Nat := (0x5C0C + n) * 256 + 0x02
def Adr.smbTempFormat (n : Nat) : Nat := (0x5C0C + n) * 256 + 0x03
def Adr.smbTempPec (n : Nat) : Nat := (0x5C0C + n) * 256 + 0x04
def Adr.chEnable (n : Nat) : Nat := (0x5C10 + n) * 256 + 0x01
def Adr.temp (n : Nat) : Nat := (0x5C10 + n) * 256 + 0x02
def Adr.chStatus (n : Nat) : Nat := (0x5C10 + n) * 256 + 0x03
def Adr.warn (n : Nat) : Nat := (0x5C10 + n) * 256 + 0x04
def Adr.high (n : Nat) : Nat := (0x5C10 + n) * 256 + 0x05
def Adr.critical (n : Nat) : Nat := (0x5C10 + n) * 256 + 0x06
def Adr.offset (n : Nat) : Nat := (0x5C10 + n) * 256 + 0x07
def Adr.fanMode (n : Nat) : Nat := (0x5C40 + n) * 256 + 0x01
def Adr.fanDuty (n : Nat) : Nat := (0x5C40 + n) * 256 + 0x02
def Adr.fanPwmHz (n : Nat) : Nat := (0x5C40 + n) * 256 + 0x03
def Adr.fanPulsesPerRev (n : Nat) : Nat := (0x5C40 + n) * 256 + 0x04
def Adr.fanCurve (n : Nat) : Nat := (0x5C40 + n) * 256 + 0x05
def Adr.fanSourceMask (n : Nat) : Nat := (0x5C40 + n) * 256 + 0x06
def Adr.fanMinRpm (n : Nat) : Nat := (0x5C40 + n) * 256 + 0x07
def Adr.fanStallMs (n : Nat) : Nat := (0x5C40 + n) * 256 + 0x08
def Adr.fanFailDuty (n : Nat) : Nat := (0x5C40 + n) * 256 + 0x09
def Adr.fanTripFull (n : Nat) : Nat := (0x5C40 + n) * 256 + 0x0A
def Adr.fanRpm (n : Nat) : Nat := (0x5C40 + n) * 256 + 0x0B
def Adr.fanDutyEffective (n : Nat) : Nat := (0x5C40 + n) * 256 + 0x0C
def Adr.fanStatus (n : Nat) : Nat := (0x5C40 + n) * 256 + 0x0D
def Adr.thermalEvents : Nat := 0x5C5001
def Adr.sensorFaults : Nat := 0x5C5002
def Adr.fanFaults : Nat := 0x5C5003
def Adr.trips : Nat := 0x5C5004

/-! Objects of R356. -/

def Adr.vsupMv : Nat := 0x5E0001
def Adr.vsupDiv : Nat := 0x5E0002
def Adr.vsupSampleMs : Nat := 0x5E0003
def Adr.vsupHyst : Nat := 0x5E0004
def Adr.vsupDwell : Nat := 0x5E0005
def Adr.underCrit : Nat := 0x5E0006
def Adr.under : Nat := 0x5E0007
def Adr.over : Nat := 0x5E0008
def Adr.overCrit : Nat := 0x5E0009
def Adr.vsupStatus : Nat := 0x5E000A
def Adr.battEnable : Nat := 0x5E1001
def Adr.battAddr : Nat := 0x5E1002
def Adr.battPollMs : Nat := 0x5E1003
def Adr.battLowSoc : Nat := 0x5E1004
def Adr.battCritSoc : Nat := 0x5E1005
def Adr.battHyst : Nat := 0x5E1006
def Adr.battStatus : Nat := 0x5E1007
def Adr.battData : Nat := 0x5E1008
def Adr.supplyEvents : Nat := 0x5E2001
def Adr.battPollFails : Nat := 0x5E2002

/-! Objects of R380. -/

def Adr.powerState : Nat := 0x090001
def Adr.powerCmd : Nat := 0x090002
def Adr.powerTransition : Nat := 0x090003
def Adr.powerLastResult : Nat := 0x090004
def Adr.wakeEnable : Nat := 0x090005
def Adr.wakeCause : Nat := 0x090006
def Adr.resetCause : Nat := 0x091001
def Adr.warmReset : Nat := 0x091002
def Adr.ctlReset : Nat := 0x091003
def Adr.resetsResetN : Nat := 0x091101
def Adr.resetsWarm : Nat := 0x091102
def Adr.resetsFlr : Nat := 0x091103
def Adr.resetsBinnacle : Nat := 0x091104
def Adr.resetsController : Nat := 0x091105
def Adr.domainClockKhz (k : Nat) : Nat := 0x092001 + k
def Adr.bootStatus : Nat := 0x093001
def Adr.debugState : Nat := 0x094001
def Adr.debugChallenge : Nat := 0x094002
def Adr.debugResponse : Nat := 0x094003
def Adr.debugLock : Nat := 0x094004
def Adr.debugUnlocks : Nat := 0x094005
def Adr.touchRefMapWrite : Nat := 0xF00001
def Adr.persistClear : Nat := 0xF00002
def Adr.securityVersionRaise : Nat := 0xF00003

end Sys2Proof.Machine
end

