-- ==== Sys2Proof/Config.lean ====
section
/-! DEFINITION. Config: what a part fixes and the manual leaves to the factory, and the free values.
Every `opaque` constant has no body: no proof can learn its value. -/

namespace Sys2Proof

/-- The three members of the family (R1). -/
inductive Variant where
  | z4860 | z4840 | z4820
  deriving DecidableEq, Repr

/-- What differs between parts and never changes in operation: the variant and the stepping
(R1, R74), and the almanacs of earlier steppings that the part's almanac set holds (R78), each as its
32 bytes. -/
structure Part where
  variant : Variant
  stepping : Nat
  earlierAlmanacs : List Bytes
  roundingProfile : Nat
  replayProfile : Nat
  deriving DecidableEq, Repr

namespace Config

/-- FREE VALUE: the k-th value that the manual leaves open; `State.free` counts how many were taken. -/
opaque freeNat : Nat → Nat

/-- FREE VALUE: the k-th byte string that the manual leaves open. -/
opaque freeBytes : Nat → Bytes

/-- FJARSAL_VID, Fjarsal's assigned vendor identifier (R1, R74). -/
opaque vendorId : Nat

/-- SERIAL_NUMBER, the 8 bytes unique to the part (R74). -/
opaque serialNumber : Bytes

/-- PORT_E_MAC, the factory MAC address (R54). -/
opaque portEMac : Bytes

/-- The SHA-256 digest of a byte string (FIPS 180-4), as R374, R375 and R379 use it. -/
opaque sha256 : Bytes → Bytes

/-- Whether an ECDSA P-256 signature (r then s) verifies under a public key (X then Y) over a digest
(R374, R379). -/
opaque p256Verify : (key : Bytes) → (digest : Bytes) → (signature : Bytes) → Bool

/-- The fused digest of the image key of a slot, and whether the slot is revoked (R375). -/
opaque keyDigest : (slot : Nat) → Bytes

opaque keyRevoked : (slot : Nat) → Bool

/-- The manufacturer identity in IDCODE (R378). -/
opaque manufacturerId : Nat

/-- The fused digest of the debug key (R379). -/
opaque debugKeyDigest : Bytes

/-- What the device finds in the body of an image that a standing queue submits (R167): the layout of the
body is the compiler's, so this function of the image's bytes is open. -/
opaque imageBody : Bytes → ImageBody

/-- FREE VALUE: a transcendental result of a vector unit (R157: within 2 ulp, bit-fixed for a given
ARITH_REV): by operation code, ARITH_REV and the operand's FP32 encoding. -/
opaque vecTranscendental : (op : Nat) → (arithRev : Nat) → (x : Nat) → Nat

/-- FREE VALUE: a vector-unit result that the manual does not state (R157, R158): of a maximum or minimum with a
NaN, of the normalisations and of the optimiser steps, by operation code, ARITH_REV and the FP32 encodings that
it depends on. -/
opaque vecOpen : (op : Nat) → (arithRev : Nat) → (xs : List Nat) → Nat

/-- FREE VALUE: a sum in replay mode under a REPLAY_PROFILE of another revision, whose trees the manual does not
state (R224): by the profile and the terms' FP32 encodings in ascending position. -/
opaque replaySum : (replayProfile : Nat) → (xs : List Nat) → Nat

/-- FREE VALUE: the frequency in kHz that DOMAIN_CLOCK_KHZ shows for a running clock domain, by its code, where
no rule states it (R380): SENSE, BIN, HOST and MEM. -/
opaque domainClockKhz : Nat → Nat

end Config

/-- Matrix arrays present (R1, R75). -/
def Variant.arrays : Variant → Nat
  | .z4860 => 8
  | .z4840 => 4
  | .z4820 => 2

/-- Stream slots (R1, R75). -/
def Variant.slots : Variant → Nat
  | .z4860 => 48
  | .z4840 => 32
  | .z4820 => 16

/-- LPDDR5X channels (R1, R75). -/
def Variant.channels : Variant → Nat
  | .z4860 => 3
  | _ => 2

/-- Chart store in KiB (R1, R75). -/
def Variant.chartKib : Variant → Nat
  | .z4860 => 49152
  | .z4840 => 24576
  | .z4820 => 12288

/-- 2.5 Gb/s Ethernet ports (R1, R75). -/
def Variant.ethPorts : Variant → Nat
  | .z4860 => 2
  | .z4840 => 1
  | .z4820 => 0

/-- Whether the touch subsystem is present (R1, R308). -/
def Variant.touch : Variant → Bool
  | .z4820 => false
  | _ => true

/-- Whether training formats and backward operations are present (R1, R75). -/
def Variant.training : Variant → Bool
  | .z4820 => false
  | _ => true

/-- DEVICE_ID (R1, R74). -/
def Variant.deviceId : Variant → Nat
  | .z4860 => 0x4860
  | .z4840 => 0x4840
  | .z4820 => 0x4820

/-- CAPABILITIES.FORMATS (R75). -/
def Variant.formats : Variant → Nat
  | .z4820 => 0x03BF
  | _ => 0x03FF

/-- ARRAY_MASK (R75). -/
def Variant.arrayMask (v : Variant) : Nat := 2 ^ v.arrays - 1

/-- INGEST_CAPACITY in MB/s (R98, R109). -/
def Variant.ingestCapacity : Variant → Nat
  | .z4860 => 24000
  | _ => 16000

/-- BW_CAPACITY in MB/s (R185). -/
def Variant.bwCapacity : Variant → Nat
  | .z4860 => 180800
  | _ => 120533

/-- Whether fabric endpoint `e` exists (R212). -/
def Variant.endpoint (v : Variant) (e : Nat) : Bool :=
  match v with
  | .z4860 => e < 24
  | .z4840 => [0, 1, 2, 3, 4, 5, 6, 7, 8, 10, 11, 19, 20, 21, 22, 23].contains e
  | .z4820 => [0, 1, 2, 3, 4, 5, 6, 7, 19, 20, 21, 22, 23].contains e

end Sys2Proof
end

