-- ==== Sys2Proof/Machine/State.lean ====
section
/-! DEFINITION. Machine/State: the state of the block as plain data, and the state right after a
power-on reset. Dictionary objects that are plain registers (settings, event counters, WRAP flags and
status the device only publishes) live in `dict`, a sparse register file keyed by
`index <<< 8 ||| subindex` (R56); an address that is not listed holds the object's default (R65).
State that a rule gives a shape of its own stands in the structure of its chapter. -/

namespace Sys2Proof.Machine

/-- Reasons a step stops with a fault. -/
inductive Fault where
  /-- Raised by `encoderStep` when accepted steps follow each other faster than one per
  ENC_FILTER_US + 1 µs, which R297 places outside the rated signal conditions of R4, where the device's
  behaviour is not defined. Safe: the model stops where the hardware would go on in an undefined way. -/
  | outsideRating
  deriving DecidableEq, Repr

/-- Reasons a step refuses a command. -/
inductive Refusal where
  /-- Raised by an arm of `exec` whose command has no meaning yet. Safe. -/
  | notModelled (mnemonic : String)
  deriving DecidableEq, Repr

/-- A dictionary value: a number by its little-endian encoding, or an octet string (R58). -/
inductive Val where
  | num (n : Nat)
  | bytes (b : Bytes)
  deriving DecidableEq, Repr

/-- The sparse register file: strictly rising addresses, no entry equal to its default. -/
abbrev Dict := List (Nat × Val)

/-- Device memory and chart store: strictly rising addresses, no entry equal to 0. -/
abbrev Memory := List Host.Cell

/-- What reads host memory: a copy engine, the queue that fetches descriptors, or the control ring (R237, R240, R244). -/
inductive Reader where
  | engine (e : Nat)
  | queue (q : Nat)
  | controlRing
  deriving DecidableEq, Repr

/-- Something the device sends to the outside: what leaves it on a port, a bus or the PCIe link. -/
inductive Sent where
  /-- A Shevy PDU on port C: a CAN FD frame by its identifier and its rate codes (R47, R54). -/
  | canPdu (identifier nominalRate dataRate : Nat) (bytes : Bytes)
  /-- A Shevy PDU on port E: an Ethernet frame by its destination and source MAC address (R47). -/
  | ethPdu (destination : Nat) (source : Bytes) (bytes : Bytes)
  /-- A posted write to host memory at a bus address; `relaxed` is the Relaxed Ordering attribute and
  `noSnoop` the No Snoop attribute (R30, R202, R238, R242, R244). -/
  | hostWrite (addr : Nat) (bytes : Bytes) (relaxed : Bool) (noSnoop : Bool)
  /-- A read request to host memory (R237, R240, R244); `noSnoop` is the No Snoop attribute (R242). -/
  | hostRead (by_ : Reader) (addr : Nat) (len : Nat) (noSnoop : Bool)
  /-- The MSI-X message of a vector: its data, written to its address (R233). -/
  | msix (vector : Nat) (addr : Nat) (data : Nat)
  /-- A PCIe completion with Unsupported Request, or the AER report of a refused posted write (R229, R235). -/
  | unsupportedRequest (offset : Nat)
  /-- The safety message on CAN controller A (0) or B (1) (R270). -/
  | safetyFrame (controller : Nat) (identifier : Nat) (bytes : Bytes)
  /-- A fabric packet put on the mesh, as its bytes (R214 to R219). -/
  | packet (bytes : Bytes)
  /-- One I²C settings transaction: controller, 7-bit address, bytes after the address (R101). -/
  | i2c (controller : Nat) (device : Nat) (bytes : Bytes)
  /-- Data bytes on the SPI target's output (R247). -/
  | spi (bytes : Bytes)
  /-- An edge of a CAM_TRIG output, and the level that it leaves (R28). -/
  | camTrig (output : Nat) (high : Bool)
  /-- A Window A register read's data (R83, R230). -/
  | windowRead (value : Nat)
  /-- The data of a configuration read (R228). -/
  | configRead (value : Nat)
  /-- Configuration Request Retry Status (R251). -/
  | configRetry
  /-- What a scan of a TAP data register shifts out (R378). -/
  | tapData (bytes : Bytes)
  deriving DecidableEq, Repr

/-- A staged RWM value: address, value and the tick number of the meridian at which it applies (R61, R63). -/
structure Staged where
  addr : Nat
  val : Val
  tick : Nat
  deriving DecidableEq, Repr

/-- A stored image of the NVM-backed objects (R65): values that differ from the default, and the
addresses of the objects it holds no entry for (R67). -/
structure Image where
  vals : Dict
  missing : List Nat
  deriving DecidableEq, Repr

/-- Storage outside the dictionary: two banks, the bank marked current, and the STORE in progress (R66, R69). -/
structure Nvm where
  bankA : Option Image
  bankB : Option Image
  currentIsB : Bool
  storing : Option Image
  refMaps : List Bytes
  minSecurity : List Nat
  deriving DecidableEq, Repr

/-- States of the tick generator, in the code order of GEN_STATE (R19, R29). -/
inductive Gen where
  | halted | freeRun | pullIn | locked | holdover | deadReckoning
  deriving DecidableEq, Repr

/-- FIX_STATUS of a tick report, in code order (R29). -/
inductive FixStatus where
  | none | accepted | acceptedClamped | missed | rejected | realigned
  deriving DecidableEq, Repr

/-- The capture window of a predicted meridian (R17): its centre and half width in ns, the error of the
fix found, whether an event inside it failed qualification, and whether an event fell outside every
window since the previous window closed. `placed` says that an event found by a search has closed it (R21), `later`
that an event fell outside every window since this one closed. -/
structure Window where
  center : Nat
  half : Nat
  fix : Option Int
  failed : Bool
  outside : Bool
  closed : Bool
  placed : Bool
  later : Bool
  deriving DecidableEq, Repr

/-- A tick report that a meridian has closed and TICK_REPORT will publish (R29). -/
structure Draft where
  tick : Nat
  meridian : Nat
  length : Nat
  slew : Int
  error : Int
  status : FixStatus
  gen : Gen
  missCount : Nat
  flags : Nat
  outcomes : List (List Nat)
  faults : Nat
  framesDropped : Nat
  gptpOffset : Nat
  snapshot : List (Nat × Nat)
  deriving DecidableEq, Repr

/-- gPTP slave state (R11, R12): Syncs processed in a row, device time of the last one, the announced
interval and the mean path delay measured on each 2.5 Gb/s port. -/
structure Gptp where
  syncs : Nat
  lastSync : Nat
  interval : Nat
  pathDelays : List Nat
  deriving DecidableEq, Repr

/-- Device time and the tick generator (R10 to R29). `now` is DEVICE_TIME in ns and `frac` its
sub-nanosecond fraction in units of 1 / (3 × 10^9) ns. `meridian` is the recorded time of M_n for
`tick` n, `next` the time of M_n+1 once known, `nextTick` the number the coming meridian carries,
`history` the latest meridians since the generator last started, newest first, as (number, time); `shortest` and
`longest` the tick monitor's bounds for the present tick (R263); `slew`,
`error` and `status` what the window of the present tick gave (R18); `realignAt` the meridians that REALIGN has
reached and that have not come (R21); `ranAt` the device time at which the actions of M_n ran (R14, R21);
`camActive` the end of each CAM_TRIG pulse under way (R28); `marked` says that H_n of this tick has been (R178). -/
structure Tick where
  now : Nat
  frac : Nat
  gen : Gen
  missCount : Nat
  tick : Nat
  nextTick : Nat
  started : Bool
  startAt : Nat
  startSearch : Bool
  meridian : Nat
  ranAt : Nat
  history : List (Nat × Nat)
  next : Option Nat
  shortest : Nat
  longest : Nat
  slew : Int
  error : Int
  status : FixStatus
  window : Window
  realignAt : List Nat
  realignTick : Bool
  realignFound : Bool
  applied : Bool
  outcomes : List (List Nat)
  faults : Nat
  framesDropped : Nat
  closing : Option Draft
  lastReport : Bytes
  camActive : List (Option Nat)
  camDone : List Nat
  marked : Bool
  gptp : Gptp
  deriving DecidableEq, Repr

/-- Ownership states, in the code order of OWNER_STATE (R35). -/
inductive OwnerState where
  | vacant | claiming | owned | handoverPending
  deriving DecidableEq, Repr

/-- One claim in an open claim window (R37). -/
structure Claim where
  port : Port
  rank : Nat
  nonce : Nat
  deriving DecidableEq, Repr

/-- Ownership (R35 to R43): `owner` is OWNER_PORT, `ranks` the claim ranks (C, H, E, S) in force for the
open window, `closeTick` the number of its closing meridian. -/
structure Own where
  state : OwnerState
  owner : Option Port
  nonce : Nat
  lease : Nat
  successor : Option Port
  deadline : Nat
  vacancyCause : Nat
  claims : List Claim
  ranks : List Nat
  closeTick : Nat
  deriving DecidableEq, Repr

/-- A block transfer of a port (R49, R50): the data received so far, or the whole value being read. -/
structure Transfer where
  write : Bool
  addr : Nat
  total : Nat
  buf : Bytes
  sent : Nat
  seq : Nat
  response : Bytes
  time : Nat
  finished : Bool
  exportFirst : Nat
  exportLast : Nat
  deriving DecidableEq, Repr

/-- Where a port's medium carries a PDU (R47): on port C the identifiers of requests and of responses and the two
rate codes, on port E the destination MAC address in `response`. -/
structure Route where
  request : Nat
  response : Nat
  nominalRate : Nat
  dataRate : Nat
  deriving DecidableEq, Repr

/-- A response that waits for those before it (R48): its PDU, its route, and whether it may go out. -/
structure Waiting where
  pdu : Bytes
  route : Route
  ready : Bool
  deriving DecidableEq, Repr

/-- One Shevy port (R32, R47 to R52, R285): NOTIFY count, the responses waiting in order of acceptance, the source of
the last request accepted (port E), block transfer, the code that later segments of a discarded transfer are refused
with, the port's copies of the logbook read selectors, and whether its link is up. -/
structure PortState where
  notifies : Nat
  waiting : List Waiting
  peer : Option Nat
  transfer : Option Transfer
  discarded : Option Nat
  readSeq : Nat
  persistIndex : Nat
  linkUp : Bool
  deriving DecidableEq, Repr

/-- Buffer states, in the code order of BUFFER_STATES (R96, R108). -/
inductive BufState where
  | free | filling | ready | held
  deriving DecidableEq, Repr

/-- Who holds a HELD buffer (R97): a fusion set's record of a tick, or a consumer. -/
inductive Holder where
  | nobody
  | record (set : Nat) (tick : Nat)
  | consumer
  deriving DecidableEq, Repr

/-- What the device knows of a frame (R91 to R95): the fields of its header, and the slot's HEIGHT and
SOURCE_KIND at its start. -/
structure Frame where
  counter : Nat
  capture : Nat
  tick : Nat
  offset : Nat
  flags : Nat
  epoch : Nat
  endTime : Nat
  payload : Nat
  blocks : Nat
  lines : Nat
  width : Nat
  height : Nat
  kind : Nat
  dataType : Nat
  dropsBefore : Nat
  lastDrop : Nat
  start : Nat
  deriving DecidableEq, Repr

/-- One buffer of a slot's ring (R96): state, holder, its frame, the sets that have selected it (R106),
and whether a shaped header is still to be written (R121). -/
structure Buffer where
  state : BufState
  holder : Holder
  frame : Frame
  selectedBy : List Nat
  shapePending : Bool
  deriving DecidableEq, Repr

/-- A frame in progress (R90): the buffer it fills (none for a dropped frame), what is stored so far as
sample rows (camera), its drop cause, and the running marker and packet time of a point cloud. -/
structure Filling where
  buffer : Option Nat
  frame : Frame
  rows : List (List Nat)
  stored : Bytes
  dropCause : Nat
  marker : Nat
  lastPacket : Nat
  deriving DecidableEq, Repr

/-- A camera frame whose statistics record is due (R105). -/
structure StatJob where
  frame : Frame
  rows : List (List Nat)
  dropped : Bool
  deriving DecidableEq, Repr

/-- An epoch and the first frame it applies to (R104). -/
structure Epoch where
  epoch : Nat
  first : Nat
  late : Bool
  deriving DecidableEq, Repr

/-- A frame that was dropped in reach of a fusion close (R106). -/
structure Dropped where
  counter : Nat
  capture : Nat
  endTime : Nat
  deriving DecidableEq, Repr

/-- One stream slot's run state (R89 to R105). -/
structure Slot where
  running : Bool
  nextCounter : Nat
  first : Bool
  filling : Option Filling
  buffers : List Buffer
  dropsBefore : Nat
  lastDrop : Nat
  bytesInTick : Nat
  overGuarantee : Bool
  settingsNew : Bool
  lastTableSeq : Option Nat
  uncertain : Option Nat
  epochs : List Epoch
  epochNow : Nat
  lastFsCounter : Nat
  stats : List StatJob
  drops : List Dropped
  lastHeader : Bytes
  lastMarker : Option Nat
  deriving DecidableEq, Repr

/-- One region of an ROI table (R117): source rectangle and output size. -/
structure Roi where
  x : Nat
  y : Nat
  w : Nat
  h : Nat
  outW : Nat
  outH : Nat
  deriving DecidableEq, Repr

/-- The settings latched at a frame's FS (R111) as the raw values of the context's objects. -/
structure ShapeCfg where
  slot : Nat
  demosaic : Nat
  cfaPhase : Nat
  blackLevel : Bytes
  ccm : Bytes
  ccmOffset : Bytes
  mean : Bytes
  scale : Bytes
  zeroPoint : Int
  outFormat : Nat
  layout : Nat
  channelOrder : Nat
  pyrLevels : Nat
  pyrMode : Nat
  pyrBaseW : Nat
  pyrBaseH : Nat
  roiMaxCount : Nat
  roiOutMaxW : Nat
  roiOutMaxH : Nat
  shapedAddr : Nat
  shapedBytes : Nat
  deriving DecidableEq, Repr

/-- A frame being shaped, or waiting for its shaped header (R117, R121, R122). -/
structure Shaping where
  cfg : ShapeCfg
  buffer : Nat
  regions : List Roi
  fromStatic : Bool
  roiStatus : Nat
  tableFrame : Nat
  overrun : Bool
  memError : Bool
  frame : Option Frame
  rows : List (List Nat)
  deriving DecidableEq, Repr

/-- A line of a slot's frame that the shaping pool has still to work off, in fifths of a work unit (R122). -/
structure PoolLine where
  slot : Nat
  buffer : Nat
  work : Nat
  deriving DecidableEq, Repr

/-- One shaping context (R110, R117, R122): the regions applied to the previous frame, the frames being shaped (of
two slots where SHAPE_SLOT moved while a frame of the old one filled, R111), the frames that wait for their shaped
header, and the buffered lines. -/
structure Ctx where
  regions : Option (List Roi × Nat × Bool)
  current : List Shaping
  pending : List Shaping
  backlog : List PoolLine
  deriving DecidableEq, Repr

/-- One member of a closed fusion set (R106, R107), with its position in MEMBERS. -/
structure Member where
  position : Nat
  slot : Nat
  outcome : Nat
  buffer : Nat
  counter : Nat
  delta : Int
  deriving DecidableEq, Repr

/-- A fusion record that a close has fixed and that is still to be written (R107). -/
structure FusionDraft where
  tick : Nat
  target : Int
  status : Nat
  missing : Nat
  members : List Member
  deriving DecidableEq, Repr

/-- One fusion set (R106, R107): drafts still to be written, and the latest records written. -/
structure FusionSet where
  drafts : List FusionDraft
  records : List FusionDraft
  deriving DecidableEq, Repr

/-- One settings commit on an I²C controller (R101 to R103): its slot, the entries still to be sent,
whether the entry in flight is a repeat, the end of the window, and the table sequence it came from. -/
structure Commit where
  slot : Nat
  entries : List Bytes
  repeated : Bool
  windowEnd : Nat
  tableSeq : Option Nat
  deriving DecidableEq, Repr

/-- Sensor ingest and shaping (chapters 04 and 05); `windowTick` is the tick of the latest commit window, and
`poolAt` the time up to which the shaping pool has worked. -/
structure Ingest where
  slots : List Slot
  ctxs : List Ctx
  fusion : List FusionSet
  i2c : List (List Commit)
  windowTick : Option Nat
  poolAt : Nat
  deriving DecidableEq, Repr

/-- ARRAY_STATE values, in code order (R163). -/
inductive ArrState where
  | off | idle | busy | housekeeping | heldFault
  deriving DecidableEq, Repr

/-- An accumulator vector (R142): 128 output words, the checksum word C and the guard word G. -/
structure AccVec where
  out : List Nat
  c : Nat
  g : Nat
  deriving DecidableEq, Repr

/-- Check-tile progress of an array in a tick (R259, R260). -/
inductive TileState where
  | none | due | running | passed | failed
  deriving DecidableEq, Repr

/-- The stationary operands of an array (R144, R148): the formats and the weights w[k][j] as raw encodings. -/
structure Tile where
  actFmt : Nat
  weightFmt : Nat
  weights : List (List Nat)
  deriving DecidableEq, Repr

/-- One matrix array (R141 to R163, R172, R179): `store` is its operand store, `shadow` and `working` are the two
weight registers of its cells, `lanes` the vector unit's registers that are not 0 (register number times 512 plus
lane, rising, and the FP32 word); `share` is what each partition still has of its share
in this tick, `swapFirst` says that the next pass swaps by bank (first pass, waypoint or check tile). -/
structure Arr where
  state : ArrState
  powered : Bool
  job : Option (Nat × Nat)
  swapFirst : Bool
  prevM : Nat
  prevI : Nat
  prevPair : Nat × Nat
  prevOutFmt : Nat
  store : Memory
  shadow : Option Tile
  working : Option Tile
  lanes : List (Nat × Nat)
  valid : Bool
  gatingUnit : Nat
  share : List Nat
  lastCharge : Nat
  tile : TileState
  localising : Bool
  verdict : Nat
  deriving DecidableEq, Repr

/-- The phase of an admitted item (R169, R177 to R180, R208). -/
inductive Phase where
  | waiting | running | saving | saved | restoring | parked
  deriving DecidableEq, Repr

/-- Why a running job has been asked to stop (R176, R178, R205); `deadline` is the stop of a P0 job that was not
finished at H_n. -/
inductive Stop where
  | none | preempt | housekeeping | park | deadline
  deriving DecidableEq, Repr

/-- How an item ended (R182 to R184). -/
structure Ended where
  status : Nat
  cause : Nat
  tick : Nat
  offset : Nat
  outputValid : Bool
  isPartial : Bool
  faultRef : Nat
  detail : Nat
  deriving DecidableEq, Repr

/-- A guard step in progress (R261): the time at which it ends, and whether a check fails there. -/
structure Guarding where
  ends : Nat
  fails : Bool
  deriving DecidableEq, Repr

/-- One submitted item of a queue: a job of an image, a COPY or a FENCE (R164 to R184, R240, R241).
`fixed` says that its due tick has been fixed, `tickTime` is its array time on its first array in this
tick, `guard` is the guard step in progress (R261), `copyNext` counts the bytes its transfer has moved, `body` is what the device read of its image's body,
and `offset` is the pass of the image that it has reached (R175); `ended` is set once it has ended, its record then
still to be written in submission order. -/
structure Job where
  kind : Nat
  standing : Bool
  tag : Nat
  submitSeq : Nat
  ringIndex : Nat
  image : Nat
  param : Nat
  inputSet : Nat
  due : Nat
  fixed : Bool
  background : Bool
  replay : Bool
  swapFront : Bool
  almanac : Bytes
  budget : Nat
  contextBytes : Nat
  arraysNeeded : Nat
  phase : Phase
  stop : Stop
  stopAt : Nat
  stopRef : Nat
  arrays : List Nat
  used : Nat
  started : Option Nat
  readyAt : Option Nat
  carry : Nat
  carryCause : Nat
  preempts : Nat
  arrayTime : Nat
  tickTime : Nat
  borrowed : Nat
  guard : Option Guarding
  parkedFor : Nat
  transfer : Bool
  copyAddr : Nat
  copyDev : Nat
  copyLen : Nat
  copyOut : Bool
  copyNext : Nat
  body : ImageBody
  offset : Nat
  ended : Option Ended
  deriving DecidableEq, Repr

/-- An unresolved translation fault of a queue (R202, R208), with the tick coordinates of its detection. -/
structure TFault where
  tick : Nat
  offset : Nat
  addr : Nat
  start : Nat
  resolve : Nat
  write : Bool
  kind : Nat
  level : Nat
  engine : Nat
  deriving DecidableEq, Repr

/-- QUEUE_STATE values, in code order (R185). -/
inductive QState where
  | disabled | active | halted | parked
  deriving DecidableEq, Repr

/-- One job queue (R166 to R185, R230 to R250): items in submission order, Window A ring registers and
the halt reasons. `guardSeen` holds the frame counter that the previous guard step saw per member (R261). -/
structure Queue where
  state : QState
  haltBme : Bool
  haltFlr : Bool
  haltFabric : Bool
  jobs : List Job
  submitted : Nat
  sqBase : Nat
  cqBase : Nat
  ringOn : Bool
  relaxed : Bool
  log2 : Nat
  sqTail : Nat
  cqHead : Nat
  fetched : Nat
  guardSeen : List (Nat × Nat)
  fault : Option TFault
  copyData : Bool
  deriving DecidableEq, Repr

/-- A cached translation (R200): partition, window offset of its page, page size, bus address, leaf bits. -/
structure Tlb where
  partition : Nat
  page : Nat
  size : Nat
  bus : Nat
  leaf : Nat
  deriving DecidableEq, Repr

/-- What the end of an invalidation answers (R200): the Window A count, the response that waits on a port, or nothing
any more. -/
inductive InvalidationEnd where
  | windowA
  | port (p : Port)
  | nobody
  deriving DecidableEq, Repr

/-- An invalidation whose requests have not all completed (R200): the written value, which names its scope, and what
its end answers. -/
structure Invalidation where
  scope : Nat
  answer : InvalidationEnd
  deriving DecidableEq, Repr

/-- Memory and translation (chapter 09): contents, addresses of blocks with an uncorrectable error (`ue`) or a
correctable one (`ce`) in place, the same for words of the operand stores, the translation cache, invalidations in progress, latest fault records, BW credits left this tick, and which
partitions have spent theirs. -/
structure Mem where
  cells : Memory
  ue : List Nat
  ce : List Nat
  opUe : List (Nat × Nat)
  opCe : List (Nat × Nat)
  tlb : List Tlb
  invalidating : List Invalidation
  tlbHigh : Nat
  tlbDone : Nat
  faultSeq : List Nat
  tfLast : List Bytes
  credits : List Nat
  spent : List Bool
  trainedOnce : Bool
  deriving DecidableEq, Repr

/-- A packet in a source's retry buffer or a destination's hold (R216, R217): its type code, its REPLAY bit, how often
it was re-sent and when it was last sent, whether an ATOMIC_ADD adds FP32 values, and the item (queue and submission)
on whose behalf it was sent. -/
structure Outstanding where
  type : Nat
  packet : Packet
  replay : Bool
  resends : Nat
  sentAt : Nat
  float : Bool
  owner : Option (Nat × Nat)
  deriving DecidableEq, Repr

/-- One numbering (R215): strict numberings per source, destination and channel, bulk numberings per
source and destination. `expected` is the destination's next SEQ, `ahead` the SEQs accepted out of
order, `held` the packets held for a gap, `reset` the CHANNEL_RESET that waits for its answer (R219). -/
structure Numbering where
  src : Nat
  dst : Nat
  bulk : Bool
  channel : Nat
  nextSeq : Nat
  outstanding : List Outstanding
  expected : Nat
  ahead : List Nat
  held : List Outstanding
  closed : Bool
  reset : Option Outstanding
  p0 : Bool
  deriving DecidableEq, Repr

/-- A READ_REQ that HOST has turned into a PCIe read (R216): the channel, which names the engine, the tag and the
request. -/
structure MeshRead where
  engine : Nat
  tag : Nat
  request : Outstanding
  deriving DecidableEq, Repr

/-- The fabric (chapter 10): the numberings used since the last reset that reached it (R215), and the reads that HOST
has in hand for it. -/
structure Fabric where
  numberings : List Numbering
  reads : List MeshRead
  deriving DecidableEq, Repr

/-- The control ring of port H (R244). -/
structure ControlRing where
  enabled : Bool
  log2 : Nat
  reqBase : Nat
  rspBase : Nat
  reqTail : Nat
  rspHead : Nat
  fetched : Nat
  written : Nat
  reserved : Nat
  notifyDropped : Nat
  heldRsp : List Bytes
  deriving DecidableEq, Repr

/-- A platform message waiting in a port's queue (R350, R351): its TYPE and payload. -/
structure PlatMsg where
  type : Nat
  payload : Bytes
  deriving DecidableEq, Repr

/-- One mailbox port (R245, R246, R350, R351). `out` are messages of port 0 (Shevy) and replies waiting
for OUT; `plat` the queue of 16 THERMAL, SUPPLY and SEQUENCE_DONE messages; `touch` the reports to be
sent, by panel and REPORT_SEQ; `keysSent` the EVENT_SEQ last sent. -/
structure Mailbox where
  inBuf : Bytes
  outBuf : Bytes
  inLen : Nat
  outLen : Nat
  inFull : Bool
  outFull : Bool
  overrun : Bool
  out : List Bytes
  plat : List PlatMsg
  lost : List Nat
  touch : List (Nat × Nat)
  keysSent : Nat
  msgSeq : Nat
  deriving DecidableEq, Repr

/-- A read of a copy engine that is outstanding (R228, R240): its tag, offset and length in the transfer, and the
partition and the page (window offset and size) of the translation it was made through (R200). -/
structure HostRead where
  tag : Nat
  off : Nat
  len : Nat
  partition : Nat
  page : Nat
  size : Nat
  deriving DecidableEq, Repr

/-- A copy engine (R228, R240, R248): the item it serves (queue and submission), the reads outstanding, those that have
been abandoned, and a translation fault that waits for re-sends of earlier requests (R207). -/
structure Engine where
  owner : Option (Nat × Nat)
  reads : List HostRead
  abandoned : List HostRead
  held : Option TFault
  deriving DecidableEq, Repr

/-- A signal that has been received (R236): its requester, entry, partition, SIGNAL_ADDR and bytes, and the endpoints that
it has to sweep. -/
structure PlacedSignal where
  requester : Nat
  entry : Nat
  partition : Nat
  addr : Nat
  data : Bytes
  ends : List Nat
  deriving DecidableEq, Repr

/-- The host link (chapter 11). `d3hot`, the BARs, `maxPayload`, `maxRead` and the MSI-X bits stand in configuration
space (R228), `msixTable` holds the address and data of each vector (R233); `latches` are the high words held by
counter mirrors (R83), `presets` the high words held for a preset; `placed` lists requesters and the destination
endpoints their placement writes reached since the last signal, and `signals` the signals that wait for their sweeps,
with the entry, its destination and the value (R236). -/
structure HostLink where
  linkUp : Bool
  speed : Nat
  width : Nat
  bme : Bool
  mse : Bool
  functionReady : Bool
  d3hot : Bool
  barA : Nat
  barB : Nat
  maxPayload : Fin 8
  maxRead : Fin 8
  msixEnable : Bool
  msixFunctionMask : Bool
  msixTable : List (Nat × Nat)
  msixMasked : List Bool
  msixPending : List Bool
  latches : List (Option Nat)
  presets : List Nat
  placed : List (Nat × Nat)
  signals : List PlacedSignal
  ring : ControlRing
  mailboxes : List Mailbox
  engines : List Engine
  deriving DecidableEq, Repr

/-- SAFETY_STATE values, in code order (R270). -/
inductive Safety where
  | starting | normal | faultLatched
  deriving DecidableEq, Repr

/-- A detected fault between its detection and its commit (R266, R277, R282): everything its record and
its NOTIFY carry. `verdictOf` names the array whose localisation it waits for. -/
structure FaultRx where
  seq : Nat
  cls : Nat
  mechanism : Nat
  unit : Nat
  unitKind : Nat
  verdictOf : Option Nat
  verdict : Nat
  t0 : Nat
  tick : Nat
  offset : Nat
  ticked : Bool
  part : Option Nat
  queue : Option Nat
  tag : Option Nat
  cause : Nat
  detail : Option Nat
  vector : Option Nat
  address : Option Nat
  suppressed : Nat
  powerState : Nat
  tempMax : Int
  supplyMv : Nat
  translation : List Nat
  fabric : List Nat
  almanacSelect : Nat
  fixedForm : Bool
  firstFault : Bool
  microcode : Nat
  binnacleFw : Nat
  deriving DecidableEq, Repr

/-- A job ending of a P0 queue as the safety message needs it (R270, R272). -/
structure P0End where
  queue : Nat
  due : Nat
  valid : Bool
  deriving DecidableEq, Repr

/-- The binnacle (chapter 12). `faultN` is the pin's assertion; `normalSince` says that SAFETY_STATE has
been NORMAL since the meridian of the current tick, `normalAtLast` since the meridian before it;
`described` is the tick of the latest PERIODIC message. `dispatcherDown`: no job starts for the rest of the
tick; `dispatcherRef` is the record of the mismatch that stopped the dispatcher (R256), 0 where a reset did. -/
structure Binnacle where
  state : Safety
  faultN : Bool
  reactions : List FaultRx
  clocks : List Domain
  rails : List Rail
  alive : Nat
  message : Option Bytes
  safetyInTick : Nat
  safetyInLast : Nat
  normalSince : Bool
  normalAtLast : Bool
  ends : List P0End
  lastSeq : Nat
  lastMechanism : Nat
  lastUnit : Nat
  dispatcherDown : Bool
  dispatcherRef : Nat
  described : Option Nat
  deriving DecidableEq, Repr

/-- A committed record (R275, R282, R284): its sequence number and class come from the separately
protected index, `damaged` marks an uncorrectable error in its body. -/
structure LogRec where
  seq : Nat
  cls : Nat
  signature : Nat
  bytes : Bytes
  damaged : Bool
  deriving DecidableEq, Repr

/-- Suppression state of one failure signature (R281): the tick it counts in, LOGGED records of that
tick, and records suppressed since the last committed one. -/
structure Suppress where
  signature : Nat
  tick : Nat
  logged : Nat
  suppressed : Nat
  deriving DecidableEq, Repr

/-- The logbook (chapter 13). -/
structure Logbook where
  ring : List LogRec
  persist : List LogRec
  copying : List LogRec
  nextSeq : Nat
  lastSeq : Nat
  suppress : List Suppress
  deriving DecidableEq, Repr

/-- One 24-byte entry of the event FIFO (R300). -/
structure Event where
  kind : Nat
  synthetic : Bool
  unticked : Bool
  code : Nat
  data : Nat
  seq : Nat
  tick : Nat
  offset : Nat
  deriving DecidableEq, Repr

/-- A debounce run (R295): key code or button, its length, and the stamp of its first sample. -/
structure Run where
  code : Nat
  len : Nat
  first : Nat
  deriving DecidableEq, Repr

/-- One quadrature encoder (R297 to R299). -/
structure Encoder where
  a : Bool
  b : Bool
  sub : Int
  windowAt : Option Nat
  windowEnd : Nat
  net : Int
  lastStep : Option Nat
  deriving DecidableEq, Repr

/-- The key lock (R304, R305). -/
inductive Lock where
  | off | requested (cause : Nat) | on
  deriving DecidableEq, Repr

/-- Keys, buttons and encoders (chapter 14). `pressed` are the debounced codes, `reported` the codes
reported pressed, `mute` the codes held at the end of a lock, all in ascending order. `activeAt` is when the
matrix left IDLE, `lastScan` and `scanEnd` the start and end of the latest scan since, `scanPeriod` the
SCAN_PERIOD_MS in force for the next start (R293), `btnLast` the latest button sample. -/
structure Keys where
  scanning : Bool
  activeAt : Nat
  lastScan : Option Nat
  scanEnd : Nat
  scanPeriod : Nat
  idleScans : Nat
  pressed : List Nat
  reported : List Nat
  mute : List Nat
  runs : List Run
  btnLast : Option Nat
  btnPressed : List Nat
  btnReported : List Nat
  btnMute : List Nat
  btnRuns : List Run
  encoders : List Encoder
  fifo : List Event
  nextSeq : Nat
  lock : Lock
  progress : Nat
  unlockAt : Option Nat
  wakeRequest : Bool
  deriving DecidableEq, Repr

/-- TOUCH_STATE values, in code order (R310). -/
inductive PanelState where
  | off | calibrating | active | selfTest
  deriving DecidableEq, Repr

/-- A tracked contact of a panel (R319): position in 1/256 node, lift run and report state. -/
structure Contact where
  id : Nat
  x : Nat
  y : Nat
  strength : Nat
  area : Nat
  state : Nat
  lift : Nat
  atStart : Bool
  deriving DecidableEq, Repr

/-- A candidate that is not yet a contact (R319). -/
structure Candidate where
  x : Nat
  y : Nat
  seen : Nat
  deriving DecidableEq, Repr

/-- State of one threshold under the shared rule (R338). -/
structure Crossing where
  crossed : Bool
  run : Nat
  deriving DecidableEq, Repr

/-- A touch report held for the owner (R320, R321). -/
structure Report where
  seq : Nat
  bytes : Bytes
  deriving DecidableEq, Repr

/-- The settings of a panel in force for the frame in hand (R310). -/
structure PanelCfg where
  drives : Nat
  senses : Nat
  xRes : Nat
  yRes : Nat
  axis : Nat
  quiet : Bool
  freqs : List Nat
  enabled : Nat
  burst : Nat
  listen : Nat
  noiseThreshold : Nat
  noiseHyst : Nat
  noiseDwell : Nat
  threshold : Nat
  hyst : Nat
  debounce : Nat
  lift : Nat
  maxDist : Nat
  baseInterval : Nat
  baseStep : Nat
  negFrames : Nat
  openPct : Nat
  shortPct : Nat
  quietDelay : Nat
  quietUs : Nat
  deriving DecidableEq, Repr

/-- One touch panel (chapter 15). `cfg` holds the settings latched at the latest frame start (none before the
first), `frameStart` is the start of the frame, or of the self-test, in progress, `lastStart` the latest frame
start since calibration began, `scanFreq` the FREQ_TABLE entry that the frame in hand uses (8: the reference
frequency), `quiet` NOISE_MODE_EFFECTIVE, `waitFrom` when the panel began to wait for DSYNC edges,
`goodEdges` the run of well-spaced edges, `atStart` the nodes found present by calibration. -/
structure Panel where
  state : PanelState
  cfg : Option PanelCfg
  frameSeq : Nat
  frameStart : Option Nat
  lastStart : Option Nat
  freq : Nat
  scanFreq : Nat
  hopTo : Option Nat
  hopped : Bool
  noisy : Bool
  noise : Crossing
  noiseLevels : List Nat
  baselines : List (List Nat)
  calibrated : List (Nat × List Nat)
  baseCount : Nat
  negRuns : List Nat
  contacts : List Contact
  candidates : List Candidate
  atStart : List Nat
  atStartFirst : Bool
  raw : List Nat
  delta : List Int
  reports : List Report
  nextSeq : Nat
  result : Bytes
  quiet : Bool
  fallback : Bool
  fallbackWanted : Bool
  lastEdge : Option Nat
  edges : List Nat
  aligned : Bool
  waitFrom : Nat
  goodEdges : Nat
  deriving DecidableEq, Repr

/-- The running sequence (R330 to R333): number, step, start of the step and of the sequence, and whether a WAIT or
DELAY step has begun. -/
structure Sequence where
  s : Nat
  step : Nat
  stepAt : Nat
  startAt : Nat
  begun : Bool
  deriving DecidableEq, Repr

/-- One temperature channel (R336 to R339). -/
structure Channel where
  temp : Int
  fault : Bool
  fails : Nat
  warn : Crossing
  high : Crossing
  critical : Crossing
  deriving DecidableEq, Repr

/-- One fan (R342, R343): pulses of the latest 100 ms intervals, newest first, and the curve value and
FAN_DUTY_EFFECTIVE of the latest thermal sample (R382). -/
structure Fan where
  pulses : List Nat
  lastUpdate : Option Nat
  rpm : Nat
  curve : Nat
  duty : Nat
  fault : Bool
  lowSince : Option Nat
  okSince : Option Nat
  deriving DecidableEq, Repr

/-- Platform management (chapter 16). `aborted` is a sequence that a reset ended, its step and duration in µs;
`armed` and `lost` are the watched power-good lines that are armed, and those whose loss has been reported. -/
structure Platform where
  sequence : Option Sequence
  aborted : Option (Nat × Nat × Nat)
  enState : Nat
  pgState : Nat
  armed : Nat
  lost : Nat
  thermAt : Option Nat
  channels : List Channel
  trip : Bool
  fans : List Fan
  vsupAt : Option Nat
  vsup : List Crossing
  vsupMv : Nat
  battAt : Option Nat
  battFails : Nat
  battStatus : Nat
  battWords : Bytes
  battSoc : List Crossing
  deriving DecidableEq, Repr

/-- POWER_STATE values, in code order (R357). -/
inductive Power where
  | dormant | standby | ready | run | booting
  deriving DecidableEq, Repr

/-- Power, reset, boot and debug (chapter 17). `target` is the commanded state while a transition is in
progress, `stepAt` when its current step began, `runAt` the number of the meridian that leaves RUN,
`challenge` the free byte string that DEBUG_CHALLENGE shows, `ctlUntil` when a controller reset is complete, `tap` the
instruction in the TAP (R378). -/
structure PowerCtl where
  state : Power
  target : Option Power
  cause : Nat
  stepAt : Nat
  runAt : Option Nat
  lastResult : Bytes
  wakePending : Nat
  wakeCause : Nat
  romOnly : Bool
  microcodeOk : Bool
  binnacleOk : Bool
  bootStatus : Bytes
  dormantAt : Nat
  debugUnlocked : Bool
  debugFailures : Nat
  challenge : Nat
  ctlUntil : Nat
  tap : TapInstr
  deriving DecidableEq, Repr

/-- The state of the block. -/
structure State where
  part : Part
  pending : List Instr
  dict : Dict
  staged : List Staged
  nvm : Nvm
  tick : Tick
  own : Own
  ports : List PortState
  ingest : Ingest
  arrs : List Arr
  queues : List Queue
  mem : Mem
  fabric : Fabric
  host : HostLink
  bin : Binnacle
  log : Logbook
  keys : Keys
  panels : List Panel
  plat : Platform
  power : PowerCtl
  sent : List Sent
  free : Nat
  deriving DecidableEq, Repr

/-! ## The reset values of each part of the state -/

def Window.zero : Window :=
  { center := 0, half := 0, fix := none, failed := false, outside := false, closed := false,
    placed := false, later := false }

/-- OUTCOMES of four partitions, eight counts each (R29). -/
def outcomesZero : List (List Nat) := List.replicate 4 (List.replicate 8 0)

def Tick.zero : Tick :=
  { now := 0, frac := 0, gen := .halted, missCount := 0, tick := 0, nextTick := 0, started := false,
    startAt := 0, startSearch := false, meridian := 0, ranAt := 0, history := [], next := none,
    shortest := 0, longest := 0, slew := 0, error := 0, status := .none, window := Window.zero, realignAt := [],
    realignTick := false, realignFound := false,
    applied := false, outcomes := outcomesZero, faults := 0, framesDropped := 0, closing := none,
    lastReport := [], camActive := List.replicate 8 none, camDone := [], marked := false,
    gptp := { syncs := 0, lastSync := 0, interval := 0, pathDelays := [0, 0] } }

def Own.zero : Own :=
  { state := .vacant, owner := none, nonce := 0, lease := 0, successor := none,
    deadline := 0, vacancyCause := 0, claims := [], ranks := [], closeTick := 0 }

def PortState.zero : PortState :=
  { notifies := 0, waiting := [], peer := none, transfer := none, discarded := none, readSeq := 0, persistIndex := 0, linkUp := true }

def Frame.zero : Frame :=
  { counter := 0, capture := 0, tick := 0, offset := 0, flags := 0, epoch := 0, endTime := 0,
    payload := 0, blocks := 0, lines := 0, width := 0, height := 0, kind := 0, dataType := 0, dropsBefore := 0, lastDrop := 0,
    start := 0 }

def Buffer.zero : Buffer :=
  { state := .free, holder := .nobody, frame := Frame.zero, selectedBy := [], shapePending := false }

def Slot.zero : Slot :=
  { running := false, nextCounter := 0, first := true, filling := none,
    buffers := List.replicate 16 Buffer.zero, dropsBefore := 0, lastDrop := 0, bytesInTick := 0,
    overGuarantee := false, settingsNew := false, lastTableSeq := none, uncertain := none,
    epochs := [], epochNow := 0, lastFsCounter := 0, stats := [], drops := [], lastHeader := [], lastMarker := none }

def Ctx.zero : Ctx := { regions := none, current := [], pending := [], backlog := [] }

def FusionSet.zero : FusionSet := { drafts := [], records := [] }

def Ingest.zero : Ingest :=
  { slots := List.replicate 48 Slot.zero, ctxs := List.replicate 16 Ctx.zero,
    fusion := List.replicate 8 FusionSet.zero, i2c := List.replicate 8 [], windowTick := none, poolAt := 0 }

def Arr.zero : Arr :=
  { state := .off, powered := false, job := none, swapFirst := true, prevM := 0, prevI := 1,
    prevPair := (0, 0), prevOutFmt := 0, store := [], shadow := none, working := none, lanes := [], valid := true,
    gatingUnit := 0, share := [0, 0, 0, 0], lastCharge := 0, tile := .none, localising := false,
    verdict := 0 }

def Queue.zero : Queue :=
  { state := .disabled, haltBme := false, haltFlr := false, haltFabric := false, jobs := [],
    submitted := 0, sqBase := 0, cqBase := 0, ringOn := false, relaxed := false, log2 := 0, sqTail := 0,
    cqHead := 0, fetched := 0, guardSeen := [], fault := none, copyData := false }

def Mem.zero : Mem :=
  { cells := [], ue := [], ce := [], opUe := [], opCe := [], tlb := [], invalidating := [], tlbHigh := 0, tlbDone := 0,
    faultSeq := [0, 0, 0, 0], tfLast := [[], [], [], []], credits := [0, 0, 0, 0],
    spent := [false, false, false, false], trainedOnce := false }

def ControlRing.zero : ControlRing :=
  { enabled := false, log2 := 0, reqBase := 0, rspBase := 0, reqTail := 0, rspHead := 0, fetched := 0,
    written := 0, reserved := 0, notifyDropped := 0, heldRsp := [] }

def Mailbox.zero : Mailbox :=
  { inBuf := List.replicate 256 0, outBuf := List.replicate 256 0, inLen := 0, outLen := 0,
    inFull := false, outFull := false, overrun := false, out := [], plat := [], lost := [], touch := [],
    keysSent := 0, msgSeq := 0 }

def HostLink.zero : HostLink :=
  { linkUp := false, speed := 0, width := 0, bme := false, mse := false, functionReady := false, d3hot := false,
    barA := 0, barB := 0, maxPayload := 0, maxRead := 2, msixEnable := false, msixFunctionMask := false,
    msixTable := List.replicate 64 (0, 0), msixMasked := List.replicate 64 true, msixPending := List.replicate 64 false,
    latches := List.replicate 64 none, presets := List.replicate 64 0, placed := [], signals := [],
    ring := ControlRing.zero, mailboxes := List.replicate 8 Mailbox.zero,
    engines := List.replicate 8 { owner := none, reads := [], abandoned := [], held := none } }

def Binnacle.zero : Binnacle :=
  { state := .starting, faultN := true, reactions := [], clocks := [], rails := [], alive := 0,
    message := none, safetyInTick := 0, safetyInLast := 0, normalSince := false, normalAtLast := false,
    ends := [], lastSeq := 0, lastMechanism := 0, lastUnit := 255, dispatcherDown := false, dispatcherRef := 0,
    described := none }

def Logbook.zero : Logbook :=
  { ring := [], persist := [], copying := [], nextSeq := 1, lastSeq := 0, suppress := [] }

def Encoder.zero : Encoder :=
  { a := false, b := false, sub := 0, windowAt := none, windowEnd := 0, net := 0, lastStep := none }

def Keys.zero : Keys :=
  { scanning := false, activeAt := 0, lastScan := none, scanEnd := 0, scanPeriod := 2, idleScans := 0,
    pressed := [], reported := [], mute := [], runs := [], btnLast := none, btnPressed := [],
    btnReported := [], btnMute := [], btnRuns := [], encoders := List.replicate 8 Encoder.zero, fifo := [],
    nextSeq := 1, lock := .off, progress := 0, unlockAt := none, wakeRequest := false }

def Crossing.zero : Crossing := { crossed := false, run := 0 }

def Panel.zero : Panel :=
  { state := .off, cfg := none, frameSeq := 0, frameStart := none, lastStart := none, freq := 0, scanFreq := 0,
    hopTo := none, hopped := false, noisy := false, noise := Crossing.zero, noiseLevels := List.replicate 8 0,
    baselines := [], calibrated := [], baseCount := 0, negRuns := [], contacts := [], candidates := [],
    atStart := [], atStartFirst := false, raw := [], delta := [], reports := [], nextSeq := 1,
    result := List.replicate 88 0, quiet := false, fallback := false, fallbackWanted := false, lastEdge := none,
    edges := [], aligned := false, waitFrom := 0, goodEdges := 0 }

def Channel.zero : Channel :=
  { temp := 0, fault := false, fails := 0, warn := Crossing.zero, high := Crossing.zero,
    critical := Crossing.zero }

def Fan.zero : Fan :=
  { pulses := [], lastUpdate := none, rpm := 0, curve := 0, duty := 0, fault := false, lowSince := none, okSince := none }

def Platform.zero : Platform :=
  { sequence := none, aborted := none, enState := 0, pgState := 0, armed := 0,
    lost := 0, thermAt := none, vsupAt := none, battAt := none, channels := List.replicate 24 Channel.zero, trip := false, fans := List.replicate 2 Fan.zero,
    vsup := List.replicate 4 Crossing.zero, vsupMv := 0, battFails := 0, battStatus := 0,
    battWords := List.replicate 16 0, battSoc := List.replicate 2 Crossing.zero }

def PowerCtl.zero : PowerCtl :=
  { state := .booting, target := none, cause := 2, stepAt := 0, runAt := none,
    lastResult := List.replicate 16 0, wakePending := 0, wakeCause := 0, romOnly := false,
    microcodeOk := false, binnacleOk := false, bootStatus := List.replicate 24 0, dormantAt := 0,
    debugUnlocked := false, debugFailures := 0, challenge := 0, ctlUntil := 0, tap := .idcode }

def Nvm.zero : Nvm :=
  { bankA := some { vals := [], missing := [] }, bankB := none, currentIsB := false, storing := none,
    refMaps := [[], [], [], []], minSecurity := [0, 0, 0] }

/-- Stepping A0 of the full member (R76, R139, R224). -/
def Part.a0 (v : Variant) : Part :=
  { variant := v, stepping := 0, earlierAlmanacs := [], roundingProfile := 0x011C, replayProfile := 0x0102 }

/-- The block right after a power-on reset (R10, R357, R369): BOOTING, device time 0, the tick
generator halted, ownership vacant, FAULT_N asserted, every object at its default. -/
def State.reset : State :=
  { part := Part.a0 .z4860, pending := [], dict := [], staged := [], nvm := Nvm.zero, tick := Tick.zero,
    own := Own.zero, ports := List.replicate 4 PortState.zero, ingest := Ingest.zero,
    arrs := List.replicate 8 Arr.zero, queues := List.replicate 32 Queue.zero, mem := Mem.zero,
    fabric := { numberings := [], reads := [] }, host := HostLink.zero, bin := Binnacle.zero,
    log := Logbook.zero, keys := Keys.zero, panels := List.replicate 4 Panel.zero,
    plat := Platform.zero, power := PowerCtl.zero, sent := [], free := 1 }

end Sys2Proof.Machine
end

