-- ==== Sys2Proof/Machine/Objects.lean ====
section
/-! DEFINITION. Machine/Objects: the object dictionary as a table, one row per run of like objects:
type, access class, default, the value checks that concern the object alone, NVM backing, tick snapshot
and the unit whose absence makes it absent (R56 to R60, R65, R71, R84, R387), and the look-up by address.
A default that depends on the variant or the instance is a function of them. -/

namespace Sys2Proof.Machine

/-- Value types (R58). -/
inductive Ty where
  | bool | u8 | u16 | u32 | u64 | i8 | i16 | i32 | i64 | f32 | octets | string | domain
  deriving DecidableEq, Repr

/-- Access classes (R60). -/
inductive Access where
  | ro | rw | wo | rwi | rwm | const
  deriving DecidableEq, Repr

/-- A plain object, an event counter (R80, R81), or a sticky WRAP flag (R80). -/
inductive Kind where
  | plain | counter | wrap
  deriving DecidableEq, Repr

/-- The unit an object belongs to (R3, R387). -/
inductive Home where
  | always | slot | array | eth | touch | channel | endpoint
  deriving DecidableEq, Repr

/-- What a written value must meet by itself (R8, R9, R59): reserved bits and undefined encodings give
0x0402, ranges and alignments 0x0401, lengths 0x0403. -/
inductive Check where
  | any
  | range (lo hi : Nat)
  | srange (lo hi : Int)
  | rangeOr (lo hi other : Nat)
  | enum (codes : List Nat)
  | oneOf (values : List Nat)
  | mask (bits : Nat)
  | align (unit : Nat)
  | pow2 (lo hi : Nat)
  | one
  | len (n : Nat)
  | maxLen (n : Nat)
  | utf8 (max : Nat)
  deriving DecidableEq, Repr

/-- One row of the object table: `count` indices from `index` in steps of `stride`, subindices `lo` to
`hi`. `dflt` gives the default by variant, instance and subindex. -/
structure Obj where
  index : Nat
  count : Nat
  stride : Nat
  lo : Nat
  hi : Nat
  ty : Ty
  acc : Access
  kind : Kind
  dflt : Variant → Nat → Nat → Val
  check : Check
  nvm : Bool
  snap : Bool
  home : Home

/-- Code of a type (R58). -/
def Ty.code : Ty → Nat
  | .bool => 0x01 | .u8 => 0x02 | .u16 => 0x03 | .u32 => 0x04 | .u64 => 0x05 | .i8 => 0x06
  | .i16 => 0x07 | .i32 => 0x08 | .i64 => 0x09 | .f32 => 0x0A | .octets => 0x0B | .string => 0x0C
  | .domain => 0x0D

/-- Size in bytes of a fixed-size type, 0 for the others (R46, R58). -/
def Ty.size : Ty → Nat
  | .bool | .u8 | .i8 => 1
  | .u16 | .i16 => 2
  | .u32 | .i32 | .f32 => 4
  | .u64 | .i64 => 8
  | .octets | .string | .domain => 0

/-- Code of an access class (R60). -/
def Access.code : Access → Nat
  | .ro => 1 | .rw => 2 | .wo => 3 | .rwi => 4 | .rwm => 5 | .const => 6

/-- A default of 0. -/
def dZero : Variant → Nat → Nat → Val := fun _ _ _ => .num 0

/-- The same numeric default everywhere. -/
def dNum (x : Nat) : Variant → Nat → Nat → Val := fun _ _ _ => .num x

/-- Numeric defaults by subindex, from `lo`. -/
def dNums (lo : Nat) (xs : List Nat) : Variant → Nat → Nat → Val := fun _ _ k => .num (xs.getD (k - lo) 0)

/-- An empty byte string. -/
def dEmpty : Variant → Nat → Nat → Val := fun _ _ _ => .bytes []

/-- `k` bytes, all `b`. -/
def dFill (k b : Nat) : Variant → Nat → Nat → Val := fun _ _ _ => .bytes (List.replicate k (byteOf b))

/-- A factory byte string at the length that its object has. -/
def fixedBytes (k : Nat) (b : Bytes) : Bytes := (b ++ List.replicate (k - b.length) 0).take k

/-- PRODUCT_NAME (R74). -/
def productName : Variant → Bytes
  | .z4860 => [0x5A, 0x4E, 0x4C, 0x2D, 0x34, 0x38, 0x36, 0x30].map byteOf
  | .z4840 => [0x5A, 0x4E, 0x4C, 0x2D, 0x34, 0x38, 0x34, 0x30].map byteOf
  | .z4820 => [0x5A, 0x4E, 0x4C, 0x2D, 0x34, 0x38, 0x32, 0x30].map byteOf

/-- The identity colour matrix in Q3.12 (R114, R123). -/
def ccmIdentity : Bytes :=
  ([4096, 0, 0, 0, 4096, 0, 0, 0, 4096].map (leBytes 2)).flatten

/-- Four FP32 values of 1.0 (R123). -/
def scaleOnes : Bytes := (List.replicate 4 (leBytes 4 0x3F800000)).flatten

/-- FREQ_TABLE (R326). -/
def freqDefault : Bytes := ([100, 150, 200, 250, 300, 350, 400, 500].map (leBytes 2)).flatten

/-- FAN_CURVE (R355). -/
def fanCurveDefault : Bytes :=
  ([400, 200, 700, 400, 900, 800, 1000, 1000].map (leBytes 2)).flatten

/-- PLAT_PORT_CLASSES of ports 1 to 7 (R349, R354). -/
def platClassesDefault (v : Variant) (i : Nat) : Nat :=
  match i with
  | 0 => 0x01
  | 1 => if v.touch then 0x02 else 0x00
  | 2 => 0x0C
  | 3 => 0x10
  | _ => 0

def tickObjsA : List Obj := [
  ⟨0x0800, 1, 1, 0x01, 0x01, .u64, .ro, .plain, dZero, .any, false, false, .always⟩,
  ⟨0x0800, 1, 1, 0x02, 0x02, .u8, .rwi, .plain, dZero, .enum [0, 1, 2], true, false, .always⟩,
  ⟨0x0800, 1, 1, 0x03, 0x03, .u8, .rwi, .plain, dZero, .range 0 127, true, false, .always⟩,
  ⟨0x0800, 1, 1, 0x04, 0x04, .u8, .ro, .plain, dZero, .any, false, false, .always⟩,
  ⟨0x0800, 1, 1, 0x05, 0x05, .i64, .ro, .plain, dZero, .any, false, false, .always⟩,
  ⟨0x0800, 1, 1, 0x06, 0x06, .i32, .ro, .plain, dZero, .any, false, false, .always⟩,
  ⟨0x0810, 1, 1, 0x01, 0x01, .u32, .rwm, .plain, dNum 33333, .range 8333 100000, true, false, .always⟩,
  ⟨0x0810, 1, 1, 0x02, 0x02, .u8, .rwm, .plain, dZero, .enum [0, 1, 2, 3, 4, 5, 6], true, false, .always⟩,
  ⟨0x0810, 1, 1, 0x03, 0x03, .u16, .rwm, .plain, dNum 0xa, .mask 0x01FF, true, false, .always⟩,
  ⟨0x0810, 1, 1, 0x04, 0x04, .u8, .rwm, .plain, dNum 16, .range 1 16, true, false, .always⟩,
  ⟨0x0810, 1, 1, 0x05, 0x05, .u8, .rwm, .plain, dNum 16, .range 0 32, true, false, .always⟩,
  ⟨0x0810, 1, 1, 0x06, 0x06, .i32, .rwm, .plain, dZero, .any, true, false, .always⟩,
  ⟨0x0810, 1, 1, 0x07, 0x07, .u64, .rwm, .plain, dZero, .any, false, false, .always⟩,
  ⟨0x0810, 1, 1, 0x08, 0x08, .u16, .rwi, .plain, dNum 50, .range 10 1000, true, false, .always⟩,
  ⟨0x0810, 1, 1, 0x09, 0x09, .u16, .rwm, .plain, dNum 100, .range 0 5000, true, false, .always⟩,
  ⟨0x0810, 1, 1, 0x0A, 0x0A, .u16, .rwm, .plain, dNum 400, .range 200 5000, true, false, .always⟩,
  ⟨0x0810, 1, 1, 0x0B, 0x0B, .u8, .rwm, .plain, dNum 0x1, .mask 3, true, false, .always⟩,
  ⟨0x0810, 1, 1, 0x0C, 0x0C, .u8, .wo, .plain, dZero, .one, false, false, .always⟩,
  ⟨0x0811, 1, 1, 0x01, 0x01, .u32, .ro, .plain, dZero, .any, false, false, .always⟩,
  ⟨0x0811, 1, 1, 0x02, 0x02, .u32, .ro, .plain, dZero, .any, false, false, .always⟩,
  ⟨0x0811, 1, 1, 0x03, 0x03, .u32, .ro, .plain, dZero, .any, false, false, .always⟩,
  ⟨0x0820, 1, 1, 0x01, 0x01, .u64, .ro, .plain, dZero, .any, false, false, .always⟩,
  ⟨0x0820, 1, 1, 0x02, 0x02, .u8, .ro, .plain, dZero, .any, false, false, .always⟩,
  ⟨0x0820, 1, 1, 0x03, 0x03, .u8, .ro, .plain, dZero, .any, false, false, .always⟩]

def tickObjsB : List Obj := [
  ⟨0x0830, 1, 1, 0x01, 0x06, .u64, .rw, .counter, dZero, .any, false, true, .always⟩,
  ⟨0x0831, 1, 1, 0x01, 0x06, .bool, .rw, .wrap, dZero, .any, false, false, .always⟩,
  ⟨0x0840, 8, 1, 0x01, 0x01, .bool, .rwm, .plain, dZero, .any, true, false, .always⟩,
  ⟨0x0840, 8, 1, 0x02, 0x02, .u32, .rwm, .plain, dZero, .any, true, false, .always⟩,
  ⟨0x0840, 8, 1, 0x03, 0x03, .u16, .rwm, .plain, dNum 10, .range 1 1000, true, false, .always⟩,
  ⟨0x0840, 8, 1, 0x04, 0x04, .u8, .rwm, .plain, dZero, .enum [0, 1], true, false, .always⟩,
  ⟨0x0840, 8, 1, 0x05, 0x05, .u8, .rwm, .plain, dNum 1, .range 1 16, true, false, .always⟩,
  ⟨0x0840, 8, 1, 0x06, 0x06, .u8, .rwm, .plain, dZero, .any, true, false, .always⟩,
  ⟨0x0860, 1, 1, 0x01, 0x01, .u64, .rwi, .plain, dZero, .align 4096, false, false, .always⟩,
  ⟨0x0860, 1, 1, 0x02, 0x02, .u16, .rwi, .plain, dNum 16, .pow2 2 256, false, false, .always⟩,
  ⟨0x0861, 1, 1, 0x01, 0x38, .u32, .rwm, .plain, dZero, .any, false, false, .always⟩,
  ⟨0x0880, 1, 1, 0x01, 0x01, .domain, .ro, .plain, dEmpty, .any, false, false, .always⟩]

def tickObjs : List Obj := tickObjsA ++ tickObjsB

def portObjsA : List Obj := [
  ⟨0x0200, 1, 1, 0x01, 0x01, .u8, .ro, .plain, dZero, .any, false, false, .always⟩,
  ⟨0x0200, 1, 1, 0x02, 0x02, .u8, .ro, .plain, dZero, .any, false, false, .always⟩,
  ⟨0x0200, 1, 1, 0x03, 0x03, .u32, .ro, .plain, dZero, .any, false, false, .always⟩,
  ⟨0x0200, 1, 1, 0x04, 0x04, .u8, .ro, .plain, dZero, .any, false, false, .always⟩,
  ⟨0x0200, 1, 1, 0x05, 0x05, .u8, .ro, .plain, dZero, .any, false, false, .always⟩,
  ⟨0x0200, 1, 1, 0x06, 0x06, .u64, .ro, .plain, dZero, .any, false, false, .always⟩,
  ⟨0x0200, 1, 1, 0x07, 0x07, .u8, .ro, .plain, dZero, .any, false, false, .always⟩,
  ⟨0x0201, 1, 1, 0x01, 0x01, .u8, .rw, .plain, dNum 16, .range 4 255, true, false, .always⟩,
  ⟨0x0201, 1, 1, 0x02, 0x02, .u8, .rw, .plain, dNum 1, .range 1 8, true, false, .always⟩,
  ⟨0x0201, 1, 1, 0x03, 0x03, .u16, .rw, .plain, dNum 500, .range 10 5000, true, false, .always⟩,
  ⟨0x0202, 1, 1, 0x01, 0x04, .u8, .rwi, .plain, dNums 1 [12, 8, 4, 2], .range 0 15, true, false, .always⟩,
  ⟨0x0203, 1, 1, 0x01, 0x04, .u32, .rw, .plain, dNum 0x7fe, .mask 0x0FFE, true, false, .always⟩,
  ⟨0x0210, 1, 1, 0x01, 0x01, .u8, .rwi, .plain, dNum 32, .range 1 127, true, false, .always⟩,
  ⟨0x0210, 1, 1, 0x02, 0x02, .u16, .rwi, .plain, dNum 0x640, .range 0 1920, true, false, .always⟩,
  ⟨0x0210, 1, 1, 0x03, 0x03, .u16, .rwi, .plain, dNum 0x6c0, .range 0 1920, true, false, .always⟩,
  ⟨0x0210, 1, 1, 0x04, 0x04, .u8, .rwi, .plain, dZero, .enum [0, 1], true, false, .always⟩,
  ⟨0x0210, 1, 1, 0x05, 0x05, .u8, .rwi, .plain, dNum 3, .enum [0, 1, 2, 3], true, false, .always⟩,
  ⟨0x0214, 1, 1, 0x01, 0x01, .octets, .ro, .plain, fun _ _ _ => .bytes (fixedBytes 6 Config.portEMac), .any, false, false, .always⟩,
  ⟨0x0214, 1, 1, 0x02, 0x02, .u8, .rwi, .plain, dNum 1, .any, true, false, .always⟩,
  ⟨0x0214, 1, 1, 0x03, 0x03, .u8, .rwi, .plain, dNum 8, .range 1 255, true, false, .always⟩,
  ⟨0x0221, 4, 1, 0x01, 0x01, .u64, .rw, .counter, dZero, .any, false, false, .always⟩,
  ⟨0x0221, 4, 1, 0x02, 0x02, .u64, .rw, .counter, dZero, .any, false, false, .always⟩,
  ⟨0x0221, 4, 1, 0x03, 0x03, .u64, .rw, .counter, dZero, .any, false, false, .always⟩,
  ⟨0x0221, 4, 1, 0x04, 0x04, .u64, .rw, .counter, dZero, .any, false, false, .always⟩]

def portObjsB : List Obj := [
  ⟨0x0221, 4, 1, 0x11, 0x14, .bool, .rw, .wrap, dZero, .any, false, false, .always⟩]

def portObjs : List Obj := portObjsA ++ portObjsB

def identityObjsA : List Obj := [
  ⟨0x0100, 1, 1, 0x01, 0x01, .u16, .const, .plain, fun _ _ _ => .num Config.vendorId, .any, false, false, .always⟩,
  ⟨0x0100, 1, 1, 0x02, 0x02, .u16, .const, .plain, fun v _ _ => .num v.deviceId, .any, false, false, .always⟩,
  ⟨0x0100, 1, 1, 0x03, 0x03, .u8, .const, .plain, dZero, .any, false, false, .always⟩,
  ⟨0x0100, 1, 1, 0x04, 0x04, .octets, .const, .plain, fun _ _ _ => .bytes (fixedBytes 8 Config.serialNumber), .any, false, false, .always⟩,
  ⟨0x0100, 1, 1, 0x05, 0x05, .string, .const, .plain, fun v _ _ => .bytes (productName v), .any, false, false, .always⟩,
  ⟨0x0100, 1, 1, 0x06, 0x06, .u32, .ro, .plain, dZero, .any, false, false, .always⟩,
  ⟨0x0100, 1, 1, 0x07, 0x07, .u32, .ro, .plain, dZero, .any, false, false, .always⟩,
  ⟨0x0100, 1, 1, 0x08, 0x08, .u32, .ro, .plain, dZero, .any, false, false, .always⟩,
  ⟨0x0100, 1, 1, 0x09, 0x09, .u16, .const, .plain, dNum 0x100, .any, false, false, .always⟩,
  ⟨0x0110, 1, 1, 0x01, 0x01, .u8, .const, .plain, fun v _ _ => .num v.arrays, .any, false, false, .always⟩,
  ⟨0x0110, 1, 1, 0x02, 0x02, .u8, .const, .plain, fun v _ _ => .num v.arrayMask, .any, false, false, .always⟩,
  ⟨0x0110, 1, 1, 0x03, 0x03, .u32, .const, .plain, dNum 4096, .any, false, false, .always⟩,
  ⟨0x0110, 1, 1, 0x04, 0x04, .u8, .const, .plain, fun v _ _ => .num v.slots, .any, false, false, .always⟩,
  ⟨0x0110, 1, 1, 0x05, 0x05, .u8, .const, .plain, fun v _ _ => .num v.channels, .any, false, false, .always⟩,
  ⟨0x0110, 1, 1, 0x06, 0x06, .u32, .const, .plain, fun v _ _ => .num v.chartKib, .any, false, false, .always⟩,
  ⟨0x0110, 1, 1, 0x07, 0x07, .u8, .const, .plain, fun v _ _ => .num v.ethPorts, .any, false, false, .always⟩,
  ⟨0x0110, 1, 1, 0x08, 0x08, .u8, .const, .plain, fun v _ _ => .num (if v.touch then 4 else 0), .any, false, false, .always⟩,
  ⟨0x0110, 1, 1, 0x09, 0x09, .u16, .const, .plain, fun v _ _ => .num (if v.touch then 128 else 0), .any, false, false, .always⟩,
  ⟨0x0110, 1, 1, 0x0A, 0x0A, .u16, .const, .plain, fun v _ _ => .num (if v.touch then 192 else 0), .any, false, false, .always⟩,
  ⟨0x0110, 1, 1, 0x0B, 0x0B, .u16, .const, .plain, fun v _ _ => .num v.formats, .any, false, false, .always⟩,
  ⟨0x0110, 1, 1, 0x0C, 0x0C, .u8, .const, .plain, fun v _ _ => .num (b2n v.training), .any, false, false, .always⟩,
  ⟨0x0110, 1, 1, 0x0D, 0x0D, .u8, .const, .plain, dNum 8, .any, false, false, .always⟩,
  ⟨0x0110, 1, 1, 0x0E, 0x0E, .u8, .const, .plain, dNum 2, .any, false, false, .always⟩,
  ⟨0x0110, 1, 1, 0x0F, 0x0F, .u8, .const, .plain, dNum 4, .any, false, false, .always⟩]

def identityObjsB : List Obj := [
  ⟨0x0110, 1, 1, 0x10, 0x10, .u8, .const, .plain, dNum 8, .any, false, false, .always⟩,
  ⟨0x0110, 1, 1, 0x11, 0x11, .u8, .const, .plain, dNum 8, .any, false, false, .always⟩,
  ⟨0x0110, 1, 1, 0x12, 0x12, .u8, .const, .plain, dNum 32, .any, false, false, .always⟩,
  ⟨0x0110, 1, 1, 0x13, 0x13, .u8, .const, .plain, dNum 4, .any, false, false, .always⟩,
  ⟨0x0110, 1, 1, 0x14, 0x14, .u8, .const, .plain, dNum 8, .any, false, false, .always⟩,
  ⟨0x0110, 1, 1, 0x15, 0x15, .u16, .const, .plain, dNum 64, .any, false, false, .always⟩,
  ⟨0x0110, 1, 1, 0x16, 0x16, .u8, .const, .plain, dNum 2, .any, false, false, .always⟩,
  ⟨0x0110, 1, 1, 0x17, 0x17, .u8, .const, .plain, dNum 1, .any, false, false, .always⟩,
  ⟨0x0110, 1, 1, 0x18, 0x18, .u32, .ro, .plain, dZero, .any, false, false, .always⟩,
  ⟨0x0120, 1, 1, 0x01, 0x01, .domain, .ro, .plain, dEmpty, .any, false, false, .always⟩,
  ⟨0x0120, 1, 1, 0x02, 0x02, .u8, .const, .plain, dZero, .any, false, false, .always⟩,
  ⟨0x0120, 1, 1, 0x03, 0x03, .u8, .rwi, .plain, dZero, .any, true, false, .always⟩,
  ⟨0x0120, 1, 1, 0x04, 0x04, .domain, .ro, .plain, dEmpty, .any, false, false, .always⟩,
  ⟨0x0121, 1, 1, 0x01, 0x1F, .domain, .const, .plain, dEmpty, .any, false, false, .always⟩,
  ⟨0x0180, 1, 1, 0x01, 0x01, .u16, .ro, .plain, dZero, .any, false, false, .always⟩,
  ⟨0x0180, 1, 1, 0x02, 0x02, .domain, .ro, .plain, dEmpty, .any, false, false, .always⟩,
  ⟨0x0191, 1, 1, 0x01, 0x01, .domain, .ro, .plain, dEmpty, .any, false, false, .always⟩,
  ⟨0x0300, 1, 1, 0x01, 0x01, .u32, .wo, .plain, dZero, .oneOf [0x65766173], false, false, .always⟩,
  ⟨0x0300, 1, 1, 0x02, 0x02, .u32, .wo, .plain, dZero, .oneOf [0x64616F6C], false, false, .always⟩,
  ⟨0x0300, 1, 1, 0x03, 0x03, .u32, .wo, .plain, dZero, .oneOf [0x746C6664], false, false, .always⟩,
  ⟨0x0300, 1, 1, 0x04, 0x04, .u8, .ro, .plain, dZero, .any, false, false, .always⟩,
  ⟨0x0300, 1, 1, 0x05, 0x05, .u32, .ro, .plain, dZero, .any, false, false, .always⟩,
  ⟨0x0300, 1, 1, 0x06, 0x06, .u32, .ro, .counter, dZero, .any, false, false, .always⟩,
  ⟨0x0300, 1, 1, 0x16, 0x16, .bool, .rw, .wrap, dZero, .any, false, false, .always⟩]

def identityObjs : List Obj := identityObjsA ++ identityObjsB

def ingestObjsA : List Obj := [
  ⟨0x1000, 48, 8, 0x01, 0x01, .bool, .rwm, .plain, dZero, .any, true, false, .slot⟩,
  ⟨0x1000, 48, 8, 0x02, 0x02, .u8, .rwm, .plain, dZero, .enum [0, 1, 2, 3], true, false, .slot⟩,
  ⟨0x1000, 48, 8, 0x03, 0x03, .u8, .rwm, .plain, dZero, .any, true, false, .slot⟩,
  ⟨0x1000, 48, 8, 0x04, 0x04, .u8, .rwm, .plain, dZero, .any, true, false, .slot⟩,
  ⟨0x1000, 48, 8, 0x05, 0x05, .u8, .rwm, .plain, dNum 0x2b, .enum [30, 36, 42, 43, 44, 45, 46, 48, 49, 50, 51, 52, 53, 54, 55], true, false, .slot⟩,
  ⟨0x1000, 48, 8, 0x06, 0x06, .u16, .rwm, .plain, dNum 1920, .range 16 8192, true, false, .slot⟩,
  ⟨0x1000, 48, 8, 0x07, 0x07, .u16, .rwm, .plain, dNum 1080, .range 1 8192, true, false, .slot⟩,
  ⟨0x1000, 48, 8, 0x08, 0x08, .u8, .rwm, .plain, dZero, .range 0 7, true, false, .slot⟩,
  ⟨0x1000, 48, 8, 0x09, 0x09, .bool, .rwm, .plain, dZero, .any, true, false, .slot⟩,
  ⟨0x1000, 48, 8, 0x0A, 0x0A, .u32, .rwm, .plain, dZero, .any, true, false, .slot⟩,
  ⟨0x1000, 48, 8, 0x0B, 0x0B, .u32, .rwm, .plain, dNum 50000, .range 100 200000, true, false, .slot⟩,
  ⟨0x1000, 48, 8, 0x0C, 0x0C, .u32, .rwm, .plain, dZero, .range 0 8000000, true, false, .slot⟩,
  ⟨0x1001, 48, 8, 0x01, 0x01, .u64, .rw, .plain, dZero, .align 4096, false, false, .slot⟩,
  ⟨0x1001, 48, 8, 0x02, 0x02, .u8, .rw, .plain, dNum 4, .range 2 16, false, false, .slot⟩,
  ⟨0x1001, 48, 8, 0x03, 0x03, .u32, .rw, .plain, dZero, .align 4096, false, false, .slot⟩,
  ⟨0x1001, 48, 8, 0x04, 0x04, .u32, .ro, .plain, dZero, .any, false, false, .slot⟩,
  ⟨0x1001, 48, 8, 0x05, 0x05, .u8, .rw, .plain, dZero, .enum [0, 1], true, false, .slot⟩,
  ⟨0x1001, 48, 8, 0x06, 0x06, .u8, .rw, .plain, dNum 1, .range 0 3, true, false, .slot⟩,
  ⟨0x1001, 48, 8, 0x07, 0x07, .u8, .wo, .plain, dZero, .any, false, false, .slot⟩,
  ⟨0x1001, 48, 8, 0x08, 0x08, .u32, .ro, .plain, dZero, .any, false, false, .slot⟩,
  ⟨0x1001, 48, 8, 0x09, 0x09, .u8, .wo, .plain, dZero, .any, false, false, .slot⟩,
  ⟨0x1002, 48, 8, 0x01, 0x01, .u16, .rw, .plain, dNum 0x800, .any, true, false, .slot⟩,
  ⟨0x1002, 48, 8, 0x02, 0x02, .u16, .rw, .plain, dNum 0xffff, .rangeOr 0 4094 0xFFFF, true, false, .slot⟩,
  ⟨0x1002, 48, 8, 0x03, 0x03, .u16, .rw, .plain, dZero, .any, true, false, .slot⟩]

def ingestObjsB : List Obj := [
  ⟨0x1002, 48, 8, 0x04, 0x04, .u16, .rw, .plain, dZero, .range 0 1500, true, false, .slot⟩,
  ⟨0x1002, 48, 8, 0x05, 0x05, .u8, .rw, .plain, dZero, .enum [0, 1], true, false, .slot⟩,
  ⟨0x1002, 48, 8, 0x06, 0x06, .u16, .rw, .plain, dZero, .any, true, false, .slot⟩,
  ⟨0x1002, 48, 8, 0x07, 0x07, .u32, .rw, .plain, dZero, .any, true, false, .slot⟩,
  ⟨0x1002, 48, 8, 0x08, 0x08, .u8, .rw, .plain, dNum 1, .enum [0, 1], true, false, .slot⟩,
  ⟨0x1004, 48, 8, 0x01, 0x01, .u8, .rwm, .plain, dZero, .range 0 7, true, false, .slot⟩,
  ⟨0x1004, 48, 8, 0x02, 0x02, .u8, .rwm, .plain, dNum 2, .range 1 3, true, false, .slot⟩,
  ⟨0x1004, 48, 8, 0x03, 0x03, .u8, .rwm, .plain, dZero, .enum [0, 1], true, false, .slot⟩,
  ⟨0x1004, 48, 8, 0x04, 0x04, .domain, .rw, .plain, dEmpty, .maxLen 128, false, false, .slot⟩,
  ⟨0x1004, 48, 8, 0x05, 0x05, .u64, .rwm, .plain, dZero, .any, false, false, .slot⟩,
  ⟨0x1004, 48, 8, 0x06, 0x06, .u16, .ro, .plain, dZero, .any, false, false, .slot⟩,
  ⟨0x1004, 48, 8, 0x07, 0x07, .u32, .ro, .plain, dZero, .any, false, false, .slot⟩,
  ⟨0x1005, 48, 8, 0x01, 0x01, .bool, .rwm, .plain, dZero, .any, true, false, .slot⟩,
  ⟨0x1005, 48, 8, 0x02, 0x02, .u8, .rwm, .plain, dZero, .enum [0, 1, 2, 3, 4, 5], true, false, .slot⟩,
  ⟨0x1005, 48, 8, 0x03, 0x03, .u64, .rwm, .plain, dZero, .align 2048, false, false, .slot⟩,
  ⟨0x1005, 48, 8, 0x04, 0x04, .u8, .rwm, .plain, dNum 4, .pow2 2 64, false, false, .slot⟩,
  ⟨0x1006, 48, 8, 0x01, 0x01, .u32, .ro, .plain, dZero, .any, false, false, .slot⟩,
  ⟨0x1006, 48, 8, 0x02, 0x03, .u64, .rw, .counter, dZero, .any, false, true, .slot⟩,
  ⟨0x1006, 48, 8, 0x04, 0x0B, .u64, .rw, .counter, dZero, .any, false, false, .slot⟩,
  ⟨0x1006, 48, 8, 0x12, 0x1B, .bool, .rw, .wrap, dZero, .any, false, false, .slot⟩,
  ⟨0x1006, 48, 8, 0x0C, 0x0C, .u64, .rw, .counter, dZero, .any, false, false, .slot⟩,
  ⟨0x1006, 48, 8, 0x1C, 0x1C, .bool, .rw, .wrap, dZero, .any, false, false, .slot⟩,
  ⟨0x1007, 48, 8, 0x01, 0x01, .domain, .ro, .plain, dEmpty, .any, false, false, .slot⟩,
  ⟨0x1400, 8, 1, 0x01, 0x01, .bool, .rwm, .plain, dZero, .any, true, false, .always⟩]

def ingestObjsC : List Obj := [
  ⟨0x1400, 8, 1, 0x02, 0x02, .octets, .rwm, .plain, dFill 8 0xFF, .len 8, true, false, .always⟩,
  ⟨0x1400, 8, 1, 0x03, 0x03, .u8, .rwm, .plain, dZero, .any, true, false, .always⟩,
  ⟨0x1400, 8, 1, 0x04, 0x04, .i32, .rwm, .plain, dZero, .srange (-100000) 100000, true, false, .always⟩,
  ⟨0x1400, 8, 1, 0x05, 0x05, .u32, .rwm, .plain, dNum 2000, .range 0 50000, true, false, .always⟩,
  ⟨0x1400, 8, 1, 0x06, 0x06, .u64, .rwm, .plain, dZero, .align 256, false, false, .always⟩,
  ⟨0x1400, 8, 1, 0x07, 0x07, .u16, .rwm, .plain, dNum 8, .pow2 2 256, false, false, .always⟩,
  ⟨0x1400, 8, 1, 0x08, 0x09, .u64, .rw, .counter, dZero, .any, false, true, .always⟩,
  ⟨0x1400, 8, 1, 0x18, 0x19, .bool, .rw, .wrap, dZero, .any, false, false, .always⟩,
  ⟨0x1440, 1, 1, 0x01, 0x01, .u32, .rwm, .plain, dNum 2000, .any, true, false, .always⟩,
  ⟨0x1440, 1, 1, 0x02, 0x02, .u32, .rwm, .plain, dNum 4000, .range 500 20000, true, false, .always⟩,
  ⟨0x1448, 8, 1, 0x01, 0x01, .u8, .rwi, .plain, dNum 1, .enum [0, 1, 2], true, false, .always⟩,
  ⟨0x1448, 8, 1, 0x02, 0x02, .u64, .rw, .counter, dZero, .any, false, false, .always⟩,
  ⟨0x1460, 8, 1, 0x01, 0x01, .u8, .rwi, .plain, dZero, .enum [0, 1], true, false, .always⟩,
  ⟨0x1460, 8, 1, 0x02, 0x02, .u8, .rwi, .plain, dNum 4, .any, true, false, .always⟩,
  ⟨0x1460, 8, 1, 0x03, 0x03, .u16, .rwi, .plain, dNum 2500, .any, true, false, .always⟩,
  ⟨0x1460, 8, 1, 0x04, 0x06, .u64, .rw, .counter, dZero, .any, false, false, .always⟩,
  ⟨0x1470, 2, 1, 0x01, 0x02, .u64, .rw, .counter, dZero, .any, false, false, .eth⟩,
  ⟨0x1474, 2, 1, 0x01, 0x01, .u32, .rwi, .plain, dNum 48000, .range 8000 48000, true, false, .always⟩,
  ⟨0x147F, 1, 1, 0x01, 0x01, .u32, .const, .plain, fun v _ _ => .num v.ingestCapacity, .any, false, false, .always⟩,
  ⟨0x147F, 1, 1, 0x02, 0x02, .u32, .ro, .plain, dZero, .any, false, false, .always⟩,
  ⟨0x1448, 8, 1, 0x12, 0x12, .bool, .rw, .wrap, dZero, .any, false, false, .always⟩,
  ⟨0x1460, 8, 1, 0x14, 0x16, .bool, .rw, .wrap, dZero, .any, false, false, .always⟩,
  ⟨0x1470, 2, 1, 0x11, 0x12, .bool, .rw, .wrap, dZero, .any, false, false, .eth⟩]

def ingestObjs : List Obj := ingestObjsA ++ ingestObjsB ++ ingestObjsC

def shapingObjsA : List Obj := [
  ⟨0x1800, 16, 8, 0x01, 0x01, .bool, .rwm, .plain, dZero, .any, true, false, .always⟩,
  ⟨0x1800, 16, 8, 0x02, 0x02, .u8, .rwm, .plain, dZero, .any, true, false, .always⟩,
  ⟨0x1800, 16, 8, 0x03, 0x03, .u8, .rwm, .plain, dNum 1, .enum [0, 1, 2, 6], true, false, .always⟩,
  ⟨0x1800, 16, 8, 0x04, 0x04, .u8, .rwm, .plain, dZero, .mask 0x0F, true, false, .always⟩,
  ⟨0x1800, 16, 8, 0x05, 0x05, .octets, .rwm, .plain, dFill 8 0, .len 8, true, false, .always⟩,
  ⟨0x1800, 16, 8, 0x06, 0x06, .octets, .rwm, .plain, fun _ _ _ => .bytes ccmIdentity, .len 18, true, false, .always⟩,
  ⟨0x1800, 16, 8, 0x07, 0x07, .octets, .rwm, .plain, dFill 12 0, .len 12, true, false, .always⟩,
  ⟨0x1800, 16, 8, 0x08, 0x08, .octets, .rwm, .plain, dFill 16 0, .len 16, true, false, .always⟩,
  ⟨0x1800, 16, 8, 0x09, 0x09, .octets, .rwm, .plain, fun _ _ _ => .bytes scaleOnes, .len 16, true, false, .always⟩,
  ⟨0x1800, 16, 8, 0x0A, 0x0A, .i16, .rwm, .plain, dZero, .any, true, false, .always⟩,
  ⟨0x1801, 16, 8, 0x01, 0x01, .u8, .rw, .plain, dNum 1, .oneOf [1, 2, 3, 5, 7, 8], true, false, .always⟩,
  ⟨0x1801, 16, 8, 0x02, 0x02, .u8, .rw, .plain, dZero, .enum [0, 1], true, false, .always⟩,
  ⟨0x1801, 16, 8, 0x03, 0x03, .u8, .rw, .plain, dZero, .enum [0, 1], true, false, .always⟩,
  ⟨0x1802, 16, 8, 0x01, 0x01, .u8, .rw, .plain, dZero, .enum [0, 1], true, false, .always⟩,
  ⟨0x1802, 16, 8, 0x02, 0x02, .u64, .rw, .plain, dZero, .align 16, false, false, .always⟩,
  ⟨0x1802, 16, 8, 0x03, 0x03, .domain, .rw, .plain, dFill 16 0, .maxLen 144, true, false, .always⟩,
  ⟨0x1802, 16, 8, 0x04, 0x04, .u8, .rw, .plain, dNum 1, .range 0 8, true, false, .always⟩,
  ⟨0x1802, 16, 8, 0x05, 0x06, .u16, .rw, .plain, dNums 5 [224, 224], .range 8 2048, true, false, .always⟩,
  ⟨0x1803, 16, 8, 0x01, 0x01, .u8, .rw, .plain, dZero, .range 0 6, true, false, .always⟩,
  ⟨0x1803, 16, 8, 0x02, 0x02, .u8, .rw, .plain, dZero, .enum [0, 1], true, false, .always⟩,
  ⟨0x1803, 16, 8, 0x03, 0x04, .u16, .rw, .plain, dNums 3 [0, 0], .rangeOr 8 4096 0, true, false, .always⟩,
  ⟨0x1804, 16, 8, 0x01, 0x01, .u64, .rw, .plain, dZero, .align 4096, false, false, .always⟩,
  ⟨0x1804, 16, 8, 0x02, 0x02, .u32, .rw, .plain, dZero, .align 4096, false, false, .always⟩,
  ⟨0x1804, 16, 8, 0x03, 0x03, .u32, .ro, .plain, dZero, .any, false, false, .always⟩]

def shapingObjsB : List Obj := [
  ⟨0x1804, 16, 8, 0x04, 0x04, .u32, .ro, .plain, dZero, .any, false, false, .always⟩,
  ⟨0x1805, 16, 8, 0x01, 0x02, .u64, .rw, .counter, dZero, .any, false, true, .always⟩,
  ⟨0x1805, 16, 8, 0x03, 0x04, .u64, .rw, .counter, dZero, .any, false, false, .always⟩,
  ⟨0x1805, 16, 8, 0x11, 0x14, .bool, .rw, .wrap, dZero, .any, false, false, .always⟩,
  ⟨0x1880, 1, 1, 0x01, 0x01, .u8, .const, .plain, dNum 16, .any, false, false, .always⟩,
  ⟨0x1880, 1, 1, 0x02, 0x02, .u32, .const, .plain, dNum 6400, .any, false, false, .always⟩]

def shapingObjs : List Obj := shapingObjsA ++ shapingObjsB

def formatObjs : List Obj := [
  ⟨0x20C0, 1, 1, 0x01, 0x01, .u16, .const, .plain, dNum 0x011C, .any, false, false, .always⟩,
  ⟨0x20C0, 1, 1, 0x02, 0x02, .u16, .ro, .plain, dZero, .any, false, false, .always⟩,
  ⟨0x20C1, 8, 1, 0x01, 0x01, .u64, .rw, .counter, dZero, .any, false, true, .array⟩,
  ⟨0x20C1, 8, 1, 0x02, 0x02, .u64, .rw, .counter, dZero, .any, false, true, .array⟩,
  ⟨0x20C1, 8, 1, 0x03, 0x03, .u64, .rw, .counter, dZero, .any, false, true, .array⟩,
  ⟨0x20C1, 8, 1, 0x11, 0x13, .bool, .rw, .wrap, dZero, .any, false, false, .array⟩]

def arrayObjs : List Obj := [
  ⟨0x2000, 1, 1, 0x01, 0x01, .u8, .rwi, .plain, fun v _ _ => .num v.arrayMask, .any, true, false, .always⟩,
  ⟨0x2000, 1, 1, 0x02, 0x02, .u8, .ro, .plain, dZero, .any, false, false, .always⟩,
  ⟨0x2000, 1, 1, 0x03, 0x03, .f32, .rw, .plain, dNum 0x3A800000, .range 0x35800000 0x3D800000, true, false, .always⟩,
  ⟨0x2008, 8, 1, 0x01, 0x01, .u8, .ro, .plain, dZero, .any, false, false, .array⟩,
  ⟨0x2008, 8, 1, 0x02, 0x02, .u8, .ro, .plain, dZero, .any, false, false, .array⟩,
  ⟨0x2010, 8, 1, 0x01, 0x0A, .u64, .rw, .counter, dZero, .any, false, true, .array⟩,
  ⟨0x2010, 8, 1, 0x11, 0x1A, .bool, .rw, .wrap, dZero, .any, false, false, .array⟩,
  ⟨0x2080, 1, 1, 0x01, 0x04, .u64, .rw, .counter, dZero, .any, false, true, .always⟩,
  ⟨0x2080, 1, 1, 0x11, 0x14, .bool, .rw, .wrap, dZero, .any, false, false, .always⟩]

def jobObjsA : List Obj := [
  ⟨0x2400, 4, 1, 0x01, 0x01, .bool, .rwi, .plain, fun _ i _ => .num (if i < 2 then 1 else 0), .any, true, false, .always⟩,
  ⟨0x2400, 4, 1, 0x02, 0x02, .u32, .rwm, .plain, dZero, .any, true, false, .always⟩,
  ⟨0x2400, 4, 1, 0x03, 0x03, .u32, .rwm, .plain, dZero, .any, true, false, .always⟩,
  ⟨0x2400, 4, 1, 0x04, 0x04, .u8, .rwm, .plain, dNum 1, .range 0 7, true, false, .always⟩,
  ⟨0x2400, 4, 1, 0x05, 0x05, .u8, .ro, .plain, dZero, .any, false, false, .always⟩,
  ⟨0x2404, 1, 1, 0x01, 0x01, .u32, .const, .plain, fun v _ _ => .num v.bwCapacity, .any, false, false, .always⟩,
  ⟨0x2404, 1, 1, 0x02, 0x02, .u32, .const, .plain, dNum 73, .any, false, false, .always⟩,
  ⟨0x2404, 1, 1, 0x03, 0x03, .u32, .rwm, .plain, dNum 100, .range 60 200, true, false, .always⟩,
  ⟨0x2410, 8, 1, 0x01, 0x01, .octets, .rwm, .plain, dFill 64 0, .len 64, true, false, .array⟩,
  ⟨0x2410, 8, 1, 0x02, 0x02, .u8, .rwm, .plain, dNum 0xff, .enum [0, 1, 2, 3, 255], true, false, .array⟩,
  ⟨0x2410, 8, 1, 0x03, 0x03, .octets, .ro, .plain, dEmpty, .any, false, false, .array⟩,
  ⟨0x2420, 32, 2, 0x01, 0x01, .bool, .rwm, .plain, dZero, .any, true, false, .always⟩,
  ⟨0x2420, 32, 2, 0x02, 0x02, .u8, .rw, .plain, dNum 1, .range 0 3, true, false, .always⟩,
  ⟨0x2420, 32, 2, 0x03, 0x03, .u8, .rwm, .plain, dZero, .range 0 7, true, false, .always⟩,
  ⟨0x2420, 32, 2, 0x04, 0x04, .u8, .rwm, .plain, fun v _ _ => .num v.arrayMask, .any, true, false, .always⟩,
  ⟨0x2420, 32, 2, 0x05, 0x05, .u8, .rwm, .plain, dNum 4, .range 1 16, true, false, .always⟩,
  ⟨0x2420, 32, 2, 0x06, 0x06, .u8, .rw, .plain, dZero, .enum [0, 1], true, false, .always⟩,
  ⟨0x2420, 32, 2, 0x07, 0x07, .u64, .rw, .plain, dZero, .align 4096, false, false, .always⟩,
  ⟨0x2420, 32, 2, 0x08, 0x08, .u8, .ro, .plain, dZero, .any, false, false, .always⟩,
  ⟨0x2421, 32, 2, 0x01, 0x01, .u8, .wo, .plain, dZero, .one, false, false, .always⟩,
  ⟨0x2421, 32, 2, 0x02, 0x02, .u64, .rw, .plain, dZero, .any, false, false, .always⟩,
  ⟨0x2421, 32, 2, 0x03, 0x03, .u64, .rw, .plain, dZero, .align 1024, false, false, .always⟩,
  ⟨0x2421, 32, 2, 0x04, 0x04, .u8, .rw, .plain, dNum 0xff, .rangeOr 0 7 255, true, false, .always⟩,
  ⟨0x2421, 32, 2, 0x05, 0x05, .u64, .rw, .plain, dZero, .any, true, false, .always⟩]

def jobObjsB : List Obj := [
  ⟨0x2460, 4, 1, 0x01, 0x06, .u64, .rw, .counter, dZero, .any, false, true, .always⟩,
  ⟨0x2460, 4, 1, 0x11, 0x16, .bool, .rw, .wrap, dZero, .any, false, false, .always⟩]

def jobObjs : List Obj := jobObjsA ++ jobObjsB

def memoryObjsA : List Obj := [
  ⟨0x2800, 1, 1, 0x01, 0x01, .u64, .const, .plain, dNum 0x001000000000, .any, false, false, .always⟩,
  ⟨0x2800, 1, 1, 0x02, 0x02, .u64, .const, .plain, dNum 0x800000000000, .any, false, false, .always⟩,
  ⟨0x2800, 1, 1, 0x03, 0x03, .u16, .rwi, .plain, dNum 24, .range 1 168, true, false, .always⟩,
  ⟨0x2800, 1, 1, 0x04, 0x04, .u64, .wo, .plain, dZero, .any, false, false, .always⟩,
  ⟨0x2808, 4, 1, 0x01, 0x01, .domain, .rwi, .plain, dEmpty, .maxLen 256, true, false, .always⟩,
  ⟨0x2808, 4, 1, 0x02, 0x02, .u16, .ro, .plain, dZero, .any, false, false, .always⟩,
  ⟨0x2808, 4, 1, 0x03, 0x03, .u64, .rwi, .plain, dZero, .align 4096, true, false, .always⟩,
  ⟨0x2808, 4, 1, 0x04, 0x04, .u64, .rwi, .plain, dZero, .align 4096, false, false, .always⟩,
  ⟨0x2808, 4, 1, 0x05, 0x05, .u16, .rwi, .plain, dNum 16, .pow2 2 256, false, false, .always⟩,
  ⟨0x2808, 4, 1, 0x06, 0x06, .u32, .ro, .plain, dZero, .any, false, false, .always⟩,
  ⟨0x2808, 4, 1, 0x07, 0x07, .domain, .ro, .plain, dFill 32 0, .any, false, false, .always⟩,
  ⟨0x2810, 4, 1, 0x01, 0x02, .u64, .rw, .counter, dZero, .any, false, true, .always⟩,
  ⟨0x2810, 4, 1, 0x03, 0x04, .u64, .rw, .counter, dZero, .any, false, false, .always⟩,
  ⟨0x2810, 4, 1, 0x11, 0x14, .bool, .rw, .wrap, dZero, .any, false, false, .always⟩,
  ⟨0x2818, 3, 1, 0x01, 0x02, .u64, .rw, .counter, dZero, .any, false, true, .channel⟩,
  ⟨0x2818, 3, 1, 0x03, 0x03, .u64, .rw, .counter, dZero, .any, false, false, .channel⟩,
  ⟨0x2818, 3, 1, 0x11, 0x13, .bool, .rw, .wrap, dZero, .any, false, false, .channel⟩,
  ⟨0x281C, 1, 1, 0x01, 0x02, .u64, .rw, .counter, dZero, .any, false, true, .always⟩,
  ⟨0x281C, 1, 1, 0x03, 0x03, .u64, .rw, .counter, dZero, .any, false, false, .always⟩,
  ⟨0x281C, 1, 1, 0x11, 0x13, .bool, .rw, .wrap, dZero, .any, false, false, .always⟩,
  ⟨0x2820, 8, 1, 0x01, 0x02, .u64, .rw, .counter, dZero, .any, false, true, .array⟩,
  ⟨0x2820, 8, 1, 0x11, 0x12, .bool, .rw, .wrap, dZero, .any, false, false, .array⟩,
  ⟨0x2840, 32, 1, 0x01, 0x01, .u8, .rw, .plain, dZero, .enum [0, 1], true, false, .always⟩,
  ⟨0x2840, 32, 1, 0x02, 0x02, .u8, .ro, .plain, dZero, .any, false, false, .always⟩]

def memoryObjsB : List Obj := [
  ⟨0x2840, 32, 1, 0x03, 0x03, .u8, .wo, .plain, dZero, .enum [1, 2], false, false, .always⟩,
  ⟨0x2840, 32, 1, 0x04, 0x04, .u16, .rw, .plain, dNum 64, .any, true, false, .always⟩]

def memoryObjs : List Obj := memoryObjsA ++ memoryObjsB

def fabricObjs : List Obj := [
  ⟨0x2C00, 1, 1, 0x01, 0x01, .u32, .const, .plain, dNum 4000, .any, false, false, .always⟩,
  ⟨0x2C00, 1, 1, 0x02, 0x02, .u8, .const, .plain, dNum 3, .any, false, false, .always⟩,
  ⟨0x2C00, 1, 1, 0x03, 0x03, .u16, .const, .plain, dNum 0x0102, .any, false, false, .always⟩,
  ⟨0x2C00, 1, 1, 0x04, 0x04, .u16, .ro, .plain, dZero, .any, false, false, .always⟩,
  ⟨0x2C00, 1, 1, 0x05, 0x05, .domain, .ro, .plain, dFill 32 0, .any, false, false, .always⟩,
  ⟨0x2C00, 1, 1, 0x06, 0x06, .u8, .ro, .plain, dNum 0xff, .any, false, false, .always⟩,
  ⟨0x2C00, 1, 1, 0x07, 0x07, .u32, .ro, .plain, dZero, .any, false, false, .always⟩,
  ⟨0x2C01, 1, 1, 0x01, 0x03, .u64, .rw, .counter, dZero, .any, false, false, .always⟩,
  ⟨0x2C01, 1, 1, 0x11, 0x13, .bool, .rw, .wrap, dZero, .any, false, false, .always⟩,
  ⟨0x2C10, 24, 1, 0x01, 0x01, .u64, .rw, .counter, dZero, .any, false, false, .endpoint⟩,
  ⟨0x2C10, 24, 1, 0x02, 0x03, .u64, .rw, .counter, dZero, .any, false, true, .endpoint⟩,
  ⟨0x2C10, 24, 1, 0x04, 0x05, .u64, .rw, .counter, dZero, .any, false, false, .endpoint⟩,
  ⟨0x2C10, 24, 1, 0x06, 0x06, .u64, .rw, .counter, dZero, .any, false, true, .endpoint⟩,
  ⟨0x2C10, 24, 1, 0x07, 0x07, .u64, .rw, .counter, dZero, .any, false, false, .endpoint⟩,
  ⟨0x2C10, 24, 1, 0x11, 0x17, .bool, .rw, .wrap, dZero, .any, false, false, .endpoint⟩]

def hostObjs : List Obj := [
  ⟨0x3000, 1, 1, 0x01, 0x01, .domain, .rw, .plain, dEmpty, .maxLen 512, true, false, .always⟩,
  ⟨0x3000, 1, 1, 0x02, 0x02, .u8, .ro, .plain, dZero, .any, false, false, .always⟩,
  ⟨0x3001, 1, 1, 0x01, 0x40, .u32, .rw, .plain, dZero, .any, true, false, .always⟩,
  ⟨0x3040, 32, 1, 0x01, 0x01, .u8, .rw, .plain, fun _ i _ => .num (i % 8), .range 0 7, true, false, .always⟩,
  ⟨0x3020, 1, 1, 0x01, 0x05, .u64, .rw, .counter, dZero, .any, false, false, .always⟩,
  ⟨0x3020, 1, 1, 0x11, 0x15, .bool, .rw, .wrap, dZero, .any, false, false, .always⟩,
  ⟨0x3021, 16, 1, 0x01, 0x01, .u64, .ro, .plain, dZero, .any, false, false, .always⟩,
  ⟨0x3400, 8, 1, 0x01, 0x01, .u8, .rw, .plain, dZero, .enum [0, 1, 2], true, false, .always⟩,
  ⟨0x3400, 8, 1, 0x02, 0x02, .u8, .ro, .plain, dZero, .any, false, false, .always⟩,
  ⟨0x3400, 8, 1, 0x03, 0x05, .u64, .rw, .counter, dZero, .any, false, false, .always⟩,
  ⟨0x3400, 8, 1, 0x13, 0x15, .bool, .rw, .wrap, dZero, .any, false, false, .always⟩]

def safetyObjs : List Obj := [
  ⟨0x4000, 1, 1, 0x01, 0x01, .u8, .ro, .plain, dZero, .any, false, false, .always⟩,
  ⟨0x4000, 1, 1, 0x02, 0x02, .u16, .ro, .plain, dZero, .any, false, false, .always⟩,
  ⟨0x4000, 1, 1, 0x03, 0x03, .u32, .wo, .plain, dZero, .oneOf [0x6B636166], false, false, .always⟩,
  ⟨0x4000, 1, 1, 0x04, 0x04, .u32, .const, .plain, dNum 48, .any, false, false, .always⟩,
  ⟨0x4000, 1, 1, 0x05, 0x05, .u32, .const, .plain, dNum 160, .any, false, false, .always⟩,
  ⟨0x4000, 1, 1, 0x06, 0x06, .u8, .wo, .plain, dZero, .range 0 7, false, false, .always⟩,
  ⟨0x4001, 1, 1, 0x01, 0x01, .u8, .rwi, .plain, dNum 1, .enum [0, 1], true, false, .always⟩,
  ⟨0x4001, 1, 1, 0x02, 0x02, .u16, .rwi, .plain, dNum 0x110, .range 0 2047, true, false, .always⟩,
  ⟨0x4001, 1, 1, 0x03, 0x03, .u16, .rwi, .plain, dNum 0x5a01, .any, true, false, .always⟩,
  ⟨0x4001, 1, 1, 0x04, 0x04, .u16, .rwm, .plain, dNum 1500, .range 1000 20000, true, false, .always⟩,
  ⟨0x4001, 1, 1, 0x05, 0x05, .bool, .rwi, .plain, dNum 1, .any, true, false, .always⟩,
  ⟨0x4001, 1, 1, 0x06, 0x06, .u8, .rwi, .plain, dZero, .enum [0, 1], true, false, .always⟩,
  ⟨0x4001, 1, 1, 0x07, 0x07, .u8, .rwi, .plain, dNum 3, .enum [0, 1, 2, 3], true, false, .always⟩,
  ⟨0x4002, 1, 1, 0x01, 0x10, .u8, .rwm, .plain, dNum 0xff, .any, true, false, .always⟩,
  ⟨0x4020, 8, 1, 0x01, 0x01, .bool, .rwm, .plain, dZero, .any, true, false, .always⟩,
  ⟨0x4008, 8, 1, 0x01, 0x01, .u8, .ro, .plain, dZero, .any, false, false, .array⟩,
  ⟨0x4010, 1, 1, 0x01, 0x0A, .u64, .rw, .counter, dZero, .any, false, true, .always⟩,
  ⟨0x4010, 1, 1, 0x11, 0x1A, .bool, .rw, .wrap, dZero, .any, false, false, .always⟩,
  ⟨0x4018, 8, 1, 0x01, 0x04, .u64, .rw, .counter, dZero, .any, false, true, .array⟩,
  ⟨0x4018, 8, 1, 0x11, 0x14, .bool, .rw, .wrap, dZero, .any, false, false, .array⟩]

def logbookObjs : List Obj := [
  ⟨0x4400, 1, 1, 0x01, 0x01, .u16, .const, .plain, dNum 512, .any, false, false, .always⟩,
  ⟨0x4400, 1, 1, 0x02, 0x02, .u16, .ro, .plain, dZero, .any, false, false, .always⟩,
  ⟨0x4400, 1, 1, 0x03, 0x03, .u32, .ro, .plain, dZero, .any, false, false, .always⟩,
  ⟨0x4400, 1, 1, 0x04, 0x04, .u32, .ro, .plain, dZero, .any, false, false, .always⟩,
  ⟨0x4400, 1, 1, 0x05, 0x05, .u8, .rwi, .plain, dZero, .enum [0, 1], true, false, .always⟩,
  ⟨0x4400, 1, 1, 0x06, 0x06, .u32, .rw, .plain, dZero, .any, false, false, .always⟩,
  ⟨0x4400, 1, 1, 0x07, 0x07, .u32, .wo, .plain, dZero, .oneOf [0x726C636C], false, false, .always⟩,
  ⟨0x4400, 1, 1, 0x08, 0x08, .u32, .rw, .plain, dZero, .any, false, false, .always⟩,
  ⟨0x4400, 1, 1, 0x09, 0x09, .domain, .ro, .plain, dEmpty, .any, false, false, .always⟩,
  ⟨0x4400, 1, 1, 0x0A, 0x0A, .domain, .ro, .plain, dEmpty, .any, false, false, .always⟩,
  ⟨0x4401, 1, 1, 0x01, 0x01, .u8, .const, .plain, dNum 64, .any, false, false, .always⟩,
  ⟨0x4401, 1, 1, 0x02, 0x02, .u8, .ro, .plain, dZero, .any, false, false, .always⟩,
  ⟨0x4401, 1, 1, 0x03, 0x03, .u8, .rw, .plain, dZero, .range 0 63, false, false, .always⟩,
  ⟨0x4401, 1, 1, 0x04, 0x04, .domain, .ro, .plain, dEmpty, .any, false, false, .always⟩,
  ⟨0x4410, 1, 1, 0x01, 0x06, .u64, .rw, .counter, dZero, .any, false, false, .always⟩,
  ⟨0x4410, 1, 1, 0x11, 0x16, .bool, .rw, .wrap, dZero, .any, false, false, .always⟩]

def keyObjsA : List Obj := [
  ⟨0x5000, 1, 1, 0x01, 0x01, .u8, .rw, .plain, dNum 16, .range 1 16, true, false, .always⟩,
  ⟨0x5000, 1, 1, 0x02, 0x02, .u8, .rw, .plain, dNum 16, .range 1 16, true, false, .always⟩,
  ⟨0x5000, 1, 1, 0x03, 0x03, .u8, .rw, .plain, dNum 5, .range 1 31, true, false, .always⟩,
  ⟨0x5000, 1, 1, 0x04, 0x04, .u8, .rw, .plain, dNum 2, .range 1 16, true, false, .always⟩,
  ⟨0x5000, 1, 1, 0x05, 0x05, .u8, .rw, .plain, dNum 3, .range 2 31, true, false, .always⟩,
  ⟨0x5000, 1, 1, 0x06, 0x06, .u8, .rwm, .plain, dZero, .enum [0, 1], true, false, .always⟩,
  ⟨0x5000, 1, 1, 0x07, 0x07, .u16, .rwm, .plain, dZero, .any, true, false, .always⟩,
  ⟨0x5000, 1, 1, 0x08, 0x08, .octets, .rw, .plain, dFill 32 0xFF, .len 32, true, false, .always⟩,
  ⟨0x5000, 1, 1, 0x09, 0x09, .octets, .ro, .plain, dFill 32 0, .any, false, false, .always⟩,
  ⟨0x5000, 1, 1, 0x0A, 0x0A, .u8, .ro, .plain, dZero, .any, false, false, .always⟩,
  ⟨0x5004, 1, 1, 0x01, 0x01, .u16, .rw, .plain, dNum 0xffff, .any, true, false, .always⟩,
  ⟨0x5004, 1, 1, 0x02, 0x02, .u16, .rw, .plain, dNum 0xffff, .any, true, false, .always⟩,
  ⟨0x5004, 1, 1, 0x03, 0x03, .u8, .rw, .plain, dNum 1, .range 1 16, true, false, .always⟩,
  ⟨0x5004, 1, 1, 0x04, 0x04, .u8, .rw, .plain, dNum 3, .range 2 31, true, false, .always⟩,
  ⟨0x5004, 1, 1, 0x05, 0x05, .u16, .ro, .plain, dZero, .any, false, false, .always⟩,
  ⟨0x5008, 8, 1, 0x01, 0x01, .bool, .rw, .plain, dZero, .any, true, false, .always⟩,
  ⟨0x5008, 8, 1, 0x02, 0x02, .u8, .rw, .plain, dNum 4, .oneOf [1, 2, 4], true, false, .always⟩,
  ⟨0x5008, 8, 1, 0x03, 0x03, .u8, .rw, .plain, dNum 2, .range 0 15, true, false, .always⟩,
  ⟨0x5008, 8, 1, 0x04, 0x04, .u8, .rw, .plain, dZero, .enum [0, 1], true, false, .always⟩,
  ⟨0x5008, 8, 1, 0x05, 0x05, .i32, .rw, .plain, dZero, .any, false, false, .always⟩,
  ⟨0x5008, 8, 1, 0x06, 0x06, .bool, .rw, .wrap, dZero, .any, false, false, .always⟩,
  ⟨0x5008, 8, 1, 0x07, 0x07, .u8, .rw, .plain, dNum 4, .range 1 16, true, false, .always⟩,
  ⟨0x5010, 1, 1, 0x01, 0x01, .domain, .ro, .plain, dEmpty, .any, false, false, .always⟩,
  ⟨0x5010, 1, 1, 0x02, 0x02, .u8, .ro, .plain, dZero, .any, false, false, .always⟩]

def keyObjsB : List Obj := [
  ⟨0x5010, 1, 1, 0x03, 0x03, .u32, .wo, .plain, dZero, .any, false, false, .always⟩,
  ⟨0x5010, 1, 1, 0x04, 0x04, .u32, .ro, .plain, dNum 1, .any, false, false, .always⟩,
  ⟨0x5010, 1, 1, 0x05, 0x05, .bool, .rw, .plain, dNum 1, .any, true, false, .always⟩,
  ⟨0x5014, 1, 1, 0x01, 0x01, .u8, .rw, .plain, dZero, .enum [0, 1], false, false, .always⟩,
  ⟨0x5014, 1, 1, 0x02, 0x02, .u8, .rw, .plain, dNum 0x7, .mask 7, true, false, .always⟩,
  ⟨0x5014, 1, 1, 0x03, 0x03, .octets, .rw, .plain, dEmpty, .maxLen 8, true, false, .always⟩,
  ⟨0x5014, 1, 1, 0x04, 0x04, .u16, .rw, .plain, dNum 3000, .range 100 30000, true, false, .always⟩,
  ⟨0x5014, 1, 1, 0x05, 0x05, .bool, .rw, .plain, dZero, .any, true, false, .always⟩,
  ⟨0x5014, 1, 1, 0x06, 0x06, .u8, .ro, .plain, dZero, .any, false, false, .always⟩,
  ⟨0x5018, 1, 1, 0x01, 0x06, .u64, .rw, .counter, dZero, .any, false, false, .always⟩,
  ⟨0x5018, 1, 1, 0x11, 0x16, .bool, .rw, .wrap, dZero, .any, false, false, .always⟩]

def keyObjs : List Obj := keyObjsA ++ keyObjsB

def touchObjsA : List Obj := [
  ⟨0x5400, 4, 16, 0x01, 0x01, .bool, .rw, .plain, dZero, .any, true, false, .touch⟩,
  ⟨0x5400, 4, 16, 0x02, 0x02, .u8, .rw, .plain, fun _ i _ => .num (32 * i), .any, true, false, .touch⟩,
  ⟨0x5400, 4, 16, 0x03, 0x03, .u8, .rw, .plain, dNum 32, .range 1 128, true, false, .touch⟩,
  ⟨0x5400, 4, 16, 0x04, 0x04, .u8, .rw, .plain, fun _ i _ => .num (48 * i), .any, true, false, .touch⟩,
  ⟨0x5400, 4, 16, 0x05, 0x05, .u8, .rw, .plain, dNum 48, .range 1 192, true, false, .touch⟩,
  ⟨0x5400, 4, 16, 0x06, 0x07, .u16, .rw, .plain, dNums 6 [1920, 720], .range 1 32767, true, false, .touch⟩,
  ⟨0x5400, 4, 16, 0x08, 0x08, .u8, .rw, .plain, dZero, .mask 7, true, false, .touch⟩,
  ⟨0x5401, 4, 16, 0x01, 0x01, .u8, .rw, .plain, dNum 120, .range 1 240, true, false, .touch⟩,
  ⟨0x5401, 4, 16, 0x02, 0x02, .u8, .rwm, .plain, dZero, .enum [0, 1], true, false, .touch⟩,
  ⟨0x5401, 4, 16, 0x03, 0x03, .u8, .ro, .plain, dZero, .any, false, false, .touch⟩,
  ⟨0x5401, 4, 16, 0x04, 0x04, .u8, .rwm, .plain, dNum 4, .range 1 16, true, false, .touch⟩,
  ⟨0x5401, 4, 16, 0x05, 0x05, .u32, .rwm, .plain, dZero, .any, true, false, .touch⟩,
  ⟨0x5401, 4, 16, 0x06, 0x06, .u8, .rw, .plain, dNum 24, .range 8 64, true, false, .touch⟩,
  ⟨0x5401, 4, 16, 0x07, 0x07, .u16, .rw, .plain, dNum 200, .range 50 1000, true, false, .touch⟩,
  ⟨0x5401, 4, 16, 0x08, 0x08, .u8, .rw, .plain, dNum 10, .range 1 30, true, false, .touch⟩,
  ⟨0x5402, 4, 16, 0x01, 0x01, .u8, .rw, .plain, dZero, .enum [0, 1], true, false, .touch⟩,
  ⟨0x5402, 4, 16, 0x02, 0x02, .u8, .ro, .plain, dZero, .any, false, false, .touch⟩,
  ⟨0x5402, 4, 16, 0x03, 0x03, .octets, .rw, .plain, fun _ _ _ => .bytes freqDefault, .len 16, true, false, .touch⟩,
  ⟨0x5402, 4, 16, 0x04, 0x04, .u8, .rw, .plain, dNum 0xff, .range 1 255, true, false, .touch⟩,
  ⟨0x5402, 4, 16, 0x05, 0x05, .u8, .ro, .plain, dZero, .any, false, false, .touch⟩,
  ⟨0x5402, 4, 16, 0x06, 0x06, .octets, .ro, .plain, dFill 16 0, .any, false, false, .touch⟩,
  ⟨0x5402, 4, 16, 0x07, 0x07, .u16, .rw, .plain, dNum 400, .any, true, false, .touch⟩,
  ⟨0x5402, 4, 16, 0x08, 0x08, .u16, .rw, .plain, dNum 40, .any, true, false, .touch⟩,
  ⟨0x5402, 4, 16, 0x09, 0x09, .u8, .rw, .plain, dNum 4, .range 1 16, true, false, .touch⟩]

def touchObjsB : List Obj := [
  ⟨0x5402, 4, 16, 0x0A, 0x0A, .u8, .rw, .plain, fun _ i _ => .num i, .range 0 3, true, false, .touch⟩,
  ⟨0x5402, 4, 16, 0x0B, 0x0B, .u8, .rw, .plain, dZero, .enum [0, 1], true, false, .touch⟩,
  ⟨0x5402, 4, 16, 0x0C, 0x0C, .u16, .rw, .plain, dZero, .range 0 10000, true, false, .touch⟩,
  ⟨0x5402, 4, 16, 0x0D, 0x0D, .u16, .rw, .plain, dNum 400, .range 20 10000, true, false, .touch⟩,
  ⟨0x5402, 4, 16, 0x0E, 0x0E, .u8, .rw, .plain, dNum 50, .range 5 255, true, false, .touch⟩,
  ⟨0x5403, 4, 16, 0x01, 0x02, .u16, .rw, .plain, dNums 1 [120, 30], .any, true, false, .touch⟩,
  ⟨0x5403, 4, 16, 0x03, 0x04, .u8, .rw, .plain, dNums 3 [1, 2], .range 1 4, true, false, .touch⟩,
  ⟨0x5403, 4, 16, 0x05, 0x05, .u16, .rw, .plain, dNum 768, .range 64 8192, true, false, .touch⟩,
  ⟨0x5403, 4, 16, 0x06, 0x06, .u8, .rw, .plain, dNum 8, .range 1 255, true, false, .touch⟩,
  ⟨0x5403, 4, 16, 0x07, 0x07, .u8, .rw, .plain, dNum 2, .range 1 64, true, false, .touch⟩,
  ⟨0x5403, 4, 16, 0x08, 0x08, .u8, .rw, .plain, dNum 8, .range 1 255, true, false, .touch⟩,
  ⟨0x5403, 4, 16, 0x09, 0x09, .u8, .rw, .plain, dNum 30, .range 5 90, true, false, .touch⟩,
  ⟨0x5403, 4, 16, 0x0A, 0x0A, .u8, .rw, .plain, dNum 150, .range 110 250, true, false, .touch⟩,
  ⟨0x5404, 4, 16, 0x01, 0x01, .u8, .ro, .plain, dZero, .any, false, false, .touch⟩,
  ⟨0x5404, 4, 16, 0x02, 0x02, .u8, .ro, .plain, dNum 1, .any, false, false, .touch⟩,
  ⟨0x5404, 4, 16, 0x03, 0x03, .domain, .ro, .plain, dEmpty, .any, false, false, .touch⟩,
  ⟨0x5404, 4, 16, 0x04, 0x04, .domain, .ro, .plain, dFill 88 0, .any, false, false, .touch⟩,
  ⟨0x5404, 4, 16, 0x05, 0x05, .domain, .ro, .plain, dEmpty, .any, false, false, .touch⟩,
  ⟨0x5404, 4, 16, 0x06, 0x06, .u8, .ro, .plain, dZero, .any, false, false, .touch⟩,
  ⟨0x5404, 4, 16, 0x07, 0x07, .u32, .wo, .plain, dZero, .any, false, false, .touch⟩,
  ⟨0x5404, 4, 16, 0x08, 0x08, .u32, .ro, .plain, dNum 1, .any, false, false, .touch⟩,
  ⟨0x5404, 4, 16, 0x09, 0x09, .domain, .ro, .plain, dEmpty, .any, false, false, .touch⟩,
  ⟨0x5404, 4, 16, 0x0A, 0x0A, .domain, .ro, .plain, dEmpty, .any, false, false, .touch⟩,
  ⟨0x5405, 4, 16, 0x01, 0x08, .u64, .rw, .counter, dZero, .any, false, false, .touch⟩]

def touchObjsC : List Obj := [
  ⟨0x5405, 4, 16, 0x11, 0x18, .bool, .rw, .wrap, dZero, .any, false, false, .touch⟩,
  ⟨0x5480, 1, 1, 0x01, 0x01, .u8, .wo, .plain, dZero, .mask 0x0F, false, false, .touch⟩,
  ⟨0x5480, 1, 1, 0x02, 0x02, .bool, .rw, .plain, dNum 1, .any, true, false, .touch⟩]

def touchObjs : List Obj := touchObjsA ++ touchObjsB ++ touchObjsC

def platformObjsA : List Obj := [
  ⟨0x5800, 1, 1, 0x01, 0x01, .u8, .wo, .plain, dZero, .range 0 7, false, false, .always⟩,
  ⟨0x5800, 1, 1, 0x02, 0x02, .u8, .wo, .plain, dZero, .one, false, false, .always⟩,
  ⟨0x5800, 1, 1, 0x03, 0x03, .u8, .ro, .plain, dNum 0xff, .any, false, false, .always⟩,
  ⟨0x5800, 1, 1, 0x04, 0x04, .u8, .ro, .plain, dZero, .any, false, false, .always⟩,
  ⟨0x5800, 1, 1, 0x05, 0x06, .u32, .ro, .plain, dZero, .any, false, false, .always⟩,
  ⟨0x5800, 1, 1, 0x07, 0x07, .u32, .rw, .plain, dNum 0xffffffff, .any, true, false, .always⟩,
  ⟨0x5800, 1, 1, 0x08, 0x08, .u32, .rw, .plain, dNum 0xffffffff, .any, true, false, .always⟩,
  ⟨0x5800, 1, 1, 0x09, 0x09, .u16, .rw, .plain, dNum 10, .range 1 1000, true, false, .always⟩,
  ⟨0x5800, 1, 1, 0x0A, 0x0A, .u32, .rw, .plain, dZero, .any, true, false, .always⟩,
  ⟨0x5800, 1, 1, 0x0B, 0x0C, .u8, .rwi, .plain, dNums 11 [0, 0], .range 0 31, true, false, .always⟩,
  ⟨0x5800, 1, 1, 0x0D, 0x0D, .u32, .ro, .plain, dNum 0xffffffff, .any, false, false, .always⟩,
  ⟨0x5808, 8, 1, 0x01, 0x01, .string, .rw, .plain, dEmpty, .utf8 16, true, false, .always⟩,
  ⟨0x5808, 8, 1, 0x02, 0x02, .domain, .rw, .plain, dEmpty, .maxLen 512, true, false, .always⟩,
  ⟨0x5808, 8, 1, 0x03, 0x03, .domain, .ro, .plain, dFill 16 0, .any, false, false, .always⟩,
  ⟨0x5820, 1, 1, 0x01, 0x03, .u64, .rw, .counter, dZero, .any, false, false, .always⟩,
  ⟨0x5820, 1, 1, 0x11, 0x13, .bool, .rw, .wrap, dZero, .any, false, false, .always⟩,
  ⟨0x58F1, 7, 1, 0x01, 0x01, .u8, .rw, .plain, fun v i _ => .num (platClassesDefault v i), .mask 0x1F, true, false, .always⟩,
  ⟨0x58F8, 1, 1, 0x01, 0x01, .u8, .rw, .plain, dZero, .mask 7, true, false, .always⟩,
  ⟨0x58F8, 1, 1, 0x02, 0x02, .u8, .rw, .plain, dZero, .mask 7, false, false, .always⟩,
  ⟨0x58F9, 1, 1, 0x01, 0x03, .u64, .rw, .counter, dZero, .any, false, false, .always⟩,
  ⟨0x58F9, 1, 1, 0x11, 0x13, .bool, .rw, .wrap, dZero, .any, false, false, .always⟩,
  ⟨0x5C00, 1, 1, 0x01, 0x01, .u16, .rw, .plain, dNum 100, .range 10 1000, true, false, .always⟩,
  ⟨0x5C00, 1, 1, 0x02, 0x02, .u16, .rw, .plain, dNum 30, .range 5 200, true, false, .always⟩,
  ⟨0x5C00, 1, 1, 0x03, 0x03, .u8, .rw, .plain, dNum 4, .range 1 16, true, false, .always⟩]

def platformObjsB : List Obj := [
  ⟨0x5C00, 1, 1, 0x04, 0x04, .u32, .rw, .plain, dNum 0xfff, .mask 0x00FFFFFF, true, false, .always⟩,
  ⟨0x5C00, 1, 1, 0x05, 0x05, .bool, .rw, .plain, dZero, .any, true, false, .always⟩,
  ⟨0x5C00, 1, 1, 0x06, 0x06, .u8, .wo, .plain, dZero, .one, false, false, .always⟩,
  ⟨0x5C00, 1, 1, 0x07, 0x07, .bool, .ro, .plain, dZero, .any, false, false, .always⟩,
  ⟨0x5C00, 1, 1, 0x08, 0x08, .i16, .ro, .plain, dZero, .any, false, false, .always⟩,
  ⟨0x5C08, 1, 1, 0x01, 0x02, .u32, .rw, .plain, dNums 1 [10000, 10000], .range 100 1000000, true, false, .always⟩,
  ⟨0x5C08, 1, 1, 0x03, 0x03, .u16, .rw, .plain, dNum 3435, .range 1000 6000, true, false, .always⟩,
  ⟨0x5C08, 1, 1, 0x04, 0x04, .i16, .rw, .plain, dNum 250, .any, true, false, .always⟩,
  ⟨0x5C0C, 4, 1, 0x01, 0x01, .u8, .rw, .plain, dZero, .any, true, false, .always⟩,
  ⟨0x5C0C, 4, 1, 0x02, 0x02, .u8, .rw, .plain, dZero, .any, true, false, .always⟩,
  ⟨0x5C0C, 4, 1, 0x03, 0x03, .u8, .rw, .plain, dNum 1, .enum [0, 1], true, false, .always⟩,
  ⟨0x5C0C, 4, 1, 0x04, 0x04, .bool, .rw, .plain, dZero, .any, true, false, .always⟩,
  ⟨0x5C10, 24, 1, 0x01, 0x01, .bool, .rw, .plain, fun _ i _ => .num (if i < 12 then 1 else 0), .any, true, false, .always⟩,
  ⟨0x5C10, 24, 1, 0x02, 0x02, .i16, .ro, .plain, dZero, .any, false, false, .always⟩,
  ⟨0x5C10, 24, 1, 0x03, 0x03, .u8, .ro, .plain, dZero, .any, false, false, .always⟩,
  ⟨0x5C10, 24, 1, 0x04, 0x06, .i16, .rw, .plain, dNums 4 [950, 1050, 1150], .srange (-400) 1250, true, false, .always⟩,
  ⟨0x5C10, 24, 1, 0x07, 0x07, .i16, .rw, .plain, dZero, .srange (-200) 200, true, false, .always⟩,
  ⟨0x5C40, 2, 1, 0x01, 0x01, .u8, .rw, .plain, dNum 1, .enum [0, 1], true, false, .always⟩,
  ⟨0x5C40, 2, 1, 0x02, 0x02, .u16, .rw, .plain, dNum 500, .range 0 1000, true, false, .always⟩,
  ⟨0x5C40, 2, 1, 0x03, 0x03, .u32, .rw, .plain, dNum 25000, .range 1000 100000, true, false, .always⟩,
  ⟨0x5C40, 2, 1, 0x04, 0x04, .u8, .rw, .plain, dNum 2, .range 1 4, true, false, .always⟩,
  ⟨0x5C40, 2, 1, 0x05, 0x05, .octets, .rw, .plain, fun _ _ _ => .bytes fanCurveDefault, .len 16, true, false, .always⟩,
  ⟨0x5C40, 2, 1, 0x06, 0x06, .u32, .rw, .plain, dNum 0xfff, .mask 0x00FFFFFF, true, false, .always⟩,
  ⟨0x5C40, 2, 1, 0x07, 0x07, .u16, .rw, .plain, dNum 300, .any, true, false, .always⟩]

def platformObjsC : List Obj := [
  ⟨0x5C40, 2, 1, 0x08, 0x08, .u16, .rw, .plain, dNum 2000, .any, true, false, .always⟩,
  ⟨0x5C40, 2, 1, 0x09, 0x09, .u16, .rw, .plain, dNum 1000, .range 0 1000, true, false, .always⟩,
  ⟨0x5C40, 2, 1, 0x0A, 0x0A, .bool, .rw, .plain, dNum 1, .any, true, false, .always⟩,
  ⟨0x5C40, 2, 1, 0x0B, 0x0B, .u16, .ro, .plain, dZero, .any, false, false, .always⟩,
  ⟨0x5C40, 2, 1, 0x0C, 0x0C, .u16, .ro, .plain, dZero, .any, false, false, .always⟩,
  ⟨0x5C40, 2, 1, 0x0D, 0x0D, .u8, .ro, .plain, dZero, .any, false, false, .always⟩,
  ⟨0x5C50, 1, 1, 0x01, 0x04, .u64, .rw, .counter, dZero, .any, false, false, .always⟩,
  ⟨0x5C50, 1, 1, 0x11, 0x14, .bool, .rw, .wrap, dZero, .any, false, false, .always⟩,
  ⟨0x5E00, 1, 1, 0x01, 0x01, .u16, .ro, .plain, dZero, .any, false, false, .always⟩,
  ⟨0x5E00, 1, 1, 0x02, 0x02, .u16, .rw, .plain, dNum 11000, .range 1000 20000, true, false, .always⟩,
  ⟨0x5E00, 1, 1, 0x03, 0x03, .u16, .rw, .plain, dNum 100, .range 1 1000, true, false, .always⟩,
  ⟨0x5E00, 1, 1, 0x04, 0x04, .u16, .rw, .plain, dNum 200, .any, true, false, .always⟩,
  ⟨0x5E00, 1, 1, 0x05, 0x05, .u8, .rw, .plain, dNum 4, .range 1 16, true, false, .always⟩,
  ⟨0x5E00, 1, 1, 0x06, 0x09, .u16, .rw, .plain, dNums 6 [6000, 9000, 16000, 18000], .any, true, false, .always⟩,
  ⟨0x5E00, 1, 1, 0x0A, 0x0A, .u8, .ro, .plain, dZero, .any, false, false, .always⟩,
  ⟨0x5E10, 1, 1, 0x01, 0x01, .bool, .rw, .plain, dNum 1, .any, true, false, .always⟩,
  ⟨0x5E10, 1, 1, 0x02, 0x02, .u8, .rw, .plain, dNum 0xb, .range 0 127, true, false, .always⟩,
  ⟨0x5E10, 1, 1, 0x03, 0x03, .u16, .rw, .plain, dNum 1000, .range 100 10000, true, false, .always⟩,
  ⟨0x5E10, 1, 1, 0x04, 0x04, .u8, .rw, .plain, dNum 20, .any, true, false, .always⟩,
  ⟨0x5E10, 1, 1, 0x05, 0x05, .u8, .rw, .plain, dNum 5, .any, true, false, .always⟩,
  ⟨0x5E10, 1, 1, 0x06, 0x06, .u8, .rw, .plain, dNum 3, .any, true, false, .always⟩,
  ⟨0x5E10, 1, 1, 0x07, 0x07, .u8, .ro, .plain, dZero, .any, false, false, .always⟩,
  ⟨0x5E10, 1, 1, 0x08, 0x08, .domain, .ro, .plain, dFill 16 0, .any, false, false, .always⟩,
  ⟨0x5E20, 1, 1, 0x01, 0x02, .u64, .rw, .counter, dZero, .any, false, false, .always⟩]

def platformObjsD : List Obj := [
  ⟨0x5E20, 1, 1, 0x11, 0x12, .bool, .rw, .wrap, dZero, .any, false, false, .always⟩]

def platformObjs : List Obj := platformObjsA ++ platformObjsB ++ platformObjsC ++ platformObjsD

def powerObjs : List Obj := [
  ⟨0x0900, 1, 1, 0x01, 0x01, .u8, .ro, .plain, dNum 4, .any, false, false, .always⟩,
  ⟨0x0900, 1, 1, 0x02, 0x02, .u8, .wo, .plain, dZero, .range 0 3, false, false, .always⟩,
  ⟨0x0900, 1, 1, 0x03, 0x03, .u8, .ro, .plain, dNum 0xff, .any, false, false, .always⟩,
  ⟨0x0900, 1, 1, 0x04, 0x04, .domain, .ro, .plain, dFill 16 0, .any, false, false, .always⟩,
  ⟨0x0900, 1, 1, 0x05, 0x05, .u8, .rw, .plain, dNum 0x7, .mask 7, true, false, .always⟩,
  ⟨0x0900, 1, 1, 0x06, 0x06, .u8, .ro, .plain, dZero, .any, false, false, .always⟩,
  ⟨0x0910, 1, 1, 0x01, 0x01, .u8, .ro, .plain, dZero, .any, false, false, .always⟩,
  ⟨0x0910, 1, 1, 0x02, 0x02, .u32, .wo, .plain, dZero, .oneOf [0x74737277], false, false, .always⟩,
  ⟨0x0910, 1, 1, 0x03, 0x03, .u32, .wo, .plain, dZero, .oneOf [0x74737263], false, false, .always⟩,
  ⟨0x0911, 1, 1, 0x01, 0x05, .u64, .rw, .counter, dZero, .any, false, false, .always⟩,
  ⟨0x0911, 1, 1, 0x11, 0x15, .bool, .rw, .wrap, dZero, .any, false, false, .always⟩,
  ⟨0x0920, 1, 1, 0x01, 0x09, .u32, .ro, .plain, dZero, .any, false, false, .always⟩,
  ⟨0x0930, 1, 1, 0x01, 0x01, .domain, .ro, .plain, dFill 24 0, .any, false, false, .always⟩,
  ⟨0x0940, 1, 1, 0x01, 0x01, .u8, .ro, .plain, dZero, .any, false, false, .always⟩,
  ⟨0x0940, 1, 1, 0x02, 0x02, .octets, .ro, .plain, dFill 32 0, .any, false, false, .always⟩,
  ⟨0x0940, 1, 1, 0x03, 0x03, .octets, .wo, .plain, dEmpty, .len 128, false, false, .always⟩,
  ⟨0x0940, 1, 1, 0x04, 0x04, .u8, .wo, .plain, dZero, .one, false, false, .always⟩,
  ⟨0x0940, 1, 1, 0x05, 0x05, .u64, .ro, .counter, dZero, .any, false, false, .always⟩,
  ⟨0x0940, 1, 1, 0x15, 0x15, .bool, .rw, .wrap, dZero, .any, false, false, .always⟩,
  ⟨0xF000, 1, 1, 0x01, 0x01, .domain, .wo, .plain, dEmpty, .maxLen 65536, false, false, .always⟩,
  ⟨0xF000, 1, 1, 0x02, 0x02, .u32, .wo, .plain, dZero, .oneOf [0x726C6370], false, false, .always⟩,
  ⟨0xF000, 1, 1, 0x03, 0x03, .octets, .wo, .plain, dEmpty, .len 8, false, false, .always⟩]

/-- The rows of the chapter that owns an index (R71). -/
def rowsOf (index : Nat) : List Obj :=
  if index < 0x0200 then identityObjs
  else if index < 0x0300 then portObjs
  else if index < 0x0400 then identityObjs
  else if index < 0x0900 then tickObjs
  else if index < 0x1000 then powerObjs
  else if index < 0x1800 then ingestObjs
  else if index < 0x2000 then shapingObjs
  else if index < 0x2080 then arrayObjs
  else if index < 0x20C0 then arrayObjs
  else if index < 0x2400 then formatObjs
  else if index < 0x2800 then jobObjs
  else if index < 0x2C00 then memoryObjs
  else if index < 0x3000 then fabricObjs
  else if index < 0x4000 then hostObjs
  else if index < 0x4400 then safetyObjs
  else if index < 0x5000 then logbookObjs
  else if index < 0x5400 then keyObjs
  else if index < 0x5800 then touchObjs
  else if index < 0xF000 then platformObjs
  else powerObjs

/-- Whether a row covers an index. -/
def Obj.covers (o : Obj) (index : Nat) : Bool :=
  o.index ≤ index && (index - o.index) % o.stride == 0 && (index - o.index) / o.stride < o.count

/-- The row of an address and the instance it names. -/
def findObj (index sub : Nat) : Option (Obj × Nat) :=
  match (rowsOf index).find? (fun o => o.covers index && o.lo ≤ sub && sub ≤ o.hi) with
  | some o => some (o, (index - o.index) / o.stride)
  | none => none

/-- The row of an encoded address (R56). -/
def objAt (addr : Nat) : Option (Obj × Nat) := findObj (addr / 256) (addr % 256)

/-- Whether any object is defined at an index. -/
def indexDefined (index : Nat) : Bool := (rowsOf index).any (fun o => o.covers index)

/-- Whether the unit of instance `i` of a row is absent on a variant (R3, R387). -/
def Home.absent (h : Home) (v : Variant) (i : Nat) : Bool :=
  match h with
  | .always => false
  | .slot => v.slots ≤ i
  | .array => v.arrays ≤ i
  | .eth => v.ethPorts ≤ i
  | .touch => !v.touch
  | .channel => v.channels ≤ i
  | .endpoint => !v.endpoint i

/-- Whether the unit at an address is absent. -/
def absentAt (v : Variant) (addr : Nat) : Bool :=
  match objAt addr with
  | some (o, i) => o.home.absent v i
  | none => false

/-- Whether an address names a writable object (R60). -/
def Access.writable : Access → Bool
  | .ro | .const => false
  | .rw | .wo | .rwi | .rwm => true

/-- The default of an address (R65); 0 where no object stands. -/
def defaultAt (v : Variant) (addr : Nat) : Val :=
  match objAt addr with
  | some (o, i) => o.dflt v i (addr % 256)
  | none => .num 0

/-- A list with a number inserted in ascending order, once. -/
def insertSorted (x : Nat) : List Nat → List Nat
  | [] => [x]
  | y :: ys => if x < y then x :: y :: ys else if x == y then y :: ys else y :: insertSorted x ys

/-- The numbers of a list in ascending order, without repeats. -/
def sortedSet (xs : List Nat) : List Nat := xs.foldr insertSorted []

/-- The objects of the part in ascending address order (R73): for every index, its subindices. -/
def allIndices (os : List Obj) : List Nat :=
  sortedSet ((os.map (fun o => (List.range o.count).map (fun i => o.index + o.stride * i))).flatten)

/-- The addresses a list of rows defines at one index, ascending. -/
def addressesAt (os : List Obj) (index : Nat) : List Nat :=
  sortedSet (((os.filter (fun o => o.covers index)).map
    (fun o => (List.range (o.hi - o.lo + 1)).map (fun k => index * 256 + o.lo + k))).flatten)

/-- Every object table, in ascending order of the indices it owns. -/
def objTables : List (List Obj) :=
  [identityObjs.filter (fun o => o.index < 0x0200), portObjs, identityObjs.filter (fun o => 0x0300 ≤ o.index),
   tickObjs, powerObjs.filter (fun o => o.index < 0x1000), ingestObjs, shapingObjs, arrayObjs, formatObjs,
   jobObjs, memoryObjs, fabricObjs, hostObjs, safetyObjs, logbookObjs, keyObjs, touchObjs, platformObjs,
   powerObjs.filter (fun o => 0xF000 ≤ o.index)]

/-- Every object address, ascending (R73). -/
def allAddresses : List Nat :=
  (objTables.map (fun os => ((allIndices os).map (addressesAt os)).flatten)).flatten

end Sys2Proof.Machine
end

