-- ==== Sys2Proof/Machine/Ops.lean ====
section
/-! DEFINITION. Machine/Ops: the operations that every family of commands shares: the sparse register
file and its counters, device memory, device time and event stamps, what the device sends (host writes,
MSI-X messages, Shevy PDUs and NOTIFY), and free values. A block takes no exception (the machine has no
exception entry): raising a line or an error flag is a command's effect on `State`. -/

namespace Sys2Proof

/-- Index of a port in `ports` and in the object families of R54: C, H, E, S. -/
def Port.idx : Port → Nat
  | .C => 0 | .H => 1 | .E => 2 | .S => 3

/-- Port codes (R32). -/
def Port.code : Port → Nat
  | .C => 1 | .H => 2 | .E => 3 | .S => 4

/-- The port of a code (R32); none for 0 and above 4. -/
def Port.ofCode : Nat → Option Port
  | 1 => some .C | 2 => some .H | 3 => some .E | 4 => some .S | _ => none

/-- The four ports in order of their codes. -/
def allPorts : List Port := [.C, .H, .E, .S]

/-- Tie order (R32): H, C, E, S. -/
def Port.tie : Port → Nat
  | .H => 0 | .C => 1 | .E => 2 | .S => 3

end Sys2Proof

namespace Sys2Proof.Machine

/-! ## Lists -/

/-- A list with element `i` changed by `f`; unchanged where there is no such element. -/
def modifyAt (xs : List α) (i : Nat) (f : α → α) : List α :=
  match xs, i with
  | [], _ => []
  | x :: xs, 0 => f x :: xs
  | x :: xs, i + 1 => x :: modifyAt xs i f

/-- Element `i` of a list, or `d`. -/
def nth (xs : List α) (i : Nat) (d : α) : α := xs.getD i d

/-- The first `k` elements, with `d` after the end. -/
def padTo (xs : List α) (k : Nat) (d : α) : List α := (xs ++ List.replicate (k - xs.length) d).take k

/-- Sum of a list of numbers. -/
def sumNat (xs : List Nat) : Nat := xs.foldl (· + ·) 0

/-- Number of elements that satisfy a test. -/
def countIf (p : α → Bool) (xs : List α) : Nat := (xs.filter p).length

/-- The numbers `0` to `k - 1` whose bit is set in `m`. -/
def bitsOf (k m : Nat) : List Nat := (List.range k).filter (bitAt m)

/-- Bit `k` of `m` set or cleared. -/
def setBit (m k : Nat) (b : Bool) : Nat :=
  if bitAt m k == b then m else if b then m + 2 ^ k else m - 2 ^ k

/-- `x` rounded up to a multiple of `u`. -/
def roundUp (x u : Nat) : Nat := ((x + (u - 1)) / u) * u

/-- Quotient rounded up. -/
def ceilDiv (x y : Nat) : Nat := (x + (y - 1)) / y

/-- R85: `a` is later than `b` on 32-bit counters. -/
def later32 (a b : Nat) : Bool :=
  let d := (a + 2 ^ 32 - b % 2 ^ 32) % 2 ^ 32
  1 ≤ d && d < 2 ^ 31

/-- An integer held inside bounds. -/
def clampInt (x lo hi : Int) : Int := if x < lo then lo else if hi < x then hi else x

/-! ## The register file -/

/-- The value listed at an address. -/
def Dict.find : Dict → Nat → Option Val
  | [], _ => none
  | (a, v) :: d, x => if x < a then none else if x == a then some v else Dict.find d x

/-- The register file with an address unlisted. -/
def Dict.erase : Dict → Nat → Dict
  | [], _ => []
  | (a, v) :: d, x => if x < a then (a, v) :: d else if x == a then d else (a, v) :: Dict.erase d x

/-- The register file with a value listed. -/
def Dict.insert : Dict → Nat → Val → Dict
  | [], x, w => [(x, w)]
  | (a, v) :: d, x, w =>
    if x < a then (x, w) :: (a, v) :: d else if x == a then (x, w) :: d else (a, v) :: Dict.insert d x w

/-- The canonical form of the register file: strictly rising addresses, no entry equal to its default. -/
def Dict.wf (v : Variant) : Dict → Bool
  | [] => true
  | [(a, w)] => w != defaultAt v a
  | (a, w) :: (b, x) :: d => a < b && w != defaultAt v a && Dict.wf v ((b, x) :: d)

/-- A register file with a value stored: a default value removes the entry. -/
def Dict.set (v : Variant) (d : Dict) (a : Nat) (w : Val) : Dict :=
  if w == defaultAt v a then d.erase a else d.insert a w

/-- The applied value of an object (R60). -/
def State.valAt (s : State) (a : Nat) : Val := (s.dict.find a).getD (defaultAt s.part.variant a)

/-- The number an address holds (0 for a byte string). -/
def Val.toNat : Val → Nat
  | .num x => x
  | .bytes _ => 0

/-- The bytes an address holds (none for a number). -/
def Val.toBytes : Val → Bytes
  | .num _ => []
  | .bytes b => b

/-- The applied number at an address. -/
def State.numAt (s : State) (a : Nat) : Nat := (s.valAt a).toNat

/-- The applied byte string at an address. -/
def State.bytesAt (s : State) (a : Nat) : Bytes := (s.valAt a).toBytes

/-- The applied signed number at an address, of `w` bits. -/
def State.intAt (s : State) (w a : Nat) : Int := toSigned w (s.numAt a)

/-- Whether a BOOL object is set. -/
def State.flagAt (s : State) (a : Nat) : Bool := s.numAt a != 0

/-- The state with an object's applied value replaced. -/
def State.setVal (s : State) (a : Nat) (w : Val) : State :=
  { s with dict := s.dict.set s.part.variant a w }

/-- The state with a numeric object's applied value replaced. -/
def State.setNum (s : State) (a x : Nat) : State := s.setVal a (.num x)

/-! ## Counters (R80) -/

/-- The address of a counter's WRAP flag: sixteen subindices on, but for 0x0830, whose flags are 0x0831.
(DEDUCED, log 20, for the counters of 0x1448, 0x1460 and 0x1470, STORE_COUNT and DEBUG_UNLOCKS, whose tables list no
flag.) -/
def wrapFlagOf (a : Nat) : Nat := if a / 256 == 0x0830 then a + 256 else a + 0x10

/-- R80: a U64 counter counts `k` events; its WRAP flag is set where it passes its maximum. -/
def State.bumpBy (s : State) (a k : Nat) : State :=
  let x := s.numAt a + k
  if x < 2 ^ 64 then s.setNum a x
  else (s.setNum a (x % 2 ^ 64)).setNum (wrapFlagOf a) 1

/-- R80: one event. -/
def State.bump (s : State) (a : Nat) : State := s.bumpBy a 1

/-- R80: one event of a U32 counter. -/
def State.bumpWord (s : State) (a : Nat) : State :=
  let x := s.numAt a + 1
  if x < 2 ^ 32 then s.setNum a x else (s.setNum a 0).setNum (wrapFlagOf a) 1

/-! ## Free values -/

/-- The next free number, below `bound` (0 where `bound` is 0), and the state that has taken it. -/
def State.takeFree (s : State) (bound : Nat) : Nat × State :=
  (Config.freeNat s.free % bound, { s with free := s.free + 1 })

/-- The next free byte string of length `k`. -/
def State.takeFreeBytes (s : State) (k : Nat) : Bytes × State :=
  (padTo (Config.freeBytes s.free) k 0, { s with free := s.free + 1 })

/-! ## Device memory -/

/-- The canonical form of a memory: strictly rising addresses, no byte equal to 0. -/
def Memory.wf : Memory → Bool
  | [] => true
  | [(_, b)] => b != 0
  | (a, b) :: (c, d) :: m => a < c && b != 0 && Memory.wf ((c, d) :: m)

/-- The byte at an address: 0 where none is listed (DESIGN CHOICE, log 6). -/
def Memory.byte : Memory → Nat → Byte
  | [], _ => 0
  | (a, b) :: m, x => if x < a then 0 else if x == a then b else Memory.byte m x

/-- A memory with one byte written, in canonical form. -/
def Memory.put : Memory → Nat → Byte → Memory
  | [], x, w => if w == 0 then [] else [(x, w)]
  | (a, b) :: m, x, w =>
    if x < a then (if w == 0 then (a, b) :: m else (x, w) :: (a, b) :: m)
    else if x == a then (if w == 0 then m else (x, w) :: m)
    else (a, b) :: Memory.put m x w

/-- A memory with a byte string written from an address on. -/
def Memory.write (m : Memory) (x : Nat) : Bytes → Memory
  | [] => m
  | b :: bs => Memory.write (m.put x b) (x + 1) bs

/-- `k` bytes of a memory from an address on. -/
def Memory.read (m : Memory) (x k : Nat) : Bytes := (List.range k).map (fun i => m.byte (x + i))

/-- A memory that keeps only the bytes whose address satisfies a test. -/
def Memory.keep (p : Nat → Bool) (m : Memory) : Memory := m.filter (fun c => p c.1)

/-- `k` bytes of device memory or chart store. -/
def State.readMem (s : State) (x k : Nat) : Bytes := s.mem.cells.read x k

/-- A little-endian number of `k` bytes in device memory or chart store. -/
def State.readNum (s : State) (x k : Nat) : Nat := leNat (s.readMem x k)

/-- Bytes written to device memory or chart store. -/
def State.writeMem (s : State) (x : Nat) (bs : Bytes) : State :=
  { s with mem := { s.mem with cells := s.mem.cells.write x bs } }

/-! ## Access to the parts of the state that come in numbers -/

def State.slotAt (s : State) (n : Nat) : Slot := nth s.ingest.slots n Slot.zero
def State.setSlot (s : State) (n : Nat) (f : Slot → Slot) : State :=
  { s with ingest := { s.ingest with slots := modifyAt s.ingest.slots n f } }
def State.arrAt (s : State) (a : Nat) : Arr := nth s.arrs a Arr.zero
def State.setArr (s : State) (a : Nat) (f : Arr → Arr) : State := { s with arrs := modifyAt s.arrs a f }
def State.queueAt (s : State) (q : Nat) : Queue := nth s.queues q Queue.zero
def State.setQueue (s : State) (q : Nat) (f : Queue → Queue) : State :=
  { s with queues := modifyAt s.queues q f }
def State.panelAt (s : State) (p : Nat) : Panel := nth s.panels p Panel.zero
def State.setPanel (s : State) (p : Nat) (f : Panel → Panel) : State :=
  { s with panels := modifyAt s.panels p f }

def State.portAt (s : State) (p : Port) : PortState := nth s.ports p.idx PortState.zero
def State.setPort (s : State) (p : Port) (f : PortState → PortState) : State :=
  { s with ports := modifyAt s.ports p.idx f }

/-- R153: the array whose GATED_CELL_CYCLES an address is. -/
def gatedCounterOf (a : Nat) : Option Nat :=
  if 0x2010 ≤ a / 256 && a / 256 < 0x2018 && a % 256 == 4 then some (a / 256 - 0x2010) else none

/-- R81, R153: a counter is preset; that of gated cell-cycles is then in whole cell-cycles. -/
def State.presetCounter (s : State) (a : Nat) (v : Val) : State :=
  let s := s.setVal a v
  match gatedCounterOf a with
  | some k => s.setArr k (fun x => { x with gatingUnit := 0 })
  | none => s

/-! ## Time (R10, R13, R301) -/

/-- Whether the device is in DORMANT, where device time stands still for the model (R13, R366). -/
def State.dormant (s : State) : Bool := s.power.state == .dormant

/-- Whether no controller reset is under way (R371). -/
def State.ctlRuns (s : State) : Bool := s.power.ctlUntil ≤ s.tick.now

/-- Device time brought to `t` if that is later (R10: it never runs backwards); held in DORMANT. -/
def State.advance (s : State) (t : Nat) : State :=
  if s.dormant || t ≤ s.tick.now then s else { s with tick := { s.tick with now := t } }

/-- R10: one CTL cycle of 120 MHz: 25/3 ns times (1 + RATE_ADJUST × 10^-9), the fraction kept in units of
1 / (3 × 10^9) ns. No time passes for the model in DORMANT, where CTL is off (R358). -/
def State.idleCycle (s : State) : State :=
  if s.dormant then s
  else
    let total : Nat := s.tick.frac + (25 * (1000000000 + s.intAt 32 Adr.rateAdjust)).toNat
    { s with tick := { s.tick with now := s.tick.now + total / 3000000000, frac := total % 3000000000 } }

/-- A stamp in tick coordinates (R301). -/
structure Stamp where
  tick : Nat
  offset : Nat
  unticked : Bool
  deriving DecidableEq, Repr

/-- The newest meridian of a history at or before `t`. -/
def meridianBefore (h : List (Nat × Nat)) (t : Nat) : Option (Nat × Nat) := h.find? (fun e => e.2 ≤ t)

/-- R301: the stamp of device time `t`: the tick that holds it and the offset from its meridian, or, where
`t` precedes the first meridian since the generator last started, the number of the meridian to come. An event in
the very instant of that first meridian does not precede it. -/
def State.stampAt (s : State) (t : Nat) : Stamp :=
  match meridianBefore s.tick.history t with
  | some (n, m) => { tick := n, offset := t - m, unticked := false }
  | none =>
    match s.tick.history, s.tick.next with
    | [], some m =>
      { tick := s.tick.nextTick, offset := t - m, unticked := decide (t < m) }
    | [], none => { tick := s.tick.nextTick, offset := 0, unticked := true }
    | e :: h, _ => { tick := ((e :: h).getLast?.map (·.1)).getD s.tick.nextTick, offset := 0, unticked := true }

/-- The stamp of the present device time. -/
def State.stampNow (s : State) : Stamp := s.stampAt s.tick.now

/-! ## What the device sends -/

/-- The state after something was sent. -/
def State.emit (s : State) (x : Sent) : State := { s with sent := s.sent ++ [x] }

/-- Whether the device can make requests to host memory: link up, function ready and in D0, and bus-master enable set
(R228, R248, R249). -/
def State.hostOpen (s : State) : Bool := s.host.linkUp && s.host.functionReady && s.host.bme && !s.host.d3hot

/-- R233: whether the message of a vector can be sent: MSI-X enabled, and neither the function nor the vector masked. -/
def State.vectorOpen (s : State) (v : Nat) : Bool :=
  s.hostOpen && s.host.msixEnable && !s.host.msixFunctionMask && !(nth s.host.msixMasked v true)

/-- The message of a vector is written: its data to its address (R233). -/
def State.emitVector (s : State) (v : Nat) : State :=
  let e := nth s.host.msixTable v (0, 0)
  s.emit (.msix v e.1 e.2)

/-- R233: the message of an MSI-X vector: sent where it can be, its pending bit set otherwise. -/
def State.sendVector (s : State) (v : Nat) : State :=
  if s.vectorOpen v then s.emitVector v
  else { s with host := { s.host with msixPending := modifyAt s.host.msixPending v (fun _ => true) } }

/-- A posted write to host memory without Relaxed Ordering and without No Snoop (R30, R202, R242). -/
def State.hostWrite (s : State) (addr : Nat) (bs : Bytes) : State := s.emit (.hostWrite addr bs false false)

/-- Entries of a control ring (R244). -/
def ControlRing.size (r : ControlRing) : Nat := 2 ^ r.log2

/-- Response entries neither written-and-unconsumed nor reserved (R244). -/
def ControlRing.free (r : ControlRing) : Nat :=
  r.size - ((r.written + 2 ^ 32 - r.rspHead) % 2 ^ 32 + r.reserved)

/-- R244: one response-ring entry: the 16-byte header and the PDU, padded to 1 088 bytes. -/
def ringEntry (r : ControlRing) (pdu : Bytes) : Bytes :=
  let phase := if (r.written / r.size) % 2 == 0 then 1 else 0
  padTo (leBytes 2 pdu.length ++ leBytes 1 phase ++ [0] ++ leBytes 4 r.written ++ List.replicate 8 0 ++ pdu)
    1088 0

/-- R244: a PDU written to the next response entry, then vector 36 (R233). -/
def State.ringWrite (s : State) (pdu : Bytes) : State :=
  let r := s.host.ring
  let s := s.hostWrite (r.rspBase + (r.written % r.size) * 1088) (ringEntry r pdu)
  let s := { s with host := { s.host with ring := { r with written := (r.written + 1) % 2 ^ 32 } } }
  s.sendVector 36

/-- The serving side of a mailbox port (R246): true for the SPI side. -/
def State.spiServes (s : State) (m : Nat) : Bool :=
  match s.numAt (Adr.mbxSide m) with
  | 0 => !(s.host.linkUp && s.host.mse)
  | 1 => false
  | _ => true

def State.mailboxAt (s : State) (m : Nat) : Mailbox := nth s.host.mailboxes m Mailbox.zero
def State.setMailbox (s : State) (m : Nat) (f : Mailbox → Mailbox) : State :=
  { s with host := { s.host with mailboxes := modifyAt s.host.mailboxes m f } }

/-- A Shevy PDU queued behind the outbound buffer of mailbox port 0 (R245). -/
def State.mailShevy (s : State) (pdu : Bytes) : State :=
  s.setMailbox 0 (fun m => { m with out := m.out ++ [pdu] })

/-- The lengths a CAN FD frame may have (R47, ISO 11898-1). -/
def canLengths : List Nat := [0, 1, 2, 3, 4, 5, 6, 7, 8, 12, 16, 20, 24, 32, 48, 64]

/-- R47: a PDU padded with 0x00 to the next valid CAN FD data length. -/
def canPad (pdu : Bytes) : Bytes :=
  padTo pdu ((canLengths.find? (fun k => pdu.length ≤ k)).getD 64) 0

/-- R47: the Ethernet payload of a PDU on port E: tag, length, PDU. -/
def ethFrame (pdu : Bytes) : Bytes := [byteOf 0x53, byteOf 0x48] ++ beBytes 2 pdu.length ++ pdu

/-- R47, R54: the identifiers and rates of port C as the objects stand. -/
def State.canRoute (s : State) : Route :=
  { request := s.numAt Adr.canReqBase + s.numAt Adr.canNodeId, response := s.numAt Adr.canRspBase + s.numAt Adr.canNodeId,
    nominalRate := s.numAt Adr.canNominalRate, dataRate := s.numAt Adr.canDataRate }

/-- R47: the route to a MAC address. -/
def macRoute (mac : Nat) : Route := { request := 0, response := mac, nominalRate := 0, dataRate := 0 }

/-- R47, R54: the route of the response to a request that is accepted now. -/
def State.routeOf (s : State) (p : Port) (sender : Nat) : Route :=
  if p == .C then s.canRoute else macRoute sender

/-- R54: the identifiers and rates in force on port C: a write of them takes effect once its response has been sent, so
those of the oldest response still waiting. -/
def State.canInForce (s : State) : Route :=
  match (s.portAt .C).waiting with
  | [] => s.canRoute
  | w :: _ => w.route

/-- R47: the route of a NOTIFY: on port E to the source of the last request accepted, or to the broadcast address. -/
def State.notifyRoute (s : State) (p : Port) : Route :=
  if p == .C then s.canInForce else macRoute ((s.portAt p).peer.getD (2 ^ 48 - 1))

/-- R47: a PDU leaves on port C or E. -/
def State.sendFrame (s : State) (p : Port) (r : Route) (pdu : Bytes) : State :=
  if p == .C then s.emit (.canPdu r.response r.nominalRate r.dataRate (canPad pdu))
  else s.emit (.ethPdu r.response (padTo Config.portEMac 6 0) (ethFrame pdu))

/-- A response PDU leaves on its port (R47, R244, R245, R249): to port H it fills the response entry reserved
for it, is held while BME is clear, and is lost where the link is down or the ring disabled (DEDUCED, log 38). -/
def State.sendResponse (s : State) (p : Port) (r : Route) (pdu : Bytes) : State :=
  match p with
  | .C => s.sendFrame .C r pdu
  | .E => s.sendFrame .E r pdu
  | .S => s.mailShevy pdu
  | .H =>
    if !(s.host.linkUp && s.host.ring.enabled) then s
    else if s.hostOpen then
      let s := s.ringWrite pdu
      { s with host := { s.host with ring := { s.host.ring with reserved := s.host.ring.reserved - 1 } } }
    else { s with host := { s.host with ring := { s.host.ring with heldRsp := s.host.ring.heldRsp ++ [pdu] } } }

/-- R48: the end of a request: its response is queued for transmission, behind those accepted before it that still
wait. -/
def State.respond (s : State) (p : Port) (r : Route) (pdu : Bytes) : State :=
  if (s.portAt p).waiting.isEmpty then s.sendResponse p r pdu
  else s.setPort p (fun x => { x with waiting := x.waiting ++ [{ pdu := pdu, route := r, ready := true }] })

/-- R200, R48: a response that waits keeps its place in the order of acceptance. -/
def State.holdResponse (s : State) (p : Port) (r : Route) (pdu : Bytes) : State :=
  s.setPort p (fun x => { x with waiting := x.waiting ++ [{ pdu := pdu, route := r, ready := false }] })

/-- The first response that waits for its request to be done may go out. -/
def firstReady : List Waiting → List Waiting
  | [] => []
  | w :: ws => if w.ready then w :: firstReady ws else { w with ready := true } :: ws

/-- R48: the oldest held response of a port may go out, and with it those that waited behind it. -/
def State.releaseResponse (s : State) (p : Port) : State :=
  let ws := firstReady (s.portAt p).waiting
  let s := s.setPort p (fun x => { x with waiting := ws.dropWhile (·.ready) })
  (ws.takeWhile (·.ready)).foldl (fun s w => s.sendResponse p w.route w.pdu) s

/-- R244, R249: a NOTIFY on port H: it uses only an unreserved free entry, else it is dropped and
counted; while BME is clear or the ring is disabled it is not written. -/
def State.ringNotify (s : State) (pdu : Bytes) : State :=
  let r := s.host.ring
  if !(s.hostOpen && r.enabled) then s
  else if r.free == 0 then
    { s with host := { s.host with ring := { r with notifyDropped := min (r.notifyDropped + 1) (2 ^ 32 - 1) } } }
  else s.ringWrite pdu

/-- The NOTIFY PDU of a port (R45, R52). -/
def notifyPdu (seq addr event : Nat) (st : Stamp) (data : Bytes) : Bytes :=
  leBytes 1 9 ++ leBytes 1 seq ++ leBytes 2 (addr / 256) ++ leBytes 1 (addr % 256) ++ leBytes 1 0 ++
    leBytes 1 event ++ leBytes 1 (b2n st.unticked) ++ leBytes 8 st.tick ++ leBytes 4 st.offset ++
    padTo data 16 0

/-- Whether an event goes to a port (R53): events 1 to 4 always, any other where its mask bit is set. -/
def State.notifyEnabled (s : State) (p : Port) (event : Nat) : Bool :=
  (1 ≤ event && event ≤ 4) || bitAt (s.numAt (Adr.notifyMaskC + p.idx)) event

/-- One NOTIFY on one port: the count advances, and the PDU goes out (R45, R52). -/
def State.notifyOn (s : State) (p : Port) (event addr : Nat) (st : Stamp) (data : Bytes) : State :=
  if s.dormant || !s.notifyEnabled p event then s
  else
    let seq := (s.portAt p).notifies + 1
    let s := s.setPort p (fun x => { x with notifies := seq })
    let pdu := notifyPdu seq addr event st data
    match p with
    | .C => s.sendFrame .C (s.notifyRoute .C) pdu
    | .E => s.sendFrame .E (s.notifyRoute .E) pdu
    | .S => s.mailShevy pdu
    | .H => s.ringNotify pdu

/-- A NOTIFY on a list of ports, stamped. -/
def State.notifyPorts (s : State) (ps : List Port) (event addr : Nat) (st : Stamp) (data : Bytes) : State :=
  ps.foldl (fun s p => s.notifyOn p event addr st data) s

/-- R53: a NOTIFY on every port, stamped with the present time. -/
def State.notify (s : State) (event addr : Nat) (data : Bytes) : State :=
  s.notifyPorts allPorts event addr s.stampNow data

end Sys2Proof.Machine
end

