-- ==== Sys2Proof/Machine/Operands.lean ====
section
/-! DEFINITION. Machine/Operands: how a dictionary value is spelled in a payload and read from one
(R58, R46), the header of a Shevy response (R45), and the checks a value must meet by itself
(R8, R9, R58, R59), each with the abort code it gives. -/

namespace Sys2Proof.Machine

/-- Whether a type has a fixed size (R46): READ and WRITE carry only these. -/
def Ty.fixed (t : Ty) : Bool := t.size != 0

/-- The value a payload spells for a fixed-size type; bytes beyond the size are ignored (R46). -/
def decodeFixed (t : Ty) (payload : Bytes) : Option Val :=
  if payload.length < t.size then none else some (.num (leNat (payload.take t.size)))

/-- The bytes of a value of a type (R58). -/
def encodeVal (t : Ty) (v : Val) : Bytes :=
  match v with
  | .num x => leBytes t.size x
  | .bytes b => b

/-- A continuation byte of UTF-8. -/
def utf8Cont (b : Byte) : Bool := 0x80 ≤ b.toNat && b.toNat < 0xC0

/-- Well-formed UTF-8 (R58), on at most `fuel` characters. -/
def utf8Ok : Nat → Bytes → Bool
  | _, [] => true
  | 0, _ :: _ => false
  | f + 1, b :: bs =>
    let x := b.toNat
    if x < 0x80 then utf8Ok f bs
    else if 0xC2 ≤ x && x < 0xE0 then
      match bs with
      | c :: r => utf8Cont c && utf8Ok f r
      | _ => false
    else if 0xE0 ≤ x && x < 0xF0 then
      match bs with
      | c :: d :: r =>
        utf8Cont c && utf8Cont d && (x != 0xE0 || 0xA0 ≤ c.toNat) && (x != 0xED || c.toNat < 0xA0) && utf8Ok f r
      | _ => false
    else if 0xF0 ≤ x && x < 0xF5 then
      match bs with
      | c :: d :: e :: r =>
        utf8Cont c && utf8Cont d && utf8Cont e && (x != 0xF0 || 0x90 ≤ c.toNat) &&
          (x != 0xF4 || c.toNat < 0x90) && utf8Ok f r
      | _ => false
    else false

/-- Width in bits of a numeric type. -/
def Ty.bits (t : Ty) : Nat := 8 * t.size

/-- Whether an F32 encoding is a NaN or an infinity (R58). -/
def f32Special (x : Nat) : Bool := (x / 2 ^ 23) % 256 == 255

/-- A power of two. -/
def isPow2 (x : Nat) : Bool := (List.range 17).any (fun k => x == 2 ^ k)

/-- Step 6 of R64 for what concerns the value alone, without the rules of its layout: the abort code of
the first check that fails. 0x0402 comes before 0x0401 and 0x0403. -/
def checkAlone (t : Ty) (c : Check) (v : Val) : Option Nat :=
  match v with
  | .num x =>
    match c with
    | .enum codes => if codes.contains x then none else some 0x0402
    | .mask bits => if Nat.land x bits == x then none else some 0x0402
    | .range lo hi => if lo ≤ x && x ≤ hi then none else some 0x0401
    | .srange lo hi =>
      if lo ≤ toSigned t.bits x && toSigned t.bits x ≤ hi then none else some 0x0401
    | .rangeOr lo hi other => if (lo ≤ x && x ≤ hi) || x == other then none else some 0x0401
    | .oneOf values => if values.contains x then none else some 0x0401
    | .align unit => if x % unit == 0 then none else some 0x0401
    | .pow2 lo hi => if isPow2 x && lo ≤ x && x ≤ hi then none else some 0x0401
    | .one => if x == 1 then none else some 0x0401
    | .any | .len _ | .maxLen _ | .utf8 _ =>
      if t == .bool && 1 < x then some 0x0401
      else if t == .f32 && f32Special x then some 0x0401 else none
  | .bytes b =>
    match c with
    | .len k => if b.length == k then none else some 0x0403
    | .maxLen k => if b.length ≤ k then none else some 0x0403
    | .utf8 k => if b.length ≤ k && utf8Ok b.length b then none else some 0x0403
    | .any | .range _ _ | .srange _ _ | .rangeOr _ _ _ | .enum _ | .oneOf _ | .mask _ | .align _
    | .pow2 _ _ | .one => none

/-- A response PDU (R45): request code with bit 7, the echoed SEQUENCE and address, FLAGS, payload. -/
def responsePdu (service seq addr flags : Nat) (payload : Bytes) : Bytes :=
  leBytes 1 (service % 128 + 128) ++ leBytes 1 seq ++ leBytes 2 (addr / 256) ++ leBytes 1 (addr % 256) ++
    leBytes 1 flags ++ payload

/-- A response with ABORT (R45): the payload is the abort code. -/
def abortPdu (service seq addr code : Nat) : Bytes := responsePdu service seq addr 0x80 (leBytes 2 code)

/-- Largest PDU of a port (R47). -/
def portMaxPdu : Sys2Proof.Port → Nat
  | .C => 64 | .H => 1024 | .E => 1400 | .S => 256

end Sys2Proof.Machine
end

