-- ==== Sys2Proof/Machine/Flags.lean ====
section
/-! DEFINITION. Machine/Flags: the coded values the device computes and publishes: event codes of NOTIFY
(R53), ending statuses and causes of jobs (R182, R183), mechanism codes of the binnacle (R262, R274),
state codes, and the interrupt line CTL_IRQ_N. -/

namespace Sys2Proof.Machine

/-! NOTIFY events (R53). -/
def evOwnerChanged : Nat := 1
def evVacant : Nat := 2
def evHandoverPending : Nat := 3
def evHandoverFailed : Nat := 4
def evLeaseWarning : Nat := 5
def evDeadReckoning : Nat := 6
def evFault : Nat := 7
def evThermal : Nat := 8
def evSupply : Nat := 9
def evPowerState : Nat := 10
def evSequenceDone : Nat := 11

/-- GEN_STATE codes (R29). -/
def Gen.code : Gen → Nat
  | .halted => 0 | .freeRun => 1 | .pullIn => 2 | .locked => 3 | .holdover => 4 | .deadReckoning => 5

/-- FIX_STATUS codes (R29). -/
def FixStatus.code : FixStatus → Nat
  | .none => 0 | .accepted => 1 | .acceptedClamped => 2 | .missed => 3 | .rejected => 4 | .realigned => 5

/-- OWNER_STATE codes (R35). -/
def OwnerState.code : OwnerState → Nat
  | .vacant => 0 | .claiming => 1 | .owned => 2 | .handoverPending => 3

/-- Buffer state codes (R108). -/
def BufState.code : BufState → Nat
  | .free => 0 | .filling => 1 | .ready => 2 | .held => 3

/-- ARRAY_STATE codes (R163). -/
def ArrState.code : ArrState → Nat
  | .off => 0 | .idle => 1 | .busy => 2 | .housekeeping => 3 | .heldFault => 4

/-- SAFETY_STATE codes (R270). -/
def Safety.code : Safety → Nat
  | .starting => 0 | .normal => 1 | .faultLatched => 2

/-- TOUCH_STATE codes (R310). -/
def PanelState.code : PanelState → Nat
  | .off => 0 | .calibrating => 1 | .active => 2 | .selfTest => 3

/-- POWER_STATE codes (R357). -/
def Power.code : Power → Nat
  | .dormant => 0 | .standby => 1 | .ready => 2 | .run => 3 | .booting => 4

/-- QUEUE_STATE codes (R185). -/
def QState.code : QState → Nat
  | .disabled => 0 | .active => 1 | .halted => 2 | .parked => 3

end Sys2Proof.Machine
end

