-- ==== Sys2Proof/Machine/Regions.lean ====
section
/-! DEFINITION. Machine/Regions: the device address map (R186), region tables and their rules (R188 to
R191), and the region check of an access (R189). -/

namespace Sys2Proof.Machine

/-- One entry of a region table (R188). -/
structure Region where
  base : Nat
  pages : Nat
  attr : Nat
  deriving DecidableEq, Repr

def chartBase : Nat := 0x001000000000
def hostWindow : Nat := 0x800000000000
def addressEnd : Nat := 0x1000000000000

def Region.size (r : Region) : Nat := r.pages * 4096
def Region.limit (r : Region) : Nat := r.base + r.size
def Region.readable (r : Region) : Bool := bitAt r.attr 0
def Region.writable (r : Region) : Bool := bitAt r.attr 1
def Region.ecc (r : Region) : Bool := bitAt r.attr 2

/-- Whether a region lies in the chart store's range (R186). -/
def Region.inChart (r : Region) : Bool := chartBase ≤ r.base && r.base < hostWindow

/-- First address after the data of a region: an INLINE_ECC region keeps its upper sixteenth for check
bytes (R191). -/
def Region.dataLimit (r : Region) : Nat :=
  if r.ecc then r.base + (r.pages - r.pages / 16) * 4096 else r.limit

/-- The entries a REGION_TABLE value spells, at most `fuel`. -/
def parseRegions : Nat → Bytes → List Region
  | 0, _ => []
  | f + 1, b =>
    if b.length < 16 then []
    else { base := field b 0 8, pages := field b 8 4, attr := field b 12 2 } :: parseRegions f (b.drop 16)

/-- The configured entries of a table value. -/
def regionsOf (b : Bytes) : List Region := parseRegions 16 b

/-- Reserved bits of an entry (R8, R188). -/
def regionReserved : Nat → Bytes → Bool
  | 0, _ => false
  | f + 1, b =>
    if b.length < 16 then false
    else 8 ≤ field b 12 2 || field b 14 2 != 0 || regionReserved f (b.drop 16)

/-- Whether an entry keeps to one range of R186: device memory below the chart store, or the chart store's
range below the host window. -/
def Region.oneRange (r : Region) : Bool := r.limit ≤ chartBase || (chartBase ≤ r.base && r.limit ≤ hostWindow)

/-- R188: layout rules of an entry. -/
def Region.wellFormed (r : Region) : Bool := r.pages != 0 && r.base % 4096 == 0 && r.oneRange

def Region.overlaps (r t : Region) : Bool := r.base < t.limit && t.base < r.limit

/-- R188: the rules of one partition's entry by itself. -/
def Region.fits (r : Region) (p0 : Bool) : Bool :=
  (r.inChart || !p0 || r.ecc) && !(r.inChart && r.ecc) && !(r.ecc && r.pages % 16 != 0)

/-- R188: whether the tables of two partitions, `p < q`, agree. -/
def tablesAgree (p0 : Bool) (a b : List Region) : Bool :=
  a.all (fun r => b.all (fun t => !(r.overlaps t) || !((r.writable && t.writable) || (p0 && t.writable))))

/-- R188: whether the tables of the four partitions keep every rule. -/
def regionTablesOk (tables : List (List Region)) : Bool :=
  (List.range 4).all (fun p => (nth tables p []).all (fun r => r.fits (p == 0))) &&
  (List.range 4).all (fun p => (List.range 4).all (fun q =>
    !(p < q) || tablesAgree (p == 0) (nth tables p []) (nth tables q [])))

/-- Whether one region of a table covers `[a, a + k)` with the access (configured table). -/
def coveredBy (rs : List Region) (write : Bool) (a k : Nat) : Bool :=
  rs.any (fun r => r.base ≤ a && a + k ≤ r.dataLimit && (if write then r.writable else r.readable))

/-- REGION_EFFECTIVE (R190): an entry is in force when it lies inside the trained memory or the chart
store. -/
def State.regionInForce (s : State) (r : Region) : Bool :=
  if r.inChart then r.limit ≤ chartBase + s.part.variant.chartKib * 1024
  else r.limit ≤ s.numAt Adr.memCapacityMib * 1048576

def State.regions (s : State) (p : Nat) : List Region := regionsOf (s.bytesAt (Adr.regionTable p))

/-- The entries of a partition in force. -/
def State.regionsInForce (s : State) (p : Nat) : List Region := (s.regions p).filter s.regionInForce

/-- REGION_EFFECTIVE as it reads (R190). -/
def State.regionEffective (s : State) (p : Nat) : Nat :=
  sumNat (((s.regions p).zipIdx).map (fun e => if s.regionInForce e.1 then 2 ^ e.2 else 0))

/-- Whether bytes lie in the check area of an in-force INLINE_ECC entry of any partition (R191). -/
def State.inCheckArea (s : State) (a k : Nat) : Bool :=
  (List.range 4).any (fun p => (s.regionsInForce p).any (fun r => r.ecc && a < r.limit && r.dataLimit < a + k))

/-- Whether an address lies in an in-force INLINE_ECC entry of any partition (R191). -/
def State.inlineEcc (s : State) (a : Nat) : Bool :=
  (List.range 4).any (fun p => (s.regionsInForce p).any (fun r => r.ecc && r.base ≤ a && a < r.limit))

/-- R189: an access is permitted when one in-force entry of the partition covers every byte of it with
the right, and no byte lies in a check area (R191). -/
def State.permitted (s : State) (p : Nat) (write : Bool) (a k : Nat) : Bool :=
  coveredBy (s.regionsInForce p) write a k && !(s.inCheckArea a k)

/-- Whether an address is P0 memory (R195): an in-force P0 entry covers it. -/
def State.p0Memory (s : State) (a : Nat) : Bool :=
  (s.regionsInForce 0).any (fun r => r.base ≤ a && a < r.limit)

/-- Whether an address is in an in-force entry of any partition (R195). -/
def State.inAnyRegion (s : State) (a : Nat) : Bool :=
  (List.range 4).any (fun p => (s.regionsInForce p).any (fun r => r.base ≤ a && a < r.limit))

end Sys2Proof.Machine
end

