-- ==== Sys2Proof/Machine/Checks.lean ====
section
/-! DEFINITION. Machine/Checks: the value checks of step 6 of R64 that depend on other settings (0x0404),
on absent units (0x0203), on the almanac set (0x0405) and on the layout of a structured value (0x0402,
0x0403). They are functions of a look-up of values, so that one text serves a live write, where the
look-up gives the staged value of every other object that has one (R62), a load in ascending order
(R388) and RESTORE_FACTORY (R70). -/

namespace Sys2Proof.Machine

/-- A look-up of the value of every address. -/
abbrev Look := Nat → Val

def Look.num (g : Look) (a : Nat) : Nat := (g a).toNat
def Look.bytes (g : Look) (a : Nat) : Bytes := (g a).toBytes
def Look.int (g : Look) (w a : Nat) : Int := toSigned w (g a).toNat

/-- A look-up with one address overlaid. -/
def Look.set (g : Look) (a : Nat) (v : Val) : Look := fun x => if x == a then v else g x

/-! ## Tick lengths (R18, R25) -/

/-- P in ns. -/
def Look.period (g : Look) : Nat := g.num Adr.tickPeriod * 1000

/-- L in ns (R18). -/
def Look.slewLimit (g : Look) : Nat := g.num Adr.slewLimit * g.period / 256

/-- P_MIN in ns (R25). -/
def Look.pMin (g : Look) : Nat := if g.num Adr.fixSource == 0 then g.period else g.period - g.slewLimit

/-- USABLE in ns (R25). -/
def Look.usable (g : Look) : Nat := g.pMin - (g.num Adr.hkMargin + g.num Adr.dispatchGuard) * 1000

/-- SLOT_LENGTH in ns (R25). -/
def Look.slotLength (g : Look) : Nat := g.usable / 64

/-! ## The conditions tied to P_MIN (R27) -/

/-- R172: the slot table of an array in force. -/
def Look.slotTable (g : Look) (a : Nat) : Bytes :=
  let o := g.num (Adr.arrayOwner a)
  if o == 0xFF then g.bytes (Adr.slotTable a) else List.replicate 64 (byteOf o)

/-- Slots that partition `p` owns on array `a` (R172). -/
def Look.slotsOf (g : Look) (a p : Nat) : Nat := countIf (fun b => b == byteOf p) (g.slotTable a)

/-- R173 for every present array. -/
def Look.p0Fits (g : Look) (v : Variant) : Bool :=
  let need := g.num (Adr.guaranteeUs 0) * 1000
  let owned := (List.range v.arrays).map (fun a => g.slotsOf a 0)
  need == 0 ||
    (owned.any (· != 0) && g.slotLength != 0 &&
      owned.all (fun k => k == 0 || ceilDiv need g.slotLength ≤ k))

/-- R28: OFFSET + WIDTH of output `n` stays below P_MIN. -/
def Look.camFits (g : Look) (n : Nat) : Bool :=
  g.num (Adr.camTrigOffset n) + g.num (Adr.camTrigWidth n) * 1000 < g.pMin

/-- R28: PHASE of output `n` stays below DIVIDE. -/
def Look.camPhaseOk (g : Look) (n : Nat) : Bool := g.num (Adr.camTrigPhase n) < g.num (Adr.camTrigDivide n)

/-- R27: |FIX_OFFSET| < P / 2. -/
def Look.fixOffsetFits (g : Look) : Bool := (g.int 32 Adr.fixOffset).natAbs * 2000 < g.period

/-- R27: HK_MARGIN + DISPATCH_GUARD at most P_MIN / 4. -/
def Look.marginsFit (g : Look) : Bool :=
  (g.num Adr.hkMargin + g.num Adr.dispatchGuard) * 4000 ≤ g.pMin

/-- R102: the commit window ends before P_MIN. -/
def Look.commitFits (g : Look) : Bool :=
  (g.num Adr.commitOffset + g.num Adr.commitLength) * 1000 < g.pMin

/-- R106: TARGET_OFFSET + TOLERANCE of set `f` at most P_MIN. -/
def Look.fusionFits (g : Look) (f : Nat) : Bool :=
  (g.int 32 (Adr.targetOffset f) + (g.num (Adr.tolerance f) : Int)) * 1000 ≤ (g.pMin : Int)

/-- R271: SAFETY_MSG_OFFSET below P_MIN. -/
def Look.messageFits (g : Look) : Bool := g.num Adr.safetyMsgOffset * 1000 < g.pMin

/-- GUARANTEED_SUM (R98): over enabled guaranteed slots. -/
def Look.guaranteedSum (g : Look) (v : Variant) : Nat :=
  sumNat ((List.range v.slots).map (fun n =>
    if g.num (Adr.enable n) == 1 && g.num (Adr.guaranteed n) == 1 then g.num (Adr.guaranteedBytes n) else 0))

/-- R98: guaranteed bytes at most INGEST_CAPACITY × P_MIN × 3/4. -/
def Look.ingestFits (g : Look) (v : Variant) : Bool :=
  g.guaranteedSum v * 4000 ≤ v.ingestCapacity * g.pMin * 3

/-- R174: credits of enabled partitions at most 0.85 × BW_CAPACITY × P_MIN. -/
def Look.creditsFit (g : Look) (v : Variant) : Bool :=
  let sum := sumNat ((List.range 4).map (fun p =>
    if g.num (Adr.partEnable p) == 1 then g.num (Adr.bwCredits p) else 0))
  sum * 102400000 ≤ 85 * v.bwCapacity * g.pMin

/-- The lowest enabled frequency of FREQ_TABLE, in kHz (R311). -/
def Look.fMin (g : Look) (p : Nat) : Nat :=
  let t := g.bytes (Adr.freqTable p)
  let fs := ((List.range 8).filter (fun k => bitAt (g.num (Adr.freqEnable p)) k)).map (fun k => field t (2 * k) 2)
  fs.foldl (fun m f => if m == 0 || f < m then f else m) 0

/-- T_frame of panel `p` times f_min, in ns × kHz (R311), so that it is exact. -/
def Look.frameTimeScaled (g : Look) (p : Nat) : Nat :=
  let f := g.fMin p
  g.num (Adr.driveCount p) * (g.num (Adr.burstCycles p) * 1000000 + 2000 * f) + g.num (Adr.listenUs p) * 1000 * f

/-- SPACING of panel `p` (R312). -/
def Look.spacing (g : Look) (p : Nat) : Nat := g.pMin / (max 1 (g.num (Adr.framesPerTick p)))

/-- R312: the frame timing of panel `p`. -/
def Look.touchFits (g : Look) (v : Variant) (p : Nat) : Bool :=
  !v.touch ||
    (if g.num (Adr.frameAlign p) == 0 then
      g.frameTimeScaled p * g.num (Adr.frameRate p) ≤ 1000000000 * g.fMin p
    else
      g.frameTimeScaled p ≤ g.spacing p * g.fMin p && 4166667 ≤ g.spacing p &&
        g.num (Adr.touchPhaseUs p) * 1000 < g.spacing p)

/-- R260: HK_MARGIN at least WAYPOINT_TIMEOUT + 80 µs. -/
def Look.housekeepingFits (g : Look) : Bool := g.num Adr.waypointTimeout + 80 ≤ g.num Adr.hkMargin

/-- R27: every condition tied to the shortest tick. -/
def Look.tickFits (g : Look) (v : Variant) : Bool :=
  g.p0Fits v && (List.range 8).all g.camFits && g.fixOffsetFits && g.marginsFit && g.commitFits &&
    (List.range 8).all (fun f => g.num (Adr.fusionEnable f) == 0 || g.fusionFits f) && g.messageFits &&
    g.ingestFits v && g.creditsFit v && (List.range 4).all (g.touchFits v)

/-! ## Slots (R89, R93, R98, R105) -/

/-- Bytes per stored pixel of a CSI-2 data type (R93). -/
def bytesPerPixel (dt : Nat) : Nat :=
  if dt == 0x2A || (0x30 ≤ dt && dt ≤ 0x37) then 1 else if dt == 0x24 then 3 else 2

/-- B_max of a slot (R93). -/
def Look.blockMax (g : Look) (n : Nat) : Nat :=
  if g.num (Adr.sourceKind n) == 0 then ceilDiv (g.num (Adr.height n)) 64
  else ceilDiv (g.num (Adr.bufferBytes n)) 4096

/-- META_BYTES of a slot (R93). -/
def Look.metaBytes (g : Look) (n : Nat) : Nat := roundUp (64 + 4 * g.blockMax n) 4096

/-- Line stride of a camera slot (R93). -/
def Look.stride (g : Look) (n : Nat) : Nat :=
  roundUp (g.num (Adr.width n) * bytesPerPixel (g.num (Adr.dataType n))) 64

/-- Whether the sources of two slots overlap (R89). -/
def Look.sourcesOverlap (g : Look) (m n : Nat) : Bool :=
  let same (a : Nat → Nat) : Bool := g.num (a m) == g.num (a n)
  same Adr.sourceKind &&
    match g.num (Adr.sourceKind m) with
    | 0 => same Adr.sourceUnit && same Adr.vc && same Adr.dataType
    | 1 =>
      same Adr.sourceUnit && same Adr.flowEthertype && same Adr.flowVlan &&
        (same Adr.flowUdpPort || !([0x0800, 0x86DD].contains (g.num (Adr.flowEthertype m))))
    | 2 => same Adr.sourceUnit && Nat.land (g.num (Adr.audioChannelMask m)) (g.num (Adr.audioChannelMask n)) != 0
    | _ => Nat.land (g.num (Adr.audioChannelMask m)) (g.num (Adr.audioChannelMask n)) != 0

/-- The ring of a slot lies in its partition's region table (R93), as configured. -/
def Look.ringCovered (g : Look) (n : Nat) : Bool :=
  coveredBy (regionsOf (g.bytes (Adr.regionTable (g.num (Adr.partition n))))) true (g.num (Adr.ringAddr n))
    (g.num (Adr.ringBuffers n) * g.num (Adr.bufferBytes n))

/-- What an enabled slot must meet (R89, R93, R105). -/
def Look.slotFits (g : Look) (v : Variant) (n : Nat) : Bool :=
  (List.range v.slots).all (fun m => m == n || g.num (Adr.enable m) == 0 || !(g.sourcesOverlap m n)) &&
    (g.num (Adr.sourceKind n) != 0 ||
      g.metaBytes n + g.stride n * g.num (Adr.height n) ≤ g.num (Adr.bufferBytes n)) &&
    g.ringCovered n

/-- R89, R387: whether a point-cloud slot names an absent Ethernet port. -/
def Look.portAbsent (g : Look) (v : Variant) (n : Nat) : Bool :=
  g.num (Adr.sourceKind n) == 1 && v.ethPorts ≤ g.num (Adr.sourceUnit n)

/-- The range of SOURCE_UNIT for the slot's kind (R108). -/
def Look.unitInRange (g : Look) (n : Nat) : Bool :=
  g.num (Adr.sourceUnit n) < (match g.num (Adr.sourceKind n) with | 1 | 2 => 2 | _ => 8)

/-- The range of VC (R86): 0 to 15 on D-PHY, 0 to 31 on C-PHY. -/
def Look.vcInRange (g : Look) (n : Nat) : Bool :=
  g.num (Adr.vc n) < (if g.num (Adr.sourceKind n) == 0 && g.num (Adr.phyMode (g.num (Adr.sourceUnit n))) == 0
    then 16 else 32)

/-- R86: LANES, LANE_RATE and the virtual channels of the camera slots go with a receiver's PHY_MODE. -/
def Look.phyFits (g : Look) (v : Variant) (r : Nat) : Bool :=
  let d := g.num (Adr.phyMode r) == 0
  (if d then [1, 2, 4] else [1, 2, 3]).contains (g.num (Adr.lanes r)) &&
    g.num (Adr.laneRate r) ≤ (if d then 4500 else 3500) &&
    (List.range v.slots).all (fun n =>
      g.num (Adr.sourceKind n) != 0 || g.num (Adr.sourceUnit n) != r || g.vcInRange n)

/-- The range of AUDIO_CHANNEL_MASK (R108): TDM slots 15:0, PDM microphones 7:0. -/
def Look.maskInRange (g : Look) (n : Nat) : Bool :=
  g.num (Adr.audioChannelMask n) < (if g.num (Adr.sourceKind n) == 3 then 256 else 65536)

/-- Members of a fusion set: used positions and their slots (R106). -/
def Look.members (g : Look) (f : Nat) : List (Nat × Nat) :=
  (((g.bytes (Adr.members f)).zipIdx).filter (fun e => e.1 != 0xFF)).map (fun e => (e.2, e.1.toNat))

/-- R106: no member names a disabled slot, or one slot twice. -/
def Look.membersOk (g : Look) (v : Variant) (f : Nat) : Bool :=
  let ms := (g.members f).map (·.2)
  ms.all (fun n => n < v.slots && g.num (Adr.enable n) == 1) && (ms.length == ms.dedup.length)

/-! ## Shaping (R110, R113, R115, R116, R118, R120) -/

/-- Output channels of DEMOSAIC (R113). -/
def demosaicChannels (d : Nat) : Nat :=
  match d with | 0 => 1 | 2 => 4 | _ => 3

/-- Element size of an OUT_FORMAT (R119). -/
def outElemSize (f : Nat) : Nat := if f == 3 || f == 7 || f == 8 then 2 else 1

/-- Bytes of one tensor of R119. -/
def tensorBytes (layout h w c e : Nat) : Nat :=
  if layout == 0 then h * w * c * e else ceilDiv c 32 * h * w * 32 * e

/-- Sizes of the pyramid levels, width and height, from level 0 (R118): `prev2` is level k − 2. -/
def pyramidFrom : Nat → Nat → Nat → (Nat × Nat) → (Nat × Nat) → List (Nat × Nat)
  | 0, _, _, _, _ => []
  | f + 1, mode, k, prev2, prev =>
    let next := if mode == 0 then (prev.1 / 2, prev.2 / 2)
      else if k % 2 == 0 then (prev2.1 / 2, prev2.2 / 2)
      else (prev.1 * 181 / 256, prev.2 * 181 / 256)
    next :: pyramidFrom f mode (k + 1) prev next

/-- The pyramid levels of a configuration (R118). -/
def pyramidSizes (levels mode baseW baseH w h : Nat) : List (Nat × Nat) :=
  match levels with
  | 0 => []
  | l + 1 =>
    let zero := (if baseW == 0 then w else baseW, if baseH == 0 then h else baseH)
    zero :: pyramidFrom l mode 1 zero zero

def Look.pyramid (g : Look) (c : Nat) : List (Nat × Nat) :=
  let n := g.num (Adr.shapeSlot c)
  pyramidSizes (g.num (Adr.pyrLevels c)) (g.num (Adr.pyrMode c)) (g.num (Adr.pyrBaseW c))
    (g.num (Adr.pyrBaseH c)) (g.num (Adr.width n)) (g.num (Adr.height n))

/-- R118: no level is below 8 × 8. -/
def Look.pyramidOk (g : Look) (c : Nat) : Bool := (g.pyramid c).all (fun l => 8 ≤ l.1 && 8 ≤ l.2)

/-- Bytes of tensor space of a context, each tensor on a 64-byte boundary (R119, R120). -/
def Look.tensorSpace (g : Look) (c : Nat) : Nat :=
  let ch := demosaicChannels (g.num (Adr.demosaic c))
  let e := outElemSize (g.num (Adr.outFormat c))
  let one (w h : Nat) : Nat := roundUp (tensorBytes (g.num (Adr.layout c)) h w ch e) 64
  g.num (Adr.roiMaxCount c) * one (g.num (Adr.roiOutMaxW c)) (g.num (Adr.roiOutMaxH c)) +
    sumNat ((g.pyramid c).map (fun l => one l.1 l.2))

/-- SHAPED_META of a shaped buffer of `bytes` (R120). -/
def shapedMetaOf (bytes : Nat) : Nat := roundUp (256 + 4 * ceilDiv bytes 4096) 4096

/-- The smallest page count whose buffer fits `need` bytes of tensor space (R120), searched upward. -/
def shapedPages : Nat → Nat → Nat → Nat
  | 0, _, k => k
  | f + 1, need, k => if shapedMetaOf (k * 4096) + need ≤ k * 4096 then k else shapedPages f need (k + 1)

/-- SHAPED_REQUIRED (R123). -/
def Look.shapedRequired (g : Look) (c : Nat) : Nat :=
  let need := g.tensorSpace c
  let start := ceilDiv need 4096
  shapedPages (start / 1000 + 8) need (start + start / 1024) * 4096

/-- R113: whether a pattern goes with a data type. -/
def demosaicFits (d dt : Nat) : Bool :=
  let rgb := dt == 0x24 || dt == 0x1E
  let raw := 0x2A ≤ dt && dt ≤ 0x2E
  match d with
  | 1 => !rgb
  | 2 => raw
  | 6 => rgb
  | _ => true

/-- R116: ZERO_POINT against OUT_FORMAT. -/
def zeroPointFits (z : Int) (fmt : Nat) : Bool :=
  match fmt with
  | 1 => -128 ≤ z && z ≤ 127
  | 2 => 0 ≤ z && z ≤ 255
  | 3 => true
  | _ => z == 0

/-- What an enabled context must meet (R110, R113, R118). -/
def Look.contextFits (g : Look) (c : Nat) : Bool :=
  let n := g.num (Adr.shapeSlot c)
  g.num (Adr.sourceKind n) == 0 && g.num (Adr.width n) ≤ 4096 &&
    (List.range 16).all (fun d => d == c || g.num (Adr.shapeEnable d) == 0 || g.num (Adr.shapeSlot d) != n) &&
    g.shapedRequired c ≤ g.num (Adr.shapedBytes c) &&
    demosaicFits (g.num (Adr.demosaic c)) (g.num (Adr.dataType n)) && g.pyramidOk c

/-- R115: whether a region of interest keeps the rules of the resize step. -/
def roiOk (x y w h ow oh fw fh maxW maxH : Nat) : Bool :=
  1 ≤ w && 1 ≤ h && x + w ≤ fw && y + h ≤ fh && 8 ≤ ow && ow ≤ maxW && 8 ≤ oh && oh ≤ maxH &&
    ow ≤ 4 * w && w ≤ 16 * ow && oh ≤ 4 * h && h ≤ 16 * oh

/-- The regions that an ROI table spells (R117). -/
def parseRois : Nat → Bytes → List Roi
  | 0, _ => []
  | f + 1, b =>
    { x := field b 0 2, y := field b 2 2, w := field b 4 2, h := field b 6 2, outW := field b 8 2,
      outH := field b 10 2 } :: parseRois f (b.drop 16)

/-- Reserved bytes of ROI_STATIC (R117). -/
def roiReserved (b : Bytes) : Bool :=
  (slice b 9 7).any (· != 0) || (List.range (b.length / 16)).any (fun r => field b (28 + 16 * r) 4 != 0)

/-- R117: the layout of ROI_STATIC. -/
def Look.roiStaticCode (g : Look) (c : Nat) (b : Bytes) : Option Nat :=
  let k := field b 8 1
  let n := g.num (Adr.shapeSlot c)
  if b.length < 16 || b.length != 16 + 16 * k then some 0x0403
  else if g.num (Adr.roiMaxCount c) < k then some 0x0403
  else if (parseRois k (b.drop 16)).all (fun r =>
      roiOk r.x r.y r.w r.h r.outW r.outH (g.num (Adr.width n)) (g.num (Adr.height n))
        (g.num (Adr.roiOutMaxW c)) (g.num (Adr.roiOutMaxH c))) then none
  else some 0x0403

/-! ## Tables with a layout -/

/-- Reserved bits of SETTINGS (R101), in every entry that has begun. -/
def settingsReserved (b : Bytes) : Bool :=
  (List.range (ceilDiv b.length 8)).any (fun i =>
    bitAt (field b (8 * i) 1) 7 || Nat.land (field b (8 * i + 1) 1) 0xF2 != 0)

/-- The layout of SETTINGS (R101): 1 to 16 entries of 8 bytes. -/
def settingsCode (b : Bytes) : Option Nat :=
  let k := b.length / 8
  if b.length % 8 != 0 || k == 0 || 16 < k then some 0x0403 else none

/-- One step of a sequence script (R328). -/
def scriptStep (b : Bytes) (i : Nat) : Nat × Nat × Nat :=
  (field b (8 * i) 1, field b (8 * i + 1) 1, field b (8 * i + 4) 4)

/-- Undefined operations and reserved bytes of SEQ_SCRIPT (R328), in every step that has begun. -/
def scriptReserved (b : Bytes) : Bool :=
  (List.range (ceilDiv b.length 8)).any (fun i => 7 < (scriptStep b i).1 || field b (8 * i + 2) 2 != 0)

/-- R329: the layout of SEQ_SCRIPT. -/
def scriptCode (b : Bytes) : Option Nat :=
  let k := b.length / 8
  if b.length % 8 != 0 then some 0x0403
  else if (List.range k).any (fun i =>
      let (op, line, arg) := scriptStep b i
      31 < line || ((op == 0 || op == 5) && line != 0) ||
        ([3, 4, 5].contains op && !(1 ≤ arg && arg ≤ 10000000))) then some 0x0403
  else none

/-- FAN_CURVE (R342): strictly ascending temperatures, duties at most 1 000. -/
def fanCurveOk (b : Bytes) : Bool :=
  (List.range 3).all (fun i => toSigned 16 (field b (4 * i) 2) < toSigned 16 (field b (4 * i + 4) 2)) &&
    (List.range 4).all (fun i => field b (4 * i + 2) 2 ≤ 1000)

/-- One entry of PLACEMENT_TABLE (R234). -/
structure Placement where
  requester : Nat
  enabled : Bool
  partition : Nat
  offset : Nat
  length : Nat
  base : Nat
  signal : Nat
  deriving DecidableEq, Repr

def parsePlacement : Nat → Bytes → List Placement
  | 0, _ => []
  | f + 1, b =>
    if b.length < 32 then []
    else
      { requester := field b 0 2, enabled := bitAt (field b 2 1) 0, partition := field b 3 1,
        offset := field b 4 4, length := field b 8 4, base := field b 16 8, signal := field b 24 8 } ::
        parsePlacement f (b.drop 32)

def placementsOf (b : Bytes) : List Placement := parsePlacement 16 b

/-- Reserved bits of PLACEMENT_TABLE (R234), in every entry that has begun. -/
def placementReserved (b : Bytes) : Bool :=
  (List.range (ceilDiv b.length 32)).any (fun i => 2 ≤ field b (32 * i + 2) 1 || field b (32 * i + 12) 4 != 0)

/-- R234: the layout and the rules of PLACEMENT_TABLE. -/
def Look.placementCode (g : Look) (b : Bytes) : Option Nat :=
  let ps := placementsOf b
  let on := ps.filter (·.enabled)
  if b.length % 32 != 0 then some 0x0403
  else if ps.any (fun p => 3 < p.partition || p.offset % 4096 != 0 || 0xFF000 ≤ p.offset || p.length % 4096 != 0 ||
      p.length == 0 || p.base % 4096 != 0 || p.signal % 8 != 0) then some 0x0403
  else if on.any (fun p =>
      p.partition == 0 || g.num (Adr.partEnable p.partition) == 0 || 0xFF000 < p.offset + p.length ||
        !(coveredBy (regionsOf (g.bytes (Adr.regionTable p.partition))) true p.base p.length) ||
        (p.signal != 0 &&
          !(coveredBy (regionsOf (g.bytes (Adr.regionTable p.partition))) true p.signal 8))) then some 0x0404
  else if ((on.zipIdx).any (fun a => (on.zipIdx).any (fun b =>
      a.2 < b.2 && a.1.offset < b.1.offset + b.1.length && b.1.offset < a.1.offset + a.1.length))) then some 0x0404
  else none

/-- Whether an address names an event counter (R80). -/
def isCounter (a : Nat) : Bool :=
  match objAt a with
  | some (o, _) => o.kind == .counter
  | none => false

/-- Whether an address names a tick-snapshotted counter of a present unit (R31, R84). -/
def isSnapshotCounter (v : Variant) (a : Nat) : Bool :=
  match objAt a with
  | some (o, i) => o.kind == .counter && o.snap && !(o.home.absent v i)
  | none => false

/-! ## The dependent checks, object by object -/

/-- 0x0404 where a condition fails. -/
def conflictUnless (b : Bool) : Option Nat := if b then none else some 0x0404

/-- The Shevy identifiers of controller A and the safety message identifier differ (R271). -/
def Look.messageIdOk (g : Look) : Bool :=
  g.num Adr.safetyCanController != 0 ||
    (g.num Adr.safetyMsgId != g.num Adr.canReqBase + g.num Adr.canNodeId &&
      g.num Adr.safetyMsgId != g.num Adr.canRspBase + g.num Adr.canNodeId)

/-- Slot objects, with `g` already carrying the new value at subindex `sub` of group `grp` of slot `n`. A slot
whose ENABLE, applied or staged, is 1 keeps what R89 and R93 ask of an enable through every later write; RELEASE and
ACQUIRE set nothing. -/
def Look.slotCode (g : Look) (v : Variant) (n grp sub : Nat) : Option Nat :=
  if grp == 0 && sub == 3 && !(g.unitInRange n) then some 0x0401
  else if grp == 0 && sub == 4 && !(g.vcInRange n) then some 0x0401
  else if grp == 2 && sub == 7 && !(g.maskInRange n) then some 0x0401
  else if grp == 0 && (sub == 2 || sub == 3) && g.portAbsent v n then some 0x0203
  else if grp == 0 && (sub == 2 || sub == 3) && !(g.unitInRange n && g.vcInRange n) then some 0x0404
  else if grp == 5 && sub == 1 && g.num (Adr.statsEnable n) == 1 && g.num (Adr.sourceKind n) != 0 then some 0x0404
  else if grp ≤ 2 && !(grp == 1 && (sub == 7 || sub == 9)) && g.num (Adr.enable n) == 1 then
    conflictUnless (g.slotFits v n && g.ingestFits v &&
      (List.range 16).all (fun c => g.num (Adr.shapeEnable c) == 0 || g.num (Adr.shapeSlot c) != n || g.contextFits c))
  else if grp == 0 && sub == 2 && g.num (Adr.statsEnable n) == 1 && g.num (Adr.sourceKind n) != 0 then some 0x0404
  else none

/-- Every finite, non-zero F32 of SCALE, every finite F32 of MEAN (R58, R123). -/
def floatsOk (b : Bytes) (nonzero : Bool) : Bool :=
  (List.range 4).all (fun k =>
    let x := field b (4 * k) 4
    !(f32Special x) && (!nonzero || x % 2 ^ 31 != 0))

/-- Shaping objects of context `c`. -/
def Look.shapeCode (g : Look) (v : Variant) (c grp sub : Nat) (val : Val) : Option Nat :=
  let b := val.toBytes
  if grp == 0 && sub == 2 && v.slots ≤ val.toNat then some 0x0203
  else if grp == 0 && sub == 7 && (List.range 3).any (fun k => 65535 < (toSigned 32 (field b (4 * k) 4)).natAbs)
    then some 0x0401
  else if grp == 0 && sub == 8 && !(floatsOk b false) then some 0x0401
  else if grp == 0 && sub == 9 && !(floatsOk b true) then some 0x0401
  else if grp == 2 && sub == 3 then g.roiStaticCode c b
  else if grp == 0 && sub == 3 && !(demosaicFits val.toNat (g.num (Adr.dataType (g.num (Adr.shapeSlot c)))))
    then some 0x0404
  else if ((grp == 0 && sub == 0x0A) || (grp == 1 && sub == 1)) &&
      !(zeroPointFits (g.int 16 (Adr.zeroPoint c)) (g.num (Adr.outFormat c))) then some 0x0404
  else if grp == 3 && !(g.pyramidOk c) then some 0x0404
  else if grp ≤ 4 && g.num (Adr.shapeEnable c) == 1 then conflictUnless (g.contextFits c)
  else none

/-- R167: a standing queue's image header and record ring lie in regions of its partition; the rest of the image is
looked at by `State.standingImageOk`. -/
def Look.standingOk (g : Look) (q : Nat) : Bool :=
  let rs := regionsOf (g.bytes (Adr.regionTable (g.num (Adr.queuePartition q))))
  g.num (Adr.queueMode q) == 0 ||
    (coveredBy rs false (g.num (Adr.standingImageAddr q)) 128 &&
      coveredBy rs true (g.num (Adr.standingRecordAddr q)) 1024)

/-- Whether the enabled panels' drive and sense ranges are apart (R309). -/
def Look.panelsApart (g : Look) (p : Nat) : Bool :=
  (List.range 4).all (fun q =>
    q == p || g.num (Adr.panelEnable q) == 0 ||
      ((g.num (Adr.driveFirst p) + g.num (Adr.driveCount p) ≤ g.num (Adr.driveFirst q) ||
        g.num (Adr.driveFirst q) + g.num (Adr.driveCount q) ≤ g.num (Adr.driveFirst p)) &&
       (g.num (Adr.senseFirst p) + g.num (Adr.senseCount p) ≤ g.num (Adr.senseFirst q) ||
        g.num (Adr.senseFirst q) + g.num (Adr.senseCount q) ≤ g.num (Adr.senseFirst p))))

/-- Touch objects of panel `p`. -/
def Look.touchCode (g : Look) (v : Variant) (p grp sub : Nat) (val : Val) : Option Nat :=
  if grp == 0 && 2 ≤ sub && sub ≤ 5 &&
      (128 < g.num (Adr.driveFirst p) + g.num (Adr.driveCount p) ||
        192 < g.num (Adr.senseFirst p) + g.num (Adr.senseCount p)) then some 0x0401
  else if grp == 2 && sub == 3 && (List.range 8).any (fun k =>
      let f := field val.toBytes (2 * k) 2
      f < 100 || 500 < f) then some 0x0401
  else if grp == 0 && sub == 1 && val.toNat == 1 && !(g.panelsApart p) then some 0x0404
  else if grp == 3 && (sub == 1 || sub == 2) then
    conflictUnless (g.num (Adr.touchHyst p) < g.num (Adr.touchThreshold p))
  else if grp ≤ 2 then conflictUnless (g.touchFits v p)
  else none

/-- R339: thresholds of channel `ch` in order, and THERM_HYST below every gap. -/
def Look.thermalOk (g : Look) (ch : Nat) : Bool :=
  let w := g.int 16 (Adr.warn ch)
  let h := g.int 16 (Adr.high ch)
  let c := g.int 16 (Adr.critical ch)
  let y : Int := g.num Adr.thermHyst
  w < h && h < c && y < h - w && y < c - h

/-- R349: no class is assigned to two ports. -/
def Look.classesApart (g : Look) : Bool :=
  (List.range 7).all (fun m => (List.range 7).all (fun k =>
    m == k || Nat.land (g.num (Adr.platPortClasses m)) (g.num (Adr.platPortClasses k)) == 0))

/-- Step 6 of R64 beyond the value alone, for address `a` with new value `val`; `old` looks up the values
of every other object. A value that names an absent unit is 0x0203 here, after the checks of the state and of the value
alone: R64 lists 0x0203 in step 3, for the object of a request, and does not say where it stands for a value
(DESIGN CHOICE, log 22). MIRROR_LIST takes a counter of an absent unit: R31 refuses one for SNAPSHOT_LIST, R252 is silent
(DESIGN CHOICE, log 57). -/
def dependentCode (part : Part) (old : Look) (a : Nat) (val : Val) : Option Nat :=
  let v := part.variant
  let g := old.set a val
  let index := a / 256
  let sub := a % 256
  let x := val.toNat
  if a == Adr.timeSource then (if v.ethPorts < x then some 0x0203 else none)
  else if a == Adr.fixSource then
    (if x == 2 && v.ethPorts == 0 then some 0x0203 else conflictUnless (g.tickFits v))
  else if a == Adr.tickPeriod || a == Adr.slewLimit || a == Adr.dispatchGuard then conflictUnless (g.tickFits v)
  else if a == Adr.hkMargin then conflictUnless (g.tickFits v && g.housekeepingFits)
  else if a == Adr.waypointTimeout then conflictUnless g.housekeepingFits
  else if a == Adr.fixOffset then conflictUnless g.fixOffsetFits
  else if index / 8 == 0x0840 / 8 then
    (if sub == 2 || sub == 3 then conflictUnless (g.camFits (index - 0x0840))
     else if sub == 5 || sub == 6 then conflictUnless (g.camPhaseOk (index - 0x0840)) else none)
  else if index == 0x0861 then (if x == 0 || isSnapshotCounter v x then none else some 0x0401)
  else if index == 0x0210 then
    (if sub ≤ 3 then conflictUnless (g.num Adr.canReqBase != g.num Adr.canRspBase && g.messageIdOk) else none)
  else if a == Adr.almanacSelect then (if x < 1 + part.earlierAlmanacs.length then none else some 0x0405)
  else if 0x1000 ≤ index && index < 0x1180 then
    (if index % 8 == 4 && sub == 4 then settingsCode val.toBytes
     else g.slotCode v ((index - 0x1000) / 8) (index % 8) sub)
  else if 0x1400 ≤ index && index < 0x1408 then
    let f := index - 0x1400
    (if sub == 2 then
      (if (g.members f).any (fun e => v.slots ≤ e.2) then some 0x0203 else conflictUnless (g.membersOk v f))
     else if sub == 1 then conflictUnless (x == 0 || (g.fusionFits f && g.membersOk v f))
     else if sub == 4 || sub == 5 then conflictUnless (g.fusionFits f) else none)
  else if index == 0x1440 then conflictUnless g.commitFits
  else if 0x1460 ≤ index && index < 0x1468 then
    let r := index - 0x1460
    (if sub == 1 then conflictUnless (g.phyFits v r)
     else if sub == 2 then
      (if (if g.num (Adr.phyMode r) == 0 then [1, 2, 4].contains x else [1, 2, 3].contains x) then none
       else some 0x0401)
     else if sub == 3 then
      (if 80 ≤ x && x ≤ (if g.num (Adr.phyMode r) == 0 then 4500 else 3500) then none else some 0x0401)
     else none)
  else if 0x1800 ≤ index && index < 0x1880 then g.shapeCode v ((index - 0x1800) / 8) (index % 8) sub val
  else if a == Adr.arrayEnable then (if Nat.land x v.arrayMask == x then none else some 0x0203)
  else if 0x2400 ≤ index && index < 0x2404 then
    (if sub == 2 then conflictUnless (g.p0Fits v)
     else if sub == 1 || sub == 3 then conflictUnless (g.creditsFit v) else none)
  else if 0x2410 ≤ index && index < 0x2418 then
    (if sub == 1 && val.toBytes.any (fun b => b != 0xFF && g.num (Adr.partEnable b.toNat) == 0) then some 0x0404
     else conflictUnless (g.p0Fits v))
  else if 0x2420 ≤ index && index < 0x2460 && index % 2 == 0 then
    let q := (index - 0x2420) / 2
    (if sub == 4 then (if Nat.land x v.arrayMask == x then none else some 0x0203)
     else if sub == 2 then conflictUnless (g.num (Adr.partEnable x) == 1)
     else if sub == 1 && x == 1 then
       conflictUnless (g.num (Adr.partEnable (g.num (Adr.queuePartition q))) == 1 && g.standingOk q)
     else none)
  else if 0x2808 ≤ index && index < 0x280C && sub == 1 then
    let b := val.toBytes
    (if b.length % 16 != 0 || !((regionsOf b).all Region.wellFormed) then some 0x0403
     else conflictUnless (regionTablesOk ((List.range 4).map (fun p => regionsOf (g.bytes (Adr.regionTable p))))))
  else if a == Adr.placementTable then g.placementCode val.toBytes
  else if index == 0x3001 then (if x == 0 || isCounter x then none else some 0x0401)
  else if a == Adr.safetyMsgOffset then conflictUnless g.messageFits
  else if a == Adr.safetyMsgId || a == Adr.safetyCanController then conflictUnless g.messageIdOk
  else if index == 0x4002 then
    (if x == 0xFF then none else if 31 < x then some 0x0401
     else conflictUnless (g.num (Adr.queuePartition x) == 0))
  else if a == Adr.scanPhaseUs || a == Adr.scanPeriodMs then
    conflictUnless (g.num Adr.scanPhaseUs < g.num Adr.scanPeriodMs * 1000)
  else if 0x5400 ≤ index && index < 0x5440 then g.touchCode v ((index - 0x5400) / 16) (index % 16) sub val
  else if 0x5808 ≤ index && index < 0x5810 && sub == 2 then scriptCode val.toBytes
  else if 0x58F1 ≤ index && index < 0x58F8 then
    (if bitAt x 1 && !v.touch then some 0x0203 else conflictUnless g.classesApart)
  else if a == Adr.thermHyst then conflictUnless ((List.range 24).all g.thermalOk)
  else if 0x5C10 ≤ index && index < 0x5C28 && 4 ≤ sub && sub ≤ 6 then conflictUnless (g.thermalOk (index - 0x5C10))
  else if 0x5C40 ≤ index && index < 0x5C42 && sub == 5 then (if fanCurveOk val.toBytes then none else some 0x0403)
  else if index == 0x5E00 && 6 ≤ sub && sub ≤ 9 then
    conflictUnless (g.num Adr.underCrit < g.num Adr.under && g.num Adr.under < g.num Adr.over &&
      g.num Adr.over < g.num Adr.overCrit)
  else if index == 0x5E10 && (sub == 4 || sub == 5) then
    conflictUnless (g.num Adr.battCritSoc < g.num Adr.battLowSoc)
  else none

/-- Reserved bits and undefined encodings inside a structured value (R8, R9). -/
def layoutReserved (a : Nat) (b : Bytes) : Bool :=
  let index := a / 256
  let sub := a % 256
  if 0x1000 ≤ index && index < 0x1180 then index % 8 == 4 && sub == 4 && settingsReserved b
  else if 0x1800 ≤ index && index < 0x1880 then index % 8 == 2 && sub == 3 && roiReserved b
  else if 0x2410 ≤ index && index < 0x2418 then sub == 1 && b.any (fun x => 3 < x.toNat && x != 0xFF)
  else if 0x2808 ≤ index && index < 0x280C then sub == 1 && regionReserved 16 b
  else if a == Adr.placementTable then placementReserved b
  else if 0x5808 ≤ index && index < 0x5810 then sub == 2 && scriptReserved b
  else if a == Adr.touchRefMapWrite then field b 1 3 != 0
  else if a == Adr.securityVersionRaise then
    field b 1 3 != 0 || (!b.isEmpty && (field b 0 1 == 0 || 3 < field b 0 1))
  else false

/-- Step 6 of R64 for a value: its reserved bits, the value by itself, then against the other settings. -/
def valueCode (part : Part) (old : Look) (a : Nat) (val : Val) : Option Nat :=
  match objAt a with
  | none => some 0x0201
  | some (o, _) =>
    if layoutReserved a val.toBytes then some 0x0402 else
    match checkAlone o.ty o.check val with
    | some c => some c
    | none => dependentCode part old a val

end Sys2Proof.Machine
end

