-- ==== Sys2Proof/Machine/Faults.lean ====
section
/-! DEFINITION. Machine/Faults: detection of a fault and its reaction by the binnacle (R254 to R272), the
logbook record, its signature, the ring and the persistent area (R275 to R286), and the safety message
(R270 to R272). -/

namespace Sys2Proof.Machine

/-! ## CBOR, core deterministic encoding (R282) -/

/-- Head of a data item: major type and argument in the shortest form (RFC 8949 section 4.2.1). -/
def cborHead (major n : Nat) : Bytes :=
  let m := major * 32
  if n < 24 then [byteOf (m + n)]
  else if n < 2 ^ 8 then byteOf (m + 24) :: beBytes 1 n
  else if n < 2 ^ 16 then byteOf (m + 25) :: beBytes 2 n
  else if n < 2 ^ 32 then byteOf (m + 26) :: beBytes 4 n
  else byteOf (m + 27) :: beBytes 8 n

def cborUint (n : Nat) : Bytes := cborHead 0 n

/-- An integer, negative ones in major type 1. -/
def cborInt (x : Int) : Bytes := if 0 ≤ x then cborHead 0 x.toNat else cborHead 1 (-x - 1).toNat

def cborBstr (b : Bytes) : Bytes := cborHead 2 b.length ++ b

def cborArray (xs : List Nat) : Bytes := cborHead 4 xs.length ++ (xs.map cborUint).flatten

def cborBool (b : Bool) : Bytes := [byteOf (if b then 0xF5 else 0xF4)]

/-- A map from present entries, already in ascending key order. -/
def cborMap (es : List (Nat × Option Bytes)) : Bytes :=
  let present := es.filterMap (fun e => e.2.map (fun b => cborUint e.1 ++ b))
  cborHead 5 present.length ++ present.flatten

/-! ## Signature and record (R282 to R284) -/

/-- R283: the failure signature. -/
def signatureOf (part : Part) (mechanism cls unitKind unit verdict cause : Nat) : Nat :=
  crc32c (cborArray [part.variant.deviceId, part.stepping / 16, mechanism, cls, unitKind, unit, verdict, cause])

def FaultRx.signature (r : FaultRx) (part : Part) : Nat :=
  signatureOf part r.mechanism r.cls r.unitKind r.unit r.verdict r.cause

/-- R282: the record of a fault. -/
def FaultRx.record (r : FaultRx) (part : Part) : Bytes :=
  let u (n : Nat) : Option Bytes := some (cborUint n)
  let opt (x : Option Nat) : Option Bytes := x.map cborUint
  let full (b : Option Bytes) : Option Bytes := if r.fixedForm then none else b
  cborMap [
    (0, u 1), (1, u r.seq), (2, u r.cls), (3, u r.mechanism), (4, u (r.signature part)),
    (5, if r.ticked then u r.tick else none), (6, if r.ticked then u r.offset else none), (7, u r.t0),
    (8, u part.variant.deviceId), (9, u part.stepping), (10, some (cborBstr (padTo Config.serialNumber 8 0))),
    (11, full (u r.microcode)), (12, full (u r.binnacleFw)), (13, u r.unit), (14, full (u r.verdict)),
    (15, full (opt r.part)), (16, full (opt r.queue)), (17, full (opt r.tag)), (18, full (u r.cause)),
    (19, full (opt r.detail)), (20, full (opt r.address)),
    (21, full (if r.powerState < 4 then u r.powerState else none)), (22, full (some (cborInt r.tempMax))),
    (23, full (u r.supplyMv)), (24, if r.suppressed == 0 then none else u r.suppressed),
    (25, if r.translation.isEmpty then none else some (cborArray r.translation)),
    (26, if r.fabric.isEmpty then none else some (cborArray r.fabric)),
    (27, full (u r.almanacSelect)), (28, if r.fixedForm then some (cborBool true) else none),
    (30, u r.unitKind), (31, full (some (cborBool r.firstFault)))]

/-- R284: the stub of a damaged record. -/
def LogRec.stub (r : LogRec) : Bytes :=
  cborMap [(0, some (cborUint 1)), (1, some (cborUint r.seq)), (2, some (cborUint r.cls)),
    (29, some (cborBool true))]

/-- A record as it is delivered (R284). -/
def LogRec.delivered (r : LogRec) : Bytes := if r.damaged then r.stub else r.bytes

/-- R284: an uncorrectable error lies within a record of the ring, or of the persistent area. -/
def Logbook.damage (x : Logbook) (persist : Bool) (index : Nat) : Logbook :=
  let hit (rs : List LogRec) : List LogRec := modifyAt rs index (fun r => { r with damaged := true })
  if persist then { x with persist := hit x.persist } else { x with ring := hit x.ring }

/-- R284: damaged records that a read meets. -/
def countDamaged (rs : List LogRec) : Nat := countIf (fun (r : LogRec) => r.damaged) rs

/-! ## Detection (R254, R266 step 1, R276, R277, R281) -/

/-- What a detecting unit says of a fault. -/
structure Detection where
  cls : Nat
  mechanism : Nat
  unit : Nat
  unitKind : Nat
  localise : Option Nat
  part : Option Nat
  queue : Option Nat
  tag : Option Nat
  cause : Nat
  detail : Option Nat
  vector : Option Nat
  address : Option Nat
  translation : List Nat
  fabric : List Nat
  deriving DecidableEq, Repr

/-- A detection with nothing but its class, mechanism and unit. -/
def Detection.plain (cls mechanism unit unitKind : Nat) : Detection :=
  { cls := cls, mechanism := mechanism, unit := unit, unitKind := unitKind, localise := none, part := none,
    queue := none, tag := none, cause := 0, detail := none, vector := none, address := none, translation := [], fabric := [] }

/-- R276: the number after `n`; 0 is skipped. -/
def nextSeq (n : Nat) : Nat := if n + 1 == 2 ^ 32 then 1 else n + 1

/-- The mechanism's own counter in 0x4010 (R273); 0 where it has none. -/
def mechanismCounter (mechanism : Nat) : Nat :=
  match mechanism with
  | 1 => Adr.seqMismatches
  | 5 => Adr.guardFails
  | 7 => Adr.clockFaults
  | 8 => Adr.voltageFaults
  | 9 => Adr.deadlineFaults
  | 10 => Adr.tickMonitorFaults
  | _ => 0

def State.countMechanism (s : State) (mechanism : Nat) : State :=
  if mechanismCounter mechanism == 0 then s else s.bump (mechanismCounter mechanism)

/-- FAULT_LATCHED_MASK with a mechanism's bit set (R255). -/
def State.latchMechanism (s : State) (mechanism : Nat) : State :=
  s.setNum Adr.faultLatchedMask (setBit (s.numAt Adr.faultLatchedMask) mechanism true)

/-- What the detection of a SAFETY fault adds: the latched bit, SAFETY_FAULTS and FAULTS_IN_TICK. -/
def State.latchSafety (s : State) (mechanism : Nat) : State :=
  let s := (s.latchMechanism mechanism).bump Adr.safetyFaults
  { s with bin := { s.bin with safetyInTick := s.bin.safetyInTick + 1 } }

/-- TEMP_MAX (R336): the highest enabled on-die reading, in 0.1 °C. -/
def State.tempMax (s : State) : Int :=
  let ts := ((List.range 12).filter (fun c => s.flagAt (Adr.chEnable c))).map
    (fun c => (nth s.plat.channels c Channel.zero).temp)
  match ts with
  | [] => 0
  | t :: rest => rest.foldl max t

/-- LOGGED records of a signature in tick `tick`, and the number suppressed since the last committed. -/
def State.suppressOf (s : State) (signature : Nat) : Suppress :=
  (s.log.suppress.find? (fun x => x.signature == signature)).getD
    { signature := signature, tick := 0, logged := 0, suppressed := 0 }

def State.setSuppress (s : State) (x : Suppress) : State :=
  { s with log := { s.log with
      suppress := x :: s.log.suppress.filter (fun y => y.signature != x.signature) } }

/-- R281: a LOGGED record of a signature is counted in its tick. The answer is what the record carries in key 24, the
first of a later tick the number suppressed before it; none where the record is suppressed itself. -/
def State.countLogged (s : State) (signature tick : Nat) : Option Nat × State :=
  let x := s.suppressOf signature
  if x.tick == tick then
    if 16 ≤ x.logged then
      (none, (s.setSuppress { x with suppressed := x.suppressed + 1 }).bump Adr.recordsSuppressed)
    else (some 0, s.setSuppress { x with logged := x.logged + 1 })
  else (some x.suppressed, s.setSuppress { x with tick := tick, logged := 1, suppressed := 0 })

/-- R281: the number that a record carried which is not committed as a LOGGED one waits for a later record. -/
def State.returnSuppressed (s : State) (signature n : Nat) : State :=
  if n == 0 then s
  else
    let x := s.suppressOf signature
    s.setSuppress { x with suppressed := x.suppressed + n }

/-- The reaction record of a detection, without its sequence number. -/
def State.reactionOf (s : State) (d : Detection) : FaultRx :=
  let st := s.stampNow
  { seq := 0, cls := d.cls, mechanism := d.mechanism, unit := d.unit, unitKind := d.unitKind,
    verdictOf := d.localise, verdict := 0, t0 := s.tick.now, tick := st.tick, offset := st.offset,
    ticked := !st.unticked && s.tick.gen != .halted, part := d.part, queue := d.queue, tag := d.tag,
    cause := d.cause, detail := d.detail, vector := d.vector, address := d.address, suppressed := 0, powerState := s.power.state.code,
    tempMax := s.tempMax.fdiv 10, supplyMv := s.plat.vsupMv, translation := d.translation,
    fabric := d.fabric, almanacSelect := s.numAt Adr.almanacSelect, fixedForm := false,
    firstFault := !s.bin.faultN, microcode := s.numAt Adr.microcodeVersion,
    binnacleFw := s.numAt Adr.binnacleFwVersion }

/-- R277: whether a fault comes before another of the same cycle: by mechanism code, then by unit. The nanosecond stands
for the cycle (DESIGN CHOICE, log 49). -/
def FaultRx.precedes (r x : FaultRx) : Bool :=
  r.t0 == x.t0 && (r.mechanism < x.mechanism || (r.mechanism == x.mechanism && r.unit < x.unit))

/-- A number after a renumbering, given as (old, new) pairs. -/
def renumbered (m : List (Nat × Nat)) (n : Nat) : Nat :=
  match m.find? (fun e => e.1 == n) with
  | some e => e.2
  | none => n

/-- The fault numbers that items and the dispatcher hold, renumbered. -/
def State.renumberRefs (s : State) (m : List (Nat × Nat)) : State :=
  let job (j : Job) : Job :=
    { j with
      stopRef := renumbered m j.stopRef,
      ended := j.ended.map (fun e => { e with faultRef := renumbered m e.faultRef }) }
  { s with
    queues := s.queues.map (fun (x : Queue) => { x with jobs := x.jobs.map job }),
    bin := { s.bin with dispatcherRef := renumbered m s.bin.dispatcherRef } }

/-- A reaction put before those of the same cycle that it precedes. -/
def insertReaction (r : FaultRx) : List FaultRx → List FaultRx
  | [] => [r]
  | x :: xs => if x.seq != 0 && r.precedes x then r :: x :: xs else x :: insertReaction r xs

/-- R276, R277: a reaction takes a sequence number and joins the reactions in progress: the next number, or, where
faults of the same cycle that it precedes have theirs already, the first of those, which move up by one. The answer is
its number. -/
def State.assignSeq (s : State) (r : FaultRx) : Nat × State :=
  let after := (s.bin.reactions.filter (fun x => x.seq != 0 && r.precedes x)).map (·.seq)
  let own := after.headD s.log.nextSeq
  let moves := after.zip (after.drop 1 ++ [s.log.nextSeq])
  let s := if moves.isEmpty then s else s.renumberRefs moves
  let old := s.bin.reactions.map (fun (x : FaultRx) => { x with seq := renumbered moves x.seq })
  (own, { s with
    log := { s.log with nextSeq := nextSeq s.log.nextSeq },
    bin := { s.bin with reactions := insertReaction { r with seq := own } old } })

/-- The signature of a reaction if it stays LOGGED: with verdict 4 where it waits for localisation (DEDUCED, log 24). -/
def FaultRx.loggedSignature (r : FaultRx) (part : Part) : Nat :=
  FaultRx.signature { r with cls := 2, verdict := if r.verdictOf.isSome then 4 else r.verdict } part

/-- R254, R266 step 1: a fault of class SAFETY (1) or LOGGED (2) is detected. The answer is FAULT_REF: the
assigned number, or 0 for a suppressed record (R277). A LOGGED fault that waits for localisation is counted
under the signature it has if it stays LOGGED, with verdict 4 (DEDUCED, log 24). -/
def State.detect (s : State) (d : Detection) : Nat × State :=
  let s := s.countMechanism d.mechanism
  let s := { s with tick := { s.tick with faults := s.tick.faults + 1 } }
  let r := s.reactionOf d
  if d.cls == 1 then
    let s := s.latchSafety d.mechanism
    s.assignSeq r
  else
    let s := s.bump Adr.loggedFaults
    let (carried, s) := s.countLogged (r.loggedSignature s.part) r.tick
    match carried with
    | none => (0, { s with bin := { s.bin with reactions := s.bin.reactions ++ [r] } })
    | some n => s.assignSeq { r with suppressed := n }

/-- `detect` where no job ends with the fault. -/
def State.raise (s : State) (d : Detection) : State := (s.detect d).2

/-- A reaction put back as the last one in progress. -/
def State.pushReaction (s : State) (r : FaultRx) : State :=
  { s with bin := { s.bin with reactions := s.bin.reactions ++ [r] } }

/-- A reaction once the localisation of array `a` has given its verdict (R257): a LOGGED fault with a
permanent cause becomes a SAFETY fault. -/
def FaultRx.withVerdict (r : FaultRx) (a verdict : Nat) : FaultRx :=
  if r.verdictOf == some a then
    { r with
      verdictOf := none, verdict := verdict, cls := if verdict == 4 then r.cls else 1,
      suppressed := if verdict == 4 then r.suppressed else 0 }
  else r

/-- R257, R266 step 2: the verdict of the localisation of array `a` reaches the reactions that wait for it.
One that becomes a SAFETY fault is latched, and takes its number now if R281 had left it without one. -/
def State.giveVerdict (s : State) (a verdict : Nat) : State :=
  let raised (r : FaultRx) : Bool := r.verdictOf == some a && r.cls == 2 && verdict != 4
  let old := s.bin.reactions
  let s := (old.filter raised).foldl
    (fun s r => (s.latchSafety r.mechanism).returnSuppressed (r.loggedSignature s.part) r.suppressed) s
  let late (r : FaultRx) : Bool := raised r && r.seq == 0
  let s := { s with bin := { s.bin with
    reactions := (old.filter (fun r => !(late r))).map (fun r => r.withVerdict a verdict) } }
  (old.filter late).foldl (fun s r => (s.assignSeq (r.withVerdict a verdict)).2) s

/-! ## The ring and the persistent area (R275, R278 to R280) -/

/-- R285: whether a sequence number is in the range of an export in progress on a port. -/
def PortState.covers (p : PortState) (seq : Nat) : Bool :=
  match p.transfer with
  | none => false
  | some x =>
    !x.write && x.addr == Adr.logbookExport && !x.finished && x.exportLast != 0 &&
      !(later32 x.exportFirst seq) && !(later32 seq x.exportLast)

/-- R280: records that an export in progress protects. -/
def State.exportCovers (s : State) (seq : Nat) : Bool := s.ports.any (fun p => p.covers seq)

/-- R285, R287: whether an export is in progress. -/
def State.exporting (s : State) : Bool :=
  s.ports.any (fun p => match p.transfer with
    | none => false
    | some x => !x.write && x.addr == Adr.logbookExport && !x.finished)

/-- R279: a record is exported when its number is not later than LOGBOOK_EXPORTED_UPTO. -/
def State.exported (s : State) (seq : Nat) : Bool := !(later32 seq (s.numAt Adr.logbookExportedUpto))

/-- The list without its first element that satisfies a test. -/
def dropFirst (p : α → Bool) : List α → List α
  | [] => []
  | x :: xs => if p x then xs else x :: dropFirst p xs

/-- R279, R280: the ring after it has made room for a record of class `cls`, or none where the new record is
discarded. -/
def State.ringRoom (s : State) (cls : Nat) : Option (List LogRec) :=
  let ring := s.log.ring
  let open_ (r : LogRec) : Bool := !(s.exportCovers r.seq)
  let done (r : LogRec) : Bool := open_ r && s.exported r.seq
  let logged (r : LogRec) : Bool := open_ r && r.cls == 2
  if ring.length < 512 then some ring
  else if s.numAt Adr.logbookPolicy == 0 then some (dropFirst open_ ring)
  else if ring.any done then some (dropFirst done ring)
  else if cls == 2 then none
  else if ring.any logged then some (dropFirst logged ring)
  else some (dropFirst open_ ring)

/-- The record of a reaction joins the ring; a SAFETY record waits for its persistent copy (R278). -/
def State.commitRecord (s : State) (r : FaultRx) : State :=
  let sig := r.signature s.part
  match s.ringRoom r.cls with
  | none => (s.returnSuppressed sig r.suppressed).bump Adr.recordsDiscarded
  | some ring =>
    let rec_ : LogRec :=
      { seq := r.seq, cls := r.cls, signature := sig, bytes := r.record s.part, damaged := false }
    let s := if s.log.ring.length == ring.length then s else s.bump Adr.recordsOverwritten
    let s := { s with
      log := { s.log with
        ring := ring ++ [rec_], lastSeq := r.seq,
        copying := if r.cls == 1 then s.log.copying ++ [rec_] else s.log.copying },
      bin := { s.bin with lastSeq := r.seq, lastMechanism := r.mechanism, lastUnit := r.unit } }
    s.bump Adr.recordsWritten

/-! ## The safety message (R270 to R272) -/

/-- Endings of jobs of queue `q` due in tick `tick`. -/
def State.p0Endings (s : State) (q tick : Nat) : List P0End :=
  s.bin.ends.filter (fun e => e.queue == q && e.due == tick)

/-- OUTPUT_PRESENT for a tick (R270). -/
def State.outputPresent (s : State) (tick : Nat) : Nat :=
  sumNat ((List.range 16).map (fun k =>
    let q := s.numAt (Adr.safetyOutput k)
    if q != 0xFF && (s.p0Endings q tick) != [] then 2 ^ k else 0))

/-- Whether a queue is an enabled P0 queue. -/
def State.enabledP0 (s : State) (q : Nat) : Bool :=
  q < 32 && s.flagAt (Adr.queueEnable q) && s.numAt (Adr.queuePartition q) == 0

/-- OUTPUT_VALID of the PERIODIC message for the tick just closed (R272); 0 while debug access is unlocked
(R379). -/
def State.outputValid (s : State) (tick : Nat) : Nat :=
  if s.bin.safetyInLast != 0 || !s.bin.normalAtLast || s.bin.state != .normal || s.power.debugUnlocked then 0
  else
    sumNat ((List.range 16).map (fun k =>
      let q := s.numAt (Adr.safetyOutput k)
      match s.p0Endings q tick with
      | [e] => if s.enabledP0 q && e.valid then 2 ^ k else 0
      | _ => 0))

/-- R270: the 64 bytes of a safety message. -/
def State.safetyBytes (s : State) (alive tick kind valid faults meridian : Nat) : Bytes :=
  let body := leBytes 2 (s.numAt Adr.safetyDataId) ++ leBytes 2 alive ++ leBytes 8 tick ++ leBytes 1 kind ++
    leBytes 1 s.bin.state.code ++ leBytes 2 valid ++ leBytes 2 (s.outputPresent tick) ++
    leBytes 2 (s.numAt Adr.faultLatchedMask) ++ leBytes 4 s.bin.lastSeq ++ leBytes 1 s.bin.lastMechanism ++
    leBytes 1 s.bin.lastUnit ++ leBytes 2 (min faults 65535) ++ leBytes 8 meridian ++ List.replicate 24 0
  body ++ leBytes 4 (crc32c body)

/-- R271: a message is queued; one still unsent is replaced and counted. Nothing is queued while
SAFETY_MSG_ENABLE is clear (R273) or the binnacle starts (R264, R372). -/
def State.queueMessage (s : State) (tick kind valid faults meridian : Nat) : State :=
  if !(s.flagAt Adr.safetyMsgEnable) || s.bin.state == .starting then s
  else
    let alive := (s.bin.alive + 1) % 65536
    let bytes := s.safetyBytes alive tick kind valid faults meridian
    let s := if s.bin.message.isSome then s.bump Adr.safetyMsgReplaced else s
    { s with bin := { s.bin with alive := alive, message := some bytes } }

/-- The EVENT message of a fault (R266 step 5). The tick and meridian of a fault before the first meridian
are values the manual does not state: free values (log 8). -/
def State.eventMessage (s : State) (r : FaultRx) : State :=
  if r.ticked then
    let faults := if r.tick == s.tick.tick then s.bin.safetyInTick else s.bin.safetyInLast
    s.queueMessage r.tick 1 0 faults (r.t0 - r.offset)
  else
    let (tick, s) := s.takeFree (2 ^ 64)
    let (meridian, s) := s.takeFree (2 ^ 64)
    s.queueMessage tick 1 0 s.bin.safetyInTick meridian

/-! ## The reaction (R266) -/

/-- SAFETY_STATE becomes FAULT_LATCHED and FAULT_N is asserted (R266 step 4, R268). -/
def State.assertFault (s : State) : State :=
  { s with bin := { s.bin with
    faultN := true, state := if s.bin.state == .normal then .faultLatched else s.bin.state,
    normalSince := false, normalAtLast := false } }

/-- R267: the NOTIFY FAULT event data. -/
def FaultRx.notifyData (r : FaultRx) : Bytes :=
  leBytes 1 r.mechanism ++ leBytes 1 r.cls ++ leBytes 1 r.unit ++ leBytes 1 r.verdict ++ leBytes 4 r.seq

/-- R266 step 6, R267: NOTIFY FAULT, stamped with the detection (R52). -/
def State.notifyFault (s : State) (r : FaultRx) : State :=
  s.notifyPorts allPorts evFault 0
    { tick := r.tick, offset := r.offset, unticked := !r.ticked } r.notifyData

/-- R266 steps 3 to 6 of the oldest reaction: its record is committed, then FAULT_N, the EVENT message and
NOTIFY FAULT. A SAFETY reaction latches its bit again if a FAULT_ACK cleared it meanwhile (DEDUCED,
log 24). A suppressed LOGGED fault commits nothing and sends its NOTIFY with sequence number 0. -/
def State.react (s : State) (r : FaultRx) : State :=
  let s := if r.seq == 0 then s else s.commitRecord r
  if r.cls == 1 then (((s.latchMechanism r.mechanism).assertFault).eventMessage r).notifyFault r
  else s.notifyFault r

/-! ## The binnacle's own reset (R264, R368 to R372) -/

/-- R372: a binnacle reset: SAFETY_STATE reads STARTING, FAULT_N is asserted, the message and the reactions
in progress are lost. RESET_CAUSE and RESETS_BINNACLE follow R368 and R380. -/
def State.binnacleReset (s : State) : State :=
  let s := { s with bin := { s.bin with
    state := .starting, faultN := true, reactions := [], message := none, alive := 0,
    normalSince := false, normalAtLast := false } }
  (s.setNum Adr.resetCause 4).bump Adr.resetsBinnacle

/-- The fixed-form record of a lockstep mismatch (R264, R282). -/
def State.fixedForm (s : State) : FaultRx :=
  { s.reactionOf (Detection.plain 1 0x0D 255 255) with fixedForm := true, seq := s.log.nextSeq }

/-- R264: the lockstep comparator fires. -/
def State.lockstepMismatch (s : State) : State :=
  let r := s.fixedForm
  let s := { s with
    tick := { s.tick with faults := s.tick.faults + 1 },
    log := { s.log with nextSeq := nextSeq s.log.nextSeq } }
  ((s.latchSafety 0x0D).commitRecord r).binnacleReset

/-- R278: the oldest waiting copy joins the persistent area, which holds 64 records. -/
def State.copyOldest (s : State) : State :=
  match s.log.copying with
  | [] => s
  | r :: rest =>
    let kept := if s.log.persist.length < 64 then s.log.persist else s.log.persist.drop 1
    { s with log := { s.log with copying := rest, persist := kept ++ [r] } }.bump Adr.persistWrites

/-- R372: the end of a binnacle start-up. -/
def State.binnacleUp (s : State) : State :=
  if s.bin.state != .starting then s
  else
    let latched := s.numAt Adr.faultLatchedMask != 0
    { s with bin := { s.bin with state := if latched then .faultLatched else .normal, faultN := latched } }

/-- R269: what blocks FAULT_ACK: a violated monitor window, or a closed numbering that carries P0 traffic. -/
def State.safetyCondition (s : State) : Bool :=
  !s.bin.clocks.isEmpty || !s.bin.rails.isEmpty || s.fabric.numberings.any (fun n => n.closed && n.p0)

/-- R269: an accepted FAULT_ACK. During a start-up only the mask is cleared; R372 ends the start-up. -/
def State.faultAck (s : State) : State :=
  let s := s.setNum Adr.faultLatchedMask 0
  if s.bin.state == .starting then s
  else { s with bin := { s.bin with state := .normal, faultN := false } }

end Sys2Proof.Machine
end

