-- ==== Sys2Proof/Machine/Numerics.lean ====
section
/-! DEFINITION. Machine/Numerics: the ten number formats (R124, R125), conversion between them (R126),
FP32 arithmetic under a rounding profile (R130, R139), the operand pairs (R127, R131), the rescale
descriptor and the rescale unit (R133 to R138). Floating values are exact dyadic numbers that are rounded
once where the rules round. -/

namespace Sys2Proof.Machine

/-- A floating value: NaN, a signed infinity, or (-1)^neg × mant × 2^exp (a signed zero for mant 0). -/
inductive Fp where
  | nan
  | inf (neg : Bool)
  | num (neg : Bool) (mant : Nat) (exp : Int)
  deriving DecidableEq, Repr

/-- A binary floating layout (R124): exponent and mantissa widths, bias, and whether it is E4M3, which has
no infinity and one NaN pattern. -/
structure FloatFmt where
  ebits : Nat
  mbits : Nat
  bias : Nat
  e4m3 : Bool
  deriving DecidableEq, Repr

/-- The floating formats by code (R124). -/
def floatFmt : Nat → Option FloatFmt
  | 5 => some { ebits := 4, mbits := 3, bias := 7, e4m3 := true }
  | 6 => some { ebits := 5, mbits := 2, bias := 15, e4m3 := false }
  | 7 => some { ebits := 5, mbits := 10, bias := 15, e4m3 := false }
  | 8 => some { ebits := 8, mbits := 7, bias := 127, e4m3 := false }
  | 9 => some { ebits := 8, mbits := 23, bias := 127, e4m3 := false }
  | _ => none

def fp32 : FloatFmt := { ebits := 8, mbits := 23, bias := 127, e4m3 := false }

/-- The integer formats by code: lower and upper limit (R124). -/
def intFmt : Nat → Option (Int × Int)
  | 0 => some (-8, 7)
  | 1 => some (-128, 127)
  | 2 => some (0, 255)
  | 3 => some (-32768, 32767)
  | 4 => some (-2147483648, 2147483647)
  | _ => none

/-- Bits of a format (R124). -/
def fmtBits : Nat → Nat
  | 0 => 4 | 1 => 8 | 2 => 8 | 3 => 16 | 4 => 32 | 5 => 8 | 6 => 8 | 7 => 16 | 8 => 16 | _ => 32

/-- Whether a code names a format. -/
def isFormat (c : Nat) : Bool := c < 10

def isFloat (c : Nat) : Bool := 5 ≤ c && c < 10

/-! ## Decoding and encoding (R124, R125) -/

def FloatFmt.width (f : FloatFmt) : Nat := 1 + f.ebits + f.mbits

/-- The value of an encoding. -/
def FloatFmt.decode (f : FloatFmt) (x : Nat) : Fp :=
  let neg := bitAt x (f.ebits + f.mbits)
  let e := (x / 2 ^ f.mbits) % 2 ^ f.ebits
  let m := x % 2 ^ f.mbits
  let top := 2 ^ f.ebits - 1
  if e == top && f.e4m3 && m == 2 ^ f.mbits - 1 then .nan
  else if e == top && !f.e4m3 then (if m == 0 then .inf neg else .nan)
  else if e == 0 then .num neg m (1 - (f.bias : Int) - f.mbits)
  else .num neg (2 ^ f.mbits + m) ((e : Int) - f.bias - f.mbits)

/-- The value of an integer encoding. -/
def intDecode (c x : Nat) : Int := if c == 2 then ((x % 256 : Nat) : Int) else toSigned (fmtBits c) x

/-- An integer as a floating value. -/
def Fp.ofInt (x : Int) : Fp := .num (x < 0) x.natAbs 0

/-- The value of an encoding of any format. -/
def decodeFmt (c x : Nat) : Fp :=
  match floatFmt c with
  | some f => f.decode x
  | none => Fp.ofInt (intDecode c x)

/-- `mant × 2^(-s)` rounded to nearest, ties to even. -/
def roundNat (mant s : Nat) : Nat :=
  if s == 0 then mant
  else
    let q := mant / 2 ^ s
    let r := mant % 2 ^ s
    let half := 2 ^ (s - 1)
    if half < r || (r == half && q % 2 == 1) then q + 1 else q

/-- A non-zero magnitude rounded to a layout: the integer mantissa and the exponent of its unit. -/
def FloatFmt.roundMag (f : FloatFmt) (mant : Nat) (exp : Int) : Nat × Int :=
  let low : Int := 1 - (f.bias : Int) - f.mbits
  let q := max ((Nat.log2 mant : Int) + exp - f.mbits) low
  let m := if q ≤ exp then mant * 2 ^ (exp - q).toNat else roundNat mant (q - exp).toNat
  if m == 2 ^ (f.mbits + 1) then (2 ^ f.mbits, q + 1) else (m, q)

/-- Largest exponent field of a finite value. -/
def FloatFmt.topField (f : FloatFmt) : Int := if f.e4m3 then 2 ^ f.ebits - 1 else 2 ^ f.ebits - 2

/-- Whether a rounded magnitude exceeds the largest finite value. -/
def FloatFmt.overflows (f : FloatFmt) (m : Nat) (q : Int) : Bool :=
  2 ^ f.mbits ≤ m &&
    (f.topField < q + f.mbits + f.bias ||
      (f.e4m3 && q + f.mbits + f.bias == f.topField && m == 2 ^ (f.mbits + 1) - 1))

def FloatFmt.signBit (f : FloatFmt) (neg : Bool) : Nat := if neg then 2 ^ (f.ebits + f.mbits) else 0

/-- The largest finite value's encoding. -/
def FloatFmt.largest (f : FloatFmt) (neg : Bool) : Nat :=
  f.signBit neg + f.topField.toNat * 2 ^ f.mbits + (if f.e4m3 then 2 ^ f.mbits - 2 else 2 ^ f.mbits - 1)

def FloatFmt.infinity (f : FloatFmt) (neg : Bool) : Nat := f.signBit neg + (2 ^ f.ebits - 1) * 2 ^ f.mbits

/-- The canonical NaN (R125). -/
def FloatFmt.canonicalNan (f : FloatFmt) : Nat :=
  if f.e4m3 then 0x7F else (2 ^ f.ebits - 1) * 2 ^ f.mbits + 2 ^ (f.mbits - 1)

/-- The encoding of a rounded magnitude in range. -/
def FloatFmt.pack (f : FloatFmt) (neg : Bool) (m : Nat) (q : Int) : Nat :=
  if m < 2 ^ f.mbits then f.signBit neg + m
  else f.signBit neg + (q + f.mbits + f.bias).toNat * 2 ^ f.mbits + (m - 2 ^ f.mbits)

/-- Conversion into a floating format (R126): the encoding, and whether a finite value or an infinity was
clamped to the largest finite magnitude (R138). -/
def FloatFmt.convert (f : FloatFmt) (x : Fp) : Nat × Bool :=
  match x with
  | .nan => (f.canonicalNan, false)
  | .inf neg => if f.e4m3 then (f.largest neg, true) else (f.infinity neg, false)
  | .num neg mant exp =>
    if mant == 0 then (f.signBit neg, false)
    else
      let (m, q) := f.roundMag mant exp
      if f.overflows m q then (f.largest neg, true) else (f.pack neg m q, false)

/-- A floating value rounded half to even to an integer. -/
def roundInt (neg : Bool) (mant : Nat) (exp : Int) : Int :=
  let m : Nat := if 0 ≤ exp then mant * 2 ^ exp.toNat else roundNat mant (-exp).toNat
  if neg then -(m : Int) else (m : Int)

/-- Conversion into an integer format (R126): half to even, saturating; a NaN becomes 0. -/
def toIntFmt (lo hi : Int) (x : Fp) : Int :=
  match x with
  | .nan => 0
  | .inf neg => if neg then lo else hi
  | .num neg mant exp => clampInt (roundInt neg mant exp) lo hi

/-- Conversion of a value into any format, as its raw encoding (R126). -/
def convertTo (c : Nat) (x : Fp) : Nat :=
  match floatFmt c with
  | some f => (f.convert x).1
  | none =>
    match intFmt c with
    | some (lo, hi) => ofSigned (fmtBits c) (toIntFmt lo hi x)
    | none => 0

/-! ## FP32 arithmetic under a rounding profile (R130, R139) -/

/-- FP32_SUBNORMALS of a ROUNDING_PROFILE. -/
def keepsFp32 (profile : Nat) : Bool := bitAt profile 1

/-- Whether operands of a format keep their subnormals under a profile (R139). -/
def keepsOperand (profile c : Nat) : Bool :=
  if c == 5 || c == 6 then bitAt profile 4
  else if c == 7 then bitAt profile 3
  else if c == 8 then bitAt profile 2
  else if c == 9 then bitAt profile 1 else true

/-- Whether an encoding is a subnormal of its layout. -/
def FloatFmt.subnormal (f : FloatFmt) (x : Nat) : Bool :=
  (x / 2 ^ f.mbits) % 2 ^ f.ebits == 0 && x % 2 ^ f.mbits != 0

/-- An operand as an array reads it under a profile (R139): a flushed subnormal is a zero of its sign. -/
def operand (profile c x : Nat) : Fp :=
  match floatFmt c with
  | some f =>
    if f.subnormal x && !(keepsOperand profile c) then .num (bitAt x (f.ebits + f.mbits)) 0 0 else f.decode x
  | none => Fp.ofInt (intDecode c x)

/-- An exact value rounded to FP32: overflow gives an infinity (R126, R130), a subnormal result is flushed
under FP32_SUBNORMALS 0. -/
def roundFp32 (profile : Nat) (x : Fp) : Fp :=
  match x with
  | .nan => .nan
  | .inf neg => .inf neg
  | .num neg mant exp =>
    if mant == 0 then .num neg 0 0
    else
      let (m, q) := fp32.roundMag mant exp
      if fp32.overflows m q then .inf neg
      else if m < 2 ^ 23 && !(keepsFp32 profile) then .num neg 0 0
      else if m == 0 then .num neg 0 0
      else .num neg m q

/-- The exact signed integer of a value in units of 2^e, for e at most its exponent. -/
def scaledInt (neg : Bool) (mant : Nat) (exp e : Int) : Int :=
  let m : Int := (mant * 2 ^ (exp - e).toNat : Nat)
  if neg then -m else m

/-- The exact sum. An exact cancellation is +0; two zeros of one sign keep it (IEEE 754). -/
def Fp.add (x y : Fp) : Fp :=
  match x, y with
  | .nan, _ => .nan
  | _, .nan => .nan
  | .inf a, .inf b => if a == b then .inf a else .nan
  | .inf a, _ => .inf a
  | _, .inf b => .inf b
  | .num a m e, .num b n g =>
    if m == 0 && n == 0 then .num (a && b) 0 0
    else
      let low := min e g
      let sum := scaledInt a m e low + scaledInt b n g low
      .num (sum < 0) sum.natAbs low

/-- The exact product. -/
def Fp.mul (x y : Fp) : Fp :=
  match x, y with
  | .nan, _ => .nan
  | _, .nan => .nan
  | .inf a, .inf b => .inf (a != b)
  | .inf a, .num b n _ => if n == 0 then .nan else .inf (a != b)
  | .num a m _, .inf b => if m == 0 then .nan else .inf (a != b)
  | .num a m e, .num b n g => .num (a != b) (m * n) (if m * n == 0 then 0 else e + g)

def Fp.neg (x : Fp) : Fp :=
  match x with
  | .nan => .nan
  | .inf a => .inf (!a)
  | .num a m e => .num (!a) m e

def Fp.abs (x : Fp) : Fp :=
  match x with
  | .nan => .nan
  | .inf _ => .inf false
  | .num _ m e => .num false m e

def Fp.isZero (x : Fp) : Bool := match x with | .num _ m _ => m == 0 | _ => false
def Fp.isFinite (x : Fp) : Bool := match x with | .num _ _ _ => true | _ => false
def Fp.isNan (x : Fp) : Bool := match x with | .nan => true | _ => false

/-- Positive zero. -/
def Fp.zero : Fp := .num false 0 0
def Fp.one : Fp := .num false 1 0

/-- x < y in the reals; false where either is a NaN. -/
def Fp.lt (x y : Fp) : Bool :=
  match x, y with
  | .nan, _ => false
  | _, .nan => false
  | .inf a, .inf b => a && !b
  | .inf a, _ => a
  | _, .inf b => !b
  | .num a m e, .num b n g => scaledInt a m e (min e g) < scaledInt b n g (min e g)

/-- FP32 addition with one rounding. -/
def addFp32 (profile : Nat) (x y : Fp) : Fp := roundFp32 profile (x.add y)

/-- FP32 multiplication with one rounding. -/
def mulFp32 (profile : Nat) (x y : Fp) : Fp := roundFp32 profile (x.mul y)

/-- R130: one rounding of acc + a × w. A zero product leaves the partial sum unchanged (R152). -/
def fmaFp32 (profile : Nat) (acc a w : Fp) : Fp :=
  if (a.mul w).isZero then acc else roundFp32 profile (acc.add (a.mul w))

/-- The FP32 encoding of a value that is representable in FP32. -/
def fp32Bits (x : Fp) : Nat :=
  match x with
  | .num neg mant exp =>
    if mant == 0 then fp32.signBit neg
    else
      let (m, q) := fp32.roundMag mant exp
      if fp32.overflows m q then fp32.infinity neg else fp32.pack neg m q
  | .inf neg => fp32.infinity neg
  | .nan => fp32.canonicalNan

/-- An FP32 word as an operand under a profile. -/
def readFp32 (profile x : Nat) : Fp := operand profile 9 x

/-- One level of a pairwise tree: neighbours combined in ascending order. -/
def pairUp (f : α → α → α) : List α → List α
  | x :: y :: rest => f x y :: pairUp f rest
  | xs => xs

/-- The pairwise tree of fixed shape over ascending positions (R154, R155, R158, R160), on at most `fuel`
levels. -/
def treeFold (f : α → α → α) (d : α) : Nat → List α → α
  | _, [] => d
  | _, [x] => x
  | 0, x :: _ => x
  | n + 1, xs => treeFold f d n (pairUp f xs)

def treeSum (profile : Nat) (xs : List Fp) : Fp := treeFold (addFp32 profile) Fp.zero 32 xs

/-! ## Operand pairs (R127, R131, R144) -/

/-- Whether R127 lists an operand pair. -/
def pairListed (a w : Nat) : Bool :=
  (a == 0 && w == 0) || ((a == 1 || a == 2) && (w == 1 || w == 0)) || (a == 3 && w == 1) ||
    ((a == 5 || a == 6) && (w == 5 || w == 6)) || (a == 7 && w == 7) || (a == 8 && w == 8)

/-- Whether a variant has a format (R128). -/
def hasFormat (v : Sys2Proof.Variant) (c : Nat) : Bool := bitAt v.formats c

/-- R131: an activation zero point in the range of its format; 0 for a floating one. -/
def zeroPointOk (c : Nat) (z : Int) : Bool :=
  match intFmt c with
  | some (lo, hi) => lo ≤ z && z ≤ hi
  | none => z == 0

/-- The issue interval I of an operand pair (R144). -/
def issueInterval (a _w : Nat) : Nat := if a == 7 || a == 8 then 2 else if a == 3 then 4 else 1

/-- The tile depth of an operand pair (R144). -/
def tileDepth (a : Nat) : Nat := if a == 0 then 256 else 128

/-! ## The rescale descriptor (R133) -/

structure Rescale where
  mode : Nat
  round : Nat
  outFmt : Nat
  zero : Int
  lo : Int
  hi : Int
  multipliers : List Nat
  shifts : List Nat
  deriving DecidableEq, Repr

def parseRescale (b : Bytes) : Rescale :=
  { mode := field b 0 1, round := field b 1 1, outFmt := field b 2 1, zero := toSigned 32 (field b 4 4),
    lo := toSigned 32 (field b 8 4), hi := toSigned 32 (field b 12 4),
    multipliers := (List.range 32).map (fun c => field b (16 + 8 * c) 4),
    shifts := (List.range 32).map (fun c => field b (20 + 8 * c) 1) }

/-- R133: reserved bytes of a descriptor are 0. -/
def rescaleReserved (b : Bytes) : Bool :=
  field b 3 1 == 0 && (List.range 32).all (fun c => field b (21 + 8 * c) 3 == 0)

/-- R133: mode, accumulator kind and output format go together. -/
def Rescale.combination (r : Rescale) (float : Bool) : Bool :=
  match r.mode with
  | 0 => !float && r.outFmt ≤ 4
  | 1 => !float && r.outFmt == 4
  | 2 => !float && r.outFmt ≤ 3
  | 3 => float && isFloat r.outFmt
  | _ => false

/-- R133: the conditions on LO, HI and OUT_ZERO_POINT. -/
def Rescale.boundsOk (r : Rescale) : Bool :=
  if r.mode == 0 || r.mode == 2 then
    match intFmt r.outFmt with
    | some (lo, hi) => lo ≤ r.lo && r.lo ≤ r.hi && r.hi ≤ hi && lo ≤ r.zero && r.zero ≤ hi
    | none => false
  else r.zero == 0 && r.lo == 0 && r.hi == 0

/-- R133: MULTIPLIER and SHIFT of the channels that exist. -/
def Rescale.channelsOk (r : Rescale) (channels : Nat) : Bool :=
  (List.range (min channels 32)).all (fun c =>
    let m := nth r.multipliers c 0
    let k := nth r.shifts c 0
    (r.mode != 0 || m < 2 ^ 31) && (r.mode != 3 || !(f32Special m)) && ((r.mode != 0 && r.mode != 2) || k ≤ 62))

/-- R133: whether a descriptor of a group with `channels` output channels is well formed. -/
def rescaleOk (b : Bytes) (float : Bool) (channels : Nat) : Bool :=
  let r := parseRescale b
  b.length == 272 && rescaleReserved b && r.round ≤ 1 && r.combination float && r.boundsOk &&
    r.channelsOk channels

/-! ## The rescale unit (R134, R136, R138) -/

/-- R134: the rounding right shift. -/
def roundShift (p : Int) (s : Nat) (halfEven : Bool) : Int :=
  if s == 0 then p
  else
    let half : Int := 2 ^ (s - 1)
    if halfEven then
      let q := p.fdiv (2 ^ s)
      let r := p - q * 2 ^ s
      if half < r || (r == half && q.emod 2 == 1) then q + 1 else q
    else if 0 ≤ p then (p + half).fdiv (2 ^ s)
    else -((-p + half).fdiv (2 ^ s))

/-- What a rescaled element adds to the counters of R140. -/
structure Rescaled where
  raw : Nat
  saturated : Bool
  clamped : Bool
  nan : Bool
  deriving DecidableEq, Repr

/-- R134, R136: integer rescale of one accumulator. -/
def Rescale.integer (r : Rescale) (acc : Int) (c : Nat) : Rescaled :=
  let m : Int := if r.mode == 0 then (nth r.multipliers c 0 : Int) else 1
  let y := roundShift (acc * m) (nth r.shifts c 0) (r.round == 1) + r.zero
  match intFmt r.outFmt with
  | some (lo, hi) =>
    { raw := ofSigned (fmtBits r.outFmt) (clampInt y (max r.lo lo) (min r.hi hi)),
      saturated := y < lo || hi < y, clamped := false, nan := false }
  | none => { raw := 0, saturated := false, clamped := false, nan := false }

/-- R138: floating rescale of one accumulator. -/
def Rescale.float (r : Rescale) (profile acc c : Nat) : Rescaled :=
  let x := mulFp32 profile (readFp32 profile acc) (readFp32 profile (nth r.multipliers c 0))
  if r.outFmt == 9 then { raw := fp32Bits x, saturated := false, clamped := false, nan := x.isNan }
  else
    match floatFmt r.outFmt with
    | some f =>
      let (raw, clamped) := f.convert x
      { raw := raw, saturated := false, clamped := clamped, nan := x.isNan }
    | none => { raw := 0, saturated := false, clamped := false, nan := false }

/-- One output element of a group (R133): `acc` is the raw accumulator word, `c` the channel in the group. -/
def Rescale.apply (r : Rescale) (profile acc c : Nat) : Rescaled :=
  match r.mode with
  | 1 => { raw := acc, saturated := false, clamped := false, nan := false }
  | 3 => r.float profile acc c
  | _ => r.integer (toSigned 32 acc) c

end Sys2Proof.Machine
end

