-- ==== Sys2Proof/Machine/Elements.lean ====
section
/-! DEFINITION. Machine/Elements: elements as they are stored (R124), and the transcendental operations of the
vector units with their bound of 2 ulp (R157). -/

namespace Sys2Proof.Machine

/-! ## Stored elements (R124) -/

/-- Bytes of `n` elements of a format; an odd number of INT4 elements fills its last byte. -/
def storedBytes (c n : Nat) : Nat := ceilDiv (n * fmtBits c) 8

/-- Element `i` of a byte string: INT4 element 2i in bits 3:0 and 2i + 1 in bits 7:4, the rest little-endian. -/
def storedElem (c : Nat) (b : Bytes) (i : Nat) : Nat :=
  if c == 0 then field b (i / 2) 1 / 16 ^ (i % 2) % 16 else field b (i * (fmtBits c / 8)) (fmtBits c / 8)

/-- `n` elements of a byte string. -/
def unpackElems (c n : Nat) (b : Bytes) : List Nat := (List.range n).map (storedElem c b)

/-- Pairs of INT4 elements in bytes, an odd last one with zeros above it. -/
def packNibbles : List Nat → Bytes
  | [] => []
  | [x] => [byteOf (x % 16)]
  | x :: y :: rest => byteOf (x % 16 + 16 * (y % 16)) :: packNibbles rest

/-- Elements as they are stored. -/
def packElems (c : Nat) (xs : List Nat) : Bytes :=
  if c == 0 then packNibbles xs else (xs.map (leBytes (fmtBits c / 8))).flatten

/-! ## Fixed-point approximations -/

/-- Fraction bits of the approximations; their error is far below a millionth of an ulp. -/
def fixBits : Nat := 128

/-- floor(ln 2 × 2^128). -/
def ln2Fix : Int := 235865763225513294137944142764154484399

/-- A dyadic value times 2^128, rounded down. -/
def toFix (neg : Bool) (mant : Nat) (exp : Int) : Int :=
  let e := exp + fixBits
  let m : Int := if 0 ≤ e then (mant * 2 ^ e.toNat : Nat) else (mant / 2 ^ (-e).toNat : Nat)
  if neg then -m else m

/-- The sum of x^n / n! from the term `t` on (times 2^128), `fuel` terms. -/
def expTail : Nat → Nat → Int → Int → Int
  | 0, _, _, _ => 0
  | fuel + 1, n, x, t => t + expTail fuel (n + 1) x ((t * x).fdiv (2 ^ fixBits * (n + 1)))

/-- e^x as a dyadic value; arguments beyond ±1 000 are held there. -/
def expApprox (neg : Bool) (mant : Nat) (exp : Int) : Fp :=
  let x := if 10 < (Nat.log2 mant : Int) + exp then (if neg then -1000 else 1000) * 2 ^ fixBits else toFix neg mant exp
  let k := x.fdiv ln2Fix
  .num false (expTail 48 0 (x - k * ln2Fix) (2 ^ fixBits)).toNat (k - fixBits)

/-- The sum of y^(2n + 1) / (2n + 1) from the power `p` on (times 2^128), with `y2` the square of y. -/
def atanhTail : Nat → Nat → Int → Int → Int
  | 0, _, _, _ => 0
  | fuel + 1, n, y2, p => p.fdiv (2 * n + 1) + atanhTail fuel (n + 1) y2 ((p * y2).fdiv (2 ^ fixBits))

/-- ln of a positive value mant × 2^exp. -/
def logApprox (mant : Nat) (exp : Int) : Fp :=
  let k := (Nat.log2 mant : Int)
  let m := toFix false mant (-k)
  let one : Int := 2 ^ fixBits
  let y := ((m - one) * one).fdiv (m + one)
  let v := 2 * atanhTail 50 0 ((y * y).fdiv one) y + (k + exp) * ln2Fix
  .num (v < 0) v.natAbs (-(fixBits : Int))

/-- 1 / x of a non-zero value. -/
def recipApprox (neg : Bool) (mant : Nat) (exp : Int) : Fp :=
  let k := Nat.log2 mant + fixBits
  .num neg (2 ^ k / mant) (-(k : Int) - exp)

/-- The integer square root of `n`, from bit `k` down. -/
def sqrtBits : Nat → Nat → Nat → Nat
  | 0, r, n => if (r + 1) * (r + 1) ≤ n then r + 1 else r
  | k + 1, r, n =>
    let c := r + 2 ^ (k + 1)
    sqrtBits k (if c * c ≤ n then c else r) n

/-- 1 / √x of a positive value. -/
def rsqrtApprox (mant : Nat) (exp : Int) : Fp :=
  let odd := exp % 2 != 0
  let m := if odd then 2 * mant else mant
  let e := if odd then exp - 1 else exp
  let k := 2 * (Nat.log2 m / 2 + fixBits)
  .num false (sqrtBits (k / 2 + 1) 0 (2 ^ k / m)) (-(k / 2 : Nat) - e / 2)

/-! ## Results within 2 ulp (R157) -/

/-- One unit in the last place of FP32 at a non-zero magnitude. -/
def ulpOf (mant : Nat) (exp : Int) : Fp := .num false 1 (max ((Nat.log2 mant : Int) + exp - 23) (-149))

/-- Whether a value lies within 2 ulp of an approximation (with a millionth of an ulp for its own error). -/
def within2 (v a : Fp) : Bool :=
  match a with
  | .num _ mant exp =>
    let ulp := ulpOf mant exp
    v.isFinite && !(((ulp.mul (.num false 2 0)).add (ulp.mul (.num false 1 (-20)))).lt (v.add a.neg).abs)
  | _ => false

/-- What the manual bounds of a transcendental operation: the exact value it lies within 2 ulp of, for exp (3),
log (4), reciprocal (5) and reciprocal square root (6). None where the manual states no bound or no result. -/
def boundedBy (code : Nat) (x : Fp) : Option Fp :=
  match code, x with
  | 3, .num neg m e => some (if m == 0 then Fp.one else expApprox neg m e)
  | 4, .num false m e => if m == 0 then none else some (logApprox m e)
  | 5, .num neg m e => if m == 0 then none else some (recipApprox neg m e)
  | 6, .num false m e => if m == 0 then none else some (rsqrtApprox m e)
  | _, _ => none

/-- R157: a transcendental result: bit-fixed for an ARITH_REV, its value open (log 8) within the bound that the manual
states: an open value outside it gives way to the nearest FP32 value. Subnormal results follow the profile (R139). -/
def transcendental (profile code rev : Nat) (x : Fp) : Fp :=
  let v := fp32.decode (Config.vecTranscendental code rev (fp32Bits x) % 2 ^ 32)
  let r := match boundedBy code x with
    | none => if x.isNan then Fp.nan else v
    | some a => if within2 v a then v else a
  roundFp32 profile r

end Sys2Proof.Machine
end

