-- ==== Sys2Proof/Machine/Access.lean ====
section
/-! DEFINITION. Machine/Access: accesses to device memory and the chart store: the region check and its
violation (R186 to R191), uncorrectable errors met by an access (R192 to R196), and who is told. -/

namespace Sys2Proof.Machine

/-- What an access met (R189, R193, R195): a region violation, blocks or words with an uncorrectable error, and those
whose correctable error it corrected. -/
structure Met where
  violation : Bool
  bad : List Nat
  corrected : List Nat
  deriving DecidableEq, Repr

/-- Whether an access delivered what memory holds. -/
def Met.fine (m : Met) : Bool := !m.violation && m.bad.isEmpty

/-- What a violating access met. -/
def Met.refused : Met := { violation := true, bad := [], corrected := [] }

/-- Bytes covered by one ECC code at an address: 32 in device memory (R191), 8 in the chart store (R192). -/
def granule (a : Nat) : Nat := if chartBase ≤ a then 8 else 32

/-- First address of the ECC block or word that holds an address. -/
def granuleBase (a : Nat) : Nat := a - a % granule a

/-- Channel of a device-memory address (R187). -/
def State.channelOf (s : State) (a : Nat) : Nat := (a / 4096) % s.part.variant.channels

/-- Offset of a device-memory address on its channel (R187). -/
def State.channelOffset (s : State) (a : Nat) : Nat := a / 4096 / s.part.variant.channels * 4096 + a % 4096

/-- The fabric endpoint that holds a device address (R187, R212): a memory controller by channel, or a chart endpoint,
whose two slices of 4 MiB are taken in turn by 4 KiB granules. -/
def State.endpointOf (s : State) (a : Nat) : Nat :=
  if chartBase ≤ a then
    let slices := s.part.variant.chartKib / 4096
    nth [2, 2, 3, 3, 8, 8, 9, 9, 14, 14, 15, 15] ((a - chartBase) / 4096 % slices) 2
  else nth [0, 5, 18] (s.channelOf a) 0

/-- Those of some ECC blocks and words that overlap `[a, a + k)`. -/
def granulesIn (xs : List Nat) (a k : Nat) : List Nat := xs.filter (fun u => u < a + k && a < u + granule u)

/-- The ECC blocks with an uncorrectable error that overlap `[a, a + k)`. -/
def State.ueIn (s : State) (a k : Nat) : List Nat := granulesIn s.mem.ue a k

/-- Whether a write of `[a, a + k)` replaces the whole block at `u` (R195). -/
def replaces (a k u : Nat) : Bool := a ≤ u && u + granule u ≤ a + k

/-- UE_DETECTED of the place of an address (R195). -/
def State.countUe (s : State) (a : Nat) : State :=
  if chartBase ≤ a then s.bump Adr.chartUeDetected else s.bump (Adr.channelUeDetected (s.channelOf a))

/-- CE_CORRECTED of the place of an address (R193). -/
def State.countCe (s : State) (a : Nat) : State :=
  if chartBase ≤ a then s.bump Adr.chartCeCorrected else s.bump (Adr.channelCeCorrected (s.channelOf a))

/-! ## Numberings of the fabric (R215, R219) -/

def Numbering.is (n : Numbering) (src dst : Nat) (bulk : Bool) (channel : Nat) : Bool :=
  n.src == src && n.dst == dst && n.bulk == bulk && (bulk || n.channel == channel)

/-- The fabric endpoint of an array (R212). -/
def arrayEndpoint (a : Nat) : Nat := nth [6, 7, 10, 11, 12, 13, 16, 17] a 6

/-- R219: whether the numbering of a source's packets to a destination is closed. -/
def State.closedPath (s : State) (src dst : Nat) (bulk : Bool) (channel : Nat) : Bool :=
  s.fabric.numberings.any (fun n => n.is src dst bulk channel && n.closed)

/-! ## Reads and writes -/

/-- The memory bytes at an address, zeros where an uncorrectable error covers them (R195). -/
def State.seen (s : State) (a k : Nat) : Bytes :=
  let bad := s.ueIn a k
  ((s.readMem a k).zipIdx).map (fun e =>
    if bad.any (fun u => u ≤ a + e.2 && a + e.2 < u + granule u) then byteOf 0 else e.1)

/-- A read of memory (R193, R195). -/
def State.rawLoad (s : State) (a k : Nat) : Bytes × Met :=
  (s.seen a k, { violation := false, bad := s.ueIn a k, corrected := granulesIn s.mem.ce a k })

/-- A write of memory (R193, R195, R196): a write of a whole block or word replaces an error, a partial one of an
uncorrectable block leaves it in place. -/
def State.rawStore (s : State) (a : Nat) (bs : Bytes) : State × Met :=
  let k := bs.length
  let left (xs : List Nat) : List Nat := (granulesIn xs a k).filter (fun u => !(replaces a k u))
  let met : Met := { violation := false, bad := left s.mem.ue, corrected := left s.mem.ce }
  let s := s.writeMem a bs
  ({ s with
      mem := { s.mem with
        ue := s.mem.ue.filter (fun u => !(replaces a k u)), ce := s.mem.ce.filter (fun u => !(replaces a k u)) } }, met)

/-- A checked read for partition `p` (R189, R195): zeros for a violation. -/
def State.load (s : State) (p a k : Nat) : Bytes × Met :=
  if s.permitted p false a k then s.rawLoad a k else (List.replicate k (byteOf 0), Met.refused)

/-- A checked write for partition `p` (R189, R195, R196): a violating write is discarded. -/
def State.store (s : State) (p a : Nat) (bs : Bytes) : State × Met :=
  if s.permitted p true a bs.length then s.rawStore a bs else (s, Met.refused)

/-! ## Charging (R174, R191) -/

/-- R174: `k` bytes of a partition's requests, in 1 KiB units; the tick in which its credits are spent is
counted once. -/
def State.chargeBytes (s : State) (p k : Nat) : State :=
  if k == 0 then s
  else
    let left := nth s.mem.credits p 0 - ceilDiv k 1024
    let already := nth s.mem.spent p false
    let s := { s with mem := { s.mem with
      credits := modifyAt s.mem.credits p (fun _ => left),
      spent := modifyAt s.mem.spent p (fun b => b || left == 0) } }
    if left == 0 && !already then s.bump (Adr.bwExhaustedTicks p) else s

/-- R191: the bytes that an access moves: in an INLINE_ECC region two check bytes for each block as well, and for each
block that a write covers in part the read of the block with its check bytes. -/
def State.traffic (s : State) (write : Bool) (a k : Nat) : Nat :=
  if k == 0 || chartBase ≤ a || !(s.inlineEcc a) then k
  else
    let first := a / 32
    let last := (a + k - 1) / 32
    let parts :=
      if first == last then b2n (k != 32) else b2n (a % 32 != 0) + b2n ((a + k) % 32 != 0)
    k + 2 * (last - first + 1) + (if write then 34 * parts else 0)

/-- R174, R191: an access made for a partition's job is charged. -/
def State.chargeAccess (s : State) (p : Nat) (write : Bool) (a k : Nat) : State :=
  s.chargeBytes p (s.traffic write a k)

/-! ## Reporting (R189, R195, R254) -/

/-- Who made an access, as its fault record names it. -/
structure Actor where
  partition : Nat
  unit : Nat
  unitKind : Nat
  queue : Option Nat
  tag : Option Nat
  deriving DecidableEq, Repr

/-- The actor of a stream slot. -/
def State.slotActor (s : State) (n : Nat) : Actor :=
  { partition := s.numAt (Adr.partition n), unit := n, unitKind := 8, queue := none, tag := none }

/-- The actor of a job of queue `q`. -/
def State.queueActor (s : State) (q tag : Nat) : Actor :=
  { partition := s.numAt (Adr.queuePartition q), unit := q, unitKind := 5, queue := some q, tag := some tag }

/-- R189: a region violation: counted, and a SAFETY fault in P0 or a LOGGED one elsewhere. The answer is the
logbook number for FAULT_REF. -/
def State.violate (s : State) (w : Actor) (cause a : Nat) : Nat × State :=
  let s := s.bump (Adr.regionViolations w.partition)
  s.detect { Detection.plain (if w.partition == 0 then 1 else 2) 0x0B w.unit w.unitKind with
    part := some w.partition, queue := w.queue, tag := w.tag, cause := cause, address := some a }

/-- R195: an uncorrectable error detected at an address: counted, and a SAFETY fault in P0 memory, a LOGGED
one elsewhere; only counted for the scrubber outside every in-force entry. -/
def State.uncorrectable (s : State) (scrub : Bool) (part queue tag : Option Nat) (cause a : Nat) :
    Nat × State :=
  let s := s.countUe a
  let unit := if chartBase ≤ a then 255 else s.channelOf a
  let kind := if chartBase ≤ a then 2 else 1
  if scrub && !(s.inAnyRegion a) then (0, s)
  else
    s.detect { Detection.plain (if s.p0Memory a then 1 else 2) 4 unit kind with
      part := part, queue := queue, tag := tag, cause := cause, address := some a }

/-- R193: correctable errors are counted, and what is corrected is written back. -/
def State.correct (s : State) (m : Met) : State :=
  let s := m.corrected.foldl State.countCe s
  { s with mem := { s.mem with ce := s.mem.ce.filter (fun u => !(m.corrected.contains u)) } }

/-- R195: every uncorrectable error that an access detects; the answer is the number of the first one's record. -/
def State.uncorrectables (part queue tag : Option Nat) (cause : Nat) : List Nat → State → Nat × State
  | [], s => (0, s)
  | u :: us, s =>
    let (ref, s) := s.uncorrectable false part queue tag cause u
    (ref, (State.uncorrectables part queue tag cause us s).2)

/-- What a job's access met, reported (R189, R193, R195): the cause that ends the job and its FAULT_REF, if any. -/
def State.report (s : State) (w : Actor) (a : Nat) (m : Met) : Option (Nat × Nat) × State :=
  let s := s.correct m
  if m.violation then
    let (ref, s) := s.violate w 0x16 a
    (some (0x16, ref), s)
  else if m.bad.isEmpty then (none, s)
  else
    let (ref, s) := State.uncorrectables (some w.partition) w.queue w.tag 0x11 m.bad s
    (some (0x11, ref), s)

/-- What a slot's access met, reported (R189, R193, R195); the answer says whether it met an uncorrectable error. -/
def State.reportIngest (s : State) (w : Actor) (a : Nat) (m : Met) : Bool × State :=
  let s := s.correct m
  if m.violation then (false, (s.violate w 0 a).2)
  else (!m.bad.isEmpty, (State.uncorrectables (some w.partition) none none 0 m.bad s).2)

/-- R98: whether a slot is guaranteed for the rest of the present tick. -/
def State.guaranteedNow (s : State) (n : Nat) : Bool :=
  s.flagAt (Adr.guaranteed n) && !(s.slotAt n).overGuarantee

/-- R98: bytes that a slot writes are counted; a guaranteed slot that exceeds GUARANTEED_BYTES loses its
guarantee for the rest of the tick, and the tick is counted once. -/
def State.countSlotBytes (s : State) (n k : Nat) : State :=
  let total := (s.slotAt n).bytesInTick + k
  let s := s.setSlot n (fun x => { x with bytesInTick := total })
  if s.guaranteedNow n && s.numAt (Adr.guaranteedBytes n) < total then
    (s.setSlot n (fun x => { x with overGuarantee := true })).bump (Adr.overGuarantee n)
  else s

/-- A slot's checked write (R189, R195); in a closed numbering it is not sent (R219; DEDUCED, log 37). -/
def State.ingestWrite (s : State) (n a : Nat) (bs : Bytes) : Bool × State :=
  if bs.isEmpty || s.closedPath 1 (s.endpointOf a) true 0 then (false, s)
  else
    let s := s.countSlotBytes n bs.length
    let w := s.slotActor n
    let (s, m) := s.store w.partition a bs
    s.reportIngest w a m

/-- Writes of several pieces; the answer says whether one met an uncorrectable error. -/
def State.ingestWrites (s : State) (n : Nat) (pieces : List (Nat × Bytes)) : Bool × State :=
  pieces.foldl (fun (acc : Bool × State) piece =>
    let (bad, s) := acc.2.ingestWrite n piece.1 piece.2
    (acc.1 || bad, s)) (false, s)

end Sys2Proof.Machine
end

