-- ==== Sys2Proof/Machine/Almanac.lean ====
section
/-! DEFINITION. Machine/Almanac: almanacs (R76 to R78), the rounding and replay profiles in force (R139,
R222), and when two almanacs match. -/

namespace Sys2Proof.Machine

/-- Number of enabled arrays: bits set in ARRAY_ENABLE (R77). -/
def State.arraysEnabled (s : State) : Nat :=
  ((List.range 8).filter (bitAt (s.numAt Adr.arrayEnable))).length

/-- Bytes 0 to 27 of an almanac followed by its ALMANAC_CRC (R76). -/
def sealAlmanac (body : Bytes) : Bytes := body.take 28 ++ leBytes 4 (crc32c (body.take 28))

/-- The part's own almanac with a given ARRAYS_ENABLED (R76, R77). -/
def State.ownAlmanac (s : State) (arrays : Nat) : Bytes :=
  sealAlmanac ([byteOf 1] ++ leBytes 1 s.part.stepping ++ leBytes 2 s.part.variant.deviceId ++
    leBytes 4 (s.numAt Adr.microcodeVersion) ++ leBytes 2 s.part.roundingProfile ++ leBytes 1 arrays ++ [0] ++
    leBytes 2 s.part.replayProfile ++ List.replicate 14 0)

/-- Entry `k` of the almanac set (R78): the native almanac with ARRAYS_ENABLED 0, then the earlier ones. -/
def State.almanacEntry (s : State) (k : Nat) : Bytes :=
  if k == 0 then s.ownAlmanac 0 else nth s.part.earlierAlmanacs (k - 1) []

/-- ALMANAC_SET_COUNT (R78). -/
def State.almanacCount (s : State) : Nat := 1 + s.part.earlierAlmanacs.length

/-- ALMANAC_NATIVE (R77). -/
def State.almanacNative (s : State) : Bytes := s.ownAlmanac s.arraysEnabled

/-- ALMANAC_EFFECTIVE (R77): the selected entry with the present number of enabled arrays. -/
def State.almanacEffective (s : State) : Bytes :=
  let e := s.almanacEntry (s.numAt Adr.almanacSelect)
  sealAlmanac (e.take 10 ++ leBytes 1 s.arraysEnabled ++ (e.drop 11).take 17)

/-- R77: two almanacs match when bytes 0 to 27 are equal. -/
def almanacsMatch (a b : Bytes) : Bool := a.take 28 == b.take 28

/-- ROUNDING_PROFILE_EFFECTIVE (R140). -/
def State.roundingEffective (s : State) : Nat := field s.almanacEffective 8 2

/-- REPLAY_PROFILE_EFFECTIVE (R227). -/
def State.replayEffective (s : State) : Nat := field s.almanacEffective 12 2

end Sys2Proof.Machine
end

