-- ==== Sys2Proof/Machine/Shaping.lean ====
section
/-! DEFINITION. Machine/Shaping: tensor shaping (chapter 05): unpacking, black level, demosaic, colour
matrix, crop and resize, pyramids, normalisation, the tensor layouts and the shaped buffer. -/

namespace Sys2Proof.Machine

/-- A plane of 16-bit values, by row and column. -/
abbrev Plane := Nat → Nat → Nat

/-! ## Steps 1 to 4 (R112 to R114) -/

/-- R112 step 1: how far a stored sample is shifted left. -/
def unpackShift (dt : Nat) : Nat :=
  match dt with
  | 0x2B => 6 | 0x2C => 4 | 0x2D => 2 | 0x2E => 0 | _ => 8

/-- Position of component `c` of pixel `x` in a stored row (R93, R113): RGB888 is stored B, G, R, and
YUV422 as U, Y, V, Y (PRESUMED, log 26); a raw row has one sample a pixel. -/
def componentIndex (dt x c : Nat) : Nat :=
  if dt == 0x24 then 3 * x + (2 - c)
  else if dt == 0x1E then
    (match c with | 0 => 2 * x + 1 | 1 => 4 * (x / 2) | _ => 4 * (x / 2) + 2)
  else x

/-- A stored sample; rows beyond the last received one repeat it (R121). -/
def sampleAt (rows : List (List Nat)) (y i : Nat) : Nat := nth (nth rows (min y (rows.length - 1)) []) i 0

/-- CFA channel of a pixel (R113): Bayer 0 R, 1 G, 3 B with G on a B row as 2; RGB-IR 0 R, 1 G, 2 B, 3 IR.
The answer is the BLACK_LEVEL index. -/
def cfaIndex (demosaic phase y x : Nat) : Nat :=
  let px := x + 4 - phase % 4
  let py := y + 4 - phase / 4 % 4
  if demosaic == 1 then
    (match py % 2, px % 2 with
     | 0, 0 => 0 | 0, _ => 1 | _, 0 => 2 | _, _ => 3)
  else
    match py % 4, px % 4 with
    | 0, 0 => 2 | 0, 2 => 0
    | 2, 0 => 0 | 2, 2 => 2
    | 1, 1 => 3 | 1, 3 => 3 | 3, 1 => 3 | 3, 3 => 3
    | _, _ => 1

/-- Output channel of a BLACK_LEVEL index (R113). -/
def cfaChannel (demosaic k : Nat) : Nat :=
  if demosaic == 1 then (match k with | 0 => 0 | 3 => 2 | _ => 1) else k

/-- R112 steps 1 and 2: a sample after unpacking and black level. -/
def blackened (cfg : ShapeCfg) (dt k raw : Nat) : Nat :=
  raw * 2 ^ unpackShift dt % 65536 - field cfg.blackLevel (2 * k) 2

/-- Samples of channel `c` around a pixel, border pixels replicated outward (R113). -/
def neighbours (cfg : ShapeCfg) (f : Frame) (rows : List (List Nat)) (radius c y x : Nat) : List Nat :=
  let offs := List.range (2 * radius + 1)
  let inside (v d size : Nat) : Nat := min (v + d - radius) (size - 1)
  (offs.map (fun dy => (offs.map (fun dx =>
    let yy := inside y dy f.height
    let xx := inside x dx f.width
    let k := cfaIndex cfg.demosaic cfg.cfaPhase yy xx
    if cfaChannel cfg.demosaic k == c then [blackened cfg f.dataType k (sampleAt rows yy xx)] else [])).flatten)).flatten

/-- R113: channel `c` of a pixel before the colour matrix. Where the neighbourhood holds no sample of the
channel the manual states no value: `hole`, a free value (log 8). -/
def demosaiced (cfg : ShapeCfg) (f : Frame) (rows : List (List Nat)) (hole c : Nat) : Plane := fun y x =>
  if cfg.demosaic == 1 || cfg.demosaic == 2 then
    let k := cfaIndex cfg.demosaic cfg.cfaPhase y x
    if cfaChannel cfg.demosaic k == c then blackened cfg f.dataType k (sampleAt rows y x)
    else
      let radius := if cfg.demosaic == 2 && (c == 0 || c == 2) then 2 else 1
      let near := neighbours cfg f rows radius c y x
      if near.isEmpty then hole else (2 * sumNat near + near.length) / (2 * near.length)
  else blackened cfg f.dataType 0 (sampleAt rows y (componentIndex f.dataType x c))

/-- R114: the colour matrix; the IR channel and DEMOSAIC 0 bypass it. -/
def coloured (cfg : ShapeCfg) (src : Nat → Plane) (c : Nat) : Plane := fun y x =>
  if cfg.demosaic == 0 || 3 ≤ c then src c y x
  else
    let sum := (List.range 3).foldl
      (fun (a : Int) j => a + toSigned 16 (field cfg.ccm (2 * (3 * c + j)) 2) * (src j y x : Int)) 0
    (clampInt ((sum + 2048).fdiv 4096 + toSigned 32 (field cfg.ccmOffset (4 * c) 4)) 0 65535).toNat

/-! ## Step 5 and pyramids (R115, R118) -/

/-- R115: position in 1/256 pixel of output `d` of `outN` over a source of `n`. -/
def resizePos (n outN d : Nat) : Nat :=
  let raw : Int := (((2 * d + 1) * n * 256) / (2 * outN) : Nat) - 128
  (clampInt raw 0 (((n - 1) * 256 : Nat) : Int)).toNat

/-- R115: a source rectangle resized by bilinear interpolation. -/
def resize (p : Plane) (x y w h outW outH : Nat) : Plane := fun dy dx =>
  if w == outW && h == outH then p (y + dy) (x + dx)
  else
    let sx := resizePos w outW dx
    let sy := resizePos h outH dy
    let x0 := x + sx / 256
    let y0 := y + sy / 256
    let fx := sx % 256
    let fy := sy % 256
    let x1 := min (x0 + 1) (x + w - 1)
    let y1 := min (y0 + 1) (y + h - 1)
    ((256 - fx) * (256 - fy) * p y0 x0 + fx * (256 - fy) * p y0 x1 + (256 - fx) * fy * p y1 x0 +
      fx * fy * p y1 x1 + 32768) / 65536

/-- R118: the 2×2 box mean, rounded half up. -/
def boxMean (p : Plane) : Plane := fun y x =>
  (p (2 * y) (2 * x) + p (2 * y) (2 * x + 1) + p (2 * y + 1) (2 * x) + p (2 * y + 1) (2 * x + 1) + 2) / 4

/-- A pyramid level: width, height and its planes. -/
structure Level where
  w : Nat
  h : Nat
  plane : Nat → Plane

/-- R118: the levels after level `k - 1`; `prev2` is level `k - 2`. -/
def levelsFrom : Nat → Nat → Nat → Level → Level → List Level
  | 0, _, _, _, _ => []
  | fuel + 1, mode, k, prev2, prev =>
    let box (l : Level) : Level := { w := l.w / 2, h := l.h / 2, plane := fun c => boxMean (l.plane c) }
    let next :=
      if mode == 0 then box prev
      else if k % 2 == 0 then box prev2
      else
        let w := prev.w * 181 / 256
        let h := prev.h * 181 / 256
        { w := w, h := h, plane := fun c => resize (prev.plane c) 0 0 prev.w prev.h w h }
    next :: levelsFrom fuel mode (k + 1) prev next

/-- R118: the pyramid of a full frame. -/
def levelsOf (cfg : ShapeCfg) (full : Level) : List Level :=
  match cfg.pyrLevels with
  | 0 => []
  | l + 1 =>
    let w := if cfg.pyrBaseW == 0 then full.w else cfg.pyrBaseW
    let h := if cfg.pyrBaseH == 0 then full.h else cfg.pyrBaseH
    let base : Level := { w := w, h := h, plane := fun c => resize (full.plane c) 0 0 full.w full.h w h }
    base :: levelsFrom l cfg.pyrMode 1 base base

/-! ## Step 6 (R116) and the tensors (R119) -/

/-- The rounding profile of normalisation: no operand is flushed, since R139 flushes inside the arrays, the
vector units and the graph walker only (log 19). -/
def shapeProfile : Nat := 0x011E

/-- R116, R126: a value of channel `c` normalised and converted, as a raw encoding of OUT_FORMAT; an infinity stays one
in FP16 and BF16, as R126 says of R116 too (DEDUCED, log 19). -/
def normalised (cfg : ShapeCfg) (c v : Nat) : Nat :=
  let mean := readFp32 shapeProfile (field cfg.mean (4 * c) 4)
  let scale := readFp32 shapeProfile (field cfg.scale (4 * c) 4)
  let d := addFp32 shapeProfile (Fp.ofInt v) mean.neg
  convertTo cfg.outFormat (addFp32 shapeProfile (mulFp32 shapeProfile d scale) (Fp.ofInt cfg.zeroPoint))

/-- Bytes of an element (R119). -/
def elementBytes (cfg : ShapeCfg) (enc : Nat) : Bytes := leBytes (outElemSize cfg.outFormat) enc

/-- The padding element of LAYOUT 1 (R119). -/
def paddingElement (cfg : ShapeCfg) : Nat :=
  if isFloat cfg.outFormat then 0 else ofSigned (fmtBits cfg.outFormat) cfg.zeroPoint

/-- R116: the colour channel written at channel position `p`. -/
def channelAt (order channels p : Nat) : Nat := if order == 1 && channels != 1 && p < 3 then 2 - p else p

/-- R119: the bytes of one tensor. -/
def levelBytes (cfg : ShapeCfg) (l : Level) : Bytes :=
  let ch := demosaicChannels cfg.demosaic
  let elem (y x p : Nat) : Bytes :=
    if p < ch then
      let c := channelAt cfg.channelOrder ch p
      elementBytes cfg (normalised cfg c (l.plane c y x))
    else elementBytes cfg (paddingElement cfg)
  if cfg.layout == 0 then
    ((List.range l.h).map (fun y => ((List.range l.w).map (fun x =>
      ((List.range ch).map (elem y x)).flatten)).flatten)).flatten
  else
    ((List.range (ceilDiv ch 32)).map (fun b => ((List.range l.h).map (fun y => ((List.range l.w).map (fun x =>
      ((List.range 32).map (fun i => elem y x (32 * b + i))).flatten)).flatten)).flatten)).flatten

/-- One tensor of a shaped buffer: its offset, size, KIND and bytes; `present` is false for an invalid or
absent region. -/
structure Tensor where
  present : Bool
  offset : Nat
  w : Nat
  h : Nat
  kind : Nat
  bytes : Bytes
  deriving DecidableEq, Repr

/-- Whether the rows of a frame have a stated reading for the pattern: R113 gives DEMOSAIC 0 one channel,
and names no component of RGB888 or YUV422 for it. -/
def ShapeCfg.monoStated (cfg : ShapeCfg) (dt : Nat) : Bool := cfg.demosaic != 0 || (dt != 0x24 && dt != 0x1E)

/-- The size of one region's space (R119, R120). -/
def ShapeCfg.space (cfg : ShapeCfg) (w h : Nat) : Nat :=
  roundUp (tensorBytes cfg.layout h w (demosaicChannels cfg.demosaic) (outElemSize cfg.outFormat)) 64

/-- Whether region `r` of a shaping exists and keeps R115. -/
def Shaping.regionOk (g : Shaping) (f : Frame) (r : Nat) : Bool :=
  match g.regions[r]? with
  | none => false
  | some x => roiOk x.x x.y x.w x.h x.outW x.outH f.width f.height g.cfg.roiOutMaxW g.cfg.roiOutMaxH

/-- Bit mask of the valid regions (R121). -/
def Shaping.validMask (g : Shaping) (f : Frame) : Nat :=
  sumNat ((List.range g.cfg.roiMaxCount).map (fun r => if g.regionOk f r then 2 ^ r else 0))

/-- Offsets of the pyramid levels after `off`, by their sizes. -/
def levelOffsets (cfg : ShapeCfg) : Nat → List (Nat × Nat) → List Nat
  | _, [] => []
  | off, l :: ls => off :: levelOffsets cfg (off + cfg.space l.1 l.2) ls

/-- R118 to R121: the tensors of a shaped frame in descriptor order. -/
def Shaping.tensors (g : Shaping) (f : Frame) (hole : Nat) : List Tensor :=
  let cfg := g.cfg
  let full : Level :=
    { w := f.width, h := f.height, plane := fun c => coloured cfg (demosaiced cfg f g.rows hole) c }
  let meta_ := shapedMetaOf cfg.shapedBytes
  let one := cfg.space cfg.roiOutMaxW cfg.roiOutMaxH
  let regions := (List.range cfg.roiMaxCount).map (fun r =>
    let x := nth g.regions r { x := 0, y := 0, w := 0, h := 0, outW := 0, outH := 0 }
    if g.regionOk f r then
      let l : Level :=
        { w := x.outW, h := x.outH, plane := fun c => resize (full.plane c) x.x x.y x.w x.h x.outW x.outH }
      { present := true, offset := meta_ + r * one, w := x.outW, h := x.outH, kind := r,
        bytes := levelBytes cfg l : Tensor }
    else { present := false, offset := 0, w := 0, h := 0, kind := r, bytes := [] })
  let levels := levelsOf cfg full
  let offs := levelOffsets cfg (meta_ + cfg.roiMaxCount * one) (levels.map (fun l => (l.w, l.h)))
  let pyramid := (levels.zip offs).zipIdx.map (fun e =>
    { present := true, offset := e.1.2, w := e.1.1.w, h := e.1.1.h, kind := 16 + e.2,
      bytes := levelBytes cfg e.1.1 : Tensor })
  regions ++ pyramid

/-- Bytes of tensor space (R120), from the latched settings. -/
def Shaping.tensorSpace (g : Shaping) (f : Frame) : Nat :=
  g.cfg.roiMaxCount * g.cfg.space g.cfg.roiOutMaxW g.cfg.roiOutMaxH +
    sumNat ((pyramidSizes g.cfg.pyrLevels g.cfg.pyrMode g.cfg.pyrBaseW g.cfg.pyrBaseH f.width f.height).map
      (fun l => g.cfg.space l.1 l.2))

/-! ## The shaped buffer (R120, R121) -/

/-- R121: one descriptor; OFFSET is 0 when the tensor is absent or the shaping was abandoned. Width and
height of an absent region are not stated: free bytes `open_`. -/
def Tensor.descriptor (x : Tensor) (cfg : ShapeCfg) (abandoned : Bool) (open_ : Bytes) : Bytes :=
  leBytes 4 (if x.present && !abandoned then x.offset else 0) ++
    (if x.present then leBytes 2 x.w ++ leBytes 2 x.h else padTo open_ 4 0) ++
    leBytes 1 (demosaicChannels cfg.demosaic) ++ leBytes 1 cfg.outFormat ++ leBytes 1 cfg.layout ++
    leBytes 1 x.kind

/-- R121: the shaped header. -/
def Shaping.header (g : Shaping) (ctx : Nat) (f : Frame) (ts : List Tensor) (blocks : Nat) (open_ : Bytes) :
    Bytes :=
  let stale := g.roiStatus == 1 || g.roiStatus == 2
  let flags := b2n g.overrun + 2 * b2n stale + 4 * b2n (f.flags % 16 != 0) + 8 * b2n g.memError
  let body := [byteOf 1] ++ leBytes 1 ctx ++ leBytes 2 flags ++ leBytes 4 f.counter ++ leBytes 8 f.capture ++
    leBytes 2 f.epoch ++ leBytes 1 g.roiStatus ++ leBytes 1 (g.validMask f) ++
    leBytes 4 (if g.fromStatic then 0 else g.tableFrame) ++ leBytes 1 ts.length ++ [0] ++ leBytes 2 blocks ++
    List.replicate 4 0
  let descs := (ts.map (fun x => x.descriptor g.cfg (g.overrun || g.memError) open_)).flatten
  let all := padTo (body ++ descs) 252 0
  all ++ leBytes 4 (crc32c all)

/-- Address of the shaped buffer (R120). -/
def Shaping.base (g : Shaping) : Nat := g.cfg.shapedAddr + g.buffer * g.cfg.shapedBytes

/-- The lengths of the 4 KiB blocks of `n` bytes, from an offset on, at most `fuel`. -/
def blockSpans : Nat → Nat → Nat → List (Nat × Nat)
  | 0, _, _ => []
  | fuel + 1, off, n => if n == 0 then [] else (off, min n 4096) :: blockSpans fuel (off + 4096) (n - 4096)

/-- R120: the guard words of the tensor space as it is stored. -/
def State.shapedGuards (s : State) (base meta_ n : Nat) : List Bytes :=
  (blockSpans (ceilDiv n 4096) (base + meta_) n).map (fun b => leBytes 4 (crc32c (s.readMem b.1 b.2)))

/-- R120, R121: a shaped frame's tensors, guard words and header are written; an uncorrectable error met by a
tensor abandons the shaping (R195). The answer has the flags and counters. -/
def State.writeShaped (s : State) (ctx : Nat) (g : Shaping) (f : Frame) : State :=
  let n := g.cfg.slot
  let (hole, s) := s.takeFree 65536
  let (open_, s) := s.takeFreeBytes 4
  let ts := g.tensors f hole
  let (ts, s) :=
    if g.cfg.monoStated f.dataType then (ts, s)
    else
      ts.foldl (fun (acc : List Tensor × State) x =>
        let (b, s) := acc.2.takeFreeBytes x.bytes.length
        (acc.1 ++ [{ x with bytes := b }], s)) ([], s)
  let pieces := if g.overrun || g.memError then []
    else (ts.filter (·.present)).map (fun x => (g.base + x.offset, x.bytes))
  let (bad, s) := s.ingestWrites n pieces
  let g := { g with memError := g.memError || bad }
  let words := s.shapedGuards g.base (shapedMetaOf g.cfg.shapedBytes) (g.tensorSpace f)
  let (bad, s) := s.ingestWrites n (words.zipIdx.map (fun e => (g.base + 256 + 4 * e.2, e.1)))
  let g := { g with memError := g.memError || bad }
  let s := (s.ingestWrite n g.base (g.header ctx f ts words.length open_)).2
  if g.overrun then s.bump (Adr.shapeOverruns ctx)
  else if g.memError then s
  else s.bump (Adr.framesShaped ctx)

/-! ## The regions of a frame (R117) -/

/-- The settings of a context as latched at FS (R111). -/
def State.shapeCfg (s : State) (c : Nat) : ShapeCfg :=
  { slot := s.numAt (Adr.shapeSlot c), demosaic := s.numAt (Adr.demosaic c),
    cfaPhase := s.numAt (Adr.cfaPhase c), blackLevel := s.bytesAt (Adr.blackLevel c),
    ccm := s.bytesAt (Adr.ccm c), ccmOffset := s.bytesAt (Adr.ccmOffset c), mean := s.bytesAt (Adr.mean c),
    scale := s.bytesAt (Adr.scale c), zeroPoint := s.intAt 16 (Adr.zeroPoint c),
    outFormat := s.numAt (Adr.outFormat c), layout := s.numAt (Adr.layout c),
    channelOrder := s.numAt (Adr.channelOrder c), pyrLevels := s.numAt (Adr.pyrLevels c),
    pyrMode := s.numAt (Adr.pyrMode c), pyrBaseW := s.numAt (Adr.pyrBaseW c),
    pyrBaseH := s.numAt (Adr.pyrBaseH c), roiMaxCount := s.numAt (Adr.roiMaxCount c),
    roiOutMaxW := s.numAt (Adr.roiOutMaxW c), roiOutMaxH := s.numAt (Adr.roiOutMaxH c),
    shapedAddr := s.numAt (Adr.shapedAddr c), shapedBytes := s.numAt (Adr.shapedBytes c) }

/-- The context enabled on a slot (R110). -/
def State.contextOf (s : State) (n : Nat) : Option Nat :=
  (List.range 16).find? (fun c => s.flagAt (Adr.shapeEnable c) && s.numAt (Adr.shapeSlot c) == n)

def State.ctxAt (s : State) (c : Nat) : Ctx := nth s.ingest.ctxs c Ctx.zero
def State.setCtx (s : State) (c : Nat) (f : Ctx → Ctx) : State :=
  { s with ingest := { s.ingest with ctxs := modifyAt s.ingest.ctxs c f } }

/-- The regions an ROI table or ROI_STATIC spells, at most ROI_MAX_COUNT (R117). -/
def regionsIn (b : Bytes) (most : Nat) : List Roi := parseRois (min (field b 8 1) most) (b.drop 16)

/-- R117: the regions of frame `f`, and how they were come by: TABLE_SEQ with the head, the entries and TABLE_SEQ
again are read at each FS. A shaping of another slot that this context has still in hand goes on (R111). An uncorrectable error at the table abandons
the shaping of the frame (DEDUCED from R195: its bytes read as zeros, which never reach a valid output). -/
def State.startShaping (s : State) (c buffer : Nat) (f : Frame) (torn : Bool) : State :=
  let cfg := s.shapeCfg c
  let base (rs : List Roi) (fromStatic : Bool) (status table : Nat) (bad : Bool) : Shaping :=
    { cfg := cfg, buffer := buffer, regions := rs, fromStatic := fromStatic, roiStatus := status,
      tableFrame := table, overrun := false, memError := bad, frame := none, rows := [] }
  let static := regionsIn (s.bytesAt (Adr.roiStatic c)) cfg.roiMaxCount
  let (g, s) :=
    if s.numAt (Adr.roiSource c) == 0 then (base static true 3 0 false, s)
    else
      let w := s.slotActor cfg.slot
      let a := s.numAt (Adr.roiTableAddr c)
      let (head, met) := s.load w.partition a 16
      let (bad, s) := s.reportIngest w a met
      let count := min (field head 8 1) cfg.roiMaxCount
      let table := field head 4 4
      let (body, met) := s.load w.partition (a + 16) (16 * count)
      let (bad2, s) := if count == 0 then (false, s) else s.reportIngest w (a + 16) met
      let (_, met) := s.load w.partition a 4
      let (bad3, s) := s.reportIngest w a met
      let bad := bad || bad2 || bad3
      if table == f.counter && !torn && !bad then
        (base (parseRois count body) false 0 table bad, s)
      else
        let status := if table != f.counter then 1 else 2
        let s := s.bump (Adr.roiStale c)
        match (s.ctxAt c).regions with
        | some (rs, t, st) => (base rs st status t bad, s)
        | none => (base static true status 0 bad, s)
  let invalid := countIf (fun r => !(g.regionOk f r)) (List.range g.regions.length)
  let s := s.bumpBy (Adr.roiInvalid c) invalid
  s.setCtx c (fun x => { x with
    regions := some (g.regions, g.tableFrame, g.fromStatic),
    current := x.current.filter (fun h => h.cfg.slot != cfg.slot) ++ [g] })

/-! ## The shaping pool (R122) -/

/-- Output positions of a resize of `h` rows to `outW` × `outH` that input row `r` of them makes due: the rows in
proportion (DESIGN CHOICE, log 51). -/
def rowsDue (r h outW outH : Nat) : Nat := outW * ((r + 1) * outH / max 1 h - r * outH / max 1 h)

/-- R122: the work of input row `r` of a frame: one unit an input pixel, one an output position. -/
def Shaping.lineUnits (g : Shaping) (f : Frame) (r : Nat) : Nat :=
  let regions := (List.range (min g.regions.length g.cfg.roiMaxCount)).map (fun k =>
    let x := nth g.regions k { x := 0, y := 0, w := 0, h := 0, outW := 0, outH := 0 }
    if g.regionOk f k && x.y ≤ r && r < x.y + x.h then rowsDue (r - x.y) x.h x.outW x.outH else 0)
  let levels := (pyramidSizes g.cfg.pyrLevels g.cfg.pyrMode g.cfg.pyrBaseW g.cfg.pyrBaseH f.width f.height).map
    (fun l => rowsDue r f.height l.1 l.2)
  f.width + sumNat regions + sumNat levels

/-- Buffered lines after `budget` fifths of a unit are spent on them in order, and what is left. -/
def drainLines : Nat → List PoolLine → Nat × List PoolLine
  | b, [] => (b, [])
  | b, x :: xs => if x.work ≤ b then drainLines (b - x.work) xs else (0, { x with work := x.work - b } :: xs)

/-- R122: the contexts in the pool's order: guaranteed slots, then descending PRIORITY, then number. -/
def State.poolOrder (s : State) : List Nat :=
  [true, false].flatMap (fun g => (List.range 8).reverse.flatMap (fun p => (List.range 16).filter (fun c =>
    let n := s.numAt (Adr.shapeSlot c)
    s.guaranteedNow n == g && s.numAt (Adr.priority n) == p)))

/-- R122: the pool works until time `t`: 8 units in each INGEST cycle of 800 MHz, 32 fifths of a unit a nanosecond. -/
def State.servePool (s : State) (t : Nat) : State :=
  let s1 := { s with ingest := { s.ingest with poolAt := max t s.ingest.poolAt } }
  (s.poolOrder.foldl (fun (acc : Nat × State) c =>
    let (left, lines) := drainLines acc.1 (acc.2.ctxAt c).backlog
    (left, acc.2.setCtx c (fun x => { x with backlog := lines }))) (32 * (t - s.ingest.poolAt), s1)).2

/-- Whether a shaping is that of buffer `i` of slot `n`. -/
def Shaping.isOf (g : Shaping) (n i : Nat) : Bool := g.cfg.slot == n && g.buffer == i

/-- R122: line `r` of the frame in buffer `i` of slot `n` reaches its shaping context at time `t`: it joins the 32
buffered lines, or, where they are full, abandons the shaping of its frame. -/
def State.shapeLine (s : State) (n i r t : Nat) (f : Frame) : State :=
  let s := s.servePool t
  (List.range 16).foldl (fun s c =>
    let x := s.ctxAt c
    match x.current.find? (fun g => g.isOf n i) with
    | none => s
    | some g =>
      if g.overrun then s
      else if 32 ≤ x.backlog.length then
        s.setCtx c (fun y => { y with
          current := y.current.map (fun h => if h.isOf n i then { h with overrun := true } else h),
          backlog := y.backlog.filter (fun l => l.slot != n || l.buffer != i) })
      else s.setCtx c (fun y => { y with
        backlog := y.backlog ++ [{ slot := n, buffer := i, work := 5 * g.lineUnits f r }] })) s

end Sys2Proof.Machine
end

