-- ==== Sys2Proof/Machine/Ingest.lean ====
section
/-! DEFINITION. Machine/Ingest: sensor ingest (chapter 04): frames, buffers, drops, guard data and headers,
statistics, the sensor command sequencer and the close of fusion sets. -/

namespace Sys2Proof.Machine

/-! ## Frames in progress (R90 to R96) -/

/-- R358: whether the INGEST domain runs. -/
def State.ingestRuns (s : State) : Bool := s.power.state == .ready || s.power.state == .run

/-- META_BYTES of a frame's slot as it stood at the frame's start (R93). -/
def State.metaOf (s : State) (n : Nat) (f : Frame) : Nat :=
  roundUp (64 + 4 * (if f.kind == 0 then ceilDiv f.height 64 else ceilDiv (s.numAt (Adr.bufferBytes n)) 4096)) 4096

/-- Line stride of a camera frame (R93). -/
def Frame.stride (f : Frame) : Nat := roundUp (f.width * bytesPerPixel f.dataType) 64

/-- Address of buffer `i` of a slot (R93). -/
def State.bufferBase (s : State) (n i : Nat) : Nat :=
  s.numAt (Adr.ringAddr n) + i * s.numAt (Adr.bufferBytes n)

def State.setBuffer (s : State) (n i : Nat) (f : Buffer → Buffer) : State :=
  s.setSlot n (fun x => { x with buffers := modifyAt x.buffers i f })

/-- The buffers of a slot's ring, with their numbers. -/
def State.ring (s : State) (n : Nat) : List (Buffer × Nat) :=
  ((s.slotAt n).buffers.zipIdx).filter (fun e => e.2 < s.numAt (Adr.ringBuffers n))

/-- A flag bit set in a frame's FLAGS (R94). -/
def Frame.flag (f : Frame) (k : Nat) : Frame := { f with flags := setBit f.flags k true }

/-! FLAGS bits (R94). -/
def flLink : Nat := 0
def flTruncated : Nat := 1
def flOversize : Nat := 2
def flLineLength : Nat := 3
def flFirst : Nat := 4
def flLate : Nat := 5
def flUncertain : Nat := 6
def flUnticked : Nat := 7

/-- R100: one dropped frame is accounted: 1 NO_BUFFER, 2 BANDWIDTH, 3 OVERWRITTEN, 4 MEMORY_ERROR. -/
def State.accountDrop (s : State) (n cause : Nat) (f : Frame) : State :=
  let s := s.bump (Adr.droppedFrames n)
  let s := s.bump (match cause with
    | 1 => Adr.dropNoBuffer n | 2 => Adr.dropBandwidth n | 3 => Adr.dropOverwritten n
    | _ => Adr.dropMemoryError n)
  let s := { s with tick := { s.tick with framesDropped := s.tick.framesDropped + 1 } }
  s.setSlot n (fun x => { x with
    dropsBefore := min (x.dropsBefore + 1) 65535, lastDrop := cause,
    drops := x.drops ++ [{ counter := f.counter, capture := f.capture, endTime := f.endTime }] })

/-- The shaping of buffer `i` of a slot is given up: a dropped frame has no shaped output (R121). -/
def State.unshape (s : State) (n i : Nat) : State :=
  { s with ingest := { s.ingest with ctxs := s.ingest.ctxs.map (fun x => { x with
      current := x.current.filter (fun g => !(g.isOf n i)),
      pending := x.pending.filter (fun g => !(g.isOf n i)),
      backlog := x.backlog.filter (fun l => l.slot != n || l.buffer != i) }) } }

/-- A buffer returned to FREE; what it held is still known for R106. -/
def State.freeBuffer (s : State) (n i : Nat) : State :=
  (s.unshape n i).setBuffer n i (fun b => { b with state := .free, holder := .nobody, shapePending := false })

/-- A frame in progress is dropped: accounted, its buffer freed, its data discarded (R99, R195). -/
def State.dropFilling (s : State) (n cause : Nat) : State :=
  match (s.slotAt n).filling with
  | none => s
  | some fl =>
    match fl.buffer with
    | none => s
    | some i =>
      let s := (s.accountDrop n cause fl.frame).freeBuffer n i
      s.setSlot n (fun x => { x with filling := some { fl with buffer := none, dropCause := cause } })

/-- The oldest READY buffer of a slot (R96). -/
def State.oldestReady (s : State) (n : Nat) : Option Nat :=
  let ready := (s.ring n).filter (fun e => e.1.state == .ready)
  match ready with
  | [] => none
  | e :: es => some (es.foldl (fun m x => if x.1.frame.start < m.1.frame.start then x else m) e).2

/-- R96, R99: the buffer a frame starts in, or the cause it is dropped with; REUSE_OLDEST drops the frame
it overwrites. -/
def State.takeBuffer (s : State) (n fill : Nat) : (Nat × Option Nat) × State :=
  let p := s.numAt (Adr.priority n)
  if !(s.guaranteedNow n) && (50 + 5 * p) * 4194304 < fill * 100 then ((2, none), s)
  else
    match (s.ring n).find? (fun e => e.1.state == .free) with
    | some e => ((0, some e.2), s)
    | none =>
      if s.numAt (Adr.ringMode n) == 0 then ((1, none), s)
      else
        match s.oldestReady n with
        | none => ((1, none), s)
        | some i =>
          let old := (nth (s.slotAt n).buffers i Buffer.zero).frame
          ((0, some i), (s.accountDrop n 3 old).freeBuffer n i)

/-- R104: the epoch of the frame with counter `g`: the latest epoch whose first frame is not later than it.
The answer is the epoch now in force, the ones still to come, and whether `g` is the first frame of an
epoch whose commit was late. -/
def epochFor (now : Nat) (es : List Epoch) (g : Nat) : Nat × List Epoch × Bool :=
  let due := es.filter (fun e => !(later32 e.first g))
  match due.getLast? with
  | none => (now, es, false)
  | some e => (e.epoch, (es.dropWhile (fun x => x != e)).drop 1, e.late)

/-- Whether epoch `a` is later than epoch `b` (U16, wrapping). -/
def laterEpoch (a b : Nat) : Bool :=
  let d := (a + 65536 - b) % 65536
  1 ≤ d && d < 32768

/-- R90 to R96: a frame of a slot starts at time `t`. -/
def State.beginFrame (s : State) (n fill t : Nat) (torn : Bool) : State :=
  let x := s.slotAt n
  let kind := s.numAt (Adr.sourceKind n)
  let camera := kind == 0
  let counter := x.nextCounter
  let capture := t - s.numAt (Adr.tsAdjust n)
  let st := s.stampAt capture
  let (epoch, epochs, late) := if camera then epochFor x.epochNow x.epochs counter else (0, x.epochs, false)
  let uncertain := match x.uncertain with
    | some u => if camera && laterEpoch epoch u then none else some u
    | none => none
  let flags := b2n x.first * 2 ^ flFirst + b2n (camera && late) * 2 ^ flLate +
    b2n (camera && uncertain.isSome) * 2 ^ flUncertain + b2n st.unticked * 2 ^ flUnticked
  let f : Frame :=
    { counter := counter, capture := capture, tick := st.tick, offset := st.offset, flags := flags,
      epoch := epoch, endTime := 0, payload := 0, blocks := 0, lines := 0,
      width := if camera then s.numAt (Adr.width n) else 0, height := s.numAt (Adr.height n), kind := kind,
      dataType := if camera then s.numAt (Adr.dataType n) else 0, dropsBefore := 0, lastDrop := 0, start := t }
  let ((cause, buffer), s) := s.takeBuffer n fill
  let fl : Filling :=
    { buffer := buffer, frame := f, rows := [], stored := [], dropCause := cause, marker := 65536, lastPacket := t }
  let s := s.setSlot n (fun y => { y with
    nextCounter := (counter + 1) % 2 ^ 32, first := false, filling := some fl, lastFsCounter := counter,
    epochs := epochs, epochNow := if camera then epoch else y.epochNow, uncertain := uncertain })
  match buffer with
  | none => s.accountDrop n cause f
  | some i =>
    let s := s.setBuffer n i (fun _ => { Buffer.zero with state := .filling, frame := f })
    match s.contextOf n with
    | some c => if camera then s.startShaping c i f torn else s
    | none => s

/-! ## The end of a frame (R90, R94, R95) -/

/-- R94: the frame header. -/
def frameHeader (n : Nat) (f : Frame) : Bytes :=
  let camera := f.kind == 0
  let body := [byteOf 1] ++ leBytes 1 n ++ leBytes 2 f.flags ++ leBytes 4 f.counter ++ leBytes 8 f.capture ++
    leBytes 8 f.tick ++ leBytes 4 f.offset ++ leBytes 2 f.epoch ++ leBytes 2 f.dropsBefore ++
    leBytes 4 f.payload ++ leBytes 2 f.blocks ++ leBytes 2 (if camera then f.lines else 0) ++
    leBytes 2 f.width ++ leBytes 1 f.dataType ++ leBytes 1 f.lastDrop ++ List.replicate 4 0 ++
    leBytes 8 f.endTime ++ List.replicate 4 0
  body ++ leBytes 4 (crc32c body)

/-- Bytes of one stored sample of a data type (R93). -/
def sampleBytes (dt : Nat) : Nat := if 0x2B ≤ dt && dt ≤ 0x2E then 2 else 1

/-- One stored line: its samples and the zeros up to the stride (R93). -/
def storedLine (f : Frame) (row : List Nat) : Bytes :=
  padTo ((row.map (leBytes (sampleBytes f.dataType))).flatten) f.stride 0

/-- A list cut into pieces of `k`, at most `fuel`. -/
def chunks : Nat → Nat → List α → List (List α)
  | 0, _, _ => []
  | fuel + 1, k, xs => match xs with | [] => [] | x :: r => (x :: r).take k :: chunks fuel k ((x :: r).drop k)

/-- The guard blocks of a frame (R95): 64 stored lines, or 4 KiB of payload. -/
def Filling.guardBlocks (fl : Filling) : List Bytes :=
  if fl.frame.kind == 0 then
    (chunks fl.rows.length 64 fl.rows).map (fun rows => (rows.map (storedLine fl.frame)).flatten)
  else chunks fl.stored.length 4096 fl.stored

/-- Payload bytes written of a frame. -/
def Filling.payload (fl : Filling) : Nat :=
  if fl.frame.kind == 0 then fl.rows.length * fl.frame.stride else fl.stored.length

/-- A complete frame's buffer becomes READY (a selected one stays HELD), and the frame counts as delivered. -/
def State.deliver (s : State) (n i : Nat) (header : Bytes) : State :=
  let s := s.setBuffer n i (fun b =>
    { b with state := if b.state == .filling then .ready else b.state, shapePending := false })
  (s.setSlot n (fun x => { x with lastHeader := header })).bump (Adr.framesDelivered n)

/-- The shaping of a frame that has ended waits for its shaped header (R121). -/
def State.shapeEnded (s : State) (n i : Nat) (f : Frame) (rows : List (List Nat)) : Option State :=
  match (s.ingest.ctxs.zipIdx).find? (fun e => e.1.current.any (fun g => g.isOf n i)) with
  | none => none
  | some (x, c) =>
    match x.current.find? (fun g => g.isOf n i) with
    | none => none
    | some g =>
      some ((s.setCtx c (fun y => { y with
          current := y.current.filter (fun h => !(h.isOf n i)), pending := y.pending ++ [{ g with frame := some f, rows := rows }] })).setBuffer n i
        (fun b => { b with shapePending := true }))

/-- A frame that kept its buffer is completed: guard words, then the header (R95); an uncorrectable error
drops it (R195). -/
def State.completeFrame (s : State) (n i : Nat) (fl : Filling) : State :=
  let base := s.bufferBase n i
  let words := fl.guardBlocks.zipIdx.map (fun e => (base + 64 + 4 * e.2, leBytes 4 (crc32c e.1)))
  let (bad1, s) := s.ingestWrites n words
  let x := s.slotAt n
  let f := { fl.frame with
    payload := fl.payload, blocks := words.length, dropsBefore := x.dropsBefore, lastDrop := x.lastDrop }
  let header := frameHeader n f
  let (bad2, s) := s.ingestWrite n base header
  let s := s.setSlot n (fun y => { y with filling := none })
  if bad1 || bad2 then (s.accountDrop n 4 f).freeBuffer n i
  else
    let s := s.setSlot n (fun y => { y with dropsBefore := 0, lastDrop := 0 })
    let s := s.setBuffer n i (fun b => { b with frame := f })
    match s.shapeEnded n i f fl.rows with
    | some s => s
    | none => s.deliver n i header

/-- R90, R95: the frame in progress of a slot ends at time `t`. TRUNCATED_FRAMES and LINK_ERRORS count every
frame that ended with the flag (DEDUCED, log 28). -/
def State.endFrame (s : State) (n t : Nat) (truncated : Bool) : State :=
  match (s.slotAt n).filling with
  | none => s
  | some fl =>
    let f := { fl.frame with endTime := t }
    let f := if truncated then f.flag flTruncated else f
    let fl := { fl with frame := f }
    let s := if bitAt f.flags flTruncated then s.bump (Adr.truncatedFrames n) else s
    let s := if bitAt f.flags flLink then s.bump (Adr.linkErrors n) else s
    let s :=
      match fl.buffer with
      | some i => s.completeFrame n i fl
      | none => s.setSlot n (fun x => { x with
          filling := none,
          drops := x.drops.map (fun d => if d.counter == f.counter then { d with endTime := t } else d) })
    let gone := !((s.slotAt n).buffers.any (fun b =>
      b.frame.counter == f.counter && b.frame.start == f.start && b.state != .free))
    if f.kind == 0 && s.flagAt (Adr.statsEnable n) then
      s.setSlot n (fun x => { x with
        stats := x.stats ++ [{ frame := f, rows := fl.rows, dropped := gone }] })
    else s

/-! ## Slots start and stop at a meridian (R89) -/

/-- R89, R91: a slot starts: its counters begin anew. Its buffers keep their states: R96 and R97 name what returns a
READY or HELD buffer to FREE, and an enable is not among it. -/
def State.startSlot (s : State) (n : Nat) : State :=
  s.setSlot n (fun x => { Slot.zero with
    running := true, buffers := x.buffers, settingsNew := x.settingsNew, lastTableSeq := x.lastTableSeq, uncertain := x.uncertain,
    epochNow := s.numAt (Adr.epoch n), stats := x.stats, lastHeader := x.lastHeader })

/-- R89: a slot stops; a frame in progress ends with TRUNCATED. -/
def State.stopSlot (s : State) (n t : Nat) : State :=
  (s.endFrame n t true).setSlot n (fun x => { x with running := false })

/-- R90 (TICK_FRAME_END): point-cloud frames under FRAME_RULE 0 and audio frames end at the meridian. -/
def State.endTickFrames (s : State) (t : Nat) : State :=
  (List.range 48).foldl (fun s n =>
    match (s.slotAt n).filling with
    | none => s
    | some fl =>
      if fl.frame.kind == 0 || (fl.frame.kind == 1 && s.numAt (Adr.frameRule n) == 1) then s
      else s.endFrame n t false) s

/-- Whether a slot runs and receives. -/
def State.receives (s : State) (n : Nat) : Bool := (s.slotAt n).running && s.ingestRuns

/-- R86: the running camera slots of a receiver's virtual channel. -/
def State.slotsOf (s : State) (r vc : Nat) : List Nat :=
  (List.range 48).filter (fun n =>
    (s.slotAt n).running && s.numAt (Adr.sourceKind n) == 0 && s.numAt (Adr.sourceUnit n) == r &&
      s.numAt (Adr.vc n) == vc)

/-- R86: the receiver's counters for a packet header and a payload's CRC: ECC_CORRECTED for a corrected header,
PACKET_ERRORS for an uncorrectable header or a wrong CRC. -/
def State.notePacket (s : State) (r : Nat) (ecc : CsiEcc) (crcOk : Bool) : State :=
  let s := if ecc == .corrected then s.bump (Adr.eccCorrected r) else s
  if ecc == .uncorrectable || !crcOk then s.bump (Adr.packetErrors r) else s

/-- R94: LINK_ERROR of the frame in progress of a slot, where a packet of it was bad. -/
def State.linkError (s : State) (n : Nat) (bad : Bool) : State :=
  if bad then
    s.setSlot n (fun x => { x with filling := x.filling.map (fun fl => { fl with frame := fl.frame.flag flLink }) })
  else s

/-- The shaping context of slot `n` is listed in `torn`. -/
def State.tornAt (s : State) (n : Nat) (torn : List (Fin 16)) : Bool :=
  match s.contextOf n with
  | some c => torn.any (fun k => k.val == c)
  | none => false

/-- R90, R96: an FS reaches slot `n`. -/
def State.startCamera (s : State) (n fill t : Nat) (torn : List (Fin 16)) (bad : Bool) : State :=
  let s := s.endFrame n t true
  (s.beginFrame n fill t (s.tornAt n torn)).linkError n bad

/-- R86, R96: an FS short packet starts a frame on every running slot of its receiver and virtual channel, and is
counted in UNMATCHED where there is none. One with an uncorrectable header acts as it was received and sets
LINK_ERROR (DEDUCED, log 28). `torn` lists the contexts whose ROI table changed while it was read. -/
def State.frameStartPacket (s : State) (r vc : Nat) (ecc : CsiEcc) (fill t : Nat) (torn : List (Fin 16)) : State :=
  let s := s.notePacket r ecc true
  match s.slotsOf r vc with
  | [] => s.bump (Adr.csiUnmatched r)
  | ns => ns.foldl (fun s n => s.startCamera n fill t torn (ecc == .uncorrectable)) s

/-- R96: a camera FS, or the start of a point-cloud or audio frame. -/
def doFrameStart (t : Nat) (src : FrameSource) (fill : Nat) (torn : List (Fin 16)) (s : State) : State :=
  let s := s.advance t
  match src with
  | .csi r vc ecc => if s.ingestRuns then s.frameStartPacket r.val vc ecc fill t torn else s
  | .slot n =>
    if !(s.receives n.val) || s.numAt (Adr.sourceKind n.val) == 0 || (s.slotAt n.val).filling.isSome then s
    else s.beginFrame n.val fill t false

def execFrameStart (t : Nat) (src : FrameSource) (fill : Nat) (torn : List (Fin 16)) (s : State) :
    Host.Outcome State Fault Refusal :=
  .next (doFrameStart t src fill torn s)

/-- R90, R95: an FE reaches slot `n`. -/
def State.endCamera (s : State) (n t : Nat) (bad : Bool) : State := (s.linkError n bad).endFrame n t false

/-- R86, R90, R95: an FE short packet ends the frames in progress of its receiver and virtual channel. -/
def State.frameEndPacket (s : State) (r vc : Nat) (ecc : CsiEcc) (t : Nat) : State :=
  let s := s.notePacket r ecc true
  match s.slotsOf r vc with
  | [] => s.bump (Adr.csiUnmatched r)
  | ns => ns.foldl (fun s n => s.endCamera n t (ecc == .uncorrectable)) s

def doFrameEnd (t : Nat) (recv : Fin 8) (vc : Nat) (ecc : CsiEcc) (s : State) : State :=
  let s := s.advance t
  if s.ingestRuns then s.frameEndPacket recv.val vc ecc t else s

def execFrameEnd (t : Nat) (packet : CsiShort) (s : State) : Host.Outcome State Fault Refusal :=
  .next (doFrameEnd t packet.recv packet.vc packet.ecc s)

/-- R90: FRAME_TIMEOUT after FS (camera, with TRUNCATED), or after the last packet (FRAME_RULE 1). -/
def doFrameTimeout (slot : Fin 48) (s : State) : State :=
  let n := slot.val
  match (s.slotAt n).filling with
  | none => s
  | some fl =>
    let limit := s.numAt (Adr.frameTimeout n) * 1000
    if !(s.receives n) then s
    else if fl.frame.kind == 0 then
      (s.advance (fl.frame.start + limit)).endFrame n (fl.frame.start + limit) true
    else if fl.frame.kind == 1 && s.numAt (Adr.frameRule n) == 1 then
      (s.advance (fl.lastPacket + limit)).endFrame n (fl.lastPacket + limit) false
    else s

def execFrameTimeout (slot : Fin 48) (s : State) : Host.Outcome State Fault Refusal :=
  .next (doFrameTimeout slot s)

/-! ## CSI packets (R86, R93) -/

/-- Groups of `k` bytes. -/
def groupsOf (k : Nat) (b : Bytes) : List Bytes := chunks (b.length) k b

/-- The samples of a CSI-2 long packet (R86, R93): MIPI CSI-2 packing (RAW16, RGB888 and YUV422 PRESUMED,
log 26); RGB888 and YUV422 give one value a component. -/
def csiSamples (dt : Nat) (b : Bytes) : List Nat :=
  let at_ (g : Bytes) (i : Nat) : Nat := field g i 1
  match dt with
  | 0x2B =>
    ((groupsOf 5 b).filter (fun g => g.length == 5)).flatMap (fun g =>
      (List.range 4).map (fun i => at_ g i * 4 + at_ g 4 / 4 ^ i % 4))
  | 0x2C =>
    ((groupsOf 3 b).filter (fun g => g.length == 3)).flatMap (fun g =>
      [at_ g 0 * 16 + at_ g 2 % 16, at_ g 1 * 16 + at_ g 2 / 16])
  | 0x2D =>
    ((groupsOf 7 b).filter (fun g => g.length == 7)).flatMap (fun g =>
      (List.range 4).map (fun i => at_ g i * 64 + field g 4 3 / 64 ^ i % 64))
  | 0x2E => ((groupsOf 2 b).filter (fun g => g.length == 2)).map beNat
  | _ => b.map (fun x => x.toNat)

/-- Values of a stored line (R93): three a pixel for RGB888, two for YUV422, one for the rest. -/
def lineValues (dt width : Nat) : Nat :=
  if dt == 0x24 then 3 * width else if dt == 0x1E then 2 * width else width

/-- R93: one line joins the frame in progress of a camera slot, and its shaping. -/
def State.addLine (s : State) (n : Nat) (fl : Filling) (samples : List Nat) (bad : Bool) (t : Nat) :
    State :=
  let f := fl.frame
  let want := lineValues f.dataType f.width
  let f := if bad then f.flag flLink else f
  let f := if samples.length == want then f else f.flag flLineLength
  let r := f.lines
  let f := { f with lines := r + 1 }
  if f.height ≤ r then s.setSlot n (fun x => { x with filling := some { fl with frame := f.flag flOversize } })
  else
    let row := padTo samples want 0
    let fl := { fl with frame := f, rows := fl.rows ++ [row] }
    let s := s.setSlot n (fun x => { x with filling := some fl })
    match fl.buffer with
    | none => s
    | some i =>
      let (ue, s) := s.ingestWrite n (s.bufferBase n i + s.metaOf n f + r * f.stride) (storedLine f row)
      if ue then s.dropFilling n 4 else s.shapeLine n i r t f

/-- R86: a CSI-2 packet other than FS and FE. Line Start and Line End (data types 2 and 3) are accepted and ignored. -/
def doCsiPacket (p : CsiPacket) (s : State) : State :=
  let s := s.advance p.t
  let r := p.recv.val
  if !s.ingestRuns then s
  else
    let s := s.notePacket r p.ecc p.crcOk
    if p.dataType < 4 then s
    else
      match (s.slotsOf r p.vc).find? (fun n => s.numAt (Adr.dataType n) == p.dataType) with
      | none => s.bump (Adr.csiUnmatched r)
      | some n =>
        match (s.slotAt n).filling with
        | none => s
        | some fl => s.addLine n fl (csiSamples p.dataType p.payload) (p.ecc == .uncorrectable || !p.crcOk) p.t

def execCsiPacket (p : CsiPacket) (s : State) : Host.Outcome State Fault Refusal := .next (doCsiPacket p s)

/-! ## Point cloud and audio (R87, R88, R90) -/

/-- Bytes join the frame in progress of a point-cloud or audio slot; those beyond the payload space are
discarded (R93). -/
def State.addBytes (s : State) (n : Nat) (bs : Bytes) (t : Nat) : State :=
  match (s.slotAt n).filling with
  | none => s
  | some fl =>
    let space := s.numAt (Adr.bufferBytes n) - s.metaOf n fl.frame
    let have_ := fl.stored.length
    let kept := bs.take (space - have_)
    let f := if kept.length == bs.length then fl.frame else fl.frame.flag flOversize
    let fl := { fl with frame := f, stored := fl.stored ++ kept, lastPacket := t }
    let s := s.setSlot n (fun x => { x with filling := some fl })
    match fl.buffer with
    | none => s
    | some i =>
      let (ue, s) := s.ingestWrite n (s.bufferBase n i + s.metaOf n f + have_) kept
      if ue then s.dropFilling n 4 else s

/-- R90: the frame that a packet of a point-cloud slot joins. Under FRAME_RULE 1 a marker that differs from the
previous packet's ends the frame in progress and begins a new one; the first packet after the slot starts begins one.
A packet too short to hold a marker, and one with an unchanged marker after the frame has ended, begin no frame
(DESIGN CHOICE, log 29). -/
def State.openCloud (s : State) (n fill t : Nat) (stored : Bytes) : State :=
  let off := s.numAt (Adr.markerOffset n)
  let x := s.slotAt n
  if s.numAt (Adr.frameRule n) != 1 then (if x.filling.isSome then s else s.beginFrame n fill t false)
  else if stored.length < off + 2 then s
  else
    let marker := field stored off 2
    let unmarked := match x.filling with | some fl => fl.marker == 65536 | none => false
    let s := if x.lastMarker == some marker || unmarked then s
      else (s.endFrame n t false).beginFrame n fill t false
    s.setSlot n (fun y => { y with
      lastMarker := some marker, filling := y.filling.map (fun fl => { fl with marker := marker }) })

/-- R87: a slot matches an Ethernet frame. -/
def State.flowMatches (s : State) (n : Nat) (f : EthFrame) : Bool :=
  (s.slotAt n).running && s.numAt (Adr.sourceKind n) == 1 && s.numAt (Adr.sourceUnit n) == f.ethPort.val &&
    s.numAt (Adr.flowEthertype n) == f.etherType && s.numAt (Adr.flowVlan n) == f.vlan.getD 0xFFFF &&
    (!([0x0800, 0x86DD].contains f.etherType) || f.udpPort == some (s.numAt (Adr.flowUdpPort n)))

/-- Length of an Ethernet frame from its addresses to its FCS. -/
def ethSize (f : EthFrame) : Nat := 14 + (if f.vlan.isSome then 4 else 0) + f.payload.length + 4

/-- R87: a 2.5 Gb/s Ethernet frame. Frames of the time base (0x88F7) have rows of their own. -/
def doEthernetFrame (f : EthFrame) (s : State) : State :=
  let s := s.advance f.t
  let port := f.ethPort.val
  if !s.ingestRuns || s.part.variant.ethPorts ≤ port || 9216 < ethSize f then s
  else if !f.fcsOk then s.bump (Adr.fcsErrors port)
  else if f.etherType == 0x88F7 then s
  else
    match (List.range 48).find? (fun n => s.flowMatches n f) with
    | none => s.bump (Adr.ethUnmatched port)
    | some n =>
      let stored := f.payload.drop (s.numAt (Adr.payloadSkip n))
      (s.openCloud n f.fill f.t stored).addBytes n stored f.t

def execEthernetFrame (f : EthFrame) (s : State) : Host.Outcome State Fault Refusal :=
  .next (doEthernetFrame f s)

/-- R88: an audio slot's channels of one edge, 32-bit little-endian, left-justified, in ascending order;
decimated PDM samples have 24 bits. -/
def audioBytes (mask : Nat) (tdm : Bool) (samples : List Nat) : Bytes :=
  ((bitsOf 16 mask).map (fun k => leBytes 4 (if tdm then nth samples k 0 else nth samples k 0 * 256))).flatten

/-- R88, R90: a TDM word-clock edge, or a sample of the PDM decimator at rate `unit`. -/
def doAudioWordClockEdge (t : Nat) (tdm : Bool) (unit : Fin 2) (samples : List Nat) (fill : Nat) (s : State) :
    State :=
  let s := s.advance t
  if !s.ingestRuns then s
  else
    (List.range 48).foldl (fun s n =>
      let mine := (s.slotAt n).running &&
        (if tdm then s.numAt (Adr.sourceKind n) == 2 && s.numAt (Adr.sourceUnit n) == unit.val
         else s.numAt (Adr.sourceKind n) == 3 && s.numAt (Adr.audioRate n) == unit.val)
      if !mine then s
      else
        let s := if (s.slotAt n).filling.isSome then s else s.beginFrame n fill t false
        s.addBytes n (audioBytes (s.numAt (Adr.audioChannelMask n)) tdm samples) t) s

def execAudioWordClockEdge (t : Nat) (tdm : Bool) (unit : Fin 2) (samples : List Nat) (fill : Nat) (s : State) :
    Host.Outcome State Fault Refusal :=
  .next (doAudioWordClockEdge t tdm unit samples fill s)

/-- R99: the frame in progress that the next abort takes: lowest PRIORITY, then the highest slot. -/
def State.abortVictim (s : State) : Option Nat :=
  let open_ := (List.range 48).filter (fun n =>
    !(s.guaranteedNow n) && (match (s.slotAt n).filling with | some fl => fl.buffer.isSome | none => false))
  match open_ with
  | [] => none
  | n :: ns =>
    some (ns.foldl (fun m k => if s.numAt (Adr.priority k) ≤ s.numAt (Adr.priority m) then k else m) n)

/-- R99: one abort while the ingest write buffer holds more than 95 % of its 4 MiB. -/
def doBandwidthAbort (t : Nat) (fill : Nat) (s : State) : State :=
  let s := s.advance t
  if !s.ingestRuns || fill * 100 ≤ 95 * 4194304 then s
  else
    match s.abortVictim with
    | none => s
    | some n => s.dropFilling n 2

def execBandwidthAbort (t : Nat) (fill : Nat) (s : State) : Host.Outcome State Fault Refusal :=
  .next (doBandwidthAbort t fill s)

/-! ## Statistics (R105) -/

/-- Bits of a raw sample (R86). -/
def sampleBits (dt : Nat) : Nat :=
  match dt with | 0x2B => 10 | 0x2C => 12 | 0x2D => 14 | 0x2E => 16 | _ => 8

/-- Whether the manual states which samples STATS_CHANNEL `ch` selects: luma for YUV422, a CFA channel of a
raw type under the pattern of the slot's shaping context. -/
def statsStated (dt : Nat) (pattern : Option (Nat × Nat)) (ch : Nat) : Bool :=
  if dt == 0x1E then ch == 5
  else if dt == 0x24 then false
  else match pattern with
    | some (1, _) => ch < 4
    | some (2, _) => ch < 5
    | _ => false

/-- Whether pixel (y, x) belongs to STATS_CHANNEL `ch` (R105); in RGB-IR both green codes name G. -/
def statsPixel (dt demosaic phase ch y x : Nat) : Bool :=
  if dt == 0x1E then true
  else
    let k := cfaIndex demosaic phase y x
    if demosaic == 1 then k == ch
    else (match ch with | 0 => k == 0 | 1 | 2 => k == 1 | 3 => k == 2 | _ => k == 3)

/-- The samples of a channel with their zones (R105): 16 columns by 12 rows of equal width. -/
def statsSamples (f : Frame) (rows : List (List Nat)) (demosaic phase ch : Nat) : List (Nat × Nat) :=
  (rows.zipIdx.map (fun r => (List.range f.width).filterMap (fun x =>
    if statsPixel f.dataType demosaic phase ch r.2 x then
      some (r.2 * 12 / f.height * 16 + x * 16 / f.width, nth r.1 (componentIndex f.dataType x 0) 0)
    else none))).flatten

/-- R105: histogram and zone grid. The mean of a zone without samples is not stated: `open_` (log 8). -/
def statsBody (f : Frame) (samples : List (Nat × Nat)) (open_ : Nat) : Bytes :=
  let bits := sampleBits f.dataType
  let tops := samples.map (fun e => e.2 / 2 ^ (bits - 8))
  let hist := ((List.range 256).map (fun v => leBytes 4 (countIf (· == v) tops))).flatten
  let zone (z : Nat) : Bytes :=
    let vs := (samples.filter (fun e => e.1 == z)).map (·.2)
    let k := vs.length
    let mean := if k == 0 then open_ else (2 * sumNat vs + k) / (2 * k)
    leBytes 2 mean ++ leBytes 2 (countIf (· == 2 ^ bits - 1) vs)
  hist ++ ((List.range 192).map zone).flatten

/-- R105: the oldest statistics record due of a slot is written. -/
def State.writeStats (s : State) (n : Nat) : State :=
  match (s.slotAt n).stats with
  | [] => s
  | j :: rest =>
    let s := s.setSlot n (fun x => { x with stats := rest })
    let f := j.frame
    let pattern := (s.contextOf n).map (fun c => (s.numAt (Adr.demosaic c), s.numAt (Adr.cfaPhase c)))
    let ch := s.numAt (Adr.statsChannel n)
    let flags := b2n j.dropped + 2 * b2n (bitAt f.flags flTruncated) + 4 * b2n (bitAt f.flags flLink)
    let (body, s) :=
      if statsStated f.dataType pattern ch then
        let (demosaic, phase) := pattern.getD (0, 0)
        let (open_, s) := s.takeFree 65536
        (statsBody f (statsSamples f j.rows demosaic phase ch) open_, s)
      else s.takeFreeBytes 1792
    let record := leBytes 4 f.counter ++ leBytes 2 f.epoch ++ leBytes 2 flags ++ leBytes 8 f.capture ++
      List.replicate 16 0 ++ body ++ List.replicate 224 0
    let entries := max 1 (s.numAt (Adr.statsEntries n))
    (s.ingestWrite n (s.numAt (Adr.statsAddr n) + f.counter % entries * 2048) record).2

def doStatisticsRecord (t : Nat) (slot : Fin 48) (s : State) : State :=
  let s := s.advance t
  if s.ingestRuns then s.writeStats slot.val else s

def execStatisticsRecord (t : Nat) (slot : Fin 48) (s : State) : Host.Outcome State Fault Refusal :=
  .next (doStatisticsRecord t slot s)

/-! ## The shaped header (R121) -/

/-- R121: the oldest shaping of a context that waits for its header is finished, and the raw frame becomes
READY. A buffer released meanwhile (R97) has nothing to write. -/
def State.finishShaping (s : State) (c : Nat) : State :=
  match (s.ctxAt c).pending with
  | [] => s
  | g :: rest =>
    let s := s.setCtx c (fun x => { x with pending := rest })
    match g.frame with
    | none => s
    | some f =>
      let b := nth (s.slotAt g.cfg.slot).buffers g.buffer Buffer.zero
      if !b.shapePending then s
      else (s.writeShaped c g f).deliver g.cfg.slot g.buffer (frameHeader g.cfg.slot f)

def doShapedHeader (t : Nat) (ctx : Fin 16) (s : State) : State :=
  let s := s.advance t
  if s.ingestRuns then s.finishShaping ctx.val else s

def execShapedHeader (t : Nat) (ctx : Fin 16) (s : State) : Host.Outcome State Fault Refusal :=
  .next (doShapedHeader t ctx s)

/-! ## The sensor command sequencer (R101 to R104) -/

/-- R101: the bytes of one transaction after the address. -/
def settingBytes (e : Bytes) : Bytes :=
  let flags := field e 1 1
  beBytes (if bitAt flags 0 then 2 else 1) (field e 2 2) ++ beBytes (bitsAt flags 3 2 + 1) (field e 4 4)

/-- The transaction of an entry on a controller. -/
def State.sendSetting (s : State) (ctrl : Nat) (e : Bytes) : State :=
  s.emit (.i2c ctrl (field e 0 1 % 128) (settingBytes e))

/-- The next transaction of a controller starts. -/
def State.nextSetting (s : State) (ctrl : Nat) : State :=
  match nth s.ingest.i2c ctrl [] with
  | [] => s
  | c :: _ => match c.entries with | [] => s | e :: _ => s.sendSetting ctrl e

def State.setCommits (s : State) (ctrl : Nat) (cs : List Commit) : State :=
  { s with ingest := { s.ingest with i2c := modifyAt s.ingest.i2c ctrl (fun _ => cs) } }

/-- R102: the settings of a slot that are new at a window's opening, with the table's sequence number, and
whether they came from SETTINGS. -/
def State.newSettings (s : State) (n : Nat) (torn : Bool) : Option (List Bytes × Option Nat) × State :=
  let x := s.slotAt n
  if s.numAt (Adr.settingsSource n) == 0 then
    if x.settingsNew then
      let b := s.bytesAt (Adr.settings n)
      (some (groupsOf 8 b, none), s.setSlot n (fun y => { y with settingsNew := false }))
    else (none, s)
  else
    let w := s.slotActor n
    let a := s.numAt (Adr.settingsTableAddr n)
    let (head, met) := s.load w.partition a 8
    let (bad, s) := s.reportIngest w a met
    let count := field head 4 2
    if !met.fine || bad || torn || count == 0 || 16 < count || x.lastTableSeq == some (field head 0 4) then
      (none, s)
    else
      let (body, met) := s.load w.partition (a + 8) (8 * count)
      let (_, s) := s.reportIngest w (a + 8) met
      if met.fine then (some (groupsOf 8 body, some (field head 0 4)), s) else (none, s)

/-- R102: the new settings of a slot join the queue of its controller. -/
def State.queueCommit (s : State) (n windowEnd : Nat) (torn : Bool) : State :=
  match s.newSettings n torn with
  | (none, s) => s
  | (some (entries, seq), s) =>
    let ctrl := s.numAt (Adr.i2cController n)
    let old := nth s.ingest.i2c ctrl []
    let c : Commit := { slot := n, entries := entries, repeated := false, windowEnd := windowEnd, tableSeq := seq }
    let s := s.setCommits ctrl (old ++ [c])
    if old.isEmpty then s.nextSetting ctrl else s

/-- R102: the commit window of the present tick opens, once a tick. -/
def doCommitWindowOpen (torn : List (Fin 48)) (s : State) : State :=
  let due := s.tick.meridian + s.numAt Adr.commitOffset * 1000
  if s.tick.gen == .halted || !s.tick.started || s.ingest.windowTick == some s.tick.tick || !s.ingestRuns then s
  else
    let s := s.advance due
    let s := { s with ingest := { s.ingest with windowTick := some s.tick.tick } }
    let windowEnd := due + s.numAt Adr.commitLength * 1000
    (List.range 48).foldl (fun s n =>
      if (s.slotAt n).running && s.numAt (Adr.sourceKind n) == 0 then
        s.queueCommit n windowEnd (torn.any (fun k => k.val == n))
      else s) s

def execCommitWindowOpen (torn : List (Fin 48)) (s : State) : Host.Outcome State Fault Refusal :=
  .next (doCommitWindowOpen torn s)

/-- R103, R104: every transaction of a commit has been acknowledged at `t`. Before the first FS of a slot
the manual names no frame k: a free counter (log 8). -/
def State.commitDone (s : State) (c : Commit) (t : Nat) : State :=
  let n := c.slot
  let x := s.slotAt n
  let epoch := (s.numAt (Adr.epoch n) + 1) % 65536
  let (k, s) := if x.first then s.takeFree (2 ^ 32) else (x.lastFsCounter, s)
  let first := (k + s.numAt (Adr.pipelineDepth n)) % 2 ^ 32
  let late := c.windowEnd < t
  let s := (s.setNum (Adr.epoch n) epoch).setNum (Adr.epochFrame n) first
  let s := if late then s.bump (Adr.commitLate n) else s
  s.setSlot n (fun y => { y with
    epochs := y.epochs.filter (fun e => e.first != first) ++ [{ epoch := epoch, first := first, late := late }],
    lastTableSeq := if c.tableSeq.isSome then c.tableSeq else y.lastTableSeq })

/-- R103: one transaction ends. -/
def doI2cTransactionDone (t : Nat) (ctrl : Fin 8) (acked : Bool) (s : State) : State :=
  let s := s.advance t
  match nth s.ingest.i2c ctrl.val [] with
  | [] => s
  | c :: rest =>
    if acked then
      match c.entries.drop 1 with
      | [] => (((s.commitDone c t).setCommits ctrl.val rest)).nextSetting ctrl.val
      | es => ((s.setCommits ctrl.val ({ c with entries := es, repeated := false } :: rest))).nextSetting ctrl.val
    else
      let s := s.bump (Adr.i2cNacks ctrl.val)
      if c.repeated then
        let s := s.bump (Adr.commitFailed c.slot)
        let s := s.setSlot c.slot (fun y => { y with uncertain := some (s.numAt (Adr.epoch c.slot)) })
        (s.setCommits ctrl.val rest).nextSetting ctrl.val
      else (s.setCommits ctrl.val ({ c with repeated := true } :: rest)).nextSetting ctrl.val

def execI2cTransactionDone (t : Nat) (ctrl : Fin 8) (acked : Bool) (s : State) :
    Host.Outcome State Fault Refusal :=
  .next (doI2cTransactionDone t ctrl acked s)

/-! ## Fusion sets (R106, R107) -/

def State.fusionAt (s : State) (f : Nat) : FusionSet := nth s.ingest.fusion f FusionSet.zero
def State.setFusion (s : State) (f : Nat) (g : FusionSet → FusionSet) : State :=
  { s with ingest := { s.ingest with fusion := modifyAt s.ingest.fusion f g } }

/-- A buffer whose frame has ended and waits for nothing but its shaped header (R121), or is READY. -/
def Buffer.complete (b : Buffer) : Bool := b.state == .ready || (b.state == .filling && b.shapePending)

/-- R106: the buffer with the smallest distance to the target, the earlier one on a tie. -/
def nearest (target : Int) (bs : List (Buffer × Nat)) : Option (Buffer × Nat) :=
  let d (b : Buffer × Nat) : Nat := ((b.1.frame.capture : Int) - target).natAbs
  match bs with
  | [] => none
  | b :: rest =>
    some (rest.foldl (fun m x =>
      if d x < d m || (d x == d m && x.1.frame.capture < m.1.frame.capture) then x else m) b)

/-- R106: what the close of tick [m0, m1] finds for one member: its entry. -/
def State.memberOf (s : State) (f pos n m0 m1 : Nat) (target : Int) (tolerance : Nat) : Member :=
  let near (capture : Nat) : Bool := ((capture : Int) - target).natAbs ≤ tolerance
  let ring := s.ring n
  let ended := ring.filter (fun e => e.1.complete && e.1.frame.endTime ≤ m1 && near e.1.frame.capture)
  let usable := ended.filter (fun e =>
    !(e.1.selectedBy.contains f) && !(bitAt e.1.frame.flags flTruncated) && !(bitAt e.1.frame.flags flLink))
  let none_ (outcome : Nat) : Member := { position := pos, slot := n, outcome := outcome, buffer := 0xFF, counter := 0, delta := 0 }
  match nearest target usable with
  | some (b, i) =>
    { position := pos, slot := n, outcome := 0, buffer := i, counter := b.frame.counter, delta := (b.frame.capture : Int) - target }
  | none =>
    let x := s.slotAt n
    match x.drops.find? (fun d => near d.capture) with
    | some d => { none_ 2 with counter := d.counter, delta := (d.capture : Int) - target }
    | none =>
      let flagged := ended.filter (fun e => bitAt e.1.frame.flags flTruncated || bitAt e.1.frame.flags flLink)
      match nearest target flagged with
      | some (b, _) =>
        if ended.length == flagged.length then
          { none_ 3 with counter := b.frame.counter, delta := (b.frame.capture : Int) - target }
        else none_ 1
      | none =>
        let inTick (e : Nat) : Bool := m0 < e && e ≤ m1
        let any := ring.any (fun e => inTick e.1.frame.endTime && !(near e.1.frame.capture)) ||
          x.drops.any (fun d => inTick d.endTime && !(near d.capture))
        if any && !(ring.any (fun e => inTick e.1.frame.endTime && near e.1.frame.capture)) then none_ 4 else none_ 1

/-- R106: the enabled set `f` closes for tick `n`, whose meridian was `m0`, at the meridian `m1`. -/
def State.closeFusion (s : State) (f n m0 m1 : Nat) : State :=
  let target : Int := (m0 : Int) + s.intAt 32 (Adr.targetOffset f) * 1000
  let tolerance := s.numAt (Adr.tolerance f) * 1000
  let positions := Look.members s.valAt f
  let entries := positions.map (fun e => (e.1, s.memberOf f e.1 e.2 m0 m1 target tolerance))
  let missing := sumNat (entries.map (fun e => if e.2.outcome == 0 then 0 else 2 ^ e.1))
  let bad := Nat.land missing (s.numAt (Adr.requiredMask f)) != 0
  let s := entries.foldl (fun s e =>
    if e.2.outcome == 0 then
      s.setBuffer e.2.slot e.2.buffer (fun b =>
        { b with state := .held, holder := .record f n, selectedBy := b.selectedBy ++ [f] })
    else s) s
  let d : FusionDraft :=
    { tick := n, target := target, status := b2n bad, missing := missing, members := entries.map (·.2) }
  let s := s.setFusion f (fun x => { x with drafts := x.drafts ++ [d] })
  s.bump (if bad then Adr.setsIncomplete f else Adr.setsComplete f)

/-- R106: every enabled set closes for the tick just ended. -/
def State.closeSets (s : State) (n m0 m1 : Nat) : State :=
  (List.range 8).foldl (fun s f => if s.flagAt (Adr.fusionEnable f) then s.closeFusion f n m0 m1 else s) s

/-- R106: drops that no later close can reach are forgotten: a capture more than 300 ms before. -/
def State.forgetDrops (s : State) (t : Nat) : State :=
  { s with ingest := { s.ingest with slots := s.ingest.slots.map (fun x =>
      { x with drops := x.drops.filter (fun d => t ≤ d.capture + 300000000) }) } }

/-- R107: one member entry; the bytes of an unused position are not stated: free bytes `open_`. -/
def memberBytes (ms : List Member) (open_ : Bytes) (k : Nat) : Bytes :=
  match ms.find? (fun m => m.position == k) with
  | none => padTo open_ 16 0
  | some m =>
    leBytes 1 m.slot ++ leBytes 1 m.outcome ++ leBytes 1 m.buffer ++ [0] ++ leBytes 4 m.counter ++
      leBytes 4 (ofSigned 32 m.delta) ++ List.replicate 4 0

/-- R107: the fusion record of a draft; TARGET_TIME before time 0 wraps (64-bit field). -/
def fusionBytes (d : FusionDraft) (open_ : Bytes) : Bytes :=
  leBytes 8 d.tick ++ leBytes 8 (ofSigned 64 d.target) ++ leBytes 1 d.status ++ leBytes 1 d.missing ++
    leBytes 1 d.members.length ++ List.replicate 5 0 ++ leBytes 8 d.tick ++
    ((List.range 8).map (memberBytes d.members open_)).flatten ++ List.replicate 96 0

/-- R121: a draft waits for the shaped headers of the frames it selected. -/
def State.draftReady (s : State) (d : FusionDraft) : Bool :=
  d.members.all (fun m =>
    let b := nth (s.slotAt m.slot).buffers m.buffer Buffer.zero
    m.outcome != 0 || !(b.shapePending && b.frame.counter == m.counter))

/-- R107: the oldest record of a set that waits for nothing is written; the record of a set without members is made for
no partition, and is written where an in-force entry of any permits the write (DESIGN CHOICE, log 30). The latest 256 records are kept for the guard step (R261). -/
def State.writeFusion (s : State) (f : Nat) : State :=
  match (s.fusionAt f).drafts with
  | [] => s
  | d :: rest =>
    if !(s.draftReady d) then s
    else
      let (open_, s) := s.takeFreeBytes 16
      let a := s.numAt (Adr.recordAddr f) + d.tick % max 1 (s.numAt (Adr.recordEntries f)) * 256
      let b := fusionBytes d open_
      let s := match d.members with
        | [] =>
          if (List.range 4).any (fun p => s.permitted p true a 256) then
            let (s, m) := s.rawStore a b
            (s.reportIngest { partition := 0, unit := f, unitKind := 8, queue := none, tag := none } a m).2
          else s
        | m :: _ => (s.ingestWrite m.slot a b).2
      s.setFusion f (fun x => { drafts := rest, records := (x.records ++ [d]).drop (x.records.length + 1 - 256) })

/-! ## RELEASE and ACQUIRE (R96, R97) -/

/-- R96, R97: the effect of a write to RELEASE: an abort code, or the new state. -/
def State.releaseBuffer (s : State) (n i : Nat) : Option Nat × State :=
  match (s.slotAt n).buffers[i]? with
  | none => (some 0x0401, s)
  | some b =>
    if s.numAt (Adr.ringBuffers n) ≤ i then (some 0x0401, s)
    else
      match b.state with
      | .filling => (some 0x0504, s)
      | .free => (none, s)
      | .ready | .held => (none, s.freeBuffer n i)

/-- R97: the effect of a write to ACQUIRE. -/
def State.acquireBuffer (s : State) (n i : Nat) : Option Nat × State :=
  match (s.slotAt n).buffers[i]? with
  | none => (some 0x0401, s)
  | some b =>
    if s.numAt (Adr.ringBuffers n) ≤ i then (some 0x0401, s)
    else if b.state == .ready then
      (none, s.setBuffer n i (fun b => { b with state := .held, holder := .consumer }))
    else (some 0x0504, s)

end Sys2Proof.Machine
end

