-- ==== Sys2Proof/Machine/Mesh.lean ====
section
/-! DEFINITION. Machine/Mesh: the sweeps that follow bulk data (R216, R220, R221). -/

namespace Sys2Proof.Machine

/-- R216: whether bulk packets of a source to a destination wait for their acknowledgement, so that a sweep behind them
is not yet accepted. -/
def State.bulkOpen (s : State) (src dst : Nat) : Bool :=
  s.fabric.numberings.any (fun n => n.is src dst true 0 && !n.outstanding.isEmpty)

/-- R220, R221: whether a sweep of a source to a destination can be sent and is answered: its numbering is not closed,
and every earlier bulk packet has been accepted. -/
def State.sweepDone (s : State) (src dst : Nat) : Bool := !(s.closedPath src dst true 0) && !(s.bulkOpen src dst)

/-- R220: a sweep of a source that finds every earlier bulk packet accepted is sent, counted and answered within the
command that needs it (DESIGN CHOICE, log 37). -/
def State.sweep (s : State) (src : Nat) : State := s.bump (Adr.sweeps src)

end Sys2Proof.Machine
end

