-- ==== Sys2Proof/Machine/Jobs.lean ====
section
/-! DEFINITION. Machine/Jobs: job queues (chapter 08): shares and charging, the endings of jobs and their
records, the guard step (R261), admission (R165 to R170), and the capacity procedure (R179). -/

namespace Sys2Proof.Machine

/-! ## Time and arrays -/

/-- H_n, once the next meridian is known (R22). -/
def State.hkMark (s : State) : Option Nat := s.tick.next.map (fun m => m - s.numAt Adr.hkMargin * 1000)

/-- Whether H_n is at most `early` ns away or past. -/
def State.nearMark (s : State) (early : Nat) : Bool :=
  match s.hkMark with
  | none => false
  | some h => h ≤ s.tick.now + early

/-- The partition of a queue. -/
def State.partOf (s : State) (q : Nat) : Nat := s.numAt (Adr.queuePartition q)

/-- Whether an array can run jobs at all: enabled, powered, not held or under localisation (R258). -/
def State.arrayUsable (s : State) (a : Nat) : Bool :=
  let x := s.arrAt a
  a < s.part.variant.arrays && x.powered && x.state != .heldFault && !x.localising &&
    bitAt (s.numAt Adr.arrayEnable) a

/-- Whether the array is open to a partition: shared, or exclusive to it (R172). -/
def State.arrayOpen (s : State) (a p : Nat) : Bool :=
  s.numAt (Adr.arrayOwner a) == 0xFF || s.numAt (Adr.arrayOwner a) == p

/-- The arrays a queue's jobs may use (R179). -/
def State.queueArrays (s : State) (q : Nat) : List Nat :=
  (List.range 8).filter (fun a =>
    s.arrayUsable a && bitAt (s.numAt (Adr.queueArrays q)) a && s.arrayOpen a (s.partOf q))

/-- What is left of a partition's share on an array in this tick (R172, R179). -/
def State.shareLeft (s : State) (a p : Nat) : Nat := nth (s.arrAt a).share p 0

/-- The shares of a tick from the slot tables in force (R172). -/
def State.fullShares (s : State) (a : Nat) : List Nat :=
  (List.range 4).map (fun p => Look.slotsOf s.valAt a p * Look.slotLength s.valAt)

/-! ## Items of a queue -/

def State.job? (s : State) (q seq : Nat) : Option Job :=
  (s.queueAt q).jobs.find? (fun j => j.submitSeq == seq)

def State.setJob (s : State) (q seq : Nat) (f : Job → Job) : State :=
  s.setQueue q (fun x => { x with jobs := x.jobs.map (fun j => if j.submitSeq == seq then f j else j) })

/-- The first item of a queue that has not ended. -/
def State.head? (s : State) (q : Nat) : Option Job := (s.queueAt q).jobs.find? (fun j => j.ended.isNone)

/-- The item that runs, is being saved or restored, in a queue. -/
def Job.active (j : Job) : Bool :=
  j.ended.isNone && (j.phase == .running || j.phase == .saving || j.phase == .restoring)

def State.running? (s : State) (q : Nat) : Option Job := (s.queueAt q).jobs.find? Job.active

/-- The item that holds an array. -/
def State.holder? (s : State) (a : Nat) : Option (Nat × Job) :=
  match (s.arrAt a).job with
  | none => none
  | some (q, seq) => (s.job? q seq).map (fun j => (q, j))

/-! ## Charging (R174, R179) -/

/-- The time up to which a running job's array time has run: to a failed check of its guard step at most (R261). -/
def Job.chargeUpTo (j : Job) (now : Nat) : Nat :=
  match j.guard with
  | some g => if g.fails then min now g.ends else now
  | none => now

/-- R179: the time since the last charge is charged to the share of the job on an array, and beyond it to
BORROWED_NS. Only a running job is charged. -/
def State.chargeArray (s : State) (a : Nat) : State :=
  let x := s.arrAt a
  let upTo := match s.holder? a with | some e => e.2.chargeUpTo s.tick.now | none => s.tick.now
  let dt := upTo - x.lastCharge
  let s := s.setArr a (fun y => { y with lastCharge := s.tick.now })
  match s.holder? a with
  | none => s
  | some (q, j) =>
    if j.phase != .running || j.ended.isSome || dt == 0 then s
    else
      let p := s.partOf q
      let own := min dt (nth x.share p 0)
      let s := s.setArr a (fun y => { y with share := modifyAt y.share p (· - own) })
      let s := if dt == own then s else s.bumpBy (Adr.borrowedNsTotal p) (dt - own)
      s.setJob q j.submitSeq (fun k => { k with
        arrayTime := k.arrayTime + dt, borrowed := k.borrowed + (dt - own),
        tickTime := if k.arrays.head? == some a then k.tickTime + dt else k.tickTime })

def State.chargeAll (s : State) : State := (List.range 8).foldl State.chargeArray s

/-! ## Endings (R180 to R184) -/

/-- Position of a status in OUTCOMES (R182, R29). -/
def outcomeIndex (status : Nat) : Nat :=
  match status with
  | 0 => 0 | 2 => 1 | 3 => 2 | 1 => 3
  | _ => if status < 0x20 then 4 else 5

/-- One more ending in an OUTCOMES block. -/
def tally (o : List (List Nat)) (p status : Nat) : List (List Nat) :=
  modifyAt o p (fun row => modifyAt row (outcomeIndex status) (· + 1))

/-- R29, R181: an ending counts in the tick it carries: the present one, or the one just closed. -/
def State.countOutcome (s : State) (p status tick : Nat) : State :=
  match s.tick.closing with
  | some d =>
    if d.tick == tick && tick != s.tick.tick then
      { s with tick := { s.tick with closing := some { d with outcomes := tally d.outcomes p status } } }
    else { s with tick := { s.tick with outcomes := tally s.tick.outcomes p status } }
  | none => { s with tick := { s.tick with outcomes := tally s.tick.outcomes p status } }

/-- An ending taken back from where `countOutcome` counted it. -/
def untally (o : List (List Nat)) (p status : Nat) : List (List Nat) :=
  modifyAt o p (fun row => modifyAt row (outcomeIndex status) (· - 1))

def State.uncountOutcome (s : State) (p status tick : Nat) : State :=
  match s.tick.closing with
  | some d =>
    if d.tick == tick && tick != s.tick.tick then
      { s with tick := { s.tick with closing := some { d with outcomes := untally d.outcomes p status } } }
    else if tick == s.tick.tick then { s with tick := { s.tick with outcomes := untally s.tick.outcomes p status } }
    else s
  | none =>
    if tick == s.tick.tick then { s with tick := { s.tick with outcomes := untally s.tick.outcomes p status } } else s

/-- An array given up by its job: IDLE unless it is held. -/
def Arr.vacate (x : Arr) : Arr := { x with job := none, state := if x.state == .busy then .idle else x.state }

/-- The arrays of an item are vacated. -/
def State.vacateArrays (s : State) (q seq : Nat) : State :=
  { s with arrs := s.arrs.map (fun x => if x.job == some (q, seq) then x.vacate else x) }

/-- Whether a status leaves outputs valid (R184). -/
def servedStatus (status : Nat) : Bool := status < 4

/-- R209: an ending clears the queue's unresolved fault and the park. -/
def State.clearFault (s : State) (q : Nat) : State :=
  s.setQueue q (fun x => { x with fault := none, state := if x.state == .parked then .active else x.state })

/-- R210: the rank of a cause among the errors that a job meets in one cycle. -/
def causeRank (cause : Nat) : Nat :=
  match cause with
  | 0x11 => 4 | 0x15 => 3 | 0x12 => 2 | 0x16 => 1 | _ => 0

/-- R210: an error that a job meets at the time at which another error ended it decides its ending where it comes first
in the order; the nanosecond stands for the cycle (DESIGN CHOICE, log 49). -/
def Ended.outranks (e : Ended) (status cause tick offset : Nat) : Bool :=
  e.status == 0x20 && status == 0x20 && e.tick == tick && e.offset == offset && 0 < causeRank e.cause &&
    causeRank e.cause < causeRank cause

/-- Whether an item had work started when it ended (R184): a job that ran, a transfer of which a byte has moved, one
that a translation fault ended (R205), and one that the loss of bus-master enable ended (R248). -/
def Job.workStarted (j : Job) (cause : Nat) : Bool :=
  j.started.isSome || 0 < j.copyNext || j.transfer || cause == 0x12 || cause == 0x20

/-- An item ends with a status, a cause, FAULT_REF and DETAIL, in tick `tick` at `offset` (R181 to R184, R210). -/
def State.endItemAt (s : State) (q seq status cause ref detail tick offset : Nat) : State :=
  match s.job? q seq with
  | none => s
  | some j =>
    match j.ended with
    | some e =>
      if e.outranks status cause tick offset then
        s.setJob q seq (fun k => { k with ended := some { e with cause := cause, faultRef := ref, detail := detail } })
      else s
    | none =>
      let p := s.partOf q
      let ok := servedStatus status
      let e : Ended :=
        { status := status, cause := cause, tick := tick, offset := offset, outputValid := ok && j.kind == 0,
          isPartial := !ok && j.workStarted cause, faultRef := ref, detail := detail }
      let s := if j.active || j.phase == .parked || j.phase == .saved then s.clearFault q else s
      let s := s.vacateArrays q seq
      let s := s.setJob q seq (fun k => { k with ended := some e, stop := .none })
      let s := (s.countOutcome p status tick).bump (Adr.jobsEnded p)
      if p == 0 && j.kind == 0 then
        { s with bin := { s.bin with ends := s.bin.ends ++ [{ queue := q, due := j.due, valid := ok }] } }
      else s

/-- An item ends now. -/
def State.endItem (s : State) (q seq status cause ref detail : Nat) : State :=
  s.endItemAt q seq status cause ref detail s.tick.tick (s.tick.now - s.tick.meridian)

/-- R181: an item ends at the latest meridian, in the tick that it closed. -/
def State.endAtMeridian (s : State) (q seq status cause detail : Nat) : State :=
  let length := match s.tick.history with
    | (_, m1) :: (_, m0) :: _ => m1 - m0
    | _ => 0
  s.endItemAt q seq status cause 0 detail (s.tick.tick - 1) length

/-- Every item of a queue that has not ended ends now. -/
def State.endQueue (s : State) (q status cause : Nat) : State :=
  ((s.queueAt q).jobs.filter (fun j => j.ended.isNone)).foldl
    (fun s j => s.endItem q j.submitSeq status cause 0 0) s

/-- R182, R183: the status and cause of a job that finishes now. -/
def State.servedAs (s : State) (j : Job) : Nat × Nat :=
  if j.background || j.due == s.tick.tick || j.carry == 0 then (if j.preempts == 0 then (0, 0) else (1, 0))
  else if j.started == some j.due then (2, j.carryCause)
  else (3, j.carryCause)

/-- R183: the cause that a carry at the close of the present tick decides. -/
def State.lateCause (s : State) (p : Nat) (j : Job) : Nat :=
  if nth s.mem.spent p false && j.readyAt.isSome then 2
  else if j.budget < j.tickTime then 3
  else
    let late : Bool := match j.readyAt, s.hkMark with
      | some t, some h => h < t + s.numAt Adr.dispatchGuard * 1000
      | _, _ => false
    if late then 4 else 1

/-- R180: the effective CARRY_LIMIT of a partition. -/
def State.carryLimit (s : State) (p : Nat) : Nat := if p == 0 then 0 else s.numAt (Adr.carryLimit p)

/-- R180: a job that the latest meridian did not carry, because its CARRY_COUNT would exceed the limit. -/
def State.overLimit (s : State) (j : Job) : Bool :=
  j.kind == 0 && !j.background && j.fixed && j.ended.isNone && j.due + j.carry < s.tick.tick

/-- R209: a job that has been parked for TF_PARK_TIMEOUT meridians. -/
def State.parkOver (s : State) (q : Nat) (j : Job) : Bool :=
  let limit := s.numAt (Adr.tfParkTimeout q)
  limit != 0 && limit ≤ j.parkedFor && j.phase == .parked && j.ended.isNone

/-- A fault of a job: detected, with the job's partition, queue and tag. The answer is FAULT_REF. -/
def State.jobFault (s : State) (q : Nat) (j : Job) (cls mechanism unit kind cause : Nat) (detail : Option Nat)
    (localise : Option Nat) : Nat × State :=
  s.detect { Detection.plain cls mechanism unit kind with
    part := some (s.partOf q), queue := some q, tag := some j.tag, cause := cause, detail := detail,
    localise := localise }

/-- The fault class of a job: SAFETY in P0, LOGGED elsewhere. -/
def State.classOf (s : State) (q : Nat) : Nat := if s.partOf q == 0 then 1 else 2

/-! ## Completion records (R184, R238) -/

/-- R184: the 64 bytes of a completion record; ring fields by R238. -/
def State.recordBytes (s : State) (q : Nat) (j : Job) (e : Ended) (size : Nat) : Bytes :=
  let seq := if j.standing then j.submitSeq else j.ringIndex
  let phase := if (seq / size) % 2 == 0 then 1 else 0
  let flags := b2n e.outputValid + 2 * b2n j.replay + 4 * b2n e.isPartial
  leBytes 8 j.tag ++ leBytes 8 (if j.fixed then j.due else 0) ++ leBytes 8 e.tick ++ leBytes 4 e.offset ++
    leBytes 1 e.status ++ leBytes 1 e.cause ++ leBytes 1 j.carry ++ leBytes 1 (min j.preempts 255) ++
    leBytes 1 (s.partOf q) ++ leBytes 1 q ++ leBytes 1 j.used ++ leBytes 1 flags ++
    leBytes 4 (min j.arrayTime (2 ^ 32 - 1)) ++ leBytes 4 (min j.borrowed (2 ^ 32 - 1)) ++
    leBytes 4 e.faultRef ++ leBytes 4 e.detail ++ leBytes 4 j.submitSeq ++
    leBytes 4 seq ++ leBytes 1 j.kind ++ [0, 0] ++ leBytes 1 phase

/-- Entries of a queue's rings (R237). -/
def Queue.size (x : Queue) : Nat := 2 ^ x.log2

/-- R231: whether a queue is host-linked. -/
def State.hostLinked (s : State) (q : Nat) : Bool := s.numAt (Adr.queueMode q) == 0 && (s.queueAt q).ringOn

/-- R243: whether the strict numbering that carries a queue's records is closed (R219, R221). -/
def State.recordPathClosed (s : State) : Bool :=
  s.closedPath 20 4 false 0

/-- Whether reads of an item are still outstanding at a copy engine (R240, R242). -/
def State.readsOpen (s : State) (q seq : Nat) : Bool :=
  s.host.engines.any (fun e => e.owner == some (q, seq) && !e.reads.isEmpty)

/-- Whether the first record of a queue may be written now: after the sweep its class requires (R242) or once that sweep
cannot be sent (R221), not while it is held (R249) or its path is closed (R243). -/
def State.recordDue (s : State) (q : Nat) (j : Job) : Bool :=
  let x := s.queueAt q
  j.ended.isSome && !(s.readsOpen q j.submitSeq) &&
    (j.standing ||
      (x.ringOn && s.hostOpen && x.state != .halted && !s.recordPathClosed &&
        (x.relaxed || s.sweepDone 22 4 || s.closedPath 22 4 true 0)))

/-- R221: an item that had ended served, and whose outputs a sweep that cannot be sent was to cover, ends with
ABORTED_FAULT, cause FABRIC, instead: its record, its place in OUTCOMES and its output follow. -/
def State.amendItem (s : State) (q seq : Nat) : State :=
  match s.job? q seq with
  | none => s
  | some j =>
    match j.ended with
    | none => s
    | some e =>
      if !(servedStatus e.status) then s
      else
        let p := s.partOf q
        let s := (s.uncountOutcome p e.status e.tick).countOutcome p 0x20 e.tick
        let s := s.setJob q seq (fun k => { k with ended := some { e with
          status := 0x20, cause := 0x15, outputValid := false, isPartial := j.workStarted 0x15 } })
        if p == 0 && j.kind == 0 then
          { s with bin := { s.bin with ends := s.bin.ends.map (fun x =>
              if x.queue == q && x.due == j.due then { x with valid := false } else x) } }
        else s

/-- R220, R221, R242: the sweep to HOST before the record of a posted-ordered queue: counted, or, where its numbering is
closed, not sent, which ends the item with cause FABRIC. -/
def State.sweepRecord (s : State) (q seq : Nat) : State :=
  if (s.queueAt q).relaxed then s
  else if s.closedPath 22 4 true 0 then s.amendItem q seq
  else s.sweep 22

/-- R167, R189: a record of a standing queue is written to its ring in device memory. -/
def State.putStanding (s : State) (q : Nat) (j : Job) (e : Ended) : State :=
  let a := s.numAt (Adr.standingRecordAddr q) + j.submitSeq % 16 * 64
  let w := s.queueActor q j.tag
  let (s, met) := (s.chargeAccess w.partition true a 64).store w.partition a (s.recordBytes q j e 16)
  (s.report w a met).2

/-- R181, R184, R242: the first record of a queue is written: to its ring in host memory, or to the ring of a standing
queue in device memory (R167). The answer says whether host memory was written. -/
def State.putRecord (s : State) (q : Nat) : Bool × State :=
  match (s.queueAt q).jobs with
  | [] => (false, s)
  | j :: rest =>
    if !(s.recordDue q j) then (false, s)
    else
      let s := if j.standing then s else s.sweepRecord q j.submitSeq
      let j := (s.job? q j.submitSeq).getD j
      match j.ended with
      | none => (false, s)
      | some e =>
        let s := s.setQueue q (fun y => { y with jobs := rest })
        if j.standing then (false, s.putStanding q j e)
        else
          let x := s.queueAt q
          let a := x.cqBase + j.ringIndex % x.size * 64
          (true, s.emit (.hostWrite a (s.recordBytes q j e x.size) (x.relaxed && j.kind != 2) false))

/-- R233: a record and the message of its vector. -/
def State.writeRecord (s : State) (q : Nat) : State :=
  match s.putRecord q with
  | (true, s) => s.sendVector q
  | (false, s) => s

/-- R181, R249: whether every record of a job that ended by tick `n` has been written or is held. A record
behind a job that has not ended follows that job (R181). -/
def State.recordsOut (s : State) (n : Nat) : Bool :=
  (List.range 32).all (fun q =>
    match (s.queueAt q).jobs with
    | [] => true
    | j :: _ =>
      match j.ended with
      | none => true
      | some e => n < e.tick || (!j.standing && (!s.hostOpen || (s.queueAt q).state == .halted)))

/-! ## The guard step (R261) -/

/-- Length of one guard block of a raw frame, from its header (R93, R95). -/
def guardBlock (header : Bytes) (camera : Bool) : Nat :=
  if camera then 64 * roundUp (field header 40 2 * bytesPerPixel (field header 42 1)) 64 else 4096

/-- The spans of `n` bytes from `a` in blocks of `size`, at most `fuel`. -/
def spans : Nat → Nat → Nat → Nat → List (Nat × Nat)
  | 0, _, _, _ => []
  | fuel + 1, size, a, n => if n == 0 || size == 0 then [] else (a, min n size) :: spans fuel size (a + size) (n - size)

/-- One check of the guard step: the spans of memory it reads, and whether what they hold passes. -/
structure GuardCheck where
  reads : List (Nat × Nat)
  passes : Bool
  deriving DecidableEq, Repr

/-- R95, R261: the checks of the blocks of `n` bytes at `a` against the guard words at `words`. -/
def State.blockChecks (s : State) (words count size a n : Nat) : List GuardCheck :=
  ((spans count size a n).zipIdx).map (fun e =>
    { reads := [e.1, (words + 4 * e.2, 4)],
      passes := leNat (s.seen (words + 4 * e.2) 4) == crc32c (s.seen e.1.1 e.1.2) })

/-- R261: the checks of one member in their order; `seen` is the counter that the queue's previous guard step saw. -/
def State.memberChecks (s : State) (f : Nat) (m : Member) (seen : Option Nat) : List GuardCheck :=
  let base := s.bufferBase m.slot m.buffer
  let raw := s.seen base 64
  let camera := s.numAt (Adr.sourceKind m.slot) == 0
  let headerOk := field raw 60 4 == crc32c (raw.take 60)
  let named := field raw 1 1 == m.slot && field raw 4 4 == m.counter
  let later : GuardCheck :=
    { reads := [], passes := match seen with | some c => later32 m.counter c | none => true }
  let payload := if s.flagAt (Adr.guardRaw f) then
    s.blockChecks (base + 64) (field raw 36 2) (guardBlock raw camera) (base + Look.metaBytes s.valAt m.slot)
      (field raw 32 4) else []
  match s.contextOf m.slot with
  | none =>
    [{ reads := [(base, 64)], passes := headerOk }, { reads := [], passes := named }, later] ++ payload
  | some c =>
    let at_ := s.numAt (Adr.shapedAddr c) + m.buffer * s.numAt (Adr.shapedBytes c)
    let h := s.seen at_ 256
    [{ reads := [(base, 64)], passes := headerOk },
      { reads := [(at_, 256)], passes := field h 252 4 == crc32c (h.take 252) },
      { reads := [], passes := named && field h 4 4 == m.counter }, later] ++
      s.blockChecks (at_ + 256) (field h 26 2) 4096 (at_ + shapedMetaOf (s.numAt (Adr.shapedBytes c)))
        (Look.tensorSpace s.valAt c) ++ payload

/-- The fusion record that a job reads (R169): of the tick before its due tick; a background job reads the
latest one. -/
def State.recordFor (s : State) (j : Job) : Option FusionDraft :=
  let rs := (s.fusionAt j.inputSet).records
  if j.background then rs.getLast? else rs.find? (fun d => d.tick + 1 == j.due)

/-- Where the guard step stands: what ended the job, if anything did, and the bytes read so far. -/
structure GuardRun where
  state : State
  ended : Option (Nat × Nat)
  bytes : Nat

/-- The checked reads of one check through the fabric port of the job's first array (R189, R195, R219). -/
def State.guardReads (s : State) (q : Nat) (j : Job) : List (Nat × Nat) → Nat → GuardRun
  | [], k => { state := s, ended := none, bytes := k }
  | (a, n) :: rest, k =>
    let port := arrayEndpoint (j.arrays.headD 0)
    if s.closedPath port (s.endpointOf a) true 0 then { state := s, ended := some (0x15, 0), bytes := k }
    else
      let w := s.queueActor q j.tag
      match (s.chargeAccess w.partition false a n).report w a (s.load w.partition a n).2 with
      | (none, s) => s.guardReads q j rest (k + n)
      | (some e, s) => { state := s, ended := some e, bytes := k + n }

/-- R261: checks in order, up to the first that fails: a SAFETY fault in P0, a LOGGED one elsewhere. -/
def guardChecks (q : Nat) (j : Job) : List GuardCheck → GuardRun → GuardRun
  | [], g => g
  | c :: cs, g =>
    let r := g.state.guardReads q j c.reads g.bytes
    if r.ended.isSome then r
    else if c.passes then guardChecks q j cs r
    else
      let (ref, s) := r.state.jobFault q j (r.state.classOf q) 5 q 5 0x16 none none
      { r with state := s, ended := some (0x16, ref) }

/-- R261: the guard step over members in order; the counter of each is kept for the queue's next guard step. -/
def guardMembers (q : Nat) (j : Job) : List Member → GuardRun → GuardRun
  | [], g => g
  | m :: ms, g =>
    let s := g.state
    let key := j.inputSet * 64 + m.slot
    let seen := ((s.queueAt q).guardSeen.find? (fun e => e.1 == key)).map (·.2)
    let checks := s.memberChecks j.inputSet m seen
    let s := s.setQueue q (fun x => { x with
      guardSeen := (key, m.counter) :: x.guardSeen.filter (fun e => e.1 != key) })
    let r := guardChecks q j checks { g with state := s }
    if r.ended.isSome then r else guardMembers q j ms r

/-- R261: the guard step of a job. -/
def State.guardStep (s : State) (q : Nat) (j : Job) : GuardRun :=
  let none_ : GuardRun := { state := s, ended := none, bytes := 0 }
  match s.recordFor j with
  | none => none_
  | some d => guardMembers q j (d.members.filter (fun m => m.outcome == 0)) none_

/-- R261: the guard step as it begins: `bytes` / 102.4 GB/s + 2 µs, to the first check that fails, as memory stands
(DESIGN CHOICE, log 52). -/
def State.guardPlan (s : State) (q : Nat) (j : Job) : Guarding :=
  let g := s.guardStep q j
  { ends := s.tick.now + ceilDiv (g.bytes * 10) 1024 + 2000, fails := g.ended.isSome }

/-! ## Readiness (R169, R226) -/

/-- Whether REQUIRED_ALMANAC matches the effective almanac (R225). -/
def State.almanacOk (s : State) (j : Job) : Bool := !j.replay || almanacsMatch j.almanac s.almanacEffective

/-- R225: the almanac of a refused replay job is kept, with the first entry that would match it. -/
def State.missAlmanac (s : State) (required : Bytes) : State :=
  let with_ (e : Bytes) : Bytes := sealAlmanac (e.take 10 ++ leBytes 1 s.arraysEnabled ++ (e.drop 11).take 17)
  let hit := (List.range s.almanacCount).find? (fun k => almanacsMatch required (with_ (s.almanacEntry k)))
  (s.setVal Adr.almanacMiss (.bytes required)).setNum Adr.almanacMissEntry (hit.getD 0xFF)

/-- Whether the fusion record that a job due in tick `due` reads has been written (R169). -/
def State.inputThere (s : State) (j : Job) (due : Nat) : Bool :=
  j.inputSet == 0xFF || j.background || (s.fusionAt j.inputSet).records.any (fun d => d.tick + 1 == due)

/-- R169, R226: the head item of a queue becomes ready if it can; TARGET_TICK 0 fixes its due tick; a replay
job that no longer matches ends, also one that became ready under an earlier selection and still waits. A job due later becomes ready in its due tick (DEDUCED, log 31). -/
def State.noteHead (s : State) (q : Nat) : State :=
  match s.head? q with
  | none => s
  | some j =>
    let due := if j.fixed then j.due else s.tick.tick
    let lost := j.replay && j.readyAt.isSome && (j.phase == .waiting || j.phase == .saved) && !(s.almanacOk j)
    let can := j.kind == 0 && (j.readyAt.isNone || lost) && (s.queueAt q).state == .active && s.tick.started &&
      (j.background || due ≤ s.tick.tick) && s.inputThere j due
    if !can then s
    else if !(s.almanacOk j) then
      ((s.missAlmanac j.almanac).bump Adr.replayRevalidationRefusals).endItem q j.submitSeq 0x13 0 0 0
    else
      s.setJob q j.submitSeq (fun k => { k with
        readyAt := some s.tick.now, due := if k.background then 0 else due, fixed := !k.background })

/-- `noteHead` until the head stays, at most `fuel` times. -/
def State.noteQueue : Nat → Nat → State → State
  | 0, _, s => s
  | fuel + 1, q, s => State.noteQueue fuel q (s.noteHead q)

def State.noteReady (s : State) : State :=
  (List.range 32).foldl (fun s q => State.noteQueue (s.queueAt q).jobs.length q s) s

/-! ## The capacity procedure (R179) -/

/-- Whether the head item of a queue is a ready job that waits for arrays. A HALTED queue starts no further
job but may resume one (R248). -/
def State.waitingJob (s : State) (q : Nat) : Option Job :=
  match s.head? q with
  | none => none
  | some j =>
    let st := (s.queueAt q).state
    let open_ := st == .active || (st == .halted && j.started.isSome)
    if j.kind == 0 && j.readyAt.isSome && (j.phase == .waiting || j.phase == .saved) && open_ &&
        !(s.overLimit j) then some j
    else none

/-- Lexicographic order of keys. -/
def keyLt : List Nat → List Nat → Bool
  | [], _ => false
  | _ :: _, [] => false
  | x :: xs, y :: ys => x < y || (x == y && keyLt xs ys)

/-- R179: the order of ready jobs within a partition. -/
def State.jobKey (s : State) (e : Nat × Job) : List Nat :=
  let carried := 0 < e.2.carry && !e.2.background
  [if carried then 0 else if e.2.background then 2 else 1, if carried then e.2.due else 0,
    7 - s.numAt (Adr.queuePriority e.1), e.1]

/-- A candidate put in its place. -/
def State.insertJob (s : State) (e : Nat × Job) : List (Nat × Job) → List (Nat × Job)
  | [] => [e]
  | x :: xs => if keyLt (s.jobKey e) (s.jobKey x) then e :: x :: xs else x :: s.insertJob e xs

/-- The ready jobs of a partition, best first. -/
def State.readyOf (s : State) (p : Nat) : List (Nat × Job) :=
  ((List.range 32).filter (fun q => s.partOf q == p)).foldl
    (fun acc q => match s.waitingJob q with | some j => s.insertJob (q, j) acc | none => acc) []

/-- What the procedure finds for an array: a job to start with its arrays, or one that waits for arrays that
are being vacated for it. -/
inductive Pick where
  | nothing
  | wait
  | start (q : Nat) (j : Job) (arrays : List Nat)
  deriving DecidableEq, Repr

/-- Whether an array is free for a start. -/
def State.arrayIdle (s : State) (a : Nat) : Bool := (s.arrAt a).job.isNone && (s.arrAt a).state == .idle

/-- Whether an array is being vacated, or would be pre-empted, for a job of partition `p` (R179). -/
def State.comingFree (s : State) (a p : Nat) : Bool :=
  match s.holder? a with
  | none => false
  | some (q, j) =>
    let r := s.partOf q
    j.stop != .none || j.phase == .saving ||
      (0 < s.shareLeft a p && ((p == 0 && r != 0) || s.shareLeft a r == 0))

/-- Arrays in ascending order with one put in. -/
def withArray (a : Nat) (xs : List Nat) : List Nat := insertSorted a xs

/-- R179: a candidate on array `a` and the arrays a gang would take with it; a gang that cannot be completed
is passed over. -/
def State.tryJob (s : State) (a : Nat) (e : Nat × Job) : Pick :=
  let arrays := s.queueArrays e.1
  let need := e.2.arraysNeeded - 1
  let others := arrays.filter (· != a)
  let idle := others.filter s.arrayIdle
  if !(arrays.contains a) then .nothing
  else if need ≤ idle.length then .start e.1 e.2 (withArray a (idle.take need))
  else if need ≤ idle.length + (others.filter (fun b => s.comingFree b (s.partOf e.1))).length then .wait
  else .nothing

/-- The first candidate that is not passed over. -/
def State.pickFirst (s : State) (a : Nat) : List (Nat × Job) → Pick
  | [] => .nothing
  | e :: es =>
    match s.tryJob a e with
    | .nothing => s.pickFirst a es
    | x => x

/-- The best ready job for an array over partitions in order. -/
def State.best (s : State) (a : Nat) (ps : List Nat) : Pick := s.pickFirst a (ps.flatMap s.readyOf)

/-- R172: the partition that owns the present slot of an array. -/
def State.slotOwner (s : State) (a : Nat) : Option Nat :=
  let len := Look.slotLength s.valAt
  let k := if len == 0 then 64 else (s.tick.now - s.tick.meridian) / len
  match (Look.slotTable s.valAt a)[k]? with
  | some b => if b.toNat < 4 then some b.toNat else none
  | none => none

/-- R179: partitions other than P0 with share left, the owner of the present slot first. -/
def State.sharers (s : State) (a : Nat) : List Nat :=
  let ps := [1, 2, 3].filter (fun p => 0 < s.shareLeft a p)
  match s.slotOwner a with
  | some p => if ps.contains p then p :: ps.filter (· != p) else ps
  | none => ps

/-- R176: a pre-emption request to a running job; a request already made stands. -/
def State.requestStop (s : State) (q seq : Nat) (why : Stop) : State :=
  s.setJob q seq (fun j => if j.stop == .none then { j with stop := why, stopAt := s.tick.now } else j)

/-- The arrays of a job that starts or resumes are taken. -/
def State.takeArrays (s : State) (q seq : Nat) (arrays : List Nat) : State :=
  arrays.foldl (fun s a => s.setArr a (fun x => { x with
    job := some (q, seq), state := .busy, lastCharge := s.tick.now, swapFirst := true })) s

/-- R179: a job starts on its arrays, all of a gang together; its guard step comes first (R261). A saved job
first restores its context (R177). -/
def State.startJob (s : State) (q : Nat) (j : Job) (arrays : List Nat) : State :=
  let seq := j.submitSeq
  let mask := sumNat (arrays.map (fun a => 2 ^ a))
  let s := s.takeArrays q seq arrays
  if j.phase == .saved then
    s.setJob q seq (fun k => { k with phase := .restoring, arrays := arrays, used := Nat.lor k.used mask })
  else
    let s := s.setJob q seq (fun k => { k with
      phase := .running, arrays := arrays, used := Nat.lor k.used mask, started := some s.tick.tick })
    if j.inputSet == 0xFF then s
    else
      let plan := s.guardPlan q { j with arrays := arrays }
      s.setJob q seq (fun k => { k with guard := some plan })

/-- R179: a pick is carried out; no tick-bound job starts inside the dispatch guard (R22). The answer says
whether a job started. -/
def State.carryOut (s : State) (p : Pick) : Bool × State :=
  match p with
  | .nothing | .wait => (false, s)
  | .start q j arrays =>
    if !j.background && s.nearMark (s.numAt Adr.dispatchGuard * 1000) then (false, s)
    else (true, s.startJob q j arrays)

/-- Whether jobs may start at all: in RUN, with the dispatcher up (R256), before H_n, and not from the meridian on at
which a commanded RUN to READY takes effect (R361). -/
def State.dispatchOpen (s : State) : Bool :=
  s.power.state == .run && !(s.power.runAt.any (· ≤ s.tick.tick)) && !s.bin.dispatcherDown && s.tick.started && !(s.nearMark 0)

/-- R179: the procedure on one array. -/
def State.dispatchOne (s : State) (a : Nat) : Bool × State :=
  let x := s.arrAt a
  if !s.dispatchOpen || !(s.arrayUsable a) || !(x.state == .idle || x.state == .busy) then (false, s)
  else
    let p0 := if 0 < s.shareLeft a 0 then s.best a [0] else .nothing
    match s.holder? a with
    | none =>
      if p0 != .nothing then s.carryOut p0
      else
        let shared := s.best a (s.sharers a)
        if shared != .nothing then s.carryOut shared else s.carryOut (s.best a [0, 1, 2, 3])
    | some (q, j) =>
      let r := s.partOf q
      if j.stop != .none || j.phase == .saving then (false, s)
      else if p0 != .nothing && r != 0 then (false, s.requestStop q j.submitSeq .preempt)
      else if 0 < s.shareLeft a r then (false, s)
      else if p0 != .nothing || s.best a (s.sharers a) != .nothing then
        (false, s.requestStop q j.submitSeq .preempt)
      else (false, s)

/-- One round over the arrays; the answer says whether a job started. -/
def State.dispatchRound (s : State) : Bool × State :=
  (List.range 8).foldl (fun acc a =>
    let (b, s) := acc.2.dispatchOne a
    (acc.1 || b, s)) (false, s.noteReady)

/-- Rounds until no further job starts, at most `fuel`. -/
def State.dispatchLoop : Nat → State → State
  | 0, s => s
  | fuel + 1, s =>
    let r := s.dispatchRound
    if r.1 then State.dispatchLoop fuel r.2 else r.2

/-- R179: every array runs the procedure. -/
def State.dispatch (s : State) : State := State.dispatchLoop 9 s

/-- R261: the guard step of a job ends: the job goes on with its first pass, or ends. -/
def State.finishGuard (s : State) (q : Nat) (j : Job) : State :=
  let g := s.guardStep q j
  let s := g.state.setJob q j.submitSeq (fun k => { k with guard := none })
  match g.ended with
  | none => s
  | some (cause, ref) => s.endItem q j.submitSeq 0x20 cause ref 0

/-- The running job whose guard step ends first, with that time. -/
def State.nextGuard (s : State) : Option (Nat × Job × Nat) :=
  (List.range 32).foldl (fun best q =>
    match s.running? q with
    | none => best
    | some j =>
      match j.guard, best with
      | some g, some (_, _, t) => if j.phase == .running && g.ends < t then some (q, j, g.ends) else best
      | some g, none => if j.phase == .running then some (q, j, g.ends) else none
      | none, b => b) none

/-- The guard steps that end by time `t`, each at its own time, at most `fuel`. -/
def State.settleGuards (t : Nat) : Nat → State → State
  | 0, s => s
  | fuel + 1, s =>
    match s.nextGuard with
    | none => s
    | some (q, j, e) =>
      if t < e then s
      else
        let s := (s.advance e).chargeAll
        State.settleGuards t fuel ((s.finishGuard q j).dispatch)

/-- Time passes to `t`: guard steps that end by then do so, and running jobs are charged. -/
def State.advanceCharged (s : State) (t : Nat) : State := ((State.settleGuards t 64 s).advance t).chargeAll

/-! ## Admission (R165 to R170) -/

/-- The fields of a job image header (R165). -/
structure ImageHeader where
  cls : Nat
  flags : Nat
  formats : Nat
  arrays : Nat
  budget : Nat
  context : Nat
  almanac : Bytes
  deriving DecidableEq, Repr

/-- R225: the shape of REQUIRED_ALMANAC. -/
def almanacShapeOk (b : Bytes) : Bool :=
  field b 0 1 == 1 && field b 11 1 == 0 && (slice b 14 14).all (· == 0) && 1 ≤ field b 10 1 &&
    field b 10 1 ≤ 8 && field b 28 4 == crc32c (b.take 28)

/-- R165: the header of an image, if it is well formed. -/
def parseImage (b : Bytes) : Option ImageHeader :=
  let h : ImageHeader :=
    { cls := field b 6 1, flags := field b 7 1, formats := field b 8 2, arrays := field b 10 1,
      budget := field b 12 4, context := field b 16 4, almanac := slice b 24 32 }
  if field b 0 4 == 0x4A4B5341 && field b 4 2 == 1 && h.cls ≤ 1 && h.flags < 8 && h.formats < 1024 &&
      1 ≤ h.arrays && h.arrays ≤ 8 && field b 11 1 == 0 && h.context ≤ 2097152 &&
      (slice b 64 60).all (· == 0) && field b 124 4 == crc32c (b.take 124) &&
      (!(bitAt h.flags 0) || almanacShapeOk h.almanac) then some h
  else none

/-- R127, R131, R133: a pass of an image body is well formed. A pass whose outputs leave the array, of a last K tile,
has one descriptor for each group of 32 output channels, any other has none. -/
def passOk (p : ImagePass) : Bool :=
  pairListed p.actFmt p.weightFmt && zeroPointOk p.actFmt p.zeroPoint && 1 ≤ p.outCols && p.outCols ≤ 128 &&
    p.descriptors.length == (if p.lastTile then ceilDiv p.outCols 32 else 0) &&
    p.descriptors.zipIdx.all (fun e => rescaleOk e.1 (isFloat p.actFmt) (p.outCols - 32 * e.2))

/-- A submitted item before admission: everything its descriptor says. -/
structure Submission where
  kind : Nat
  standing : Bool
  tag : Nat
  image : Nat
  param : Nat
  inputSet : Nat
  target : Nat
  ringIndex : Nat
  wellFormed : Bool
  copyAddr : Nat
  copyDev : Nat
  copyLen : Nat
  copyOut : Bool
  deriving DecidableEq, Repr

/-- A new item of a queue. A due tick of a descriptor is fixed once the image is known to be tick-bound (R168,
R184; DEDUCED, log 48). -/
def Submission.job (x : Submission) (seq : Nat) : Job :=
  { kind := x.kind, standing := x.standing, tag := x.tag, submitSeq := seq, ringIndex := x.ringIndex,
    image := x.image, param := x.param, inputSet := x.inputSet, due := if x.standing then x.target else 0, fixed := x.standing,
    background := false, replay := false, swapFront := false, almanac := [], budget := 0, contextBytes := 0,
    arraysNeeded := 1, phase := .waiting, stop := .none, stopAt := 0, stopRef := 0, arrays := [], used := 0, started := none,
    readyAt := none, carry := 0, carryCause := 0, preempts := 0, arrayTime := 0, tickTime := 0, borrowed := 0,
    guard := none, parkedFor := 0, transfer := false, copyAddr := x.copyAddr, copyDev := x.copyDev,
    copyLen := x.copyLen, copyOut := x.copyOut, copyNext := 0,
    body := { passes := [], formats := [], training := false }, offset := 0, ended := none }

/-- R170: the budget check: a cause, or none. A P0 job is held to P0's share on every array of its queue (DEDUCED, log
34). -/
def State.budgetCause (s : State) (q : Nat) (j : Job) (target : Nat) (standing : Bool) : Option Nat :=
  let arrays := (List.range 8).filter (fun a =>
    a < s.part.variant.arrays && bitAt (s.numAt (Adr.queueArrays q)) a && bitAt (s.numAt Adr.arrayEnable) a &&
      (s.arrAt a).state != .heldFault)
  let short (a : Nat) : Bool := Look.slotsOf s.valAt a 0 * Look.slotLength s.valAt < j.budget
  if !j.background && Look.usable s.valAt < j.budget then some 6
  else if !j.background && s.partOf q == 0 && arrays.any short then some 7
  else if arrays.length < j.arraysNeeded then some 8
  else if !j.background && !standing && target != 0 && (target < s.tick.tick || s.tick.tick + 16 < target) then some 9
  else none

/-- R165, R189, R195: the first `k` bytes of an image as the device reads them at admission for the queue's partition:
none where they are not readable. A region violation or an uncorrectable error is reported as any other (log 47). -/
def State.imageBytes (s : State) (q : Nat) (j : Job) (k : Nat) : Option Bytes × State :=
  let w := s.queueActor q j.tag
  let (b, m) := s.load w.partition j.image k
  let (_, s) := (s.chargeAccess w.partition false j.image k).reportIngest w j.image m
  (if m.fine then some b else none, s)

/-- R165: the header of an item's image, where it is readable and well formed, and then the whole image, which has to
lie in the partition too. -/
def State.readImage (s : State) (q : Nat) (j : Job) : Option (ImageHeader × Bytes) × State :=
  if j.image % 256 != 0 then (none, s)
  else
    match s.imageBytes q j 128 with
    | (none, s) => (none, s)
    | (some b, s) =>
      match parseImage b with
      | none => (none, s)
      | some h =>
        let (b, s) := s.imageBytes q j (128 + field b 56 8)
        (b.map (fun x => (h, x)), s)

/-- The formats that an image uses: those its header and its body name, those of its passes, and the output formats of
their rescale descriptors (R128, R165). -/
def imageFormats (h : ImageHeader) (body : ImageBody) : List Nat :=
  bitsOf 10 h.formats ++ body.formats ++
    body.passes.flatMap (fun p => [p.actFmt, p.weightFmt] ++ p.descriptors.map (fun d => (parseRescale d).outFmt))

/-- R169: the admission checks of a JOB after REFUSED_QUEUE_FULL, in their order (R383: no training image in P0): the
status and cause of a refusal (none where admitted), the job with the fields of its image, and the state. `body` is
what the device reads from the body of a submitted image (log 23). -/
def State.admitJob (s : State) (q : Nat) (x : Submission) (body : ImageBody) (j : Job) :
    Option (Nat × Nat) × Job × State :=
  let (image, s) := if x.wellFormed then s.readImage q j else (none, s)
  match image with
  | none => (some (0x14, 0), j, s)
  | some (h, bytes) =>
    let body := if x.standing then Config.imageBody bytes else body
    let background := h.cls == 1
    let j := { j with
      background := background, replay := bitAt h.flags 0, swapFront := bitAt h.flags 1, almanac := h.almanac,
      budget := h.budget, contextBytes := h.context, arraysNeeded := h.arrays, body := body,
      due := if background then 0 else x.target, fixed := !background && (x.target != 0 || x.standing) }
    let v := s.part.variant
    if !(body.passes.all passOk) || (background && (s.partOf q == 0 || x.standing)) ||
        (bitAt h.flags 2 && s.partOf q == 0) then (some (0x14, 0), j, s)
    else if !((imageFormats h body).all (hasFormat v)) || ((bitAt h.flags 2 || body.training) && !v.training) ||
        v.arrays < h.arrays then (some (0x12, 0), j, s)
    else if !(s.almanacOk j) then
      (some (0x13, 0), j, (s.missAlmanac j.almanac).bump Adr.almanacRefusals)
    else
      match s.budgetCause q j x.target x.standing with
      | some c => (some (0x10, c), j, s)
      | none => (none, j, if j.replay then s.bump Adr.replayJobs else s)

/-- R240: a COPY or FENCE passes admission when its descriptor is well formed; P0 admits no COPY. -/
def State.admitOther (s : State) (q : Nat) (x : Submission) : Option (Nat × Nat) :=
  if !x.wellFormed || (x.kind == 1 && s.partOf q == 0) then some (0x14, 0) else none

/-- R166 to R170: an item is submitted to a queue: it joins the queue, and a refused one has ended. -/
def State.submit (s : State) (q : Nat) (x : Submission) (body : ImageBody) : State :=
  let seq := (s.queueAt q).submitted
  let open_ := (s.queueAt q).jobs.filter (fun j => j.ended.isNone)
  let s := s.setQueue q (fun y => { y with submitted := (y.submitted + 1) % 2 ^ 32 })
  let j := x.job seq
  let (refusal, j, s) :=
    if s.numAt (Adr.queueDepth q) ≤ open_.length then (some (0x11, 0), j, s)
    else if x.kind == 0 then s.admitJob q x body j
    else (s.admitOther q x, { j with background := true, fixed := false, due := 0 }, s)
  let s := s.setQueue q (fun y => { y with jobs := y.jobs ++ [j] })
  match refusal with
  | none => s
  | some (status, cause) => s.endItem q seq status cause 0 0

/-- R168, R239, R240, R241: what a descriptor of a submission ring spells; `k` is its count. -/
def readDescriptor (d : Bytes) (k : Nat) : Submission :=
  let kind := field d 25 1
  let zero (off n : Nat) : Bool := (slice d off n).all (· == 0)
  let ring := field d 56 4 == k && zero 60 4
  let jobOk := zero 26 6 && zero 40 16 && (field d 24 1 < 8 || field d 24 1 == 0xFF)
  let copyOk := zero 26 2 && zero 32 24 && field d 24 1 ≤ 1 && 1 ≤ field d 28 4 && field d 28 4 ≤ 2 ^ 26 &&
    0x800000000000 ≤ field d 8 8 && field d 8 8 < 0x1000000000000
  let fenceOk := zero 8 17 && zero 26 30
  { kind := kind, standing := false, tag := field d 0 8, image := field d 8 8, param := field d 32 8,
    inputSet := if kind == 0 then field d 24 1 else 0xFF, target := if kind == 0 then field d 16 8 else 0,
    ringIndex := k,
    wellFormed := ring && (match kind with | 0 => jobOk | 1 => copyOk | 2 => fenceOk | _ => false),
    copyAddr := field d 8 8, copyDev := field d 16 8, copyLen := field d 28 4, copyOut := field d 24 1 == 1 }

/-- R239: whether the device fetches the next descriptor of a queue now. -/
def State.fetchDue (s : State) (q : Nat) : Bool :=
  let x := s.queueAt q
  s.hostLinked q && s.flagAt (Adr.queueEnable q) && (x.state == .active || x.state == .parked) && s.hostOpen &&
    s.ingestRuns && later32 x.sqTail x.fetched &&
    (x.fetched + 2 ^ 32 - x.cqHead) % 2 ^ 32 < x.size

/-- R237, R239: a descriptor is fetched from its entry of the submission ring and enters admission. -/
def State.fetch (s : State) (q : Nat) (d : Bytes) (body : ImageBody) : State :=
  if !(s.fetchDue q) then s
  else
    let x := s.queueAt q
    let k := x.fetched
    let s := s.emit (.hostRead (.queue q) (x.sqBase + k % x.size * 64) 64 false)
    let s := s.setQueue q (fun x => { x with fetched := (k + 1) % 2 ^ 32 })
    s.submit q (readDescriptor d k) body

/-- R167: the submission of a standing queue for tick `n`. -/
def State.submitStanding (s : State) (q n : Nat) : State :=
  let image := s.numAt (Adr.standingImageAddr q)
  let seq := (s.queueAt q).submitted
  let x : Submission :=
    { kind := 0, standing := true, tag := n, image := image, param := s.numAt (Adr.standingParamAddr q),
      inputSet := s.numAt (Adr.standingInputSet q), target := n, ringIndex := seq, wellFormed := true,
      copyAddr := 0, copyDev := 0, copyLen := 0, copyOut := false }
  s.submit q x { passes := [], formats := [], training := false }

/-! ## Reader counts (R97) -/

/-- R97: the number of admitted jobs that read record `n` of set `f` and have not ended. -/
def State.readers (s : State) (f n : Nat) : Nat :=
  sumNat ((List.range 32).map (fun q => countIf (fun j =>
    j.ended.isNone && j.kind == 0 && j.inputSet == f && !j.background && j.fixed && j.due == n + 1)
    (s.queueAt q).jobs))

end Sys2Proof.Machine
end

