-- ==== Sys2Proof/Machine/JobSteps.lean ====
section
/-! DEFINITION. Machine/JobSteps: the meanings of the job commands of chapters 01, 04, 08 and 12: JOB, the
capacity procedure's events, waypoints and contexts, endings and records, check tiles, localisation and the
sequencer and dispatcher mismatches. -/

namespace Sys2Proof.Machine

/-! ## Accesses of a job through its engines (R189, R195, R219) -/

/-- A step of an engine's work for a job: it goes on, or something it met has ended the job. -/
structure Gw where
  state : State
  ok : Bool

/-- What an access of a job met (R189, R195); anything but a fine one ends the job. -/
def State.gwMet (s : State) (q : Nat) (j : Job) (a : Nat) (m : Met) : Gw :=
  match s.report (s.queueActor q j.tag) a m with
  | (none, s) => { state := s, ok := true }
  | (some (cause, ref), s) => { state := s.endItem q j.submitSeq 0x20 cause ref 0, ok := false }

/-- R219: a request of an engine at endpoint `e` in a closed numbering ends its job. -/
def State.gwClosed (s : State) (q : Nat) (j : Job) : Gw :=
  { state := s.endItem q j.submitSeq 0x20 0x15 0 0, ok := false }

/-- A checked read of a job by the engine at fabric endpoint `e`. -/
def State.gwRead (s : State) (e q : Nat) (j : Job) (a k : Nat) : Bytes × Gw :=
  if s.closedPath e (s.endpointOf a) true 0 then (List.replicate k 0, s.gwClosed q j)
  else
    let (b, m) := s.load (s.partOf q) a k
    (b, (s.chargeAccess (s.partOf q) false a k).gwMet q j a m)

/-- A checked write of a job by the engine at fabric endpoint `e`. -/
def State.gwWrite (s : State) (e q : Nat) (j : Job) (a : Nat) (b : Bytes) : Gw :=
  if s.closedPath e (s.endpointOf a) true 0 then s.gwClosed q j
  else
    let (s, m) := (s.chargeAccess (s.partOf q) true a b.length).store (s.partOf q) a b
    s.gwMet q j a m

/-! ## Jobs in their queues -/

/-- R169: a JOB descriptor is fetched and admitted or refused; the capacity procedure follows. -/
def doJob (t : Nat) (q : Fin 32) (desc : Bytes) (body : ImageBody) (s : State) : State :=
  ((s.advanceCharged t).fetch q.val desc body).dispatch

def execJob (t : Nat) (q : Fin 32) (desc : Bytes) (body : ImageBody) (s : State) :
    Host.Outcome State Fault Refusal :=
  .next (doJob t q desc body s)

/-- R179: a slot boundary passes. -/
def doSlotBoundary (t : Nat) (s : State) : State := (s.advanceCharged t).dispatch

def execSlotBoundary (t : Nat) (s : State) : Host.Outcome State Fault Refusal := .next (doSlotBoundary t s)

/-- R179: the share of the job on an array runs out; not due where no job holds share there. -/
def doShareExhausted (a : Fin 8) (s : State) : State :=
  match s.holder? a.val with
  | none => s
  | some (q, j) =>
    let left := s.shareLeft a.val (s.partOf q)
    if j.phase != .running || left == 0 then s
    else (s.advanceCharged ((s.arrAt a.val).lastCharge + left)).dispatch

def execShareExhausted (a : Fin 8) (s : State) : Host.Outcome State Fault Refusal := .next (doShareExhausted a s)

/-- R175, R177: a job that has been asked to stop reaches a waypoint and its context save begins; every stop
but the one at H_n counts as a pre-emption (R178, R205; log 32). -/
def State.stopAtWaypoint (s : State) (q : Nat) (j : Job) : State :=
  let counts := j.stop != .housekeeping
  let s := if counts then s.bump (Adr.preemptions (s.partOf q)) else s
  s.setJob q j.submitSeq (fun k => { k with
    phase := .saving, preempts := if counts then k.preempts + 1 else k.preempts })

/-- R178, R263: a P0 job that was not finished at H_n ends; its fault was detected there. -/
def State.missDeadline (s : State) (q : Nat) (j : Job) : State :=
  (s.endItem q j.submitSeq 0x20 0x13 j.stopRef 0).dispatch

/-- R175 to R178: the running job of a queue that has been asked to stop reaches a waypoint; it has none in its guard
step (R261). -/
def doWaypoint (t : Nat) (q : Fin 32) (s : State) : State :=
  let s := s.advanceCharged t
  match s.running? q.val with
  | none => s
  | some j =>
    if j.phase != .running || j.stop == .none || j.guard.isSome then s
    else if j.stop == .deadline then s.missDeadline q.val j
    else s.stopAtWaypoint q.val j

def execWaypoint (t : Nat) (q : Fin 32) (s : State) : Host.Outcome State Fault Refusal := .next (doWaypoint t q s)

/-- The context area of the `k`-th array of a job (R185; DESIGN CHOICE, log 33: by position in the gang). -/
def State.contextAt (s : State) (q k : Nat) : Nat := s.numAt (Adr.contextAddr q) + k * 2097152

/-- The words of an operand store with an uncorrectable error that `k` bytes at `x` overlap. -/
def wordsIn (xs : List (Nat × Nat)) (a x k : Nat) : List Nat :=
  (xs.filter (fun e => e.1 == a && 8 * e.2 < x + k && x < 8 * e.2 + 8)).map (·.2)

/-- R195: an uncorrectable error in a word of an operand store, met by the job that holds the array. -/
def State.operandUe (s : State) (a word : Nat) : State :=
  let s := s.bump (Adr.operandUeDetected a)
  let s := { s with mem := { s.mem with
    opUe := if s.mem.opUe.contains (a, word) then s.mem.opUe else (a, word) :: s.mem.opUe } }
  match s.holder? a with
  | none => s
  | some (q, j) =>
    let (ref, s) := s.jobFault q j (s.classOf q) 4 a 3 0x11 none none
    s.endItem q j.submitSeq 0x20 0x11 ref 0

/-- R193, R195: what reads of an operand store meet: correctable errors are counted and written back; the answer says
whether no uncorrectable error was met, which ends the job. -/
def State.readStoreMet (s : State) (a : Nat) (reads : List (Nat × Nat)) : Gw :=
  let ces := (reads.flatMap (fun r => wordsIn s.mem.opCe a r.1 r.2)).dedup
  let ues := (reads.flatMap (fun r => wordsIn s.mem.opUe a r.1 r.2)).dedup
  let s := ces.foldl (fun s _ => s.bump (Adr.operandCeCorrected a)) s
  let s := { s with mem := { s.mem with opCe := s.mem.opCe.filter (fun e => e.1 != a || !(ces.contains e.2)) } }
  { state := ues.foldl (fun s w => s.operandUe a w) s, ok := ues.isEmpty }

/-- R175, R177: the live contents of the operand stores of the first `n` arrays of a job are written to their context
areas through the arrays' fabric ports: the first CONTEXT_BYTES bytes of each store (DESIGN CHOICE, log 33). -/
def State.saveContexts (s : State) (q : Nat) (j : Job) : Nat → Gw
  | 0 => { state := s, ok := true }
  | n + 1 =>
    let g := s.saveContexts q j n
    if !g.ok then g
    else
      let a := nth j.arrays n 0
      let g := g.state.readStoreMet a [(0, j.contextBytes)]
      if !g.ok then g
      else g.state.gwWrite (arrayEndpoint a) q j (g.state.contextAt q n) ((g.state.arrAt a).store.read 0 j.contextBytes)

/-- Bytes of an operand store (R142). -/
def storeBytes : Nat := 4194304

/-- R142, R195: bytes written into the operand store of an array; a 64-bit word written whole loses its error. Bytes
past the end of the store have no place. -/
def State.writeStore (s : State) (a x : Nat) (b : Bytes) : State :=
  let s := s.setArr a (fun y => { y with store := (y.store.write x b).keep (fun k => k < storeBytes) })
  let stays (e : Nat × Nat) : Bool := e.1 != a || !(x ≤ 8 * e.2 && 8 * e.2 + 8 ≤ x + b.length)
  { s with mem := { s.mem with opUe := s.mem.opUe.filter stays, opCe := s.mem.opCe.filter stays } }

/-- R177: what the context areas of the first `n` arrays of a job hold is read back into the operand stores. -/
def State.loadContexts (s : State) (q : Nat) (j : Job) : Nat → Gw
  | 0 => { state := s, ok := true }
  | n + 1 =>
    let g := s.loadContexts q j n
    if !g.ok then g
    else
      let a := nth j.arrays n 0
      let r := g.state.gwRead (arrayEndpoint a) q j (g.state.contextAt q n) j.contextBytes
      if r.2.ok then { state := r.2.state.writeStore a 0 r.1, ok := true } else r.2

/-- R208: a job whose context is saved parks; a resolution written before takes effect now. -/
def State.park (s : State) (q : Nat) (j : Job) (f : TFault) : State :=
  let s := s.bump (Adr.parks (s.partOf q))
  if f.resolve == 1 then
    (s.setQueue q (fun x => { x with fault := none })).setJob q j.submitSeq (fun k => { k with
      phase := .saved, stop := .none })
  else
    let s := s.setJob q j.submitSeq (fun k => { k with phase := .parked, stop := .none, parkedFor := 0 })
    let s := s.setQueue q (fun x => { x with state := if x.state == .halted then .halted else .parked })
    if f.resolve == 2 then s.endItem q j.submitSeq 0x20 0x12 0 ((f.addr - f.start) / 4096) else s

/-- R177: the context is saved and the arrays are handed on; a job with an unresolved fault-and-wait fault
parks (R206, R208). -/
def State.contextSaved (s : State) (q : Nat) (j : Job) : State :=
  let g := s.saveContexts q j (if j.contextBytes == 0 then 0 else j.arrays.length)
  if !g.ok then g.state
  else
    let s := g.state.vacateArrays q j.submitSeq
    match (s.queueAt q).fault with
    | some f => s.park q j f
    | none => s.setJob q j.submitSeq (fun k => { k with phase := .saved, stop := .none })

def doContextSaveDone (t : Nat) (q : Fin 32) (s : State) : State :=
  let s := s.advanceCharged t
  match s.running? q.val with
  | none => s
  | some j =>
    if j.phase != .saving then s
    else if j.stop == .deadline then s.missDeadline q.val j
    else (s.contextSaved q.val j).dispatch

def execContextSaveDone (t : Nat) (q : Fin 32) (s : State) : Host.Outcome State Fault Refusal :=
  .next (doContextSaveDone t q s)

/-- R177: the context is restored and the job continues; its array time runs again from here. -/
def State.contextRestored (s : State) (q : Nat) (j : Job) : State :=
  let g := s.loadContexts q j (if j.contextBytes == 0 then 0 else j.arrays.length)
  if !g.ok then g.state else g.state.setJob q j.submitSeq (fun k => { k with phase := .running })

def doContextRestoreDone (t : Nat) (q : Fin 32) (s : State) : State :=
  let s := s.advanceCharged t
  match s.running? q.val with
  | none => s
  | some j => if j.phase == .restoring then (s.contextRestored q.val j).dispatch else s

def execContextRestoreDone (t : Nat) (q : Fin 32) (s : State) : Host.Outcome State Fault Refusal :=
  .next (doContextRestoreDone t q s)

/-- R176: WAYPOINT_TIMEOUT after the request no waypoint has been reached: the job is stopped at once. -/
def doWaypointTimeout (q : Fin 32) (s : State) : State :=
  match s.running? q.val with
  | none => s
  | some j =>
    if j.phase != .running || j.stop == .none then s
    else
      let s := s.advanceCharged (j.stopAt + s.numAt Adr.waypointTimeout * 1000)
      let s := s.bump (Adr.waypointsOverdue (s.partOf q.val))
      if j.stop == .deadline then s.missDeadline q.val j
      else (s.endItem q.val j.submitSeq 0x20 0x14 0 0).dispatch

def execWaypointTimeout (q : Fin 32) (s : State) : Host.Outcome State Fault Refusal :=
  .next (doWaypointTimeout q s)

/-- R181, R182: the running job of a queue finishes; not due while a transfer of it is unfinished or its
queue holds an unresolved fault (R204). -/
def doJobEnd (t : Nat) (q : Fin 32) (s : State) : State :=
  let s := s.advanceCharged t
  match s.running? q.val with
  | none => s
  | some j =>
    if j.phase != .running || j.guard.isSome || j.transfer || (s.queueAt q.val).fault.isSome then s
    else if j.stop == .deadline then s.missDeadline q.val j
    else
      let (status, cause) := s.servedAs j
      (s.endItem q.val j.submitSeq status cause 0 0).dispatch

def execJobEnd (t : Nat) (q : Fin 32) (s : State) : Host.Outcome State Fault Refusal := .next (doJobEnd t q s)

/-- R184: the next completion record of a queue is written. -/
def doCompletionRecord (t : Nat) (q : Fin 32) (s : State) : State := (s.advance t).writeRecord q.val

def execCompletionRecord (t : Nat) (q : Fin 32) (s : State) : Host.Outcome State Fault Refusal :=
  .next (doCompletionRecord t q s)

/-- R180, R183, R209: a job that the latest meridian would carry beyond CARRY_LIMIT ends at that meridian, in
the tick it closed. R183 decides the cause in the tick that first carried the job; CARRY_LIMIT is the cause of
one that no tick carried, and of one still parked (DEDUCED, log 34). -/
def State.endOverLimit (s : State) (q : Nat) (j : Job) : State :=
  s.endAtMeridian q j.submitSeq 0x10 (if j.phase == .parked || j.carry == 0 then 5 else j.carryCause) 0

def doCarryLimit (q : Fin 32) (s : State) : State :=
  match (s.queueAt q.val).jobs.find? s.overLimit with
  | none => s
  | some j => (s.endOverLimit q.val j).dispatch

def execCarryLimit (q : Fin 32) (s : State) : Host.Outcome State Fault Refusal := .next (doCarryLimit q s)

/-- R107, R169: a fusion record is written; jobs that wait for it become ready. -/
def doFusionRecord (t : Nat) (set : Fin 8) (s : State) : State :=
  let s := s.advanceCharged t
  if s.ingestRuns then (s.writeFusion set.val).dispatch else s

def execFusionRecord (t : Nat) (set : Fin 8) (s : State) : Host.Outcome State Fault Refusal :=
  .next (doFusionRecord t set s)

/-! ## The housekeeping mark and the check tile (R178, R256, R259) -/

/-- R178, R263: what H_n does to one active job: it is asked to stop; a P0 job has missed its deadline, which is
detected now, and it ends where it stops (DEDUCED, log 32). -/
def State.markJob (s : State) (q : Nat) : State :=
  match s.running? q with
  | none => s
  | some j =>
    if j.kind != 0 then s
    else if s.partOf q == 0 then
      let (ref, s) := s.jobFault q j 1 9 q 5 0x13 none none
      s.setJob q j.submitSeq (fun k => { k with
        stop := .deadline, stopRef := ref, stopAt := if k.stop == .none then s.tick.now else k.stopAt })
    else s.requestStop q j.submitSeq .housekeeping

/-- R256: while the dispatcher is down, a ready P0 job that did not start ends at H_n. -/
def State.markWaiting (s : State) (q : Nat) : State :=
  match s.waitingJob q with
  | none => s
  | some j => if s.partOf q == 0 && j.phase == .waiting then s.endItem q j.submitSeq 0x20 0x16 s.bin.dispatcherRef 0 else s

/-- R178, R259: the housekeeping mark; not due before the next meridian is known, nor twice in a tick. A check tile of a
warm reset that still runs stands for that of the mark (DEDUCED, log 32). -/
def doHousekeepingMark (s : State) : State :=
  match (if s.tick.marked then none else s.hkMark) with
  | none => s
  | some h =>
    let s := s.advanceCharged h
    let s := { s with tick := { s.tick with marked := true } }
    let s := (List.range 32).foldl State.markJob s
    let s := if s.bin.dispatcherRef != 0 then (List.range 32).foldl State.markWaiting s else s
    { s with arrs := s.arrs.map (fun x =>
        if x.powered && x.state != .heldFault && x.tile != .running then { x with tile := .due } else x) }

def execHousekeepingMark (s : State) : Host.Outcome State Fault Refusal := .next (doHousekeepingMark s)

/-- R259: an array that has been vacated after H_n runs its check tile; the handover swaps by bank (R151). -/
def doCheckTile (t : Nat) (a : Fin 8) (s : State) : State :=
  let s := s.advanceCharged t
  let x := s.arrAt a.val
  if x.tile != .due || x.job.isSome || x.state != .idle then s
  else
    let s := s.setArr a.val (fun y => { y with tile := .running, state := .housekeeping, swapFirst := true })
    (s.bump (Adr.swapsBank a.val)).bump (Adr.checkTileRuns a.val)

def execCheckTile (t : Nat) (a : Fin 8) (s : State) : Host.Outcome State Fault Refusal := .next (doCheckTile t a s)

/-- R256, R258 to R260: an array is held and waits for its localisation; a check tile that is due or runs has not
passed. -/
def State.holdArray (s : State) (a : Nat) : State :=
  s.setArr a (fun x => { x with
    state := .heldFault, localising := false, verdict := 0,
    tile := if x.tile == .due || x.tile == .running then .failed else x.tile })

/-- R259: the result of a check tile: passed when the signature equals the golden one and the forced mismatch
was detected; a failure is a SAFETY fault. -/
def doCheckTileResult (t : Nat) (a : Fin 8) (signatureOk mismatchSeen : Bool) (s : State) : State :=
  let s := s.advanceCharged t
  if (s.arrAt a.val).tile != .running then s
  else if signatureOk && mismatchSeen then
    (s.setArr a.val (fun x => { x with tile := .passed, state := .idle })).dispatch
  else
    let s := s.bump (Adr.checkTileFails a.val)
    let s := s.raise { Detection.plain 1 3 a.val 0 with localise := some a.val }
    s.holdArray a.val

def execCheckTileResult (t : Nat) (a : Fin 8) (signatureOk mismatchSeen : Bool) (s : State) :
    Host.Outcome State Fault Refusal :=
  .next (doCheckTileResult t a signatureOk mismatchSeen s)

/-- R258: localisation starts on a held array that has no verdict yet. -/
def doLocalisation (t : Nat) (a : Fin 8) (s : State) : State :=
  let s := s.advanceCharged t
  let x := s.arrAt a.val
  if x.state != .heldFault || x.localising || x.verdict != 0 then s
  else (s.setArr a.val (fun y => { y with localising := true })).bump (Adr.localisations a.val)

def execLocalisation (t : Nat) (a : Fin 8) (s : State) : Host.Outcome State Fault Refusal :=
  .next (doLocalisation t a s)

/-- Verdict codes (R258). -/
def verdictCode (v : Sys2Proof.Verdict) : Nat :=
  match v with
  | .column => 1 | .lane => 2 | .other => 3 | .unlocalised => 4

/-- R258: the verdict: only UNLOCALISED returns the array to IDLE. -/
def doLocalisationVerdict (t : Nat) (a : Fin 8) (v : Verdict) (s : State) : State :=
  let s := s.advanceCharged t
  if !(s.arrAt a.val).localising then s
  else
    let code := verdictCode v
    let s := s.setArr a.val (fun x => { x with
      localising := false, verdict := code,
      state := if v != .unlocalised then .heldFault else if x.powered then .idle else .off })
    ((s.setNum (Adr.localiseVerdict a.val) code).giveVerdict a.val code).dispatch

def execLocalisationVerdict (t : Nat) (a : Fin 8) (v : Verdict) (s : State) :
    Host.Outcome State Fault Refusal :=
  .next (doLocalisationVerdict t a v s)

/-! ## Duplicated sequencers (R256) -/

/-- R156, R256, R257: a fault on an array: detected for the job on it, with the pass and the vector that it names,
which ends; the array is held and will be localised. -/
def State.faultOnArray (s : State) (a cls mechanism cause detail : Nat) (detailed vector : Option Nat) : State :=
  match s.holder? a with
  | none => (s.raise { Detection.plain cls mechanism a 0 with localise := some a }).holdArray a
  | some (q, j) =>
    let (ref, s) := s.detect { Detection.plain cls mechanism a 0 with
      part := some (s.partOf q), queue := some q, tag := some j.tag, cause := cause, detail := detailed,
      vector := vector, localise := some a }
    (s.endItem q j.submitSeq 0x20 cause ref detail).holdArray a

/-- R256: the copies of an array's sequencer disagree. -/
def doSequencerMismatch (t : Nat) (a : Fin 8) (s : State) : State :=
  let s := s.advanceCharged t
  if (s.arrAt a.val).powered then (s.faultOnArray a.val 1 1 0x16 0 none none).dispatch else s

def execSequencerMismatch (t : Nat) (a : Fin 8) (s : State) : Host.Outcome State Fault Refusal :=
  .next (doSequencerMismatch t a s)

/-- R256: the copies of the job dispatcher disagree: no job starts for the rest of the tick. The dispatcher is
reported as fabric endpoint 20 (DEDUCED, log 25). -/
def doDispatcherMismatch (t : Nat) (s : State) : State :=
  let s := s.advanceCharged t
  if !s.ingestRuns then s
  else
    let (ref, s) := s.detect (Detection.plain 1 1 20 4)
    { s with bin := { s.bin with dispatcherDown := true, dispatcherRef := ref } }

def execDispatcherMismatch (t : Nat) (s : State) : Host.Outcome State Fault Refusal :=
  .next (doDispatcherMismatch t s)

end Sys2Proof.Machine
end

