-- ==== Sys2Proof/Machine/Memory.lean ====
section
/-! DEFINITION. Machine/Memory: the scrubber and operand-store errors (R193 to R195), page-table walks and the
translation cache (R197 to R200), translation faults and their resolution (R201 to R210), and the meanings of
the commands that are not dictionary writes. -/

namespace Sys2Proof.Machine

/-! ## The scrubber (R193 to R195) -/

/-- R194: whether the scrubber reads an address: data blocks of in-force INLINE_ECC regions, and every word of
the chart store. -/
def State.scrubbed (s : State) (a : Nat) : Bool :=
  if chartBase ≤ a then a < chartBase + s.part.variant.chartKib * 1024
  else (List.range 4).any (fun p => (s.regionsInForce p).any (fun r => r.ecc && r.base ≤ a && a < r.dataLimit))

/-- An error that strikes a block or word of memory (R193, R195); one with an uncorrectable error keeps it. -/
def State.upsetAt (s : State) (b : Nat) (correctable : Bool) : State :=
  let put (xs : List Nat) : List Nat := if xs.contains b then xs else b :: xs
  if s.mem.ue.contains b then s
  else if correctable then { s with mem := { s.mem with ce := put s.mem.ce } }
  else { s with mem := { s.mem with ue := put s.mem.ue, ce := s.mem.ce.filter (· != b) } }

/-- R193 to R195: a scrub read at an address of device memory or the chart store; an error that is in place is
met again. -/
def State.scrubAt (s : State) (a : Nat) (found : EccEvent) : State :=
  if !(s.scrubbed a) then s
  else
    let b := granuleBase a
    let found := if s.mem.ue.contains b then .uncorrectable else if s.mem.ce.contains b then .correctable else found
    match found with
    | .clean => s
    | .correctable => s.correct { violation := false, bad := [], corrected := [b] }
    | .passDone =>
      if chartBase ≤ a then s.bump Adr.chartScrubPasses else s.bump (Adr.channelScrubPasses (s.channelOf a))
    | .uncorrectable => ((s.upsetAt b false).uncorrectable true none none none 0 a).2
    | .upset correctable => s.upsetAt b correctable

/-- An error that strikes a word of an operand store. -/
def State.operandUpset (s : State) (a word : Nat) (correctable : Bool) : State :=
  let put (xs : List (Nat × Nat)) : List (Nat × Nat) := if xs.contains (a, word) then xs else (a, word) :: xs
  if s.mem.opUe.contains (a, word) then s
  else if correctable then { s with mem := { s.mem with opCe := put s.mem.opCe } }
  else { s with mem := { s.mem with opUe := put s.mem.opUe, opCe := s.mem.opCe.filter (· != (a, word)) } }

/-- R284: an uncorrectable error in the logbook: the next read of the record meets it. A correctable one leaves no
trace. -/
def State.logbookEcc (s : State) (persist : Bool) (index : Nat) (found : EccEvent) : State :=
  match found with
  | .clean | .passDone | .correctable | .upset true => s
  | .uncorrectable | .upset false => { s with log := s.log.damage persist index }

/-- R193, R195: an ECC event in the operand store of a powered array. -/
def State.operandEcc (s : State) (a word : Nat) (found : EccEvent) : State :=
  if !(s.arrAt a).powered then s
  else
    let found := if s.mem.opUe.contains (a, word) then .uncorrectable
      else if s.mem.opCe.contains (a, word) then .correctable else found
    match found with
    | .clean | .passDone => s
    | .correctable => ((s.operandUpset a word true).readStoreMet a [(8 * word, 8)]).state
    | .uncorrectable => s.operandUe a word
    | .upset correctable => s.operandUpset a word correctable

def doScrubRead (t : Nat) (place : EccPlace) (found : EccEvent) (s : State) : State :=
  let s := s.advanceCharged t
  match place with
  | .logbook persist i => s.logbookEcc persist i found
  | .device _ | .chart _ | .operandStore _ _ =>
    if !s.ingestRuns then s
    else
      match place with
      | .logbook _ _ => s
      | .device a => if a < chartBase then s.scrubAt a found else s
      | .chart a => if chartBase ≤ a then s.scrubAt a found else s
      | .operandStore a w => (s.operandEcc a.val w found).dispatch

def execScrubRead (t : Nat) (place : EccPlace) (found : EccEvent) (s : State) :
    Host.Outcome State Fault Refusal :=
  .next (doScrubRead t place found s)

/-! ## Walks and the translation cache (R197 to R201) -/

/-- What the translation of a window offset gives: a bus address with the leaf's bits, or a fault. -/
inductive Walk where
  | leaf (bus : Nat) (page : Nat) (size : Nat) (bits : Nat) (level : Nat)
  | fault (kind : Nat) (level : Nat)
  deriving DecidableEq, Repr

/-- R199: reserved bits of a table entry. -/
def pteReserved (e : Nat) : Bool := bitsAt e 63 52 != 0 || bitsAt e 11 8 != 0 || bitsAt e 6 5 != 0 || bitAt e 2

/-- ADDR of a table entry (R199). -/
def pteAddr (e : Nat) : Nat := bitsAt e 51 12 * 4096

/-- R198: one table read for partition `p`: in device memory, inside a READ region, without an uncorrectable
error. An error and a region violation are counted (R189, R201); the walk's fault is what is recorded of either (DEDUCED,
log 53). The read is charged to the partition (R191). -/
def State.readPte (s : State) (p a : Nat) : Option Nat × State :=
  let s := s.chargeAccess p false a 8
  if chartBase < a + 8 then (none, if s.permitted p false a 8 then s else s.bump (Adr.regionViolations p))
  else
    let (b, m) := s.load p a 8
    let s := s.correct m
    if m.violation then (none, s.bump (Adr.regionViolations p))
    else (if m.fine then some (leNat b) else none, m.bad.foldl State.countUe s)

/-- R199, R201: a leaf of `size` bytes at `level`. -/
def leafOf (e v size level : Nat) : Walk :=
  if pteAddr e % size != 0 then .fault 3 level
  else .leaf (pteAddr e + v % size) (v - v % size) size e level

/-- Index of the entry for window offset `v` at a level, in a table of `small` 64 KiB pages or not (R198). -/
def pteIndex (v level : Nat) (small : Bool) : Nat :=
  match level with
  | 0 => v / 2 ^ 39 % 256
  | 1 => v / 2 ^ 30 % 512
  | 2 => v / 2 ^ 21 % 512
  | _ => if small then v / 2 ^ 16 % 32 else v / 2 ^ 12 % 512

/-- What an entry at a level leads to (R198). -/
inductive Next where
  | walk (w : Walk)
  | table (base : Nat) (small : Bool)
  deriving DecidableEq, Repr

/-- R198, R199, R201: an entry read at a level. -/
def nextOf (e v level : Nat) (small : Bool) : Next :=
  let ty := e % 4
  if ty == 0 then .walk (.fault 1 level)
  else if pteReserved e then .walk (.fault 3 level)
  else
    match level, ty with
    | 0, 1 | 1, 1 | 2, 1 => .table (pteAddr e) false
    | 2, 2 => .table (pteAddr e) true
    | 2, 3 => .walk (leafOf e v 0x200000 2)
    | 3, 1 => .walk (leafOf e v (if small then 0x10000 else 0x1000) 3)
    | _, _ => .walk (.fault 3 level)

/-- R198: the walk from a table on, `fuel` levels. -/
def State.walkFrom (p v : Nat) : Nat → Nat → Bool → State → Walk × State
  | 0, _, _, s => (.fault 3 3, s)
  | fuel + 1, base, small, s =>
    let level := 3 - fuel
    match s.readPte p (base + 8 * pteIndex v level small) with
    | (none, s) => (.fault 4 level, s)
    | (some e, s) =>
      match nextOf e v level small with
      | .walk w => (w, s)
      | .table b small => State.walkFrom p v fuel b small s

/-- R201: permission of a leaf. -/
def permits (write : Bool) (w : Walk) : Walk :=
  match w with
  | .fault k l => .fault k l
  | .leaf bus page size bits level =>
    if bitAt bits (if write then 4 else 3) then .leaf bus page size bits level else .fault 2 level

/-- The cached translation of a window offset. -/
def State.cached (s : State) (p v : Nat) : Option Tlb :=
  s.mem.tlb.find? (fun e => e.partition == p && e.page ≤ v && v < e.page + e.size)

/-- A translation that stands in a list, without the last element that is not of P0. -/
def dropOldest (xs : List Tlb) : List Tlb := (dropFirst (fun e => e.partition != 0) xs.reverse).reverse

/-- R200: a completed walk is cached: 1 024 entries, of which other partitions than P0 take at most 768. Which
entry makes room is not stated: the oldest of those (DESIGN CHOICE, log 36). -/
def State.cache (s : State) (e : Tlb) : State :=
  let xs := e :: s.mem.tlb
  let xs := if 768 < countIf (fun x => x.partition != 0) xs then dropOldest xs else xs
  let xs := if 1024 < xs.length then xs.take 1024 else xs
  { s with mem := { s.mem with tlb := xs } }

/-- R197 to R201: the translation of a window offset for an access of a partition. -/
def State.translate (s : State) (p : Nat) (write : Bool) (v : Nat) : Walk × State :=
  match s.cached p v with
  | some e => (permits write (.leaf (e.bus + (v - e.page)) e.page e.size e.leaf (if e.size == 0x200000 then 2 else 3)), s)
  | none =>
    let (w, s) := State.walkFrom p v 4 (s.numAt (Adr.ptBase p)) false (s.bump (Adr.walks p))
    match permits write w with
    | .fault k l => (.fault k l, s)
    | .leaf bus page size bits level =>
      (.leaf bus page size bits level,
        s.cache { partition := p, page := page, size := size, bus := bus - (v - page), leaf := bits })

/-- R200: whether a value of TLB_INVALIDATE names a translation of partition `p` at `[page, page + size)`. Scope code 3
is undefined: a dictionary write of it is refused with 0x0402, and a Window A write of it names nothing, and is counted
in TLB_INV_DONE as any other (R9; DESIGN CHOICE, log 57). -/
def inScope (value p page size : Nat) : Bool :=
  let at_ := bitsAt value 47 12 * 4096
  match value % 4 with
  | 0 => true
  | 1 => bitsAt value 3 2 == p
  | 2 => bitsAt value 3 2 == p && page ≤ at_ && at_ < page + size
  | _ => false

/-- R200: the cached translations in scope are discarded. -/
def State.discardScope (s : State) (value : Nat) : State :=
  { s with mem := { s.mem with tlb := s.mem.tlb.filter (fun e => !(inScope value e.partition e.page e.size)) } }

/-- R200: an invalidation starts; its response, or the Window A count, follows once it is done. -/
def State.invalidate (s : State) (value : Nat) (answer : InvalidationEnd) : State :=
  let s := s.discardScope value
  { s with mem := { s.mem with invalidating := s.mem.invalidating ++ [{ scope := value, answer := answer }] } }

/-- Whether a read was made through a translation in the scope of an invalidation. -/
def HostRead.inScope (r : HostRead) (value : Nat) : Bool := Sys2Proof.Machine.inScope value r.partition r.page r.size

/-- R200: whether a request translated through a discarded translation is still outstanding: a read of a copy
engine, abandoned or not, or a packet to HOST that waits for its acknowledgement. -/
def State.translationsOpen (s : State) (value : Nat) : Bool :=
  s.host.engines.any (fun e => e.reads.any (·.inScope value) || e.abandoned.any (·.inScope value)) ||
  s.fabric.numberings.any (fun n => n.src == 22 && n.dst == 4 &&
    n.outstanding.any (fun o => value % 4 == 0 || bitsAt value 3 2 == o.packet.partition.val)) ||
  s.fabric.reads.any (fun r => value % 4 == 0 || bitsAt value 3 2 == r.request.packet.partition.val)

/-- R200: the oldest invalidation is done once no request in its scope is outstanding: what walks have cached in its
scope since it began is discarded too, and its response is sent, or TLB_INV_DONE counts it. -/
def doTlbInvalidateDone (t : Nat) (s : State) : State :=
  let s := s.advance t
  match s.mem.invalidating with
  | [] => s
  | x :: rest =>
    if s.translationsOpen x.scope then s
    else
      let s := s.discardScope x.scope
      let s := { s with mem := { s.mem with invalidating := rest } }
      match x.answer with
      | .windowA => { s with mem := { s.mem with tlbDone := (s.mem.tlbDone + 1) % 2 ^ 32 } }
      | .port p => s.releaseResponse p
      | .nobody => s

def execTlbInvalidateDone (t : Nat) (s : State) : Host.Outcome State Fault Refusal :=
  .next (doTlbInvalidateDone t s)

/-! ## Translation faults (R201 to R210) -/

/-- R203: the disposition of a queue's next translation fault. -/
def State.tfModeOf (s : State) (q : Nat) : Nat := if s.partOf q == 0 then 2 else s.numAt (Adr.tfMode q)

/-- R202: the 32 bytes of a fault record. -/
def State.tfRecord (s : State) (q : Nat) (f : TFault) (disposition context seq : Nat) : Bytes :=
  leBytes 8 f.addr ++ leBytes 8 f.tick ++ leBytes 4 f.offset ++ leBytes 1 (s.partOf q) ++ leBytes 1 q ++
    leBytes 1 f.kind ++ leBytes 1 (b2n f.write) ++ leBytes 1 f.engine ++ leBytes 1 f.level ++
    leBytes 1 disposition ++ leBytes 1 context ++ leBytes 4 seq

/-- R202: a fault is counted and its record written to the partition's ring, unless bus-master enable is clear
(R249). -/
def State.recordTf (s : State) (q : Nat) (f : TFault) (disposition context : Nat) : State :=
  let p := s.partOf q
  let seq := (nth s.mem.faultSeq p 0 + 1) % 2 ^ 32
  let bytes := s.tfRecord q f disposition context seq
  let s := s.bump (Adr.translationFaults p)
  let s := { s with mem := { s.mem with
    faultSeq := modifyAt s.mem.faultSeq p (fun _ => seq), tfLast := modifyAt s.mem.tfLast p (fun _ => bytes) } }
  if s.hostOpen then
    (s.hostWrite (s.numAt (Adr.tfRingAddr p) + seq % (s.numAt (Adr.tfRingEntries p)) * 32) bytes).sendVector (32 + p)
  else s

/-- DETAIL of an ending with cause TRANSLATION (R203). -/
def TFault.detail (f : TFault) : Nat := (f.addr - f.start) / 4096

/-- R202, R203, R205, R206: a translation fault of an item takes its disposition. One of an item that has ended
is still recorded, with DISPOSITION ABORT (R207, R210). -/
def State.applyTf (s : State) (q seq : Nat) (f : TFault) (context : Nat) : State :=
  let mode := s.tfModeOf q
  let s := s.setNum (Adr.tfModeEffective q) mode
  match (s.job? q seq).filter (fun j => j.ended.isNone) with
  | none => s.recordTf q f 0 context
  | some j =>
    match mode with
    | 2 =>
      let (ref, s) := s.detect { Detection.plain 1 0x0C q 5 with
        part := some (s.partOf q), queue := some q, tag := some j.tag, cause := 0x12, detail := some f.detail,
        address := some f.addr, translation := [f.kind, f.level, b2n f.write, 2, context] }
      (s.recordTf q f 2 context).endItem q seq 0x20 0x12 ref f.detail
    | 1 =>
      let s := (s.recordTf q f 1 context).setQueue q (fun x => { x with fault := some f })
      if j.kind == 0 then s.requestStop q seq .park else s.park q j f
    | _ => (s.recordTf q f 0 context).endItem q seq 0x20 0x12 0 f.detail

/-- R207: whether re-sends of an item's requests are outstanding. -/
def State.resendsOpen (s : State) (q seq : Nat) : Bool :=
  s.fabric.numberings.any (fun n => n.src == 22 &&
    n.outstanding.any (fun o => o.owner == some (q, seq) && 0 < o.resends))

def State.setEngine (s : State) (e : Nat) (f : Engine → Engine) : State :=
  { s with host := { s.host with engines := modifyAt s.host.engines e f } }

def State.engineAt (s : State) (e : Nat) : Engine :=
  nth s.host.engines e { owner := none, reads := [], abandoned := [], held := none }

/-- R205 to R207: a request of an item's transfer faults. -/
def State.translationFault (s : State) (q : Nat) (j : Job) (f : TFault) : State :=
  if s.resendsOpen q j.submitSeq then s.setEngine f.engine (fun e => { e with held := some f })
  else s.applyTf q j.submitSeq f (if j.stop != .none then 1 else 0)

/-- R207: faults held for re-sends that have resolved. -/
def State.releaseHeld (s : State) : State :=
  (List.range 8).foldl (fun s e =>
    match (s.engineAt e).held, (s.engineAt e).owner with
    | some f, some (q, seq) =>
      if s.resendsOpen q seq then s
      else (s.setEngine e (fun x => { x with held := none })).applyTf q seq f 2
    | _, _ => s) s

/-- R208: the item parked in a queue. -/
def State.parked? (s : State) (q : Nat) : Option Job :=
  (s.queueAt q).jobs.find? (fun j => j.ended.isNone && j.phase == .parked)

/-- R208: RETRY: the faulting page is discarded and the parked item becomes ready; before it has parked the
resolution waits. -/
def State.tfRetry (s : State) (q : Nat) (f : TFault) : State :=
  let v := f.addr - hostWindow
  let s := s.discardScope (2 + 4 * s.partOf q + v / 4096 * 4096)
  match s.parked? q with
  | none => s.setQueue q (fun x => { x with fault := some { f with resolve := 1 } })
  | some j =>
    let s := s.setJob q j.submitSeq (fun k => { k with phase := if k.kind == 0 then .saved else .waiting })
    s.setQueue q (fun x => { x with fault := none, state := if x.state == .parked then .active else x.state })

/-- R208: ABORT: the parked item ends; before it has parked the resolution waits. -/
def State.tfAbort (s : State) (q : Nat) (f : TFault) : State :=
  match s.parked? q with
  | none => s.setQueue q (fun x => { x with fault := some { f with resolve := 2 } })
  | some j => s.endItem q j.submitSeq 0x20 0x12 0 f.detail

/-- R208: TF_RESOLVE of a queue with an unresolved fault; the answer is none where there is no fault. -/
def State.tfResolve (s : State) (q : Nat) (retry : Bool) : Option State :=
  (s.queueAt q).fault.map (fun f => (if retry then s.tfRetry q f else s.tfAbort q f).dispatch)

/-- R181, R209: an item still parked TF_PARK_TIMEOUT meridians after it parked ends at that meridian, in the tick
that it closed. -/
def doTfParkTimeout (q : Fin 32) (s : State) : State :=
  match s.parked? q.val, (s.queueAt q.val).fault with
  | some j, some f =>
    if s.parkOver q.val j then (s.endAtMeridian q.val j.submitSeq 0x20 0x12 f.detail).dispatch else s
  | _, _ => s

def execTfParkTimeout (q : Fin 32) (s : State) : Host.Outcome State Fault Refusal :=
  .next (doTfParkTimeout q s)

end Sys2Proof.Machine
end

