-- ==== Sys2Proof/Machine/Arrays.lean ====
section
/-! DEFINITION. Machine/Arrays: the matrix arrays (R142 to R156) with their operand stores, the vector units (R157,
R158) and the graph walker (R159 to R161). A pass is one of those the device read from the job's image at admission;
what it works on stands in the operand store of its array. -/

namespace Sys2Proof.Machine

/-- The rounding profile a job runs under (R222, R226): replay jobs under the effective one. -/
def State.profileOf (s : State) (j : Job) : Nat := if j.replay then s.roundingEffective else s.part.roundingProfile

/-- The ARITH_REV a job runs under (R139, R226). -/
def State.arithRevOf (s : State) (j : Job) : Nat := s.profileOf j / 256

/-- The REPLAY_PROFILE a job runs under (R222, R224, R226). -/
def State.replayOf (s : State) (j : Job) : Nat := if j.replay then s.replayEffective else s.part.replayProfile

/-- Whether the trees of a REPLAY_PROFILE are those of R160 and R222: revision 1 with GW_TREE and SPLIT 0 (R224). -/
def treesStated (replayProfile : Nat) : Bool := replayProfile / 256 == 1 && bitsAt replayProfile 7 2 == 0

/-- A sum in replay mode (R160, R222): the pairwise tree of fixed shape over ascending position. -/
def replaySum (profile replayProfile : Nat) (xs : List Fp) : Fp :=
  if treesStated replayProfile then treeSum profile xs
  else fp32.decode (Config.replaySum replayProfile (xs.map fp32Bits) % 2 ^ 32)

/-! ## The operand store (R142, R143, R195) -/

/-- R142: the fabric port brings bytes into the operand store of an array. -/
def State.moveIn (s : State) (a q : Nat) (j : Job) (m : StoreMove) : Gw :=
  let g := s.gwRead (arrayEndpoint a) q j m.dev m.len
  if g.2.ok then { g.2 with state := g.2.state.writeStore a m.store g.1 } else g.2

/-- R142: the fabric port takes bytes out of the operand store of an array. -/
def State.moveOut (s : State) (a q : Nat) (j : Job) (m : StoreMove) : Gw :=
  let g := s.readStoreMet a [(m.store, m.len)]
  if !g.ok then g else g.state.gwWrite (arrayEndpoint a) q j m.dev ((g.state.arrAt a).store.read m.store m.len)

/-- Transfers in order, up to the first that ends the job. -/
def State.moves (step : State → StoreMove → Gw) (s : State) (ms : List StoreMove) : Gw :=
  ms.foldl (fun g m => if g.ok then step g.state m else g) { state := s, ok := true }

/-- R143: the port that a bank serves in a cycle: the first of those that address it. -/
def servedPort (ports : List StorePort) : Option StorePort :=
  [StorePort.activation, .accRead, .accWrite, .weight, .vector, .fabric].find? (fun p => ports.contains p)

/-- R143: the cycles in which the activation feed waits, and the array stalls. -/
def stallCycles (contention : List (List StorePort)) : Nat :=
  (contention.filter (fun ports => ports.contains .activation && servedPort ports != some .activation)).length

/-! ## A pass of an image (R144, R145) -/

/-- R145: whether a pass is the first K tile that its array forms: tile 0, or the first one of an array's share in a
split reduction (R222). -/
def firstTile (p : ImagePass) (gang : Nat) : Bool := p.kTile == 0 || (p.split && p.kTile < gang)

/-- The rescale output format of a pass's column tile, as the descriptor group of its last K tile gives it (R151). -/
def outFmtOf (b : ImageBody) (p : ImagePass) : Nat :=
  match b.passes.find? (fun x => x.column == p.column && x.lastTile) with
  | some x => field (x.descriptors.headD []) 2 1
  | none => 0

/-- A weight of a tile: rows and columns beyond it are zero (R145). -/
def Tile.weight (w : Tile) (k j : Nat) : Nat := nth (nth w.weights k []) j 0

/-- R144, R148: the tile of a pass as the shadow load reads it: rows of 128 elements, one after the other. Rows beyond
the end of K and columns beyond the last output channel hold zeros (R145). -/
def tileOf (p : ImagePass) (store : Memory) : Tile :=
  { actFmt := p.actFmt, weightFmt := p.weightFmt,
    weights := (List.range (min p.rows (tileDepth p.actFmt))).map (fun k =>
      (unpackElems p.weightFmt 128 (store.read (p.weights + k * storedBytes p.weightFmt 128)
        (storedBytes p.weightFmt 128))).take p.outCols) }

/-- Rows of the tile (R144). -/
def Tile.rows (w : Tile) : List Nat := List.range (tileDepth w.actFmt)

/-- The raw activation at row `k` of vector `m`: none beyond the end of K, where the west edge feeds 0 (R145). -/
def actAt (p : ImagePass) (vec : List Nat) (k : Nat) : Option Nat := if k < p.rows then vec[k]? else none

/-- The activations of one vector of a pass in the operand store. -/
def vecOf (p : ImagePass) (store : Memory) (v : VectorAt) : List Nat :=
  unpackElems p.actFmt p.rows (store.read v.act (storedBytes p.actFmt p.rows))

/-- An accumulator vector in its 576 bytes (R142). -/
def accBytes (v : AccVec) : Bytes :=
  (v.out.map (leBytes 4)).flatten ++ leBytes 4 v.c ++ leBytes 4 v.g ++ List.replicate 56 0

/-- The accumulator vector that 576 bytes hold. -/
def readAcc (b : Bytes) : AccVec :=
  { out := (List.range 128).map (fun i => field b (4 * i) 4), c := field b 512 4, g := field b 516 4 }

/-- The mask of a fault on one column of one vector (R156): 0 where there is none. -/
def faultMask (op : PassOp) (m column : Nat) : Nat :=
  op.faults.foldl (fun x f => if f.vector == m && f.column == column then Nat.xor x f.mask else x) 0

/-! ## Integer passes (R145, R154) -/

/-- The activation after the zero point (R132, R144): a position marked as padding takes the zero point, and a row
beyond the end of K is fed zero (R145). -/
def actInt (p : ImagePass) (m : Nat) (vec : List Nat) (k : Nat) : Int :=
  if p.padding.contains (m, k) then 0
  else
    match actAt p vec k with
    | some x => intDecode p.actFmt x - p.zeroPoint
    | none => 0

def Tile.weightInt (w : Tile) (k j : Nat) : Int := intDecode w.weightFmt (w.weight k j)

/-- One vector of an integer pass: the accumulator vector, before any fault (R129, R154). The bias enters in K tile 0. -/
def intVector (p : ImagePass) (w : Tile) (gang m : Nat) (prev : AccVec) (vec : List Nat) : AccVec :=
  let wrap (x : Int) : Nat := ofSigned 32 x
  let bias (j : Nat) : Int := if p.kTile == 0 then (nth p.bias j 0 : Int) else 0
  let north (j : Nat) : Int := if firstTile p gang then bias j else (nth prev.out j 0 : Int)
  let out := (List.range 128).map (fun j =>
    wrap (w.rows.foldl (fun acc k => acc + actInt p m vec k * w.weightInt k j) (north j)))
  let laneIn : Int := if firstTile p gang then (List.range 128).foldl (fun x j => x + bias j) 0 else prev.c
  let sum (k : Nat) : Int := (List.range 128).foldl (fun x j => x + w.weightInt k j) 0
  let c := wrap (w.rows.foldl (fun acc k => acc + actInt p m vec k * sum k) laneIn)
  { out := out, c := c, g := 0 }

/-! ## Floating passes (R130, R152, R155) -/

/-- A cell's multiply-add; a gated cell forwards its partial sum (R152). -/
def cellFma (profile : Nat) (acc a w : Fp) : Fp :=
  if (a.isZero && w.isFinite) || (w.isZero && a.isFinite) then acc else fmaFp32 profile acc a w

/-- A floating activation: +0 at a position marked as padding and beyond the end of K (R132, R145). -/
def actFp (profile : Nat) (p : ImagePass) (m : Nat) (vec : List Nat) (k : Nat) : Fp :=
  if p.padding.contains (m, k) then Fp.zero
  else
    match actAt p vec k with
    | some x => operand profile p.actFmt x
    | none => Fp.zero

def Tile.weightFp (profile : Nat) (w : Tile) (k j : Nat) : Fp := operand profile w.weightFmt (w.weight k j)

/-- One vector of a floating pass (R130, R155). -/
def floatVector (profile : Nat) (p : ImagePass) (w : Tile) (gang m : Nat) (prev : AccVec) (vec : List Nat) : AccVec :=
  let act := actFp profile p m vec
  let north (x : Nat) : Fp := if firstTile p gang then Fp.zero else readFp32 profile x
  let out := (List.range 128).map (fun j =>
    fp32Bits (w.rows.foldl (fun acc k => cellFma profile acc (act k) (w.weightFp profile k j)) (north (nth prev.out j 0))))
  let cols := List.range 128
  let s_ (k : Nat) : Fp := treeSum profile (cols.map (w.weightFp profile k))
  let g_ (k : Nat) : Fp := treeSum profile (cols.map (fun j => (w.weightFp profile k j).abs))
  let c := w.rows.foldl (fun acc k => fmaFp32 profile acc (act k) (s_ k)) (north prev.c)
  let g := w.rows.foldl (fun acc k => fmaFp32 profile acc (act k).abs (g_ k)) (north prev.g)
  { out := out, c := fp32Bits c, g := fp32Bits g }

/-- A vector with its lane faults (R156): column 128 is the checksum lane. -/
def withFaults (op : PassOp) (m : Nat) (v : AccVec) : AccVec :=
  { v with
    out := v.out.zipIdx.map (fun e => Nat.xor e.1 (faultMask op m e.2)), c := Nat.xor v.c (faultMask op m 128) }

/-- What the comparison of a vector finds. -/
inductive Compared where
  | equal
  | fails
  | skipped
  deriving DecidableEq, Repr

/-- R154, R155: the comparison of one vector. -/
def compareVector (profile : Nat) (float : Bool) (bound : Nat) (v : AccVec) : Compared :=
  if !float then (if sumNat v.out % 2 ^ 32 == v.c then .equal else .fails)
  else
    let sum := treeSum profile (v.out.map (readFp32 profile))
    let c := readFp32 profile v.c
    let g := readFp32 profile v.g
    if !(sum.isFinite && c.isFinite && g.isFinite) then .skipped
    else
      let limit := ((readFp32 profile bound).mul g).add (.num false 1 (-100))
      if limit.lt (sum.add c.neg).abs then .fails else .equal

/-! ## Gating (R152, R153) -/

/-- Gated cells (or INT4 products) of one vector. -/
def gatedIn (profile : Nat) (p : ImagePass) (w : Tile) (m : Nat) (vec : List Nat) : Nat :=
  let float := isFloat p.actFmt
  sumNat (w.rows.map (fun k =>
    if float then
      let a := actFp profile p m vec k
      countIf (fun j =>
        let x := w.weightFp profile k j
        (a.isZero && x.isFinite) || (x.isZero && a.isFinite)) (List.range 128)
    else if actInt p m vec k == 0 then 128
    else countIf (fun j => w.weightInt k j == 0) (List.range 128)))

/-- R153: gated cell-cycles are counted in whole or half units; the first gated INT4 product doubles the
held count. -/
def State.countGated (s : State) (a : Nat) (int4 : Bool) (k : Nat) : State :=
  if k == 0 then s
  else
    let half := (s.arrAt a).gatingUnit == 1
    if int4 then
      let s := if half then s else
        (s.bumpBy (Adr.gatedCellCycles a) (s.numAt (Adr.gatedCellCycles a))).setArr a (fun x => { x with gatingUnit := 1 })
      s.bumpBy (Adr.gatedCellCycles a) k
    else s.bumpBy (Adr.gatedCellCycles a) (if half then 2 * k else k)

/-! ## Changing stationary operands (R148 to R151) -/

/-- Cycles of a shadow load after the one in which it begins: 128 rows, and two cycles for the checksum lane (R148). -/
def shadowCycles : Nat := 129

/-- R148: the tile of a pass is read into the shadow registers. -/
def State.loadShadow (s : State) (a : Nat) (p : ImagePass) : State :=
  s.setArr a (fun x => { x with shadow := some (tileOf p x.store) })

/-- R149, R150: the cells copy their shadow registers into their working registers. -/
def State.copyShadow (s : State) (a : Nat) : State := s.setArr a (fun x => { x with working := x.shadow })

/-- R151: whether the swap before a pass is a bank swap. -/
def bankSwap (x : Arr) (j : Job) (p : ImagePass) : Bool :=
  !j.swapFront || x.swapFirst || x.prevPair != (p.actFmt, p.weightFmt) ||
    isFloat x.prevPair.1 != isFloat p.actFmt || x.prevOutFmt != outFmtOf j.body p

/-- R149 to R151: the swap is counted, with the stall of a moving front whose shadow load ends after the last
vector of the old pass has entered. -/
def State.countSwap (s : State) (a : Nat) (j : Job) (p : ImagePass) (op : PassOp) : State :=
  let x := s.arrAt a
  if bankSwap x j p then s.bump (Adr.swapsBank a)
  else
    let last := x.prevI * (x.prevM - 1)
    let stall := max last (op.shadowStart + shadowCycles) - last
    let s := s.bump (Adr.swapsFront a)
    if stall == 0 then s else s.bumpBy (Adr.frontStallCycles a) stall

/-! ## The outputs (R146, R156) -/

/-- R146: the outputs of one vector of a last K tile, with what they add to the counters; a floating bias
comes first (R130). -/
def finishVector (profile : Nat) (p : ImagePass) (v : AccVec) : List Rescaled :=
  (List.range p.outCols).map (fun j =>
    let acc := nth v.out j 0
    let acc := if isFloat p.actFmt && !p.bias.isEmpty then
      fp32Bits (addFp32 profile (readFp32 profile acc) (readFp32 profile (nth p.bias j 0))) else acc
    match p.descriptors[j / 32]? with
    | some d => (parseRescale d).apply profile acc (j % 32)
    | none => { raw := acc, saturated := false, clamped := false, nan := false })

/-- The outputs of a vector as they are stored, group by group in its OUT_FORMAT (R124, R133). -/
def outBytes (p : ImagePass) (rs : List Rescaled) : Bytes :=
  (p.descriptors.zipIdx.map (fun e =>
    packElems (parseRescale e.1).outFmt (((rs.drop (32 * e.2)).take 32).map (·.raw)))).flatten

/-- The counters of R140. -/
def State.countRescaled (s : State) (a : Nat) (rs : List Rescaled) : State :=
  let up (s : State) (adr k : Nat) : State := if k == 0 then s else s.bumpBy adr k
  up (up (up s (Adr.rescaleSaturated a) (countIf (·.saturated) rs)) (Adr.fpSaturated a) (countIf (·.clamped) rs))
    (Adr.nanOut a) (countIf (·.nan) rs)

/-- What the south edge writes for one vector (R146). -/
def southBytes (profile : Nat) (p : ImagePass) (v : AccVec) : Bytes :=
  if p.lastTile then outBytes p (finishVector profile p v) else accBytes v

/-- R146: what the south edge writes for the vectors of a pass. -/
def State.southEdge (s : State) (a profile : Nat) (p : ImagePass) (vs : List AccVec) : State :=
  let s := (p.vectors.zip vs).foldl (fun s e => s.writeStore a e.1.out (southBytes profile p e.2)) s
  if p.lastTile then s.countRescaled a (vs.flatMap (finishVector profile p)) else s

/-- The vectors of a pass in order, each from the accumulator vector that the previous tile wrote. -/
def passVectors (profile : Nat) (p : ImagePass) (w : Tile) (gang : Nat) (op : PassOp) (store : Memory) : List AccVec :=
  p.vectors.zipIdx.map (fun e =>
    let prev := readAcc (store.read e.1.acc 576)
    let vec := vecOf p store e.1
    withFaults op e.2
      (if isFloat p.actFmt then floatVector profile p w gang e.2 prev vec else intVector p w gang e.2 prev vec))

/-- The reads of the operand store that a pass makes. -/
def passReads (p : ImagePass) (gang : Nat) : List (Nat × Nat) :=
  (p.weights, min p.rows (tileDepth p.actFmt) * storedBytes p.weightFmt 128) ::
    p.vectors.flatMap (fun v =>
      (v.act, storedBytes p.actFmt p.rows) :: (if firstTile p gang then [] else [(v.acc, 576)]))

/-- R144 to R156: the vectors of a pass cross the array. The answer is the index of the first vector whose comparison
fails. -/
def State.multiply (s : State) (a : Nat) (j : Job) (p : ImagePass) (op : PassOp) : Option Nat × State :=
  let profile := s.profileOf j
  let float := isFloat p.actFmt
  let bound := if p.relBound == 0 then s.numAt Adr.checkRelBoundDefault else p.relBound
  let s := ((s.countSwap a j p op).loadShadow a p).copyShadow a
  let x := s.arrAt a
  let w := tileOf p x.store
  let all := passVectors profile p w j.arrays.length op x.store
  let results := all.map (compareVector profile float bound)
  let first := results.findIdx? (· == .fails)
  let m := match first with
    | none => p.vectors.length
    | some f => min p.vectors.length (f + 258 / issueInterval p.actFmt p.weightFmt + 1)
  let results := results.take m
  let s := (s.bump (Adr.passes a)).bumpBy (Adr.vectors a) m
  let s := s.bumpBy (Adr.activeCellCycles a) (16384 * m)
  let gated := ((p.vectors.take m).zipIdx).map (fun e => gatedIn profile p w e.2 (vecOf p x.store e.1))
  let s := s.countGated a (p.actFmt == 0) (sumNat gated)
  let stalls := stallCycles op.contention
  let s := if stalls == 0 then s else s.bumpBy (Adr.operandStallCycles a) stalls
  let skipped := countIf (· == .skipped) results
  let failed := countIf (· == .fails) results
  let s := if skipped == 0 then s else s.bumpBy (Adr.checkSkipped a) skipped
  let s := if failed == 0 then s else s.bumpBy (Adr.checkMismatches a) failed
  let s := s.southEdge a profile p (all.take m)
  (first, s.setArr a (fun y => { y with
    swapFirst := false, prevM := p.vectors.length, prevI := issueInterval p.actFmt p.weightFmt,
    prevPair := (p.actFmt, p.weightFmt), prevOutFmt := outFmtOf j.body p, valid := first.isNone }))

/-! ## A reduction split over a gang (R222) -/

/-- The partial sums of one column over the gang, combined: exact modulo 2^32, or in FP32 in the order of completion
(fast mode) or in the tree over logical array index (replay mode). -/
def combineColumn (profile replayProfile : Nat) (replay float : Bool) (xs : List Nat) : Nat :=
  if !float then sumNat xs % 2 ^ 32
  else
    let vs := xs.map (readFp32 profile)
    fp32Bits (if replay then replaySum profile replayProfile vs else
      match vs with
      | [] => Fp.zero
      | v :: rest => rest.foldl (addFp32 profile) v)

/-- R222: the partial sums that the arrays of the gang hold at a vector's place are combined and written. Logical arrays
are numbered by ascending physical number; `order` is the order of completion of a fast job. -/
def State.combine (s : State) (a : Nat) (j : Job) (p : ImagePass) (op : PassOp) : State :=
  let profile := s.profileOf j
  let order := op.order.map (·.val)
  let arrays := if !j.replay && order.isPerm j.arrays then order else j.arrays
  let column (get : AccVec → Nat) (v : VectorAt) : Nat :=
    combineColumn profile (s.replayOf j) j.replay (isFloat p.actFmt)
      (arrays.map (fun b => get (readAcc ((s.arrAt b).store.read v.acc 576))))
  let vs := p.vectors.map (fun v =>
    { out := (List.range 128).map (fun i => column (fun w => nth w.out i 0) v), c := column (·.c) v, g := column (·.g) v : AccVec })
  s.southEdge a profile p vs

/-- R222: whether a pass of a job runs on an array: a K tile of a split reduction of a replay job on logical array
t mod G, a combination on the first array of the gang. -/
def placedOn (j : Job) (p : ImagePass) (a : Nat) : Bool :=
  if p.combine then j.arrays.head? == some a
  else !(p.split && j.replay) || j.arrays[p.kTile % max 1 j.arrays.length]? == some a

/-! ## The pass (R144, R156) -/

/-- The running job on an array, past its guard step (R261). -/
def State.jobOn (s : State) (a : Nat) : Option (Nat × Job) :=
  match s.holder? a with
  | some (q, j) => if j.phase == .running && j.guard.isNone && j.ended.isNone then some (q, j) else none
  | none => none

/-- The running job on an array and the pass of its image that a command names, where the array takes that pass
(R127, R144, R222). -/
def State.passOn (s : State) (a : Nat) (op : PassOp) : Option (Nat × Job × ImagePass) :=
  match s.jobOn a with
  | none => none
  | some (q, j) =>
    match j.body.passes[op.passIndex]? with
    | none => none
    | some p =>
      if pairListed p.actFmt p.weightFmt && 1 ≤ p.vectors.length && p.vectors.length ≤ 65536 && placedOn j p a then
        some (q, j, p)
      else none

/-- R156: the array work of a pass, once its transfers in have ended; a failing vector is a fault on the array. -/
def State.arrayWork (s : State) (a q : Nat) (j : Job) (p : ImagePass) (op : PassOp) : Gw :=
  if p.combine then { state := s.combine a j p op, ok := true }
  else
    let g := s.readStoreMet a (passReads p j.arrays.length)
    if !g.ok then g
    else
      match g.state.multiply a j p op with
      | (none, s) => { state := s, ok := true }
      | (some m, s) =>
        { state := s.faultOnArray a (s.classOf q) 2 0x10 op.passIndex (some op.passIndex) (some m), ok := false }

/-- R142, R144, R175: a pass of the job on an array, with its transfers through the fabric port; the job has then
reached the next pass of its image. -/
def State.runPass (s : State) (a q : Nat) (j : Job) (p : ImagePass) (op : PassOp) : State :=
  let g := State.moves (fun s m => s.moveIn a q j m) s p.loads
  let g := if g.ok then g.state.arrayWork a q j p op else g
  let g := if g.ok then State.moves (fun s m => s.moveOut a q j m) g.state p.stores else g
  (g.state.setJob q j.submitSeq (fun k => { k with offset := max k.offset (op.passIndex + 1) })).dispatch

/-- R144: a pass; not due where no job that has such a pass runs on the array. -/
def doPass (a : Fin 8) (op : PassOp) (s : State) : State :=
  let s := s.advanceCharged op.t
  match s.passOn a.val op with
  | none => s
  | some (q, j, p) => s.runPass a.val q j p op

def execPass (a : Fin 8) (op : PassOp) (s : State) : Host.Outcome State Fault Refusal := .next (doPass a op s)

/-! ## Vector units (R157, R158) -/

/-- The word in lane register `k` (register number times 512 plus lane): 0 where none is listed (DESIGN CHOICE, log 33). -/
def laneWord : List (Nat × Nat) → Nat → Nat
  | [], _ => 0
  | (a, w) :: r, k => if k < a then 0 else if k == a then w else laneWord r k

/-- A word put into a lane register, in rising order and without zeros. -/
def putLane : List (Nat × Nat) → Nat → Nat → List (Nat × Nat)
  | [], k, w => if w == 0 then [] else [(k, w)]
  | (a, x) :: r, k, w =>
    if k < a then (if w == 0 then (a, x) :: r else (k, w) :: (a, x) :: r)
    else if k == a then (if w == 0 then r else (k, w) :: r)
    else (a, x) :: putLane r k w

/-- Words put into lane registers from `k` on. -/
def putLanes (r : List (Nat × Nat)) : Nat → List Nat → List (Nat × Nat)
  | _, [] => r
  | k, w :: ws => putLanes (putLane r k w) (k + 1) ws

/-- A profile under which no FP32 value is flushed: a load converts exactly where FP32 holds the value (R126, R157). -/
def loadProfile (profile : Nat) : Nat := setBit profile 1 true

/-- R126, R157: an element as a load brings it into FP32. -/
def loadFp (profile c x : Nat) : Fp := roundFp32 (loadProfile profile) (operand profile c x)

/-- The elements of a vector at a place, in FP32. -/
def Arr.vector (x : Arr) (profile c n : Nat) (p : VecPlace) : List Fp :=
  match p with
  | .store a => (unpackElems c n (x.store.read a (storedBytes c n))).map (loadFp profile c)
  | .lanes r => (List.range n).map (fun i => readFp32 profile (laneWord x.lanes (512 * r.val + i)))

/-- FP32 results put at a place: converted to the store format in the operand store (R126), as they are in the lanes. -/
def State.putVector (s : State) (a c : Nat) (p : VecPlace) (ys : List Fp) : State :=
  match p with
  | .store x => s.writeStore a x (packElems c (ys.map (convertTo c)))
  | .lanes r => s.setArr a (fun y => { y with lanes := putLanes y.lanes (512 * r.val) (ys.map fp32Bits) })

/-- An open FP32 result of a vector unit (log 8). -/
def openResult (code rev : Nat) (xs : List Fp) : Fp := fp32.decode (Config.vecOpen code rev (xs.map fp32Bits) % 2 ^ 32)

/-- Larger or smaller of two values; of a NaN the manual states no result. -/
def fpMax (rev : Nat) (x y : Fp) : Fp :=
  if x.isNan || y.isNan then openResult 0 rev [x, y] else if x.lt y then y else x
def fpMin (rev : Nat) (x y : Fp) : Fp :=
  if x.isNan || y.isNan then openResult 1 rev [x, y] else if y.lt x then y else x

/-- R157: one lane of an element-wise operation or activation; none for an operation over whole vectors. Every result
follows the profile's rule for subnormals (R139). -/
def laneOp (kind : Sys2Proof.VecKind) (profile rev : Nat) (x y z lo hi : Fp) : Option Fp :=
  match kind with
  | .add => some (addFp32 profile x y)
  | .sub => some (addFp32 profile x y.neg)
  | .mul => some (mulFp32 profile x y)
  | .fma => some (roundFp32 profile (fmaFp32 profile z x y))
  | .max => some (roundFp32 profile (fpMax rev x y))
  | .min => some (roundFp32 profile (fpMin rev x y))
  | .rectifier => some (roundFp32 profile (fpMax rev x Fp.zero))
  | .clamp => some (roundFp32 profile (fpMin rev (fpMax rev x lo) hi))
  | .sigmoid => some (transcendental profile 0 rev x)
  | .tanh => some (transcendental profile 1 rev x)
  | .gelu => some (transcendental profile 2 rev x)
  | .exp => some (transcendental profile 3 rev x)
  | .log => some (transcendental profile 4 rev x)
  | .reciprocal => some (transcendental profile 5 rev x)
  | .rsqrt => some (transcendental profile 6 rev x)
  | .layerNorm | .rmsNorm | .softmax | .sgdMomentum | .adamDecoupled => none

/-- R157, R158: softmax: the maximum subtracted, exp, a pairwise sum, and the reciprocal of the sum. -/
def softmax (profile rev : Nat) (xs : List Fp) : List Fp :=
  let top := treeFold (fpMax rev) Fp.zero 32 xs
  let es := xs.map (fun x => transcendental profile 3 rev (addFp32 profile x top.neg))
  let r := transcendental profile 5 rev (treeSum profile es)
  es.map (fun e => mulFp32 profile e r)

/-- R157, R158: a normalisation reduces by the pairwise trees of the elements and of their squares; the formula of one
element is not stated: an open function of it, of the two sums, of the count and of the parameters (log 8). -/
def normalise (code profile rev : Nat) (params xs : List Fp) : List Fp :=
  let sum := treeSum profile xs
  let squares := treeSum profile (xs.map (fun x => mulFp32 profile x x))
  xs.map (fun x => roundFp32 profile (openResult code rev ([x, sum, squares, Fp.ofInt xs.length] ++ params)))

/-- Operations that need the training units (R157). -/
def trainingOp (kind : Sys2Proof.VecKind) : Bool := kind == .sgdMomentum || kind == .adamDecoupled

/-- R157: one output of an optimiser step (0 the master weight, then the state it keeps): its formula is not stated, an
open function of the weight, the gradient, the state and the parameters (log 8). -/
def optimised (code out profile rev : Nat) (params : List Fp) (w g : Fp) (moments : List Fp) : Fp :=
  roundFp32 profile (openResult code rev ([Fp.ofInt out, w, g] ++ moments ++ params))

/-- R157: an optimiser step: FP32 master weights at `x` become those at `dest` under the gradients at `y`, and the FP32
state at `moments` is renewed in place. -/
def State.optimise (s : State) (a profile rev code : Nat) (op : VecOp) (params : List Fp) : State :=
  let x := s.arrAt a
  let at_ (l : List Fp) (i : Nat) : Fp := nth l i Fp.zero
  let ws := x.vector profile 9 op.count op.x
  let gs := x.vector profile op.loadFmt op.count op.y
  let ms := op.moments.map (x.vector profile 9 op.count)
  let result (out : Nat) : List Fp := (List.range op.count).map (fun i =>
    optimised code out profile rev params (at_ ws i) (at_ gs i) (ms.map (fun m => at_ m i)))
  let s := s.putVector a 9 op.dest (result 0)
  (op.moments.zipIdx).foldl (fun s e => s.putVector a 9 e.1 (result (e.2 + 1))) s

/-- R157: a vector operation of a job. -/
def State.runVector (s : State) (a : Nat) (j : Job) (op : VecOp) : State :=
  let profile := s.profileOf j
  let rev := s.arithRevOf j
  let x := s.arrAt a
  let xs := x.vector profile op.loadFmt op.count op.x
  let ys := x.vector profile op.loadFmt op.count op.y
  let zs := x.vector profile op.loadFmt op.count op.z
  let ps := op.params.map (readFp32 profile)
  let at_ (l : List Fp) (i : Nat) : Fp := nth l i Fp.zero
  match op.kind with
  | .softmax => s.putVector a op.storeFmt op.dest (softmax profile rev xs)
  | .layerNorm => s.putVector a op.storeFmt op.dest (normalise 2 profile rev ps xs)
  | .rmsNorm => s.putVector a op.storeFmt op.dest (normalise 3 profile rev ps xs)
  | .sgdMomentum => s.optimise a profile rev 4 op ps
  | .adamDecoupled => s.optimise a profile rev 5 op ps
  | .add | .sub | .mul | .fma | .max | .min | .rectifier | .clamp | .sigmoid | .tanh | .gelu | .exp | .log
  | .reciprocal | .rsqrt =>
    let out := xs.zipIdx.filterMap (fun e => laneOp op.kind profile rev e.1 (at_ ys e.2) (at_ zs e.2) (at_ ps 0) (at_ ps 1))
    s.putVector a op.storeFmt op.dest out

/-- R128: whether a part has the formats and the unit of a vector operation: an optimiser step takes E4M3, E5M2, FP16
or BF16 gradients and needs the training units. -/
def vecPresent (op : VecOp) (v : Variant) : Bool :=
  hasFormat v op.loadFmt && hasFormat v op.storeFmt &&
    (!(trainingOp op.kind) || (v.training && 5 ≤ op.loadFmt && op.loadFmt ≤ 8))

/-- The reads of the operand store that a vector operation makes. -/
def vecReads (op : VecOp) : List (Nat × Nat) :=
  [(op.x, if trainingOp op.kind then 9 else op.loadFmt), (op.y, op.loadFmt), (op.z, op.loadFmt)].filterMap (fun e =>
    match e.1 with
    | .store a => some (a, storedBytes e.2 op.count)
    | .lanes _ => none)

/-- R157: a vector operation; not due where no job runs on the array, or where a format or the unit for it is absent. -/
def doVectorOp (a : Fin 8) (op : VecOp) (s : State) : State :=
  let s := s.advanceCharged op.t
  match s.jobOn a.val with
  | none => s
  | some (_, j) =>
    if !(vecPresent op s.part.variant) then s
    else
      let g := s.readStoreMet a.val (vecReads op)
      if g.ok then g.state.runVector a.val j op else g.state.dispatch

def execVectorOp (a : Fin 8) (op : VecOp) (s : State) : Host.Outcome State Fault Refusal :=
  .next (doVectorOp a op s)

/-! ## The graph walker (R159 to R161) -/

/-- One row of a gather (R159, R161). -/
def State.gatherRow (s : State) (q : Nat) (j : Job) (op : GatherOp) (i idx : Nat) : Gw :=
  let dest := op.dest + i * op.rowBytes
  if op.rowBytes == 0 then { state := s, ok := true }
  else
    let g : Bytes × Gw :=
      if idx < op.rows then s.gwRead 19 q j (op.table + idx * op.rowBytes) op.rowBytes
      else (List.replicate op.rowBytes 0, { state := s.bump Adr.gwIndexRange, ok := true })
    if !g.2.ok then g.2
    else
      let w := g.2.state.gwWrite 19 q j dest g.1
      if w.ok then { w with state := w.state.bumpBy Adr.gwGatherBytes op.rowBytes } else w

/-- The rows of a gather in order. -/
def gatherRows (q : Nat) (j : Job) (op : GatherOp) : Nat → List Nat → State → State
  | _, [], s => s
  | i, idx :: rest, s =>
    let g := s.gatherRow q j op i idx
    if g.ok then gatherRows q j op (i + 1) rest g.state else g.state

/-- The running job of a queue, past its guard step (R261). -/
def State.jobRunning (s : State) (q : Nat) : Option Job :=
  match s.running? q with
  | some j => if j.phase == .running && j.guard.isNone then some j else none
  | none => none

/-- R159: indexed gather. -/
def doIndexedGather (q : Fin 32) (op : GatherOp) (s : State) : State :=
  let s := s.advanceCharged op.t
  match s.jobRunning q.val with
  | none => s
  | some j => (gatherRows q.val j op 0 op.indices s).dispatch

def execIndexedGather (q : Fin 32) (op : GatherOp) (s : State) : Host.Outcome State Fault Refusal :=
  .next (doIndexedGather q op s)

/-- R159, R160, R222: the reduction of a segment; of no element only the sum is stated, and of a NaN no
maximum: `open_`. Replay jobs sum in the fixed tree, fast jobs in ascending order (log 35). -/
def reduceSegment (profile : Nat) (replay : Option Nat) (kind : Sys2Proof.Reduce) (elem : Sys2Proof.GwElem) (open_ : Nat)
    (xs : List Nat) : Nat :=
  match elem with
  | .int32 =>
    let vs := xs.map (toSigned 32)
    (match kind, vs with
     | .sum, vs => ofSigned 32 (vs.foldl (· + ·) 0)
     | .max, v :: vs => ofSigned 32 (vs.foldl max v)
     | .min, v :: vs => ofSigned 32 (vs.foldl min v)
     | _, [] => open_)
  | .fp32 =>
    let vs := xs.map (readFp32 profile)
    match kind, vs with
    | .sum, [] => 0
    | .sum, v :: vs =>
      fp32Bits (match replay with
        | some r => replaySum profile r (v :: vs)
        | none => vs.foldl (addFp32 profile) v)
    | .max, v :: vs => fp32Bits (vs.foldl (fpMax 0) v)
    | .min, v :: vs => fp32Bits (vs.foldl (fpMin 0) v)
    | _, [] => open_

/-- The REPLAY_PROFILE whose trees a job's sums take: none for a fast job (R222). -/
def State.replayTrees (s : State) (j : Job) : Option Nat := if j.replay then some (s.replayOf j) else none

/-- One segment `[from, upto)` of a segment reduce. -/
def State.segmentStep (s : State) (q : Nat) (j : Job) (op : SegmentOp) (i from_ upto : Nat) : Gw :=
  let stop := min upto op.count
  let lost := upto - max from_ op.count
  let s := if lost == 0 then s else s.bumpBy Adr.gwIndexRange lost
  let (hole, s) := s.takeFree (2 ^ 32)
  let n := stop - from_
  let g : Bytes × Gw := if n == 0 then ([], { state := s, ok := true }) else s.gwRead 19 q j (op.src + 4 * from_) (4 * n)
  if !g.2.ok then g.2
  else
    let xs := (List.range n).map (fun k => field g.1 (4 * k) 4)
    let s := g.2.state
    let v := reduceSegment (s.profileOf j) (s.replayTrees j) op.kind op.elem hole xs
    let s := if n == 0 then s else s.bumpBy Adr.gwReducedElements n
    s.gwWrite 19 q j (op.dest + 4 * i) (leBytes 4 v)

/-- The segments between consecutive offsets. -/
def segmentSteps (q : Nat) (j : Job) (op : SegmentOp) : Nat → List Nat → State → State
  | i, a :: b :: rest, s =>
    let g := s.segmentStep q j op i a b
    if g.ok then segmentSteps q j op (i + 1) (b :: rest) g.state else g.state
  | _, _, s => s

/-- R159: segment reduce. -/
def doSegmentReduce (q : Fin 32) (op : SegmentOp) (s : State) : State :=
  let s := s.advanceCharged op.t
  match s.jobRunning q.val with
  | none => s
  | some j => (segmentSteps q.val j op 0 op.offsets s).dispatch

def execSegmentReduce (q : Fin 32) (op : SegmentOp) (s : State) : Host.Outcome State Fault Refusal :=
  .next (doSegmentReduce q op s)

/-- One addition to an element (R160). -/
def addElem (profile : Nat) (elem : Sys2Proof.GwElem) (old x : Nat) : Nat :=
  match elem with
  | .int32 => (old + x) % 2 ^ 32
  | .fp32 => fp32Bits (addFp32 profile (readFp32 profile old) (readFp32 profile x))

/-- The sum of the contributions to one destination in replay mode (R160). -/
def treeElem (profile replayProfile : Nat) (elem : Sys2Proof.GwElem) (xs : List Nat) : Nat :=
  match elem with
  | .int32 => sumNat xs % 2 ^ 32
  | .fp32 => fp32Bits (replaySum profile replayProfile (xs.map (readFp32 profile)))

/-- One addition into memory by the graph walker; `k` contributions count. -/
def State.atomicStep (s : State) (q : Nat) (j : Job) (op : AtomicOp) (idx x k : Nat) : Gw :=
  let a := op.base + 4 * idx
  let g := s.gwRead 19 q j a 4
  if !g.2.ok then g.2
  else
    let s := g.2.state
    let w := s.gwWrite 19 q j a (leBytes 4 (addElem (s.profileOf j) op.elem (leNat g.1) x))
    if w.ok then { w with state := w.state.bumpBy Adr.gwAtomicAdds k } else w

/-- The additions of an operation: (index, value, contributions) in order. -/
def atomicSteps (q : Nat) (j : Job) (op : AtomicOp) : List (Nat × Nat × Nat) → State → State
  | [], s => s
  | (idx, x, k) :: rest, s =>
    let g := s.atomicStep q j op idx x k
    if g.ok then atomicSteps q j op rest g.state else g.state

/-- A contribution put among others by source position. -/
def insertContribution (c : Contribution) : List Contribution → List Contribution
  | [] => [c]
  | x :: xs => if c.position < x.position then c :: x :: xs else x :: insertContribution c xs

/-- Contributions in ascending source position. -/
def byPosition (cs : List Contribution) : List Contribution := cs.foldl (fun acc c => insertContribution c acc) []

/-- R160: the additions a job makes: each contribution in arrival order, or one tree sum a destination over ascending
source position. -/
def atomicPlan (profile : Nat) (replay : Option Nat) (op : AtomicOp) : List (Nat × Nat × Nat) :=
  let inside := op.contributions.filter (fun c => c.index < op.count)
  match replay with
  | none => inside.map (fun c => (c.index, c.value, 1))
  | some r =>
    let sorted := byPosition inside
    (sorted.map (·.index)).dedup.map (fun i =>
      let xs := (sorted.filter (fun c => c.index == i)).map (·.value)
      (i, treeElem profile r op.elem xs, xs.length))

/-- R159: whether the elements of an atomic add lie in the chart store, the one place it adds into. -/
def atomicInChart (op : AtomicOp) (v : Variant) : Bool :=
  chartBase ≤ op.base && op.base + 4 * op.count ≤ chartBase + v.chartKib * 1024

/-- R159 to R161: atomic add; one whose elements do not lie in the chart store adds nothing (log 35). -/
def doAtomicAdd (q : Fin 32) (op : AtomicOp) (s : State) : State :=
  let s := s.advanceCharged op.t
  match s.jobRunning q.val with
  | none => s
  | some j =>
    if !(atomicInChart op s.part.variant) then s
    else
      let lost := (op.contributions.filter (fun c => op.count ≤ c.index)).length
      let s := if lost == 0 then s else s.bumpBy Adr.gwIndexRange lost
      (atomicSteps q.val j op (atomicPlan (s.profileOf j) (s.replayTrees j) op) s).dispatch

def execAtomicAdd (q : Fin 32) (op : AtomicOp) (s : State) : Host.Outcome State Fault Refusal :=
  .next (doAtomicAdd q op s)

end Sys2Proof.Machine
end

