-- ==== Sys2Proof/Machine/Binnacle.lean ====
section
/-! DEFINITION. Machine/Binnacle: the meanings of the binnacle's own steps: monitors (R262), the binnacle's
lockstep, watchdog and start-up (R264, R368, R372), the commit of a record and its persistent copy
(R266, R278), and the safety message (R270, R271). -/

namespace Sys2Proof.Machine

/-- Number of a clock domain, in the order of DOMAIN_CLOCK_KHZ (R380; DEDUCED, log 25). -/
def domainCode (d : Sys2Proof.Domain) : Nat :=
  match d with
  | .aon => 0 | .ctl => 1 | .sense => 2 | .bin => 3 | .host => 4 | .ingest => 5 | .fab => 6 | .array => 7
  | .mem => 8

/-- Number of a core rail, in the order of R262 (DEDUCED, log 25). -/
def railCode (r : Sys2Proof.Rail) : Nat :=
  match r with
  | .array => 0 | .logic => 1 | .sram => 2

/-- R358: whether a clock domain runs in the present power state. Boot counts as STANDBY. -/
def State.domainRuns (s : State) (d : Sys2Proof.Domain) : Bool :=
  match d with
  | .aon => true
  | .ctl | .sense | .bin | .host => !s.dormant
  | .ingest | .fab | .mem => s.power.state == .ready || s.power.state == .run
  | .array => s.arrs.any (·.powered)

/-- Whether a core rail is monitored: VDD_ARR may be absent while no array is powered (R397). -/
def State.railWatched (s : State) (r : Sys2Proof.Rail) : Bool :=
  !s.dormant && (match r with | .array => s.arrs.any (·.powered) | .logic | .sram => true)

/-- R262: a clock leaves its window; one violation is one fault. -/
def doClockFault (t : Nat) (d : Sys2Proof.Domain) (s : State) : State :=
  let s := s.advance t
  if !(s.domainRuns d) || s.bin.clocks.contains d then s
  else
    let s := { s with bin := { s.bin with clocks := s.bin.clocks ++ [d] } }
    if s.dormant then s else s.raise (Detection.plain 1 7 (domainCode d) 6)

def execClockFault (t : Nat) (d : Sys2Proof.Domain) (s : State) : Host.Outcome State Fault Refusal :=
  .next (doClockFault t d s)

/-- R262: a core rail leaves its window. -/
def doVoltageFault (t : Nat) (r : Sys2Proof.Rail) (s : State) : State :=
  let s := s.advance t
  if !(s.railWatched r) || s.bin.rails.contains r then s
  else
    let s := { s with bin := { s.bin with rails := s.bin.rails ++ [r] } }
    s.raise (Detection.plain 1 8 (railCode r) 7)

def execVoltageFault (t : Nat) (r : Sys2Proof.Rail) (s : State) : Host.Outcome State Fault Refusal :=
  .next (doVoltageFault t r s)

/-- R262: a clock is inside its window again. -/
def doClockFaultCleared (t : Nat) (d : Sys2Proof.Domain) (s : State) : State :=
  let s := s.advance t
  { s with bin := { s.bin with clocks := s.bin.clocks.filter (· != d) } }

def execClockFaultCleared (t : Nat) (d : Sys2Proof.Domain) (s : State) : Host.Outcome State Fault Refusal :=
  .next (doClockFaultCleared t d s)

/-- R262: a core rail is inside its window again. -/
def doVoltageFaultCleared (t : Nat) (r : Sys2Proof.Rail) (s : State) : State :=
  let s := s.advance t
  { s with bin := { s.bin with rails := s.bin.rails.filter (· != r) } }

def execVoltageFaultCleared (t : Nat) (r : Sys2Proof.Rail) (s : State) : Host.Outcome State Fault Refusal :=
  .next (doVoltageFaultCleared t r s)

/-- R264: the binnacle's lockstep comparator fires; BIN is off in DORMANT (R358). -/
def doBinnacleLockstepMismatch (t : Nat) (s : State) : State :=
  let s := s.advance t
  if s.dormant then s else s.lockstepMismatch

def execBinnacleLockstepMismatch (t : Nat) (s : State) : Host.Outcome State Fault Refusal :=
  .next (doBinnacleLockstepMismatch t s)

/-- R368: the binnacle watchdog expires. -/
def doBinnacleWatchdog (t : Nat) (s : State) : State :=
  let s := s.advance t
  if s.dormant then s else s.binnacleReset

def execBinnacleWatchdog (t : Nat) (s : State) : Host.Outcome State Fault Refusal :=
  .next (doBinnacleWatchdog t s)

/-- R372: the self-test passes. It follows the loading of the binnacle's firmware, so that it shows in BOOTING that
a valid image was found; a boot that found none leaves it out (R376). -/
def doBinnacleStart (t : Nat) (s : State) : State :=
  let s := s.advance t
  if s.dormant || s.power.romOnly || !(s.power.binnacleOk || s.power.state == .booting) then s
  else { s with power := { s.power with binnacleOk := true } }.binnacleUp

def execBinnacleStart (t : Nat) (s : State) : Host.Outcome State Fault Refusal :=
  .next (doBinnacleStart t s)

/-- R266 steps 2 to 6 for the oldest reaction; not due while it waits for its verdict. -/
def doLogbookCommit (t : Nat) (s : State) : State :=
  let s := s.advance t
  match s.bin.reactions with
  | [] => s
  | r :: rest =>
    if r.verdictOf.isSome || s.dormant then s
    else { s with bin := { s.bin with reactions := rest } }.react r

def execLogbookCommit (t : Nat) (s : State) : Host.Outcome State Fault Refusal :=
  .next (doLogbookCommit t s)

/-- R278: one persistent copy. -/
def doPersistCopy (t : Nat) (s : State) : State := (s.advance t).copyOldest

def execPersistCopy (t : Nat) (s : State) : Host.Outcome State Fault Refusal :=
  .next (doPersistCopy t s)

/-- R271: the PERIODIC message for the tick just closed falls due SAFETY_MSG_OFFSET after the meridian that
closed it, once. -/
def doSafetyMsgPeriodic (s : State) : State :=
  match s.tick.history with
  | (_, m1) :: (n, m0) :: _ =>
    let s := s.advance (m1 + s.numAt Adr.safetyMsgOffset * 1000)
    if s.bin.described == some n || s.dormant then s
    else
      let s := s.queueMessage n 0 (s.outputValid n) s.bin.safetyInLast m0
      { s with bin := { s.bin with described := some n } }
  | _ => s

def execSafetyMsgPeriodic (s : State) : Host.Outcome State Fault Refusal := .next (doSafetyMsgPeriodic s)

/-- R270: the queued message is sent on the selected controller. The CAN FD controllers stand still during a
controller reset (R369, R371). -/
def doSafetyMsgTransmit (t : Nat) (s : State) : State :=
  let s := s.advance t
  match s.bin.message with
  | none => s
  | some b =>
    if !s.ctlRuns || s.dormant then s
    else
      let s := s.emit (.safetyFrame (s.numAt Adr.safetyCanController) (s.numAt Adr.safetyMsgId) b)
      { s with bin := { s.bin with message := none } }.bump Adr.safetyMsgSent

def execSafetyMsgTransmit (t : Nat) (s : State) : Host.Outcome State Fault Refusal :=
  .next (doSafetyMsgTransmit t s)

end Sys2Proof.Machine
end

