-- ==== Sys2Proof/Machine/Fabric.lean ====
section
/-! DEFINITION. Machine/Fabric: packets (R213 to R221): their bytes, numberings and windows, acceptance, holding and
duplicates at the destination, re-sends at the source, fabric faults, closed numberings and their reset, and the
placement signals that wait for sweeps (R236). A packet command is the arrival of a packet that its source has put on
the mesh: a packet seen for the first time is sent in the same step (DESIGN CHOICE, log 37). -/

namespace Sys2Proof.Machine

/-! ## Packets (R213, R214) -/

/-- Memory endpoints: the memory controllers and the chart store (R212). -/
def memoryEnd (e : Nat) : Bool := [0, 2, 3, 5, 8, 9, 14, 15, 18].contains e

/-- R214: sources whose packets carry no partition: dispatcher, binnacle and CTL bridge. -/
def unpartitioned (e : Nat) : Bool := [20, 21, 23].contains e

/-- The partition that a packet carries: 0 where its source has none (R214). -/
def packetPartition (p : Packet) : Nat := if unpartitioned p.src.val then 0 else p.partition.val

/-- R213: the channel that a source marks its packets with: its engine number on a copy engine, 0 elsewhere. -/
def sourceChannel (src channel : Nat) : Nat := if src == 22 then channel else 0

/-- R214: the bytes of a packet. -/
def packetBytes (src dst type : Nat) (bulk : Bool) (channel : Nat) (replay : Bool) (partition seq addr : Nat)
    (payload : Bytes) : Bytes :=
  let ctrl := 128 * b2n bulk + 16 * channel + 8 * b2n replay + partition
  let b := leBytes 1 src ++ leBytes 1 dst ++ leBytes 1 type ++ leBytes 1 ctrl ++ leBytes 2 seq ++
    leBytes 2 payload.length ++ leBytes 8 addr ++ payload
  b ++ leBytes 4 (crc32c b)

/-- The bytes of a packet of a retry buffer, the same at every send (R217). -/
def Outstanding.bytes (o : Outstanding) : Bytes :=
  let p := o.packet
  packetBytes p.src.val p.dst.val o.type p.bulk p.channel o.replay (packetPartition p) p.seq p.addr p.payload

/-- R216: the check of a packet at its destination: its length and its CRC. -/
def packetChecks (b : Bytes) : Bool :=
  let n := field b 6 2
  b.length == 20 + n && field b (16 + n) 4 == crc32c (b.take (16 + n))

/-- Whether a packet passes its check where it arrives; one that the mesh has not changed does. -/
def arrivesGood (p : Packet) : Bool :=
  match p.received with
  | none => true
  | some r => packetChecks r.bytes

/-! ## Numberings (R215) -/

/-- A numbering that has not been used: SEQ starts at 0 (DESIGN CHOICE, log 37). -/
def Numbering.new (src dst : Nat) (bulk : Bool) (channel : Nat) : Numbering :=
  { src := src, dst := dst, bulk := bulk, channel := if bulk then 0 else channel, nextSeq := 0,
    outstanding := [], expected := 0, ahead := [], held := [], closed := false, reset := none, p0 := false }

def State.numbering (s : State) (src dst : Nat) (bulk : Bool) (channel : Nat) : Numbering :=
  (s.fabric.numberings.find? (fun n => n.is src dst bulk channel)).getD (Numbering.new src dst bulk channel)

/-- A numbering changed, or entered where it has not been used before. -/
def State.setNumbering (s : State) (n : Numbering) : State :=
  let same (m : Numbering) : Bool := m.is n.src n.dst n.bulk n.channel
  { s with fabric := { s.fabric with
    numberings := if s.fabric.numberings.any same then s.fabric.numberings.map (fun m => if same m then n else m)
      else s.fabric.numberings ++ [n] } }

/-- R215: the largest number of unacknowledged packets of a class. -/
def packetWindow (bulk : Bool) : Nat := if bulk then 64 else 16

/-- Distance of one SEQ behind another, modulo 2^16 (R215). -/
def seqAfter (a b : Nat) : Nat := (a + 2 ^ 16 - b % 2 ^ 16) % 2 ^ 16

/-- R215, R217: whether a source may send a packet for the first time: it bears the next number of its numbering, and
neither their count nor the distance to the oldest unacknowledged one exceeds the window. -/
def Numbering.maySend (n : Numbering) (seq : Nat) : Bool :=
  seq == n.nextSeq && n.outstanding.length < packetWindow n.bulk &&
    n.outstanding.all (fun o => seqAfter seq o.packet.seq < packetWindow n.bulk)

/-- Whether a SEQ has been accepted at the destination (R216). -/
def Numbering.accepted (n : Numbering) (seq : Nat) : Bool :=
  2 ^ 15 ≤ seqAfter seq n.expected || n.ahead.contains (seq % 2 ^ 16)

/-- The unacknowledged packet with a SEQ, a CHANNEL_RESET among them (R217, R219). -/
def Numbering.unacked (n : Numbering) (seq : Nat) : Option Outstanding :=
  (n.outstanding ++ n.reset.toList).find? (fun o => o.packet.seq == seq)

/-- SEQs accepted ahead of a gap that has been closed. -/
def advanceExpected : Nat → Nat → List Nat → Nat × List Nat
  | 0, e, xs => (e, xs)
  | fuel + 1, e, xs => if xs.contains e then advanceExpected fuel ((e + 1) % 2 ^ 16) (xs.filter (· != e)) else (e, xs)

/-- A SEQ marked accepted. -/
def Numbering.accept (n : Numbering) (seq : Nat) : Numbering :=
  if seq == n.expected then
    let (e, xs) := advanceExpected n.ahead.length ((seq + 1) % 2 ^ 16) n.ahead
    { n with expected := e, ahead := xs }
  else { n with ahead := n.ahead ++ [seq] }

/-! ## Who sends what (R212 to R214) -/

/-- Whether the fabric carries a packet between two endpoints (R212, R358). -/
def State.meshOpen (s : State) (src dst : Nat) : Bool :=
  s.ingestRuns && s.part.variant.endpoint src && s.part.variant.endpoint dst

/-- R213: whether a source sends a packet of a type in a class on a channel: dispatcher, binnacle and CTL bridge travel
strict, arrays and the graph walker bulk, sweeps and atomic adds bulk, and memory makes no requests. -/
def classOk (type : Nat) (p : Packet) : Bool :=
  let src := p.src.val
  !(memoryEnd src) && p.channel == sourceChannel src p.channel && p.channel < 8 &&
    (!(unpartitioned src) || !p.bulk) && (src != 19 && !((List.range 8).any (fun a => arrayEndpoint a == src)) || p.bulk) &&
    (type != 5 || p.bulk) && (type != 4 || (src == 19 && p.bulk))

/-- R197, R213, R240: whether a packet that a source sends for a queue's item is one that it sends for it: of the queue's
partition, and on the channel of its copy engine. -/
def State.ownerOk (s : State) (p : Packet) : Bool :=
  match p.queue with
  | none => true
  | some q =>
    (unpartitioned p.src.val || s.partOf q.val == p.partition.val) &&
      (p.src.val != 22 || s.numAt (Adr.queueCopyEngine q.val) == p.channel)

/-- The item for which a packet is sent. -/
def State.packetOwner (s : State) (p : Packet) : Option (Nat × Nat) :=
  match p.queue with
  | none => none
  | some q => ((s.running? q.val).orElse (fun _ => s.head? q.val)).map (fun j => (q.val, j.submitSeq))

/-- The item of an unacknowledged packet. -/
def State.itemFor (s : State) (owner : Option (Nat × Nat)) : Option (Nat × Job) :=
  match owner with
  | none => none
  | some (q, seq) => (s.job? q seq).map (fun j => (q, j))

/-- R222, R224: the REPLAY bit of a packet: set for the bulk packets of a replay job, under a profile that pins their
route. -/
def State.replayBit (s : State) (p : Packet) : Bool :=
  match s.itemFor (s.packetOwner p) with
  | none => false
  | some (_, j) => p.bulk && j.replay && bitAt (s.replayOf j) 1

/-- The actor of a packet's access (R189). -/
def State.packetActor (s : State) (o : Outstanding) : Actor :=
  let plain : Actor :=
    { partition := packetPartition o.packet, unit := o.packet.src.val, unitKind := 4, queue := none, tag := none }
  match s.itemFor o.owner with
  | none => plain
  | some (q, j) => { plain with unit := q, unitKind := 5, queue := some q, tag := some j.tag }

/-! ## What endpoints do with packets -/

/-- R214, R216: an answer from endpoint `src` to endpoint `dst` that names a SEQ in ADDR. It takes the next number of its
own numbering; nothing acknowledges it, so that number holds nothing up. In a closed numbering only RESET_DONE is sent
(DESIGN CHOICE, log 37). -/
def State.answer (s : State) (type src dst : Nat) (bulk : Bool) (channel partition seq : Nat) (payload : Bytes) : State :=
  let channel := sourceChannel src channel
  let n := s.numbering src dst bulk channel
  if n.closed && type != 9 then s
  else
    let own := n.nextSeq
    let s := if n.closed then s else s.setNumbering ({ n with nextSeq := (own + 1) % 2 ^ 16 }.accept own)
    (s.bump (Adr.packetsSent src)).emit
      (.packet (packetBytes src dst type bulk channel false (if unpartitioned src then 0 else partition) own seq payload))

/-- What the access of a packet met: without a partition it is told of errors alone; an item that it was made for ends
(R189, R195). -/
def State.packetMet (s : State) (o : Outstanding) (m : Met) : State :=
  if unpartitioned o.packet.src.val then (State.uncorrectables none none none 0 m.bad (s.correct m)).2
  else
    match s.report (s.packetActor o) o.packet.addr m with
    | (none, s) => s
    | (some (cause, ref), s) =>
      match o.owner with
      | none => s
      | some (q, seq) => s.endItem q seq 0x20 cause ref 0

/-- R174: the traffic of a packet that is sent for a job is charged to its partition. -/
def State.chargePacket (s : State) (o : Outstanding) (write : Bool) (k : Nat) : State :=
  if o.owner.isSome && !(unpartitioned o.packet.src.val) then
    s.chargeAccess o.packet.partition.val write o.packet.addr k
  else s

/-- Bytes written by a packet to memory, checked for its partition where it carries one. -/
def State.packetStore (s : State) (o : Outstanding) (b : Bytes) : State :=
  let s := s.chargePacket o true b.length
  let (s, m) := if unpartitioned o.packet.src.val then s.rawStore o.packet.addr b
    else s.store o.packet.partition.val o.packet.addr b
  s.packetMet o m

/-- Bytes read by a packet from memory. -/
def State.packetLoad (s : State) (o : Outstanding) (k : Nat) : Bytes × State :=
  let s := s.chargePacket o false k
  let (b, m) := if unpartitioned o.packet.src.val then s.rawLoad o.packet.addr k
    else s.load o.packet.partition.val o.packet.addr k
  (b, s.packetMet o m)

/-- The No Snoop bit of a translated request: of the cached leaf of its page (R199), free where none is cached (log
37). -/
def State.packetNoSnoop (s : State) (p : Packet) : Bool × State :=
  match s.mem.tlb.find? (fun e => e.partition == p.partition.val && e.bus ≤ p.addr && p.addr < e.bus + e.size) with
  | some e => (p.bulk && bitAt e.leaf 7, s)
  | none =>
    if !p.bulk then (false, s)
    else
      let (x, s) := s.takeFree 2
      (x == 1, s)

/-- A WRITE that reaches HOST: a posted write to host memory, while the device may make one (R249). Relaxed Ordering
follows the queue (R242). -/
def State.packetToHost (s : State) (p : Packet) : State :=
  if !s.hostOpen then s
  else
    let relaxed := match p.queue with | some q => p.bulk && (s.queueAt q.val).relaxed | none => false
    let (noSnoop, s) := s.packetNoSnoop p
    s.emit (.hostWrite p.addr p.payload relaxed noSnoop)

/-- The lowest tag that is not in use at an engine (DESIGN CHOICE, log 36). -/
def State.freeTag (s : State) (e : Nat) : Nat :=
  let x := s.engineAt e
  ((List.range 256).find? (fun t => !(x.reads.any (fun r => r.tag == t)) && !(x.abandoned.any (fun r => r.tag == t)) &&
    !(s.fabric.reads.any (fun r => r.engine == e && r.tag == t)))).getD 0

/-- A READ_REQ that reaches HOST goes out as a PCIe read of its engine, and READ_DATA follows its completion; without
host access nothing is asked (R248). Its length has no field, so it is free, up to 256 (log 37). -/
def State.packetFromHost (s : State) (o : Outstanding) : State :=
  let p := o.packet
  if !s.hostOpen || s.fabric.reads.any (fun r => r.request.packet == p) then s
  else
    let (k, s) := s.takeFree 257
    let (noSnoop, s) := s.packetNoSnoop p
    let tag := s.freeTag p.channel
    let read : MeshRead := { engine := p.channel, tag := tag, request := o }
    let s := { s with fabric := { s.fabric with reads := s.fabric.reads ++ [read] } }
    s.emit (.hostRead (.engine p.channel) p.addr k noSnoop)

/-- The element that an ATOMIC_ADD adds to (R160): under the arithmetic of its job (R222, R226). -/
def State.packetAdd (s : State) (o : Outstanding) : State :=
  let profile := match s.itemFor o.owner with | some (_, j) => s.profileOf j | none => s.part.roundingProfile
  let (b, s) := s.packetLoad o 4
  s.packetStore o (leBytes 4 (addElem profile (if o.float then .fp32 else .int32) (leNat b)
    (leNat (o.packet.payload.take 4))))

/-- R216: what the acceptance of a packet does at its destination. The ordered write queue is applied as it is
filled (DESIGN CHOICE, log 37). Units other than memory and HOST take the data without a register of theirs
changing. -/
def State.applyPacket (s : State) (o : Outstanding) : State :=
  let p := o.packet
  match o.type with
  | 0 =>
    if p.dst.val == 4 then s.packetToHost p
    else if memoryEnd p.dst.val then s.packetStore o p.payload else s
  | 4 => if memoryEnd p.dst.val then s.packetAdd o else s
  | _ => s

/-- An answer to an unacknowledged packet, which goes back to its source. -/
def State.answerTo (s : State) (o : Outstanding) (type : Nat) (bulk : Bool) (payload : Bytes) : State :=
  let p := o.packet
  s.answer type p.dst.val p.src.val bulk p.channel (packetPartition p) p.seq payload

/-- R216: the acknowledgement of a packet. READ_DATA carries what memory holds; its length has no field in
READ_REQ, so it is free, up to 256 (log 37), and so are data of other units. Data travel in the class of their request
(DEDUCED, log 37), other answers strict. -/
def State.acknowledge (s : State) (o : Outstanding) : State :=
  let p := o.packet
  match o.type with
  | 0 | 4 => s.answerTo o 1 false []
  | 2 =>
    if p.dst.val == 4 then s.packetFromHost o
    else
      let (k, s) := s.takeFree 257
      let (b, s) := if memoryEnd p.dst.val then s.packetLoad o k else s.takeFreeBytes k
      s.answerTo o 3 p.bulk b
  | 5 => s.answerTo o 6 false []
  | _ => s

/-! ## Acceptance (R216) -/

/-- R216: whether a packet is accepted only in the order of its numbering. -/
def Outstanding.inOrder (o : Outstanding) : Bool := !o.packet.bulk || o.replay || o.type == 5

def State.numberingOf (s : State) (p : Packet) : Numbering := s.numbering p.src.val p.dst.val p.bulk p.channel

/-- A packet is accepted. -/
def State.acceptPacket (s : State) (o : Outstanding) : State :=
  let s := s.setNumbering ((s.numberingOf o.packet).accept o.packet.seq)
  (s.applyPacket o).acknowledge o

/-- Held packets whose gap is filled, at most `fuel`. -/
def State.drainHeld : Nat → Packet → State → State
  | 0, _, s => s
  | fuel + 1, p, s =>
    let n := s.numberingOf p
    match n.held.find? (fun o => o.packet.seq == n.expected) with
    | none => s
    | some o =>
      let s := s.setNumbering { n with held := n.held.filter (fun x => x.packet.seq != o.packet.seq) }
      State.drainHeld fuel p (s.acceptPacket o)

/-- R216: a duplicate is discarded and counted, and its acknowledgement sent again. -/
def State.duplicate (s : State) (o : Outstanding) : State := (s.bump (Adr.duplicates o.packet.dst.val)).acknowledge o

/-- R216: a packet that has passed its check at its destination. -/
def State.deliverPacket (s : State) (o : Outstanding) : State :=
  let p := o.packet
  let n := s.numberingOf p
  if n.accepted p.seq then s.duplicate o
  else if o.inOrder && p.seq != n.expected then
    if n.held.any (fun x => x.packet.seq == p.seq) then s else s.setNumbering { n with held := n.held ++ [o] }
  else
    let s := s.acceptPacket o
    State.drainHeld n.held.length p s

/-- R216: a packet that fails its check where it arrives is discarded and counted. -/
def State.countRefused (s : State) (p : Packet) : State :=
  match p.received with
  | none => s
  | some r => if s.part.variant.endpoint r.atEnd.val then s.bump (Adr.crcRefused r.atEnd.val) else s

/-- R216: a packet that fails its check is refused to the endpoint that its SRC field names; where that names no endpoint
of the part, no REFUSE goes out (DEDUCED, log 37). -/
def State.refusePacket (s : State) (p : Packet) : State :=
  match p.received with
  | none => s
  | some r =>
    if !(s.part.variant.endpoint r.atEnd.val) then s
    else
      let s := s.countRefused p
      if s.part.variant.endpoint (field r.bytes 0 1) then
        s.answer 7 r.atEnd.val (field r.bytes 0 1) false (bitsAt (field r.bytes 3 1) 6 4) (field r.bytes 3 1 % 4)
          (field r.bytes 4 2) []
      else s

/-! ## Placement signals (R221, R236) -/

/-- R236: the sweeps of a signal have been answered, and its word is written in the strict class. -/
def State.writeSignal (s : State) (x : PlacedSignal) : State :=
  let s := x.ends.foldl (fun s _ => s.sweep 4) s
  let s := (s.bump Adr.placementSignals).setNum (Adr.placementSignalLast x.entry) (leNat x.data)
  if x.addr == 0 || !s.ingestRuns then s
  else
    let w : Actor := { partition := x.partition, unit := 4, unitKind := 4, queue := none, tag := none }
    let (s, met) := s.store x.partition x.addr x.data
    (s.report w x.addr met).2

/-- R219, R221: whether a sweep or the word of a signal cannot be sent. -/
def State.signalClosed (s : State) (x : PlacedSignal) : Bool :=
  x.ends.any (fun d => s.closedPath 4 d true 0) || (x.addr != 0 && s.closedPath 4 (s.endpointOf x.addr) false 0)

/-- R220, R236: whether the sweeps of a signal are answered. -/
def State.signalReady (s : State) (x : PlacedSignal) : Bool := x.ends.all (s.sweepDone 4)

/-- R221, R236: the signals that wait, in order for each requester: one whose sweeps are answered takes effect, one whose
sweep cannot be sent is dropped. -/
def State.drainSignals (s : State) : State :=
  let xs := s.host.signals
  xs.foldl (fun s x =>
    if s.host.signals.any (fun y => y.requester == x.requester) || !(s.signalReady x || s.signalClosed x) then
      { s with host := { s.host with signals := s.host.signals ++ [x] } }
    else if s.signalClosed x then s
    else s.writeSignal x) { s with host := { s.host with signals := [] } }

/-! ## Fabric faults (R218, R219, R221) -/

/-- R221, R243: with the numbering of the records closed, every host-linked queue halts. -/
def State.haltForFabric (s : State) : State :=
  if !s.recordPathClosed then s
  else
    (List.range 32).foldl (fun s q =>
      if !(s.hostLinked q) then s
      else
        let halted := (s.queueAt q).state == .halted
        let s := s.setQueue q (fun y => { y with state := .halted, haltFabric := true })
        if halted then s else s.sendVector 46) s

/-- R219: CHANNEL_RESET for a numbering: strict, and it names the SEQ that comes next (in ADDR; DEDUCED, log 37). -/
def Numbering.resetPacket (n : Numbering) (p : Packet) : Packet :=
  { p with bulk := false, seq := n.nextSeq, addr := n.nextSeq, payload := [], queue := none, received := none }

/-- R218: the detection of a fabric fault. -/
def State.reportFabric (s : State) (o : Outstanding) : Nat × State :=
  let p := o.packet
  let safety := packetPartition p == 0 || o.type == 8
  let item := s.itemFor o.owner
  s.detect { Detection.plain (if safety then 1 else 2) 6 p.src.val 4 with
    part := some (packetPartition p), queue := o.owner.map (·.1), tag := item.map (fun e => e.2.tag),
    cause := if o.owner.isSome then 0x15 else 0,
    fabric := [p.src.val, p.dst.val, b2n p.bulk, p.channel, p.seq, packetPartition p] }

/-- R219, R221: every item with packets outstanding in a numbering ends; one that had ended served ends so instead. -/
def State.endOwners (s : State) (os : List Outstanding) (ref : Nat) : State :=
  os.foldl (fun s o => match o.owner with
    | some (q, seq) => (s.endItem q seq 0x20 0x15 ref 0).amendItem q seq
    | none => s) s

/-- R221: the bulk numbering of the copy engines to HOST has closed: the items of posted-ordered queues whose records wait
behind its sweep end with cause FABRIC. -/
def State.amendWaiting (s : State) : State :=
  (List.range 32).foldl (fun s q =>
    if !(s.hostLinked q) || (s.queueAt q).relaxed then s
    else ((s.queueAt q).jobs.filter (fun j => !j.standing)).foldl (fun s j => s.amendItem q j.submitSeq) s) s

/-- R218, R219: the third re-send of a packet has failed: the numbering closes and CHANNEL_RESET goes out; a
CHANNEL_RESET that fails leaves it closed. -/
def State.fabricFault (s : State) (n : Numbering) (o : Outstanding) : State :=
  let s := s.bump (Adr.fabricFaults n.src)
  let (ref, s) := s.reportFabric o
  if o.type == 8 then s.setNumbering { n with reset := none }
  else
    let reset : Outstanding :=
      { type := 8, packet := n.resetPacket o.packet, replay := false, resends := 0, sentAt := s.tick.now, float := false,
        owner := none }
    let s := s.setNumbering { n with closed := true, outstanding := [], reset := some reset }
    let s := s.setNum Adr.closedNumberings ((s.numAt Adr.closedNumberings + 1) % 2 ^ 32)
    let s := (s.bump (Adr.packetsSent n.src)).emit (.packet reset.bytes)
    let s := s.endOwners n.outstanding ref
    let s := if n.is 22 4 true 0 then s.amendWaiting else s
    s.haltForFabric.releaseHeld.drainSignals.dispatch

/-- R217: the packet with a SEQ is sent again unchanged; one that is not outstanding is ignored. -/
def State.resend (s : State) (n : Numbering) (seq : Nat) : State :=
  match n.unacked seq with
  | none => s
  | some o =>
    if 3 ≤ o.resends then s.fabricFault n o
    else
      let again (x : Outstanding) : Outstanding :=
        if x.packet.seq == seq then { x with resends := x.resends + 1, sentAt := s.tick.now } else x
      let s := s.setNumbering { n with outstanding := n.outstanding.map again, reset := n.reset.map again }
      (s.bump (Adr.resends n.src)).emit (.packet o.bytes)

/-! ## Sending (R215, R217, R219) -/

/-- A packet that its source sends for the first time joins the retry buffer and leaves. -/
def State.sendPacket (s : State) (n : Numbering) (o : Outstanding) : State :=
  let p := o.packet
  let s := s.setNumbering { n with
    outstanding := n.outstanding ++ [o], p0 := n.p0 || packetPartition p == 0, nextSeq := (p.seq + 1) % 2 ^ 16 }
  let s := (s.bump (Adr.packetsSent p.src.val)).emit (.packet o.bytes)
  if o.type == 5 then s.bump (Adr.sweeps p.src.val) else s

/-- A packet reaches its destination, or a place that the mesh has made of it. -/
def State.packetAt (s : State) (p : Packet) (o : Outstanding) : State :=
  if arrivesGood p then s.deliverPacket o else s.refusePacket p

/-- The arrival of a packet of a numbering: of the stored copy where it is unacknowledged (R217), a duplicate where its
SEQ has been accepted, and otherwise one that its source sends now, or, in a closed numbering, does not send, which
ends its job (R219). -/
def State.packetArrives (s : State) (type : Nat) (float : Bool) (p : Packet) : State :=
  if !(s.meshOpen p.src.val p.dst.val) || !(classOk type p) || !(s.ownerOk p) then s
  else
    let n := s.numberingOf p
    let o : Outstanding :=
      { type := type, packet := { p with received := none }, replay := s.replayBit p, resends := 0, sentAt := s.tick.now,
        float := float, owner := s.packetOwner p }
    match n.outstanding.find? (fun x => x.packet.seq == p.seq) with
    | some x => s.packetAt p x
    | none =>
      if n.accepted p.seq then s.packetAt p o
      else if n.closed then
        match o.owner with
        | some (q, seq) => (s.endItem q seq 0x20 0x15 0 0).dispatch
        | none => s
      else if n.maySend p.seq then (s.sendPacket n o).packetAt p o
      else s

/-- R216: an acknowledgement reaches the source of the packet it answers; what waits behind it goes on. One that fails
its check is discarded without a REFUSE. -/
def State.ackArrives (s : State) (types : List Nat) (p : Packet) (bulk : Bool) (channel : Nat) : State :=
  if !(s.meshOpen p.src.val p.dst.val) then s
  else if !(arrivesGood p) then s.countRefused p
  else
    let n := s.numbering p.dst.val p.src.val bulk channel
    let seq := p.addr % 2 ^ 16
    if n.outstanding.any (fun o => o.packet.seq == seq && types.contains o.type) then
      (s.setNumbering { n with outstanding := n.outstanding.filter (fun o => o.packet.seq != seq) }).releaseHeld.drainSignals
    else s

/-! ## The commands -/

def doFabricWrite (t : Nat) (p : Packet) (s : State) : State := (s.advanceCharged t).packetArrives 0 false p

def execFabricWrite (t : Nat) (p : Packet) (s : State) : Host.Outcome State Fault Refusal :=
  .next (doFabricWrite t p s)

def doFabricReadReq (t : Nat) (p : Packet) (s : State) : State := (s.advanceCharged t).packetArrives 2 false p

def execFabricReadReq (t : Nat) (p : Packet) (s : State) : Host.Outcome State Fault Refusal :=
  .next (doFabricReadReq t p s)

/-- Whether an element kind is FP32. -/
def isFloatElem (e : Sys2Proof.GwElem) : Bool :=
  match e with
  | .fp32 => true
  | .int32 => false

def doFabricAtomicAdd (t : Nat) (p : Packet) (elem : GwElem) (s : State) : State :=
  (s.advanceCharged t).packetArrives 4 (isFloatElem elem) p

def execFabricAtomicAdd (t : Nat) (p : Packet) (elem : GwElem) (s : State) : Host.Outcome State Fault Refusal :=
  .next (doFabricAtomicAdd t p elem s)

/-- R216: a SWEEP is a bulk packet that is accepted in order. -/
def doSweep (t : Nat) (p : Packet) (s : State) : State := (s.advanceCharged t).packetArrives 5 false p

def execSweep (t : Nat) (p : Packet) (s : State) : Host.Outcome State Fault Refusal := .next (doSweep t p s)

/-- R216: WRITE_ACK answers a WRITE or an ATOMIC_ADD. -/
def doFabricWriteAck (t : Nat) (p : Packet) (ofBulk : Bool) (ofChannel : Nat) (s : State) : State :=
  (s.advanceCharged t).ackArrives [0, 4] p ofBulk ofChannel

def execFabricWriteAck (t : Nat) (p : Packet) (ofBulk : Bool) (ofChannel : Nat) (s : State) :
    Host.Outcome State Fault Refusal :=
  .next (doFabricWriteAck t p ofBulk ofChannel s)

/-- R217: READ_DATA answers a READ_REQ; one that fails its check makes the source send the request again. -/
def doFabricReadData (t : Nat) (p : Packet) (ofBulk : Bool) (ofChannel : Nat) (s : State) : State :=
  let s := (s.advanceCharged t).ackArrives [2] p ofBulk ofChannel
  let n := s.numbering p.dst.val p.src.val ofBulk ofChannel
  let seq := p.addr % 2 ^ 16
  if arrivesGood p || !(s.meshOpen p.src.val p.dst.val) || !((n.unacked seq).any (fun o => o.type == 2)) then s
  else s.resend n seq

def execFabricReadData (t : Nat) (p : Packet) (ofBulk : Bool) (ofChannel : Nat) (s : State) :
    Host.Outcome State Fault Refusal :=
  .next (doFabricReadData t p ofBulk ofChannel s)

/-- R220: SWEEP_DONE; what must follow the bulk data may then be sent. -/
def doSweepDone (t : Nat) (p : Packet) (s : State) : State := (s.advanceCharged t).ackArrives [5] p true 0

def execSweepDone (t : Nat) (p : Packet) (s : State) : Host.Outcome State Fault Refusal := .next (doSweepDone t p s)

/-- R217: a REFUSE reaches the source of the packet it names. -/
def doRefuse (t : Nat) (p : Packet) (ofBulk : Bool) (ofChannel : Nat) (s : State) : State :=
  let s := s.advanceCharged t
  if !(s.meshOpen p.src.val p.dst.val) then s
  else if !(arrivesGood p) then s.refusePacket p
  else s.resend (s.numbering p.dst.val p.src.val ofBulk ofChannel) (p.addr % 2 ^ 16)

def execRefuse (t : Nat) (p : Packet) (ofBulk : Bool) (ofChannel : Nat) (s : State) :
    Host.Outcome State Fault Refusal :=
  .next (doRefuse t p ofBulk ofChannel s)

/-- R217: no acknowledgement within ACK_TIMEOUT of a send. -/
def doAckTimeout (t : Nat) (src dst : Fin 24) (bulk : Bool) (channel seq : Nat) (s : State) : State :=
  let s := s.advanceCharged t
  let n := s.numbering src.val dst.val bulk channel
  match n.unacked seq with
  | none => s
  | some o =>
    if !(s.meshOpen src.val dst.val) || s.tick.now < o.sentAt + s.numAt Adr.ackTimeout then s
    else (s.bump (Adr.ackTimeouts src.val)).resend n seq

def execAckTimeout (t : Nat) (src dst : Fin 24) (bulk : Bool) (channel seq : Nat) (s : State) :
    Host.Outcome State Fault Refusal :=
  .next (doAckTimeout t src dst bulk channel seq s)

/-- R219: CHANNEL_RESET reaches the destination of a closed numbering: held packets are discarded, the next SEQ
is the one it names, and RESET_DONE answers. -/
def doChannelReset (t : Nat) (p : Packet) (ofBulk : Bool) (ofChannel : Nat) (s : State) : State :=
  let s := s.advanceCharged t
  let n := s.numbering p.src.val p.dst.val ofBulk ofChannel
  match n.reset with
  | none => s
  | some o =>
    if !(s.meshOpen p.src.val p.dst.val) then s
    else if !(arrivesGood p) then s.refusePacket p
    else
      let s := s.setNumbering { n with held := [], ahead := [], expected := o.packet.addr }
      s.answerTo o 9 false []

def execChannelReset (t : Nat) (p : Packet) (ofBulk : Bool) (ofChannel : Nat) (s : State) :
    Host.Outcome State Fault Refusal :=
  .next (doChannelReset t p ofBulk ofChannel s)

/-- R219: RESET_DONE reopens the numbering at its source. -/
def doResetDone (t : Nat) (p : Packet) (ofBulk : Bool) (ofChannel : Nat) (s : State) : State :=
  let s := s.advanceCharged t
  let n := s.numbering p.dst.val p.src.val ofBulk ofChannel
  if !(s.meshOpen p.src.val p.dst.val) then s
  else if !(arrivesGood p) then s.countRefused p
  else if n.reset.any (fun o => o.packet.seq == p.addr % 2 ^ 16) then s.setNumbering { n with closed := false, reset := none }
  else s

def execResetDone (t : Nat) (p : Packet) (ofBulk : Bool) (ofChannel : Nat) (s : State) :
    Host.Outcome State Fault Refusal :=
  .next (doResetDone t p ofBulk ofChannel s)

end Sys2Proof.Machine
end

