-- ==== Sys2Proof/Machine/Owner.lean ====
section
/-! DEFINITION. Machine/Owner: changes of ownership that several commands share (R35 to R43, R51). -/

namespace Sys2Proof.Machine

def State.setOwn (s : State) (f : Own → Own) : State := { s with own := f s.own }

/-- R39: LEASE_REMAINING becomes LEASE_TICKS. -/
def State.setLease (s : State) : State := s.setOwn (fun o => { o with lease := s.numAt Adr.leaseTicks })

/-- R51: whether a block transfer is in progress on a port: its last segment has not been seen. -/
def PortState.busy (p : PortState) : Bool :=
  match p.transfer with
  | none => false
  | some x => !x.finished

/-- R51: the block transfer in progress on a port, if any, is discarded and counted; its later segments are
refused with `code`. -/
def State.discardTransfer (s : State) (p : Sys2Proof.Port) (code : Nat) : State :=
  if (s.portAt p).busy then
    (s.setPort p (fun x => { x with transfer := none, discarded := some code })).bump
      (Adr.transfersDiscarded p.idx)
  else s

/-- R53: event data of OWNER_CHANGED. -/
def State.ownerData (s : State) (p : Sys2Proof.Port) (nonce : Nat) : Bytes :=
  leBytes 1 p.code ++ [0, 0, 0] ++ leBytes 4 nonce ++ leBytes 1 (s.numAt Adr.leaseTicks)

/-- R37, R42: a port becomes the owner; a transfer of the former owner is discarded (R51). -/
def State.giveOwnership (s : State) (p : Sys2Proof.Port) (nonce : Nat) : State :=
  let s := match s.own.owner with | some old => s.discardTransfer old 0x0605 | none => s
  let s := s.setOwn (fun o => { o with
    state := .owned, owner := some p, nonce := nonce, successor := none, deadline := 0, claims := [], ranks := [] })
  s.setLease.notify evOwnerChanged 0 (s.ownerData p nonce)

/-- Ownership ends without a NOTIFY. -/
def State.dropOwner (s : State) (cause : Nat) : State :=
  let s := match s.own.owner with | some old => s.discardTransfer old 0x0605 | none => s
  s.setOwn (fun o => { o with
    state := .vacant, owner := none, nonce := 0, lease := 0, successor := none, deadline := 0,
    vacancyCause := cause, claims := [], ranks := [] })

/-- Code of the owner's port, 0 where there is none. -/
def State.ownerCode (s : State) : Nat := match s.own.owner with | some p => p.code | none => 0

/-- R35, R39, R43: ownership falls vacant, with NOTIFY on a list of ports. -/
def State.vacate (s : State) (cause : Nat) (ports : List Sys2Proof.Port) : State :=
  let former := s.ownerCode
  (s.dropOwner cause).notifyPorts ports evVacant 0 s.stampNow (leBytes 1 cause ++ leBytes 1 former)

/-- R41, R42, R43: a pending handover ends with the old owner, with NOTIFY HANDOVER_FAILED. -/
def State.failHandover (s : State) (ports : List Sys2Proof.Port) : State :=
  let code := match s.own.successor with | some p => p.code | none => 0
  let s := s.setOwn (fun o => { o with state := .owned, successor := none, deadline := 0 })
  s.setLease.notifyPorts ports evHandoverFailed 0 s.stampNow (leBytes 1 code)

/-- The ports other than H. -/
def portsNotH : List Sys2Proof.Port := [.C, .E, .S]

/-- R43: what a function-level reset (cause 2) or a link-down (cause 3) does to ownership. -/
def State.portHLost (s : State) (cause : Nat) : State :=
  if s.own.owner == some .H then s.vacate cause portsNotH
  else if s.own.successor == some .H then s.failHandover portsNotH
  else
    let left := s.own.claims.filter (fun c => c.port != .H)
    if s.own.state == .claiming && left.isEmpty then
      s.setOwn (fun o => { o with state := .vacant, claims := [], ranks := [] })
    else s.setOwn (fun o => { o with claims := left })

end Sys2Proof.Machine
end

