-- ==== Sys2Proof/Machine/Host.lean ====
section
/-! DEFINITION. Machine/Host: the host link (chapter 11): transfers of copy engines and FENCE, queue rings and
their doorbells, counter mirrors, placement, bus-master enable, function-level reset and the state of the link. -/

namespace Sys2Proof.Machine

/-- Whether Window A decodes: link up, function ready and in D0, Memory Space Enable set, and BAR0/BAR1 programmed
(R228, R230, R251; an address of 0 stands for none, log 15). -/
def State.windowsOpen (s : State) : Bool :=
  s.host.linkUp && s.host.functionReady && s.host.mse && !s.host.d3hot && s.host.barA != 0

/-- Whether Window B decodes: as Window A, by BAR2/BAR3 (R228, R251). -/
def State.windowBOpen (s : State) : Bool :=
  s.host.linkUp && s.host.functionReady && s.host.mse && !s.host.d3hot && s.host.barB != 0

def State.setHost (s : State) (f : HostLink → HostLink) : State := { s with host := f s.host }

/-! ## Transfers of copy engines (R205, R240) -/

/-- End of the request that starts at a transfer offset: `unit` bytes at most, within one 4 KiB page of the window
(R228; DESIGN CHOICE, log 36). -/
def Job.chunkEnd (j : Job) (unit off : Nat) : Nat :=
  let page := off + (4096 - (j.copyAddr - hostWindow + off) % 4096)
  min j.copyLen (min ((off / unit + 1) * unit) page)

/-- Whether the item still uses its engine. -/
def State.usesEngine (s : State) (q seq : Nat) : Bool :=
  match s.job? q seq with
  | none => false
  | some j => j.ended.isNone && j.phase != .parked && (j.kind == 1 || j.transfer)

/-- Whether an engine is at work for another item. -/
def State.engineBusy (s : State) (e q seq : Nat) : Bool :=
  let x := s.engineAt e
  match x.owner with
  | none => false
  | some (q1, seq1) =>
    !(q1 == q && seq1 == seq) && (!x.reads.isEmpty || x.held.isSome || s.usesEngine q1 seq1)

/-- An item ends for what its device-memory access met (R189, R195, R240). -/
def State.endFor (s : State) (q seq : Nat) (met : Option (Nat × Nat)) : State :=
  match met with
  | none => s
  | some (cause, ref) => s.endItem q seq 0x20 cause ref 0

/-- Bytes from host memory reach their place in device memory (R240), charged to the partition (R174). -/
def State.landBytes (s : State) (q : Nat) (j : Job) (off : Nat) (b : Bytes) : State :=
  let w := s.queueActor q j.tag
  let s := s.chargeAccess w.partition true (j.copyDev + off) b.length
  let (s, met) := s.store w.partition (j.copyDev + off) b
  let (e, s) := s.report w (j.copyDev + off) met
  s.endFor q j.submitSeq e

/-- Bytes issued so far by a transfer. -/
def State.moved (s : State) (q seq upto : Nat) : State := s.setJob q seq (fun k => { k with copyNext := upto })

/-- One request of a transfer from device to host. -/
def State.copyOutChunk (s : State) (q : Nat) (j : Job) (upto bus bits : Nat) : State :=
  let off := j.copyNext
  let w := s.queueActor q j.tag
  let s := s.chargeAccess w.partition false (j.copyDev + off) (upto - off)
  let (b, met) := s.load w.partition (j.copyDev + off) (upto - off)
  match s.report w (j.copyDev + off) met with
  | (some e, s) => s.endFor q j.submitSeq (some e)
  | (none, s) =>
    (s.emit (.hostWrite bus b (!j.standing && (s.queueAt q).relaxed) (bitAt bits 7))).moved q j.submitSeq upto

/-- One request of a transfer from host to device: data that host memory has returned, else a read with the
lowest free tag. -/
def State.copyInChunk (s : State) (q : Nat) (j : Job) (e upto bus page size bits : Nat) (host : Bytes) : State :=
  let off := j.copyNext
  if upto ≤ host.length then (s.landBytes q j off (slice host off (upto - off))).moved q j.submitSeq upto
  else
    let read : HostRead :=
      { tag := s.freeTag e, off := off, len := upto - off, partition := s.partOf q, page := page, size := size }
    let s := s.setEngine e (fun x => { x with reads := x.reads ++ [read] })
    (s.emit (.hostRead (.engine e) bus (upto - off) (bitAt bits 7))).moved q j.submitSeq upto

/-- R219: whether a numbering that a request of a copy engine takes is closed: to HOST, or to the device memory of the
bytes. -/
def State.copyClosed (s : State) (j : Job) (upto : Nat) : Bool :=
  s.closedPath 22 4 true 0 || s.closedPath 22 (s.endpointOf (j.copyDev + j.copyNext)) true 0 ||
    s.closedPath 22 (s.endpointOf (j.copyDev + upto - 1)) true 0

/-- R190, R240: an address of a transfer that lies outside the host window ends it. -/
def State.copyOutside (s : State) (q : Nat) (j : Job) (a : Nat) : State :=
  let (ref, s) := s.violate (s.queueActor q j.tag) 0x16 a
  s.endItem q j.submitSeq 0x20 0x16 ref 0

/-- The size that a code of Device Control names, at most what the function supports (R228; DESIGN CHOICE, log 58). -/
def requestSize (code limit : Nat) : Nat := min (128 * 2 ^ code) limit

/-- The largest request of a transfer in one direction (R228). -/
def State.requestUnit (s : State) (out : Bool) : Nat :=
  if out then requestSize s.host.maxPayload.val 256 else requestSize s.host.maxRead.val 512

/-- R205, R240: the next request of a transfer; the answer says whether to go on. -/
def State.copyStep (s : State) (q seq e : Nat) (host : Bytes) : Bool × State :=
  match (s.job? q seq).filter (fun j => j.ended.isNone) with
  | none => (false, s)
  | some j =>
    let off := j.copyNext
    if j.copyLen ≤ off || 32 ≤ (s.engineAt e).reads.length then (false, s)
    else if addressEnd ≤ j.copyAddr + off then (false, s.copyOutside q j (j.copyAddr + off))
    else
      match s.translate (s.partOf q) j.copyOut (j.copyAddr - hostWindow + off) with
      | (.fault kind level, s) =>
        let at_ := s.stampNow
        (false, s.translationFault q j
          { tick := at_.tick, offset := at_.offset, addr := j.copyAddr + off, start := j.copyAddr, resolve := 0,
            write := j.copyOut, kind := kind, level := level, engine := e })
      | (.leaf bus page size bits _, s) =>
        let upto := j.chunkEnd (s.requestUnit j.copyOut) off
        if s.copyClosed j upto then (false, s.endItem q seq 0x20 0x15 0 0)
        else
          (true, if j.copyOut then s.copyOutChunk q j upto bus bits else s.copyInChunk q j e upto bus page size bits host)

/-- Requests of a transfer until it can issue no more, at most `fuel`. -/
def State.copySteps : Nat → Nat → Nat → Nat → Bytes → State → State
  | 0, _, _, _, _, s => s
  | fuel + 1, q, seq, e, host, s =>
    match s.copyStep q seq e host with
    | (false, s) => s
    | (true, s) => State.copySteps fuel q seq e host s

/-- A transfer whose last byte is in place: a COPY is served (R240), a job's transfer is over. -/
def State.finishCopy (s : State) (q seq e : Nat) : State :=
  match (s.job? q seq).filter (fun j => j.ended.isNone) with
  | none => s
  | some j =>
    let x := s.engineAt e
    if j.copyNext < j.copyLen || !x.reads.isEmpty || x.held.isSome || (s.queueAt q).fault.isSome then s
    else
      let s := s.setEngine e (fun y => { y with owner := none })
      if j.kind == 1 then s.endItem q seq 0 0 0 0 else s.setJob q seq (fun k => { k with transfer := false })

/-- R240: the service of an item's transfer goes on, on the engine of its queue. -/
def State.serveTransfer (s : State) (q seq : Nat) (host : Bytes) : State :=
  let e := s.numAt (Adr.queueCopyEngine q)
  match (s.job? q seq).filter (fun j => j.ended.isNone) with
  | none => s
  | some j =>
    if s.engineBusy e q seq || (s.engineAt e).held.isSome || (s.queueAt q).fault.isSome then s
    else
      let s := s.setEngine e (fun x => { x with owner := some (q, seq) })
      let s := State.copySteps (j.copyLen / 128 + j.copyLen / 4096 + 2) q seq e host s
      s.finishCopy q seq e

/-- The item that a fetched descriptor made, if it has not ended. -/
def State.itemOf (s : State) (q : Nat) (x : Submission) : Option Job :=
  (s.queueAt q).jobs.find? (fun j => j.ended.isNone && !j.standing && j.kind == x.kind && j.ringIndex == x.ringIndex &&
    j.tag == x.tag)

/-- R239: a descriptor that has not been fetched before is fetched, if it is due. -/
def State.fetchOnce (s : State) (q : Nat) (d : Bytes) : State :=
  if (s.itemOf q (readDescriptor d (field d 56 4))).isSome then s else s.fetch q d Inhabited.default

/-- The item that a descriptor made, if it is the next one of its queue and may be served: in READY or RUN, in a
queue that is ACTIVE (R248, R363). -/
def State.servable (s : State) (q : Nat) (d : Bytes) (kind : Nat) : Option Job :=
  match s.itemOf q (readDescriptor d (field d 56 4)), s.head? q with
  | some j, some h =>
    if j.submitSeq == h.submitSeq && j.kind == kind && s.ingestRuns && (s.queueAt q).state == .active then some j
    else none
  | _, _ => none

/-- R240: a COPY descriptor is fetched and served. -/
def State.copyDescriptor (s : State) (q : Nat) (op : CopyOp) : State :=
  let s := s.fetchOnce q op.desc
  match s.servable q op.desc 1 with
  | none => s
  | some j => if s.hostOpen then s.serveTransfer q j.submitSeq op.hostData else s

/-- R240: whether a transfer of a job image is formed as a COPY has to be; only its JOB_TAG and its ring fields mean
nothing. -/
def imageCopyOk (d : Bytes) : Bool :=
  (slice d 26 2).all (· == 0) && (slice d 32 24).all (· == 0) && field d 24 1 ≤ 1 && field d 25 1 == 1 &&
    1 ≤ field d 28 4 && field d 28 4 ≤ 2 ^ 26 && hostWindow ≤ field d 8 8 && field d 8 8 < addressEnd

/-- R240: a transfer that the running job of a queue issues from its image: by the fields of a COPY descriptor, and under
its rules; a malformed one ends the job with OTHER_SAFETY (DESIGN CHOICE, log 38). With bus-master enable clear it ends
the job (R248). -/
def State.imageTransfer (s : State) (q : Nat) (op : CopyOp) : State :=
  let x := readDescriptor op.desc 0
  match s.running? q with
  | none => s
  | some j =>
    let same := j.copyAddr == x.copyAddr && j.copyDev == x.copyDev && j.copyLen == x.copyLen && j.copyOut == x.copyOut
    if j.phase != .running || j.kind != 0 || j.guard.isSome || (j.transfer && !same) then s
    else if !(imageCopyOk op.desc) then
      let (ref, s) := s.jobFault q j (s.classOf q) 0x0B q 5 0x16 none none
      s.endItem q j.submitSeq 0x20 0x16 ref 0
    else if !s.host.bme then s.endItem q j.submitSeq 0x22 0x20 0 0
    else
      let s := if j.transfer then s else s.setJob q j.submitSeq (fun k => { k with
        transfer := true, copyAddr := x.copyAddr, copyDev := x.copyDev, copyLen := x.copyLen, copyOut := x.copyOut,
        copyNext := 0 })
      if s.hostOpen then s.serveTransfer q j.submitSeq op.hostData else s

def doCopy (q : Fin 32) (op : CopyOp) (s : State) : State :=
  let s := s.advanceCharged op.t
  (if op.fromImage then s.imageTransfer q.val op else s.copyDescriptor q.val op).dispatch

def execCopy (q : Fin 32) (op : CopyOp) (s : State) : Host.Outcome State Fault Refusal := .next (doCopy q op s)

/-- R241: a FENCE ends once the queue's earlier data writes to host memory have been accepted at HOST, which a sweep shows;
in a posted-ordered queue it is served at once, and its record orders as any other (R242). Where the sweep cannot be sent
it ends with cause FABRIC (R221). -/
def State.serveFence (s : State) (q : Nat) (j : Job) : State :=
  let x := s.queueAt q
  if s.closedPath 22 4 true 0 then s.endItem q j.submitSeq 0x20 0x15 0 0
  else if !x.relaxed then s.endItem q j.submitSeq 0 0 0 0
  else if s.sweepDone 22 4 then (s.sweep 22).endItem q j.submitSeq 0 0 0 0 else s

def doFence (t : Nat) (q : Fin 32) (desc : Bytes) (s : State) : State :=
  let s := (s.advanceCharged t).fetchOnce q.val desc
  match s.servable q.val desc 2 with
  | none => s
  | some j => (s.serveFence q.val j).dispatch

def execFence (t : Nat) (q : Fin 32) (desc : Bytes) (s : State) : Host.Outcome State Fault Refusal :=
  .next (doFence t q desc s)

/-- The engine's transfer goes on after a read has completed. -/
def State.resumeEngine (s : State) (e : Nat) : State :=
  match (s.engineAt e).owner with
  | none => s
  | some (q, seq) => if s.usesEngine q seq && s.hostOpen then (s.serveTransfer q seq []).dispatch else s

/-- Data of an outstanding read are placed; bytes that the completion lacks read as it gives none: zeros are
not invented, the read stays until its data are there. -/
def State.completeRead (s : State) (e : Nat) (r : HostRead) (data : Bytes) : State :=
  match (s.engineAt e).owner with
  | none => s
  | some (q, seq) =>
    match s.job? q seq with
    | none => s
    | some j =>
      if data.length < r.len then s
      else
        let s := s.setEngine e (fun x => { x with reads := x.reads.filter (fun y => y.tag != r.tag) })
        (s.landBytes q j r.off (data.take r.len)).resumeEngine e

/-- R216: the completion of a read that HOST makes for a READ_REQ: READ_DATA goes back to its source. -/
def State.completeMeshRead (s : State) (r : MeshRead) (data : Bytes) : State :=
  let s := { s with fabric := { s.fabric with
    reads := s.fabric.reads.filter (fun y => !(y.engine == r.engine && y.tag == r.tag)) } }
  s.answerTo r.request 3 r.request.packet.bulk (data.take 256)

/-- R216, R240, R248: a completion for a read of a copy engine or of a READ_REQ; one for an abandoned read is accepted,
discarded and counted. -/
def doHostReadCompletion (t : Nat) (engine : Fin 8) (tag : Nat) (data : Bytes) (s : State) : State :=
  let s := s.advanceCharged t
  let x := s.engineAt engine.val
  if x.abandoned.any (fun r => r.tag == tag) then
    (s.setEngine engine.val (fun y => { y with abandoned := y.abandoned.filter (fun r => r.tag != tag) })).bump
      Adr.lateCompletionsDiscarded
  else
    match x.reads.find? (fun r => r.tag == tag), s.fabric.reads.find? (fun r => r.engine == engine.val && r.tag == tag) with
    | some r, _ => s.completeRead engine.val r data
    | none, some r => s.completeMeshRead r data
    | none, none => s

def execHostReadCompletion (t : Nat) (engine : Fin 8) (tag : Nat) (data : Bytes) (s : State) :
    Host.Outcome State Fault Refusal :=
  .next (doHostReadCompletion t engine tag data s)

/-! ## Queue blocks of Window A (R230, R231, R239, R250) -/

/-- A Window A write to a queue block. -/
def State.queueBlock (s : State) (t q : Nat) (f : Queue → Queue) : State :=
  let s := s.advance t
  if s.windowsOpen then s.setQueue q f else s

def doSqTail (t : Nat) (q : Fin 32) (value : Nat) (s : State) : State :=
  s.queueBlock t q.val (fun x => { x with sqTail := value % 2 ^ 32 })

def execSqTail (t : Nat) (q : Fin 32) (value : Nat) (s : State) : Host.Outcome State Fault Refusal :=
  .next (doSqTail t q value s)

def doCqHead (t : Nat) (q : Fin 32) (value : Nat) (s : State) : State :=
  s.queueBlock t q.val (fun x => { x with cqHead := value % 2 ^ 32 })

def execCqHead (t : Nat) (q : Fin 32) (value : Nat) (s : State) : Host.Outcome State Fault Refusal :=
  .next (doCqHead t q value s)

/-- The state of a queue that nothing halts: by QUEUE_ENABLE. -/
def State.openState (s : State) (q : Nat) : QState := if s.flagAt (Adr.queueEnable q) then .active else .disabled

/-- Records of a queue that are due, at most `fuel`, each with its message. -/
def State.writeRecords : Nat → Nat → State → State
  | 0, _, s => s
  | fuel + 1, q, s => State.writeRecords fuel q (s.writeRecord q)

/-- R231: RING_ENABLE is cleared; ignored while the queue holds an admitted job that has not ended. Records that
are due go out first. -/
def State.ringOff (s : State) (q : Nat) : State :=
  let x := s.queueAt q
  if !x.ringOn || x.jobs.any (fun j => j.ended.isNone) then s
  else (State.writeRecords x.jobs.length q s).setQueue q (fun y => { y with ringOn := false })

def doRingDisable (t : Nat) (q : Fin 32) (s : State) : State :=
  let s := s.advance t
  if s.windowsOpen then s.ringOff q.val else s

def execRingDisable (t : Nat) (q : Fin 32) (s : State) : Host.Outcome State Fault Refusal :=
  .next (doRingDisable t q s)

/-- A word of a 64-bit register written. -/
def withWord (x : Nat) (high : Bool) (value : Nat) : Nat :=
  if high then value % 2 ^ 32 * 2 ^ 32 + x % 2 ^ 32 else x / 2 ^ 32 * 2 ^ 32 + value % 2 ^ 32

/-- R231, R237, R251: RING_ENABLE is set: the descriptor count restarts, and a queue that a function-level reset halted
is open again. One whose record path is closed enters HALTED (R243). -/
def State.ringOn (s : State) (q : Nat) : State :=
  let s := s.setQueue q (fun y => { y with
    ringOn := true, fetched := 0, haltFlr := false,
    state := if y.state == .halted && !y.haltBme && !y.haltFabric then s.openState q else y.state })
  s.haltForFabric

/-- R230, R231: a write of RING_CTRL: while RING_ENABLE is set only its clearing counts; an entry count that names no
ring changes nothing (DEDUCED, log 38), and a standing queue enables no ring. -/
def State.ringControl (s : State) (q value : Nat) : State :=
  let x := s.queueAt q
  let log2 := bitsAt value 7 4
  if x.ringOn then (if bitAt value 0 then s else s.ringOff q)
  else if log2 == 0 || 10 < log2 then s
  else
    let s := s.setQueue q (fun y => { y with relaxed := bitAt value 1, log2 := log2 })
    if bitAt value 0 && s.numAt (Adr.queueMode q) == 0 then s.ringOn q else s

/-- R230, R231: a write to the ring registers of a queue. Base addresses hold 4 KiB pages. -/
def State.ringRegister (s : State) (q : Nat) (w : RingWrite) : State :=
  match w with
  | .ctrl value => s.ringControl q value
  | .base second high value =>
    if (s.queueAt q).ringOn then s
    else if second then s.setQueue q (fun y => { y with cqBase := withWord y.cqBase high value / 4096 * 4096 })
    else s.setQueue q (fun y => { y with sqBase := withWord y.sqBase high value / 4096 * 4096 })

def doRingEnable (t : Nat) (q : Fin 32) (w : RingWrite) (s : State) : State :=
  let s := s.advance t
  if s.windowsOpen then s.ringRegister q.val w else s

def execRingEnable (t : Nat) (q : Fin 32) (register : RingRegister) (high : Bool) (value : Nat) (s : State) :
    Host.Outcome State Fault Refusal :=
  .next (doRingEnable t q (register.write high value) s)

/-- Held records of a queue, at most `fuel`, without messages. -/
def State.putRecords : Nat → Nat → State → State
  | 0, _, s => s
  | fuel + 1, q, s => State.putRecords fuel q (s.putRecord q).2

/-- R250: RESUME of a HALTED queue, while bus-master enable is set and no closed numbering halts it: held records are
written in order, vector q is sent, the queue becomes ACTIVE. -/
def State.resume (s : State) (q : Nat) : State :=
  let x := s.queueAt q
  if x.state != .halted || !s.hostOpen || x.haltFabric || s.recordPathClosed || x.haltFlr then s
  else
    let s := s.setQueue q (fun y => { y with state := s.openState q, haltBme := false })
    ((State.putRecords x.jobs.length q s).sendVector q).dispatch

def doResume (t : Nat) (q : Fin 32) (s : State) : State :=
  let s := s.advanceCharged t
  if s.windowsOpen then s.resume q.val else s

def execResume (t : Nat) (q : Fin 32) (s : State) : Host.Outcome State Fault Refusal := .next (doResume t q s)

/-! ## TLB_INVALIDATE and TF_RESOLVE mirrors (R200, R208, R230) -/

def doTlbInvHi (t value : Nat) (s : State) : State :=
  let s := s.advance t
  if s.windowsOpen then { s with mem := { s.mem with tlbHigh := value % 2 ^ 32 } } else s

def execTlbInvHi (t value : Nat) (s : State) : Host.Outcome State Fault Refusal := .next (doTlbInvHi t value s)

def doTlbInvLo (t value : Nat) (s : State) : State :=
  let s := s.advance t
  if s.windowsOpen then s.invalidate (s.mem.tlbHigh * 2 ^ 32 + value % 2 ^ 32) .windowA else s

def execTlbInvLo (t value : Nat) (s : State) : Host.Outcome State Fault Refusal := .next (doTlbInvLo t value s)

/-- R208, R230: TF_RESOLVE through Window A; without a fault pending the write is ignored. -/
def State.mirrorResolve (s : State) (t q : Nat) (retry : Bool) : State :=
  let s := s.advanceCharged t
  if s.windowsOpen then (s.tfResolve q retry).getD s else s

/-! ## Counter mirrors (R83, R232) -/

/-- The counter of a mirror slot, if one is named. -/
def State.mirrored (s : State) (slot : Nat) : Option Nat :=
  let a := s.numAt (Adr.mirrorList slot)
  if a == 0 then none else some a

/-- Whether a counter is marked writable (R81). -/
def counterWritable (a : Nat) : Bool :=
  match objAt a with
  | some (o, _) => o.acc.writable
  | none => false

/-- R81, R83, R232: a preset through a mirror: the high word is held, the low word writes both; a counter that is not
writable keeps its value. -/
def State.presetMirror (s : State) (slot : Nat) (high : Bool) (value : Nat) : State :=
  match s.mirrored slot with
  | none => s
  | some a =>
    if s.own.owner != some .H then s.bump Adr.mirrorWritesIgnored
    else if !(counterWritable a) then s
    else if high then
      s.setHost (fun h => { h with presets := modifyAt h.presets slot (fun _ => value % 2 ^ 32) })
    else s.presetCounter a (.num (nth s.host.presets slot 0 * 2 ^ 32 + value % 2 ^ 32))

def doMirrorPreset (t : Nat) (slot : Fin 64) (high : Bool) (value : Nat) (s : State) : State :=
  let s := s.advance t
  if s.windowsOpen then s.presetMirror slot.val high value else s

def execMirrorPreset (t : Nat) (slot : Fin 64) (high : Bool) (value : Nat) (s : State) :
    Host.Outcome State Fault Refusal :=
  .next (doMirrorPreset t slot high value s)

/-! ## Placement (R229, R234 to R236) -/

/-- The enabled placement entries with their numbers. -/
def State.placements (s : State) : List (Placement × Nat) :=
  ((placementsOf (s.bytesAt Adr.placementTable)).zipIdx).filter (fun e => e.1.enabled)

/-- An Unsupported Request in Window B: a refused write is counted (R235). -/
def State.placementRefused (s : State) (offset : Nat) : State :=
  (s.emit (.unsupportedRequest offset)).bump Adr.placementRefused

/-- The endpoints that hold `k` bytes at a device address (R187, R212). -/
def State.endpointsOf (s : State) (a k : Nat) : List Nat :=
  ((List.range ((a + k - 1) / 4096 - a / 4096 + 1)).map (fun i => s.endpointOf ((a / 4096 + i) * 4096))).dedup

/-- R189, R235: a placement write to its device address; a violation is logged. While no memory runs, or in a closed
numbering (R219), the bytes are counted and lost. -/
def State.place (s : State) (requester a : Nat) (p : Nat) (data : Bytes) : State :=
  let s := s.bumpBy Adr.placementBytes data.length
  let ends := s.endpointsOf a data.length
  if !s.ingestRuns || ends.any (fun d => s.closedPath 4 d true 0) then s
  else
    let w : Actor := { partition := p, unit := 4, unitKind := 4, queue := none, tag := none }
    let (s, met) := s.store p a data
    let s := (s.report w a met).2
    let new := (ends.map (fun d => (requester, d))).filter (fun e => !(s.host.placed.contains e))
    s.setHost (fun h => { h with placed := h.placed ++ new })

/-- R236: a signal of an entry: it waits for the sweeps of the requester's earlier writes, and takes effect at once where
they are answered. -/
def State.signal (s : State) (requester i : Nat) (e : Placement) (data : Bytes) : State :=
  let x : PlacedSignal :=
    { requester := requester, entry := i, partition := e.partition, addr := e.signal, data := data,
      ends := (s.host.placed.filter (fun y => y.1 == requester)).map (·.2) }
  (s.setHost (fun h => { h with
    placed := h.placed.filter (fun y => y.1 != requester), signals := h.signals ++ [x] })).drainSignals

/-- R235: a write to Window B: data of an entry, a signal, or refused. -/
def State.windowBWrite (s : State) (requester offset : Nat) (data : Bytes) : State :=
  let ours := s.placements.filter (fun e => e.1.requester == requester)
  match ours.find? (fun e => e.1.offset ≤ offset && offset + data.length ≤ e.1.offset + e.1.length && !data.isEmpty) with
  | some (e, _) => s.place requester (e.base + (offset - e.offset)) e.partition data
  | none =>
    match ours.find? (fun e => offset == 0xFF000 + 8 * e.2 && data.length == 8) with
    | some (e, i) => s.signal requester i e data
    | none => s.placementRefused offset

def doPlacementWrite (t requester offset : Nat) (data : Bytes) (s : State) : State :=
  let s := s.advance t
  if s.windowBOpen then s.windowBWrite requester offset data else s

def execPlacementWrite (t requester offset : Nat) (data : Bytes) (s : State) :
    Host.Outcome State Fault Refusal :=
  .next (doPlacementWrite t requester offset data s)

def doPlacementSignal (t requester : Nat) (entry : Fin 16) (data : Bytes) (s : State) : State :=
  let s := s.advance t
  if s.windowBOpen then s.windowBWrite requester (0xFF000 + 8 * entry.val) data else s

def execPlacementSignal (t requester : Nat) (entry : Fin 16) (data : Bytes) (s : State) :
    Host.Outcome State Fault Refusal :=
  .next (doPlacementSignal t requester entry data s)

/-- R229: a read of Window B. -/
def doWindowBRead (t offset : Nat) (s : State) : State :=
  let s := s.advance t
  if s.host.linkUp && s.host.functionReady then s.emit (.unsupportedRequest offset) else s

def execWindowBRead (t offset : Nat) (s : State) : Host.Outcome State Fault Refusal := .next (doWindowBRead t offset s)

/-! ## Bus-master enable (R248, R249) -/

/-- R202, R207: a translation fault that waits at an engine for re-sends is recorded when its transfer is abandoned. -/
def State.recordHeld (s : State) (e : Nat) : State :=
  match (s.engineAt e).held, (s.engineAt e).owner with
  | some f, some (q, _) => s.recordTf q f 0 2
  | _, _ => s

/-- A transfer whose item goes on asks again for what its abandoned reads would have brought. -/
def State.rewind (s : State) (e : Nat) : State :=
  let x := s.engineAt e
  match x.owner, x.reads with
  | some (q, seq), r :: rs => s.setJob q seq (fun k => { k with copyNext := rs.foldl (fun m y => min m y.off) r.off })
  | _, _ => s

/-- R248 step 5: the reads of every engine, and those that HOST makes for it, are abandoned. -/
def State.abandonReads (s : State) : State :=
  let s := (List.range 8).foldl (fun s e => (s.recordHeld e).rewind e) s
  let mesh (e : Nat) : List HostRead := (s.fabric.reads.filter (fun r => r.engine == e)).map (fun r =>
    { tag := r.tag, off := 0, len := 0, partition := r.request.packet.partition.val, page := 0, size := 0 })
  let s := s.setHost (fun h => { h with engines := h.engines.zipIdx.map (fun (x : Engine × Nat) =>
    { owner := none, reads := [], abandoned := x.1.abandoned ++ x.1.reads ++ mesh x.2, held := none }) })
  { s with fabric := { s.fabric with reads := [] } }

/-- R248 steps 2 and 3: whether the loss of bus-master enable ends an item of a queue: a parked item, a job with
a transfer unfinished, a COPY that is served or next. -/
def State.hostBound (s : State) (q : Nat) (j : Job) : Bool :=
  j.ended.isNone && (j.phase == .parked || (j.kind == 0 && j.transfer) ||
    (j.kind == 1 && (s.head? q).map (·.submitSeq) == some j.submitSeq))

/-- Items of every queue that satisfy a test end. -/
def State.endWhere (s : State) (test : Nat → Job → Bool) (status cause : Nat) : State :=
  (List.range 32).foldl (fun s q =>
    ((s.queueAt q).jobs.filter (test q)).foldl (fun s j => s.endItem q j.submitSeq status cause 0 0) s) s

/-- R248: bus-master enable is lost. -/
def State.bmeLost (s : State) : State :=
  if !s.host.bme then s
  else
    let s := s.setHost (fun h => { h with bme := false })
    let s := s.endWhere s.hostBound 0x22 0x20
    let s := (List.range 32).foldl (fun s q =>
      if s.hostLinked q then
        let new := (s.queueAt q).state != .halted
        let s := s.setQueue q (fun x => { x with state := .halted, haltBme := true })
        if new then s.sendVector 46 else s
      else s) s
    s.abandonReads.dispatch

def doLossOfBusMasterEnable (t : Nat) (s : State) : State := (s.advanceCharged t).bmeLost

def execLossOfBusMasterEnable (t : Nat) (s : State) : Host.Outcome State Fault Refusal :=
  .next (doLossOfBusMasterEnable t s)

/-- R233: messages of pending vectors that can be sent, in ascending order. -/
def State.sendPending (s : State) : State :=
  (List.range 64).foldl (fun s v =>
    if nth s.host.msixPending v false && s.vectorOpen v then
      (s.setHost (fun h => { h with msixPending := modifyAt h.msixPending v (fun _ => false) })).emitVector v
    else s) s

/-- R233, R249: requests to host memory are possible again: held responses of port H are written and pending messages
sent. -/
def State.hostReopened (s : State) : State :=
  if !s.hostOpen then s
  else
    let held := s.host.ring.heldRsp
    let s := s.setHost (fun h => { h with ring := { h.ring with heldRsp := [] } })
    (held.foldl (fun s pdu => s.sendResponse .H (macRoute 0) pdu) s).sendPending

/-- R249: bus-master enable is set. -/
def doBusMasterEnableSet (t : Nat) (s : State) : State :=
  let s := s.advance t
  if !s.host.linkUp || !s.host.functionReady || s.host.bme then s
  else (s.setHost (fun h => { h with bme := true })).hostReopened

def execBusMasterEnableSet (t : Nat) (s : State) : Host.Outcome State Fault Refusal :=
  .next (doBusMasterEnableSet t s)

/-! ## Configuration space (R228, R246, R251, R377) -/

/-- Configuration space at its reset values (R251; log 15). -/
def HostLink.resetConfig (h : HostLink) : HostLink :=
  { h with
    bme := false, mse := false, d3hot := false, barA := 0, barB := 0, maxPayload := 0, maxRead := 2,
    msixEnable := false, msixFunctionMask := false }

/-- R228: what a configuration read returns. -/
def State.configValue (s : State) (f : ConfigField) : Nat :=
  let h := s.host
  match f with
  | .vendorId => Config.vendorId % 65536
  | .deviceId => s.part.variant.deviceId
  | .revisionId => s.part.stepping
  | .classCode => 0x120000
  | .busMaster => b2n h.bme
  | .memorySpace => b2n h.mse
  | .barA => h.barA + 4
  | .barB => h.barB + 12
  | .barFour | .expansionRom => 0
  | .serialNumber => leNat (padTo Config.serialNumber 8 0)
  | .powerState => if h.d3hot then 3 else 0
  | .maxPayloadSupported => 256
  | .maxPayload => requestSize h.maxPayload.val 256
  | .maxReadRequest => requestSize h.maxRead.val 512
  | .msixVectors => 64
  | .msixTable => 0x2000
  | .msixPba => 0x2800
  | .msixEnable => b2n h.msixEnable
  | .msixFunctionMask => b2n h.msixFunctionMask

/-- R228, R246: an access of host software to configuration space. -/
def State.configAccess (s : State) (c : ConfigAccess) : State :=
  match c with
  | .memorySpace on => s.setHost (fun h => { h with mse := on })
  | .bar false high value => s.setHost (fun h => { h with barA := withWord h.barA high value / 0x10000 * 0x10000 })
  | .bar true high value => s.setHost (fun h => { h with barB := withWord h.barB high value / 0x100000 * 0x100000 })
  | .deviceControl p r =>
    s.setHost (fun h => { h with maxPayload := p, maxRead := r })
  | .powerState on => (s.setHost (fun h => { h with d3hot := on })).hostReopened
  | .msixControl on mask => (s.setHost (fun h => { h with msixEnable := on, msixFunctionMask := mask })).sendPending
  | .read f => s.emit (.configRead (s.configValue f))

/-- R246, R377: host software sets or clears Memory Space Enable, or makes another access to configuration space; until
the function is ready it is answered with Configuration Request Retry Status. -/
def doMemorySpaceEnable (t : Nat) (c : ConfigAccess) (s : State) : State :=
  let s := s.advance t
  if !s.host.linkUp then s
  else if s.host.functionReady then s.configAccess c
  else s.emit .configRetry

def execMemorySpaceEnable (t : Nat) (c : ConfigAccess) (s : State) : Host.Outcome State Fault Refusal :=
  .next (doMemorySpaceEnable t c s)

/-! ## Resets of the function and the link (R43, R228, R246, R251, R377) -/

/-- R251, R370: the Window A block of a host-linked queue returns to reset values; its items are gone and it
reads HALTED with HALT_FLR. -/
def Queue.resetBlock (x : Queue) : Queue :=
  { x with state := .halted, haltBme := false, haltFlr := true, jobs := [], sqBase := 0, cqBase := 0, ringOn := false,
           relaxed := false, log2 := 0, sqTail := 0, cqHead := 0, fetched := 0, fault := none }

/-- R251: a mailbox port that the PCIe side serves: what is not FULL returns to reset values (log 38). -/
def Mailbox.pcieReset (m : Mailbox) : Mailbox :=
  { m with overrun := false, inBuf := if m.inFull then m.inBuf else List.replicate 256 0,
           inLen := if m.inFull then m.inLen else 0, outBuf := if m.outFull then m.outBuf else List.replicate 256 0,
           outLen := if m.outFull then m.outLen else 0 }

/-- R251: whether an item of a queue ends with a function-level reset: every one of a host-linked queue. -/
def State.endsWithFlr (s : State) (q : Nat) (j : Job) : Bool := j.ended.isNone && s.hostLinked q

/-- R251, R370: the host-linked queues are reset. -/
def State.resetLinked (s : State) : State :=
  { s with queues := (s.queues.zipIdx).map (fun e => if s.hostLinked e.2 then e.1.resetBlock else e.1) }

/-- R251: configuration space and what the function holds return to reset values. -/
def State.resetFunction (s : State) : State :=
  let serves := (List.range 8).map (fun m => !(s.spiServes m))
  let boxes := (s.host.mailboxes.zip serves).map (fun e => if e.2 then e.1.pcieReset else e.1)
  let s := { s with mem := { s.mem with tlbHigh := 0, tlbDone := 0 } }
  s.setHost (fun h => { h.resetConfig with
    msixTable := List.replicate 64 (0, 0), msixMasked := List.replicate 64 true, msixPending := List.replicate 64 false,
    latches := List.replicate 64 none, presets := List.replicate 64 0, ring := ControlRing.zero, mailboxes := boxes })

/-- The responses that a port still waits to send go nowhere any more. -/
def State.forgetResponses (s : State) (p : Sys2Proof.Port) : State :=
  let s := { s with mem := { s.mem with invalidating := s.mem.invalidating.map (fun (x : Invalidation) =>
    if x.answer == InvalidationEnd.port p then { x with answer := InvalidationEnd.nobody } else x) } }
  s.setPort p (fun x => { x with waiting := [] })

/-- What port H had in progress is gone with its ring: a block transfer is discarded and counted, and its later
segments are refused with 0x0605. R51 says so of the owner port; of a port that does not own, it is the model's choice
(DESIGN CHOICE, log 44). -/
def State.resetPortH (s : State) : State :=
  ((s.discardTransfer .H 0x0605).forgetResponses .H).setPort .H (fun p => { p with
    transfer := none, readSeq := 0, persistIndex := 0 })

/-- R52: a function-level reset restarts port H's NOTIFY count. -/
def State.restartNotifies (s : State) : State := s.setPort .H (fun p => { p with notifies := 0 })

/-- R251: a function-level reset. -/
def doFunctionLevelReset (t : Nat) (s : State) : State :=
  let s := s.advanceCharged t
  if s.dormant then s
  else
    let s := (s.endWhere s.endsWithFlr 0x22 0x21).resetLinked.abandonReads.resetFunction
    let s := s.setHost (fun h => { h with functionReady := false })
    let s := (s.setNum Adr.resetCause 3).bump Adr.resetsFlr
    (s.portHLost 2).resetPortH.restartNotifies.dispatch

def execFunctionLevelReset (t : Nat) (s : State) : Host.Outcome State Fault Refusal :=
  .next (doFunctionLevelReset t s)

/-- R377: the function accepts configuration requests. -/
def doPcieFunctionReady (t : Nat) (s : State) : State :=
  let s := s.advance t
  if s.dormant then s else s.setHost (fun h => { h with functionReady := true })

def execPcieFunctionReady (t : Nat) (s : State) : Host.Outcome State Fault Refusal := .next (doPcieFunctionReady t s)

/-- R228, R246: the link comes up at a speed (1 to 4) and width. -/
def doPcieLinkUp (t speed width : Nat) (s : State) : State :=
  let s := s.advance t
  if s.dormant then s
  else
    let s := s.setHost (fun h => { h with linkUp := true, speed := speed, width := width })
    s.setPort .H (fun p => { p with linkUp := true })

def execPcieLinkUp (t speed width : Nat) (s : State) : Host.Outcome State Fault Refusal :=
  .next (doPcieLinkUp t speed width s)

/-- R43, R246: the link goes down. Configuration space falls to its reset values, as in a conventional reset of the
function (PRESUMED, log 15). -/
def State.linkLost (s : State) : State :=
  let s := s.bmeLost.setHost (fun h => { h.resetConfig with linkUp := false, speed := 0, width := 0 })
  (s.portHLost 3).setPort .H (fun p => { p with linkUp := false })

def doPcieLinkDown (t : Nat) (s : State) : State :=
  let s := s.advanceCharged t
  if s.host.linkUp then s.linkLost else s

def execPcieLinkDown (t : Nat) (s : State) : Host.Outcome State Fault Refusal := .next (doPcieLinkDown t s)

/-! ## The control ring (R244) -/

def State.setRing (s : State) (f : ControlRing → ControlRing) : State :=
  s.setHost (fun h => { h with ring := f h.ring })

def doCrReqTail (t value : Nat) (s : State) : State :=
  let s := s.advance t
  if s.windowsOpen then s.setRing (fun r => { r with reqTail := value % 2 ^ 32 }) else s

def execCrReqTail (t value : Nat) (s : State) : Host.Outcome State Fault Refusal := .next (doCrReqTail t value s)

def doCrRspHead (t value : Nat) (s : State) : State :=
  let s := s.advance t
  if s.windowsOpen then s.setRing (fun r => { r with rspHead := value % 2 ^ 32 }) else s

def execCrRspHead (t value : Nat) (s : State) : Host.Outcome State Fault Refusal := .next (doCrRspHead t value s)

/-- R244: CR_CTRL is written. Enabling starts both entry counts at 0; an entry count that names no ring changes nothing
(DEDUCED, log 38). -/
def State.crControl (s : State) (value : Nat) : State :=
  let log2 := bitsAt value 7 4
  if !(bitAt value 0) then s.setRing (fun r => { r with enabled := false, reserved := 0, heldRsp := [] })
  else if s.host.ring.enabled || log2 == 0 || 8 < log2 then s
  else s.setRing (fun r => { r with enabled := true, log2 := log2, fetched := 0, written := 0, reserved := 0 })

/-- R244: a write to the control ring's registers; the base addresses change only while it is disabled. -/
def State.crRegister (s : State) (w : RingWrite) : State :=
  match w with
  | .ctrl value => s.crControl value
  | .base second high value =>
    if s.host.ring.enabled then s
    else if second then s.setRing (fun r => { r with rspBase := withWord r.rspBase high value })
    else s.setRing (fun r => { r with reqBase := withWord r.reqBase high value })

def doControlRingEnable (t : Nat) (w : RingWrite) (s : State) : State :=
  let s := s.advance t
  if s.windowsOpen then s.crRegister w else s

def execControlRingEnable (t : Nat) (register : RingRegister) (high : Bool) (value : Nat) (s : State) :
    Host.Outcome State Fault Refusal :=
  .next (doControlRingEnable t (register.write high value) s)

end Sys2Proof.Machine
end

