-- ==== Sys2Proof/Machine/Settle.lean ====
section
/-! DEFINITION. Machine/Settle: what follows from a change of settings in the units that jobs and ingest concern:
queues and partitions (R166, R167, R182, R209), stream slots (R89), shaping contexts and the tick generator's
source (R19). The old settings are those of the state before the change. -/

namespace Sys2Proof.Machine

/-- Every item of a queue that has not ended ends, in tick `tick` at `offset`. -/
def State.endQueueAt (s : State) (q status cause tick offset : Nat) : State :=
  ((s.queueAt q).jobs.filter (fun j => j.ended.isNone)).foldl
    (fun s j => s.endItemAt q j.submitSeq status cause 0 0 tick offset) s

/-- R166, R167, R182: QUEUE_ENABLE has changed. A standing queue counts its submissions anew; disabling ends the
queue's items. -/
def State.settleQueue (s old : State) (tick offset q : Nat) : State :=
  let was := old.flagAt (Adr.queueEnable q)
  let now := s.flagAt (Adr.queueEnable q)
  if was == now then s
  else if now then s.setQueue q (fun x => { x with
    state := if x.state == .halted then .halted else .active,
    submitted := if s.numAt (Adr.queueMode q) == 1 then 0 else x.submitted })
  else (s.endQueueAt q 0x21 0x18 tick offset).setQueue q (fun x => { x with
    state := if x.state == .halted then .halted else .disabled })

/-- R182, R183: PART_ENABLE has been cleared: the items of the partition's queues end. -/
def State.settlePartition (s old : State) (tick offset p : Nat) : State :=
  if old.flagAt (Adr.partEnable p) && !(s.flagAt (Adr.partEnable p)) then
    (List.range 32).foldl (fun s q => if s.partOf q == p then s.endQueueAt q 0x21 0x19 tick offset else s) s
  else s

/-- R89: ENABLE of a slot has changed. A slot that runs receives only while ingest runs; in STANDBY its state is
retained (R358). -/
def State.settleSlot (s : State) (t n : Nat) : State :=
  let want := s.flagAt (Adr.enable n) && n < s.part.variant.slots
  let runs := (s.slotAt n).running
  if want && !runs then s.startSlot n else if !want && runs then s.stopSlot n t else s

/-- R117: SHAPE_ENABLE has been set: the context has no regions of a previous frame. -/
def State.settleContext (s old : State) (c : Nat) : State :=
  if s.flagAt (Adr.shapeEnable c) && !(old.flagAt (Adr.shapeEnable c)) then
    s.setCtx c (fun x => { x with regions := none })
  else s

/-- What a change of settings at device time `t` brings about; endings carry `tick` and `offset`. -/
def State.settleUnits (s old : State) (t tick offset : Nat) : State :=
  let s := (List.range 4).foldl (fun s p => s.settlePartition old tick offset p) s
  let s := (List.range 32).foldl (fun s q => s.settleQueue old tick offset q) s
  let s := (List.range 48).foldl (fun s n => s.settleSlot t n) s
  (List.range 16).foldl (fun s c => s.settleContext old c) s

end Sys2Proof.Machine
end

