-- ==== Sys2Proof/Machine/Tick.lean ====
section
/-! DEFINITION. Machine/Tick: the tick generator and the meridian (chapter 01): fix events, the capture window,
realignment, staged writes, the meridian sequence with everything that happens at it, camera triggers, the tick
report and gPTP. -/

namespace Sys2Proof.Machine

def State.setTick (s : State) (f : Tick → Tick) : State := { s with tick := f s.tick }

/-- P in ns. -/
def State.period (s : State) : Nat := Look.period s.valAt

/-- L in ns (R18). -/
def State.slewLimit (s : State) : Int := Look.slewLimit s.valAt

/-- W in ns (R17). -/
def State.halfWindow (s : State) : Nat := s.numAt Adr.captureWindow * s.period / 64

/-- FIX_OFFSET in ns. -/
def State.fixOffset (s : State) : Int := s.intAt 32 Adr.fixOffset * 1000

def State.fixSource (s : State) : Nat := s.numAt Adr.fixSource

/-- Whether the generator runs (R13). -/
def State.genRuns (s : State) : Bool := s.tick.gen != .halted && !s.dormant

/-- The window around a predicted meridian (R17). -/
def State.newWindow (s : State) (center : Nat) (outside : Bool) : Window :=
  { Window.zero with center := center, half := s.halfWindow, outside := outside }

/-! ## Fix events (R16, R17, R21) -/

/-- The source code of a pin (R16). -/
def pinSource (p : Sys2Proof.FixPin) : Nat :=
  match p with
  | .frameSync => 1 | .dsyncA => 3 | .dsyncB => 4 | .dsyncC => 5 | .dsyncD => 6

/-- FIX_QUAL.MIN_WIDTH in ns (R16). -/
def State.minWidth (s : State) : Nat := s.numAt Adr.fixQual % 256 * 100

/-- Whether an edge is the active one under FIX_QUAL.POLARITY (R16). -/
def State.activeEdge (s : State) (falling : Bool) : Bool := falling == bitAt (s.numAt Adr.fixQual) 8

/-- A meridian that an event places at `m` (R21): the window of that meridian is closed by the event, with e = 0
and status ACCEPTED. -/
def State.placeMeridian (s : State) (m : Nat) : State :=
  (s.setTick (fun k => { k with
    next := some m, missCount := 0,
    window := { s.newWindow m false with fix := some 0, closed := true, placed := true } })).bump Adr.fixAccepted

/-- R17, R21: an event that fails qualification during a search lies in the window of the meridian `m` where the search
ends without an event, if it lies near enough. -/
def State.failNear (s : State) (et m : Int) : State :=
  let w : Int := s.halfWindow
  if -w ≤ et - m && et - m ≤ w then s.setTick (fun k => { k with window := { k.window with failed := true } }) else s

/-- The window of a meridian that a search without an event has set. -/
def State.windowAfterSearch (s : State) (m : Nat) : Window :=
  { s.newWindow m false with failed := s.tick.window.failed }

/-- Whether the search of a realignment tick goes on (R21). -/
def State.searching (s : State) : Bool := s.tick.realignTick && s.tick.next.isNone

/-- R21: an event during the search of a realignment tick; `et` is its time with FIX_OFFSET. -/
def State.realignEvent (s : State) (et : Int) (ok : Bool) : State :=
  let m : Int := s.tick.meridian
  if !ok then s.failNear et (m + 2 * s.period)
  else if et < m + s.period then s.bump Adr.fixIgnored
  else if et ≤ m + 2 * s.period then (s.placeMeridian et.toNat).setTick (fun k => { k with realignFound := true })
  else s.bump Adr.fixIgnored

/-- R21: an event while the generator looks for its first meridian. -/
def State.startEvent (s : State) (et : Int) (ok : Bool) : State :=
  let st : Int := s.tick.startAt
  if !ok then s.failNear et (st + 2 * s.period)
  else if et < st then s.bump Adr.fixIgnored
  else if et ≤ st + 2 * s.period then
    (s.placeMeridian et.toNat).setTick (fun k => { k with startSearch := false, gen := .locked })
  else s.bump Adr.fixIgnored

/-- R17: an event judged in the window of a predicted meridian. -/
def State.windowEvent (s : State) (et : Int) (ok : Bool) : State :=
  let w := s.tick.window
  let e := et - w.center
  let inside := -(w.half : Int) ≤ e && e ≤ w.half
  if inside && !w.closed && w.fix.isNone then
    s.setTick (fun k => { k with window := if ok then { w with fix := some e } else { w with failed := true } })
  else
    (s.setTick (fun k => { k with window :=
      if inside then w else if w.closed then { w with later := true } else { w with outside := true } })).bump
      Adr.fixIgnored

/-- An event of the selected source at time `t`. -/
def State.fixEvent (s : State) (t : Nat) (ok : Bool) : State :=
  let et : Int := t + s.fixOffset
  if s.tick.startSearch then s.startEvent et ok
  else if s.searching then s.realignEvent et ok
  else s.windowEvent et ok

/-- R16, R21: an active edge at `t` of a pin that has stayed at its active level for MIN_WIDTH; it is judged, by the
time of the edge, when that has been decided. -/
def doPinEventQualified (t : Nat) (pin : FixPin) (falling : Bool) (s : State) : State :=
  let s := s.advanceCharged (t + s.minWidth)
  if s.genRuns && s.fixSource == pinSource pin && s.activeEdge falling then s.fixEvent t true else s

def execPinEventQualified (t : Nat) (edge : PinEdge) (s : State) : Host.Outcome State Fault Refusal :=
  .next (doPinEventQualified t edge.pin edge.falling s)

/-- R16, R17: an active edge at `t` of a pin that has left its active level after `width` ns, before MIN_WIDTH. With
MIN_WIDTH 0 no width is checked. -/
def doPinEventUnqualified (t : Nat) (pin : FixPin) (falling : Bool) (width : Nat) (s : State) : State :=
  let s := s.advanceCharged (t + width)
  if s.genRuns && s.fixSource == pinSource pin && s.activeEdge falling && width < s.minWidth then s.fixEvent t false
  else s

def execPinEventUnqualified (t : Nat) (pulse : PinPulse) (s : State) : Host.Outcome State Fault Refusal :=
  .next (doPinEventUnqualified t pulse.pin pulse.falling pulse.width s)

/-- R16: whether gPTP time, which is device time plus GPTP_OFFSET (R10), equals FIX_GPTP_EPOCH + k × P at `t` for an
integer k. -/
def State.onSchedule (s : State) (t : Nat) : Bool :=
  ((t : Int) + s.intAt 64 Adr.gptpOffset - s.numAt Adr.fixGptpEpoch) % s.period == 0

/-- R16: an event of the gPTP schedule qualifies only while GPTP_STATUS is SYNCED. -/
def doGptpScheduleEvent (t : Nat) (s : State) : State :=
  let s := s.advanceCharged t
  if s.genRuns && s.fixSource == 2 && s.onSchedule t then s.fixEvent t (s.numAt Adr.gptpStatus == 2) else s

def execGptpScheduleEvent (t : Nat) (s : State) : Host.Outcome State Fault Refusal := .next (doGptpScheduleEvent t s)

/-! ## The capture window closes (R17 to R20) -/

/-- R19: DEAD_RECKONING is entered. -/
def State.enterDeadReckoning (s : State) : State :=
  let s := (s.setTick (fun k => { k with gen := .deadReckoning })).bump Adr.drEntries
  s.notify evDeadReckoning 0 (leBytes 4 (s.numAt Adr.tickPeriod))

/-- R19: a miss. -/
def State.miss (s : State) : State :=
  let n := min (s.tick.missCount + 1) 255
  let s := s.setTick (fun k => { k with missCount := n })
  if s.tick.gen == .deadReckoning then s
  else if 3 ≤ n then s.enterDeadReckoning
  else s.setTick (fun k => { k with gen := .holdover })

/-- R18, R19: the window is classified: its slew, error and status, and the generator's next state. A window that a
search has closed was counted at its event, and its meridian finds the generator LOCKED (R21). -/
def State.classify (s : State) : Int × Int × FixStatus × State :=
  let w := s.tick.window
  let l := s.slewLimit
  match w.fix with
  | some e =>
    let ok := e.natAbs ≤ l.natAbs
    let s := s.setTick (fun k => { k with missCount := 0, gen := if ok then .locked else .pullIn })
    if w.placed then (e, e, .accepted, s)
    else if ok then (e, e, .accepted, s.bump Adr.fixAccepted)
    else (clampInt e (-l) l, e, .acceptedClamped, s.bump Adr.fixClamped)
  | none =>
    if w.failed || w.outside then (0, 0, .rejected, (s.bump Adr.fixRejected).miss)
    else (0, 0, .missed, (s.bump Adr.fixMissed).miss)

/-- R18: M_n+1 is fixed by the slew of the present tick, and the window of M_n+1 opens. -/
def State.fixNext (s : State) (slew error : Int) (status : FixStatus) (outside : Bool) : State :=
  let m := ((s.tick.meridian : Int) + s.period + slew).toNat
  s.setTick (fun k => { k with
    slew := slew, error := error, status := status, next := some m, window := s.newWindow m outside })

/-- R17, R18: the window of M_n gives the slew of tick n and with it M_n+1. -/
def State.closeWindow (s : State) : State :=
  let later := s.tick.window.later
  let (slew, error, status, s) := s.classify
  s.fixNext slew error status later

/-- R17, R18: the window of a predicted meridian closes at its end; where that comes before its meridian, what it has
found waits for the meridian, and is judged there with the settings of the tick that opens (DEDUCED, log 18). -/
def doCaptureWindowClose (s : State) : State :=
  let w := s.tick.window
  if !s.genRuns || s.fixSource == 0 || w.closed || s.tick.startSearch || s.searching then s
  else
    let s := s.advanceCharged ((w.center : Int) + w.half - s.fixOffset).toNat
    if s.tick.started && w.center == s.tick.meridian then s.closeWindow
    else s.setTick (fun k => { k with window := { w with closed := true } })

def execCaptureWindowClose (s : State) : Host.Outcome State Fault Refusal := .next (doCaptureWindowClose s)

/-- R21: no event has come: M_n+1 falls at M_n + 2P and the window counts as MISSED. At start-up the first
meridian falls at S + 2P. -/
def doRealignSearchTimeout (s : State) : State :=
  let off := s.fixOffset
  if !s.genRuns then s
  else if s.tick.startSearch then
    let m := s.tick.startAt + 2 * s.period
    let s := s.advanceCharged ((m : Int) - off).toNat
    s.setTick (fun k => { k with startSearch := false, next := some m, window := s.windowAfterSearch m })
  else if !s.searching then s
  else
    let m := s.tick.meridian + 2 * s.period
    let s := (s.advanceCharged ((m : Int) - off).toNat).bump Adr.fixMissed
    s.miss.setTick (fun k => { k with next := some m, status := .missed, window := s.windowAfterSearch m })

def execRealignSearchTimeout (s : State) : Host.Outcome State Fault Refusal := .next (doRealignSearchTimeout s)

/-- R19: FIX_SOURCE has changed at once, by a load (R70), not at a meridian: the generator moves as a change at a
meridian moves it. Without a source the tick in progress has no slew, and a search for the first meridian ends at once
(DESIGN CHOICE, log 56). -/
def State.settleSource (s old : State) : State :=
  if s.fixSource == old.fixSource || !s.genRuns then s
  else
    let s := s.setTick (fun k => { k with missCount := 0, gen := if s.fixSource == 0 then .freeRun else .pullIn })
    if s.fixSource != 0 then s
    else s.setTick (fun k => { k with
      startSearch := false, window := { Window.zero with closed := true },
      next := match k.next with
        | some m => some m
        | none => some (if k.started then k.meridian + s.period else k.now) })

/-! ## Staged writes (R24, R61) -/

/-- R24: the number of the meridian that a write accepted now reaches. Between the start of the generator and its
first meridian no earliest possible time is stated, and the write reaches that meridian (DESIGN CHOICE, log 50; R409
says so of meridian 0). -/
def State.reachedTick (s : State) : Nat :=
  if !s.tick.started then s.tick.nextTick
  else
    let l : Nat := if s.fixSource != 0 && !s.tick.realignTick then Look.slewLimit s.valAt else 0
    let earliest := s.tick.meridian + s.period - l
    if s.tick.now + s.numAt Adr.phaseGuard * 1000 ≤ earliest then s.tick.nextTick else s.tick.nextTick + 1

/-- R21: the meridian that a write of REALIGN reaches becomes a realignment meridian. -/
def State.requestRealign (s : State) : State :=
  let n := s.reachedTick
  if s.tick.realignAt.contains n then s else s.setTick (fun k => { k with realignAt := k.realignAt ++ [n] })

/-- R23 action 3, R61: the staged values of meridian `n` are applied together. -/
def State.applyStaged (s : State) (n : Nat) : State :=
  let due := s.staged.filter (fun x => x.tick ≤ n)
  let s := due.foldl (fun s x => s.setVal x.addr x.val) s
  { s with staged := s.staged.filter (fun x => !(x.tick ≤ n)),
           tick := { s.tick with applied := !due.isEmpty } }

/-! ## What the meridian does to jobs (R180, R363) -/

/-- R180: a tick-bound item that the meridian closing tick `n` carries, or would have to. -/
def Job.dueBy (j : Job) (n : Nat) : Bool :=
  j.ended.isNone && j.kind == 0 && !j.background && j.fixed && j.due + j.carry ≤ n

/-- R180, R183: one item at the meridian that closes tick `n`: carried if CARRY_LIMIT allows. -/
def State.carryItem (s : State) (q : Nat) (j : Job) : State :=
  let p := s.partOf q
  let cause := if j.carryCause == 0 then s.lateCause p j else j.carryCause
  let may := j.carry + 1 ≤ s.carryLimit p
  let s := s.setJob q j.submitSeq (fun k => { k with
    carryCause := cause, carry := if may then k.carry + 1 else k.carry })
  if may then s.bump (Adr.carries p) else s

/-- R180, R363: the items due by tick `n` at the meridian that closes it: carried in RUN; in another state they
end with REFUSED_BUDGET, cause ARRAYS. -/
def State.carryAll (s : State) (n offset : Nat) : State :=
  (List.range 32).foldl (fun s q =>
    ((s.queueAt q).jobs.filter (fun j => j.dueBy n)).foldl (fun s j =>
      if s.power.state == .run then s.carryItem q j
      else
        (s.setJob q j.submitSeq (fun k => { k with carry := 0 })).endItemAt q j.submitSeq 0x10 8 0 0 n offset) s) s

/-- R172, R174: shares and credits are refilled; parked items count meridians; array time of the tick starts
anew. -/
def State.refill (s : State) : State :=
  let s := { s with
    arrs := s.arrs.zipIdx.map (fun (e : Arr × Nat) => { e.1 with share := s.fullShares e.2, lastCharge := s.tick.now }),
    queues := s.queues.map (fun (x : Queue) => { x with jobs := x.jobs.map (fun (j : Job) =>
      { j with tickTime := 0, parkedFor := if j.phase == Phase.parked then j.parkedFor + 1 else j.parkedFor }) }) }
  { s with
    mem := { s.mem with
      credits := (List.range 4).map (fun p => s.numAt (Adr.bwCredits p)), spent := [false, false, false, false] },
    bin := { s.bin with dispatcherDown := false, dispatcherRef := 0 } }

/-- R260: an array that has not passed its check tile has missed it. -/
def State.missTile (s : State) (a : Nat) : State :=
  let x := s.arrAt a
  match x.tile with
  | .none => s
  | .passed => s.setArr a (fun y => { y with tile := .none })
  | .due | .running | .failed =>
    let s := (s.bump (Adr.checkTileMissed a)).setArr a (fun y => { y with
      tile := .none, state := if y.state == .housekeeping then .idle else y.state })
    let safety := 0 < Look.slotsOf s.valAt a 0
    s.raise (Detection.plain (if safety then 1 else 2) 3 a 0)

/-- R97: a buffer that a closed set of tick `n` selected returns to FREE at M_n+2 or later, once no job that reads
the record is left. -/
def State.returnBuffer (s : State) (k n i : Nat) : State :=
  match (s.slotAt n).buffers[i]? with
  | none => s
  | some b =>
    match b.state, b.holder with
    | .held, .record f m => if m + 2 ≤ k && s.readers f m == 0 then s.freeBuffer n i else s
    | _, _ => s

def State.returnBuffers (s : State) (k : Nat) : State :=
  (List.range 48).foldl (fun s n => (List.range 16).foldl (fun s i => s.returnBuffer k n i) s) s

/-- R167, R363: standing queues submit their image for tick `n`, in READY and RUN. -/
def State.submitAll (s : State) (n : Nat) : State :=
  (List.range 32).foldl (fun s q =>
    if s.ingestRuns && s.flagAt (Adr.queueEnable q) && s.numAt (Adr.queueMode q) == 1 &&
        (s.queueAt q).state != .disabled then s.submitStanding q n
    else s) s

/-! ## The meridian (R22, R23) -/

/-- R84: the counters that SNAPSHOT_LIST selects, in subindex order. -/
def State.snapshot (s : State) : List (Nat × Nat) :=
  ((List.range 56).filter (fun k => s.numAt (Adr.snapshotList k) != 0)).map
    (fun k => (s.numAt (Adr.snapshotList k), s.numAt (s.numAt (Adr.snapshotList k))))

/-- R29: the report of the tick that the meridian `m` closes, with the counters that action 1 has latched. A realignment
that found its event is LOCKED from that meridian on (R21). -/
def State.draft (s : State) (m : Nat) (latched : List (Nat × Nat)) : Draft :=
  let k := s.tick
  let length := m - k.meridian
  { tick := k.tick, meridian := k.meridian, length := length,
    slew := if k.realignTick then (length : Int) - s.period else k.slew,
    error := if k.realignTick then 0 else k.error,
    status := if k.realignFound then .realigned else k.status,
    gen := if k.realignFound then .locked else k.gen, missCount := k.missCount,
    flags := b2n k.realignTick + 2 * b2n k.applied + 4 * b2n (s.numAt Adr.gptpStatus == 2),
    outcomes := k.outcomes, faults := k.faults, framesDropped := k.framesDropped,
    gptpOffset := s.numAt Adr.gptpOffset, snapshot := latched }

/-- R19, R21: the generator at the meridian `m` of tick `n` after action 3: a changed source, a realignment, the
result of a window that closed before its meridian, or the window that is still open. DESIGN CHOICE (log 50): a
realignment that finds FIX_SOURCE 0 applied at its meridian is dropped, and what the old of two sources put into the
window of this meridian counts in it. -/
def State.openTick (s : State) (n m oldSource : Nat) : State :=
  let src := s.fixSource
  let s := if src == oldSource then s
    else s.setTick (fun k => { k with missCount := 0, gen := if src == 0 then .freeRun else .pullIn })
  let realign := s.tick.realignAt.any (· ≤ n) && src != 0
  let w := s.tick.window
  let s := s.setTick (fun k => { k with
    slew := 0, error := 0, status := .none, next := none, realignTick := realign, realignFound := false,
    realignAt := k.realignAt.filter (fun r => !(r ≤ n)) })
  if src == 0 then s.setTick (fun k => { k with next := some (m + s.period), window := { Window.zero with closed := true } })
  else if realign then s.setTick (fun k => { k with window := { Window.zero with closed := true } })
  else if w.center == m && w.closed then s.closeWindow
  else if w.center == m then s
  else s.setTick (fun k => { k with window := s.newWindow m false })

/-- R23 action 2 and the counts of the new tick. -/
def State.stepTick (s : State) (n m : Nat) : State :=
  let gen := if s.tick.realignFound then .locked else s.tick.gen
  s.setTick (fun k => { k with
    tick := n, nextTick := n + 1, started := true, startSearch := false, meridian := m,
    history := ((n, m) :: k.history).take 128, gen := gen, outcomes := outcomesZero, faults := 0,
    framesDropped := 0, camDone := [], marked := false })

/-- R272: what the binnacle keeps of the tick just closed. -/
def State.closeBinnacle (s : State) (n : Nat) : State :=
  { s with bin := { s.bin with
    safetyInLast := s.bin.safetyInTick, safetyInTick := 0, normalAtLast := s.bin.normalSince,
    normalSince := s.bin.state == .normal, ends := s.bin.ends.filter (fun e => n ≤ e.due + 2) } }

/-- R38: LEASE_REMAINING at a meridian: frozen while a handover is pending (R41); NOTIFY LEASE_WARNING at 2 on the
owner port (R39). -/
def State.decrementLease (s : State) : State :=
  match s.own.owner with
  | none => s
  | some p =>
    if s.own.state != .owned || s.own.lease == 0 then s
    else
      let s := { s with own := { s.own with lease := s.own.lease - 1 } }
      if s.own.lease == 2 then s.notifyOn p evLeaseWarning 0 s.stampNow (leBytes 1 2) else s

/-- R98: what ingest counts by the tick starts anew. -/
def State.openIngest (s : State) (m : Nat) : State :=
  let s := s.forgetDrops m
  { s with ingest := { s.ingest with slots := s.ingest.slots.map (fun x =>
      { x with bytesInTick := 0, overGuarantee := false }) } }

/-- What happens at the meridian `m` before action 2 (R23, R29, R90, R180): counters are latched, frames that end at a
meridian end, jobs are carried, and the report of the tick that closes is drafted. The first meridian closes no tick
(R13), but frames under way end at it as at any other (R90). -/
def State.closeTick (s : State) (m : Nat) : State :=
  let latched := s.snapshot
  let s := s.endTickFrames m
  if !s.tick.started then s
  else
    let s := s.carryAll s.tick.tick (m - s.tick.meridian)
    s.setTick (fun k => { k with closing := some (s.draft m latched) })

/-- R263: whether the interval between two meridians is outside the monitor's window, with the period in force when
the tick between them opened (DEDUCED, log 46). -/
def State.tickLate (s : State) (m0 m1 : Nat) : Bool :=
  m1 < m0 + s.tick.shortest || m0 + s.tick.longest < m1

/-- R263: the monitor's bounds for the tick that opens. -/
def State.openMonitor (s : State) : State :=
  s.setTick (fun k => { k with shortest := Look.pMin s.valAt, longest := 2 * s.period + 100000 })

/-- R23: the meridian `m` of tick `n`. -/
def State.meridian (s : State) (n m : Nat) : State :=
  let old := s
  let closes := s.tick.started
  let late := closes && s.tickLate s.tick.meridian m
  let s := s.closeTick m
  let s := (s.stepTick n m).closeBinnacle n
  let before := s
  let s := s.applyStaged n
  let s := s.settleUnits before m (n - 1) (m - old.tick.meridian)
  let s := if closes && s.ingestRuns then s.closeSets old.tick.tick old.tick.meridian m else s
  let s := (s.openTick n m old.fixSource).openMonitor.decrementLease
  let s := (s.openIngest m).returnBuffers n
  let s := (List.range 8).foldl State.missTile s.refill
  let s := if late then s.raise (Detection.plain 1 0x0A 255 255) else s
  (s.submitAll n).dispatch

/-- R14, R21, R23: the meridian that the generator has fixed arrives; its actions run at `t`. -/
def doMeridian (t : Nat) (s : State) : State :=
  match s.tick.next with
  | none => s
  | some m =>
    if !s.genRuns || t < m then s
    else (((s.advanceCharged m).meridian s.tick.nextTick m).advanceCharged t).setTick (fun k => { k with ranAt := t })

def execMeridian (t : Nat) (s : State) : Host.Outcome State Fault Refusal := .next (doMeridian t s)

/-! ## Camera triggers (R28) -/

/-- Whether output `n` pulses in the present tick. -/
def State.camDue (s : State) (n : Nat) : Bool :=
  s.genRuns && s.tick.started && s.flagAt (Adr.camTrigEnable n) &&
    s.tick.tick % (max 1 (s.numAt (Adr.camTrigDivide n))) == s.numAt (Adr.camTrigPhase n)

/-- The level of output `n` at its pulse, or between pulses (R28): CAM_TRIG_POLARITY 0 is active high. -/
def State.camLevel (s : State) (n : Nat) (active : Bool) : Bool := active == (s.numAt (Adr.camTrigPolarity n) == 0)

/-- R21, R28: the pulse starts OFFSET after the meridian, or when the meridian's actions ran where that is later, and
lasts WIDTH. -/
def doCamTrigPulse (n : Fin 8) (s : State) : State :=
  if !(s.camDue n.val) || s.tick.camDone.contains n.val then s
  else
    let at_ := max (s.tick.meridian + s.numAt (Adr.camTrigOffset n.val)) s.tick.ranAt
    let s := s.advanceCharged at_
    (s.setTick (fun k => { k with
      camActive := modifyAt k.camActive n.val (fun _ => some (at_ + s.numAt (Adr.camTrigWidth n.val) * 1000)),
      camDone := k.camDone ++ [n.val] })).emit (.camTrig n.val (s.camLevel n.val true))

def execCamTrigPulse (n : Fin 8) (s : State) : Host.Outcome State Fault Refusal := .next (doCamTrigPulse n s)

/-- R28: the pulse of output `n` ends. -/
def doCamTrigPulseEnd (n : Fin 8) (s : State) : State :=
  match nth s.tick.camActive n.val none with
  | none => s
  | some e =>
    let s := s.advanceCharged e
    (s.setTick (fun k => { k with camActive := modifyAt k.camActive n.val (fun _ => none) })).emit
      (.camTrig n.val (s.camLevel n.val false))

def execCamTrigPulseEnd (n : Fin 8) (s : State) : Host.Outcome State Fault Refusal := .next (doCamTrigPulseEnd n s)

/-! ## The tick report (R29, R30) -/

/-- OUTCOMES of a report; partitions that are not enabled read 0. -/
def State.outcomeBytes (s : State) (d : Draft) : Bytes :=
  (d.outcomes.zipIdx.map (fun (e : List Nat × Nat) =>
    if s.flagAt (Adr.partEnable e.2) then (e.1.map (fun x => leBytes 2 (min x 65535))).flatten
    else List.replicate 16 0)).flatten

/-- R29: the bytes of a report. -/
def State.reportBytes (s : State) (d : Draft) : Bytes :=
  leBytes 8 d.tick ++ leBytes 8 d.meridian ++ leBytes 4 d.length ++ leBytes 4 (ofSigned 32 d.slew) ++
    leBytes 4 (ofSigned 32 d.error) ++ leBytes 1 d.status.code ++ leBytes 1 d.gen.code ++ leBytes 1 d.missCount ++
    leBytes 1 d.flags ++ s.outcomeBytes d ++ leBytes 2 (min d.faults 65535) ++ leBytes 2 0 ++
    leBytes 4 (min d.framesDropped (2 ^ 32 - 1)) ++ leBytes 8 d.gptpOffset ++ leBytes 2 d.snapshot.length ++
    List.replicate 6 0 ++ leBytes 8 d.tick ++
    (d.snapshot.map (fun e => leBytes 4 e.1 ++ leBytes 4 0 ++ leBytes 8 e.2)).flatten

/-- R30, R233: a report in host memory: TICK_NUMBER_TAIL after every other byte, then vector 37. -/
def State.reportToHost (s : State) (n : Nat) (b : Bytes) : State :=
  let a := s.numAt Adr.hostAddr + n % (s.numAt Adr.ringEntries) * 1024
  let s := s.hostWrite a (b.take 120)
  let s := if b.length ≤ 128 then s else s.hostWrite (a + 128) (b.drop 128)
  (s.hostWrite (a + 120) (slice b 120 8)).sendVector 37

/-- Whether a job that the latest meridian ends, at CARRY_LIMIT or TF_PARK_TIMEOUT, has not ended yet (R180, R181,
R209). -/
def State.limitPending (s : State) : Bool :=
  s.queues.zipIdx.any (fun e => e.1.jobs.any (fun j => s.overLimit j || s.parkOver e.2 j))

/-- R29: the report of the tick just closed is published, after the records of the jobs that ended in it. -/
def doTickReport (t : Nat) (s : State) : State :=
  let s := s.advance t
  match s.tick.closing with
  | none => s
  | some d =>
    if s.dormant || s.limitPending || !(s.recordsOut d.tick) then s
    else
      let b := s.reportBytes d
      let s := s.setTick (fun k => { k with closing := none, lastReport := b })
      if bitAt (s.numAt Adr.tickCtrl) 1 && s.hostOpen then s.reportToHost d.tick b else s

def execTickReport (t : Nat) (s : State) : Host.Outcome State Fault Refusal := .next (doTickReport t s)

/-! ## gPTP (R10 to R12) -/

def State.setGptp (s : State) (f : Gptp → Gptp) : State := s.setTick (fun k => { k with gptp := f k.gptp })

/-- Whether gPTP messages of a port and domain are processed. -/
def State.gptpListens (s : State) (ethPort domain : Nat) : Bool :=
  !s.dormant && s.numAt Adr.timeSource == ethPort + 1 && s.numAt Adr.gptpDomain == domain

/-- R11, R12: a Sync whose origin time is `origin`, received at `t`, announcing its interval in ns. The rate
adjustment that the servo makes is not stated: a free value within ±500 ppm (log 16). -/
def doSyncMessage (t : Nat) (ethPort : Fin 2) (domain origin interval : Nat) (s : State) : State :=
  let s := s.advanceCharged t
  if !(s.gptpListens ethPort.val domain) then s
  else
    let g := s.tick.gptp
    let gap := 3 * interval ≤ t - g.lastSync
    let lost := s.numAt Adr.gptpStatus == 3
    let n := if gap || lost || g.syncs == 0 then 1 else g.syncs + 1
    let s := s.setGptp (fun x => { x with syncs := n, lastSync := t, interval := interval })
    if n < 4 then s.setNum Adr.gptpStatus 1
    else
      let (x, s) := s.takeFree 1000001
      let offset : Int := (origin : Int) + nth g.pathDelays ethPort.val 0 - t
      ((s.setNum Adr.gptpStatus 2).setNum Adr.gptpOffset (ofSigned 64 offset)).setNum Adr.rateAdjust
        (ofSigned 32 ((x : Int) - 500000))

def execSyncMessage (t : Nat) (ethPort : Fin 2) (domain origin interval : Nat) (s : State) :
    Host.Outcome State Fault Refusal :=
  .next (doSyncMessage t ethPort domain origin interval s)

/-- R11: peer delay of a present port from the four timestamps of a measurement (IEEE 802.1AS; PRESUMED, log 16). -/
def doPdelayMessage (t : Nat) (ethPort : Fin 2) (t1 t2 t3 t4 : Nat) (s : State) : State :=
  let s := s.advanceCharged t
  if s.dormant || s.part.variant.ethPorts ≤ ethPort.val then s
  else s.setGptp (fun x => { x with
    pathDelays := modifyAt x.pathDelays ethPort.val (fun _ => ((t4 - t1) - (t3 - t2)) / 2) })

def execPdelayMessage (t : Nat) (ethPort : Fin 2) (t1 t2 t3 t4 : Nat) (s : State) :
    Host.Outcome State Fault Refusal :=
  .next (doPdelayMessage t ethPort t1 t2 t3 t4 s)

/-- R11: no Sync for three sync intervals: from SYNCED the status becomes TIMEOUT. -/
def doGptpTimeout (t : Nat) (s : State) : State :=
  let s := s.advanceCharged t
  let g := s.tick.gptp
  if s.numAt Adr.gptpStatus == 2 && g.lastSync + 3 * g.interval ≤ s.tick.now then
    (s.setNum Adr.gptpStatus 3).setGptp (fun x => { x with syncs := 0 })
  else s

def execGptpTimeout (t : Nat) (s : State) : Host.Outcome State Fault Refusal := .next (doGptpTimeout t s)

end Sys2Proof.Machine
end

