-- ==== Sys2Proof/Machine/Keys.lean ====
section
/-! DEFINITION. Machine/Keys: keys, buttons and encoders (chapter 14): scanning, debounce, the quadrature
encoders, the event FIFO and the key lock. -/

namespace Sys2Proof.Machine

def State.setKeys (s : State) (f : Keys → Keys) : State := { s with keys := f s.keys }

/-- Whether the controller runs and serves its units: not in DORMANT, in BOOTING or during a controller reset. -/
def State.ctlServes (s : State) : Bool := !s.dormant && s.power.state != .booting && s.ctlRuns

/-! ## Ascending lists of codes -/

/-- An ascending list with a code in it. -/
def insertAsc : List Nat → Nat → List Nat
  | [], x => [x]
  | y :: ys, x => if x < y then x :: y :: ys else if x == y then y :: ys else y :: insertAsc ys x

/-- A list without a code. -/
def without (xs : List Nat) (x : Nat) : List Nat := xs.filter (· != x)

/-! ## The event FIFO (R300, R302) -/

/-- The bytes of an entry (R300). -/
def Event.bytes (e : Event) : Bytes :=
  leBytes 1 (e.kind + 64 * b2n e.synthetic + 128 * b2n e.unticked) ++ leBytes 1 e.code ++ leBytes 2 e.data ++
    leBytes 4 e.seq ++ leBytes 8 e.tick ++ leBytes 4 e.offset ++ leBytes 4 0

/-- An entry put at the end of the FIFO under the next EVENT_SEQ. -/
def State.pushEvent (s : State) (kind : Nat) (synthetic : Bool) (code data : Nat) (st : Stamp) : State :=
  s.setKeys (fun k => { k with
    fifo := k.fifo ++ [{ kind := kind, synthetic := synthetic, unticked := st.unticked, code := code, data := data,
                         seq := k.nextSeq, tick := st.tick, offset := st.offset }],
    nextSeq := (k.nextSeq + 1) % 2 ^ 32 })

/-- R302: one more event lost in the held OVERFLOW entry, which is the last of a full FIFO. -/
def countLost (fifo : List Event) : List Event :=
  modifyAt fifo (fifo.length - 1) (fun e => { e with data := min (e.data + 1) 65535 })

/-- R302: an event decided at device time `decided` is queued while two entries are free; into the last entry
goes an OVERFLOW entry, whose DATA counts on. -/
def State.queueEvent (s : State) (kind : Nat) (synthetic : Bool) (code data : Nat) (st : Stamp) (decided : Nat) :
    State :=
  let held := s.keys.fifo.length
  if held + 2 ≤ 64 then (s.pushEvent kind synthetic code data st).bump Adr.keyEvents
  else if held < 64 then (s.pushEvent 8 false 0 1 (s.stampAt decided)).bump Adr.eventsLost
  else (s.setKeys (fun k => { k with fifo := countLost k.fifo })).bump Adr.eventsLost

/-- R302: entries not later than `x` are freed. -/
def State.ackEvents (s : State) (x : Nat) : State :=
  s.setKeys (fun k => { k with fifo := k.fifo.filter (fun e => later32 e.seq x) })

/-! ## The key lock (R304, R305) -/

/-- Whether the lock is in force over unit kind `k` of LOCK_SCOPE: 0 matrix, 1 buttons, 2 encoders. -/
def State.locked (s : State) (k : Nat) : Bool := s.keys.lock == .on && bitAt (s.numAt Adr.lockScope) k

/-- Synthetic release events (R290, R304), in the order of a list of codes. -/
def State.releaseAll (s : State) (kind : Nat) (codes : List Nat) (t : Nat) : State :=
  codes.foldl (fun s c => s.queueEvent kind true c 0 (s.stampAt t) t) s

/-- R299, R304: the report windows of every encoder are discarded. -/
def State.dropWindows (s : State) : State :=
  s.setKeys (fun k => { k with encoders := k.encoders.map (fun (e : Encoder) => { e with windowAt := none, net := 0 }) })

/-- R304: the lock is entered at time `t`. -/
def State.enterLock (s : State) (cause t : Nat) : State :=
  let scope := s.numAt Adr.lockScope
  let s := if bitAt scope 0 then
    (s.releaseAll 2 s.keys.reported t).setKeys (fun k => { k with reported := [] }) else s
  let s := if bitAt scope 1 then
    (s.releaseAll 4 s.keys.btnReported t).setKeys (fun k => { k with btnReported := [] }) else s
  let s := if bitAt scope 2 then s.dropWindows else s
  (s.queueEvent 6 false cause 0 (s.stampAt t) t).setKeys (fun k => { k with
    lock := .on, progress := 0, unlockAt := none })

/-- R304: a lock is asked for: at once while the matrix is IDLE, else at the next scan boundary. -/
def State.requestLock (s : State) (cause t : Nat) : State :=
  if s.keys.lock != .off then s
  else if s.keys.scanning then s.setKeys (fun k => { k with lock := .requested cause })
  else s.enterLock cause t

/-- R305: the lock ends at time `t`: what is held stays released until it is pressed anew. -/
def State.leaveLock (s : State) (cause t : Nat) : State :=
  let scope := s.numAt Adr.lockScope
  let s := s.setKeys (fun k => { k with
    lock := .off, progress := 0, unlockAt := none,
    mute := if bitAt scope 0 then k.pressed else k.mute,
    btnMute := if bitAt scope 1 then k.btnPressed else k.btnMute })
  let s := if bitAt scope 2 then s.dropWindows else s
  s.queueEvent 7 false cause 0 (s.stampAt t) t

/-- R305: the owner writes 0 to KEY_LOCK. -/
def State.ownerUnlock (s : State) (t : Nat) : State :=
  match s.keys.lock with
  | .on => s.leaveLock 1 t
  | .requested _ => s.setKeys (fun k => { k with lock := .off })
  | .off => s

/-- R305: a press matches the code that was expected with `p` codes matched so far. -/
def State.matchPress (s : State) (p len t : Nat) : State :=
  if len ≤ p + 1 then s.leaveLock 0 t
  else s.setKeys (fun k => { k with
    progress := p + 1,
    unlockAt := if p == 0 then some (t + s.numAt Adr.unlockTimeoutMs * 1000000) else k.unlockAt })

/-- R305: a debounced press under the lock is compared with UNLOCK_SEQUENCE. -/
def State.unlockPress (s : State) (code t : Nat) : State :=
  let seq := (s.bytesAt Adr.unlockSequence).map BitVec.toNat
  let p := s.keys.progress
  if seq.isEmpty then s
  else if seq[p]? == some code then s.matchPress p seq.length t
  else
    let s := if p == 0 then s else s.bump Adr.unlockFailures
    let s := s.setKeys (fun k => { k with progress := 0, unlockAt := none })
    if seq[0]? == some code then s.matchPress 0 seq.length t else s

/-! ## Debounce (R295) -/

/-- One sample of a unit: its code, whether it reads pressed, and the sample time. -/
structure Sample where
  code : Nat
  down : Bool
  time : Nat
  deriving DecidableEq, Repr

/-- One sample against the debounced state: the run goes on or ends; the answer carries the code, the new state and the
first sample's time where the run is complete. -/
def debounceOne (need : Nat) (pressed : List Nat) (runs : List Run) (x : Sample) : List Run × Option Sample :=
  let others := runs.filter (fun r => r.code != x.code)
  if x.down == pressed.contains x.code then (others, none)
  else
    let r : Run := match runs.find? (fun r => r.code == x.code) with
      | some r => { r with len := r.len + 1 }
      | none => { code := x.code, len := 1, first := x.time }
    if need ≤ r.len then (others, some { x with time := r.first }) else (others ++ [r], none)

/-- The samples of one scan, in ascending order of their codes: the runs left and the changes decided. -/
def debounce (need : Nat) (pressed : List Nat) (runs : List Run) (xs : List Sample) : List Run × List Sample :=
  xs.foldl (fun (acc : List Run × List Sample) x =>
    let (runs, change) := debounceOne need pressed acc.1 x
    (runs, acc.2 ++ change.toList)) (runs, [])

/-! ## The matrix (R290 to R295) -/

/-- Whether an event of the key is enabled (R290). -/
def State.keyEnabled (s : State) (code : Nat) : Bool :=
  bitAt ((nth (s.bytesAt Adr.keyEnableMask) (code / 8) 0).toNat) (code % 8)

/-- R295: a debounced change of a key, decided at `t`. -/
def State.keyChange (s : State) (x : Sample) (t : Nat) : State :=
  let muted := s.keys.mute.contains x.code
  let event := s.keyEnabled x.code && !muted
  let masked := s.locked 0
  let s := s.setKeys (fun k => { k with
    pressed := if x.down then insertAsc k.pressed x.code else without k.pressed x.code,
    reported := if x.down then (if event && !masked then insertAsc k.reported x.code else k.reported)
      else without k.reported x.code,
    mute := if x.down then k.mute else without k.mute x.code })
  let s :=
    if !event then s
    else if masked then s.bump Adr.suppressedEvents
    else s.queueEvent (if x.down then 1 else 2) false x.code 0 (s.stampAt x.time) t
  if x.down && s.keys.lock == .on then s.unlockPress x.code t else s

/-- Codes of the keys in use (R289, R290), in ascending order. -/
def State.keysInUse (s : State) : List Nat :=
  ((List.range (s.numAt Adr.keyColumns)).map (fun c =>
    (List.range (s.numAt Adr.keyRows)).map (fun r => 16 * c + r))).flatten

/-- R290: keys that are no longer in use, by their codes: those reported pressed are released by a synthetic
event. -/
def State.retireKeys (s : State) (gone : Nat → Bool) (t : Nat) : State :=
  (s.releaseAll 2 (s.keys.reported.filter gone) t).setKeys (fun k => { k with
    reported := k.reported.filter (fun c => !gone c) })

/-- R290: a write of KEY_ENABLE_MASK has taken keys out of use. -/
def State.maskKeys (s : State) (t : Nat) : State := s.retireKeys (fun c => !(s.keyEnabled c)) t

/-- R290, R293: KEY_COLUMNS and KEY_ROWS take effect at a scan start. A key out of use is no longer read: its debounced
state is released (log 39). -/
def State.applyMatrix (s : State) (t : Nat) : State :=
  let used := s.keysInUse
  (s.retireKeys (fun c => !(used.contains c)) t).setKeys (fun k => { k with
    pressed := k.pressed.filter used.contains, mute := k.mute.filter used.contains,
    runs := k.runs.filter (fun r => used.contains r.code) })

/-- R293: whether a scan may start at `t`. -/
def State.scanDue (s : State) (t : Nat) : Bool :=
  let k := s.keys
  if !(s.ctlServes && k.scanning) || t < k.scanEnd || t < k.activeAt then false
  else if s.numAt Adr.scanAlign == 1 then
    match meridianBefore s.tick.history t with
    | none => false
    | some (_, m) =>
      s.genRuns && m + s.numAt Adr.scanPhaseUs * 1000 ≤ t &&
        (t - (m + s.numAt Adr.scanPhaseUs * 1000)) % (k.scanPeriod * 1000000) == 0
  else
    match k.lastScan with
    | none => t ≤ k.activeAt + 2000
    | some p => p + k.scanPeriod * 1000000 ≤ t

/-- R292: the samples of a scan that starts at `t`, column slots of `slot` µs. -/
def scanSamples (used : List Nat) (settle t : Nat) (pressed : List Nat) : List Sample :=
  used.map (fun c => { code := c, down := pressed.contains c, time := t + ((c / 16) * (settle + 1) + settle) * 1000 })

/-- R294: after a scan, the matrix returns to IDLE after two quiet scans. -/
def State.restScan (s : State) (quiet : Bool) : State :=
  let n := if quiet then s.keys.idleScans + 1 else 0
  if 2 ≤ n then s.setKeys (fun k => { k with scanning := false, idleScans := 0, lastScan := none, scanEnd := 0, runs := [] })
  else s.setKeys (fun k => { k with idleScans := n })

/-- R291, R367: activity of the idle matrix; in DORMANT it is a wake request while WAKE_ENABLE bit 2 is set. -/
def doKeyActivity (t : Nat) (s : State) : State :=
  let s := s.advance t
  if s.dormant then
    if bitAt (s.numAt Adr.wakeEnable) 2 then
      { s with power := { s.power with wakeCause := setBit s.power.wakeCause 2 true },
               keys := { s.keys with wakeRequest := true } }
    else s
  else if !s.ctlServes || s.keys.scanning then s
  else s.setKeys (fun k => { k with
    scanning := true, activeAt := t, lastScan := none, scanEnd := 0, idleScans := 0,
    scanPeriod := s.numAt Adr.scanPeriodMs })

def execKeyActivity (t : Nat) (s : State) : Host.Outcome State Fault Refusal := .next (doKeyActivity t s)

/-- R292 to R295: a scan that starts at `t` and reads the keys `pressed`. Its events are decided at its end. -/
def doKeyScan (t : Nat) (pressed : List Nat) (s : State) : State :=
  if !(s.scanDue t) then s.advance t
  else
    let s := (s.advance t).applyMatrix t
    let used := s.keysInUse
    let settle := s.numAt Adr.settleUs
    let fin := t + s.numAt Adr.keyColumns * (settle + 1) * 1000
    let s := s.setKeys (fun k => { k with
      lastScan := some t, scanEnd := fin, scanPeriod := s.numAt Adr.scanPeriodMs })
    let s := s.advance fin
    let (runs, changes) :=
      debounce (s.numAt Adr.debounceScans) s.keys.pressed s.keys.runs (scanSamples used settle t pressed)
    let s := s.setKeys (fun k => { k with runs := runs })
    let s := (changes.foldl (fun s x => s.keyChange x fin) s).bump Adr.scans
    s.restScan (s.keys.pressed.isEmpty && used.all (fun c => !(pressed.contains c)))

def execKeyScan (t : Nat) (pressed : List Nat) (s : State) : Host.Outcome State Fault Refusal :=
  .next (doKeyScan t pressed s)

/-- R304: the lock that was asked for begins at a scan boundary. -/
def doLockEntry (t : Nat) (s : State) : State :=
  let s := s.advance t
  match s.keys.lock with
  | .requested cause => if s.ctlServes && s.keys.scanEnd ≤ s.tick.now then s.enterLock cause s.tick.now else s
  | .off | .on => s

def execLockEntry (t : Nat) (s : State) : Host.Outcome State Fault Refusal := .next (doLockEntry t s)

/-- R305: the timer of the unlock sequence expires. -/
def doUnlockTimeout (s : State) : State :=
  match s.keys.unlockAt with
  | none => s
  | some t =>
    if s.keys.lock != .on || s.dormant then s
    else ((s.advance t).bump Adr.unlockFailures).setKeys (fun k => { k with progress := 0, unlockAt := none })

def execUnlockTimeout (s : State) : Host.Outcome State Fault Refusal := .next (doUnlockTimeout s)

/-! ## Direct buttons (R296) -/

/-- R296: a debounced change of a button, decided at `t`. -/
def State.buttonChange (s : State) (x : Sample) (t : Nat) : State :=
  let event := bitAt (s.numAt Adr.btnEnable) x.code && !(s.keys.btnMute.contains x.code)
  let masked := s.locked 1
  let s := s.setKeys (fun k => { k with
    btnPressed := if x.down then insertAsc k.btnPressed x.code else without k.btnPressed x.code,
    btnReported := if x.down then (if event && !masked then insertAsc k.btnReported x.code else k.btnReported)
      else without k.btnReported x.code,
    btnMute := if x.down then k.btnMute else without k.btnMute x.code })
  if !event then s
  else if masked then s.bump Adr.suppressedEvents
  else s.queueEvent (if x.down then 3 else 4) false x.code 0 (s.stampAt x.time) t

/-- R296: whether button `b` reads pressed at pin levels `levels`. -/
def State.buttonDown (s : State) (levels b : Nat) : Bool :=
  bitAt levels b != bitAt (s.numAt Adr.btnPolarity) b

/-- R296: the buttons are sampled at `t`, at pin levels `levels`. -/
def doButtonSample (t levels : Nat) (s : State) : State :=
  let s := s.advance t
  let due := match s.keys.btnLast with
    | none => true
    | some p => p + s.numAt Adr.btnPeriodMs * 1000000 ≤ t
  if !(s.ctlServes && due) then s
  else
    let xs := (List.range 16).map (fun b => ({ code := b, down := s.buttonDown levels b, time := t } : Sample))
    let (runs, changes) := debounce (s.numAt Adr.btnDebounce) s.keys.btnPressed s.keys.btnRuns xs
    let s := s.setKeys (fun k => { k with btnLast := some t, btnRuns := runs })
    changes.foldl (fun s x => s.buttonChange x t) s

def execButtonSample (t levels : Nat) (s : State) : Host.Outcome State Fault Refusal :=
  .next (doButtonSample t levels s)

/-! ## Encoders (R297 to R299) -/

def State.encoderAt (s : State) (e : Nat) : Encoder := nth s.keys.encoders e Encoder.zero
def State.setEncoder (s : State) (e : Nat) (f : Encoder → Encoder) : State :=
  s.setKeys (fun k => { k with encoders := modifyAt k.encoders e f })

/-- R297: the count of a Gray-code step from levels (a, b): +1 where A leads B. -/
def grayStep (a b a' b' : Bool) : Int :=
  if a != a' then (if a' != b then 1 else -1) else if b != b' then (if b' == a then 1 else -1) else 0

/-- R298: ENC_POSITION counts one detent and wraps. -/
def State.countDetent (s : State) (e : Nat) (d : Int) : State :=
  let x := s.intAt 32 (Adr.encPosition e) + d
  let s := s.setNum (Adr.encPosition e) (ofSigned 32 x)
  if x < -(2 ^ 31) || 2 ^ 31 ≤ x then s.setNum (Adr.encWrap e) 1 else s

/-- R299: a detent at `t` opens a report window or is counted in the open one; none is open under the lock. -/
def State.countWindow (s : State) (e : Nat) (d : Int) (t : Nat) : State :=
  if s.locked 2 then s
  else s.setEncoder e (fun x => { x with
    windowAt := some (x.windowAt.getD t), net := if x.windowAt.isSome then x.net + d else d,
    windowEnd := if x.windowAt.isSome then x.windowEnd else t + s.numAt (Adr.encReportMs e) * 1000000 })

/-- R297: one accepted step of encoder `e`, counted with its sign. -/
def State.countStep (s : State) (e : Nat) (step : Int) (t : Nat) : State :=
  let d := if s.numAt (Adr.encDirection e) == 1 then -step else step
  let sub := (s.encoderAt e).sub + d
  let per : Int := s.numAt (Adr.countsPerDetent e)
  if per ≤ sub || sub ≤ -per then
    let up : Int := if 0 < sub then 1 else -1
    ((s.setEncoder e (fun x => { x with sub := 0 })).countDetent e up).countWindow e up t
  else s.setEncoder e (fun x => { x with sub := sub })

/-- R297: encoder `e` accepts the levels (a, b) at `t`. -/
def doEncoderStep (t : Nat) (e : Fin 8) (a b : Bool) (s : State) : State :=
  let s := s.advance t
  let x := s.encoderAt e.val
  if !s.ctlServes then s
  else
    let s := s.setEncoder e.val (fun y => { y with a := a, b := b, lastStep := some t })
    if !(s.flagAt (Adr.encEnable e.val)) then s
    else if x.a != a && x.b != b then s.bump Adr.encErrors
    else if x.a == a && x.b == b then s
    else s.countStep e.val (grayStep x.a x.b a b) t

/-- R297: whether a step at `t` follows the previous one faster than the filter can accept (R4). -/
def State.stepTooFast (s : State) (e t : Nat) : Bool :=
  match (s.encoderAt e).lastStep with
  | none => false
  | some p => t < p + (s.numAt (Adr.encFilterUs e) + 1) * 1000

/-- ENCODER_STEP; steps faster than the rated conditions stop the model (R297, R4). -/
def execEncoderStep (t : Nat) (e : Fin 8) (a b : Bool) (s : State) : Host.Outcome State Fault Refusal :=
  if s.ctlServes && s.stepTooFast e.val t then .fault .outsideRating else .next (doEncoderStep t e a b s)

/-- R299: the report window of encoder `e` closes. -/
def doEncoderReport (e : Fin 8) (s : State) : State :=
  let x := s.encoderAt e.val
  match x.windowAt with
  | none => s
  | some first =>
    if !s.ctlServes then s
    else
      let s := (s.advance x.windowEnd).setEncoder e.val (fun y => { y with windowAt := none, net := 0 })
      if x.net == 0 then s
      else s.queueEvent 5 false e.val (ofSigned 16 x.net) (s.stampAt first) x.windowEnd

def execEncoderReport (e : Fin 8) (s : State) : Host.Outcome State Fault Refusal := .next (doEncoderReport e s)

/-! ## Start-up (R306) -/

/-- R306: what exit from DORMANT and controller start-up have in common. -/
def Keys.restart (k : Keys) : Keys :=
  { k with
    scanning := false, lastScan := none, scanEnd := 0, idleScans := 0, pressed := [], reported := [], mute := [],
    runs := [], btnLast := none, btnPressed := [], btnReported := [], btnMute := [], btnRuns := [], fifo := [],
    encoders := k.encoders.map (fun (e : Encoder) => { e with windowAt := none, net := 0, lastStep := none }),
    wakeRequest := false }

/-- R300, R304, R306: controller start-up after a reset that reaches the controller. -/
def State.startKeys (s : State) : State :=
  let s := { s with keys := Keys.zero }
  let s := (List.range 8).foldl (fun s e => s.setNum (Adr.encPosition e) 0) s
  if s.flagAt Adr.lockAtStart then s.requestLock 1 s.tick.now else s

end Sys2Proof.Machine
end

