-- ==== Sys2Proof/Machine/Thresholds.lean ====
section
/-! DEFINITION. Machine/Thresholds: the shared threshold rule (R338) of thermal, supply, battery and touch-noise
monitoring. -/

namespace Sys2Proof.Machine

/-- One sample against a threshold whose crossing is decided by `hit` and whose re-arming by `clear`, with a dwell
count: the new state, and whether it was crossed (some true) or re-armed (some false). -/
def Crossing.sample (c : Crossing) (hit clear : Bool) (dwell : Nat) : Crossing × Option Bool :=
  if if c.crossed then clear else hit then
    if dwell ≤ c.run + 1 then ({ crossed := !c.crossed, run := 0 }, some (!c.crossed))
    else ({ c with run := c.run + 1 }, none)
  else ({ c with run := 0 }, none)

/-- An upward threshold (R338). -/
def Crossing.up (c : Crossing) (threshold hyst value : Int) (dwell : Nat) : Crossing × Option Bool :=
  c.sample (threshold ≤ value) (value ≤ threshold - hyst) dwell

/-- A downward threshold (R338). -/
def Crossing.down (c : Crossing) (threshold hyst value : Int) (dwell : Nat) : Crossing × Option Bool :=
  c.sample (value ≤ threshold) (threshold + hyst ≤ value) dwell

/-- The mailbox port that carries platform message class `k` (R349), if any. -/
def State.carrier (s : State) (k : Nat) : Option Nat :=
  ([1, 2, 3, 4, 5, 6, 7] : List Nat).find? (fun m => bitAt (s.numAt (Adr.platPortClasses (m - 1))) k)

end Sys2Proof.Machine
end

