-- ==== Sys2Proof/Machine/Touch.lean ====
section
/-! DEFINITION. Machine/Touch: the touch panels (chapter 15): frames and their schedules, frequency hopping, the quiet
intervals of a display sync input, baselines, contacts and reports, calibration and the self-tests. -/

namespace Sys2Proof.Machine

/-- Whether the touch subsystem runs (R308, R323). -/
def State.touchServes (s : State) : Bool := s.part.variant.touch && s.ctlServes

/-! ## The reference map (R322) -/

/-- Offset of the self counts of a map. -/
def mapSelf (m : Bytes) : Nat := 16 + 2 * field m 5 1 * field m 7 1

/-- Length of a map. -/
def mapLength (m : Bytes) : Nat := mapSelf m + 2 * (field m 5 1 + field m 7 1) + 4

/-- MAP_STATUS of panel `p` (R322). -/
def State.mapStatusOf (s : State) (p : Nat) : Nat :=
  let m := nth s.nvm.refMaps p []
  if m.isEmpty then 1
  else if m.length < 20 || m.length != mapLength m || field m (m.length - 4) 4 != crc32c (m.take (m.length - 4)) then 2
  else if field m 4 1 != s.numAt (Adr.driveFirst p) || field m 5 1 != s.numAt (Adr.driveCount p) ||
      field m 6 1 != s.numAt (Adr.senseFirst p) || field m 7 1 != s.numAt (Adr.senseCount p) then 3
  else 0

/-- `k` U16 fields of a byte string from an offset. -/
def words16 (m : Bytes) (off k : Nat) : List Nat := (List.range k).map (fun i => field m (off + 2 * i) 2)

/-! ## Settings in force (R310) -/

/-- The settings of panel `p` as they stand, for a frame in quiet mode or not. -/
def State.panelCfg (s : State) (p : Nat) (quiet : Bool) : PanelCfg :=
  { drives := s.numAt (Adr.driveCount p), senses := s.numAt (Adr.senseCount p), xRes := s.numAt (Adr.xRes p),
    yRes := s.numAt (Adr.yRes p), axis := s.numAt (Adr.axisFlags p), quiet := quiet,
    freqs := words16 (s.bytesAt (Adr.freqTable p)) 0 8, enabled := s.numAt (Adr.freqEnable p),
    burst := s.numAt (Adr.burstCycles p), listen := s.numAt (Adr.listenUs p),
    noiseThreshold := s.numAt (Adr.noiseThreshold p), noiseHyst := s.numAt (Adr.noiseHyst p),
    noiseDwell := s.numAt (Adr.noiseDwell p), threshold := s.numAt (Adr.touchThreshold p),
    hyst := s.numAt (Adr.touchHyst p), debounce := s.numAt (Adr.touchDebounce p),
    lift := s.numAt (Adr.liftDebounce p), maxDist := s.numAt (Adr.trackMaxDist p),
    baseInterval := s.numAt (Adr.baselineInterval p), baseStep := s.numAt (Adr.baselineStep p),
    negFrames := s.numAt (Adr.negRecalFrames p), openPct := s.numAt (Adr.openLimitPct p),
    shortPct := s.numAt (Adr.shortLimitPct p), quietDelay := s.numAt (Adr.quietDelayUs p),
    quietUs := s.numAt (Adr.quietUs p) }

/-- The lowest-indexed enabled entry of FREQ_TABLE (R314). -/
def PanelCfg.firstFreq (c : PanelCfg) : Nat := ((bitsOf 8 c.enabled).head?).getD 0

/-- Time of the drive steps of a frame, in ns × kHz (R311). -/
def stepsScaled (drives burst f : Nat) : Nat := drives * (burst * 1000000 + 2000 * f)

/-! ## Reports (R320, R321) -/

/-- R318: X and Y of a position in 1/256 node. -/
def PanelCfg.place (c : PanelCfg) (x y : Nat) : Nat × Nat :=
  let scale := fun (v res count : Nat) =>
    if count ≤ 1 then 0
    else
      let den := (count - 1) * 256
      min ((2 * (v * (res - 1)) + den) / (2 * den)) (res - 1)
  let px := scale x c.xRes c.senses
  let py := scale y c.yRes c.drives
  let swap := bitAt c.axis 0
  let (x1, xr) := if swap then (py, c.yRes) else (px, c.xRes)
  let (y1, yr) := if swap then (px, c.xRes) else (py, c.yRes)
  (if bitAt c.axis 1 then xr - 1 - x1 else x1, if bitAt c.axis 2 then yr - 1 - y1 else y1)

/-- The 12 bytes of a contact in a report (R320). -/
def Contact.bytes (k : Contact) (c : PanelCfg) : Bytes :=
  let (x, y) := c.place k.x k.y
  leBytes 1 k.id ++ leBytes 1 (k.state + 128 * b2n k.atStart) ++ leBytes 2 x ++ leBytes 2 y ++
    leBytes 2 (min k.strength 65535) ++ leBytes 1 k.area ++ leBytes 3 0

/-- Contacts in ascending order of their IDs. -/
def sortContacts (ks : List Contact) : List Contact :=
  ((List.range 10).map (fun i => ks.filter (fun k => k.id == i))).flatten

/-- R320: a report of panel `p` that lists `ks`, stamped. -/
def State.reportTouch (s : State) (p : Nat) (ks : List Contact) (st : Stamp) (synthetic : Bool) : Bytes :=
  let x := s.panelAt p
  let c := x.cfg.getD (s.panelCfg p false)
  let lost := 16 ≤ x.reports.length
  let flags := b2n (ks.any (fun k => k.atStart)) + 2 * b2n x.noisy + 4 * b2n x.hopped + 8 * b2n lost +
    16 * b2n x.fallback + 32 * b2n st.unticked + 64 * b2n synthetic
  padTo (leBytes 1 1 ++ leBytes 1 p ++ leBytes 2 flags ++ leBytes 4 x.nextSeq ++ leBytes 8 st.tick ++
    leBytes 4 st.offset ++ leBytes 1 x.freq ++ leBytes 1 ks.length ++ leBytes 2 0 ++ leBytes 4 x.frameSeq ++
    leBytes 4 0 ++ ((sortContacts ks).map (fun k => k.bytes c)).flatten) 152 0

/-- R321, R351: a report is held, the oldest being discarded from a full buffer, and queued for the mailbox port that
carries TOUCH. -/
def State.holdReport (s : State) (p : Nat) (b : Bytes) : State :=
  let x := s.panelAt p
  let full := 16 ≤ x.reports.length
  let gone := if full then x.reports.take 1 else []
  let s := s.setPanel p (fun y => { y with
    reports := y.reports.drop gone.length ++ [{ seq := y.nextSeq, bytes := b }],
    nextSeq := (y.nextSeq + 1) % 2 ^ 32, hopped := false })
  let s := s.bump (Adr.reports p)
  let s := if full then s.bump (Adr.reportsLost p) else s
  let s := gone.foldl (fun s r => { s with host := { s.host with mailboxes := s.host.mailboxes.map (fun (m : Mailbox) =>
    { m with touch := m.touch.filter (· != (p, r.seq)) }) } }) s
  match s.carrier 1 with
  | none => s
  | some m => s.setMailbox m (fun y => { y with touch := y.touch ++ [(p, x.nextSeq)] })

/-- R321: reports not later than `q` are freed. -/
def State.ackReports (s : State) (p q : Nat) : State :=
  s.setPanel p (fun x => { x with reports := x.reports.filter (fun r => later32 r.seq q) })

/-! ## Calibration (R323, R324) -/

/-- R323: calibration of panel `p` begins. -/
def State.startCalibration (s : State) (p : Nat) : State :=
  s.setPanel p (fun x => { x with
    state := .calibrating, cfg := none, frameStart := none, lastStart := none, hopTo := none, hopped := false,
    noisy := false, noise := Crossing.zero, baselines := List.replicate 8 [], calibrated := [], baseCount := 0,
    negRuns := [], contacts := [], candidates := [], atStart := [], atStartFirst := false, quiet := false,
    fallback := false, fallbackWanted := false, lastEdge := none, edges := [], aligned := false, goodEdges := 0 })

/-- R325: the bytes of SELFTEST_RESULT without findings. -/
def emptyResult (status p : Nat) : Bytes := padTo (leBytes 1 status ++ leBytes 1 p) 88 0

/-- R323, R325: panel `p` stops; a self-test in progress ends ABORTED. -/
def State.stopPanel (s : State) (p : Nat) : State :=
  s.setPanel p (fun x => { x with
    state := .off, frameStart := none, lastStart := none, contacts := [], candidates := [], baselines := [],
    calibrated := [], noisy := false, hopped := false, quiet := false, fallback := false, fallbackWanted := false, edges := [],
    aligned := false, result := if x.state == .selfTest then emptyResult 4 p else x.result })

/-- What a write of PANEL_ENABLE brings about (R323). -/
def State.settlePanel (s old : State) (p : Nat) : State :=
  let was := old.flagAt (Adr.panelEnable p)
  let now := s.flagAt (Adr.panelEnable p)
  if was == now then s
  else if now then (if s.touchServes then s.startCalibration p else s)
  else s.stopPanel p

/-- R323: calibration of every enabled panel. -/
def State.startTouch (s : State) : State :=
  (List.range 4).foldl (fun s p =>
    if s.touchServes && s.flagAt (Adr.panelEnable p) then s.startCalibration p else s) s

/-- R323: in DORMANT the touch subsystem is unpowered. -/
def State.stopTouch (s : State) : State :=
  (List.range 4).foldl (fun s p => (s.stopPanel p).setPanel p (fun x => { x with reports := [] })) s

/-- The entry that calibration scans next: enabled entries in ascending order, then 8, the reference frequency, with a
VALID map (R323). -/
def State.nextCalibration (s : State) (p : Nat) : Option Nat :=
  let done := (s.panelAt p).calibrated.map (·.1)
  let want := bitsOf 8 (s.numAt (Adr.freqEnable p)) ++ (if s.mapStatusOf p == 0 then [8] else [])
  want.find? (fun k => !(done.contains k))

/-- The lower median of a list (R324). -/
def lowerMedian (xs : List Nat) : Nat := nth (xs.mergeSort (· ≤ ·)) ((xs.length - 1) / 2) 0

/-- R324: the baselines of one frequency: raw counts, but for a node present at start g_i × ref, with g_i the quotient
`num` / `den`. -/
def calibratedBase (present : List Nat) (ref raw : List Nat) (num den : Nat) : List Nat :=
  raw.zipIdx.map (fun (e : Nat × Nat) =>
    if present.contains e.2 then min ((2 * num * nth ref e.2 0 + den) / (2 * den)) 65535 else e.1)

/-- R324: calibration ends. A median of 0 leaves g without a value: a free numerator over 1 (log 8). -/
def State.endCalibration (s : State) (p t : Nat) : State :=
  let x := s.panelAt p
  let c := x.cfg.getD (s.panelCfg p false)
  let nodes := c.drives * c.senses
  let m := nth s.nvm.refMaps p []
  let ref := words16 m 16 nodes
  let (free, s) := if lowerMedian ref == 0 then s.takeFree 65536 else (0, s)
  let ratio := fun (raw : List Nat) =>
    if lowerMedian ref == 0 then (free, 1) else (lowerMedian raw, lowerMedian ref)
  let present := match x.calibrated.find? (fun e => e.1 == 8) with
    | none => []
    | some (_, raw) =>
      let (num, den) := ratio raw
      (List.range nodes).filter (fun i => c.threshold * den + nth raw i 0 * den ≤ num * nth ref i 0)
  let base := (List.range 8).map (fun k =>
    match x.calibrated.find? (fun e => e.1 == k) with
    | none => []
    | some (_, raw) => if present.isEmpty then raw else calibratedBase present ref raw (ratio raw).1 (ratio raw).2)
  s.setPanel p (fun y => { y with
    state := .active, baselines := base, calibrated := [], freq := c.firstFreq, scanFreq := c.firstFreq,
    lastStart := none, negRuns := [], baseCount := 0, atStart := present, atStartFirst := true, waitFrom := t })

/-! ## Frame starts (R312, R314, R315) -/

/-- Whether panel `p` runs without a fallback at its next frame start (R315). -/
def Panel.fallsBack (x : Panel) : Bool := if x.fallback then x.goodEdges < 4 else x.fallbackWanted

/-- NOISE_MODE_EFFECTIVE of the next frame (R314, R315). -/
def State.quietNext (s : State) (p : Nat) : Bool := s.numAt (Adr.noiseMode p) == 1 && !((s.panelAt p).fallsBack)

/-- Frames per second of free and quiet timing (R312). -/
def State.touchRate (s : State) (p : Nat) : Nat :=
  if s.power.state == .standby then s.numAt (Adr.standbyRate p) else s.numAt (Adr.frameRate p)

/-- Whether `t` is at least one frame period after the latest frame start. -/
def State.periodOver (s : State) (p t : Nat) : Bool :=
  match (s.panelAt p).lastStart with
  | none => true
  | some b => 1000000000 ≤ (t - b) * s.touchRate p

/-- R314: where the quiet interval of an edge opens, and where it closes. -/
def PanelCfg.quietFrom (c : PanelCfg) (edge : Nat) : Nat := edge + c.quietDelay * 1000
def PanelCfg.quietTo (c : PanelCfg) (edge : Nat) : Nat := c.quietFrom edge + c.quietUs * 1000

/-- R314: whether a frame of panel `p` starts at `t` in quiet mode: in an interval that opened at least one frame period
after the latest frame start, with room for its first drive step. -/
def State.quietStart (s : State) (p t : Nat) : Bool :=
  let c := s.panelCfg p true
  let f := nth c.freqs c.firstFreq 0
  (s.panelAt p).edges.any (fun e =>
    c.quietFrom e ≤ t && t < c.quietTo e && s.periodOver p (c.quietFrom e) &&
      stepsScaled 1 c.burst f ≤ (c.quietTo e - t) * f)

/-- R314: drive steps that a frame which began at `b` has completed by `t` at `f` kHz: each lies inside one quiet
interval. `edges` are newest first; times are scaled by `f`. -/
def PanelCfg.quietSteps (c : PanelCfg) (f b t : Nat) (edges : List Nat) : Nat :=
  let step := max 1 (stepsScaled 1 c.burst f)
  (edges.foldr (fun e (acc : Nat × Nat) =>
    let lo := max acc.1 (c.quietFrom e * f)
    let n := (min t (c.quietTo e) * f - lo) / step
    (if n == 0 then acc.1 else lo + n * step, acc.2 + n)) (b * f, 0)).2

/-- Whether frames follow the meridian (R312). -/
def State.meridianLocked (s : State) (p : Nat) : Bool :=
  s.numAt (Adr.frameAlign p) == 1 && s.power.state != .standby && !(s.quietNext p)

/-- Whether `t` is a scheduled start of meridian-locked timing (R312). -/
def State.onTouchSchedule (s : State) (p t : Nat) : Bool :=
  match meridianBefore s.tick.history t with
  | none => false
  | some (_, m) =>
    let o := m + s.numAt (Adr.touchPhaseUs p) * 1000
    s.genRuns && o ≤ t && (t - o) % (max 1 (Look.spacing s.valAt p)) == 0

/-- Whether an ACTIVE panel starts a frame at `t` (R312, R314). -/
def State.frameDue (s : State) (p t : Nat) : Bool :=
  if s.meridianLocked p then s.onTouchSchedule p t
  else if s.quietNext p then s.quietStart p t
  else s.periodOver p t

/-- R313, R315: what a frame start of an ACTIVE panel applies: a fallback or its end, and a pending hop. -/
def State.openFrame (s : State) (p t : Nat) : State :=
  let x := s.panelAt p
  let falls := s.numAt (Adr.noiseMode p) == 1 && x.fallsBack
  let quiet := s.quietNext p
  let c := s.panelCfg p quiet
  let hop := if quiet then none else x.hopTo
  let f := if quiet then c.firstFreq else hop.getD x.freq
  let s := if falls && !x.fallback then s.bump (Adr.dsyncFallbacks p) else s
  let s := if hop.isSome then s.bump (Adr.hops p) else s
  s.setPanel p (fun y => { y with
    cfg := some c, quiet := quiet, aligned := s.meridianLocked p, fallback := falls, fallbackWanted := falls,
    goodEdges := if x.fallback && !falls then 0 else y.goodEdges, freq := f, scanFreq := f, hopTo := none,
    hopped := y.hopped || hop.isSome, noisy := if hop.isSome || quiet then false else y.noisy,
    noise := if hop.isSome then Crossing.zero else y.noise, frameStart := some t, lastStart := some t })

/-- R311, R312, R323: a frame of panel `p` starts at `t`. -/
def doTouchFrameStart (t : Nat) (p : Fin 4) (s : State) : State :=
  let s := s.advance t
  let x := s.panelAt p.val
  if !s.touchServes then s
  else
    match x.state with
    | .off | .selfTest => s
    | .calibrating =>
      match x.frameStart, s.nextCalibration p.val with
      | none, some k => s.setPanel p.val (fun y => { y with
          cfg := some (s.panelCfg p.val false), frameStart := some t, lastStart := some t, scanFreq := k,
          freq := if k < 8 then k else y.freq })
      | _, _ => s
    | .active =>
      if x.frameStart.isSome then
        (if s.meridianLocked p.val && s.onTouchSchedule p.val t && x.frameStart != some t then
          s.bump (Adr.framesSkipped p.val) else s)
      else if s.frameDue p.val t then s.openFrame p.val t
      else s

def execTouchFrameStart (t : Nat) (p : Fin 4) (s : State) : Host.Outcome State Fault Refusal :=
  .next (doTouchFrameStart t p s)

/-! ## The listen slot (R313) -/

/-- R313: the candidate entry of a slot. -/
def PanelCfg.candidate (c : PanelCfg) (levels : List Nat) : Option Nat :=
  let best := (bitsOf 8 c.enabled).foldl (fun (b : Option Nat) k =>
    match b with
    | none => some k
    | some j => if nth levels k 0 < nth levels j 0 then some k else some j) none
  best.filter (fun k => nth levels k 0 + c.noiseHyst ≤ c.noiseThreshold)

/-- R313: the listen slot of an ACTIVE panel. The entry in use is no entry to hop to. -/
def State.listenSlot (s : State) (p : Nat) (c : PanelCfg) (levels : List Nat) : State :=
  let x := s.panelAt p
  let (n, ev) := x.noise.up c.noiseThreshold c.noiseHyst (nth levels x.freq 0 : Nat) c.noiseDwell
  let looking := ev == some true || (x.noisy && ev != some false)
  let cand := if looking then (c.candidate levels).filter (· != x.freq) else none
  s.setPanel p (fun y => { y with
    noiseLevels := levels, noise := n, hopTo := if cand.isSome then cand else y.hopTo,
    noisy := looking && cand.isNone })

/-! ## Peaks and contacts (R318, R319) -/

/-- The delta at (d, s) of a panel, 0 outside it. -/
def deltaAt (drives senses : Nat) (ds : List Int) (d s : Int) : Int :=
  if 0 ≤ d && d < drives && 0 ≤ s && s < senses then nth ds (d * senses + s).toNat 0 else 0

/-- The eight neighbours' offsets, drive first. -/
def around : List (Int × Int) := [(-1, -1), (-1, 0), (-1, 1), (0, -1), (0, 1), (1, -1), (1, 0), (1, 1)]

/-- R318: whether the node at (d, s) is a peak: above its neighbours, equal deltas going to the lower index. -/
def isPeak (drives senses : Nat) (ds : List Int) (d s : Int) : Bool :=
  let v := deltaAt drives senses ds d s
  around.all (fun o =>
    let w := deltaAt drives senses ds (d + o.1) (s + o.2)
    let inside := 0 ≤ d + o.1 && d + o.1 < drives && 0 ≤ s + o.2 && s + o.2 < senses
    w < v || (w == v && inside && (0 < o.1 || (o.1 == 0 && 0 < o.2))))

/-- A peak of a frame: its node index, position in 1/256 node, delta, and area (R318). -/
structure Peak where
  node : Nat
  x : Nat
  y : Nat
  strength : Nat
  area : Nat
  deriving DecidableEq, Repr

/-- R318: the offset from the node that a difference `c` of sums out of `d` gives, in 1/256 node. -/
def peakOffset (c d : Int) : Int := c.sign * ((2 * (c.natAbs : Int) * 256 + d) / (2 * d))

/-- R318: the peak at node `i`. -/
def peakAt (drives senses : Nat) (ds : List Int) (level : Int) (i : Nat) : Peak :=
  let d : Int := (i / senses : Nat)
  let s : Int := (i % senses : Nat)
  let v := fun (a b : Int) => max (deltaAt drives senses ds (d + a) (s + b)) 0
  let sum := fun (xs : List (Int × Int)) => xs.foldl (fun (acc : Int) o => acc + v o.1 o.2) 0
  let total := sum ((0, 0) :: around)
  let cx := sum [(-1, 1), (0, 1), (1, 1)] - sum [(-1, -1), (0, -1), (1, -1)]
  let cy := sum [(1, -1), (1, 0), (1, 1)] - sum [(-1, -1), (-1, 0), (-1, 1)]
  { node := i, x := (s * 256 + peakOffset cx total).toNat, y := (d * 256 + peakOffset cy total).toNat,
    strength := (deltaAt drives senses ds d s).toNat,
    area := countIf (fun o => level ≤ deltaAt drives senses ds (d + o.1) (s + o.2)) ((0, 0) :: around) }

/-- The peaks of a frame that qualify to continue a contact, in node order (R318). -/
def peaksOf (c : PanelCfg) (ds : List Int) : List Peak :=
  let level : Int := (c.threshold : Int) - c.hyst
  ((List.range (c.drives * c.senses)).filter (fun i =>
    level ≤ nth ds i 0 && isPeak c.drives c.senses ds ((i / c.senses : Nat) : Int) ((i % c.senses : Nat) : Int))).map
    (peakAt c.drives c.senses ds level)

/-- R319: the distance of two positions. -/
def nodeDist (x1 y1 x2 y2 : Nat) : Nat :=
  max (((x1 : Int) - x2).natAbs) (((y1 : Int) - y2).natAbs)

/-- R319: a matching of `n` things to peaks: pairs within reach, in ascending distance, then by the order of the
things, then by node index, each at most once. The answer lists (thing, peak) positions. -/
def matchPairs (dist : Nat → Nat → Nat) (reach n m : Nat) : List (Nat × Nat) :=
  let pairs := ((List.range n).map (fun i => (List.range m).map (fun j => (i, j)))).flatten
  let near := pairs.filter (fun e => dist e.1 e.2 ≤ reach)
  let sorted := near.mergeSort (fun e f => dist e.1 e.2 ≤ dist f.1 f.2)
  sorted.foldl (fun (acc : List (Nat × Nat)) e =>
    if acc.any (fun a => a.1 == e.1 || a.2 == e.2) then acc else acc ++ [e]) []

/-- R319: a tracked contact after a frame. -/
def Contact.track (k : Contact) (lift : Nat) (peak : Option Peak) : Contact :=
  match peak with
  | some q => { k with x := q.x, y := q.y, strength := q.strength, area := q.area, state := 2, lift := 0 }
  | none => { k with lift := k.lift + 1, state := if lift ≤ k.lift + 1 then 3 else 2 }

/-- The lowest free ID (R319). -/
def freeId (ks : List Contact) : Nat :=
  ((List.range 10).find? (fun i => ks.all (fun k => k.id != i))).getD 0

/-- R319: the contact that a peak becomes. -/
def Peak.touchDown (q : Peak) (id : Nat) (early : Bool) : Contact :=
  { id := id, x := q.x, y := q.y, strength := q.strength, area := q.area, state := 1, lift := 0, atStart := early }

/-- What a frame makes of the contacts and candidates: contacts, candidates, and how many were discarded. -/
structure Tracked where
  contacts : List Contact
  candidates : List Candidate
  discarded : Nat
  deriving DecidableEq, Repr

/-- R319: the candidates of a frame that become contacts: of those ready, the `room` strongest, ties to the lower node
index, in node order. -/
def strongest (room : Nat) (ready : List Peak) : List Peak :=
  let best := (ready.mergeSort (fun a b => b.strength ≤ a.strength)).take room
  ready.filter best.contains

/-- R318, R319, R324: one frame's tracking. `atStart` are nodes whose peaks need no debounce. -/
def trackFrame (c : PanelCfg) (contacts : List Contact) (cands : List Candidate) (atStart : List Nat)
    (peaks : List Peak) : Tracked :=
  let cs := contacts.toArray
  let ps := peaks.toArray
  let pairs := matchPairs (fun i j =>
    match cs[i]?, ps[j]? with
    | some k, some q => nodeDist k.x k.y q.x q.y
    | _, _ => 0) c.maxDist contacts.length peaks.length
  let kept := contacts.zipIdx.map (fun (e : Contact × Nat) =>
    e.1.track c.lift ((pairs.find? (fun a => a.1 == e.2)).bind (fun a => peaks[a.2]?)))
  let fresh := (peaks.zipIdx.filter (fun e => c.threshold ≤ e.1.strength && pairs.all (fun a => a.2 != e.2))).map (·.1)
  let seenBy := matchPairs (fun i j =>
    match cands[i]?, fresh[j]? with
    | some k, some q => nodeDist k.x k.y q.x q.y
    | _, _ => 0) c.maxDist cands.length fresh.length
  let seen := fun (j : Nat) =>
    match (seenBy.find? (fun a => a.2 == j)).bind (fun a => cands[a.1]?) with
    | some k => k.seen + 1
    | none => 1
  let ready := (fresh.zipIdx.filter (fun e => c.debounce ≤ seen e.2 || atStart.contains e.1.node)).map (·.1)
  let chosen := strongest (10 - kept.length) ready
  let all := chosen.foldl (fun (ks : List Contact) q => ks ++ [q.touchDown (freeId ks) (atStart.contains q.node)]) kept
  { contacts := all,
    candidates := (fresh.zipIdx.filter (fun e => !(chosen.contains e.1))).map
      (fun e => { x := e.1.x, y := e.1.y, seen := seen e.2 }),
    discarded := ready.length - chosen.length }

/-! ## Baselines (R316, R317) -/

/-- R316: a baseline moved toward its raw count. -/
def moveBase (step base raw : Nat) : Nat :=
  if base ≤ raw then base + min (raw - base) step else base - min (base - raw) step

/-- The baselines of entry `f` replaced. -/
def State.setBaseline (s : State) (p f : Nat) (g : List Nat → List Nat) : State :=
  s.setPanel p (fun x => { x with baselines := modifyAt x.baselines f g })

/-- R316: every BASELINE_INTERVAL frames, where the panel has no contact and no candidate peak. -/
def State.updateBaselines (s : State) (p : Nat) (c : PanelCfg) (f : Nat) (raw : List Nat) (calm : Bool) : State :=
  let n := (s.panelAt p).baseCount + 1
  if n < c.baseInterval then s.setPanel p (fun x => { x with baseCount := n })
  else
    let s := s.setPanel p (fun x => { x with baseCount := 0 })
    if calm then s.setBaseline p f (fun bs => List.zipWith (moveBase c.baseStep) (padTo bs raw.length 0) raw) else s

/-- R317: nodes with persistent negative deltas. -/
def State.recalibrate (s : State) (p : Nat) (c : PanelCfg) (f : Nat) (raw : List Nat) (ds : List Int) : State :=
  let runs := List.zipWith (fun (r : Nat) (d : Int) => if d ≤ -(c.threshold : Int) then r + 1 else 0)
    (padTo (s.panelAt p).negRuns ds.length 0) ds
  if runs.any (fun r => c.negFrames ≤ r) then
    let s := s.setBaseline p f (fun bs => (List.zip (padTo bs raw.length 0) (List.zip raw ds)).map
      (fun (e : Nat × Nat × Int) => if e.2.2 < (c.threshold : Int) - c.hyst then e.2.1 else e.1))
    (s.setPanel p (fun x => { x with negRuns := [] })).bump (Adr.negRecals p)
  else s.setPanel p (fun x => { x with negRuns := runs })

/-! ## Frame ends (R311, R316 to R320, R324) -/

/-- Whether a frame that began at `b` can have ended at `t`, at `f` kHz (R311). -/
def frameOver (drives burst listen f b t : Nat) : Bool :=
  b ≤ t && stepsScaled drives burst f + listen * 1000 * f ≤ (t - b) * f

/-- A frame is counted (R320, R326). -/
def State.countFrame (s : State) (p : Nat) : State :=
  (s.setPanel p (fun x => { x with frameSeq := (x.frameSeq + 1) % 2 ^ 32, frameStart := none })).bump
    (Adr.framesScanned p)

/-- The end of a frame of an ACTIVE panel that began at `b`. -/
def State.closeFrame (s : State) (p : Nat) (c : PanelCfg) (b : Nat) (raw levels : List Nat) : State :=
  let x := s.panelAt p
  let f := x.scanFreq
  let base := padTo (nth x.baselines f []) raw.length 0
  let ds := List.zipWith (fun (e r : Nat) => (e : Int) - r) base raw
  let s := (s.countFrame p).setPanel p (fun y => { y with raw := raw, delta := ds })
  let s := if c.quiet then s else s.listenSlot p c levels
  let peaks := peaksOf c ds
  let tr := trackFrame c x.contacts x.candidates (if x.atStartFirst then x.atStart else []) peaks
  let calm := tr.contacts.isEmpty && peaks.all (fun q => q.strength < c.threshold)
  let s := s.bumpBy (Adr.contactsDiscarded p) tr.discarded
  let s := (s.updateBaselines p c f raw calm).recalibrate p c f raw ds
  let s := if tr.contacts.isEmpty then s
    else s.holdReport p (s.reportTouch p tr.contacts (s.stampAt b) false)
  s.setPanel p (fun y => { y with
    contacts := sortContacts (tr.contacts.filter (fun k => k.state != 3)), candidates := tr.candidates,
    atStartFirst := false })

/-- The end of a calibration frame (R323, R324). -/
def State.closeCalibration (s : State) (p t : Nat) (raw levels : List Nat) : State :=
  let k := (s.panelAt p).scanFreq
  let s := (s.countFrame p).setPanel p (fun y => { y with
    calibrated := y.calibrated ++ [(k, raw)], raw := raw, delta := List.replicate raw.length 0, noiseLevels := levels })
  if (s.nextCalibration p).isNone then s.endCalibration p t else s

/-- Frequency in kHz and burst length of entry `k` of panel `p` (8: the reference of the map, R322). -/
def State.scanAt (s : State) (p : Nat) (c : PanelCfg) (k : Nat) : Nat × Nat :=
  if k < 8 then (nth c.freqs k 0, c.burst)
  else
    let m := nth s.nvm.refMaps p []
    (field m 2 2, field m 8 2)

/-- R311: a frame of panel `p` completes. -/
def doTouchFrameEnd (p : Fin 4) (f : TouchFrame) (s : State) : State :=
  let s := s.advance f.t
  let x := s.panelAt p.val
  match x.frameStart, x.cfg with
  | some b, some c =>
    let raw := (padTo f.raw (c.drives * c.senses) 0).map (fun v => min v 65535)
    let levels := (padTo f.noise 8 0).map (fun v => min v 65535)
    let (freq, burst) := s.scanAt p.val c x.scanFreq
    let done := if c.quiet then c.drives ≤ c.quietSteps freq b f.t x.edges else frameOver c.drives burst c.listen freq b f.t
    if !(s.touchServes && done) then s
    else
      match x.state with
      | .off | .selfTest => s
      | .calibrating => s.closeCalibration p.val f.t raw levels
      | .active => s.closeFrame p.val c b raw levels
  | _, _ => s

def execTouchFrameEnd (p : Fin 4) (f : TouchFrame) (s : State) : Host.Outcome State Fault Refusal :=
  .next (doTouchFrameEnd p f s)

/-! ## DSYNC (R314, R315) -/

/-- R314, R315: an edge at `t` for panel `p`. -/
def State.panelEdge (s : State) (p t : Nat) : State :=
  let x := s.panelAt p
  let well := match x.lastEdge with
    | none => false
    | some e => e + 100000 ≤ t && t ≤ e + s.numAt (Adr.dsyncTimeoutMs p) * 1000000
  let c := x.cfg.getD (s.panelCfg p true)
  let from_ := x.frameStart.getD t
  s.setPanel p (fun y => { y with
    lastEdge := some t, edges := t :: y.edges.filter (fun e => from_ < c.quietTo e),
    goodEdges := if well then y.goodEdges + 1 else 1 })

/-- R314: an edge of DSYNC input `input` that has passed the glitch filter. -/
def doDsyncEdge (t : Nat) (input : Fin 4) (falling : Bool) (s : State) : State :=
  let s := s.advance t
  if !s.touchServes then s
  else (List.range 4).foldl (fun s p =>
    if s.numAt (Adr.dsyncInput p) == input.val && s.numAt (Adr.dsyncPolarity p) == b2n falling &&
        (s.panelAt p).state != .off then s.panelEdge p t
    else s) s

def execDsyncEdge (t : Nat) (input : Fin 4) (falling : Bool) (s : State) : Host.Outcome State Fault Refusal :=
  .next (doDsyncEdge t input falling s)

/-- R315: no qualified edge for DSYNC_TIMEOUT_MS. A quiet frame in progress, for which no interval comes any more, is given
up uncounted, so that a next frame start comes (DESIGN CHOICE, log 41). -/
def doDsyncTimeout (t : Nat) (p : Fin 4) (s : State) : State :=
  let s := s.advance t
  let x := s.panelAt p.val
  let since := max x.waitFrom (x.lastEdge.getD 0)
  if s.touchServes && x.state == .active && s.numAt (Adr.noiseMode p.val) == 1 && !x.fallback &&
      since + s.numAt (Adr.dsyncTimeoutMs p.val) * 1000000 ≤ t then
    s.setPanel p.val (fun y => { y with
      fallbackWanted := true, goodEdges := 0, frameStart := if y.quiet then none else y.frameStart })
  else s

def execDsyncTimeout (t : Nat) (p : Fin 4) (s : State) : Host.Outcome State Fault Refusal :=
  .next (doDsyncTimeout t p s)

/-- R315: NOISE_MODE has been written: the panel waits for edges from now on. -/
def State.settleNoise (s old : State) (p : Nat) : State :=
  if old.numAt (Adr.noiseMode p) == s.numAt (Adr.noiseMode p) then s
  else s.setPanel p (fun x => { x with waitFrom := s.tick.now, fallbackWanted := false })

/-! ## Self-tests (R325) -/

/-- Whether SELF_TEST may start on every panel of a mask. -/
def State.testReady (s : State) (mask : Nat) : Bool :=
  (bitsOf 4 mask).all (fun p => (s.panelAt p).state == .active)

/-- R325: the test of panel `p` starts, or ends at once with NO_MAP. -/
def State.startTest (s : State) (p : Nat) : State :=
  if s.mapStatusOf p != 0 then s.setPanel p (fun x => { x with result := emptyResult 3 p })
  else
    let up := (s.panelAt p).contacts.map (fun (k : Contact) => { k with state := 3 })
    let s := s.holdReport p (s.reportTouch p up s.stampNow true)
    s.setPanel p (fun x => { x with
      state := .selfTest, cfg := some (s.panelCfg p x.quiet), contacts := [], candidates := [],
      frameStart := some s.tick.now, atStartFirst := false })

/-- A bitmap of lines by number, in `k` bytes (R325). -/
def lineMap (k : Nat) (ls : List Nat) : Bytes := leBytes k (ls.foldl (fun m l => setBit m l true) 0)

/-- R325: the findings of the tests. -/
def State.testResult (s : State) (p : Nat) (c : PanelCfg) (raw self : List Nat) : Bytes :=
  let m := nth s.nvm.refMaps p []
  let ref := words16 m 16 (c.drives * c.senses)
  let refSelf := words16 m (mapSelf m) (c.drives + c.senses)
  let low := fun (i : Nat) => nth raw i 0 * 100 < c.openPct * nth ref i 0
  let short := fun (i : Nat) => 65535 ≤ nth self i 0 || c.shortPct * nth refSelf i 0 < nth self i 0 * 100
  let d0 := s.numAt (Adr.driveFirst p)
  let s0 := s.numAt (Adr.senseFirst p)
  let openD := (List.range c.drives).filter (fun d => (List.range c.senses).all (fun k => low (d * c.senses + k)))
  let openS := (List.range c.senses).filter (fun k => (List.range c.drives).all (fun d => low (d * c.senses + k)))
  let shortD := (List.range c.drives).filter short
  let shortS := (List.range c.senses).filter (fun k => short (c.drives + k))
  let opens := openD.length + openS.length
  let shorts := shortD.length + shortS.length
  leBytes 1 (if opens + shorts == 0 then 1 else 2) ++ leBytes 1 p ++ leBytes 2 opens ++ leBytes 2 shorts ++
    leBytes 2 0 ++ lineMap 16 (openD.map (· + d0)) ++ lineMap 24 (openS.map (· + s0)) ++
    lineMap 16 (shortD.map (· + d0)) ++ lineMap 24 (shortS.map (· + s0))

/-- R325: the tests of panel `p` complete, with its reference frame and its lines' self counts, drive lines first. -/
def doSelfTestDone (p : Fin 4) (f : TouchFrame) (selfCounts : List Nat) (s : State) : State :=
  let s := s.advance f.t
  let x := s.panelAt p.val
  match x.frameStart, x.cfg with
  | some b, some c =>
    let (freq, burst) := s.scanAt p.val c 8
    let done := frameOver c.drives burst ((c.drives + c.senses) * 20) freq b f.t
    if !(s.touchServes && x.state == .selfTest && done) then s
    else
      let raw := (padTo f.raw (c.drives * c.senses) 0).map (fun v => min v 65535)
      (s.countFrame p.val).setPanel p.val (fun y => { y with
        state := .active, raw := raw, result := s.testResult p.val c raw selfCounts, lastStart := none,
        waitFrom := f.t })
  | _, _ => s

def execSelfTestDone (p : Fin 4) (f : TouchFrame) (selfCounts : List Nat) (s : State) :
    Host.Outcome State Fault Refusal :=
  .next (doSelfTestDone p f selfCounts s)

end Sys2Proof.Machine
end

