-- ==== Sys2Proof/Machine/Platform.lean ====
section
/-! DEFINITION. Machine/Platform: platform management (chapter 16): the power sequencer, temperature channels and the
trip, fans, the vehicle supply and the backup battery, and the platform messages they give. -/

namespace Sys2Proof.Machine

def State.setPlat (s : State) (f : Platform → Platform) : State := { s with plat := f s.plat }

/-! ## Platform events (R346 to R353) -/

/-- R351: a message waits in a queue of 16; the oldest of a full queue is dropped, and the next of its class carries
LOST. -/
def Mailbox.queuePlat (m : Mailbox) (x : PlatMsg) : Mailbox :=
  { m with
    plat := (if 16 ≤ m.plat.length then m.plat.drop 1 else m.plat) ++ [x],
    lost := if 16 ≤ m.plat.length then m.lost ++ (m.plat.take 1).map (·.type) else m.lost }

/-- R349, R353: an event of class `k` (0 THERMAL, 1 SUPPLY, 2 SEQUENCE) at device time `t`, with its 16-byte data. -/
def State.platEvent (s : State) (k t : Nat) (data : Bytes) : State :=
  let data := padTo data 16 0
  let st := s.stampAt t
  let s := s.setNum Adr.platPending (setBit (s.numAt Adr.platPending) k true)
  let s := s.notifyPorts allPorts (if k == 0 then evThermal else if k == 1 then evSupply else evSequenceDone) 0 st data
  match s.carrier (k + 2) with
  | none => s
  | some m =>
    let s := if 16 ≤ (s.mailboxAt m).plat.length then s.bump Adr.platMsgLost else s
    s.setMailbox m (fun y => y.queuePlat { type := k + 3, payload := leBytes 8 st.tick ++ leBytes 4 st.offset ++ data })

/-- R346: a THERMAL event. -/
def State.thermalEvent (s : State) (t channel kind level : Nat) (value threshold : Int) : State :=
  (s.bump Adr.thermalEvents).platEvent 0 t (leBytes 1 channel ++ leBytes 1 kind ++ leBytes 1 level ++ [0] ++
    leBytes 2 (ofSigned 16 value) ++ leBytes 2 (ofSigned 16 threshold))

/-- R347: a SUPPLY event. -/
def State.supplyEvent (s : State) (t source kind level value threshold : Nat) : State :=
  (s.bump Adr.supplyEvents).platEvent 1 t (leBytes 1 source ++ leBytes 1 kind ++ leBytes 1 level ++ [0] ++
    leBytes 2 value ++ leBytes 2 threshold)

/-! ## The sequencer (R327 to R335) -/

/-- One step of a script (R328). -/
structure SeqStep where
  op : Nat
  line : Nat
  arg : Nat
  deriving DecidableEq, Repr

/-- The steps of sequence `k`. -/
def State.script (s : State) (k : Nat) : List SeqStep :=
  let b := s.bytesAt (Adr.seqScript k)
  (List.range (b.length / 8)).map (fun i =>
    { op := field b (8 * i) 1, line := field b (8 * i + 1) 1, arg := field b (8 * i + 4) 4 })

/-- R348: the 16 bytes of a result. -/
def State.seqResult (s : State) (k result step line duration : Nat) : Bytes :=
  leBytes 1 k ++ leBytes 1 result ++ leBytes 1 step ++ leBytes 1 line ++ leBytes 4 duration ++
    leBytes 4 s.plat.enState ++ leBytes 4 s.plat.pgState

/-- R332, R348: a result is written and reported at `t`. -/
def State.reportSeq (s : State) (k result step line duration t : Nat) : State :=
  let b := s.seqResult k result step line duration
  (s.setVal (Adr.seqLastResult k) (.bytes b)).platEvent 2 t b

/-- R332: the running sequence ends at `t`. -/
def State.endSequence (s : State) (result line t : Nat) : State :=
  match s.plat.sequence with
  | none => s
  | some q =>
    let s := s.setPlat (fun x => { x with sequence := none })
    let s := if result == 1 || result == 2 then s.bump Adr.seqFailures else s
    s.reportSeq q.s result q.step line ((t - q.startAt) / 1000) t

/-- R328, R331: the present step has ended at `t`: the next one starts, or the script is over. -/
def State.nextStep (s : State) (t : Nat) : State :=
  match s.plat.sequence with
  | none => s
  | some q =>
    if q.step + 1 < (s.script q.s).length then
      s.setPlat (fun x => { x with sequence := some { q with step := q.step + 1, stepAt := t, begun := false } })
    else s.endSequence 0 255 t

/-- The running sequence and its present step, where that step has operation `op` and has begun as told. -/
def State.atStep (s : State) (op : Nat) (begun : Bool) : Option (Sequence × SeqStep) :=
  match s.plat.sequence with
  | none => none
  | some q =>
    match (s.script q.s)[q.step]? with
    | none => none
    | some x => if s.ctlServes && x.op == op && q.begun == begun then some (q, x) else none

/-- R335: a watched line that a step finds at 1 is armed. -/
def State.armLine (s : State) (line : Nat) : State :=
  if bitAt (s.numAt Adr.pgWatchMask) line then
    s.setPlat (fun x => { x with armed := setBit x.armed line true, lost := setBit x.lost line false })
  else s

/-- R335: a line that a starting sequence expects low is disarmed. -/
def State.disarmLine (s : State) (line : Nat) : State :=
  s.setPlat (fun x => { x with armed := setBit x.armed line false, lost := setBit x.lost line false })

/-- R330, R335: sequence `k` starts within 10 µs of `t` (a free delay, log 8). -/
def State.startSequence (s : State) (k t : Nat) : State :=
  let (delay, s) := s.takeFree 10001
  let low := (s.script k).filter (fun x => x.op == 4 || x.op == 7)
  let s := (low.foldl (fun s x => s.disarmLine x.line) s).bump Adr.seqRuns
  s.setPlat (fun x => { x with
    sequence := some { s := k, step := 0, stepAt := t + delay, startAt := t + delay, begun := false } })

/-- R331: ENABLE_ON and ENABLE_OFF. -/
def State.enableStep (s : State) (op : Nat) (on : Bool) : State :=
  match s.atStep op false with
  | none => s
  | some (q, x) =>
    let s := (s.advance q.stepAt).setPlat (fun y => { y with enState := setBit y.enState x.line on })
    (s.advance (q.stepAt + 1000)).nextStep (q.stepAt + 1000)

def doEnableOn (s : State) : State := s.enableStep 1 true
def execEnableOn (s : State) : Host.Outcome State Fault Refusal := .next (doEnableOn s)

def doEnableOff (s : State) : State := s.enableStep 2 false
def execEnableOff (s : State) : Host.Outcome State Fault Refusal := .next (doEnableOff s)

/-- R331: a WAIT step starts: it ends at once where the level matches, and waits otherwise. -/
def State.waitStep (s : State) (op : Nat) (high : Bool) : State :=
  match s.atStep op false with
  | none => s
  | some (q, x) =>
    let s := s.advance q.stepAt
    if bitAt s.plat.pgState x.line == high then (if high then s.armLine x.line else s).nextStep q.stepAt
    else s.setPlat (fun y => { y with sequence := some { q with begun := true } })

def doWaitPgHigh (s : State) : State := s.waitStep 3 true
def execWaitPgHigh (s : State) : Host.Outcome State Fault Refusal := .next (doWaitPgHigh s)

def doWaitPgLow (s : State) : State := s.waitStep 4 false
def execWaitPgLow (s : State) : Host.Outcome State Fault Refusal := .next (doWaitPgLow s)

/-- R331: a DELAY step starts. -/
def doDelay (s : State) : State :=
  match s.atStep 5 false with
  | none => s
  | some (q, _) => (s.advance q.stepAt).setPlat (fun y => { y with sequence := some { q with begun := true } })

def execDelay (s : State) : Host.Outcome State Fault Refusal := .next (doDelay s)

/-- R331: a DELAY step ends. -/
def doDelayExpiry (s : State) : State :=
  match s.atStep 5 true with
  | none => s
  | some (q, x) =>
    let t := q.stepAt + x.arg * 1000
    (s.advance t).nextStep t

def execDelayExpiry (s : State) : Host.Outcome State Fault Refusal := .next (doDelayExpiry s)

/-- R331, R332: a REQUIRE step samples the level at its start. -/
def State.requireStep (s : State) (op : Nat) (high : Bool) : State :=
  match s.atStep op false with
  | none => s
  | some (q, x) =>
    let s := s.advance q.stepAt
    if bitAt s.plat.pgState x.line == high then
      ((if high then s.armLine x.line else s).advance (q.stepAt + 1000)).nextStep (q.stepAt + 1000)
    else s.endSequence 2 x.line q.stepAt

def doRequirePgHigh (s : State) : State := s.requireStep 6 true
def execRequirePgHigh (s : State) : Host.Outcome State Fault Refusal := .next (doRequirePgHigh s)

def doRequirePgLow (s : State) : State := s.requireStep 7 false
def execRequirePgLow (s : State) : Host.Outcome State Fault Refusal := .next (doRequirePgLow s)

/-- R331, R332: END ends the sequence at its start. -/
def doSeqEnd (s : State) : State :=
  match s.atStep 0 false with
  | none => s
  | some (q, _) => (s.advance q.stepAt).endSequence 0 255 q.stepAt

def execSeqEnd (s : State) : Host.Outcome State Fault Refusal := .next (doSeqEnd s)

/-- R332: a waiting step reaches its ARG. -/
def doWaitTimeout (s : State) : State :=
  match (s.atStep 3 true).orElse (fun _ => s.atStep 4 true) with
  | none => s
  | some (q, x) =>
    let t := q.stepAt + x.arg * 1000
    (s.advance t).endSequence 1 x.line t

def execWaitTimeout (s : State) : Host.Outcome State Fault Refusal := .next (doWaitTimeout s)

/-- R331: a wait for `line` ends at `t` where the new level meets it. -/
def State.wakeWait (s : State) (line : Nat) (high : Bool) (t : Nat) : State :=
  match s.atStep (if high then 3 else 4) true with
  | none => s
  | some (_, x) => if x.line == line then (if high then s.armLine line else s).nextStep t else s

/-- R327, R335: line `line` takes logical level `high` at `t`. -/
def State.pgLevel (s : State) (line : Nat) (high : Bool) (t : Nat) : State :=
  if bitAt s.plat.pgState line == high then s
  else
    let watched := bitAt (s.numAt Adr.pgWatchMask) line
    let s := s.setPlat (fun x => { x with pgState := setBit x.pgState line high })
    let s :=
      if watched && !high && bitAt s.plat.armed line then
        let s := (s.setPlat (fun x => { x with
          armed := setBit x.armed line false, lost := setBit x.lost line true })).bump Adr.pgLosses
        s.supplyEvent t 2 6 line 0 0
      else if watched && high && bitAt s.plat.lost line then
        (s.armLine line).supplyEvent t 2 7 line 0 0
      else s
    s.wakeWait line high t

/-- R327: a power-good pin has held a new level for PG_FILTER_US. -/
def doPgChange (t : Nat) (line : Fin 32) (pinHigh : Bool) (s : State) : State :=
  let s := s.advance t
  let high := pinHigh == bitAt (s.numAt Adr.pgPolarity) line.val
  if s.ctlServes then s.pgLevel line.val high t
  else s.setPlat (fun x => { x with pgState := setBit x.pgState line.val high })

def execPgChange (t : Nat) (line : Fin 32) (pinHigh : Bool) (s : State) : Host.Outcome State Fault Refusal :=
  .next (doPgChange t line pinHigh s)

/-- A write of PG_POLARITY turns the logical level of the lines it changes (log 40). -/
def State.settlePolarity (s old : State) (t : Nat) : State :=
  (List.range 32).foldl (fun s k =>
    if bitAt (s.numAt Adr.pgPolarity) k == bitAt (old.numAt Adr.pgPolarity) k then s
    else s.pgLevel k (!(bitAt s.plat.pgState k)) t) s

/-- R335: a line whose PG_WATCH_MASK bit is cleared is neither armed nor lost. -/
def State.settleWatch (s : State) : State :=
  let m := s.numAt Adr.pgWatchMask
  s.setPlat (fun x => { x with armed := Nat.land x.armed m, lost := Nat.land x.lost m })

/-! ## Temperature readings (R336, R337) -/

/-- Scale of the fixed-point logarithm. -/
def lnScale : Int := 2 ^ 96

/-- Terms of the series z + z³/3 + z⁵/5 + …, with `z` and its powers at the scale. -/
def atanhSum : Nat → Int → Int → Int → Int
  | 0, _, _, _ => 0
  | k + 1, power, z2, odd => power / odd + atanhSum k (power * z2 / lnScale) z2 (odd + 2)

/-- 2 artanh(p / q) at the scale. -/
def twoAtanh (p q : Int) : Int :=
  let z := p * lnScale / q
  2 * atanhSum 80 z (z * z / lnScale) 1

/-- ln(n / d) at the scale, for positive n and d: powers of two are taken out until 2n ≥ d and n ≤ 2d. -/
def lnRatio : Nat → Int → Int → Int
  | 0, n, d => twoAtanh (n - d) (n + d)
  | k + 1, n, d =>
    if 2 * d < n then twoAtanh 1 3 + lnRatio k n (2 * d)
    else if 2 * n < d then lnRatio k (2 * n) d - twoAtanh 1 3
    else twoAtanh (n - d) (n + d)

/-- R337: the temperature of an NTC code in 0.1 °C, rounded half up; none where the formula has no value in range. -/
def State.ntcTenths (s : State) (c : Nat) : Option Int :=
  let pull : Int := s.numAt Adr.ntcPullupOhm
  let nominal : Int := s.numAt Adr.ntcNominalOhm
  let beta : Int := s.numAt Adr.ntcBeta
  let t0 := 10 * s.intAt 16 Adr.ntcNominalTemp + 27315
  let l := lnRatio 64 (pull * c) ((4095 - (c : Int)) * nominal)
  let den := 100 * lnScale * beta + l * t0
  if t0 ≤ 0 || den ≤ 0 then none
  else
    let x := 10 * t0 * lnScale * beta / den - 2731
    if -32768 ≤ x && x ≤ 32767 then some x else none

/-- What one channel reads: a temperature, a reason for FAULT, a failed SMBus read, or nothing. -/
inductive Reading where
  | good (tenths : Int)
  | broken
  | failed
  | nothing
  deriving DecidableEq, Repr

/-- R337: the reading of channel `ch`. -/
def State.readChannel (s : State) (ch : Nat) (r : TempReading) : Reading × State :=
  match r with
  | .onDie x => if ch < 12 then (.good x, s) else (.nothing, s)
  | .ntc c =>
    if ch < 12 || 20 ≤ ch then (.nothing, s)
    else if c ≤ 8 || 4087 ≤ c then (.broken, s)
    else
      match s.ntcTenths c with
      | some x => (.good x, s)
      | none =>
        let (x, s) := s.takeFree 65536
        (.good (toSigned 16 x), s)
  | .smbus b pecOk =>
    let k := ch - 20
    if ch < 20 || s.numAt (Adr.smbTempAddr k) == 0 then (.nothing, s)
    else if s.flagAt (Adr.smbTempPec k) && !pecOk then (.failed, s)
    else if s.numAt (Adr.smbTempFormat k) == 0 then
      (if b.length < 1 then .failed else .good (10 * toSigned 8 (field b 0 1)), s)
    else (if b.length < 2 then .failed else .good ((20 * toSigned 16 (beNat (b.take 2)) + 256) / 512), s)
  | .smbusFail => if ch < 20 || s.numAt (Adr.smbTempAddr (ch - 20)) == 0 then (.nothing, s) else (.failed, s)

def State.channelAt (s : State) (ch : Nat) : Channel := nth s.plat.channels ch Channel.zero
def State.setChannel (s : State) (ch : Nat) (f : Channel → Channel) : State :=
  s.setPlat (fun x => { x with channels := modifyAt x.channels ch f })

/-! ## The trip (R340) -/

/-- Whether a channel of TRIP_MASK is crossed at CRITICAL. -/
def State.tripHeld (s : State) : Bool :=
  (bitsOf 24 (s.numAt Adr.tripMask)).any (fun ch => (s.channelAt ch).critical.crossed)

/-- R340: THERM_TRIP_N asserts or releases; `temp` and `threshold` describe the channel that decided it. -/
def State.driveTrip (s : State) (on : Bool) (t : Nat) (temp threshold : Int) : State :=
  if s.plat.trip == on then s
  else
    let s := s.setPlat (fun x => { x with trip := on })
    let s := if on then s.bump Adr.trips else s
    s.thermalEvent t 255 (if on then 7 else 8) 0 temp threshold

/-- R340: with TRIP_LATCH clear the pin releases once no channel of TRIP_MASK remains crossed. -/
def State.settleTrip (s : State) (t : Nat) (temp threshold : Int) : State :=
  if s.plat.trip && !(s.flagAt Adr.tripLatch) && !s.tripHeld then s.driveTrip false t temp threshold else s

/-! ## Thermal samples (R336 to R340) -/

/-- A crossing or re-arm of threshold `level` of channel `ch` is an event (R338). -/
def State.levelEvent (s : State) (ch level : Nat) (t : Nat) (temp threshold : Int) (ev : Option Bool) : State :=
  match ev with
  | none => s
  | some up =>
    let s := s.thermalEvent t ch (if up then 1 else 2) level temp threshold
    if level != 3 then s
    else if up then (if bitAt (s.numAt Adr.tripMask) ch then s.driveTrip true t temp threshold else s)
    else s.settleTrip t temp threshold

/-- R338, R339: a good value of channel `ch` against its three thresholds. -/
def State.judgeChannel (s : State) (ch : Nat) (t : Nat) (temp : Int) : State :=
  let h : Int := s.numAt Adr.thermHyst
  let d := s.numAt Adr.thermDwell
  let x := s.channelAt ch
  let w := s.intAt 16 (Adr.warn ch)
  let hi := s.intAt 16 (Adr.high ch)
  let cr := s.intAt 16 (Adr.critical ch)
  let (a, ea) := x.warn.up w h temp d
  let (b, eb) := x.high.up hi h temp d
  let (c, ec) := x.critical.up cr h temp d
  let s := s.setChannel ch (fun y => { y with warn := a, high := b, critical := c })
  ((s.levelEvent ch 1 t temp w ea).levelEvent ch 2 t temp hi eb).levelEvent ch 3 t temp cr ec

/-- R337: channel `ch` enters FAULT. -/
def State.faultChannel (s : State) (ch t : Nat) : State :=
  if (s.channelAt ch).fault then s
  else
    let s := (s.setChannel ch (fun y => { y with fault := true })).bump Adr.sensorFaults
    s.thermalEvent t ch 3 0 (s.channelAt ch).temp 0

/-- R336, R337: one channel's sample. -/
def State.sampleChannel (s : State) (ch t : Nat) (r : TempReading) : State :=
  if !(s.flagAt (Adr.chEnable ch)) then
    s.setChannel ch (fun y => { y with warn := Crossing.zero, high := Crossing.zero, critical := Crossing.zero })
  else
    let (got, s) := s.readChannel ch r
    match got with
    | .nothing => s
    | .broken => s.faultChannel ch t
    | .failed =>
      let n := (s.channelAt ch).fails + 1
      let s := s.setChannel ch (fun y => { y with fails := n })
      if 3 ≤ n then s.faultChannel ch t else s
    | .good x =>
      let temp := clampInt (x + s.intAt 16 (Adr.offset ch)) (-32768) 32767
      let was := (s.channelAt ch).fault
      let s := s.setChannel ch (fun y => { y with temp := temp, fault := false, fails := 0 })
      let s := if was then s.thermalEvent t ch 4 0 temp 0 else s
      s.judgeChannel ch t temp

/-- R342: point `i` of FAN_CURVE of fan `f`. -/
def State.curvePoint (s : State) (f i : Nat) : Int × Nat :=
  let b := s.bytesAt (Adr.fanCurve f)
  (toSigned 16 (field b (4 * i) 2), field b (4 * i + 2) 2)

/-- R342: the value of the curve at `x`. -/
def State.curveAt (s : State) (f : Nat) (x : Int) : Nat :=
  let p := s.curvePoint f
  let line := fun (a b : Int × Nat) =>
    let den := b.1 - a.1
    ((a.2 : Int) + (2 * (x - a.1) * ((b.2 : Int) - a.2) + den) / (2 * den)).toNat
  if x < (p 0).1 then (p 0).2
  else if x < (p 1).1 then line (p 0) (p 1)
  else if x < (p 2).1 then line (p 1) (p 2)
  else if x < (p 3).1 then line (p 2) (p 3)
  else (p 3).2

/-- R342: the curve value of fan `f` at a thermal sample; with no enabled source it is open (log 8). -/
def State.updateCurve (s : State) (f : Nat) : State :=
  let src := (bitsOf 24 (s.numAt (Adr.fanSourceMask f))).filter (fun ch => s.flagAt (Adr.chEnable ch))
  let (v, s) := match src with
    | [] => s.takeFree 1001
    | ch :: rest =>
      (s.curveAt f (rest.foldl (fun (m : Int) c => max m (s.channelAt c).temp) (s.channelAt ch).temp), s)
  s.setPlat (fun x => { x with fans := modifyAt x.fans f (fun y => { y with curve := v }) })

def State.fanAt (s : State) (f : Nat) : Fan := nth s.plat.fans f Fan.zero

/-- What FAN_DUTY_EFFECTIVE of fan `f` becomes at a thermal sample, in permille (R342, R382). -/
def State.fanDuty (s : State) (f : Nat) : Nat :=
  let curve := s.numAt (Adr.fanMode f) == 1
  if s.plat.trip && s.flagAt (Adr.fanTripFull f) then 1000
  else if curve && (bitsOf 24 (s.numAt (Adr.fanSourceMask f))).any (fun ch => (s.channelAt ch).fault) then
    s.numAt (Adr.fanFailDuty f)
  else if curve then (s.fanAt f).curve
  else s.numAt (Adr.fanDuty f)

/-- R342, R382: a thermal sample sets the curve value and FAN_DUTY_EFFECTIVE of fan `f`. -/
def State.updateFan (s : State) (f : Nat) : State :=
  let s := s.updateCurve f
  s.setPlat (fun x => { x with fans := modifyAt x.fans f (fun y => { y with duty := s.fanDuty f }) })

/-- Whether `period` ms have passed at `t` since the latest sample. -/
def sampleDue (last : Option Nat) (period t : Nat) : Bool :=
  match last with
  | none => true
  | some b => b + period * 1000000 ≤ t

/-- R336: the channels are sampled together at `t`, in ascending order. -/
def doThermalSample (t : Nat) (readings : List TempReading) (s : State) : State :=
  let s := s.advance t
  if !(s.ctlServes && sampleDue s.plat.thermAt (s.numAt Adr.thermSampleMs) t) then s
  else
    let s := s.setPlat (fun x => { x with thermAt := some t })
    let s := (readings.take 24).zipIdx.foldl (fun s (e : TempReading × Nat) => s.sampleChannel e.2 t e.1) s
    (s.updateFan 0).updateFan 1

def execThermalSample (t : Nat) (readings : List TempReading) (s : State) : Host.Outcome State Fault Refusal :=
  .next (doThermalSample t readings s)

/-- R336: CH_ENABLE has been cleared: the crossing states of the channel go. -/
def State.settleChannels (s : State) (t : Nat) : State :=
  let s := (List.range 24).foldl (fun s ch =>
    if s.flagAt (Adr.chEnable ch) then s
    else s.setChannel ch (fun y => { y with warn := Crossing.zero, high := Crossing.zero, critical := Crossing.zero })) s
  s.settleTrip t 0 0

/-! ## Fans (R342, R343) -/

/-- R342, R343: every 100 ms FAN_RPM is updated and the fan judged; `pulses` are those of the latest 100 ms. -/
def doFanTachUpdate (t : Nat) (f : Fin 2) (pulses : Nat) (s : State) : State :=
  let s := s.advance t
  let x := s.fanAt f.val
  if !(s.ctlServes && sampleDue x.lastUpdate 100 t) then s
  else
    let ps := (pulses :: x.pulses).take 10
    let rpm := min (sumNat ps * 60 / (max 1 (s.numAt (Adr.fanPulsesPerRev f.val)))) 65535
    let slow := rpm < s.numAt (Adr.fanMinRpm f.val)
    let low := if slow && 200 ≤ x.duty then some (x.lowSince.getD t) else none
    let ok := if slow then none else some (x.okSince.getD t)
    let stalls := !x.fault && low.any (fun b => b + s.numAt (Adr.fanStallMs f.val) * 1000000 ≤ t)
    let heals := x.fault && ok.any (fun b => b + 1000000000 ≤ t)
    let s := s.setPlat (fun y => { y with fans := modifyAt y.fans f.val (fun z => { z with
      pulses := ps, lastUpdate := some t, rpm := rpm, lowSince := low, okSince := ok,
      fault := (x.fault || stalls) && !heals }) })
    if stalls then (s.bump Adr.fanFaults).thermalEvent t (0x80 + f.val) 5 0 (toSigned 16 rpm) 0
    else if heals then s.thermalEvent t (0x80 + f.val) 6 0 (toSigned 16 rpm) 0
    else s

def execFanTachUpdate (t : Nat) (f : Fin 2) (pulses : Nat) (s : State) : Host.Outcome State Fault Refusal :=
  .next (doFanTachUpdate t f pulses s)

/-! ## Vehicle supply and battery (R344, R345) -/

/-- One supply threshold's outcome as an event (R347). -/
def State.vsupEvent (s : State) (t level mv threshold : Nat) (ev : Option Bool) : State :=
  match ev with
  | none => s
  | some up => s.supplyEvent t 0 (if up then 1 else 2) level mv threshold

/-- R344: the vehicle supply is sampled at `t` with ADC code `code`. -/
def doVsupSample (t code : Nat) (s : State) : State :=
  let s := s.advance t
  if !(s.ctlServes && sampleDue s.plat.vsupAt (s.numAt Adr.vsupSampleMs) t) then s
  else
    let mv := (2 * code * 1800 * s.numAt Adr.vsupDiv + 4095000) / (2 * 4095000)
    let h : Int := s.numAt Adr.vsupHyst
    let d := s.numAt Adr.vsupDwell
    let level := fun (i : Nat) => nth s.plat.vsup i Crossing.zero
    let (uc, e0) := (level 0).down (s.numAt Adr.underCrit) h mv d
    let (u, e1) := (level 1).down (s.numAt Adr.under) h mv d
    let (o, e2) := (level 2).up (s.numAt Adr.over) h mv d
    let (oc, e3) := (level 3).up (s.numAt Adr.overCrit) h mv d
    let s := s.setPlat (fun x => { x with vsupAt := some t, vsupMv := mv, vsup := [uc, u, o, oc] })
    let s := s.vsupEvent t 1 mv (s.numAt Adr.under) e1
    let s := s.vsupEvent t 2 mv (s.numAt Adr.underCrit) e0
    let s := s.vsupEvent t 3 mv (s.numAt Adr.over) e2
    s.vsupEvent t 4 mv (s.numAt Adr.overCrit) e3

def execVsupSample (t code : Nat) (s : State) : Host.Outcome State Fault Refusal := .next (doVsupSample t code s)

/-- BATT_DATA (R356). -/
def battBytes (w : BattWords) : Bytes :=
  leBytes 2 w.temperature ++ leBytes 2 w.voltage ++ leBytes 2 w.current ++ leBytes 1 w.soc ++ [0] ++
    leBytes 2 w.remaining ++ leBytes 2 w.full ++ leBytes 2 w.status ++ leBytes 2 w.cycles

/-- R345: a good poll. -/
def State.goodPoll (s : State) (t : Nat) (w : BattWords) : State :=
  let before := field s.plat.battWords 12 2
  let h : Int := s.numAt Adr.battHyst
  let level := fun (i : Nat) => nth s.plat.battSoc i Crossing.zero
  let (low, e0) := (level 0).down (s.numAt Adr.battLowSoc) h w.soc 1
  let (crit, e1) := (level 1).down (s.numAt Adr.battCritSoc) h w.soc 1
  let present := s.plat.battStatus == 2
  let s := s.setPlat (fun x => { x with
    battFails := 0, battStatus := 2, battWords := battBytes w, battSoc := [low, crit] })
  let s := if present then s else s.supplyEvent t 1 4 0 w.soc 0
  let s := match e0 with
    | none => s
    | some up => s.supplyEvent t 1 (if up then 1 else 2) 1 w.soc (s.numAt Adr.battLowSoc)
  let s := match e1 with
    | none => s
    | some up => s.supplyEvent t 1 (if up then 1 else 2) 2 w.soc (s.numAt Adr.battCritSoc)
  if before / 256 == (w.status % 65536) / 256 then s else s.supplyEvent t 1 5 0 w.status 0

/-- R345: a failed poll. -/
def State.badPoll (s : State) (t : Nat) : State :=
  let n := s.plat.battFails + 1
  let s := (s.setPlat (fun x => { x with battFails := n })).bump Adr.battPollFails
  if 3 ≤ n && s.plat.battStatus != 1 then
    (s.setPlat (fun x => { x with battStatus := 1 })).supplyEvent t 1 3 0 0 0
  else s

/-- R345: the battery gauge is polled at `t`. -/
def doBatteryPoll (t : Nat) (words : Option BattWords) (s : State) : State :=
  let s := s.advance t
  if !(s.ctlServes && s.flagAt Adr.battEnable && sampleDue s.plat.battAt (s.numAt Adr.battPollMs) t) then s
  else
    let s := s.setPlat (fun x => { x with battAt := some t })
    match words with
    | some w => s.goodPoll t w
    | none => s.badPoll t

def execBatteryPoll (t : Nat) (words : Option BattWords) (s : State) : Host.Outcome State Fault Refusal :=
  .next (doBatteryPoll t words s)

/-- R345, R356: BATT_ENABLE has been cleared. -/
def State.settleBattery (s : State) : State :=
  if s.flagAt Adr.battEnable then s
  else s.setPlat (fun x => { x with battStatus := 0, battFails := 0, battSoc := List.replicate 2 Crossing.zero })

/-! ## Resets and DORMANT (R333, R341) -/

/-- R341: sampling stops, crossing states are cleared, the trip is released, and sampling starts afresh. -/
def Platform.stopSampling (x : Platform) : Platform :=
  { x with
    thermAt := none, vsupAt := none, battAt := none, trip := false,
    channels := x.channels.map (fun (c : Channel) => { c with
      warn := Crossing.zero, high := Crossing.zero, critical := Crossing.zero }),
    fans := x.fans.map (fun (f : Fan) => { f with
      pulses := [], lastUpdate := none, rpm := 0, duty := 0, lowSince := none, okSince := none }),
    vsup := List.replicate 4 Crossing.zero, battSoc := List.replicate 2 Crossing.zero }

/-- R327, R333, R341: a reset that reaches the controller: the enables keep their levels; a running sequence is
remembered until the controller has restarted. -/
def Platform.reset (x : Platform) (now : Nat) : Platform :=
  { Platform.zero with
    enState := x.enState, pgState := x.pgState,
    aborted := match x.sequence with
      | some q => some (q.s, q.step, (now - q.startAt) / 1000)
      | none => none }

/-- R333: once the controller has restarted, the result of a sequence that the reset ended is produced. -/
def State.reportAborted (s : State) : State :=
  match s.plat.aborted with
  | none => s
  | some (k, step, duration) =>
    (s.setPlat (fun x => { x with aborted := none })).reportSeq k 4 step 255 duration s.tick.now

end Sys2Proof.Machine
end

