-- ==== Sys2Proof/Machine/Storage.lean ====
section
/-! DEFINITION. Machine/Storage: NVM-backed objects, the stored image and its two banks (R65 to R70, R388), and what a
change of settings brings about in every unit. -/

namespace Sys2Proof.Machine

/-! ## What a change of settings brings about -/

/-- R11: TIME_SOURCE has changed. -/
def State.settleTimeSource (s old : State) : State :=
  let x := s.numAt Adr.timeSource
  if x == old.numAt Adr.timeSource then s
  else (s.setNum Adr.gptpStatus (if x == 0 then 0 else 1)).setGptp (fun g => { g with syncs := 0 })

/-- R290: KEY_ENABLE_MASK has changed. -/
def State.settleKeys (s old : State) (t : Nat) : State :=
  if s.valAt Adr.keyEnableMask == old.valAt Adr.keyEnableMask then s else s.maskKeys t

/-- Everything that follows in the units from settings that differ from those of `old`, at device time `t`; endings
of jobs carry `tick` and `offset`. -/
def State.settleAll (s old : State) (t tick offset : Nat) : State :=
  let s := s.settleUnits old t tick offset
  let s := (List.range 4).foldl (fun s p => (s.settlePanel old p).settleNoise old p) s
  let s := ((s.settlePolarity old t).settleWatch.settleChannels t).settleBattery
  ((s.settleSource old).settleTimeSource old).settleKeys old t

/-- The same for a change at the present time. -/
def State.settleNow (s old : State) : State :=
  s.settleAll old s.tick.now s.tick.tick (s.tick.now - s.tick.meridian)

/-! ## Loads (R65 to R67, R388) -/

/-- Whether an address names an NVM-backed object of a present unit. -/
def nvmAt (v : Variant) (a : Nat) : Bool :=
  match objAt a with
  | some (o, i) => o.nvm && !(o.home.absent v i)
  | none => false

/-- Whether a load replaces the value at an address: writable objects, but for counters and their WRAP flags (R65). -/
def loadedAt (a : Nat) : Bool :=
  match objAt a with
  | some (o, _) => o.acc.writable && o.kind == .plain
  | none => false

/-- The image that a load uses (R66). -/
def Nvm.image (n : Nvm) : Option Image :=
  if n.currentIsB then n.bankB.orElse (fun _ => n.bankA) else n.bankA.orElse (fun _ => n.bankB)

/-- What a load makes: the register file, and the addresses that were defaulted. -/
structure Loaded where
  dict : Dict
  defaulted : List Nat
  deriving DecidableEq, Repr

/-- The NVM-backed objects of present units, in ascending order (R388). -/
def nvmAddresses (v : Variant) : List Nat := allAddresses.filter (nvmAt v)

/-- The stored value of an NVM-backed object at `a`, checked against what is loaded and the defaults of what follows
(R67, R388). A missing entry gives the default. -/
def loadOne (part : Part) (i : Image) (l : Loaded) (a : Nat) : Loaded :=
  let look : Look := fun x => (l.dict.find x).getD (defaultAt part.variant x)
  let value := (i.vals.find a).getD (defaultAt part.variant a)
  if i.missing.contains a then { l with defaulted := l.defaulted ++ [a] }
  else
    match valueCode part look a value with
    | none => { l with dict := l.dict.set part.variant a value }
    | some _ => { l with defaulted := l.defaulted ++ [a] }

/-- R65 to R67: the register file after a load of `image`. -/
def loadImage (part : Part) (d : Dict) (image : Option Image) : Loaded :=
  let kept := d.filter (fun e => !(loadedAt e.1))
  match image with
  | none => { dict := kept, defaulted := [] }
  | some i => (nvmAddresses part.variant).foldl (loadOne part i) { dict := kept, defaulted := [] }

/-- The lowest of a list of addresses (0 for none). -/
def lowest (xs : List Nat) : Nat :=
  match xs with
  | [] => 0
  | x :: rest => rest.foldl min x

/-- R65 to R67: a load, with its marks in NVM_STATUS and NVM_FIRST_DEFAULTED. No value is staged. -/
def State.loadStored (s : State) : State :=
  let image := s.nvm.image
  let l := loadImage s.part s.dict image
  let s := { s with dict := l.dict, staged := [] }
  let status := setBit (s.numAt Adr.nvmStatus) 2 (bitAt (s.numAt Adr.nvmStatus) 2 || image.isNone)
  if l.defaulted.isEmpty then s.setNum Adr.nvmStatus status
  else (s.setNum Adr.nvmStatus (setBit status 3 true)).setNum Adr.nvmFirstDefaulted (lowest l.defaulted)

/-! ## STORE and RESTORE (R69, R70) -/

/-- STATE of NVM_STATUS: 0 IDLE, 1 BUSY, 2 DONE, 3 FAILED. -/
def State.nvmState (s : State) : Nat := s.numAt Adr.nvmStatus % 4

def State.setNvmState (s : State) (x : Nat) : State :=
  s.setNum Adr.nvmStatus (s.numAt Adr.nvmStatus / 4 * 4 + x)

/-- R69: the snapshot of the NVM-backed objects: staged values where there are any. -/
def State.snapImage (s : State) : Image :=
  let now : Dict := s.staged.foldl (fun d x => d.set s.part.variant x.addr x.val) s.dict
  { vals := now.filter (fun e => nvmAt s.part.variant e.1), missing := [] }

/-- R66, R69: the bank that does not hold the current image is written. -/
def Nvm.write (n : Nvm) (i : Option Image) : Nvm :=
  if n.currentIsB then { n with bankA := i } else { n with bankB := i }

/-- R69: a STORE is accepted: its snapshot is taken, and the bank it will write holds no image meanwhile. -/
def State.startStore (s : State) : State :=
  { s with nvm := { s.nvm.write none with storing := some s.snapImage } }.setNvmState 1

/-- R66, R69: the STORE in progress ends. -/
def doStoreComplete (t : Nat) (verified : Bool) (s : State) : State :=
  let s := s.advance t
  match s.nvm.storing with
  | none => s
  | some i =>
    if s.dormant then s
    else if verified then
      let n := s.nvm.write (some i)
      let s := { s with nvm := { n with storing := none, currentIsB := !n.currentIsB } }
      (s.setNum Adr.nvmStatus 2).bumpWord Adr.storeCount
    else { s with nvm := { s.nvm with storing := none } }.setNvmState 3

def execStoreComplete (t : Nat) (verified : Bool) (s : State) : Host.Outcome State Fault Refusal :=
  .next (doStoreComplete t verified s)

/-- R65: a load puts the writable objects that the register file does not hold at their defaults: the read selectors of
every port, and KEY_LOCK, which ends a lock as a write of 0 does. -/
def State.loadOthers (s : State) : State :=
  ({ s with ports := s.ports.map (fun (p : PortState) => { p with readSeq := 0, persistIndex := 0 }) }).ownerUnlock
    s.tick.now

/-- R70: RESTORE. -/
def State.restoreImage (s : State) : State := (s.loadStored.settleNow s).loadOthers

/-- R70: the register file with every NVM-backed object at its default. -/
def State.factoryDict (s : State) : Dict := s.dict.filter (fun e => !(nvmAt s.part.variant e.1))

/-- R70: the code of the first kept value that conflicts with the defaults, in ascending order of addresses: a kept
plain writable value is checked as a write of it would be. -/
def State.factoryCode (s : State) : Option Nat :=
  let d := s.factoryDict
  let look : Look := fun a => (Dict.find d a).getD (defaultAt s.part.variant a)
  (d.filter (fun e => loadedAt e.1)).findSome? (fun e => valueCode s.part look e.1 e.2)

/-- R70: RESTORE_FACTORY, once it has been accepted. -/
def State.restoreDefaults (s : State) : State :=
  { s with dict := s.factoryDict, staged := [] }.settleNow s

end Sys2Proof.Machine
end

