-- ==== Sys2Proof/Machine/Boot.lean ====
section
/-! DEFINITION. Machine/Boot: signed boot from the flash (R373 to R375): the directory copies, the image headers, and
which image of each KIND is valid. -/

namespace Sys2Proof.Machine

/-- The byte at an offset of the flash; a NOR device reads 0xFF where nothing is written (PRESUMED, log 60). -/
def flashByte (flash : List FlashRun) (x : Nat) : Byte :=
  match flash.find? (fun r => r.offset ≤ x && x < r.offset + r.bytes.length) with
  | some r => nth r.bytes (x - r.offset) (byteOf 0xFF)
  | none => byteOf 0xFF

def flashRead (flash : List FlashRun) (x k : Nat) : Bytes := (List.range k).map (fun i => flashByte flash (x + i))

/-- R374: the flash offsets of directory copies A and B. -/
def directoryAt (copy : Nat) : Nat := if copy == 0 then 0 else 0x00800000

/-- The contents of the flash: its two directory copies, and the images. -/
def bootFlash (directoryA directoryB : Bytes) (images : List FlashRun) : List FlashRun :=
  ⟨directoryAt 0, directoryA⟩ :: ⟨directoryAt 1, directoryB⟩ :: images

/-- R374: the entry of a KIND in a directory copy whose CRC holds: the OFFSET and LENGTH of its image. The entries stand
in the order of KIND (DEDUCED, log 60). -/
def directoryEntryOf (flash : List FlashRun) (copy kind : Nat) : Option (Nat × Nat) :=
  let d := flashRead flash (directoryAt copy) 28
  if field d 24 4 == crc32c (d.take 24) then some (field d (8 * (kind - 1)) 4, field d (8 * (kind - 1) + 4) 4) else none

/-- R374: the largest body of a KIND. -/
def imageLimit (kind : Nat) : Nat :=
  match kind with
  | 1 => 786432 | 2 => 524288 | _ => 4194304

/-- R374, R375: the bit of a variant in DEVICE_MASK. -/
def deviceBit (v : Variant) : Nat :=
  match v with
  | .z4860 => 0 | .z4840 => 1 | .z4820 => 2

/-- R374: the header of an image is that of a KIND, and its body lies in the entry's LENGTH and within its size. -/
def imageFormed (h : Bytes) (kind length : Nat) : Bool :=
  field h 0 4 == 0x49425A46 && field h 4 1 == kind && field h 5 1 ≤ 3 && field h 16 4 ≤ imageLimit kind &&
    256 + field h 16 4 ≤ length

/-- R375: what makes an image valid: its key, its signature, its body digest, the variant, and its security version. -/
def State.imageValid (s : State) (kind : Nat) (h body : Bytes) : Bool :=
  Config.sha256 (slice h 64 64) == Config.keyDigest (field h 5 1) && !(Config.keyRevoked (field h 5 1)) &&
    Config.p256Verify (slice h 64 64) (Config.sha256 (h.take 128)) (slice h 128 64) &&
    Config.sha256 body == slice h 32 32 && bitAt (field h 20 2) (deviceBit s.part.variant) &&
    nth s.nvm.minSecurity (kind - 1) 0 ≤ field h 12 4

/-- R374, R375: the VERSION of the image of a KIND that a directory copy names, where it is valid. -/
def State.imageIn (s : State) (flash : List FlashRun) (copy kind : Nat) : Option Nat :=
  match directoryEntryOf flash copy kind with
  | none => none
  | some (offset, length) =>
    let h := flashRead flash offset 256
    if !(imageFormed h kind length) then none
    else if s.imageValid kind h (flashRead flash (offset + 256) (field h 16 4)) then some (field h 8 4)
    else none

/-- R375: what signed boot finds for a KIND: the copy and its VERSION, copy A tried before copy B. -/
def State.bootImage (s : State) (flash : List FlashRun) (kind : Nat) : Option (Nat × Nat) :=
  match s.imageIn flash 0 kind with
  | some v => some (0, v)
  | none => (s.imageIn flash 1 kind).map (fun v => (1, v))

/-- R374, R375: one KIND in BOOT_STATUS. -/
def bootEntry (x : Option (Nat × Nat)) : Bytes :=
  match x with
  | none => [byteOf 0xFF] ++ List.replicate 7 0
  | some (copy, version) => leBytes 1 copy ++ [0, 0, 0] ++ leBytes 4 version

/-- The version of an image, 0 where there is none. -/
def bootVersion (x : Option (Nat × Nat)) : Nat :=
  match x with
  | none => 0
  | some (_, version) => version

end Sys2Proof.Machine
end

