-- ==== Sys2Proof/Machine/Power.lean ====
section
/-! DEFINITION. Machine/Power: power states and their transitions (R357 to R365), DORMANT and wake (R366, R367),
resets (R368 to R371) and boot (R374 to R376). A transition step is one command at the time it is complete. -/

namespace Sys2Proof.Machine

def State.setPower (s : State) (f : PowerCtl → PowerCtl) : State := { s with power := f s.power }

/-- The state of a code that POWER_CMD may name. -/
def Power.ofCode (x : Nat) : Power :=
  match x with
  | 0 => .dormant | 1 => .standby | 2 => .ready | _ => .run

/-- R365: the event data of POWER_STATE and POWER_LAST_RESULT. -/
def powerBytes (state origin cause result duration wake : Nat) : Bytes :=
  leBytes 1 state ++ leBytes 1 origin ++ leBytes 1 cause ++ leBytes 1 result ++ leBytes 4 duration ++
    leBytes 1 wake ++ List.replicate 7 0

/-- R365: a step is reported: `x` is the state it enters or keeps. -/
def State.reportPower (s : State) (x origin : Power) (cause result duration : Nat) : State :=
  let b := powerBytes x.code origin.code cause result duration (if cause == 1 then s.power.wakeCause else 0)
  (s.setPower (fun p => { p with lastResult := b })).notify evPowerState 0 b

/-- Microseconds since the current step began. -/
def State.stepTime (s : State) : Nat := (s.tick.now - s.power.stepAt) / 1000

/-- R360, R365: state `x` is entered from `origin`; the transition ends there where it is the target, and otherwise
the next step begins. -/
def State.enter (s : State) (x origin : Power) (cause result duration : Nat) : State :=
  let s := s.setPower (fun p => { p with
    state := x, cause := cause, target := if p.target == some x then none else p.target, stepAt := s.tick.now })
  s.reportPower x origin cause result duration

/-- Whether the transition in progress goes up from `x`, or down. -/
def State.goesUp (s : State) (x : Power) : Bool :=
  s.power.state == x && (match s.power.target with | some y => x.code < y.code | none => false)

def State.goesDown (s : State) (x : Power) : Bool :=
  s.power.state == x && (match s.power.target with | some y => y.code < x.code | none => false)

/-! ## The tick generator starts and halts (R13, R15, R21) -/

/-- R21: the generator starts at `t`. -/
def State.startGenerator (s : State) (t : Nat) : State :=
  let src := s.fixSource
  let search := bitAt (s.numAt Adr.tickCtrl) 0 && src != 0
  s.setTick (fun k => { k with
    gen := if src == 0 then .freeRun else .pullIn, missCount := 0, started := false, startAt := t,
    startSearch := search, history := [], next := if search then none else some t,
    slew := 0, error := 0, status := .none, realignAt := [], realignTick := false, realignFound := false,
    window := if src == 0 || search then { Window.zero with closed := true } else s.newWindow t false })

/-- R13: the generator halts: the tick in progress ends without a meridian, and a realignment is cancelled. -/
def State.haltGenerator (s : State) : State :=
  s.setTick (fun k => { k with
    gen := .halted, started := false, startSearch := false, next := none, realignAt := [], realignTick := false,
    realignFound := false, window := { Window.zero with closed := true },
    camActive := List.replicate 8 none, camDone := [] })

/-! ## STANDBY, READY and RUN (R361 to R364) -/

/-- R361, R362: the chart store is zeroed with valid check bits and the in-force INLINE_ECC regions with valid codes. -/
def State.initMemory (s : State) : State :=
  let ecc := (List.range 4).flatMap (fun p =>
    (regionsOf (s.bytesAt (Adr.regionTable p))).filter (fun r => r.ecc && s.regionInForce r))
  let fresh (a : Nat) : Bool := (chartBase ≤ a && a < hostWindow) || ecc.any (fun r => r.base ≤ a && a < r.limit)
  { s with mem := { s.mem with
      cells := s.mem.cells.keep (fun a => !(fresh a)), ue := s.mem.ue.filter (fun a => !(fresh a)),
      ce := s.mem.ce.filter (fun a => !(fresh a)) } }

/-- STANDBY to READY (R187, R361, R362): `channelMib` is what training measures on each present channel. -/
def doStandbyToReady (t : Nat) (channelMib : List Nat) (trained : Bool) (s : State) : State :=
  let s := s.advance t
  if !(s.goesUp .standby) then s
  else if !trained then
    ((s.setNum Adr.memCapacityMib 0).setPower (fun p => { p with target := none, stepAt := s.tick.now })).reportPower
      .standby .standby 0 1 s.stepTime
  else
    let per := padTo channelMib s.part.variant.channels 0
    let least := per.foldl min (nth per 0 0)
    let s := (s.setNum Adr.memCapacityMib (s.part.variant.channels * least)).initMemory
    let s := { s with mem := { s.mem with trainedOnce := true } }
    let d := s.stepTime
    let s := s.enter .ready .standby 0 0 d
    s.settleUnits s s.tick.now s.tick.tick (s.tick.now - s.tick.meridian)

def execStandbyToReady (t : Nat) (channelMib : List Nat) (trained : Bool) (s : State) :
    Host.Outcome State Fault Refusal :=
  .next (doStandbyToReady t channelMib trained s)

/-- R361: array `a` is powered, its operand store zeroed and its check tile run. An array in HELD_FAULT stays held and
runs no check tile (R258, R259). -/
def State.powerArray (s : State) (switchFail tileFail a : Nat) : State :=
  let held := (s.arrAt a).state == .heldFault
  let old := s.arrAt a
  let fresh : Arr := { Arr.zero with
    powered := true, state := if held then .heldFault else .idle, verdict := old.verdict,
    localising := old.localising, gatingUnit := old.gatingUnit, share := s.fullShares a, lastCharge := s.tick.now }
  if bitAt switchFail a then
    (s.setArr a (fun x => { x with powered := false })).raise (Detection.plain 1 8 a 0)
  else
    let s := s.setArr a (fun _ => fresh)
    if held then s
    else
      let s := s.bump (Adr.checkTileRuns a)
      if bitAt tileFail a then
        let s := (s.bump (Adr.checkTileFails a)).setArr a (fun x => { x with
          powered := false, state := .heldFault, verdict := 0 })
        s.raise { Detection.plain 1 3 a 0 with localise := some a }
      else s

/-- READY to RUN (R361, R365): RUN is entered at the meridian of time `t`, once that meridian has been taken.
`switchFail` and `tileFail` are masks of the arrays whose power switch or check tile failed. -/
def doReadyToRun (t switchFail tileFail : Nat) (s : State) : State :=
  let s := s.advanceCharged t
  if !(s.goesUp .ready && s.tick.started && s.tick.meridian == t && s.tick.now == t) then s
  else
    let on := bitsOf 8 (s.numAt Adr.arrayEnable)
    let s := { s with mem := { s.mem with opUe := [], opCe := [] } }
    let s := on.foldl (fun s a => s.powerArray switchFail tileFail a) s
    let failed := on.any (fun a => !(s.arrAt a).powered)
    (s.enter .run .ready 0 (if failed then 2 else 0) s.stepTime).dispatch

def execReadyToRun (t switchFail tileFail : Nat) (s : State) : Host.Outcome State Fault Refusal :=
  .next (doReadyToRun t switchFail tileFail s)

/-- Every array unpowered; HELD_FAULT and GATING_UNIT are kept (R153, R258). -/
def State.gateArrays (s : State) : State :=
  { s with arrs := s.arrs.map (fun (x : Arr) => { Arr.zero with
      state := if x.state == .heldFault then .heldFault else .off, verdict := x.verdict,
      localising := x.localising, gatingUnit := x.gatingUnit }) }

/-- RUN to READY (R361): from the meridian that the command reached, once that meridian has been taken and the arrays
are vacated. -/
def doRunToReady (t : Nat) (s : State) : State :=
  let s := s.advanceCharged t
  let due := s.tick.started && s.power.runAt.any (· ≤ s.tick.tick) && s.arrs.all (·.job.isNone)
  if !(s.goesDown .run && due) then s
  else
    let d := s.stepTime
    (s.gateArrays.setPower (fun p => { p with runAt := none })).enter .ready .run 0 0 d

def execRunToReady (t : Nat) (s : State) : Host.Outcome State Fault Refusal := .next (doRunToReady t s)

/-- READY to STANDBY (R361): frames in progress end with TRUNCATED, and what device memory, the chart store and the
fabric hold is lost; a numbering closed under R219 stays closed. -/
def doReadyToStandby (t : Nat) (s : State) : State :=
  let s := s.advance t
  if !(s.goesDown .ready) then s
  else
    let s := (List.range 48).foldl (fun s n => s.endFrame n s.tick.now true) s
    let s := { s with
      mem := { s.mem with cells := [], ue := [], ce := [], opUe := [], opCe := [], tlb := [] },
      fabric := { numberings := s.fabric.numberings.filter (·.closed), reads := [] } }
    let d := s.stepTime
    s.enter .standby .ready 0 0 d

def execReadyToStandby (t : Nat) (s : State) : Host.Outcome State Fault Refusal := .next (doReadyToStandby t s)

/-! ## DORMANT (R13, R361, R366, R367) -/

/-- What ingest keeps where its domain is unpowered: what belongs to the settings of a slot. -/
def Ingest.dormant (x : Ingest) : Ingest :=
  { Ingest.zero with slots := x.slots.map (fun (y : Slot) => { Slot.zero with
      settingsNew := y.settingsNew, lastTableSeq := y.lastTableSeq, uncertain := y.uncertain,
      epochNow := y.epochNow, lastHeader := y.lastHeader }) }

/-- What the HOST and BIN domains lose: the link, the function and the binnacle's state; FAULT_N is asserted. -/
def State.hostOff (s : State) : State :=
  let s := (s.resetLinked.resetFunction).setHost (fun h => { h with
    linkUp := false, speed := 0, width := 0, functionReady := false, placed := [], signals := [],
    engines := h.engines.map (fun (_ : Engine) => { owner := none, reads := [], abandoned := [], held := none }) })
  let s := s.resetPortH.setPort .H (fun p => { p with linkUp := false })
  { s with bin := { s.bin with
      state := .starting, faultN := true, reactions := [], message := none, alive := 0, clocks := [], rails := [],
      normalSince := false, normalAtLast := false } }

/-- The ports stop (R361): what they had in progress ends. A transfer of a port that does not own is discarded and
counted like the owner's, on which alone R51 rules (DESIGN CHOICE, log 44). -/
def State.stopPorts (s : State) : State :=
  allPorts.foldl (fun s p => (s.discardTransfer p 0x0605).forgetResponses p) s

/-- STANDBY to DORMANT (R361). A wake command that came meanwhile takes effect now (R366). The model's choices, where no
rule says it (DESIGN CHOICE, logs 16 and 44): without an owner VACANCY_CAUSE keeps its value (R35), and with a port
selected GPTP_STATUS becomes acquiring and the run of Syncs starts again (R11). -/
def doStandbyToDormant (t : Nat) (s : State) : State :=
  let s := s.advance t
  if !(s.goesDown .standby) then s
  else
    let s := s.reportPower .dormant .standby 0 0 s.stepTime
    let s := if s.own.owner.isSome then s.vacate 0 allPorts else s.dropOwner s.own.vacancyCause
    let s := s.stopPorts
    let s := (s.setKeys (fun k => { k with fifo := [] })).stopTouch
    let s := ({ s with plat := s.plat.stopSampling, ingest := s.ingest.dormant }).haltGenerator.hostOff
    let s := if s.numAt Adr.timeSource == 0 then s
      else (s.setNum Adr.gptpStatus 1).setTick (fun k => { k with gptp := { k.gptp with syncs := 0 } })
    let wake := s.power.wakePending
    s.setPower (fun p => { p with
      state := .dormant, target := if wake == 0 then none else some .standby, cause := if wake == 0 then 0 else 1,
      stepAt := s.tick.now, dormantAt := s.tick.now, wakePending := 0, wakeCause := wake })

def execStandbyToDormant (t : Nat) (s : State) : Host.Outcome State Fault Refusal := .next (doStandbyToDormant t s)

/-- DORMANT to STANDBY (R13, R306, R323, R361): `rtcTicks` is the length of the stay as the real-time clock has
measured it. How long the step itself took is a free value within its limit (log 8). -/
def doDormantToStandby (rtcTicks : Nat) (s : State) : State :=
  if !(s.goesUp .dormant) then s
  else
    let s := s.setTick (fun k => { k with now := k.now + rtcTicks * 1000000000 / 32768 })
    let (d, s) := s.takeFree 10001
    let s := (s.setKeys Keys.restart).startGenerator s.tick.now
    ((s.enter .standby .dormant 1 0 d)).startTouch

def execDormantToStandby (rtcTicks : Nat) (s : State) : Host.Outcome State Fault Refusal :=
  .next (doDormantToStandby rtcTicks s)

/-- R366: a wake command of bit `k`: it acts in DORMANT, and waits during the entry. CTL_IRQ_N, asserted by a wake
request, is released (R367). -/
def State.wakeCommand (s : State) (k : Nat) : State :=
  if !(bitAt (s.numAt Adr.wakeEnable) k) then s
  else if s.power.state == .dormant then
    (s.setPower (fun p => { p with
      wakeCause := setBit p.wakeCause k true, target := some .standby, cause := 1 })).setKeys
      (fun x => { x with wakeRequest := false })
  else if s.power.state == .standby && s.power.target == some .dormant then
    s.setPower (fun p => { p with wakePending := setBit p.wakePending k true })
  else s

/-- R366: WAKE_N has been low for `lowFor` ns. -/
def doWakeN (t lowFor : Nat) (s : State) : State :=
  let s := s.advance t
  if lowFor < 50000 then s else s.wakeCommand 0

def execWakeN (t lowFor : Nat) (s : State) : Host.Outcome State Fault Refusal := .next (doWakeN t lowFor s)

/-- R366: a frame on CAN controller A, by its identifier. -/
def doCanWakeFrame (t canId : Nat) (s : State) : State :=
  let s := s.advance t
  if canId == s.numAt Adr.canReqBase + s.numAt Adr.canNodeId then s.wakeCommand 1 else s

def execCanWakeFrame (t canId : Nat) (s : State) : Host.Outcome State Fault Refusal :=
  .next (doCanWakeFrame t canId s)

/-! ## Power-on reset, RESET_N and boot (R368, R369, R374 to R376) -/

/-- The register file of a power-on reset: only DEBUG_UNLOCKS and STORE_COUNT are kept (R68, R380), each with its WRAP
flag (log 20). -/
def State.coldDict (s : State) : Dict :=
  s.dict.filter (fun e => [Adr.debugUnlocks, Adr.storeCount, wrapFlagOf Adr.debugUnlocks,
    wrapFlagOf Adr.storeCount].contains e.1)

/-- R65, R327, R369: what both resets have in common: everything at its reset value, the NVM image loaded, a new debug
challenge. -/
def State.coldStart (s : State) (cause : Nat) : State :=
  let r : State := { State.reset with
    part := s.part, pending := s.pending, nvm := { s.nvm with storing := none }, sent := s.sent, dict := s.coldDict,
    free := s.free + 1, power := { PowerCtl.zero with challenge := s.free } }
  let r := (r.loadStored.setNum Adr.resetCause cause)
  let r := r.settleUnits { r with dict := [] } 0 0 0
  if r.numAt Adr.timeSource == 0 then r else r.setNum Adr.gptpStatus 1

/-- R284, R286: the logbook after a power-on reset: the ring is reloaded with the persistent records, a damaged one as
its stub. -/
def Logbook.reload (x : Logbook) : Logbook :=
  { ring := x.persist.map (fun r => { r with bytes := r.delivered, damaged := false }), persist := x.persist, copying := [], nextSeq := x.nextSeq,
    lastSeq := match x.persist.getLast? with | some r => r.seq | none => 0, suppress := [] }

/-- R368: power-on reset. -/
def doPowerOnReset (s : State) : State :=
  let r := { s.coldStart 0 with log := s.log.reload }.bumpBy Adr.recordsDamaged (countDamaged s.log.persist)
  r.setNum Adr.enPolarityEffective (r.numAt Adr.enPolarity)

def execPowerOnReset (s : State) : Host.Outcome State Fault Refusal := .next (doPowerOnReset s)

/-- R368: RESET_N has been low for `lowFor` ns. Device time, the logbook and the enable outputs are kept; a sequence
that ran is remembered (R333). -/
def doResetN (t lowFor : Nat) (s : State) : State :=
  if lowFor < 10000 then s.advance t
  else
    let now := max s.tick.now t
    let r := s.coldStart 1
    let r := { r with
      log := { s.log with suppress := [] }, plat := s.plat.reset now,
      tick := { r.tick with now := now, frac := s.tick.frac } }
    let r := r.setPower (fun p => { p with stepAt := now })
    (((r.setNum Adr.enPolarityEffective (s.numAt Adr.enPolarityEffective)).setNum Adr.rateAdjust
      (s.numAt Adr.rateAdjust))).bump Adr.resetsResetN

def execResetN (t lowFor : Nat) (s : State) : Host.Outcome State Fault Refusal := .next (doResetN t lowFor s)

/-- R375, R376: boot ends with what it has found of the three KINDs: STANDBY is entered with CAUSE 2 and the tick
generator starts, or the boot ROM stays in BOOTING without controller firmware. -/
def State.endBoot (s : State) (controller binnacle microcode : Option (Nat × Nat)) : State :=
  let s := s.setPower (fun p => { p with
    bootStatus := bootEntry controller ++ bootEntry binnacle ++ bootEntry microcode,
    romOnly := controller.isNone, binnacleOk := binnacle.isSome, microcodeOk := microcode.isSome })
  let s := ((s.setNum Adr.controllerFwVersion (bootVersion controller)).setNum Adr.binnacleFwVersion
    (bootVersion binnacle)).setNum Adr.microcodeVersion (bootVersion microcode)
  if controller.isNone then { s with bin := { s.bin with state := .starting, faultN := true } }
  else
    let s := if binnacle.isSome then s else { s with bin := { s.bin with state := .starting, faultN := true } }
    let s := ((s.startGenerator s.tick.now).startKeys)
    (s.enter .standby .booting 2 0 s.stepTime).startTouch.reportAborted

/-- R374 to R376: boot ends, with what the flash holds. -/
def doBootComplete (t : Nat) (flash : List FlashRun) (s : State) : State :=
  let s := s.advance t
  if s.power.state != .booting || s.power.romOnly then s
  else s.endBoot (s.bootImage flash 1) (s.bootImage flash 2) (s.bootImage flash 3)

def execBootComplete (t : Nat) (directoryA directoryB : Bytes) (images : List FlashRun) (s : State) :
    Host.Outcome State Fault Refusal :=
  .next (doBootComplete t (bootFlash directoryA directoryB images) s)

/-! ## Warm reset (R369, R370) -/

/-- R369, R370: a slot after a warm reset: frames in progress are gone and its buffers FREE. -/
def Slot.warm (x : Slot) : Slot :=
  { x with
    filling := none, buffers := List.replicate 16 Buffer.zero, bytesInTick := 0, overGuarantee := false, epochs := [],
    stats := [], drops := [] }

/-- R369, R370: a queue that is not host-linked. -/
def Queue.warm (x : Queue) (enabled : Bool) : Queue :=
  { Queue.zero with
    state := if enabled then .active else .disabled, submitted := x.submitted, sqBase := x.sqBase, cqBase := x.cqBase, log2 := x.log2 }

/-- R153, R370: an array; in RUN it stays powered and runs its check tile. -/
def Arr.warm (x : Arr) (share : List Nat) (now : Nat) : Arr :=
  if x.powered then
    { Arr.zero with
      powered := true, state := .housekeeping, tile := .running, share := share, lastCharge := now, gatingUnit := x.gatingUnit }
  else { Arr.zero with gatingUnit := x.gatingUnit }

/-- R370: the warm reset. -/
def State.warmReset (s : State) : State :=
  let s := s.endWhere (fun _ j => j.ended.isNone) 0x21 0x18
  let s := { s.resetLinked with queues := (s.resetLinked.queues.zipIdx).map (fun (e : Queue × Nat) =>
    if s.hostLinked e.2 then e.1 else e.1.warm (s.flagAt (Adr.queueEnable e.2))) }
  let s := s.abandonReads
  let s := (List.range 8).foldl (fun s a => s.giveVerdict a 4) s
  let s := { s with
    ingest := { Ingest.zero with slots := s.ingest.slots.map Slot.warm, windowTick := s.ingest.windowTick },
    arrs := s.arrs.zipIdx.map (fun (e : Arr × Nat) => e.1.warm (s.fullShares e.2) s.tick.now),
    fabric := { numberings := [], reads := [] },
    mem := { s.mem with
      cells := s.mem.cells.keep (fun a => !(chartBase ≤ a && a < hostWindow)),
      ue := s.mem.ue.filter (fun a => !(chartBase ≤ a && a < hostWindow)),
      ce := s.mem.ce.filter (fun a => !(chartBase ≤ a && a < hostWindow)), opUe := [], opCe := [], tlb := [] },
    bin := { s.bin with dispatcherDown := true, dispatcherRef := 0 } }
  let s := (List.range 8).foldl (fun s a => if (s.arrAt a).powered then s.bump (Adr.checkTileRuns a) else s) s
  ((s.setNum Adr.closedNumberings 0).setNum Adr.resetCause 2).bump Adr.resetsWarm

/-! ## Controller reset (R369, R371) -/

/-- R333, R341, R350, R351: what a mailbox port of the controller's units loses. -/
def Mailbox.controllerReset (m : Mailbox) : Mailbox :=
  { m with out := [], plat := [], lost := [], touch := [], keysSent := 0, msgSeq := 0 }

/-- R323: touch after a controller reset: calibration of every enabled panel. -/
def State.restartTouch (s : State) : State :=
  (List.range 4).foldl (fun s p =>
    let s := (s.stopPanel p).setPanel p (fun x => { x with reports := [], nextSeq := 1 })
    if s.part.variant.touch && s.power.state != .booting && s.flagAt (Adr.panelEnable p) then s.startCalibration p
    else s) s

/-- R69: a STORE that a reset interrupts has failed. -/
def State.interruptStore (s : State) : State :=
  if s.nvm.storing.isSome then { s with nvm := { s.nvm with storing := none } }.setNvmState 3 else s

/-- R368, R369, R371: a controller reset; for how long the controller answers nothing, up to 30 ms, is a free value
(log 8). -/
def State.controllerReset (s : State) : State :=
  let s := (s.dropOwner 0).interruptStore
  let s := allPorts.foldl (fun s p => s.forgetResponses p) s
  let s := { s with
    ports := s.ports.map (fun (p : PortState) => { PortState.zero with linkUp := p.linkUp }),
    host := { s.host with mailboxes := s.host.mailboxes.map Mailbox.controllerReset },
    plat := s.plat.reset s.tick.now }
  let s := s.startKeys.restartTouch.reportAborted
  let (d, s) := s.takeFree 30000001
  ((s.setPower (fun p => { p with ctlUntil := s.tick.now + d })).setNum Adr.resetCause 5).bump Adr.resetsController

/-- R368: the controller watchdog expires. -/
def doControllerWatchdog (t : Nat) (s : State) : State :=
  let s := s.advance t
  if s.dormant || s.power.romOnly then s else s.controllerReset

def execControllerWatchdog (t : Nat) (s : State) : Host.Outcome State Fault Refusal :=
  .next (doControllerWatchdog t s)

/-! ## POWER_CMD (R360) -/

/-- Whether an admitted job or COPY has not ended. -/
def State.jobsOpen (s : State) : Bool :=
  s.queues.any (fun x => x.jobs.any (fun j => j.ended.isNone && j.kind ≤ 1))

/-- R360: the state checks of a target, in the order of the table. -/
def State.powerCheck (s : State) (target : Nat) : Option Nat :=
  let here := s.power.state.code
  if s.power.state == .booting then some 0x0501
  else if s.power.target.isSome then some 0x0504
  else if 3 < target || target == here then none
  else if 2 ≤ here && target < 2 && s.jobsOpen then some 0x0504
  else if target == 0 && s.plat.sequence.isSome then some 0x0504
  else if target == 0 && s.nvmState == 1 then some 0x0502
  else if here < 2 && 2 ≤ target && (s.bin.state == .starting || !s.power.microcodeOk) then some 0x0505
  else if target == 3 && !(bitAt s.plat.pgState (s.numAt Adr.arrayRailPg)) then some 0x0505
  else none

/-- R360: an accepted target: the transition begins; a step out of RUN takes effect at the meridian that a staged write
reaches (R24, R361). -/
def State.commandPower (s : State) (target : Nat) : State :=
  if target == s.power.state.code then s
  else
    s.setPower (fun p => { p with
      target := some (Power.ofCode target), cause := 0, stepAt := s.tick.now, wakePending := 0,
      runAt := if p.state == .run then some s.reachedTick else none })

end Sys2Proof.Machine
end

