-- ==== Sys2Proof/Machine/Views.lean ====
section
/-! DEFINITION. Machine/Views: what a read of an object returns (R60, R63, R82): the value in the register file, and
for every object whose value another part of the state holds or a rule computes, that value. -/

namespace Sys2Proof.Machine

/-- A list of numbers as little-endian fields of `w` bytes. -/
def fieldsOf (w : Nat) (xs : List Nat) : Bytes := (xs.map (leBytes w)).flatten

/-- A mask of the numbers below `k` that satisfy a test. -/
def maskOf (k : Nat) (p : Nat → Bool) : Nat := sumNat (((List.range k).filter p).map (fun i => 2 ^ i))

/-- The instance that an index names in a family at `base` with `stride`, if any. -/
def familyAt (base stride count index : Nat) : Option Nat :=
  if base ≤ index && (index - base) % stride == 0 && (index - base) / stride < count then some ((index - base) / stride)
  else none

/-! ## Time base and tick (R31) -/

def State.viewTick (s : State) (a : Nat) : Option Val :=
  if a == Adr.deviceTime then some (.num s.tick.now)
  else if a == Adr.pMin then some (.num (Look.pMin s.valAt))
  else if a == Adr.usable then some (.num (Look.usable s.valAt))
  else if a == Adr.slotLength then some (.num (Look.slotLength s.valAt))
  else if a == Adr.tickNumber then some (.num s.tick.tick)
  else if a == Adr.genState then some (.num s.tick.gen.code)
  else if a == Adr.missCount then some (.num s.tick.missCount)
  else if a == Adr.lastReport then some (.bytes s.tick.lastReport)
  else none

/-! ## Ownership (R54) and identity (R74 to R78) -/

def State.viewOwn (s : State) (a : Nat) : Option Val :=
  if a == Adr.ownerState then some (.num s.own.state.code)
  else if a == Adr.ownerPort then some (.num s.ownerCode)
  else if a == Adr.ownerNonce then some (.num s.own.nonce)
  else if a == Adr.leaseRemaining then some (.num s.own.lease)
  else if a == Adr.handoverSuccessor then some (.num (match s.own.successor with | some p => p.code | none => 0))
  else if a == Adr.handoverDeadline then some (.num s.own.deadline)
  else if a == Adr.vacancyCause then some (.num s.own.vacancyCause)
  else none

/-- STAGED_LIST (R63). -/
def State.stagedBytes (s : State) : Bytes :=
  (s.staged.map (fun x => leBytes 4 x.addr ++ leBytes 4 0 ++ leBytes 8 x.tick)).flatten

/-- One entry of OBJECT_DIRECTORY (R73). Bit 3 marks the objects that the debug lock covers, whether or not it is locked
at the time: the rule names the bit and not what it follows (DESIGN CHOICE, log 57). -/
def directoryEntry (v : Variant) (a : Nat) : Bytes :=
  match objAt a with
  | none => []
  | some (o, i) =>
    leBytes 2 (a / 256) ++ leBytes 1 (a % 256) ++ leBytes 1 o.ty.code ++ leBytes 1 o.acc.code ++
      leBytes 1 (b2n o.nvm + 2 * b2n o.snap + 4 * b2n (o.home.absent v i) +
        8 * b2n (0xF000 ≤ a / 256 && a / 256 < 0xF100)) ++ leBytes 2 0

/-- Whether an address of the object table exists on the part: an entry of the almanac set at or above
ALMANAC_SET_COUNT does not (R78). -/
def State.exists (s : State) (a : Nat) : Bool := !(a / 256 == 0x0121 && s.almanacCount ≤ a % 256)

/-- OBJECT_DIRECTORY (R73). -/
def State.directory (s : State) : Bytes :=
  ((allAddresses.filter s.exists).map (directoryEntry s.part.variant)).flatten

def State.viewIdentity (s : State) (a : Nat) : Option Val :=
  if a == Adr.stepping then some (.num s.part.stepping)
  else if a == Adr.almanacNative then some (.bytes s.almanacNative)
  else if a == Adr.almanacSetCount then some (.num s.almanacCount)
  else if a == Adr.almanacEffective then some (.bytes s.almanacEffective)
  else if a / 256 == 0x0121 then some (.bytes (s.almanacEntry (a % 256)))
  else if a == Adr.stagedCount then some (.num s.staged.length)
  else if a == Adr.stagedList then some (.bytes s.stagedBytes)
  else if a == Adr.objectDirectory then some (.bytes s.directory)
  else none

/-! ## Ingest and shaping (R108, R123) -/

/-- BUFFER_STATES of slot `n`: two bits a buffer of its ring. -/
def State.bufferBits (s : State) (n : Nat) : Nat :=
  sumNat ((s.ring n).map (fun e => e.1.state.code * 4 ^ e.2))

def State.viewIngest (s : State) (a : Nat) : Option Val :=
  if 0x1000 ≤ a / 256 && a / 256 < 0x1180 then
    let n := (a / 256 - 0x1000) / 8
    if a == Adr.metaBytes n then some (.num (Look.metaBytes s.valAt n))
    else if a == Adr.bufferStates n then some (.num (s.bufferBits n))
    else if a == Adr.frameCounter n then
      some (.num (if (s.slotAt n).first then 0 else ((s.slotAt n).nextCounter + (2 ^ 32 - 1)) % 2 ^ 32))
    else if a == Adr.lastHeader n then some (.bytes (s.slotAt n).lastHeader)
    else none
  else if a == Adr.guaranteedSum then some (.num (Look.guaranteedSum s.valAt s.part.variant))
  else if 0x1800 ≤ a / 256 && a / 256 < 0x1880 then
    let c := (a / 256 - 0x1800) / 8
    if a == Adr.shapedMeta c then some (.num (shapedMetaOf (s.numAt (Adr.shapedBytes c))))
    else if a == Adr.shapedRequired c then some (.num (Look.shapedRequired s.valAt c))
    else none
  else none

/-! ## Arrays, queues, memory, fabric (R140, R163, R185, R210, R227) -/

/-- REGION_EFFECTIVE of a partition (R190). -/
def State.regionMask (s : State) (p : Nat) : Nat :=
  let rs := regionsOf (s.bytesAt (Adr.regionTable p))
  maskOf 16 (fun r => match rs[r]? with | some x => s.regionInForce x | none => false)

/-- TF_PENDING of a partition (R202). -/
def State.pendingMask (s : State) (p : Nat) : Nat :=
  maskOf 32 (fun q => s.partOf q == p && (s.queueAt q).fault.isSome)

def State.viewCompute (s : State) (a : Nat) : Option Val :=
  if a == Adr.roundingProfileNative then some (.num s.part.roundingProfile)
  else if a == Adr.roundingProfileEffective then some (.num s.roundingEffective)
  else if a == Adr.arrayPowered then some (.num (maskOf 8 (fun k => (s.arrAt k).powered)))
  else if a == Adr.replayProfileNative then some (.num s.part.replayProfile)
  else if a == Adr.replayProfileEffective then some (.num s.replayEffective)
  else
    match familyAt 0x2008 1 8 (a / 256), familyAt 0x2400 1 4 (a / 256), familyAt 0x2410 1 8 (a / 256),
        familyAt 0x2420 2 32 (a / 256), familyAt 0x2808 1 4 (a / 256) with
    | some k, _, _, _, _ =>
      if a == Adr.arrayState k then some (.num (s.arrAt k).state.code)
      else if a == Adr.gatingUnit k then some (.num (s.arrAt k).gatingUnit) else none
    | _, some p, _, _, _ => if a == Adr.carryLimitEffective p then some (.num (s.carryLimit p)) else none
    | _, _, some k, _, _ =>
      if a == Adr.slotTableEffective k then some (.bytes (Look.slotTable s.valAt k)) else none
    | _, _, _, some q, _ => if a == Adr.queueState q then some (.num (s.queueAt q).state.code) else none
    | _, _, _, _, some p =>
      if a == Adr.regionEffective p then some (.num (s.regionMask p))
      else if a == Adr.tfPending p then some (.num (s.pendingMask p))
      else if a == Adr.tfLast p then some (.bytes (padTo (nth s.mem.tfLast p []) 32 0))
      else none
    | _, _, _, _, _ => none

/-! ## Host link, safety and logbook (R252, R273, R288) -/

/-- R285: LOGBOOK_RECORD for a port. -/
def State.recordFound (s : State) (n : Nat) : Bytes :=
  match s.log.ring.find? (fun r => r.seq == n) with
  | some r => r.delivered
  | none => []

/-- R285: the records that LOGBOOK_EXPORT holds: in sequence order from `n`, or from the oldest one when that is later,
at most 64. -/
def State.exportRange (s : State) (n : Nat) : List LogRec :=
  (s.log.ring.filter (fun r => !(later32 n r.seq))).take 64

/-- R285: the CBOR array of an export. -/
def exportBytes (rs : List LogRec) : Bytes := cborHead 4 rs.length ++ (rs.map LogRec.delivered).flatten

/-- R285: PERSIST_RECORD. -/
def State.persistFound (s : State) (i : Nat) : Bytes :=
  match s.log.persist[i]? with
  | some r => r.delivered
  | none => []

def State.viewHost (s : State) (p : Sys2Proof.Port) (a : Nat) : Option Val :=
  if a == Adr.linkStatus then
    some (.num (s.host.speed % 8 + 8 * (s.host.width % 8) + 64 * b2n s.host.bme + 128 * b2n s.host.mse))
  else if a == Adr.safetyState then some (.num s.bin.state.code)
  else if a == Adr.logbookCount then some (.num s.log.ring.length)
  else if a == Adr.logbookFirstSeq then some (.num (match s.log.ring with | r :: _ => r.seq | [] => 0))
  else if a == Adr.logbookLastSeq then some (.num s.log.lastSeq)
  else if a == Adr.logbookReadSeq then some (.num (s.portAt p).readSeq)
  else if a == Adr.logbookRecord then some (.bytes (s.recordFound (s.portAt p).readSeq))
  else if a == Adr.logbookExport then some (.bytes (exportBytes (s.exportRange (s.portAt p).readSeq)))
  else if a == Adr.persistCount then some (.num s.log.persist.length)
  else if a == Adr.persistReadIndex then some (.num (s.portAt p).persistIndex)
  else if a == Adr.persistRecord then some (.bytes (s.persistFound (s.portAt p).persistIndex))
  else
    match familyAt 0x3400 1 8 (a / 256) with
    | some m =>
      if a == Adr.mbxState m then
        let x := s.mailboxAt m
        some (.num (b2n x.inFull + 2 * b2n x.outFull + 4 * b2n (s.spiServes m)))
      else none
    | none => none

/-! ## Keys and touch (R307, R326) -/

def State.viewKeys (s : State) (a : Nat) : Option Val :=
  let k := s.keys
  if a == Adr.keyState then some (.bytes (leBytes 32 (maskOf 256 k.pressed.contains)))
  else if a == Adr.scanMode then some (.num (b2n k.scanning))
  else if a == Adr.buttonState then some (.num (maskOf 16 k.btnPressed.contains))
  else if a == Adr.eventWindow then some (.bytes ((k.fifo.map Event.bytes).flatten))
  else if a == Adr.eventCount then some (.num k.fifo.length)
  else if a == Adr.eventNextSeq then some (.num k.nextSeq)
  else if a == Adr.keyLock then some (.num (b2n (k.lock == .on)))
  else if a == Adr.unlockProgress then some (.num k.progress)
  else none

def State.viewTouch (s : State) (a : Nat) : Option Val :=
  if 0x5400 ≤ a / 256 && a / 256 < 0x5440 then
    let p := (a / 256 - 0x5400) / 16
    let x := s.panelAt p
    if a == Adr.frameAlignEffective p then some (.num (b2n x.aligned))
    else if a == Adr.noiseModeEffective p then some (.num (b2n x.quiet))
    else if a == Adr.freqIndex p then some (.num x.freq)
    else if a == Adr.noiseLevels p then some (.bytes (fieldsOf 2 x.noiseLevels))
    else if a == Adr.touchState p then some (.num x.state.code)
    else if a == Adr.mapStatus p then some (.num (s.mapStatusOf p))
    else if a == Adr.referenceMap p then some (.bytes (nth s.nvm.refMaps p []))
    else if a == Adr.selftestResult p then some (.bytes x.result)
    else if a == Adr.reportWindow p then some (.bytes ((x.reports.map (·.bytes)).flatten))
    else if a == Adr.reportCount p then some (.num x.reports.length)
    else if a == Adr.reportNextSeq p then some (.num x.nextSeq)
    else if a == Adr.rawCounts p then some (.bytes (fieldsOf 2 x.raw))
    else if a == Adr.deltaCounts p then
      some (.bytes (fieldsOf 2 (x.delta.map (fun d => ofSigned 16 (clampInt d (-32768) 32767)))))
    else none
  else none

/-! ## Platform and power (R353 to R355, R380) -/

/-- CH_STATUS (R336, R355): the highest crossed level, and FAULT. -/
def Channel.status (c : Channel) : Nat :=
  (if c.critical.crossed then 3 else if c.high.crossed then 2 else if c.warn.crossed then 1 else 0) + 4 * b2n c.fault

def State.viewPlatform (s : State) (a : Nat) : Option Val :=
  let x := s.plat
  if a == Adr.seqActive then some (.num (match x.sequence with | some q => q.s | none => 0xFF))
  else if a == Adr.seqStep then some (.num (match x.sequence with | some q => q.step | none => 0))
  else if a == Adr.enState then some (.num x.enState)
  else if a == Adr.pgState then some (.num x.pgState)
  else if a == Adr.thermTripState then some (.num (b2n x.trip))
  else if a == Adr.tempMax then some (.num (ofSigned 16 s.tempMax))
  else if a == Adr.vsupMv then some (.num x.vsupMv)
  else if a == Adr.vsupStatus then
    some (.num (sumNat ((x.vsup.zipIdx).map (fun (e : Crossing × Nat) => 2 ^ e.2 * b2n e.1.crossed))))
  else if a == Adr.battStatus then some (.num x.battStatus)
  else if a == Adr.battData then some (.bytes x.battWords)
  else
    match familyAt 0x5C10 1 24 (a / 256), familyAt 0x5C40 1 2 (a / 256) with
    | some c, _ =>
      if a == Adr.temp c then some (.num (ofSigned 16 (s.channelAt c).temp))
      else if a == Adr.chStatus c then some (.num (s.channelAt c).status) else none
    | _, some f =>
      if a == Adr.fanRpm f then some (.num (s.fanAt f).rpm)
      else if a == Adr.fanDutyEffective f then some (.num (s.fanAt f).duty)
      else if a == Adr.fanStatus f then some (.num (b2n (s.fanAt f).fault)) else none
    | _, _ => none

/-- The domains in the order of DOMAIN_CLOCK_KHZ (R380). -/
def allDomains : List Sys2Proof.Domain := [.aon, .ctl, .sense, .bin, .host, .ingest, .fab, .array, .mem]

/-- DOMAIN_CLOCK_KHZ (R380): 0 while stopped or off; AON and CTL per R262 and R10, INGEST per R122 (8 units a cycle,
6 400 M units/s), FAB per R212 (128 bytes a cycle, 179.2 GB/s) and ARRAY per R162 (peak rates) (DEDUCED, log 43); the others are open. -/
def State.clockKhz (s : State) (k : Nat) : Nat :=
  match allDomains[k]? with
  | none => 0
  | some d =>
    if !(s.domainRuns d) then 0
    else
      match d with
      | .aon => 24000
      | .ctl => 120000
      | .ingest => 800000
      | .fab => 1400000
      | .array => 1600000
      | .sense | .bin | .host | .mem => Config.domainClockKhz k % 2 ^ 32

/-- DEBUG_STATE (R380). -/
def State.debugCode (s : State) : Nat :=
  if s.power.debugUnlocked then 1 else if 3 ≤ s.power.debugFailures then 2 else 0

/-- DEBUG_CHALLENGE: the free byte string drawn at the latest reset or response (R379, log 8). -/
def State.challengeBytes (s : State) : Bytes := padTo (Config.freeBytes s.power.challenge) 32 0

def State.viewPower (s : State) (a : Nat) : Option Val :=
  if a == Adr.powerState then some (.num s.power.state.code)
  else if a == Adr.powerTransition then some (.num (match s.power.target with | some x => x.code | none => 0xFF))
  else if a == Adr.powerLastResult then some (.bytes s.power.lastResult)
  else if a == Adr.wakeCause then some (.num s.power.wakeCause)
  else if a / 256 == 0x0920 then some (.num (s.clockKhz (a % 256 - 1)))
  else if a == Adr.bootStatus then some (.bytes s.power.bootStatus)
  else if a == Adr.debugState then some (.num s.debugCode)
  else if a == Adr.debugChallenge then some (.bytes s.challengeBytes)
  else none

/-! ## A read -/

/-- What port `p` reads at an address, staged values left aside. -/
def State.view (s : State) (p : Sys2Proof.Port) (a : Nat) : Val :=
  let i := a / 256
  let v :=
    if i < 0x0200 then s.viewIdentity a
    else if i < 0x0800 then s.viewOwn a
    else if i < 0x0900 then s.viewTick a
    else if i < 0x1000 then s.viewPower a
    else if i < 0x2000 then s.viewIngest a
    else if i < 0x3000 then s.viewCompute a
    else if i < 0x5000 then s.viewHost p a
    else if i < 0x5400 then s.viewKeys a
    else if i < 0x5800 then s.viewTouch a
    else s.viewPlatform a
  v.getD (s.valAt a)

/-- The staged value of an address, if any (R61). -/
def State.stagedAt (s : State) (a : Nat) : Option Val := (s.staged.find? (fun x => x.addr == a)).map (·.val)

/-- R24, R63: what a read returns: the staged value where there is one. -/
def State.readVal (s : State) (p : Sys2Proof.Port) (a : Nat) : Val := (s.stagedAt a).getD (s.view p a)

end Sys2Proof.Machine
end

