-- ==== Sys2Proof/Machine/Shevy.lean ====
section
/-! DEFINITION. Machine/Shevy: a Shevy request from its acceptance to its response (R34 to R48, R60 to R64): the
ownership actions that precede it, the order of checks, and what an accepted write does. -/

namespace Sys2Proof.Machine

/-! ## Ownership at the meridian (R38) -/

/-- Whether meridian `n` has come. -/
def State.reached (s : State) (n : Nat) : Bool := s.tick.started && n ≤ s.tick.tick

/-- R42: a handover whose deadline meridian has come ends with the old owner. -/
def State.endHandover (s : State) : State :=
  if s.own.state == .handoverPending && s.reached s.own.deadline then s.failHandover allPorts else s

/-- R39: a lease that has run out vacates ownership. -/
def State.endLease (s : State) : State :=
  if s.own.state == .owned && s.own.lease == 0 then s.vacate 1 allPorts else s

/-- R37: whether claim `a` beats claim `b`: by rank, then by tie order. -/
def Claim.beats (a b : Claim) : Bool := b.rank < a.rank || (a.rank == b.rank && a.port.tie < b.port.tie)

/-- R37: the winning claim of a window. -/
def winner (cs : List Claim) : Option Claim :=
  match cs with
  | [] => none
  | c :: rest => some (rest.foldl (fun w x => if x.beats w then x else w) c)

/-- R37: a claim window whose closing meridian has come elects the owner. -/
def State.closeClaims (s : State) : State :=
  if s.own.state == .claiming && s.reached s.own.closeTick then
    match winner s.own.claims with
    | none => s
    | some c => s.giveOwnership c.port c.nonce
  else s

/-- R38: the ownership actions that are due, in their order. -/
def State.settleOwnership (s : State) : State := s.endHandover.endLease.closeClaims

/-! ## Acceptance and response (R34, R39, R44, R48) -/

/-- What a request leads to: a response, an abort with its code, or nothing more from here: its response has been
sent, or follows later (R200, R371). -/
inductive Reply where
  | done (flags : Nat) (payload : Bytes) (s : State)
  | refused (flags code : Nat) (s : State)
  | later (s : State)

/-- R244: whether the request ring offers a request for which a response entry is free. -/
def State.ringOffers (s : State) : Bool :=
  let r := s.host.ring
  s.hostOpen && r.enabled && later32 r.reqTail r.fetched && r.free != 0

/-- Whether a request that arrives on a port reaches the protocol: not in DORMANT (R366), during a controller reset
(R371) or while the port's link is down; on port H once the ring offers it (R244). -/
def State.portOpen (s : State) (p : Sys2Proof.Port) : Bool :=
  !s.dormant && s.ctlRuns && (if p == .H then s.ringOffers else (s.portAt p).linkUp)

/-- R244: the next entry of the request ring is fetched. -/
def State.fetchEntry (s : State) : State :=
  let r := s.host.ring
  (s.emit (.hostRead .controlRing (r.reqBase + r.fetched % r.size * 1088) 1088 false)).setRing (fun r => { r with
    fetched := (r.fetched + 1) % 2 ^ 32 })

/-- R34, R244: a request is accepted: it is counted, and on port H its ring entry and its response entry are taken. -/
def State.acceptOn (s : State) (p : Sys2Proof.Port) : State :=
  let s :=
    if p == .H then s.fetchEntry.setRing (fun r => { r with reserved := r.reserved + 1 }) else s
  s.bump (Adr.requests p.idx)

/-- Whether a port owns. -/
def State.ownedBy (s : State) (p : Sys2Proof.Port) : Bool := s.own.owner == some p

/-- R39, R41: a served request from the owner port sets the lease; a pending handover freezes it. -/
def State.touchLease (s : State) (p : Sys2Proof.Port) : State :=
  if s.ownedBy p && s.own.state == .owned then s.setLease else s

/-- The end of a request: its response (R45), or its abort, which is counted (R54). -/
def Reply.send (r : Reply) (p : Sys2Proof.Port) (route : Route) (service seq addr : Nat) : State :=
  match r with
  | .later s => s
  | .done flags payload s => s.respond p route (responsePdu service seq addr flags payload)
  | .refused flags code s =>
    (s.bump (Adr.aborts p.idx)).respond p route (responsePdu service seq addr (0x80 + flags) (leBytes 2 code))

/-- R376: without controller firmware the boot ROM serves only READ of 0x0100 and 0x0930 on port S. -/
def State.romRefuses (s : State) (p : Sys2Proof.Port) (service index : Nat) : Bool :=
  s.power.romOnly && !(p == .S && service == 1 && (index == 0x0100 || index == 0x0930))

/-- R47: whether a frame is addressed to the device: on port C by its identifier. -/
def State.addressed (s : State) (p : Sys2Proof.Port) (sender : Nat) : Bool :=
  p != .C || sender == s.canInForce.request

/-- R48: whether the four places of a port's buffer are taken; port H has its ring instead. -/
def State.bufferFull (s : State) (p : Sys2Proof.Port) : Bool := p != .H && 4 ≤ (s.portAt p).waiting.length

/-- R46 to R48: a PDU is dropped without response and counted. -/
def State.dropPdu (s : State) (p : Sys2Proof.Port) : State := s.bump (Adr.droppedMalformed p.idx)

/-- R47: port E keeps the source of the last request it accepted. -/
def State.notePeer (s : State) (p : Sys2Proof.Port) (sender : Nat) : State :=
  if p == .E then s.setPort .E (fun x => { x with peer := some sender }) else s

/-- A request: time and due ownership actions, acceptance, then what `serve` makes of it. The response goes by the
identifiers and rates that stood when it was accepted (R54). -/
def State.request (s : State) (t : Nat) (p : Sys2Proof.Port) (sender service seq index sub : Nat)
    (serve : State → Reply) : State :=
  let s := (s.advanceCharged t).settleOwnership
  if !(s.portOpen p && s.addressed p sender) then s
  else if s.bufferFull p then s.dropPdu p
  else
    let s := (s.acceptOn p).notePeer p sender
    let r := if s.romRefuses p service index then .refused 0 0x0501 s else serve s
    r.send p (s.routeOf p sender) service seq (index * 256 + sub)

/-! ## Checks of steps 2 to 4 (R64) -/

/-- Step 2 for a write (R44). -/
def State.ownerCheck (s : State) (p : Sys2Proof.Port) : Option Nat :=
  if !(s.ownedBy p) then some 0x0301
  else if s.own.state == .handoverPending then some 0x0302
  else none

/-- R285: the read selectors, one copy a port. -/
def isSelector (a : Nat) : Bool := a == Adr.logbookReadSeq || a == Adr.persistReadIndex

/-- R71: whether an index belongs to an absent stream slot. -/
def absentSlotIndex (v : Variant) (index : Nat) : Bool :=
  0x1000 ≤ index && index < 0x1180 && v.slots ≤ (index - 0x1000) / 8

/-- Step 3: existence (R71, R78, R387). -/
def State.existCheck (s : State) (a : Nat) : Option Nat :=
  if !(indexDefined (a / 256)) then some 0x0201
  else if absentSlotIndex s.part.variant (a / 256) then some 0x0203
  else
    match objAt a with
    | none => some 0x0202
    | some (o, i) => if !(s.exists a) then some 0x0202 else if o.home.absent s.part.variant i then some 0x0203 else none

/-- R72: whether debug access has to be unlocked for an address. -/
def State.lockedOut (s : State) (a : Nat) : Bool :=
  0xF000 ≤ a / 256 && a / 256 ≤ 0xF0FF && !s.power.debugUnlocked

/-- The access class of an address. -/
def accessAt (a : Nat) : Access :=
  match objAt a with
  | some (o, _) => o.acc
  | none => .ro

/-- The type of an address. -/
def typeAt (a : Nat) : Ty :=
  match objAt a with
  | some (o, _) => o.ty
  | none => .domain

/-- Step 4 for a read. -/
def State.readCheck (s : State) (a : Nat) : Option Nat :=
  if s.lockedOut a then some 0x0103 else if accessAt a == .wo then some 0x0101 else none

/-- Step 4 for a write. -/
def State.writeCheck (s : State) (a : Nat) : Option Nat :=
  if s.lockedOut a then some 0x0103 else if (accessAt a).writable then none else some 0x0102

/-! ## Step 5: state (R60, R64) -/

/-- A state code where a condition holds. -/
def refuseIf (b : Bool) (code : Nat) : Option Nat := if b then some code else none

/-- The first code of a list of checks. -/
def firstCode (xs : List (Option Nat)) : Option Nat := xs.findSome? id

/-- R69, R70: the state checks of STORE, RESTORE and RESTORE_FACTORY. -/
def State.storageCheck (s : State) (a : Nat) : Option Nat :=
  let held := s.power.state != .standby && s.power.state != .ready
  let busy := s.nvmState == 1
  if a == Adr.store then refuseIf busy 0x0502
  else if a == Adr.restore then
    firstCode [refuseIf held 0x0501, refuseIf busy 0x0502, refuseIf s.nvm.image.isNone 0x0503]
  else if a == Adr.restoreFactory then firstCode [refuseIf held 0x0501, refuseIf busy 0x0502]
  else none

/-- R108, R123, R185, R208, R252, R309: objects that an enabled unit refuses. -/
def State.unitCheck (s : State) (a : Nat) : Option Nat :=
  let index := a / 256
  let sub := a % 256
  if 0x1000 ≤ index && index < 0x1180 then
    let n := (index - 0x1000) / 8
    refuseIf ((index % 8 == 1 || index % 8 == 2) && a != Adr.release n && a != Adr.acquire n && s.flagAt (Adr.enable n))
      0x0504
  else if 0x1800 ≤ index && index < 0x1880 then
    refuseIf (1 ≤ index % 8 && index % 8 ≤ 4 && s.flagAt (Adr.shapeEnable ((index - 0x1800) / 8))) 0x0504
  else if 0x2420 ≤ index && index < 0x2460 then
    let q := (index - 0x2420) / 2
    let fixed := if index % 2 == 0 then [2, 6, 7].contains sub else 2 ≤ sub
    refuseIf (fixed && s.flagAt (Adr.queueEnable q)) 0x0504
  else if 0x2840 ≤ index && index < 0x2860 then
    refuseIf (sub == 3 && (s.queueAt (index - 0x2840)).fault.isNone) 0x0504
  else if 0x3040 ≤ index && index < 0x3060 then refuseIf (s.flagAt (Adr.queueEnable (index - 0x3040))) 0x0504
  else if 0x5400 ≤ index && index < 0x5440 then
    refuseIf (index % 16 == 0 && 2 ≤ sub && s.flagAt (Adr.panelEnable ((index - 0x5400) / 16))) 0x0504
  else none

/-- R258, R269, R287: the state checks of the safety and logbook commands. -/
def State.safetyCheck (s : State) (a x : Nat) : Option Nat :=
  if a == Adr.faultAck then refuseIf s.safetyCondition 0x0505
  else if a == Adr.arrayFaultClear then
    refuseIf (x < s.part.variant.arrays && (s.arrAt x).state != .heldFault) 0x0504
  else if a == Adr.logbookClear then
    firstCode [refuseIf (s.bin.state == .faultLatched) 0x0505, refuseIf s.exporting 0x0504]
  else none

/-- Whether a script switches off the array rail (R330). -/
def State.dropsArrayRail (s : State) (k : Nat) : Bool :=
  (s.script k).any (fun x => x.op == 2 && x.line == s.numAt Adr.arrayRailEn)

/-- R325, R330, R333, R340: the state checks of touch tests, sequences and the trip. -/
def State.platformCheck (s : State) (a x : Nat) : Option Nat :=
  if a == Adr.selfTest then refuseIf (!(s.testReady x)) 0x0504
  else if a == Adr.seqRun then
    firstCode [refuseIf s.plat.sequence.isSome 0x0504, refuseIf s.power.target.isSome 0x0504,
      refuseIf (s.power.state == .run && s.dropsArrayRail x) 0x0501]
  else if a == Adr.seqAbort then refuseIf s.plat.sequence.isNone 0x0504
  else if a == Adr.tripClear then refuseIf s.tripHeld 0x0505
  else
    match s.plat.sequence with
    | some q => refuseIf (a == Adr.seqScript q.s) 0x0504
    | none => none

/-- R360, R368, R379: the state checks of power commands, resets and the debug response. -/
def State.powerCodes (s : State) (a x : Nat) : Option Nat :=
  if a == Adr.powerCmd then s.powerCheck x
  else if a == Adr.warmReset then refuseIf (s.power.state != .ready && s.power.state != .run) 0x0501
  else if a == Adr.debugResponse then refuseIf (3 ≤ s.power.debugFailures) 0x0504
  else none

/-- Step 5 for a write of value `x` (0 for a byte string): RWI objects in RUN (R60), then the checks of the object. -/
def State.stateCheck (s : State) (a x : Nat) : Option Nat :=
  firstCode [refuseIf (accessAt a == .rwi && s.power.state == .run) 0x0501, s.storageCheck a, s.unitCheck a,
    s.safetyCheck a x, s.platformCheck a x, s.powerCodes a x]

/-! ## Step 6: value (R59, R62, R64) -/

/-- R62: the look-up of dependent settings: staged values first. -/
def State.look (s : State) : Look := fun a => (s.stagedAt a).getD (s.valAt a)

/-- R322, R380: the value checks of the debug-locked objects beyond their reserved bytes. -/
def State.debugValueCheck (s : State) (a : Nat) (b : Bytes) : Option Nat :=
  if a == Adr.touchRefMapWrite then
    (if b.length < 4 || 3 < field b 0 1 then some 0x0403 else refuseIf (!s.part.variant.touch) 0x0203)
  else if a == Adr.securityVersionRaise then
    refuseIf (field b 4 4 < nth s.nvm.minSecurity (field b 0 1 - 1) 0) 0x0401
  else none

/-- R167: the whole image of a standing queue, of the length its header gives, lies in a READ region. -/
def State.standingImageOk (s : State) (q : Nat) : Bool :=
  let g := s.look
  let a := g.num (Adr.standingImageAddr q)
  let head := s.readMem a 128
  g.num (Adr.queueMode q) == 0 || (parseImage head).isNone ||
    coveredBy (regionsOf (g.bytes (Adr.regionTable (g.num (Adr.queuePartition q))))) false a (128 + field head 56 8)

/-- The value checks of commands that depend on the state. -/
def State.commandValueCheck (s : State) (a x : Nat) : Option Nat :=
  if a == Adr.tlbInvalidate then
    refuseIf (bitsAt x 11 4 != 0 || bitsAt x 63 48 != 0 || x % 4 == 3) 0x0402
  else if a == Adr.arrayFaultClear then refuseIf (s.part.variant.arrays ≤ x) 0x0203
  else if a == Adr.logbookExportedUpto then refuseIf (later32 x s.log.lastSeq) 0x0401
  else if a == Adr.eventAck then refuseIf (later32 x ((s.keys.nextSeq + (2 ^ 32 - 1)) % 2 ^ 32)) 0x0401
  else if 0x2420 ≤ a / 256 && a / 256 < 0x2460 && a / 256 % 2 == 0 && a % 256 == 1 then
    refuseIf (x == 1 && !(s.standingImageOk ((a / 256 - 0x2420) / 2))) 0x0404
  else if a == Adr.seqRun then refuseIf (s.script x).isEmpty 0x0404
  else if a == Adr.realign then refuseIf (s.fixSource == 0) 0x0404
  else if a == Adr.restoreFactory then s.factoryCode
  else if 0x5400 ≤ a / 256 && a / 256 < 0x5440 && a / 256 % 16 == 4 && a % 256 == 7 then
    refuseIf (later32 x (((s.panelAt ((a / 256 - 0x5400) / 16)).nextSeq + (2 ^ 32 - 1)) % 2 ^ 32)) 0x0401
  else none

/-- Step 6 for a write. -/
def State.valueCheck (s : State) (a : Nat) (v : Val) : Option Nat :=
  firstCode [valueCode s.part s.look a v, s.commandValueCheck a v.toNat, s.debugValueCheck a v.toBytes]

/-! ## What an accepted write does -/

/-- R61: a staged value replaces the object's earlier one and goes to the end of the list. -/
def State.stage (s : State) (a : Nat) (v : Val) : State :=
  { s with staged := s.staged.filter (fun x => x.addr != a) ++ [{ addr := a, val := v, tick := s.reachedTick }] }

/-- A setting changes at once, and the units follow it. -/
def State.applyNow (s : State) (a : Nat) (v : Val) : State := (s.setVal a v).settleNow s

/-- A write of a plain setting (R60, R409): an RWM value is staged while the generator runs, any other value is
applied. -/
def State.putSetting (s : State) (a : Nat) (v : Val) : State :=
  let index := a / 256
  if accessAt a == .rwm && s.tick.gen != .halted then s.stage a v
  else if index == 0x0203 then s.setNum a (Nat.lor v.toNat 0x1E)
  else if 0x1000 ≤ index && index < 0x1180 && a == Adr.settings ((index - 0x1000) / 8) then
    (s.setVal a v).setSlot ((index - 0x1000) / 8) (fun x => { x with settingsNew := true })
  else if 0x2840 ≤ index && index < 0x2860 && a % 256 == 1 then
    let s := s.setVal a v
    s.setNum (Adr.tfModeEffective (index - 0x2840)) (s.tfModeOf (index - 0x2840))
  else s.applyNow a v

/-- R379: what a debug response is signed over. -/
def State.challengeDigest (s : State) : Bytes :=
  Config.sha256 (s.challengeBytes ++ padTo Config.serialNumber 8 0 ++ leBytes 2 (s.numAt Adr.deviceId))

/-- R379: whether a debug response is right. -/
def State.debugOk (s : State) (b : Bytes) : Bool :=
  Config.sha256 (b.take 64) == Config.debugKeyDigest && Config.p256Verify (b.take 64) s.challengeDigest (b.drop 64)

/-- R379: a debug response unlocks access or counts as a failure; the challenge is drawn anew. -/
def State.answerDebug (s : State) (b : Bytes) : Option Nat × State :=
  let ok := s.debugOk b
  let s := { s with free := s.free + 1 }.setPower (fun p => { p with challenge := s.free })
  if ok then
    (none, (s.setPower (fun p => { p with debugUnlocked := true })).bump Adr.debugUnlocks)
  else (some 0x0403, s.setPower (fun p => { p with debugFailures := p.debugFailures + 1 }))

/-- R287: the ring is emptied. -/
def State.clearLogbook (s : State) : State :=
  { s with log := { s.log with ring := [] } }.setNum Adr.logbookExportedUpto s.log.lastSeq

/-- R285: a port's copy of a read selector. -/
def State.putSelector (s : State) (p : Sys2Proof.Port) (a x : Nat) : State :=
  s.setPort p (fun y => if a == Adr.logbookReadSeq then { y with readSeq := x } else { y with persistIndex := x })

/-- Commands of single objects; none where the address is no command. -/
def State.command (s : State) (a : Nat) (v : Val) : Option State :=
  let x := v.toNat
  let b := v.toBytes
  if a == Adr.realign then some (s.requestRealign)
  else if a == Adr.store then some s.startStore
  else if a == Adr.restore then some s.restoreImage
  else if a == Adr.restoreFactory then some s.restoreDefaults
  else if a == Adr.faultAck then some s.faultAck
  else if a == Adr.arrayFaultClear then some (s.setArr x (fun r => { r with verdict := 0 }))
  else if a == Adr.logbookClear then some s.clearLogbook
  else if a == Adr.eventAck then some (s.ackEvents x)
  else if a == Adr.keyLock then some (if x == 1 then s.requestLock 0 s.tick.now else s.ownerUnlock s.tick.now)
  else if a == Adr.selfTest then some ((bitsOf 4 x).foldl State.startTest s)
  else if a == Adr.seqRun then some (s.startSequence x s.tick.now)
  else if a == Adr.seqAbort then some (s.endSequence 3 255 s.tick.now)
  else if a == Adr.tripClear then some (s.driveTrip false s.tick.now 0 0)
  else if a == Adr.platPending then some (s.setNum a (Nat.land (s.numAt a) (7 - x % 8)))
  else if a == Adr.powerCmd then some (s.commandPower x)
  else if a == Adr.warmReset then some s.warmReset
  else if a == Adr.debugLock then some (s.setPower (fun p => { p with debugUnlocked := false }))
  else if a == Adr.touchRefMapWrite then
    some { s with nvm := { s.nvm with refMaps := modifyAt s.nvm.refMaps (field b 0 1) (fun _ => b.drop 4) } }
  else if a == Adr.persistClear then some { s with log := { s.log with persist := [] } }
  else if a == Adr.securityVersionRaise then
    some { s with nvm := { s.nvm with minSecurity := modifyAt s.nvm.minSecurity (field b 0 1 - 1) (fun _ => field b 4 4) } }
  else none

/-- Commands that come in families: slots, queues, panels. -/
def State.unitCommand (s : State) (a x : Nat) : Option (Option Nat × State) :=
  let index := a / 256
  if 0x1000 ≤ index && index < 0x1180 && a == Adr.release ((index - 0x1000) / 8) then
    some (s.releaseBuffer ((index - 0x1000) / 8) x)
  else if 0x1000 ≤ index && index < 0x1180 && a == Adr.acquire ((index - 0x1000) / 8) then
    some (s.acquireBuffer ((index - 0x1000) / 8) x)
  else if 0x2420 ≤ index && index < 0x2460 && a == Adr.queueAbort ((index - 0x2420) / 2) then
    some (none, (s.endQueue ((index - 0x2420) / 2) 0x21 0x18).dispatch)
  else if 0x2840 ≤ index && index < 0x2860 && a == Adr.tfResolve (index - 0x2840) then
    some (none, (s.tfResolve (index - 0x2840) (x == 1)).getD s)
  else if 0x5400 ≤ index && index < 0x5440 && a == Adr.reportAck ((index - 0x5400) / 16) then
    some (none, s.ackReports ((index - 0x5400) / 16) x)
  else none

/-- The kind of an address (R80). -/
def kindAt (a : Nat) : Kind :=
  match objAt a with
  | some (o, _) => o.kind
  | none => .plain

/-- What an accepted write does, once its checks have passed: the code that its effect gives, if any, and the state.
Counters and WRAP flags follow R80 and R81. -/
def State.perform (s : State) (p : Sys2Proof.Port) (a : Nat) (v : Val) : Option Nat × State :=
  if isSelector a then (none, s.putSelector p a v.toNat)
  else if kindAt a == .wrap then (none, if v.toNat == 1 then s.setNum a 0 else s)
  else if kindAt a == .counter then (none, s.presetCounter a v)
  else if a == Adr.debugResponse then s.answerDebug v.toBytes
  else
    match s.unitCommand a v.toNat with
    | some r => r
    | none =>
      match s.command a v with
      | some s => (none, s)
      | none => (none, s.putSetting a v)

/-! ## READ and WRITE -/

/-- Transport checks of a header without SEG (R45, step 1). -/
def flagCheck (flags : Nat) : Option Nat := if flags == 0 then none else some 0x0402

/-- R46: whether a READ or WRITE names an object that only a block transfer carries. -/
def blockOnly (a : Nat) : Bool :=
  match objAt a with
  | some (o, _) => !o.ty.fixed
  | none => false

/-- The payload of a READ (R46, R63): the value, and the STAGE byte of an RWM object. -/
def State.readPayload (s : State) (p : Sys2Proof.Port) (a : Nat) : Bytes :=
  encodeVal (typeAt a) (s.readVal p a) ++ (if accessAt a == .rwm then leBytes 1 (b2n (s.stagedAt a).isSome) else [])

/-- R46, R63, R64: READ. -/
def State.serveRead (s : State) (p : Sys2Proof.Port) (flags a : Nat) : Reply :=
  match firstCode [flagCheck flags, refuseIf (blockOnly a) 0x0602, s.existCheck a, s.readCheck a] with
  | some code => .refused 0 code s
  | none =>
    let s := s.touchLease p
    .done 0 (s.readPayload p a) s

/-- R46: the value that a WRITE carries. -/
def writeValue (a : Nat) (payload : Bytes) : Val := (decodeFixed (typeAt a) payload).getD (.num 0)

/-- R46: whether a WRITE's payload is too short for its object. -/
def tooShort (a : Nat) (payload : Bytes) : Bool :=
  match objAt a with
  | some (o, _) => payload.length < o.ty.size
  | none => false

/-- R200: TLB_INVALIDATE: the response waits. -/
def State.serveInvalidate (s : State) (p : Sys2Proof.Port) (sender seq x : Nat) : Reply :=
  let s := (s.touchLease p).holdResponse p (s.routeOf p sender) (responsePdu 2 seq Adr.tlbInvalidate 0 [])
  .later (s.invalidate x (.port p))

/-- R368, R371: CTL_RESET: its response is sent, then the controller restarts; what mailbox 0 still has to send
stays. -/
def State.serveControllerReset (s : State) (p : Sys2Proof.Port) (sender seq : Nat) : Reply :=
  let s := s.respond p (s.routeOf p sender) (responsePdu 2 seq Adr.ctlReset 0 [])
  .later ((s.controllerReset).setMailbox 0 (fun m => { m with out := (s.mailboxAt 0).out }))

/-- The refusals of a write of value `v` in steps 2 to 6 (R64). An object that RUN refuses is 0x0501 also where its value
names an absent unit (DESIGN CHOICE, log 22). -/
def State.refuses (s : State) (p : Sys2Proof.Port) (a : Nat) (v : Val) : Option Nat :=
  firstCode [if isSelector a then none else s.ownerCheck p, s.existCheck a, s.writeCheck a, s.stateCheck a v.toNat,
    s.valueCheck a v]

/-- R64: WRITE. -/
def State.serveWrite (s : State) (p : Sys2Proof.Port) (sender seq flags a : Nat) (payload : Bytes) : Reply :=
  let v := writeValue a payload
  match firstCode [flagCheck flags, refuseIf (blockOnly a || tooShort a payload) 0x0602, s.refuses p a v] with
  | some code => .refused 0 code s
  | none =>
    if a == Adr.tlbInvalidate then s.serveInvalidate p sender seq v.toNat
    else if a == Adr.ctlReset then s.serveControllerReset p sender seq
    else
      match s.perform p a v with
      | (some code, s) => .refused 0 code s
      | (none, s) => .done 0 [] (if isSelector a then s else s.touchLease p)

end Sys2Proof.Machine
end

