-- ==== Sys2Proof/Machine/Blocks.lean ====
section
/-! DEFINITION. Machine/Blocks: segmented transfers, READ_BLOCK and WRITE_BLOCK (R49 to R51). -/

namespace Sys2Proof.Machine

/-- Largest payload of a segment on a port (R47, R49). -/
def segmentSize (p : Sys2Proof.Port) : Nat := portMaxPdu p - 6

/-- A segment as it is judged: its direction, header and address, and its payload. -/
structure Segment where
  write : Bool
  seq : Nat
  seg : Bool
  last : Bool
  first : Bool
  addr : Nat
  payload : Bytes
  deriving DecidableEq, Repr

/-- The fields of a block request (R45). -/
def segmentOf (write : Bool) (seq flags addr : Nat) (payload : Bytes) : Segment :=
  { write := write, seq := seq, seg := bitAt flags 6, last := bitAt flags 5, first := bitAt flags 4, addr := addr,
    payload := payload }

/-- FLAGS of the response to a segment. -/
def Segment.flags (g : Segment) (last : Bool) : Nat := 0x40 + 0x20 * b2n last + 0x10 * b2n g.first

/-- R49: SEG_TIMEOUT in ns. -/
def State.segTimeout (s : State) : Nat := s.numAt Adr.segTimeout * 1000000

/-- R49: whether more than SEG_TIMEOUT has passed since the latest segment. -/
def State.segmentLate (s : State) (x : Transfer) : Bool := x.time + s.segTimeout < s.tick.now

/-- R49: a transfer in progress that is late is discarded, and the next segment will be refused with 0x0604; the
response kept after a last segment is forgotten. -/
def State.expireTransfer (s : State) (p : Sys2Proof.Port) : State :=
  match (s.portAt p).transfer with
  | none => s
  | some x =>
    if !(s.segmentLate x) then s
    else if x.finished then s.setPort p (fun y => { y with transfer := none, discarded := none })
    else s.discardTransfer p 0x0604

/-- R49: whether a segment repeats the previous request of the transfer. A new INIT whose SEQUENCE happens to be that
of a later segment is none (DEDUCED, log 44). -/
def Transfer.repeats (x : Transfer) (g : Segment) : Bool :=
  g.seg && x.write == g.write && x.addr == g.addr && x.seq == g.seq && (!g.first || bitAt (field x.response 5 1) 4)

/-- The previous response again. -/
def State.repeatResponse (s : State) (p : Sys2Proof.Port) (x : Transfer) : Reply :=
  let s := s.setPort p (fun y => { y with transfer := some (if x.finished then x else { x with time := s.tick.now }) })
  .done (field x.response 5 1) (x.response.drop 6) (s.touchLease p)

/-- R49, R50: a segment that ends the transfer in progress, if any: it is refused with `code`, and later segments
with `later_`. -/
def State.breakTransfer (s : State) (p : Sys2Proof.Port) (flags code later_ : Nat) : Reply :=
  .refused flags code (s.discardTransfer p later_)

/-- Steps 2 to 5 of R64 for a segment (R50). -/
def State.segmentCheck (s : State) (p : Sys2Proof.Port) (g : Segment) : Option Nat :=
  if g.write then firstCode [s.ownerCheck p, s.existCheck g.addr, s.writeCheck g.addr, s.stateCheck g.addr 0]
  else firstCode [s.existCheck g.addr, s.readCheck g.addr]

/-- R49: the length rule of a WRITE_BLOCK segment that brings `data` after `had` bytes of `total`. -/
def lengthOk (p : Sys2Proof.Port) (g : Segment) (had total : Nat) (data : Nat) : Bool :=
  if g.last then total ≤ had + data else g.payload.length == segmentSize p && had + data < total

/-- A transfer that keeps its latest response. -/
def Transfer.answered (x : Transfer) (g : Segment) (flags : Nat) (payload : Bytes) (now : Nat) (last : Bool) : Transfer :=
  { x with seq := g.seq, time := now, finished := last,
           response := responsePdu (if g.write then 4 else 3) g.seq g.addr flags payload }

/-- The next segment of a value being read (R49): the total comes before the first data. -/
def State.sendSegment (s : State) (p : Sys2Proof.Port) (g : Segment) (x : Transfer) : Reply :=
  let room := if g.first then segmentSize p - 4 else segmentSize p
  let data := slice x.buf x.sent room
  let last := x.total ≤ x.sent + data.length
  let payload := (if g.first then leBytes 4 x.total else []) ++ data
  let x := ({ x with sent := x.sent + data.length } : Transfer).answered g (g.flags last) payload s.tick.now last
  .done (g.flags last) payload ((s.setPort p (fun y => { y with transfer := some x, discarded := none })).touchLease p)

/-- R50: data of a WRITE_BLOCK are taken; the last segment writes the whole value. -/
def State.takeSegment (s : State) (p : Sys2Proof.Port) (g : Segment) (x : Transfer) (data : Bytes) : Reply :=
  let x := { x with buf := (x.buf ++ data).take x.total }
  let kept := x.answered g (g.flags g.last) [] s.tick.now g.last
  let s := s.setPort p (fun y => { y with transfer := some { x with finished := false }, discarded := none })
  let keep (s : State) : Reply :=
    .done (g.flags g.last) [] ((s.setPort p (fun y => { y with transfer := some kept })).touchLease p)
  if !g.last then keep s
  else
    match s.valueCheck g.addr (.bytes x.buf) with
    | some code => s.breakTransfer p 0x40 code 0x0605
    | none =>
      match s.perform p g.addr (.bytes x.buf) with
      | (some code, s) => s.breakTransfer p 0x40 code 0x0605
      | (none, s) => keep s

/-- An empty transfer. -/
def Transfer.open_ (g : Segment) (total : Nat) (value : Bytes) (now : Nat) : Transfer :=
  { write := g.write, addr := g.addr, total := total, buf := value, sent := 0, seq := g.seq, response := [], time := now,
    finished := false, exportFirst := 0, exportLast := 0 }

/-- R285: the value of a READ_BLOCK is fixed at INIT, and an export protects the records it covers. -/
def State.openRead (s : State) (p : Sys2Proof.Port) (g : Segment) : Transfer :=
  let value := encodeVal (typeAt g.addr) (s.readVal p g.addr)
  let x := Transfer.open_ g value.length value s.tick.now
  let rs := if g.addr == Adr.logbookExport then s.exportRange (s.portAt p).readSeq else []
  match rs with
  | [] => x
  | r :: _ => { x with exportFirst := r.seq, exportLast := (rs.getLast?.map (fun (y : LogRec) => y.seq)).getD r.seq }

/-- R284: errors met within the records that a read of `a` delivers are counted. -/
def State.readRecords (s : State) (p : Sys2Proof.Port) (a : Nat) : State :=
  let x := s.portAt p
  if a == Adr.logbookExport then s.bumpBy Adr.recordsDamaged (countDamaged (s.exportRange x.readSeq))
  else if a == Adr.logbookRecord then
    s.bumpBy Adr.recordsDamaged (countDamaged (s.log.ring.find? (fun r => r.seq == x.readSeq)).toList)
  else if a == Adr.persistRecord then s.bumpBy Adr.recordsDamaged (countDamaged (s.log.persist[x.persistIndex]?).toList)
  else s

/-- R50: the transfer that an INIT segment began is discarded and counted. -/
def State.refuseInit (s : State) (p : Sys2Proof.Port) (code later_ : Nat) : Reply :=
  .refused 0x40 code ((s.setPort p (fun y => { y with discarded := some later_ })).bump (Adr.transfersDiscarded p.idx))

/-- Whether an address holds a value of a fixed-size type, which no block transfer carries (R46). -/
def fixedAt (a : Nat) : Bool :=
  match objAt a with
  | some (o, _) => o.ty.fixed
  | none => false

/-- R49, R50: an INIT segment: it discards the transfer in progress and starts its own. -/
def State.initSegment (s : State) (p : Sys2Proof.Port) (g : Segment) : Reply :=
  let busy := (s.portAt p).busy
  let s := (s.discardTransfer p 0x0605).setPort p (fun y => { y with
    transfer := none, discarded := if busy then some 0x0605 else none })
  let total := field g.payload 0 4
  if fixedAt g.addr || (g.write && g.payload.length < 4) then .refused 0x40 0x0602 s
  else if g.write && 65536 < total then .refused 0x40 0x0606 s
  else if g.write && !(lengthOk p g 0 total (g.payload.length - 4)) then s.refuseInit p 0x0602 0x0603
  else
    match s.segmentCheck p g with
    | some code => s.refuseInit p code 0x0605
    | none =>
      if g.write then s.takeSegment p g (Transfer.open_ g total [] s.tick.now) (g.payload.drop 4)
      else (s.readRecords p g.addr).sendSegment p g (s.openRead p g)

/-- R49, R50: a later segment of the transfer in progress. -/
def State.nextSegment (s : State) (p : Sys2Proof.Port) (g : Segment) (x : Transfer) : Reply :=
  if x.write != g.write || x.addr != g.addr || g.seq != (x.seq + 1) % 256 then s.breakTransfer p 0x40 0x0603 0x0603
  else if g.write && !(lengthOk p g x.buf.length x.total g.payload.length) then s.breakTransfer p 0x40 0x0602 0x0603
  else
    match s.segmentCheck p g with
    | some code => s.breakTransfer p 0x40 code 0x0605
    | none => if g.write then s.takeSegment p g x g.payload else s.sendSegment p g x

/-- R49: what a segment that is no repeat leads to. -/
def State.freshSegment (s : State) (p : Sys2Proof.Port) (g : Segment) : Reply :=
  if !g.seg then s.breakTransfer p 0 0x0603 0x0603
  else if g.first then s.initSegment p g
  else
    match (s.portAt p).transfer with
    | none => .refused 0x40 ((s.portAt p).discarded.getD 0x0603) s
    | some x => if x.finished then .refused 0x40 0x0603 s else s.nextSegment p g x

/-- R49 to R51: a READ_BLOCK or WRITE_BLOCK request. -/
def State.serveBlock (s : State) (p : Sys2Proof.Port) (write : Bool) (seq flags a : Nat) (payload : Bytes) : Reply :=
  let g := segmentOf write seq flags a payload
  if bitAt flags 7 || flags % 16 != 0 then .refused (if g.seg then 0x40 else 0) 0x0402 s
  else
    let s := s.expireTransfer p
    match (s.portAt p).transfer with
    | some x => if x.repeats g then s.repeatResponse p x else s.freshSegment p g
    | none => s.freshSegment p g

/-- R49: SEG_TIMEOUT has passed on a port. -/
def doSegmentTimeout (t : Nat) (port : Sys2Proof.Port) (s : State) : State := (s.advance t).expireTransfer port

def execSegmentTimeout (t : Nat) (port : Sys2Proof.Port) (s : State) : Host.Outcome State Fault Refusal :=
  .next (doSegmentTimeout t port s)

end Sys2Proof.Machine
end

