-- ==== Sys2Proof/Machine/Debug.lean ====
section
/-! DEFINITION. Machine/Debug: the IEEE 1149.1 TAP (R378) and its DBG_AUTH data register (R379). -/

namespace Sys2Proof.Machine

/-- Whether the TAP provides an instruction while debug access is locked (R378). -/
def tapAlways (i : TapInstr) : Bool :=
  match i with
  | .bypass | .idcode | .samplePreload | .extest | .dbgAuth => true
  | .other _ => false

/-- R378: the instruction whose data register the TAP selects: BYPASS for a debug instruction while access is locked. -/
def State.tapSelected (s : State) : TapInstr :=
  if s.power.debugUnlocked || tapAlways s.power.tap then s.power.tap else .bypass

/-- R378: whether EXTEST has taken the pins from their functions: what `State.sent` holds of them then does not reach the
outside (log 59). -/
def State.pinsTaken (s : State) : Bool := s.tapSelected == .extest

/-- R378: IDCODE: the major stepping as version, the part number, the manufacturer and the bit that IEEE 1149.1 sets. -/
def State.idcode (s : State) : Nat :=
  s.part.stepping / 16 % 16 * 2 ^ 28 + s.part.variant.deviceId * 2 ^ 12 + Config.manufacturerId % 2048 * 2 + 1

/-- R379: the DBG_AUTH data register takes a response of 128 bytes; one that comes while responses are locked out, or of
another length, does nothing. -/
def State.tapAnswer (s : State) (b : Bytes) : State :=
  if b.length != 128 || 3 ≤ s.power.debugFailures then s else (s.answerDebug b).2

/-- R378, R379: a scan of the selected data register. What the boundary register and the registers of the debug
instructions capture is not stated: free bytes. -/
def State.tapScan (s : State) (b : Bytes) : State :=
  match s.tapSelected with
  | .bypass => s.emit (.tapData (List.replicate b.length 0))
  | .idcode => s.emit (.tapData (leBytes 4 s.idcode))
  | .dbgAuth => (s.emit (.tapData s.challengeBytes)).tapAnswer b
  | .samplePreload | .extest | .other _ =>
    let (x, s) := s.takeFreeBytes b.length
    s.emit (.tapData x)

/-- R378: an instruction is loaded into the TAP. -/
def State.tapLoad (s : State) (i : TapInstr) : State := s.setPower (fun p => { p with tap := i })

end Sys2Proof.Machine
end

