-- ==== Sys2Proof/Machine/Services.lean ====
section
/-! DEFINITION. Machine/Services: the ownership services CLAIM, RENEW, HANDOVER and ACCEPT (R36 to R42), requests
that name no service, PDUs that are dropped, and the ownership actions of a meridian (R38). -/

namespace Sys2Proof.Machine

/-- Reserved bytes of a payload. -/
def zeros (k : Nat) : Bytes := List.replicate k 0

/-! ## CLAIM and RENEW -/

/-- R37: the claim rank of a port that a claim is held to: the rank in force for the open window. -/
def State.claimRank (s : State) (p : Sys2Proof.Port) : Nat :=
  if s.own.state == .claiming then nth s.own.ranks p.idx 0 else s.numAt (Adr.claimRankC + p.idx)

/-- R37: the window that a first claim opens. -/
def State.openWindow (s : State) : State :=
  if s.own.state == .claiming then s
  else
    s.setOwn (fun o => { o with
      state := .claiming, claims := [], ranks := allPorts.map (fun p => s.numAt (Adr.claimRankC + p.idx)),
      closeTick := s.tick.nextTick + s.numAt Adr.claimWindow - 1 })

/-- R37: a claim joins the window; a later one of the same port replaces the earlier. -/
def State.joinWindow (s : State) (c : Claim) : State :=
  s.setOwn (fun o => { o with claims := o.claims.filter (fun x => x.port != c.port) ++ [c] })

/-- R36, R37, R44: CLAIM. A payload shorter than R46 lists is refused with 0x0602, which the rule states only for a
WRITE; the same for HANDOVER and ACCEPT (DESIGN CHOICE, log 44). -/
def State.serveClaim (s : State) (p : Sys2Proof.Port) (flags : Nat) (payload : Bytes) : Reply :=
  match firstCode [flagCheck flags, refuseIf (payload.length < 8) 0x0602] with
  | some code => .refused 0 code s
  | none =>
    if s.ownedBy p then .done 0 (leBytes 1 1 ++ zeros 3 ++ leBytes 8 0) (s.touchLease p)
    else if s.own.owner.isSome then .refused 0 0x0303 s
    else if s.claimRank p < field payload 0 1 then .refused 0 0x0304 s
    else
      let s := s.openWindow.joinWindow { port := p, rank := field payload 0 1, nonce := field payload 4 4 }
      .done 0 (leBytes 1 0 ++ zeros 3 ++ leBytes 8 s.own.closeTick) s

/-- R39, R44: RENEW. -/
def State.serveRenew (s : State) (p : Sys2Proof.Port) (flags : Nat) : Reply :=
  match firstCode [flagCheck flags, refuseIf (!(s.ownedBy p)) 0x0301] with
  | some code => .refused 0 code s
  | none =>
    let s := s.touchLease p
    .done 0 (leBytes 1 s.own.lease) s

/-! ## HANDOVER and ACCEPT -/

/-- R41: whether a successor is reachable: its port's link is up, and port H has its control ring enabled. -/
def State.reachable (s : State) (p : Sys2Proof.Port) : Bool :=
  match p with
  | .H => s.host.linkUp && s.host.ring.enabled
  | .C | .E | .S => (s.portAt p).linkUp

/-- R41: the owner names its own port: a pending handover ends, and the lease is set. -/
def State.cancelHandover (s : State) (p : Sys2Proof.Port) : State :=
  if s.own.state == .handoverPending then s.failHandover allPorts else s.touchLease p

/-- R41, R53: event data of HANDOVER_PENDING. -/
def State.handoverData (s : State) (successor : Sys2Proof.Port) : Bytes :=
  leBytes 1 successor.code ++ zeros 7 ++ leBytes 8 s.own.deadline

/-- R41: a handover starts. -/
def State.startHandover (s : State) (p successor : Sys2Proof.Port) : State :=
  let s := (s.touchLease p).setOwn (fun o => { o with
    state := .handoverPending, successor := some successor, deadline := s.tick.tick + 4 })
  (s.discardTransfer p 0x0605).notify evHandoverPending 0 (s.handoverData successor)

/-- R41, R44: HANDOVER from the owner, with the successor's port code. -/
def State.nameSuccessor (s : State) (p : Sys2Proof.Port) (code : Nat) : Reply :=
  match Sys2Proof.Port.ofCode code with
  | none => .refused 0 0x0401 s
  | some x =>
    if x == p then .done 0 (leBytes 8 0) (s.cancelHandover p)
    else if s.own.state == .handoverPending then .refused 0 0x0302 s
    else if !(s.reachable x) then .refused 0 0x0306 s
    else
      let s := s.startHandover p x
      .done 0 (leBytes 8 s.own.deadline) s

def State.serveHandover (s : State) (p : Sys2Proof.Port) (flags : Nat) (payload : Bytes) : Reply :=
  match firstCode [flagCheck flags, refuseIf payload.isEmpty 0x0602, refuseIf (!(s.ownedBy p)) 0x0301] with
  | some code => .refused 0 code s
  | none => s.nameSuccessor p (field payload 0 1)

/-- R42: ACCEPT. -/
def State.serveAccept (s : State) (p : Sys2Proof.Port) (flags : Nat) (payload : Bytes) : Reply :=
  let named := s.own.state == .handoverPending && s.own.successor == some p && s.tick.tick < s.own.deadline
  match firstCode [flagCheck flags, refuseIf (payload.length < 4) 0x0602, refuseIf (!named) 0x0305] with
  | some code => .refused 0 code s
  | none => .done 0 [] (s.giveOwnership p (field payload 0 4))

/-! ## The rows -/

/-- A PDU handed to the meaning of its service. -/
def State.servePdu (s : State) (p : Pdu) (service : Nat) (serve : State → Reply) : State :=
  s.request p.t p.port p.sender service p.seq p.index p.sub serve

def doClaim (p : Pdu) (s : State) : State := s.servePdu p 5 (fun s => s.serveClaim p.port p.flags p.payload)

def execClaim (p : Pdu) (s : State) : Host.Outcome State Fault Refusal := .next (doClaim p s)

def doRenew (p : Pdu) (s : State) : State := s.servePdu p 6 (fun s => s.serveRenew p.port p.flags)

def execRenew (p : Pdu) (s : State) : Host.Outcome State Fault Refusal := .next (doRenew p s)

def doHandover (p : Pdu) (s : State) : State := s.servePdu p 7 (fun s => s.serveHandover p.port p.flags p.payload)

def execHandover (p : Pdu) (s : State) : Host.Outcome State Fault Refusal := .next (doHandover p s)

def doAccept (p : Pdu) (s : State) : State := s.servePdu p 8 (fun s => s.serveAccept p.port p.flags p.payload)

def execAccept (p : Pdu) (s : State) : Host.Outcome State Fault Refusal := .next (doAccept p s)

/-- R44: a NOTIFY from a master is refused. -/
def doNotifyReceived (p : Pdu) (s : State) : State := s.servePdu p 9 (fun s => .refused 0 0x0601 s)

def execNotifyReceived (p : Pdu) (s : State) : Host.Outcome State Fault Refusal := .next (doNotifyReceived p s)

/-- R46: a code that is no service. A code of the table spells another command and does nothing here. -/
def doUnknownService (p : Pdu) (code : Nat) (s : State) : State :=
  if 1 ≤ code && code ≤ 8 then s else s.servePdu p code (fun s => .refused 0 0x0601 s)

def execUnknownService (p : Pdu) (code : Nat) (s : State) : Host.Outcome State Fault Refusal :=
  .next (doUnknownService p code s)

/-! ## PDUs that are dropped (R46 to R48, R244) -/

/-- Whether a reason for dropping a PDU can arise on a port: a tag or length field on E, classical CAN on C, the
buffer of four on C, E and S while its places are taken, the header of a ring entry on H. -/
def State.malformedOn (s : State) (p : Sys2Proof.Port) (why : Malformed) : Bool :=
  match why with
  | .tooShort => p != .H
  | .tooLong | .wrongTag | .lengthField => p == .E
  | .classicalCan => p == .C
  | .bufferFull => s.bufferFull p
  | .ringEntry => p == .H

/-- A PDU is dropped without response and counted; on port H its ring entry has been fetched. A frame that port C does
not carry to the device is ignored (R47). -/
def doMalformedPdu (t : Nat) (port : Sys2Proof.Port) (sender : Nat) (why : Malformed) (s : State) : State :=
  let s := s.advance t
  if !(s.malformedOn port why) || !(s.portOpen port && s.addressed port sender) then s
  else
    let s := if port == .H then s.fetchEntry else s
    s.dropPdu port

def execMalformedPdu (t : Nat) (port : Sys2Proof.Port) (what : BadPdu) (s : State) :
    Host.Outcome State Fault Refusal := .next (doMalformedPdu t port what.sender what.why s)

/-! ## Ownership at a meridian (R38) -/

def doHandoverDeadline (s : State) : State := s.endHandover

def execHandoverDeadline (s : State) : Host.Outcome State Fault Refusal := .next (doHandoverDeadline s)

def doLeaseExpiry (s : State) : State := s.endLease

def execLeaseExpiry (s : State) : Host.Outcome State Fault Refusal := .next (doLeaseExpiry s)

def doClaimWindowClose (s : State) : State := s.closeClaims

def execClaimWindowClose (s : State) : Host.Outcome State Fault Refusal := .next (doClaimWindowClose s)

end Sys2Proof.Machine
end

