-- ==== Sys2Proof/Machine/Requests.lean ====
section
/-! DEFINITION. Machine/Requests: READ, WRITE and the block services, and the writes that have a row of their own: each
is a WRITE, or a WRITE_BLOCK, of its object, checked in the order of R64. -/

namespace Sys2Proof.Machine

/-! ## The services (R46, R49) -/

def doRead (p : Pdu) (s : State) : State :=
  s.servePdu p 1 (fun s => s.serveRead p.port p.flags (p.index * 256 + p.sub))

def execRead (p : Pdu) (s : State) : Host.Outcome State Fault Refusal := .next (doRead p s)

def doWrite (p : Pdu) (s : State) : State :=
  s.servePdu p 2 (fun s => s.serveWrite p.port p.sender p.seq p.flags (p.index * 256 + p.sub) p.payload)

def execWrite (p : Pdu) (s : State) : Host.Outcome State Fault Refusal := .next (doWrite p s)

def doReadBlock (p : Pdu) (s : State) : State :=
  s.servePdu p 3 (fun s => s.serveBlock p.port false p.seq p.flags (p.index * 256 + p.sub) p.payload)

def execReadBlock (p : Pdu) (s : State) : Host.Outcome State Fault Refusal := .next (doReadBlock p s)

def doWriteBlock (p : Pdu) (s : State) : State :=
  s.servePdu p 4 (fun s => s.serveBlock p.port true p.seq p.flags (p.index * 256 + p.sub) p.payload)

def execWriteBlock (p : Pdu) (s : State) : Host.Outcome State Fault Refusal := .next (doWriteBlock p s)

/-! ## Writes of one object -/

/-- A WRITE of a row that names its object. -/
def State.writeRow (s : State) (r : Req) (a : Nat) : State :=
  s.request r.t r.port r.sender 2 r.seq (a / 256) (a % 256)
    (fun s => s.serveWrite r.port r.sender r.seq r.flags a r.payload)

/-- A block request of a row that names its object. -/
def State.blockRow (s : State) (p : Pdu) (write : Bool) (a : Nat) : State :=
  s.request p.t p.port p.sender (if write then 4 else 3) p.seq (a / 256) (a % 256)
    (fun s => s.serveBlock p.port write p.seq p.flags a p.payload)

/-- R21: REALIGN. -/
def doRealign (r : Req) (s : State) : State := s.writeRow r Adr.realign

def execRealign (r : Req) (s : State) : Host.Outcome State Fault Refusal := .next (doRealign r s)

/-- R68, R69: STORE. -/
def doStore (r : Req) (s : State) : State := s.writeRow r Adr.store

def execStore (r : Req) (s : State) : Host.Outcome State Fault Refusal := .next (doStore r s)

/-- R70: RESTORE. -/
def doRestore (r : Req) (s : State) : State := s.writeRow r Adr.restore

def execRestore (r : Req) (s : State) : Host.Outcome State Fault Refusal := .next (doRestore r s)

/-- R70: RESTORE_FACTORY. -/
def doRestoreFactory (r : Req) (s : State) : State := s.writeRow r Adr.restoreFactory

def execRestoreFactory (r : Req) (s : State) : Host.Outcome State Fault Refusal := .next (doRestoreFactory r s)

/-- R96, R97: RELEASE of a slot. -/
def doRelease (r : Req) (slot : Fin 48) (s : State) : State := s.writeRow r (Adr.release slot.val)

def execRelease (r : Req) (slot : Fin 48) (s : State) : Host.Outcome State Fault Refusal := .next (doRelease r slot s)

/-- R97: ACQUIRE of a slot. -/
def doAcquire (r : Req) (slot : Fin 48) (s : State) : State := s.writeRow r (Adr.acquire slot.val)

def execAcquire (r : Req) (slot : Fin 48) (s : State) : Host.Outcome State Fault Refusal := .next (doAcquire r slot s)

/-- R185: QUEUE_ABORT. -/
def doQueueAbort (r : Req) (q : Fin 32) (s : State) : State := s.writeRow r (Adr.queueAbort q.val)

def execQueueAbort (r : Req) (q : Fin 32) (s : State) : Host.Outcome State Fault Refusal := .next (doQueueAbort r q s)

/-- R200: TLB_INVALIDATE. -/
def doTlbInvalidate (r : Req) (s : State) : State := s.writeRow r Adr.tlbInvalidate

def execTlbInvalidate (r : Req) (s : State) : Host.Outcome State Fault Refusal := .next (doTlbInvalidate r s)

/-- R269: FAULT_ACK. -/
def doFaultAck (r : Req) (s : State) : State := s.writeRow r Adr.faultAck

def execFaultAck (r : Req) (s : State) : Host.Outcome State Fault Refusal := .next (doFaultAck r s)

/-- R258: ARRAY_FAULT_CLEAR. -/
def doArrayFaultClear (r : Req) (s : State) : State := s.writeRow r Adr.arrayFaultClear

def execArrayFaultClear (r : Req) (s : State) : Host.Outcome State Fault Refusal := .next (doArrayFaultClear r s)

/-- R287: LOGBOOK_CLEAR. -/
def doLogbookClear (r : Req) (s : State) : State := s.writeRow r Adr.logbookClear

def execLogbookClear (r : Req) (s : State) : Host.Outcome State Fault Refusal := .next (doLogbookClear r s)

/-- R302: EVENT_ACK. -/
def doEventAck (r : Req) (s : State) : State := s.writeRow r Adr.eventAck

def execEventAck (r : Req) (s : State) : Host.Outcome State Fault Refusal := .next (doEventAck r s)

/-- R309, R323: PANEL_ENABLE. -/
def doPanelEnable (r : Req) (p : Fin 4) (s : State) : State := s.writeRow r (Adr.panelEnable p.val)

def execPanelEnable (r : Req) (p : Fin 4) (s : State) : Host.Outcome State Fault Refusal :=
  .next (doPanelEnable r p s)

/-- R325: SELF_TEST. -/
def doSelfTest (r : Req) (s : State) : State := s.writeRow r Adr.selfTest

def execSelfTest (r : Req) (s : State) : Host.Outcome State Fault Refusal := .next (doSelfTest r s)

/-- R321: REPORT_ACK. -/
def doReportAck (r : Req) (p : Fin 4) (s : State) : State := s.writeRow r (Adr.reportAck p.val)

def execReportAck (r : Req) (p : Fin 4) (s : State) : Host.Outcome State Fault Refusal := .next (doReportAck r p s)

/-- R330: SEQ_RUN. -/
def doSeqRun (r : Req) (s : State) : State := s.writeRow r Adr.seqRun

def execSeqRun (r : Req) (s : State) : Host.Outcome State Fault Refusal := .next (doSeqRun r s)

/-- R333: SEQ_ABORT. -/
def doSeqAbort (r : Req) (s : State) : State := s.writeRow r Adr.seqAbort

def execSeqAbort (r : Req) (s : State) : Host.Outcome State Fault Refusal := .next (doSeqAbort r s)

/-- R340: TRIP_CLEAR. -/
def doTripClear (r : Req) (s : State) : State := s.writeRow r Adr.tripClear

def execTripClear (r : Req) (s : State) : Host.Outcome State Fault Refusal := .next (doTripClear r s)

/-- R353: a write of PLAT_PENDING. -/
def doPlatPendingClear (r : Req) (s : State) : State := s.writeRow r Adr.platPending

def execPlatPendingClear (r : Req) (s : State) : Host.Outcome State Fault Refusal := .next (doPlatPendingClear r s)

/-- R360: POWER_CMD. -/
def doPowerCmd (r : Req) (s : State) : State := s.writeRow r Adr.powerCmd

def execPowerCmd (r : Req) (s : State) : Host.Outcome State Fault Refusal := .next (doPowerCmd r s)

/-- R368, R370: WARM_RESET. -/
def doWarmReset (r : Req) (s : State) : State := s.writeRow r Adr.warmReset

def execWarmReset (r : Req) (s : State) : Host.Outcome State Fault Refusal := .next (doWarmReset r s)

/-- R368, R369, R371: CTL_RESET. -/
def doCtlReset (r : Req) (s : State) : State := s.writeRow r Adr.ctlReset

def execCtlReset (r : Req) (s : State) : Host.Outcome State Fault Refusal := .next (doCtlReset r s)

/-- R379: DEBUG_LOCK. -/
def doDebugLock (r : Req) (s : State) : State := s.writeRow r Adr.debugLock

def execDebugLock (r : Req) (s : State) : Host.Outcome State Fault Refusal := .next (doDebugLock r s)

/-- R286: PERSIST_CLEAR. -/
def doPersistClear (r : Req) (s : State) : State := s.writeRow r Adr.persistClear

def execPersistClear (r : Req) (s : State) : Host.Outcome State Fault Refusal := .next (doPersistClear r s)

/-! ## Rows whose object the command chooses or whose value it fixes -/

/-- Whether counter writes at an address concern the state: a counter, or a WRAP flag. -/
def rowNames (k : Kind) (a : Nat) : Bool := kindAt a == k

/-- R81: what an event in the cycle of an accepted preset adds: one to the written value. -/
def doCounterPreset (r : Req) (index sub : Nat) (sameCycle : Bool) (s : State) : State :=
  let a := index * 256 + sub
  if !(rowNames .counter a) then s
  else
    s.request r.t r.port r.sender 2 r.seq index sub (fun s =>
      match s.serveWrite r.port r.sender r.seq r.flags a r.payload with
      | .done flags payload s => .done flags payload (if sameCycle then s.bump a else s)
      | x => x)

def execCounterPreset (r : Req) (index sub : Nat) (sameCycle : Bool) (s : State) : Host.Outcome State Fault Refusal :=
  .next (doCounterPreset r index sub sameCycle s)

/-- The counter of a WRAP flag (R80); ENC_WRAP has none that counts. -/
def counterOf (a : Nat) : Option Nat :=
  if a / 256 == 0x0831 then some (a - 256)
  else if kindAt (a - 0x10) == .counter then some (a - 0x10)
  else none

/-- R80: an event that makes the counter wrap in the cycle of the clearing write sets the flag again. The event is
counted only where it makes the counter wrap. -/
def doWrapFlagClear (r : Req) (index sub : Nat) (wrapsInCycle : Bool) (s : State) : State :=
  let a := index * 256 + sub
  if !(rowNames .wrap a) then s
  else
    s.request r.t r.port r.sender 2 r.seq index sub (fun s =>
      match s.serveWrite r.port r.sender r.seq r.flags a r.payload with
      | .done flags payload s =>
        .done flags payload
          (match counterOf a with
           | some c => if wrapsInCycle && s.numAt c == 2 ^ 64 - 1 then s.bump c else s
           | none => s)
      | x => x)

def execWrapFlagClear (r : Req) (index sub : Nat) (wrapsInCycle : Bool) (s : State) :
    Host.Outcome State Fault Refusal := .next (doWrapFlagClear r index sub wrapsInCycle s)

/-- R208: TF_RESOLVE of a queue with value `x`, through the dictionary or Window A. -/
def State.resolveRow (s : State) (via : ResolveVia) (q x : Nat) : State :=
  match via with
  | .windowA t => s.mirrorResolve t q (x == 1)
  | .dictionary r => s.writeRow { r with payload := leBytes 1 x } (Adr.tfResolve q)

/-- R208: RETRY. -/
def doTfResolveRetry (via : ResolveVia) (q : Fin 32) (s : State) : State := s.resolveRow via q.val 1

def execTfResolveRetry (via : ResolveVia) (q : Fin 32) (s : State) : Host.Outcome State Fault Refusal :=
  .next (doTfResolveRetry via q s)

/-- R208: ABORT. -/
def doTfResolveAbort (via : ResolveVia) (q : Fin 32) (s : State) : State := s.resolveRow via q.val 2

def execTfResolveAbort (via : ResolveVia) (q : Fin 32) (s : State) : Host.Outcome State Fault Refusal :=
  .next (doTfResolveAbort via q s)

/-- R285: a write of LOGBOOK_READ_SEQ, or of PERSIST_READ_INDEX. -/
def doReadSelectorWrite (r : Req) (persist : Bool) (s : State) : State :=
  s.writeRow r (if persist then Adr.persistReadIndex else Adr.logbookReadSeq)

def execReadSelectorWrite (r : Req) (persist : Bool) (s : State) : Host.Outcome State Fault Refusal :=
  .next (doReadSelectorWrite r persist s)

/-- R285: a segment of a READ_BLOCK of LOGBOOK_EXPORT. -/
def doLogbookExport (p : Pdu) (s : State) : State := s.blockRow p false Adr.logbookExport

def execLogbookExport (p : Pdu) (s : State) : Host.Outcome State Fault Refusal := .next (doLogbookExport p s)

/-- R304: a write of 1 to KEY_LOCK. -/
def doKeyLock (r : Req) (s : State) : State := s.writeRow { r with payload := leBytes 1 1 } Adr.keyLock

def execKeyLock (r : Req) (s : State) : Host.Outcome State Fault Refusal := .next (doKeyLock r s)

/-- R305: a write of 0 to KEY_LOCK. -/
def doKeyUnlock (r : Req) (s : State) : State := s.writeRow { r with payload := leBytes 1 0 } Adr.keyLock

def execKeyUnlock (r : Req) (s : State) : Host.Outcome State Fault Refusal := .next (doKeyUnlock r s)

/-- R290: a segment of a WRITE_BLOCK of KEY_ENABLE_MASK. -/
def doKeyEnableMask (p : Pdu) (s : State) : State := s.blockRow p true Adr.keyEnableMask

def execKeyEnableMask (p : Pdu) (s : State) : Host.Outcome State Fault Refusal := .next (doKeyEnableMask p s)

/-- R378, R379: a segment of a WRITE_BLOCK of DEBUG_RESPONSE, or what the TAP does. -/
def doDebugResponse (via : DebugVia) (s : State) : State :=
  match via with
  | .request p => s.blockRow p true Adr.debugResponse
  | .tapInstruction t i => (s.advance t).tapLoad i
  | .tapScan t b => (s.advance t).tapScan b

def execDebugResponse (via : DebugVia) (s : State) : Host.Outcome State Fault Refusal := .next (doDebugResponse via s)

/-- R322: a segment of a WRITE_BLOCK of TOUCH_REF_MAP_WRITE. -/
def doTouchRefMapWrite (p : Pdu) (s : State) : State := s.blockRow p true Adr.touchRefMapWrite

def execTouchRefMapWrite (p : Pdu) (s : State) : Host.Outcome State Fault Refusal := .next (doTouchRefMapWrite p s)

/-- R380: a segment of a WRITE_BLOCK of SECURITY_VERSION_RAISE. -/
def doSecurityVersionRaise (p : Pdu) (s : State) : State := s.blockRow p true Adr.securityVersionRaise

def execSecurityVersionRaise (p : Pdu) (s : State) : Host.Outcome State Fault Refusal :=
  .next (doSecurityVersionRaise p s)

end Sys2Proof.Machine
end

