-- ==== Sys2Proof/Machine/Mailbox.lean ====
section
/-! DEFINITION. Machine/Mailbox: mailbox ports and the SPI target (R245 to R247), platform messages (R349 to R352) and
the line CTL_IRQ_N (R353). -/

namespace Sys2Proof.Machine

/-! ## Access from a side (R245, R246) -/

/-- Whether the side that makes an access reaches Window A's mailbox space: the SPI target while HOST runs, the PCIe
side while the windows decode (R228, R247). -/
def State.sideOpen (s : State) (spi : Bool) : Bool := if spi then !s.dormant else s.windowsOpen

/-- R246: a write from the side that does not serve the port is ignored and counted. -/
def State.sided (s : State) (spi : Bool) (m : Nat) (f : Mailbox → Mailbox) : State :=
  if s.spiServes m == spi then s.setMailbox m f else s.bump (Adr.mbxWrongSide m)

/-- R245: bytes written to the inbound buffer. -/
def Mailbox.putIn (x : Mailbox) (offset : Nat) (data : Bytes) : Mailbox :=
  if x.inFull then { x with overrun := true }
  else { x with inBuf := (x.inBuf.take offset ++ data ++ x.inBuf.drop (offset + data.length)).take 256 }

/-- R245: IN_LEN is written. -/
def Mailbox.putLen (x : Mailbox) (value : Nat) : Mailbox :=
  if x.inFull then { x with overrun := true }
  else if 1 ≤ value && value ≤ 256 then { x with inLen := value, inFull := true }
  else x

/-- R245: OUT_STATE is written with bit 0 set. -/
def Mailbox.ackOut (x : Mailbox) : Mailbox := { x with outFull := false }

/-- R245: IN_STATE is written with the OVERRUN bit set. -/
def Mailbox.clearOverrun (x : Mailbox) : Mailbox := { x with overrun := false }

/-- IN_LEN from a side; a message that becomes complete is counted. -/
def State.writeLen (s : State) (spi : Bool) (m value : Nat) : State :=
  let before := (s.mailboxAt m).inFull
  let s := s.sided spi m (fun x => x.putLen value)
  if !before && (s.mailboxAt m).inFull then s.bump (Adr.mbxInMessages m) else s

def doMailboxBufferWrite (t : Nat) (spi : Bool) (m : Fin 8) (offset : Nat) (data : Bytes) (s : State) : State :=
  let s := s.advance t
  if s.sideOpen spi then s.sided spi m.val (fun x => x.putIn offset data) else s

def execMailboxBufferWrite (t : Nat) (spi : Bool) (m : Fin 8) (offset : Nat) (data : Bytes) (s : State) :
    Host.Outcome State Fault Refusal := .next (doMailboxBufferWrite t spi m offset data s)

def doInLen (t : Nat) (spi : Bool) (m : Fin 8) (value : Nat) (s : State) : State :=
  let s := s.advance t
  if s.sideOpen spi then s.writeLen spi m.val value else s

def execInLen (t : Nat) (spi : Bool) (m : Fin 8) (value : Nat) (s : State) : Host.Outcome State Fault Refusal :=
  .next (doInLen t spi m value s)

def doOutAck (t : Nat) (spi : Bool) (m : Fin 8) (s : State) : State :=
  let s := s.advance t
  if s.sideOpen spi then s.sided spi m.val Mailbox.ackOut else s

def execOutAck (t : Nat) (spi : Bool) (m : Fin 8) (s : State) : Host.Outcome State Fault Refusal :=
  .next (doOutAck t spi m s)

def doOverrunClear (t : Nat) (spi : Bool) (m : Fin 8) (s : State) : State :=
  let s := s.advance t
  if s.sideOpen spi then s.sided spi m.val Mailbox.clearOverrun else s

def execOverrunClear (t : Nat) (spi : Bool) (m : Fin 8) (s : State) : Host.Outcome State Fault Refusal :=
  .next (doOverrunClear t spi m s)

/-! ## Platform messages to the device (R350, R352) -/

/-- R352: the port as which the messages of a mailbox port are taken. -/
def State.messagePort (s : State) (m : Nat) : Sys2Proof.Port := if s.spiServes m then .S else .H

/-- R352: a refused message: a REFUSED reply waits, and the refusal is counted. -/
def State.refuseMessage (s : State) (m type code : Nat) : State :=
  (s.setMailbox m (fun x => { x with out := x.out ++ [leBytes 1 type ++ [0] ++ leBytes 2 code] })).bump Adr.platMsgRefused

/-- R352: a message taken as a WRITE of number `x` to `a`. -/
def State.messageWrite (s : State) (m type a x : Nat) : State :=
  let p := s.messagePort m
  match s.refuses p a (.num x) with
  | some code => s.refuseMessage m type code
  | none =>
    match s.perform p a (.num x) with
    | (some code, s) => s.refuseMessage m type code
    | (none, s) => s.touchLease p

/-- R350, R352: KEY_ACK. -/
def State.takeKeyAck (s : State) (m : Nat) (payload : Bytes) : State :=
  if payload.length != 4 then s.refuseMessage m 0x81 0x0602
  else s.messageWrite m 0x81 Adr.eventAck (leNat payload)

/-- R350, R352: TOUCH_ACK; reserved bytes that are set are refused like those of a value (DEDUCED, log 45). -/
def State.takeTouchAck (s : State) (m : Nat) (payload : Bytes) : State :=
  if payload.length != 8 then s.refuseMessage m 0x82 0x0602
  else
    let a := Adr.reportAck (field payload 0 1)
    if field payload 1 3 != 0 && (s.refuses (s.messagePort m) a (.num (field payload 4 4))).isNone then
      s.refuseMessage m 0x82 0x0402
    else s.messageWrite m 0x82 a (field payload 4 4)

/-- Whether the controller serves a mailbox port: not in DORMANT, and not during a controller reset (R366, R371); the
boot ROM serves port S only (R376). -/
def State.takesMessages (s : State) (m : Nat) : Bool := !s.dormant && s.ctlRuns && (m == 0 || !s.power.romOnly)

def doKeyAck (t : Nat) (m : Fin 8) (payload : Bytes) (s : State) : State :=
  let s := (s.advanceCharged t).settleOwnership
  if m.val == 0 || !s.takesMessages m.val then s else s.takeKeyAck m.val payload

def execKeyAck (t : Nat) (m : Fin 8) (payload : Bytes) (s : State) : Host.Outcome State Fault Refusal :=
  .next (doKeyAck t m payload s)

def doTouchAck (t : Nat) (m : Fin 8) (payload : Bytes) (s : State) : State :=
  let s := (s.advanceCharged t).settleOwnership
  if m.val == 0 || !s.takesMessages m.val then s else s.takeTouchAck m.val payload

def execTouchAck (t : Nat) (m : Fin 8) (payload : Bytes) (s : State) : Host.Outcome State Fault Refusal :=
  .next (doTouchAck t m payload s)

/-! ## The device takes an inbound message (R245) -/

/-- R45: the PDU that a byte string spells. -/
def pduOf (t : Nat) (port : Sys2Proof.Port) (b : Bytes) : Pdu :=
  { t := t, port := port, sender := 0, seq := field b 1 1, flags := field b 5 1, index := field b 2 2, sub := field b 4 1,
    payload := b.drop 6 }

/-- R46: the service of a PDU. -/
def State.runPdu (s : State) (p : Pdu) (service : Nat) : State :=
  match service with
  | 1 => doRead p s
  | 2 => doWrite p s
  | 3 => doReadBlock p s
  | 4 => doWriteBlock p s
  | 5 => doClaim p s
  | 6 => doRenew p s
  | 7 => doHandover p s
  | 8 => doAccept p s
  | 9 => doNotifyReceived p s
  | n => doUnknownService p n s

/-- R245: one PDU of port S. -/
def State.takePdu (s : State) (t : Nat) (b : Bytes) : State :=
  if b.length < 6 then s.bump (Adr.droppedMalformed Sys2Proof.Port.S.idx)
  else s.runPdu (pduOf t .S b) (field b 0 1)

/-- R350, R352: one platform message. -/
def State.takeMessage (s : State) (m : Nat) (b : Bytes) : State :=
  let type := field b 0 1
  let payload := b.drop 8
  if type != 0x81 && type != 0x82 then s.refuseMessage m type 0x0601
  else if b.length < 8 || field b 2 2 != payload.length then s.refuseMessage m type 0x0602
  else if type == 0x81 then s.takeKeyAck m payload
  else s.takeTouchAck m payload

/-- R245: the device takes a complete message, empties IN and executes the message. -/
def doMailboxTake (t : Nat) (m : Fin 8) (s : State) : State :=
  let s := (s.advanceCharged t).settleOwnership
  let x := s.mailboxAt m.val
  if !x.inFull || !s.takesMessages m.val then s
  else
    let s := (s.setMailbox m.val (fun y => { y with inFull := false })).sendVector (38 + m.val)
    let b := x.inBuf.take x.inLen
    if m.val == 0 then s.takePdu t b else s.takeMessage m.val b

def execMailboxTake (t : Nat) (m : Fin 8) (s : State) : Host.Outcome State Fault Refusal := .next (doMailboxTake t m s)

/-! ## The device writes an outbound message (R245, R350, R351) -/

/-- R351: held key events that a port has not sent. -/
def State.unsentKeys (s : State) (m : Nat) : List Event :=
  if s.carrier 0 == some m then s.keys.fifo.filter (fun e => later32 e.seq (s.mailboxAt m).keysSent) else []

/-- R351: reports that a port has to send and that are still held, oldest first. -/
def State.unsentReports (s : State) (m : Nat) : List (Nat × Report) :=
  (s.mailboxAt m).touch.filterMap (fun e => ((s.panelAt e.1).reports.find? (fun r => r.seq == e.2)).map (fun r => (e.1, r)))

/-- One message of a platform port that could be next: its stamp, TYPE, payload, and what sending it changes. -/
structure Outgoing where
  tick : Nat
  offset : Nat
  type : Nat
  payload : Bytes
  after : Mailbox → Mailbox

/-- A KEY_EVENTS message of up to ten entries. -/
def State.keyMessage (s : State) (m : Nat) : List Outgoing :=
  match (s.unsentKeys m).take 10 with
  | [] => []
  | e :: rest =>
    let last := (rest.getLast?.map (fun (y : Event) => y.seq)).getD e.seq
    [{ tick := e.tick, offset := e.offset, type := 1, payload := ((e :: rest).map Event.bytes).flatten,
       after := fun x => { x with keysSent := last } }]

/-- A TOUCH_REPORT message; reports that are no longer held are passed over. -/
def State.touchMessage (s : State) (m : Nat) : List Outgoing :=
  match s.unsentReports m with
  | [] => []
  | (p, r) :: _ =>
    [{ tick := field r.bytes 8 8, offset := field r.bytes 16 4, type := 2, payload := r.bytes,
       after := fun x => { x with touch := (x.touch.dropWhile (fun e => e != (p, r.seq))).drop 1 } }]

/-- A THERMAL, SUPPLY or SEQUENCE_DONE message. -/
def State.platMessage (s : State) (m : Nat) : List Outgoing :=
  match (s.mailboxAt m).plat with
  | [] => []
  | y :: _ =>
    [{ tick := field y.payload 0 8, offset := field y.payload 8 4, type := y.type, payload := y.payload,
       after := fun x => { x with plat := x.plat.drop 1, lost := x.lost.filter (· != y.type) } }]

/-- A REFUSED reply goes first (DESIGN CHOICE, log 45). -/
def State.replyMessage (s : State) (m : Nat) : List Outgoing :=
  match (s.mailboxAt m).out with
  | [] => []
  | b :: _ => [{ tick := 0, offset := 0, type := 0x0F, payload := b, after := fun x => { x with out := x.out.drop 1 } }]

/-- The earlier of two messages by stamp. -/
def Outgoing.first (a b : Outgoing) : Outgoing :=
  if b.tick < a.tick || (a.tick == b.tick && b.offset < a.offset) then b else a

/-- R351: the next message of a platform port: replies, then the other classes in the order of their stamps (DESIGN
CHOICE, log 45). -/
def State.nextMessage (s : State) (m : Nat) : Option Outgoing :=
  match s.replyMessage m ++ s.keyMessage m ++ s.touchMessage m ++ s.platMessage m with
  | [] => none
  | x :: rest => some (if x.type == 0x0F then x else rest.foldl Outgoing.first x)

/-- Bytes put into the outbound buffer, and OUT becomes FULL. -/
def Mailbox.putOut (x : Mailbox) (b : Bytes) : Mailbox :=
  { x with outBuf := (b ++ x.outBuf.drop b.length).take 256, outLen := b.length, outFull := true }

/-- R350: a message with its header. -/
def Mailbox.putMessage (x : Mailbox) (g : Outgoing) : Mailbox :=
  let seq := (x.msgSeq + 1) % 2 ^ 32
  let flags := b2n (x.lost.contains g.type)
  (({ g.after x with msgSeq := seq } : Mailbox).putOut
    (leBytes 1 g.type ++ leBytes 1 flags ++ leBytes 2 g.payload.length ++ leBytes 4 seq ++ g.payload))

/-- R245, R351: the next message goes into an EMPTY outbound buffer. -/
def doMailboxOutWrite (t : Nat) (m : Fin 8) (s : State) : State :=
  let s := s.advance t
  if (s.mailboxAt m.val).outFull || !s.takesMessages m.val then s
  else if m.val == 0 then
    match (s.mailboxAt 0).out with
    | [] => s
    | b :: _ =>
      ((s.setMailbox 0 (fun x => { x with out := x.out.drop 1 }.putOut b)).bump (Adr.mbxOutMessages 0)).sendVector 38
  else
    match s.nextMessage m.val with
    | none => s
    | some g =>
      (((s.setMailbox m.val (fun x => x.putMessage g)).bump (Adr.mbxOutMessages m.val)).bump Adr.platMsgSent).sendVector
        (38 + m.val)

def execMailboxOutWrite (t : Nat) (m : Fin 8) (s : State) : Host.Outcome State Fault Refusal :=
  .next (doMailboxOutWrite t m s)

/-! ## The SPI target (R247) -/

/-- The registers of a mailbox port as 16 bytes (R245). -/
def State.mailboxRegs (s : State) (m : Nat) : Bytes :=
  let x := s.mailboxAt m
  leBytes 4 x.inLen ++ leBytes 4 (b2n x.inFull + 2 * b2n x.overrun + 4 * b2n (s.spiServes m)) ++
    leBytes 4 x.outLen ++ leBytes 4 (b2n x.outFull)

/-- The byte at offset `o` of the 1 KiB of a mailbox port (R230, R245). -/
def State.mailboxByte (s : State) (m o : Nat) : Byte :=
  if o < 0x100 then nth (s.mailboxAt m).inBuf o 0
  else if o < 0x200 then nth (s.mailboxAt m).outBuf (o - 0x100) 0
  else if o < 0x210 then nth (s.mailboxRegs m) (o - 0x200) 0
  else 0

/-- The byte that SPI address `a` reads: 0 outside the mailbox space. -/
def State.spiByte (s : State) (a : Nat) : Byte := if a < 0x2000 then s.mailboxByte (a / 0x400) (a % 0x400) else 0

def doSpiRead (t addr len : Nat) (s : State) : State :=
  let s := s.advance t
  if s.dormant then s else s.emit (.spi ((List.range len).map (fun i => s.spiByte (addr % 65536 + i))))

def execSpiRead (t addr len : Nat) (s : State) : Host.Outcome State Fault Refusal := .next (doSpiRead t addr len s)

/-- A register of a mailbox port is written from a side (R245). -/
def State.writeRegister (s : State) (spi : Bool) (m o value : Nat) : State :=
  if o == 0x200 then s.writeLen spi m value
  else if o == 0x204 then (if bitAt value 1 then s.sided spi m Mailbox.clearOverrun else s.sided spi m id)
  else if o == 0x20C then (if bitAt value 0 then s.sided spi m Mailbox.ackOut else s.sided spi m id)
  else s

/-- What a run of bytes that starts at SPI address `a` does to mailbox port `m`: bytes of its inbound buffer, then its
registers, each once its four bytes are there. -/
def State.spiPort (s : State) (a : Nat) (data : Bytes) (m : Nat) : State :=
  let base := m * 0x400
  let lo := max a base
  let hi := min (a + data.length) (base + 0x100)
  let s := if lo < hi then s.sided true m (fun x => x.putIn (lo - base) (slice data (lo - a) (hi - lo))) else s
  ([0x200, 0x204, 0x208, 0x20C] : List Nat).foldl (fun s o =>
    if a ≤ base + o && base + o + 4 ≤ a + data.length then s.writeRegister true m o (field data (base + o - a) 4) else s) s

def doSpiWrite (t addr : Nat) (data : Bytes) (s : State) : State :=
  let s := s.advance t
  if s.dormant then s else (List.range 8).foldl (fun s m => s.spiPort (addr % 65536) data m) s

def execSpiWrite (t addr : Nat) (data : Bytes) (s : State) : Host.Outcome State Fault Refusal :=
  .next (doSpiWrite t addr data s)

/-- R246, R247: whether some SPI-served port has OUT FULL. -/
def State.spiWaiting (s : State) : Bool := (List.range 8).any (fun m => s.spiServes m && (s.mailboxAt m).outFull)

def doSpiStatus (t : Nat) (s : State) : State :=
  let s := s.advance t
  if s.dormant then s else s.emit (.spi (leBytes 1 (b2n s.spiWaiting + 2 * b2n s.host.linkUp)))

def execSpiStatus (t : Nat) (s : State) : Host.Outcome State Fault Refusal := .next (doSpiStatus t s)

/-! ## CTL_IRQ_N (R303, R321, R353, R367) -/

/-- Whether CTL_IRQ_N is asserted: the key, touch, mailbox and platform sources, and a wake request. -/
def State.ctlIrq (s : State) : Bool :=
  (s.flagAt Adr.keyIrqEnable && !s.keys.fifo.isEmpty) ||
  (s.part.variant.touch && s.flagAt Adr.touchIrqEnable && s.panels.any (fun x => !x.reports.isEmpty)) ||
  (!s.dormant && s.spiWaiting) ||
  Nat.land (s.numAt Adr.platPending) (s.numAt Adr.platIrqEnable) != 0 ||
  s.keys.wakeRequest

end Sys2Proof.Machine
end

