-- ==== Sys2Proof/Machine/WindowA.lean ====
section
/-! DEFINITION. Machine/WindowA: Window A as host software sees it (R229, R230, R232, R233): a read of any register, and
a write of any register with its byte enables. The rows of single registers make the same writes. -/

namespace Sys2Proof.Machine

/-! ## Reads (R83, R229, R230) -/

/-- R230: a register of a queue block. -/
def State.queueRegister (s : State) (q o : Nat) : Nat :=
  let x := s.queueAt q
  let status := x.state.code + 4 * b2n x.haltBme + 8 * b2n x.haltFlr + 16 * b2n x.haltFabric
  nth [x.sqBase % 2 ^ 32, x.sqBase / 2 ^ 32, x.cqBase % 2 ^ 32, x.cqBase / 2 ^ 32,
    b2n x.ringOn + 2 * b2n x.relaxed + 16 * x.log2, x.sqTail, x.cqHead, status, 0, x.fetched] (o / 4) 0

/-- R233: a word of the MSI-X table: the address, the data and the mask bit of a vector. -/
def State.msixRegister (s : State) (o : Nat) : Nat :=
  let v := o / 16
  let e := nth s.host.msixTable v (0, 0)
  nth [e.1 % 2 ^ 32, e.1 / 2 ^ 32, e.2, b2n (nth s.host.msixMasked v true)] (o / 4 % 4) 0

/-- R233: a word of the pending bit array. -/
def State.pendingBits (s : State) (word : Nat) : Nat :=
  sumNat ((List.range 32).map (fun k => if nth s.host.msixPending (32 * word + k) false then 2 ^ k else 0))

/-- R244: a register of the control ring. -/
def State.ringRegisterValue (s : State) (o : Nat) : Nat :=
  let r := s.host.ring
  nth [r.reqBase % 2 ^ 32, r.reqBase / 2 ^ 32, r.rspBase % 2 ^ 32, r.rspBase / 2 ^ 32, b2n r.enabled + 16 * r.log2,
    r.reqTail, r.rspHead, r.notifyDropped] (o / 4) 0

/-- R230: bit q of HALTED_QUEUES. -/
def State.haltedQueues (s : State) : Nat :=
  sumNat ((List.range 32).map (fun q => if (s.queueAt q).state == .halted then 2 ^ q else 0))

/-- R230, R245: what the register at an offset holds; 0 where there is none, or where it is only written. -/
def State.registerAt (s : State) (o : Nat) : Nat :=
  if o == 0 then 0x100
  else if o == 4 then s.haltedQueues
  else if o == 0x18 then s.mem.tlbDone
  else if 0x1000 ≤ o && o < 0x1800 then s.queueRegister ((o - 0x1000) / 0x40) (o % 0x40)
  else if 0x2000 ≤ o && o < 0x2400 then s.msixRegister (o - 0x2000)
  else if 0x2800 ≤ o && o < 0x2808 then s.pendingBits ((o - 0x2800) / 4)
  else if 0x3000 ≤ o && o < 0x3020 then s.ringRegisterValue (o - 0x3000)
  else if 0x8000 ≤ o && o < 0xA000 then
    leNat ((List.range 4).map (fun i => s.mailboxByte ((o - 0x8000) / 0x400) (o % 0x400 + i)))
  else 0

/-- R83, R232: a read of a counter mirror: the low word latches the high one, which the next read of the high word
returns; without a latch it returns the live one. -/
def State.readMirror (s : State) (slot : Nat) (high : Bool) : State :=
  match s.mirrored slot with
  | none => s.emit (.windowRead 0)
  | some a =>
    let x := s.numAt a
    let latch (v : Option Nat) : State := s.setHost (fun h => { h with latches := modifyAt h.latches slot (fun _ => v) })
    if high then (latch none).emit (.windowRead ((nth s.host.latches slot none).getD (x / 2 ^ 32)))
    else (latch (some (x / 2 ^ 32))).emit (.windowRead (x % 2 ^ 32))

/-- R229, R230: a read of the DWORD of Window A that holds an offset. -/
def doCounterLowRead (t offset : Nat) (s : State) : State :=
  let s := s.advance t
  let o := offset / 4 * 4
  if !s.windowsOpen then s
  else if 0x4000 ≤ o && o < 0x4200 then s.readMirror ((o - 0x4000) / 8) (o % 8 == 4)
  else s.emit (.windowRead (s.registerAt o))

def execCounterLowRead (t offset : Nat) (s : State) : Host.Outcome State Fault Refusal :=
  .next (doCounterLowRead t offset s)

/-! ## Writes (R230) -/

/-- R230, R231, R239, R250: a write to a queue block. -/
def State.writeQueue (s : State) (q o value : Nat) : State :=
  match o / 4 with
  | 0 => s.ringRegister q (.base false false value)
  | 1 => s.ringRegister q (.base false true value)
  | 2 => s.ringRegister q (.base true false value)
  | 3 => s.ringRegister q (.base true true value)
  | 4 => s.ringRegister q (.ctrl value)
  | 5 => s.setQueue q (fun x => { x with sqTail := value % 2 ^ 32 })
  | 6 => s.setQueue q (fun x => { x with cqHead := value % 2 ^ 32 })
  | 7 => if bitAt value 31 then s.resume q else s
  | 8 => if value == 1 || value == 2 then (s.tfResolve q (value == 1)).getD s else s
  | _ => s

/-- R233: a write to the MSI-X table; a vector that is unmasked sends its pending message. -/
def State.writeMsix (s : State) (o value : Nat) : State :=
  let entry (f : Nat × Nat → Nat × Nat) : State := s.setHost (fun h => { h with msixTable := modifyAt h.msixTable (o / 16) f })
  match o / 4 % 4 with
  | 0 => entry (fun e => (withWord e.1 false value, e.2))
  | 1 => entry (fun e => (withWord e.1 true value, e.2))
  | 2 => entry (fun e => (e.1, value % 2 ^ 32))
  | _ =>
    (s.setHost (fun h => { h with msixMasked := modifyAt h.msixMasked (o / 16) (fun _ => bitAt value 0) })).sendPending

/-- R244: a write to the control ring's registers. -/
def State.writeRing (s : State) (o value : Nat) : State :=
  match o / 4 with
  | 0 => s.crRegister (.base false false value)
  | 1 => s.crRegister (.base false true value)
  | 2 => s.crRegister (.base true false value)
  | 3 => s.crRegister (.base true true value)
  | 4 => s.crRegister (.ctrl value)
  | 5 => s.setRing (fun r => { r with reqTail := value % 2 ^ 32 })
  | 6 => s.setRing (fun r => { r with rspHead := value % 2 ^ 32 })
  | _ => s

/-- R230, R245: bytes of a mailbox's inbound buffer, by their byte enables. -/
def State.writeMailBytes (s : State) (m o value : Nat) (enables : Nat) : State :=
  (List.range 4).foldl (fun s i =>
    if bitAt enables i then s.sided false m (fun x => x.putIn (o + i) (leBytes 1 (value / 256 ^ i))) else s) s

/-- R230: a write of one DWORD of Window A; with partial byte enables only a mailbox buffer takes it. -/
def State.windowWrite (s : State) (o value : Nat) (enables : Fin 16) : State :=
  if 0x8000 ≤ o && o < 0xA000 && o % 0x400 < 0x100 then
    s.writeMailBytes ((o - 0x8000) / 0x400) (o % 0x400) value enables.val
  else if enables.val != 15 then s
  else if o == 0x10 then { s with mem := { s.mem with tlbHigh := value % 2 ^ 32 } }
  else if o == 0x14 then s.invalidate (s.mem.tlbHigh * 2 ^ 32 + value % 2 ^ 32) .windowA
  else if 0x1000 ≤ o && o < 0x1800 then s.writeQueue ((o - 0x1000) / 0x40) (o % 0x40) value
  else if 0x2000 ≤ o && o < 0x2400 then s.writeMsix (o - 0x2000) value
  else if 0x3000 ≤ o && o < 0x3020 then s.writeRing (o - 0x3000) value
  else if 0x4000 ≤ o && o < 0x4200 then s.presetMirror ((o - 0x4000) / 8) (o % 8 == 4) value
  else if 0x8000 ≤ o && o < 0xA000 then s.writeRegister false ((o - 0x8000) / 0x400) (o % 0x400) value
  else s

/-- R230, R233: a write of the DWORD of Window A that holds an offset: the unmasking of a vector, and every other. -/
def doMsixVectorUnmask (t offset value : Nat) (enables : Fin 16) (s : State) : State :=
  let s := s.advanceCharged t
  if s.windowsOpen then s.windowWrite (offset / 4 * 4) (value % 2 ^ 32) enables else s

def execMsixVectorUnmask (t : Nat) (w : RegisterWrite) (s : State) : Host.Outcome State Fault Refusal :=
  .next (doMsixVectorUnmask t w.offset w.value w.enables s)

end Sys2Proof.Machine
end

