-- ==== Sys2Proof/Machine/Dispatch.lean ====
section
/-! DEFINITION. Machine/Dispatch: the meaning of each command, one arm per row of spec/opcode_table.json. -/

namespace Sys2Proof.Machine

def exec (i : Instr) (s : State) : Host.Outcome State Fault Refusal :=
  match i with
  | .meridian t => Sys2Proof.Machine.execMeridian t s
  | .pinEventQualified t edge => Sys2Proof.Machine.execPinEventQualified t edge s
  | .gptpScheduleEvent t => Sys2Proof.Machine.execGptpScheduleEvent t s
  | .captureWindowClose => Sys2Proof.Machine.execCaptureWindowClose s
  | .realign r => Sys2Proof.Machine.execRealign r s
  | .realignSearchTimeout => Sys2Proof.Machine.execRealignSearchTimeout s
  | .housekeepingMark => Sys2Proof.Machine.execHousekeepingMark s
  | .camTrigPulse n => Sys2Proof.Machine.execCamTrigPulse n s
  | .tickReport t => Sys2Proof.Machine.execTickReport t s
  | .syncMessage t ethPort domain origin interval => Sys2Proof.Machine.execSyncMessage t ethPort domain origin interval s
  | .pdelayMessage t ethPort t1 t2 t3 t4 => Sys2Proof.Machine.execPdelayMessage t ethPort t1 t2 t3 t4 s
  | .gptpTimeout t => Sys2Proof.Machine.execGptpTimeout t s
  | .read p => Sys2Proof.Machine.execRead p s
  | .write p => Sys2Proof.Machine.execWrite p s
  | .readBlock p => Sys2Proof.Machine.execReadBlock p s
  | .writeBlock p => Sys2Proof.Machine.execWriteBlock p s
  | .claim p => Sys2Proof.Machine.execClaim p s
  | .renew p => Sys2Proof.Machine.execRenew p s
  | .handover p => Sys2Proof.Machine.execHandover p s
  | .accept p => Sys2Proof.Machine.execAccept p s
  | .notifyReceived p => Sys2Proof.Machine.execNotifyReceived p s
  | .unknownService p code => Sys2Proof.Machine.execUnknownService p code s
  | .malformedPdu t port what => Sys2Proof.Machine.execMalformedPdu t port what s
  | .claimWindowClose => Sys2Proof.Machine.execClaimWindowClose s
  | .leaseExpiry => Sys2Proof.Machine.execLeaseExpiry s
  | .handoverDeadline => Sys2Proof.Machine.execHandoverDeadline s
  | .segmentTimeout t port => Sys2Proof.Machine.execSegmentTimeout t port s
  | .store r => Sys2Proof.Machine.execStore r s
  | .storeComplete t verified => Sys2Proof.Machine.execStoreComplete t verified s
  | .restore r => Sys2Proof.Machine.execRestore r s
  | .restoreFactory r => Sys2Proof.Machine.execRestoreFactory r s
  | .counterPreset r index sub sameCycle => Sys2Proof.Machine.execCounterPreset r index sub sameCycle s
  | .wrapFlagClear r index sub wrapsInCycle => Sys2Proof.Machine.execWrapFlagClear r index sub wrapsInCycle s
  | .frameStart t src fill torn => Sys2Proof.Machine.execFrameStart t src fill torn s
  | .csiPacket p => Sys2Proof.Machine.execCsiPacket p s
  | .frameEnd t packet => Sys2Proof.Machine.execFrameEnd t packet s
  | .frameTimeout slot => Sys2Proof.Machine.execFrameTimeout slot s
  | .ethernetFrame f => Sys2Proof.Machine.execEthernetFrame f s
  | .bandwidthAbort t fill => Sys2Proof.Machine.execBandwidthAbort t fill s
  | .statisticsRecord t slot => Sys2Proof.Machine.execStatisticsRecord t slot s
  | .shapedHeader t ctx => Sys2Proof.Machine.execShapedHeader t ctx s
  | .commitWindowOpen torn => Sys2Proof.Machine.execCommitWindowOpen torn s
  | .i2cTransactionDone t ctrl acked => Sys2Proof.Machine.execI2cTransactionDone t ctrl acked s
  | .fusionRecord t set => Sys2Proof.Machine.execFusionRecord t set s
  | .release r slot => Sys2Proof.Machine.execRelease r slot s
  | .acquire r slot => Sys2Proof.Machine.execAcquire r slot s
  | .pass a op => Sys2Proof.Machine.execPass a op s
  | .vectorOp a op => Sys2Proof.Machine.execVectorOp a op s
  | .indexedGather q op => Sys2Proof.Machine.execIndexedGather q op s
  | .segmentReduce q op => Sys2Proof.Machine.execSegmentReduce q op s
  | .atomicAdd q op => Sys2Proof.Machine.execAtomicAdd q op s
  | .localisation t a => Sys2Proof.Machine.execLocalisation t a s
  | .localisationVerdict t a v => Sys2Proof.Machine.execLocalisationVerdict t a v s
  | .job t q desc body => Sys2Proof.Machine.execJob t q desc body s
  | .slotBoundary t => Sys2Proof.Machine.execSlotBoundary t s
  | .shareExhausted a => Sys2Proof.Machine.execShareExhausted a s
  | .waypoint t q => Sys2Proof.Machine.execWaypoint t q s
  | .contextSaveDone t q => Sys2Proof.Machine.execContextSaveDone t q s
  | .contextRestoreDone t q => Sys2Proof.Machine.execContextRestoreDone t q s
  | .waypointTimeout q => Sys2Proof.Machine.execWaypointTimeout q s
  | .jobEnd t q => Sys2Proof.Machine.execJobEnd t q s
  | .completionRecord t q => Sys2Proof.Machine.execCompletionRecord t q s
  | .carryLimit q => Sys2Proof.Machine.execCarryLimit q s
  | .queueAbort r q => Sys2Proof.Machine.execQueueAbort r q s
  | .checkTile t a => Sys2Proof.Machine.execCheckTile t a s
  | .checkTileResult t a signatureOk mismatchSeen => Sys2Proof.Machine.execCheckTileResult t a signatureOk mismatchSeen s
  | .scrubRead t place found => Sys2Proof.Machine.execScrubRead t place found s
  | .tlbInvalidate r => Sys2Proof.Machine.execTlbInvalidate r s
  | .tlbInvalidateDone t => Sys2Proof.Machine.execTlbInvalidateDone t s
  | .tfResolveRetry via q => Sys2Proof.Machine.execTfResolveRetry via q s
  | .tfResolveAbort via q => Sys2Proof.Machine.execTfResolveAbort via q s
  | .tfParkTimeout q => Sys2Proof.Machine.execTfParkTimeout q s
  | .fabricWrite t p => Sys2Proof.Machine.execFabricWrite t p s
  | .fabricWriteAck t p ofBulk ofChannel => Sys2Proof.Machine.execFabricWriteAck t p ofBulk ofChannel s
  | .fabricReadReq t p => Sys2Proof.Machine.execFabricReadReq t p s
  | .fabricReadData t p ofBulk ofChannel => Sys2Proof.Machine.execFabricReadData t p ofBulk ofChannel s
  | .fabricAtomicAdd t p elem => Sys2Proof.Machine.execFabricAtomicAdd t p elem s
  | .sweep t p => Sys2Proof.Machine.execSweep t p s
  | .sweepDone t p => Sys2Proof.Machine.execSweepDone t p s
  | .refuse t p ofBulk ofChannel => Sys2Proof.Machine.execRefuse t p ofBulk ofChannel s
  | .ackTimeout t src dst bulk channel seq => Sys2Proof.Machine.execAckTimeout t src dst bulk channel seq s
  | .channelReset t p ofBulk ofChannel => Sys2Proof.Machine.execChannelReset t p ofBulk ofChannel s
  | .resetDone t p ofBulk ofChannel => Sys2Proof.Machine.execResetDone t p ofBulk ofChannel s
  | .copy q op => Sys2Proof.Machine.execCopy q op s
  | .fence t q desc => Sys2Proof.Machine.execFence t q desc s
  | .sqTail t q value => Sys2Proof.Machine.execSqTail t q value s
  | .cqHead t q value => Sys2Proof.Machine.execCqHead t q value s
  | .ringEnable t q register high value => Sys2Proof.Machine.execRingEnable t q register high value s
  | .ringDisable t q => Sys2Proof.Machine.execRingDisable t q s
  | .resume t q => Sys2Proof.Machine.execResume t q s
  | .tlbInvHi t value => Sys2Proof.Machine.execTlbInvHi t value s
  | .tlbInvLo t value => Sys2Proof.Machine.execTlbInvLo t value s
  | .counterLowRead t offset => Sys2Proof.Machine.execCounterLowRead t offset s
  | .mirrorPreset t slot high value => Sys2Proof.Machine.execMirrorPreset t slot high value s
  | .placementWrite t requester offset data => Sys2Proof.Machine.execPlacementWrite t requester offset data s
  | .placementSignal t requester entry data => Sys2Proof.Machine.execPlacementSignal t requester entry data s
  | .windowBRead t offset => Sys2Proof.Machine.execWindowBRead t offset s
  | .hostReadCompletion t engine tag data => Sys2Proof.Machine.execHostReadCompletion t engine tag data s
  | .lossOfBusMasterEnable t => Sys2Proof.Machine.execLossOfBusMasterEnable t s
  | .functionLevelReset t => Sys2Proof.Machine.execFunctionLevelReset t s
  | .pcieLinkDown t => Sys2Proof.Machine.execPcieLinkDown t s
  | .crReqTail t value => Sys2Proof.Machine.execCrReqTail t value s
  | .crRspHead t value => Sys2Proof.Machine.execCrRspHead t value s
  | .controlRingEnable t register high value => Sys2Proof.Machine.execControlRingEnable t register high value s
  | .mailboxBufferWrite t spi m offset data => Sys2Proof.Machine.execMailboxBufferWrite t spi m offset data s
  | .inLen t spi m value => Sys2Proof.Machine.execInLen t spi m value s
  | .mailboxTake t m => Sys2Proof.Machine.execMailboxTake t m s
  | .mailboxOutWrite t m => Sys2Proof.Machine.execMailboxOutWrite t m s
  | .outAck t spi m => Sys2Proof.Machine.execOutAck t spi m s
  | .overrunClear t spi m => Sys2Proof.Machine.execOverrunClear t spi m s
  | .spiRead t addr len => Sys2Proof.Machine.execSpiRead t addr len s
  | .spiWrite t addr data => Sys2Proof.Machine.execSpiWrite t addr data s
  | .spiStatus t => Sys2Proof.Machine.execSpiStatus t s
  | .keyAck t m payload => Sys2Proof.Machine.execKeyAck t m payload s
  | .touchAck t m payload => Sys2Proof.Machine.execTouchAck t m payload s
  | .sequencerMismatch t a => Sys2Proof.Machine.execSequencerMismatch t a s
  | .dispatcherMismatch t => Sys2Proof.Machine.execDispatcherMismatch t s
  | .clockFault t d => Sys2Proof.Machine.execClockFault t d s
  | .voltageFault t r => Sys2Proof.Machine.execVoltageFault t r s
  | .binnacleLockstepMismatch t => Sys2Proof.Machine.execBinnacleLockstepMismatch t s
  | .binnacleWatchdog t => Sys2Proof.Machine.execBinnacleWatchdog t s
  | .binnacleStart t => Sys2Proof.Machine.execBinnacleStart t s
  | .logbookCommit t => Sys2Proof.Machine.execLogbookCommit t s
  | .persistCopy t => Sys2Proof.Machine.execPersistCopy t s
  | .faultAck r => Sys2Proof.Machine.execFaultAck r s
  | .arrayFaultClear r => Sys2Proof.Machine.execArrayFaultClear r s
  | .safetyMsgPeriodic => Sys2Proof.Machine.execSafetyMsgPeriodic s
  | .safetyMsgTransmit t => Sys2Proof.Machine.execSafetyMsgTransmit t s
  | .logbookClear r => Sys2Proof.Machine.execLogbookClear r s
  | .readSelectorWrite r persist => Sys2Proof.Machine.execReadSelectorWrite r persist s
  | .logbookExport p => Sys2Proof.Machine.execLogbookExport p s
  | .keyActivity t => Sys2Proof.Machine.execKeyActivity t s
  | .keyScan t pressed => Sys2Proof.Machine.execKeyScan t pressed s
  | .buttonSample t levels => Sys2Proof.Machine.execButtonSample t levels s
  | .encoderStep t e a b => Sys2Proof.Machine.execEncoderStep t e a b s
  | .encoderReport e => Sys2Proof.Machine.execEncoderReport e s
  | .eventAck r => Sys2Proof.Machine.execEventAck r s
  | .keyLock r => Sys2Proof.Machine.execKeyLock r s
  | .lockEntry t => Sys2Proof.Machine.execLockEntry t s
  | .keyUnlock r => Sys2Proof.Machine.execKeyUnlock r s
  | .unlockTimeout => Sys2Proof.Machine.execUnlockTimeout s
  | .keyEnableMask p => Sys2Proof.Machine.execKeyEnableMask p s
  | .panelEnable r p => Sys2Proof.Machine.execPanelEnable r p s
  | .touchFrameStart t p => Sys2Proof.Machine.execTouchFrameStart t p s
  | .touchFrameEnd p f => Sys2Proof.Machine.execTouchFrameEnd p f s
  | .dsyncEdge t input falling => Sys2Proof.Machine.execDsyncEdge t input falling s
  | .dsyncTimeout t p => Sys2Proof.Machine.execDsyncTimeout t p s
  | .selfTest r => Sys2Proof.Machine.execSelfTest r s
  | .selfTestDone p f selfCounts => Sys2Proof.Machine.execSelfTestDone p f selfCounts s
  | .reportAck r p => Sys2Proof.Machine.execReportAck r p s
  | .seqRun r => Sys2Proof.Machine.execSeqRun r s
  | .seqAbort r => Sys2Proof.Machine.execSeqAbort r s
  | .enableOn => Sys2Proof.Machine.execEnableOn s
  | .enableOff => Sys2Proof.Machine.execEnableOff s
  | .waitPgHigh => Sys2Proof.Machine.execWaitPgHigh s
  | .waitPgLow => Sys2Proof.Machine.execWaitPgLow s
  | .delay => Sys2Proof.Machine.execDelay s
  | .delayExpiry => Sys2Proof.Machine.execDelayExpiry s
  | .requirePgHigh => Sys2Proof.Machine.execRequirePgHigh s
  | .requirePgLow => Sys2Proof.Machine.execRequirePgLow s
  | .seqEnd => Sys2Proof.Machine.execSeqEnd s
  | .waitTimeout => Sys2Proof.Machine.execWaitTimeout s
  | .pgChange t line pinHigh => Sys2Proof.Machine.execPgChange t line pinHigh s
  | .thermalSample t readings => Sys2Proof.Machine.execThermalSample t readings s
  | .tripClear r => Sys2Proof.Machine.execTripClear r s
  | .fanTachUpdate t f pulses => Sys2Proof.Machine.execFanTachUpdate t f pulses s
  | .vsupSample t code => Sys2Proof.Machine.execVsupSample t code s
  | .batteryPoll t words => Sys2Proof.Machine.execBatteryPoll t words s
  | .platPendingClear r => Sys2Proof.Machine.execPlatPendingClear r s
  | .powerCmd r => Sys2Proof.Machine.execPowerCmd r s
  | .standbyToReady t channelMib trained => Sys2Proof.Machine.execStandbyToReady t channelMib trained s
  | .readyToRun t switchFail tileFail => Sys2Proof.Machine.execReadyToRun t switchFail tileFail s
  | .runToReady t => Sys2Proof.Machine.execRunToReady t s
  | .readyToStandby t => Sys2Proof.Machine.execReadyToStandby t s
  | .standbyToDormant t => Sys2Proof.Machine.execStandbyToDormant t s
  | .dormantToStandby rtcTicks => Sys2Proof.Machine.execDormantToStandby rtcTicks s
  | .wakeN t lowFor => Sys2Proof.Machine.execWakeN t lowFor s
  | .canWakeFrame t canId => Sys2Proof.Machine.execCanWakeFrame t canId s
  | .powerOnReset => Sys2Proof.Machine.execPowerOnReset s
  | .resetN t lowFor => Sys2Proof.Machine.execResetN t lowFor s
  | .warmReset r => Sys2Proof.Machine.execWarmReset r s
  | .ctlReset r => Sys2Proof.Machine.execCtlReset r s
  | .controllerWatchdog t => Sys2Proof.Machine.execControllerWatchdog t s
  | .bootComplete t directoryA directoryB images => Sys2Proof.Machine.execBootComplete t directoryA directoryB images s
  | .debugResponse via => Sys2Proof.Machine.execDebugResponse via s
  | .debugLock r => Sys2Proof.Machine.execDebugLock r s
  | .touchRefMapWrite p => Sys2Proof.Machine.execTouchRefMapWrite p s
  | .persistClear r => Sys2Proof.Machine.execPersistClear r s
  | .securityVersionRaise p => Sys2Proof.Machine.execSecurityVersionRaise p s
  | .pinEventUnqualified t pulse => Sys2Proof.Machine.execPinEventUnqualified t pulse s
  | .audioWordClockEdge t tdm unit samples fill => Sys2Proof.Machine.execAudioWordClockEdge t tdm unit samples fill s
  | .camTrigPulseEnd n => Sys2Proof.Machine.execCamTrigPulseEnd n s
  | .pcieLinkUp t speed width => Sys2Proof.Machine.execPcieLinkUp t speed width s
  | .memorySpaceEnable t c => Sys2Proof.Machine.execMemorySpaceEnable t c s
  | .busMasterEnableSet t => Sys2Proof.Machine.execBusMasterEnableSet t s
  | .msixVectorUnmask t w => Sys2Proof.Machine.execMsixVectorUnmask t w s
  | .pcieFunctionReady t => Sys2Proof.Machine.execPcieFunctionReady t s
  | .clockFaultCleared t d => Sys2Proof.Machine.execClockFaultCleared t d s
  | .voltageFaultCleared t r => Sys2Proof.Machine.execVoltageFaultCleared t r s

end Sys2Proof.Machine
end

