-- ==== Sys2Proof/Safety.lean ====
section
/-! DEFINITION. Safety: the invariant of the block that every step keeps, and what each command may touch, in the
terms the claims use. -/

namespace Sys2Proof.Machine

/-- The canonical forms of the register file and of memory: equal contents are equal data. -/
def State.Canonical (s : State) : Prop :=
  Dict.wf s.part.variant s.dict = true ∧ Memory.wf s.mem.cells = true

/-- How many units of each kind a state holds: ports, queues, arrays, touch panels, stream slots, shaping contexts,
fusion units, mailbox ports, copy engines, temperature channels, fans and encoders. -/
def State.shape (s : State) : List Nat :=
  [s.ports.length, s.queues.length, s.arrs.length, s.panels.length, s.ingest.slots.length, s.ingest.ctxs.length,
    s.ingest.fusion.length, s.host.mailboxes.length, s.host.engines.length, s.plat.channels.length,
    s.plat.fans.length, s.keys.encoders.length]

/-- The units of the full part: four ports, 32 queues, 8 arrays, 4 panels, 48 slots, 16 shaping contexts, 8 fusion
units, 8 mailbox ports, 8 copy engines, 24 temperature channels, 2 fans, 8 encoders. Commands name units by
number, so a run never makes or loses one. -/
def State.Shaped (s : State) : Prop := s.shape = [4, 32, 8, 4, 48, 16, 8, 8, 8, 24, 2, 8]

/-- The invariant that every step keeps. -/
def State.Inv (s : State) : Prop := s.Canonical ∧ s.Shaped

/-! ## What a command may touch -/

/-- The parts of a state. The tick generator counts as three: `clock` is device time with its fraction, `tally` what the
tick report counts of the present tick and of the tick in closing, `tick` the rest. -/
inductive Field where
  | part | pending | dict | staged | nvm | tick | clock | tally | own | ports | ingest | arrs | queues | mem | fabric | host | bin
  | log | keys | panels | plat | power | sent | free
  deriving DecidableEq, Repr

/-- Whether every part of one list is in another. -/
def Field.sub (a b : List Field) : Bool := a.all (fun f => b.contains f)

/-- The tick generator's state `o` with the parts in `m` taken from `s`. -/
def Tick.patch (m : List Field) (o s : Tick) : Tick :=
  let base := if m.contains .tick then s else o
  { base with
    now := if m.contains .clock then s.now else o.now,
    frac := if m.contains .clock then s.frac else o.frac,
    outcomes := if m.contains .tally then s.outcomes else o.outcomes,
    faults := if m.contains .tally then s.faults else o.faults,
    framesDropped := if m.contains .tally then s.framesDropped else o.framesDropped,
    closing := if m.contains .tally then s.closing else o.closing }

/-- The state `o` with the parts in `m` taken from `s`. -/
def State.patch (m : List Field) (o s : State) : State :=
  { part := if m.contains .part then s.part else o.part,
    pending := if m.contains .pending then s.pending else o.pending,
    dict := if m.contains .dict then s.dict else o.dict,
    staged := if m.contains .staged then s.staged else o.staged,
    nvm := if m.contains .nvm then s.nvm else o.nvm,
    tick := Tick.patch m o.tick s.tick,
    own := if m.contains .own then s.own else o.own,
    ports := if m.contains .ports then s.ports else o.ports,
    ingest := if m.contains .ingest then s.ingest else o.ingest,
    arrs := if m.contains .arrs then s.arrs else o.arrs,
    queues := if m.contains .queues then s.queues else o.queues,
    mem := if m.contains .mem then s.mem else o.mem,
    fabric := if m.contains .fabric then s.fabric else o.fabric,
    host := if m.contains .host then s.host else o.host,
    bin := if m.contains .bin then s.bin else o.bin,
    log := if m.contains .log then s.log else o.log,
    keys := if m.contains .keys then s.keys else o.keys,
    panels := if m.contains .panels then s.panels else o.panels,
    plat := if m.contains .plat then s.plat else o.plat,
    power := if m.contains .power then s.power else o.power,
    sent := if m.contains .sent then s.sent else o.sent,
    free := if m.contains .free then s.free else o.free }

/-- `s` differs from `o` at most in the parts in `m`. -/
def State.Within (m : List Field) (o s : State) : Prop := s = State.patch m o s

/-- The parts a request of the protocol may touch whatever it commands: all but the part's identity and the queue of
commands. -/
def requestTouches : List Field :=
  [.dict, .staged, .nvm, .tick, .clock, .tally, .own, .ports, .ingest, .arrs, .queues, .mem, .fabric, .host, .bin, .log, .keys,
    .panels, .plat, .power, .sent, .free]

/-- The parts that a command may touch. A command that device time reaches (R10) touches `clock`; one that charges
running jobs for the time that passes (R172), which is when a guard step ends and may find a fault (R261), touches
`dict`, `tally`, `arrs`, `queues`, `mem`, `bin` and `log`; a NOTIFY (R52) `ports`, `host` and `sent`; a detected fault
(R266) `dict`, `tally`, `bin` and `log`, and `queues`, whose items name its record. No command touches the part's
identity or adds a command to the queue. -/
def touched (i : Instr) : List Field :=
  match i with
  | .meridian _ => [.dict, .staged, .tick, .clock, .tally, .own, .ports, .ingest, .arrs, .queues, .mem, .host,
      .bin, .log, .sent]
  | .pinEventQualified _ _ => [.dict, .tick, .clock, .tally, .arrs, .queues, .mem, .bin, .log]
  | .gptpScheduleEvent _ => [.dict, .tick, .clock, .tally, .arrs, .queues, .mem, .bin, .log]
  | .captureWindowClose => [.dict, .tick, .clock, .tally, .ports, .arrs, .queues, .mem, .host, .bin, .log, .sent]
  | .realign _ => requestTouches
  | .realignSearchTimeout => [.dict, .tick, .clock, .tally, .ports, .arrs, .queues, .mem, .host, .bin, .log, .sent]
  | .housekeepingMark => [.dict, .tick, .clock, .tally, .arrs, .queues, .mem, .bin, .log]
  | .camTrigPulse _ => [.dict, .tick, .clock, .tally, .arrs, .queues, .mem, .bin, .log, .sent]
  | .tickReport _ => [.tick, .clock, .tally, .mem, .fabric, .host, .sent]
  | .syncMessage _ _ _ _ _ => [.dict, .tick, .clock, .tally, .arrs, .queues, .mem, .bin, .log, .free]
  | .pdelayMessage _ _ _ _ _ _ => [.dict, .tick, .clock, .tally, .arrs, .queues, .mem, .bin, .log]
  | .gptpTimeout _ => [.dict, .tick, .clock, .tally, .arrs, .queues, .mem, .bin, .log]
  | .read _ => [.dict, .clock, .tally, .own, .ports, .arrs, .queues, .mem, .host, .bin, .log, .sent]
  | .write _ => requestTouches
  | .readBlock _ => requestTouches
  | .writeBlock _ => requestTouches
  | .claim _ => [.dict, .clock, .tally, .own, .ports, .arrs, .queues, .mem, .host, .bin, .log, .sent]
  | .renew _ => [.dict, .clock, .tally, .own, .ports, .arrs, .queues, .mem, .host, .bin, .log, .sent]
  | .handover _ => [.dict, .clock, .tally, .own, .ports, .arrs, .queues, .mem, .host, .bin, .log, .sent]
  | .accept _ => [.dict, .clock, .tally, .own, .ports, .arrs, .queues, .mem, .host, .bin, .log, .sent]
  | .notifyReceived _ => [.dict, .clock, .tally, .own, .ports, .arrs, .queues, .mem, .host, .bin, .log, .sent]
  | .unknownService _ _ => [.dict, .clock, .tally, .own, .ports, .arrs, .queues, .mem, .host, .bin, .log, .sent]
  | .malformedPdu _ _ _ => [.dict, .clock, .host, .sent]
  | .claimWindowClose => [.dict, .own, .ports, .host, .sent]
  | .leaseExpiry => [.dict, .own, .ports, .host, .sent]
  | .handoverDeadline => [.own, .ports, .host, .sent]
  | .segmentTimeout _ _ => [.dict, .clock, .ports]
  | .store _ => requestTouches
  | .storeComplete _ _ => [.dict, .nvm, .clock]
  | .restore _ => requestTouches
  | .restoreFactory _ => requestTouches
  | .counterPreset _ _ _ _ => requestTouches
  | .wrapFlagClear _ _ _ _ => requestTouches
  | .frameStart _ _ _ _ => [.dict, .clock, .tally, .ingest, .queues, .mem, .bin, .log]
  | .csiPacket _ => [.dict, .clock, .tally, .ingest, .queues, .mem, .bin, .log]
  | .frameEnd _ _ => [.dict, .clock, .tally, .ingest, .queues, .mem, .bin, .log]
  | .frameTimeout _ => [.dict, .clock, .tally, .ingest, .queues, .mem, .bin, .log]
  | .ethernetFrame _ => [.dict, .clock, .tally, .ingest, .queues, .mem, .bin, .log]
  | .bandwidthAbort _ _ => [.dict, .clock, .tally, .ingest]
  | .statisticsRecord _ _ => [.dict, .clock, .tally, .ingest, .queues, .mem, .bin, .log, .free]
  | .shapedHeader _ _ => [.dict, .clock, .tally, .ingest, .queues, .mem, .bin, .log, .free]
  | .commitWindowOpen _ => [.dict, .clock, .tally, .ingest, .queues, .mem, .bin, .log, .sent]
  | .i2cTransactionDone _ _ _ => [.dict, .clock, .ingest, .sent, .free]
  | .fusionRecord _ _ => [.dict, .clock, .tally, .ingest, .arrs, .queues, .mem, .bin, .log, .free]
  | .release _ _ => requestTouches
  | .acquire _ _ => requestTouches
  | .pass _ _ => [.dict, .clock, .tally, .arrs, .queues, .mem, .bin, .log]
  | .vectorOp _ _ => [.dict, .clock, .tally, .arrs, .queues, .mem, .bin, .log]
  | .indexedGather _ _ => [.dict, .clock, .tally, .arrs, .queues, .mem, .bin, .log]
  | .segmentReduce _ _ => [.dict, .clock, .tally, .arrs, .queues, .mem, .bin, .log, .free]
  | .atomicAdd _ _ => [.dict, .clock, .tally, .arrs, .queues, .mem, .bin, .log]
  | .localisation _ _ => [.dict, .clock, .tally, .arrs, .queues, .mem, .bin, .log]
  | .localisationVerdict _ _ _ => [.dict, .clock, .tally, .arrs, .queues, .mem, .bin, .log]
  | .job _ _ _ _ => [.dict, .clock, .tally, .arrs, .queues, .mem, .bin, .log, .sent]
  | .slotBoundary _ => [.dict, .clock, .tally, .arrs, .queues, .mem, .bin, .log]
  | .shareExhausted _ => [.dict, .clock, .tally, .arrs, .queues, .mem, .bin, .log]
  | .waypoint _ _ => [.dict, .clock, .tally, .arrs, .queues, .mem, .bin, .log]
  | .contextSaveDone _ _ => [.dict, .clock, .tally, .arrs, .queues, .mem, .bin, .log, .free]
  | .contextRestoreDone _ _ => [.dict, .clock, .tally, .arrs, .queues, .mem, .bin, .log]
  | .waypointTimeout _ => [.dict, .clock, .tally, .arrs, .queues, .mem, .bin, .log]
  | .jobEnd _ _ => [.dict, .clock, .tally, .arrs, .queues, .mem, .bin, .log]
  | .completionRecord _ _ => [.dict, .clock, .tally, .queues, .mem, .host, .bin, .log, .sent]
  | .carryLimit _ => [.dict, .tally, .arrs, .queues, .bin, .log]
  | .queueAbort _ _ => requestTouches
  | .checkTile _ _ => [.dict, .clock, .tally, .arrs, .queues, .mem, .bin, .log]
  | .checkTileResult _ _ _ _ => [.dict, .clock, .tally, .arrs, .queues, .mem, .bin, .log]
  | .scrubRead _ _ _ => [.dict, .clock, .tally, .arrs, .queues, .mem, .bin, .log]
  | .tlbInvalidate _ => requestTouches
  | .tlbInvalidateDone _ => [.clock, .ports, .mem, .host, .sent]
  | .tfResolveRetry _ _ => requestTouches
  | .tfResolveAbort _ _ => requestTouches
  | .tfParkTimeout _ => [.dict, .tally, .arrs, .queues, .bin, .log]
  | .fabricWrite _ _ => [.dict, .clock, .tally, .arrs, .queues, .mem, .fabric, .bin, .log, .sent, .free]
  | .fabricWriteAck _ _ _ _ => [.dict, .clock, .tally, .arrs, .queues, .mem, .fabric, .host, .bin, .log, .sent]
  | .fabricReadReq _ _ => [.dict, .clock, .tally, .arrs, .queues, .mem, .fabric, .bin, .log, .sent, .free]
  | .fabricReadData _ _ _ _ => [.dict, .clock, .tally, .arrs, .queues, .mem, .fabric, .host, .bin, .log, .sent]
  | .fabricAtomicAdd _ _ _ => [.dict, .clock, .tally, .arrs, .queues, .mem, .fabric, .bin, .log, .sent, .free]
  | .sweep _ _ => [.dict, .clock, .tally, .arrs, .queues, .mem, .fabric, .bin, .log, .sent, .free]
  | .sweepDone _ _ => [.dict, .clock, .tally, .arrs, .queues, .mem, .fabric, .host, .bin, .log, .sent]
  | .refuse _ _ _ _ => [.dict, .clock, .tally, .arrs, .queues, .mem, .fabric, .host, .bin, .log, .sent, .free]
  | .ackTimeout _ _ _ _ _ _ => [.dict, .clock, .tally, .arrs, .queues, .mem, .fabric, .host, .bin, .log, .sent]
  | .channelReset _ _ _ _ => [.dict, .clock, .tally, .arrs, .queues, .mem, .fabric, .bin, .log, .sent]
  | .resetDone _ _ _ _ => [.dict, .clock, .tally, .arrs, .queues, .mem, .fabric, .bin, .log]
  | .copy _ _ => [.dict, .clock, .tally, .arrs, .queues, .mem, .host, .bin, .log, .sent]
  | .fence _ _ _ => [.dict, .clock, .tally, .arrs, .queues, .mem, .bin, .log, .sent]
  | .sqTail _ _ _ => [.clock, .queues]
  | .cqHead _ _ _ => [.clock, .queues]
  | .ringEnable _ _ _ _ _ => [.dict, .clock, .tally, .queues, .mem, .host, .bin, .log, .sent]
  | .ringDisable _ _ => [.dict, .clock, .tally, .queues, .mem, .host, .bin, .log, .sent]
  | .resume _ _ => [.dict, .clock, .tally, .arrs, .queues, .mem, .host, .bin, .log, .sent]
  | .tlbInvHi _ _ => [.clock, .mem]
  | .tlbInvLo _ _ => [.clock, .mem]
  | .counterLowRead _ _ => [.clock, .host, .sent]
  | .mirrorPreset _ _ _ _ => [.dict, .clock, .arrs, .host]
  | .placementWrite _ _ _ _ => [.dict, .clock, .tally, .queues, .mem, .host, .bin, .log, .sent]
  | .placementSignal _ _ _ _ => [.dict, .clock, .tally, .queues, .mem, .host, .bin, .log, .sent]
  | .windowBRead _ _ => [.clock, .sent]
  | .hostReadCompletion _ _ _ _ => [.dict, .clock, .tally, .arrs, .queues, .mem, .fabric, .host, .bin, .log, .sent]
  | .lossOfBusMasterEnable _ => [.dict, .clock, .tally, .arrs, .queues, .mem, .fabric, .host, .bin, .log, .sent]
  | .functionLevelReset _ => [.dict, .clock, .tally, .own, .ports, .arrs, .queues, .mem, .fabric, .host, .bin,
      .log, .sent]
  | .pcieLinkDown _ => [.dict, .clock, .tally, .own, .ports, .arrs, .queues, .mem, .fabric, .host, .bin, .log,
      .sent]
  | .crReqTail _ _ => [.clock, .host]
  | .crRspHead _ _ => [.clock, .host]
  | .controlRingEnable _ _ _ _ => [.clock, .host]
  | .mailboxBufferWrite _ _ _ _ _ => [.dict, .clock, .host]
  | .inLen _ _ _ _ => [.dict, .clock, .host]
  | .mailboxTake _ _ => requestTouches
  | .mailboxOutWrite _ _ => [.dict, .clock, .host, .sent]
  | .outAck _ _ _ => [.dict, .clock, .host]
  | .overrunClear _ _ _ => [.dict, .clock, .host]
  | .spiRead _ _ _ => [.clock, .sent]
  | .spiWrite _ _ _ => [.dict, .clock, .host]
  | .spiStatus _ => [.clock, .sent]
  | .keyAck _ _ _ => requestTouches
  | .touchAck _ _ _ => requestTouches
  | .sequencerMismatch _ _ => [.dict, .clock, .tally, .arrs, .queues, .mem, .bin, .log]
  | .dispatcherMismatch _ => [.dict, .clock, .tally, .arrs, .queues, .mem, .bin, .log]
  | .clockFault _ _ => [.dict, .clock, .tally, .queues, .bin, .log]
  | .voltageFault _ _ => [.dict, .clock, .tally, .queues, .bin, .log]
  | .binnacleLockstepMismatch _ => [.dict, .clock, .tally, .bin, .log]
  | .binnacleWatchdog _ => [.dict, .clock, .bin]
  | .binnacleStart _ => [.clock, .bin, .power]
  | .logbookCommit _ => [.dict, .clock, .ports, .host, .bin, .log, .sent, .free]
  | .persistCopy _ => [.dict, .clock, .log]
  | .faultAck _ => requestTouches
  | .arrayFaultClear _ => requestTouches
  | .safetyMsgPeriodic => [.dict, .clock, .bin]
  | .safetyMsgTransmit _ => [.dict, .clock, .bin, .sent]
  | .logbookClear _ => requestTouches
  | .readSelectorWrite _ _ => requestTouches
  | .logbookExport _ => requestTouches
  | .keyActivity _ => [.clock, .keys, .power]
  | .keyScan _ _ => [.dict, .clock, .keys]
  | .buttonSample _ _ => [.dict, .clock, .keys]
  | .encoderStep _ _ _ _ => [.dict, .clock, .keys]
  | .encoderReport _ => [.dict, .clock, .keys]
  | .eventAck _ => requestTouches
  | .keyLock _ => requestTouches
  | .lockEntry _ => [.dict, .clock, .keys]
  | .keyUnlock _ => requestTouches
  | .unlockTimeout => [.dict, .clock, .keys]
  | .keyEnableMask _ => requestTouches
  | .panelEnable _ _ => requestTouches
  | .touchFrameStart _ _ => [.dict, .clock, .panels]
  | .touchFrameEnd _ _ => [.dict, .clock, .host, .panels, .free]
  | .dsyncEdge _ _ _ => [.clock, .panels]
  | .dsyncTimeout _ _ => [.clock, .panels]
  | .selfTest _ => requestTouches
  | .selfTestDone _ _ _ => [.dict, .clock, .panels]
  | .reportAck _ _ => requestTouches
  | .seqRun _ => requestTouches
  | .seqAbort _ => requestTouches
  | .enableOn => [.dict, .clock, .ports, .host, .plat, .sent]
  | .enableOff => [.dict, .clock, .ports, .host, .plat, .sent]
  | .waitPgHigh => [.dict, .clock, .ports, .host, .plat, .sent]
  | .waitPgLow => [.dict, .clock, .ports, .host, .plat, .sent]
  | .delay => [.clock, .plat]
  | .delayExpiry => [.dict, .clock, .ports, .host, .plat, .sent]
  | .requirePgHigh => [.dict, .clock, .ports, .host, .plat, .sent]
  | .requirePgLow => [.dict, .clock, .ports, .host, .plat, .sent]
  | .seqEnd => [.dict, .clock, .ports, .host, .plat, .sent]
  | .waitTimeout => [.dict, .clock, .ports, .host, .plat, .sent]
  | .pgChange _ _ _ => [.dict, .clock, .ports, .host, .plat, .sent]
  | .thermalSample _ _ => [.dict, .clock, .ports, .host, .plat, .sent, .free]
  | .tripClear _ => requestTouches
  | .fanTachUpdate _ _ _ => [.dict, .clock, .ports, .host, .plat, .sent]
  | .vsupSample _ _ => [.dict, .clock, .ports, .host, .plat, .sent]
  | .batteryPoll _ _ => [.dict, .clock, .ports, .host, .plat, .sent]
  | .platPendingClear _ => requestTouches
  | .powerCmd _ => requestTouches
  | .standbyToReady _ _ _ => [.dict, .clock, .tally, .ports, .ingest, .arrs, .queues, .mem, .host, .bin, .log,
      .power, .sent]
  | .readyToRun _ _ _ => [.dict, .clock, .tally, .ports, .arrs, .queues, .mem, .host, .bin, .log, .power, .sent]
  | .runToReady _ => [.dict, .clock, .tally, .ports, .arrs, .queues, .mem, .host, .bin, .log, .power, .sent]
  | .readyToStandby _ => [.dict, .clock, .tally, .ports, .ingest, .queues, .mem, .fabric, .host, .bin, .log,
      .power, .sent]
  | .standbyToDormant _ => [.dict, .tick, .clock, .own, .ports, .ingest, .queues, .mem, .host, .bin, .keys,
      .panels, .plat, .power, .sent]
  | .dormantToStandby _ => [.tick, .clock, .ports, .host, .keys, .panels, .power, .sent, .free]
  | .wakeN _ _ => [.clock, .keys, .power]
  | .canWakeFrame _ _ => [.clock, .keys, .power]
  | .powerOnReset => requestTouches
  | .resetN _ _ => requestTouches
  | .warmReset _ => requestTouches
  | .ctlReset _ => requestTouches
  | .controllerWatchdog _ => [.dict, .nvm, .clock, .own, .ports, .mem, .host, .keys, .panels, .plat, .power, .sent,
      .free]
  | .bootComplete _ _ _ _ => [.dict, .tick, .clock, .ports, .host, .bin, .keys, .panels, .plat, .power, .sent]
  | .debugResponse _ => requestTouches
  | .debugLock _ => requestTouches
  | .touchRefMapWrite _ => requestTouches
  | .persistClear _ => requestTouches
  | .securityVersionRaise _ => requestTouches
  | .pinEventUnqualified _ _ => [.dict, .tick, .clock, .tally, .arrs, .queues, .mem, .bin, .log]
  | .audioWordClockEdge _ _ _ _ _ => [.dict, .clock, .tally, .ingest, .queues, .mem, .bin, .log]
  | .camTrigPulseEnd _ => [.dict, .tick, .clock, .tally, .arrs, .queues, .mem, .bin, .log, .sent]
  | .pcieLinkUp _ _ _ => [.clock, .ports, .host]
  | .memorySpaceEnable _ _ => [.clock, .host, .sent]
  | .busMasterEnableSet _ => [.clock, .host, .sent]
  | .msixVectorUnmask _ _ => [.dict, .clock, .tally, .arrs, .queues, .mem, .host, .bin, .log, .sent]
  | .pcieFunctionReady _ => [.clock, .host]
  | .clockFaultCleared _ _ => [.clock, .bin]
  | .voltageFaultCleared _ _ => [.clock, .bin]

/-! ## Requests in the terms of the claims -/

/-- The state in which a request that arrives at `t` finds the device: time has passed, due ownership actions are taken
(R38). -/
def State.arrival (s : State) (t : Nat) : State := (s.advanceCharged t).settleOwnership

/-- The state in which a request on a port is judged: it has been counted, and port E knows its sender (R34, R47, R54). -/
def State.heard (s : State) (t : Nat) (p : Port) (sender : Nat) : State := ((s.arrival t).acceptOn p).notePeer p sender

/-- A request reaches the protocol: its port is open, it is addressed to the device, a place of the port's buffer is free,
and controller firmware serves it (R34, R47, R48, R244, R376). -/
def State.hears (s : State) (t : Nat) (p : Port) (sender service index : Nat) : Prop :=
  (s.arrival t).portOpen p = true ∧ (s.arrival t).addressed p sender = true ∧ (s.arrival t).bufferFull p = false ∧
    (s.heard t p sender).romRefuses p service index = false

/-- A WRITE to the object at `a` passes every check of R64: no flag is set, its payload carries the value, and steps 2 to
6 refuse nothing. -/
def State.grants (s : State) (r : Req) (a : Nat) : Prop :=
  s.hears r.t r.port r.sender 2 (a / 256) ∧ r.flags = 0 ∧ blockOnly a = false ∧ tooShort a r.payload = false ∧
    (s.heard r.t r.port r.sender).refuses r.port a (writeValue a r.payload) = none

/-- The end of a served request: the lease of the owner is set (R39), and the response goes out by the route of the
request (R45, R47). -/
def State.answered (s : State) (p : Port) (r : Route) (service seq a flags : Nat) (payload : Bytes) : State :=
  (s.touchLease p).respond p r (responsePdu service seq a flags payload)

/-- The end of a refused request: the abort is counted, and the response carries its code (R48, R54). -/
def State.aborted (s : State) (p : Port) (sender service seq a code : Nat) : State :=
  (s.bump (Adr.aborts p.idx)).respond p (s.routeOf p sender) (responsePdu service seq a 0x80 (leBytes 2 code))

/-- A WRITE_BLOCK of the whole value `v` to the object at `a` in one segment passes every check (R49, R50, R64): the
segment is the first and the last, the total comes first, and no transfer of the port is repeated or cut off by it. -/
def State.grantsBlock (s : State) (p : Pdu) (a : Nat) (v : Bytes) : Prop :=
  s.hears p.t p.port p.sender 4 (a / 256) ∧ p.flags = 0x70 ∧ fixedAt a = false ∧ p.payload = leBytes 4 v.length ++ v ∧
    v.length ≤ 65536 ∧ p.payload.length ≤ segmentSize p.port ∧ ((s.heard p.t p.port p.sender).portAt p.port).transfer = none ∧
    (s.heard p.t p.port p.sender).segmentCheck p.port (segmentOf true p.seq p.flags a p.payload) = none ∧
    (s.heard p.t p.port p.sender).valueCheck a (.bytes v) = none

/-- An item of a queue has ended with a status and a cause (R182, R183), and holds no array. -/
def State.endedAs (s : State) (q seq status cause : Nat) : Prop :=
  (∃ j e, s.job? q seq = some j ∧ j.ended = some e ∧ e.status = status ∧ e.cause = cause) ∧
    ∀ x, x ∈ s.arrs → x.job ≠ some (q, seq)

end Sys2Proof.Machine
end

