-- ==== Sys2Proof/Certificates/Slice0/Obligations.lean ====
section
/-! DEFINITION. Certificates/Slice0/Obligations: the statements about the model that the provers are to prove. Each
docstring says what the statement says; OBLIGATIONS.json names the rules of spec/ it formalises. -/

open Sys2Proof Sys2Proof.Machine

/-- A step takes the command at the front of the queue and is that command's effect on the state with the queue's
rest. -/
def Obligations.StepRunsFrontCommand : Prop :=
  ∀ (s : State) (c : Instr) (rest : List Instr), s.pending = c :: rest →
    step s = exec c { s with pending := rest }

/-- A step with no command waiting is one CTL cycle of 25/3 ns, rate-adjusted, kept with its fraction; in DORMANT
nothing happens. Nothing else changes. (That a step on an empty queue is a CTL cycle is the model's choice, log 2.) -/
def Obligations.IdleStepIsOneCycle : Prop :=
  ∀ s : State, s.pending = [] → s.tick.frac < 3000000000 →
    (s.dormant = true → step s = .next s) ∧
    (s.dormant = false → ∃ n f : Nat,
      step s = .next { s with tick := { s.tick with now := n, frac := f } } ∧ f < 3000000000 ∧
      (n * 3000000000 + f : Int) = s.tick.now * 3000000000 + s.tick.frac +
        ((25 * (1000000000 + s.intAt 32 Adr.rateAdjust)).toNat : Int))

/-- Right after reset device time is 0, the device is in BOOTING with the tick generator halted, nobody owns it,
SAFETY_STATE reads STARTING with FAULT_N asserted, the next fault record is number 1, every array is OFF, every queue
is disabled, and no command waits. The state right after reset has the invariant: canonical register file and memory,
and the units of the part. -/
def Obligations.ResetStateHasInvariant : Prop :=
  (State.reset.tick.now = 0 ∧ State.reset.power.state = .booting ∧ State.reset.tick.gen = .halted ∧
     State.reset.own.state = .vacant ∧ State.reset.own.owner = none ∧ State.reset.bin.state = .starting ∧
     State.reset.bin.faultN = true ∧ State.reset.log.nextSeq = 1 ∧
     (∀ a, (State.reset.arrAt a).state = .off) ∧ (∀ q, (State.reset.queueAt q).state = .disabled) ∧
     State.reset.pending = []) ∧
  (State.reset.Inv)

/-- Every step from every state with the invariant gives a state with the invariant: the register file lists no
default, memory no 0, both rise strictly, and no unit is made or lost. -/
def Obligations.EveryStepKeepsInvariant : Prop :=
  ∀ s t : State, s.Inv → step s = .next t → t.Inv

/-- Device time never runs backwards: no step but a power-on reset lessens it. -/
def Obligations.DeviceTimeNeverRunsBackwards : Prop :=
  ∀ s t : State, s.pending.head? ≠ some .powerOnReset → step s = .next t → s.tick.now ≤ t.tick.now

/-- Each command changes at most the parts that `touched` lists for it: all other parts, among them the queue of
commands and the part's identity, are as before. -/
def Obligations.CommandTouchesOnlyItsParts : Prop :=
  ∀ (i : Instr) (s t : State), exec i s = .next t → State.Within (touched i) s t

/-- Every command answers a next state, in every state and whatever its operands, but for one: a step of an enabled encoder
that comes faster than the rated signal, while the controller serves the keys, for which the manual states nothing (R4, R297;
its own statement says so). What each command then does is said by the statement of its family. -/
def Obligations.EveryCommandCompletes : Prop :=
  ∀ (i : Instr) (s : State), (∃ t, exec i s = .next t) ∨
    ∃ t e a b, i = .encoderStep t e a b ∧ s.ctlServes = true ∧ s.stepTooFast e.val t = true ∧
      exec i s = .fault .outsideRating

/-- Bytes written to device memory read back; every other byte reads as before; the memory stays canonical. A value
written to the register file reads back at its address; every other address reads as before; the register file stays
canonical. -/
def Obligations.StorageReadsBack : Prop :=
  (∀ (s : State) (a : Nat) (bs : Bytes), Memory.wf s.mem.cells = true →
     (s.writeMem a bs).readMem a bs.length = bs ∧
     (∀ x, x < a ∨ a + bs.length ≤ x → (s.writeMem a bs).mem.cells.byte x = s.mem.cells.byte x) ∧
     Memory.wf (s.writeMem a bs).mem.cells = true) ∧
  (∀ (s : State) (a b : Nat) (v : Val), Dict.wf s.part.variant s.dict = true →
     (s.setVal a v).valAt a = v ∧ (b ≠ a → (s.setVal a v).valAt b = s.valAt b) ∧
     Dict.wf (s.setVal a v).part.variant (s.setVal a v).dict = true)

/-- An event of the selected fix source that falls inside the capture window of a predicted meridian, ends included,
as the first one there: a qualified active edge of its pin is the fix with error e = t + FIX_OFFSET - M; an active edge
that has left its level before FIX_QUAL.MIN_WIDTH marks the window; an event of the gPTP schedule, at a device time at
which gPTP time equals FIX_GPTP_EPOCH + k × P, qualifies exactly while GPTP_STATUS is SYNCED (2). Nothing else changes
but for the time that passes. A qualified edge outside the capture window marks the window and is counted in
FIX_IGNORED; one inside a window that already has its fix, or is closed, is counted only. An edge of a pin that is not
selected, or against FIX_QUAL.POLARITY, a time off the schedule, a short pulse while MIN_WIDTH is 0, and any event while
the generator is halted have no effect. -/
def Obligations.FixEventsAreJudged : Prop :=
  (∀ (s : State) (t : Nat) (pin : FixPin) (falling : Bool),
     let u := s.advanceCharged (t + s.minWidth); let w := u.tick.window; let e : Int := (t : Int) + u.fixOffset - w.center
     (u.genRuns = true → u.tick.startSearch = false → u.searching = false → u.fixSource = pinSource pin →
       falling = bitAt (u.numAt Adr.fixQual) 8 →
       (-(w.half : Int) ≤ e → e ≤ w.half → w.closed = false → w.fix = none → exec (.pinEventQualified t ⟨pin, falling⟩) s =
         .next (u.setTick (fun k => { k with window := { w with fix := some e } }))) ∧
       (-(w.half : Int) ≤ e → e ≤ w.half → (w.closed = true ∨ w.fix.isSome = true) →
         exec (.pinEventQualified t ⟨pin, falling⟩) s = .next (u.bump Adr.fixIgnored)) ∧
       (e < -(w.half : Int) ∨ (w.half : Int) < e → exec (.pinEventQualified t ⟨pin, falling⟩) s =
         .next ((u.setTick (fun k => { k with
           window := if w.closed then { w with later := true } else { w with outside := true } })).bump Adr.fixIgnored))) ∧
     (u.genRuns = false ∨ u.fixSource ≠ pinSource pin ∨ falling ≠ bitAt (u.numAt Adr.fixQual) 8 →
       exec (.pinEventQualified t ⟨pin, falling⟩) s = .next u)) ∧
  (∀ (s : State) (t width : Nat) (pin : FixPin) (falling : Bool),
     let u := s.advanceCharged (t + width); let w := u.tick.window; let e : Int := (t : Int) + u.fixOffset - w.center
     (u.genRuns = true → u.tick.startSearch = false → u.searching = false → u.fixSource = pinSource pin →
       falling = bitAt (u.numAt Adr.fixQual) 8 → width < u.minWidth → -(w.half : Int) ≤ e → e ≤ w.half →
       w.closed = false → w.fix = none → exec (.pinEventUnqualified t ⟨pin, falling, width⟩) s =
         .next (u.setTick (fun k => { k with window := { w with failed := true } }))) ∧
     (u.genRuns = false ∨ u.fixSource ≠ pinSource pin ∨ falling ≠ bitAt (u.numAt Adr.fixQual) 8 ∨
         u.numAt Adr.fixQual % 256 = 0 →
       exec (.pinEventUnqualified t ⟨pin, falling, width⟩) s = .next u)) ∧
  (∀ (s : State) (t : Nat),
     let u := s.advanceCharged t; let w := u.tick.window; let e : Int := (t : Int) + u.fixOffset - w.center
     (u.genRuns = true → u.tick.startSearch = false → u.searching = false → u.fixSource = 2 →
       (∃ k : Int, (t : Int) + u.intAt 64 Adr.gptpOffset = (u.numAt Adr.fixGptpEpoch : Int) + k * u.period) →
       -(w.half : Int) ≤ e → e ≤ w.half → w.closed = false → w.fix = none → exec (.gptpScheduleEvent t) s =
         .next (if u.numAt Adr.gptpStatus = 2 then u.setTick (fun k => { k with window := { w with fix := some e } })
           else u.setTick (fun k => { k with window := { w with failed := true } }))) ∧
     (u.genRuns = false ∨ u.fixSource ≠ 2 ∨
         (¬ ∃ k : Int, (t : Int) + u.intAt 64 Adr.gptpOffset = (u.numAt Adr.fixGptpEpoch : Int) + k * u.period) →
       exec (.gptpScheduleEvent t) s = .next u))

/-- In a realignment tick the first qualified edge of the selected pin with M + P ≤ t + FIX_OFFSET ≤ M + 2P sets the
next meridian to t + FIX_OFFSET, clears MISS_COUNT and closes the window of that meridian with e = 0; an earlier one is
counted in FIX_IGNORED only. A search that no event ends: in a realignment tick the next meridian falls at M_n + 2P, the
window counts as MISSED and as a miss; at start-up the first meridian falls at S + 2P, and the generator's state and
MISS_COUNT stay. REALIGN, accepted while a fix source is set, makes the meridian that the write reaches a realignment
meridian, and changes nothing else but the lease of the owner and the response. -/
def Obligations.SearchAndRealignment : Prop :=
  (∀ (s : State) (t : Nat) (pin : FixPin) (falling : Bool),
     let u := s.advanceCharged (t + s.minWidth); let et : Int := (t : Int) + u.fixOffset
     u.genRuns = true → u.fixSource = pinSource pin → falling = bitAt (u.numAt Adr.fixQual) 8 →
     u.tick.startSearch = false → u.tick.realignTick = true → u.tick.next = none →
     ((u.tick.meridian : Int) + u.period ≤ et → et ≤ (u.tick.meridian : Int) + 2 * u.period →
       ∃ x, exec (.pinEventQualified t ⟨pin, falling⟩) s = .next x ∧ x.tick.next = some et.toNat ∧ x.tick.missCount = 0 ∧
         x.tick.realignFound = true ∧ x.tick.window.closed = true ∧ x.tick.window.fix = some 0 ∧
         x.tick.window.center = et.toNat) ∧
     (et < (u.tick.meridian : Int) + u.period →
       exec (.pinEventQualified t ⟨pin, falling⟩) s = .next (u.bump Adr.fixIgnored))) ∧
  (∀ s : State, s.genRuns = true →
     (s.tick.startSearch = true → ∃ x, exec .realignSearchTimeout s = .next x ∧
       x.tick.next = some (s.tick.startAt + 2 * s.period) ∧ x.tick.startSearch = false ∧
       x.tick.gen = s.tick.gen ∧ x.tick.missCount = s.tick.missCount) ∧
     (s.tick.startSearch = false → s.tick.realignTick = true → s.tick.next = none →
       ∃ x, exec .realignSearchTimeout s = .next x ∧ x.tick.next = some (s.tick.meridian + 2 * s.period) ∧
         x.tick.missCount = min (s.tick.missCount + 1) 255 ∧ x.tick.status = .missed ∧
         x.tick.gen = (if s.tick.gen = .deadReckoning ∨ 3 ≤ s.tick.missCount + 1 then .deadReckoning else .holdover))) ∧
  (∀ (s : State) (r : Req), s.Inv → let h := s.heard r.t r.port r.sender
     s.grants r Adr.realign → h.fixSource ≠ 0 ∧
       exec (.realign r) s = .next (({ h with tick := { h.tick with
         realignAt := if h.tick.realignAt.contains h.reachedTick then h.tick.realignAt
           else h.tick.realignAt ++ [h.reachedTick] } } : State).answered
         r.port (h.routeOf r.port r.sender) 2 r.seq Adr.realign 0 []))

/-- The capture window of M_n closes, after M_n, with a fix of error e: the slew is e clamped to -L and +L, the next
meridian is M_n + P + slew, MISS_COUNT is cleared, and the generator is LOCKED with status ACCEPTED where |e| ≤ L, in
PULL_IN with status ACCEPTED_CLAMPED otherwise. It closes without a fix: the slew is 0 and the next meridian M_n + P;
MISS_COUNT goes up by one and saturates at 255; the third miss in a row, and every further one, has the generator in
DEAD_RECKONING, an earlier one in HOLDOVER; the status is REJECTED where an event failed qualification or fell outside
every window, else MISSED. A window that closes before its meridian is marked closed, and nothing else changes but for
the time that passes (it is judged at the meridian: the model's reading, log 18). -/
def Obligations.MeridianFollowsFix : Prop :=
  (∀ (s : State) (e : Int), let w := s.tick.window
     let u := s.advanceCharged ((w.center : Int) + w.half - s.fixOffset).toNat
     s.Inv → s.genRuns = true → s.fixSource ≠ 0 → w.closed = false → w.placed = false → s.tick.startSearch = false →
     s.searching = false → s.tick.started = true → w.center = s.tick.meridian → w.fix = some e →
     ∃ x, exec .captureWindowClose s = .next x ∧ x.tick.error = e ∧ x.tick.missCount = 0 ∧
       x.tick.slew = clampInt e (-u.slewLimit) u.slewLimit ∧
       x.tick.next = some ((s.tick.meridian : Int) + u.period + clampInt e (-u.slewLimit) u.slewLimit).toNat ∧
       (e.natAbs ≤ u.slewLimit.natAbs → x.tick.gen = .locked ∧ x.tick.status = .accepted) ∧
       (u.slewLimit.natAbs < e.natAbs → x.tick.gen = .pullIn ∧ x.tick.status = .acceptedClamped)) ∧
  (∀ (s : State), let w := s.tick.window
     let u := s.advanceCharged ((w.center : Int) + w.half - s.fixOffset).toNat
     s.Inv → s.genRuns = true → s.fixSource ≠ 0 → w.closed = false → s.tick.startSearch = false →
     s.searching = false → s.tick.started = true → w.center = s.tick.meridian → w.fix = none →
     ∃ x, exec .captureWindowClose s = .next x ∧ x.tick.slew = 0 ∧ x.tick.error = 0 ∧
       x.tick.next = some (s.tick.meridian + u.period) ∧ x.tick.missCount = min (s.tick.missCount + 1) 255 ∧
       x.tick.gen = (if s.tick.gen = .deadReckoning ∨ 3 ≤ s.tick.missCount + 1 then .deadReckoning else .holdover) ∧
       x.tick.status = (if w.failed || w.outside then .rejected else .missed)) ∧
  (∀ (s : State), let w := s.tick.window
     let u := s.advanceCharged ((w.center : Int) + w.half - s.fixOffset).toNat
     s.genRuns = true → s.fixSource ≠ 0 → w.closed = false → s.tick.startSearch = false → s.searching = false →
     (s.tick.started = false ∨ w.center ≠ s.tick.meridian) →
     exec .captureWindowClose s = .next (u.setTick (fun k => { k with window := { w with closed := true } })))

/-- The meridian that the generator has fixed arrives: the tick number takes the next value, which then goes up by
one; the tick's meridian is the computed time; device time has reached the command's; the staged writes of this and
earlier meridians are no longer staged, and later ones still are. The staged writes of one meridian are applied
together: each object of a staged value that is due reads the value staged last for it, every other object reads as
before, and exactly the values that are due leave the list. -/
def Obligations.MeridianOpensTick : Prop :=
  (∀ (s : State) (t m : Nat), s.genRuns = true → s.tick.next = some m → m ≤ t →
     ∃ x, exec (.meridian t) s = .next x ∧ x.tick.tick = s.tick.nextTick ∧
       x.tick.nextTick = s.tick.nextTick + 1 ∧ x.tick.meridian = m ∧ x.tick.started = true ∧
       x.tick.now = max s.tick.now t ∧ x.staged = s.staged.filter (fun w => !(w.tick ≤ s.tick.nextTick))) ∧
  (∀ (s : State) (n : Nat), Dict.wf s.part.variant s.dict = true → (s.staged.map (·.addr)).Nodup →
     (∀ w, w ∈ s.staged → w.tick ≤ n → (s.applyStaged n).valAt w.addr = w.val) ∧
     (∀ a, (∀ w, w ∈ s.staged → w.tick ≤ n → w.addr ≠ a) → (s.applyStaged n).valAt a = s.valAt a) ∧
     (s.applyStaged n).staged = s.staged.filter (fun w => !(w.tick ≤ n)))

/-- The report of the tick just closed is published once, when every completion record of the tick is out: it becomes
LAST_REPORT. With REPORT_HOST_EN set and the host reachable it is also written to entry n mod RING_ENTRIES of the
ring, its last eight bytes of header, TICK_NUMBER_TAIL, after every other byte, and vector 37 goes out where it is
enabled. A CAM_TRIG output that pulses in the present tick changes to its active level at the meridian plus OFFSET, or
when the meridian's actions ran where that is later, once, and back WIDTH (in µs) after that. -/
def Obligations.TickOutputs : Prop :=
  (∀ (s : State) (t : Nat) (d : Draft), let u := s.advance t; let b := u.reportBytes d
     s.tick.closing = some d → u.dormant = false → u.limitPending = false → u.recordsOut d.tick = true →
     ∃ x, exec (.tickReport t) s = .next x ∧ x.tick.lastReport = b ∧ x.tick.closing = none ∧
       ((bitAt (u.numAt Adr.tickCtrl) 1 && u.hostOpen) = false → x.sent = u.sent) ∧
       ((bitAt (u.numAt Adr.tickCtrl) 1 && u.hostOpen) = true →
         let a := u.numAt Adr.hostAddr + d.tick % (u.numAt Adr.ringEntries) * 1024
         let first := [Sent.hostWrite a (b.take 120) false false] ++
           (if b.length ≤ 128 then [] else [Sent.hostWrite (a + 128) (b.drop 128) false false])
         ∃ vector, x.sent = u.sent ++ first ++ [Sent.hostWrite (a + 120) (slice b 120 8) false false] ++ vector ∧
           (vector = [] ∨ ∃ addr data, vector = [Sent.msix 37 addr data]))) ∧
  (∀ (s : State) (n : Fin 8),
     let start := max (s.tick.meridian + s.numAt (Adr.camTrigOffset n.val)) s.tick.ranAt
     s.camDue n.val = true → s.tick.camDone.contains n.val = false →
       let u := s.advanceCharged start
       exec (.camTrigPulse n) s = .next ((u.setTick (fun k => { k with
         camActive := modifyAt k.camActive n.val
           (fun _ => some (start + u.numAt (Adr.camTrigWidth n.val) * 1000)),
         camDone := k.camDone ++ [n.val] })).emit
           (.camTrig n.val (decide (u.numAt (Adr.camTrigPolarity n.val) = 0))))) ∧
  (∀ (s : State) (n : Fin 8) (stop : Nat), let u := s.advanceCharged stop
     nth s.tick.camActive n.val none = some stop →
       exec (.camTrigPulseEnd n) s = .next ((u.setTick (fun k => { k with
         camActive := modifyAt k.camActive n.val (fun _ => none) })).emit
           (.camTrig n.val (decide (u.numAt (Adr.camTrigPolarity n.val) ≠ 0)))))

/-- gPTP on the selected port and domain: the first three Syncs in a row leave GPTP_STATUS at 1 (acquiring), as does one
after a gap of three sync intervals or from TIMEOUT, and neither RATE_ADJUST nor GPTP_OFFSET changes; the fourth and
every further one makes it SYNCED (2), publishes gPTP time minus device time in GPTP_OFFSET, from the origin time and the
path delay of the port, and keeps RATE_ADJUST within ±500 ppm. A peer-delay measurement on a present port sets the path
delay of that port and changes nothing else but for the time that passes. From SYNCED, three sync intervals without a
Sync give TIMEOUT (3). -/
def Obligations.GptpFollowsSyncs : Prop :=
  (∀ (s : State) (t domain origin interval : Nat) (p : Fin 2), let u := s.advanceCharged t; let g := u.tick.gptp
     u.Inv → u.gptpListens p.val domain = true →
      (3 * interval ≤ t - g.lastSync ∨ u.numAt Adr.gptpStatus = 3 ∨ g.syncs < 3 →
        ∃ x, exec (.syncMessage t p domain origin interval) s = .next x ∧ x.numAt Adr.gptpStatus = 1 ∧
          x.valAt Adr.rateAdjust = u.valAt Adr.rateAdjust ∧ x.valAt Adr.gptpOffset = u.valAt Adr.gptpOffset ∧
          x.tick.gptp.lastSync = t ∧ x.tick.gptp.interval = interval) ∧
      (t - g.lastSync < 3 * interval → u.numAt Adr.gptpStatus ≠ 3 → 3 ≤ g.syncs →
        ∃ x, exec (.syncMessage t p domain origin interval) s = .next x ∧ x.numAt Adr.gptpStatus = 2 ∧
          x.numAt Adr.gptpOffset = ofSigned 64 ((origin : Int) + nth g.pathDelays p.val 0 - t) ∧
          -500000 ≤ x.intAt 32 Adr.rateAdjust ∧ x.intAt 32 Adr.rateAdjust ≤ 500000 ∧
          x.tick.gptp.lastSync = t ∧ x.tick.gptp.interval = interval)) ∧
  (∀ (s : State) (t t1 t2 t3 t4 : Nat) (p : Fin 2), let u := s.advanceCharged t
     u.dormant = false → p.val < u.part.variant.ethPorts →
      exec (.pdelayMessage t p t1 t2 t3 t4) s = .next (u.setGptp (fun y => { y with
        pathDelays := modifyAt y.pathDelays p.val (fun _ => ((t4 - t1) - (t3 - t2)) / 2) }))) ∧
  (∀ (s : State) (t : Nat), let u := s.advanceCharged t; let g := u.tick.gptp
     u.numAt Adr.gptpStatus = 2 → g.lastSync + 3 * g.interval ≤ u.tick.now →
      exec (.gptpTimeout t) s = .next ((u.setNum Adr.gptpStatus 3).setGptp (fun y => { y with syncs := 0 })))

/-- A READ that passes its checks answers the object's value (with its STAGE byte where it is an RWM object), on the
port it came from, under its SEQUENCE and address; from the owner it also sets the lease. Nothing else changes but
for the time, the ownership actions that were due, and the count of requests. No READ is checked for ownership. A
WRITE of an RWM object that passes every check while the tick generator runs is staged behind the other staged
values, with the meridian that it reaches; it replaces a value staged earlier for the object. The object's applied
value does not change. -/
def Obligations.ReadsAndWritesAreServed : Prop :=
  (∀ (s : State) (p : Pdu), let a := p.index * 256 + p.sub; let h := s.heard p.t p.port p.sender
     s.hears p.t p.port p.sender 1 p.index → p.flags = 0 → blockOnly a = false → h.existCheck a = none → h.readCheck a = none →
     exec (.read p) s = .next (h.answered p.port (h.routeOf p.port p.sender) 1 p.seq a 0 ((h.touchLease p.port).readPayload p.port a))) ∧
  (∀ (s : State) (p : Pdu), let a := p.index * 256 + p.sub; let h := s.heard p.t p.port p.sender
     s.grants { t := p.t, port := p.port, sender := p.sender, seq := p.seq, flags := p.flags, payload := p.payload } a → p.sub < 256 →
     accessAt a = .rwm → h.tick.gen ≠ .halted →
     ∃ x, exec (.write p) s = .next x ∧ x.dict = h.dict ∧
       x.staged = h.staged.filter (fun w => w.addr != a) ++
         [{ addr := a, val := writeValue a p.payload, tick := h.reachedTick }] ∧
       x = ({ h with staged := x.staged }).answered p.port (h.routeOf p.port p.sender) 2 p.seq a 0 [])

/-- A WRITE that a check of R64 refuses is answered with an abort that carries the code of the first check that
fails: the header, the length, ownership (but for the read selectors), existence, access, state, value. The abort is
counted, and nothing else changes. A NOTIFY from a master, and a service code that is no service, are refused with
0x0601; the abort is counted and nothing else changes. A PDU that is dropped without response is counted in
DROPPED_MALFORMED of its port; on port H its ring entry is fetched and consumed. Nothing else changes. A PDU on a port
that is not open, or a frame on port C that is not addressed to the device, changes nothing but device time. -/
def Obligations.RefusalsChangeNothing : Prop :=
  (∀ (s : State) (p : Pdu) (code : Nat), let a := p.index * 256 + p.sub; let h := s.heard p.t p.port p.sender
     let v := writeValue a p.payload
     s.hears p.t p.port p.sender 2 p.index →
     firstCode [flagCheck p.flags, refuseIf (blockOnly a || tooShort a p.payload) 0x0602,
       if isSelector a then none else h.ownerCheck p.port, h.existCheck a, h.writeCheck a, h.stateCheck a v.toNat,
       h.valueCheck a v] = some code →
     exec (.write p) s = .next (h.aborted p.port p.sender 2 p.seq a code)) ∧
  (∀ (s : State) (p : Pdu), let a := p.index * 256 + p.sub
     (s.hears p.t p.port p.sender 9 p.index →
       exec (.notifyReceived p) s = .next ((s.heard p.t p.port p.sender).aborted p.port p.sender 9 p.seq a 0x0601)) ∧
     (∀ code, (code = 0 ∨ 8 < code) → s.hears p.t p.port p.sender code p.index →
       exec (.unknownService p code) s =
         .next ((s.heard p.t p.port p.sender).aborted p.port p.sender code p.seq a 0x0601))) ∧
  (∀ (s : State) (t : Nat) (port : Port) (sender : Nat) (why : Malformed), let u := s.advance t
     (u.malformedOn port why = true → u.portOpen port = true → u.addressed port sender = true →
       exec (.malformedPdu t port ⟨sender, why⟩) s = .next
         ((if port = .H then u.fetchEntry else u).bump (Adr.droppedMalformed port.idx))) ∧
     (u.portOpen port = false ∨ u.addressed port sender = false → exec (.malformedPdu t port ⟨sender, why⟩) s = .next u))

/-- A CLAIM while nobody owns, with a rank that its port may claim, joins the claim window in place of an earlier
claim of the same port; the first claim opens the window, which closes at meridian (next + CLAIM_WINDOW - 1), the
meridian that the response names. The owner's own CLAIM sets its lease and changes no ownership. A CLAIM against an
owner is refused with 0x0303, one above its rank with 0x0304. RENEW from the owner sets LEASE_REMAINING to LEASE_TICKS
and answers it. HANDOVER from the owner to a reachable port starts a handover to that port, with its deadline four
meridians on, which the response names. ACCEPT from the named successor before the deadline makes it the owner under
the nonce it gives, with the full lease. At its meridian a claim window gives ownership to a claim whose rank no other
claim of the window betters, ties going to H, C, E, S in that order; a lease at 0 vacates ownership; a handover whose
deadline has come ends with the old owner and a full lease. -/
def Obligations.OwnershipIsClaimed : Prop :=
  (∀ (s : State) (p : Pdu), let a := p.index * 256 + p.sub; let h := s.heard p.t p.port p.sender
     let c : Claim := { port := p.port, rank := field p.payload 0 1, nonce := field p.payload 4 4 }
     let close := if h.own.state = .claiming then h.own.closeTick
       else h.tick.nextTick + h.numAt Adr.claimWindow - 1
     s.hears p.t p.port p.sender 5 p.index → p.flags = 0 → 8 ≤ p.payload.length →
     (h.own.owner = none → c.rank ≤ h.claimRank p.port →
       ∃ y : State, exec (.claim p) s = .next (y.respond p.port (h.routeOf p.port p.sender)
           (responsePdu 5 p.seq a 0 (leBytes 1 0 ++ zeros 3 ++ leBytes 8 close))) ∧
         y = { h with own := y.own } ∧ y.own.state = .claiming ∧ y.own.owner = none ∧
         y.own.claims = ((if h.own.state = .claiming then h.own.claims else []).filter (fun z => z.port != p.port)) ++ [c] ∧
         y.own.closeTick = close) ∧
     (h.own.owner = some p.port → exec (.claim p) s =
       .next (h.answered p.port (h.routeOf p.port p.sender) 5 p.seq a 0 (leBytes 1 1 ++ zeros 3 ++ leBytes 8 0))) ∧
     (∀ o, h.own.owner = some o → o ≠ p.port →
       exec (.claim p) s = .next (h.aborted p.port p.sender 5 p.seq a 0x0303)) ∧
     (h.own.owner = none → h.claimRank p.port < c.rank →
       exec (.claim p) s = .next (h.aborted p.port p.sender 5 p.seq a 0x0304))) ∧
  (∀ (s : State) (p : Pdu), let a := p.index * 256 + p.sub; let h := s.heard p.t p.port p.sender
     s.hears p.t p.port p.sender 6 p.index → p.flags = 0 → h.own.owner = some p.port → h.own.state = .owned →
       exec (.renew p) s = .next (({ h with own := { h.own with lease := h.numAt Adr.leaseTicks } } : State).respond
         p.port (h.routeOf p.port p.sender) (responsePdu 6 p.seq a 0 (leBytes 1 (h.numAt Adr.leaseTicks))))) ∧
  (∀ (s : State) (p : Pdu) (successor : Port), let a := p.index * 256 + p.sub; let h := s.heard p.t p.port p.sender
     s.hears p.t p.port p.sender 7 p.index → p.flags = 0 → h.own.owner = some p.port → h.own.state = .owned →
       p.payload ≠ [] → Port.ofCode (field p.payload 0 1) = some successor → successor ≠ p.port →
       h.reachable successor = true →
       ∃ y : State, exec (.handover p) s = .next (y.respond p.port (h.routeOf p.port p.sender)
           (responsePdu 7 p.seq a 0 (leBytes 8 (h.tick.tick + 4)))) ∧
         y.own = { h.own with
           state := .handoverPending, successor := some successor, deadline := h.tick.tick + 4,
           lease := h.numAt Adr.leaseTicks }) ∧
  (∀ (s : State) (p : Pdu), let a := p.index * 256 + p.sub; let h := s.heard p.t p.port p.sender
     s.hears p.t p.port p.sender 8 p.index → p.flags = 0 → h.own.state = .handoverPending →
       h.own.successor = some p.port → h.tick.tick < h.own.deadline → 4 ≤ p.payload.length →
       ∃ y : State, exec (.accept p) s = .next (y.respond p.port (h.routeOf p.port p.sender)
           (responsePdu 8 p.seq a 0 [])) ∧ y.own.state = .owned ∧ y.own.owner = some p.port ∧
         y.own.nonce = field p.payload 0 4 ∧ y.own.successor = none ∧ y.own.lease = y.numAt Adr.leaseTicks) ∧
  (∀ s : State,
     (s.own.state = .claiming → s.reached s.own.closeTick = true → s.own.claims ≠ [] →
       ∃ (c : Claim) (x : State), c ∈ s.own.claims ∧ exec .claimWindowClose s = .next x ∧ x.own.state = .owned ∧
         x.own.owner = some c.port ∧ x.own.nonce = c.nonce ∧ x.own.claims = [] ∧
         ∀ d, d ∈ s.own.claims → c.rank ≤ d.rank ∧ (c.rank = d.rank → c.port.tie ≤ d.port.tie)) ∧
     (s.own.state = .owned → s.own.lease = 0 →
       ∃ x, exec .leaseExpiry s = .next x ∧ x.own.state = .vacant ∧ x.own.owner = none ∧ x.own.vacancyCause = 1) ∧
     (s.own.state = .handoverPending → s.reached s.own.deadline = true →
       ∃ x, exec .handoverDeadline s = .next x ∧ x.own = { s.own with
         state := .owned, successor := none, deadline := 0, lease := s.numAt Adr.leaseTicks }))

/-- A segment of a WRITE_BLOCK that passes every check is taken: an INIT segment that is not the last opens a
transfer of the total it states with the data after that; a middle segment in sequence appends its data. The
last segment writes the whole value, as a WRITE of the object does, and is answered; no earlier one changes an object.
An INIT segment of a READ_BLOCK that passes its checks fixes the value to be
read and answers its total and its first bytes, with LAST where that is all; a further segment in sequence answers
the bytes that follow. No object changes, but for RECORDS_DAMAGED where the value read holds damaged records. A block transfer whose latest segment is more than SEG_TIMEOUT old is
discarded and counted, and its later segments are refused with 0x0604; one that is not so old stays. Commands that
name one object are the services on that object: LOGBOOK_EXPORT is a READ_BLOCK, and KEY_ENABLE_MASK, DEBUG_RESPONSE,
TOUCH_REF_MAP_WRITE and SECURITY_VERSION_RAISE are WRITE_BLOCKs, segment by segment, of their objects. -/
def Obligations.BlockTransfersMoveValues : Prop :=
  (∀ (s : State) (p : Pdu), let a := p.index * 256 + p.sub; let h := s.heard p.t p.port p.sender
     let g := segmentOf true p.seq p.flags a p.payload; let total := field p.payload 0 4
     s.Inv → s.hears p.t p.port p.sender 4 p.index → h.segmentCheck p.port g = none →
     (p.flags = 0x50 → p.payload.length = segmentSize p.port → fixedAt a = false → (h.portAt p.port).transfer = none → total ≤ 65536 →
       p.payload.length < total + 4 →
       ∃ (x : State) (y : Transfer), exec (.writeBlock p) s = .next x ∧ (x.portAt p.port).transfer = some y ∧
         y.buf = p.payload.drop 4 ∧ y.total = total ∧ y.addr = a ∧ y.write = true ∧ y.seq = p.seq ∧
         y.finished = false ∧ x.dict = h.dict ∧ x.staged = h.staged) ∧
     (∀ k : Transfer, p.flags = 0x40 → p.payload.length = segmentSize p.port → (h.portAt p.port).transfer = some k →
       h.segmentLate k = false → k.finished = false → k.write = true → k.addr = a → p.seq = (k.seq + 1) % 256 →
       k.buf.length + p.payload.length < k.total →
       ∃ (x : State) (y : Transfer), exec (.writeBlock p) s = .next x ∧ (x.portAt p.port).transfer = some y ∧
         y.buf = k.buf ++ p.payload ∧ y.total = k.total ∧ y.addr = a ∧ y.seq = p.seq ∧ y.finished = false ∧
         x.dict = h.dict ∧ x.staged = h.staged) ∧
     (∀ k : Transfer, p.flags = 0x60 → (h.portAt p.port).transfer = some k → h.segmentLate k = false →
       k.finished = false → k.write = true → k.addr = a → p.seq = (k.seq + 1) % 256 →
       k.total ≤ k.buf.length + p.payload.length →
       let v : Val := .bytes ((k.buf ++ p.payload).take k.total)
       let o := h.setPort p.port (fun y => { y with
         transfer := some { k with buf := (k.buf ++ p.payload).take k.total, finished := false }, discarded := none })
       o.valueCheck a v = none → (o.perform p.port a v).1 = none →
       ∃ (x : State) (y : Transfer), exec (.writeBlock p) s = .next x ∧ y.finished = true ∧
         x = (((o.perform p.port a v).2.setPort p.port (fun z => { z with transfer := some y })).touchLease p.port).respond
           p.port (h.routeOf p.port p.sender) (responsePdu 4 p.seq a 0x60 []))) ∧
  (∀ (s : State) (p : Pdu), let a := p.index * 256 + p.sub; let h := s.heard p.t p.port p.sender
     let g := segmentOf false p.seq p.flags a p.payload; let value := encodeVal (typeAt a) (h.readVal p.port a)
     s.Inv → s.hears p.t p.port p.sender 3 p.index → h.segmentCheck p.port g = none →
     (p.flags = 0x50 → fixedAt a = false → (h.portAt p.port).transfer = none →
       let data := slice value 0 (segmentSize p.port - 4)
       ∃ (x : State) (y : Transfer), exec (.readBlock p) s = .next x ∧ (x.portAt p.port).transfer = some y ∧
         y.buf = value ∧ y.total = value.length ∧ y.sent = data.length ∧ y.finished = decide (value.length ≤ data.length) ∧
         y.response = responsePdu 3 p.seq a (g.flags y.finished) (leBytes 4 value.length ++ data) ∧
         x.dict = (h.readRecords p.port a).dict) ∧
     (∀ k : Transfer, p.flags = 0x40 → (h.portAt p.port).transfer = some k → h.segmentLate k = false →
       k.finished = false → k.write = false → k.addr = a → p.seq = (k.seq + 1) % 256 →
       let data := slice k.buf k.sent (segmentSize p.port)
       ∃ (x : State) (y : Transfer), exec (.readBlock p) s = .next x ∧ (x.portAt p.port).transfer = some y ∧
         y.buf = k.buf ∧ y.sent = k.sent + data.length ∧
         y.response = responsePdu 3 p.seq a (g.flags y.finished) data ∧ x.dict = h.dict)) ∧
  (∀ (s : State) (t : Nat) (port : Port) (k : Transfer), let u := s.advance t
     s.Inv → (u.portAt port).transfer = some k → k.finished = false →
     (u.segmentLate k = true → ∃ x, exec (.segmentTimeout t port) s = .next x ∧ (x.portAt port).transfer = none ∧
       (x.portAt port).discarded = some 0x0604 ∧
       x.valAt (Adr.transfersDiscarded port.idx) = (u.bump (Adr.transfersDiscarded port.idx)).valAt
         (Adr.transfersDiscarded port.idx)) ∧
     (u.segmentLate k = false → exec (.segmentTimeout t port) s = .next u)) ∧
  (∀ (s : State) (p : Pdu), let at' (a : Nat) : Pdu := { p with index := a / 256, sub := a % 256 }
     (∃ x, exec (.logbookExport p) s = .next x ∧ exec (.readBlock (at' Adr.logbookExport)) s = .next x) ∧
     (∃ x, exec (.keyEnableMask p) s = .next x ∧ exec (.writeBlock (at' Adr.keyEnableMask)) s = .next x) ∧
     (∃ x, exec (.debugResponse (.request p)) s = .next x ∧ exec (.writeBlock (at' Adr.debugResponse)) s = .next x) ∧
     (∃ x, exec (.touchRefMapWrite p) s = .next x ∧ exec (.writeBlock (at' Adr.touchRefMapWrite)) s = .next x) ∧
     (∃ x, exec (.securityVersionRaise p) s = .next x ∧ exec (.writeBlock (at' Adr.securityVersionRaise)) s = .next x))

/-- An accepted STORE takes the snapshot that will be written; the bank that does not hold the current image holds no
image meanwhile, and NVM_STATUS reads BUSY. A STORE that ends verified makes that bank hold the snapshot and be the
current one, with state DONE and one more in STORE_COUNT; one that fails keeps the current bank, with state FAILED.
An accepted RESTORE loads the stored image, RESTORE_FACTORY puts every NVM-backed object at its default; neither
leaves a value staged or touches the stored images. What the new settings bring about in the units follows, and the
response; a RESTORE also puts the read selectors of the ports at 0 and ends a lock of the keys. What a load makes of
the settings: only NVM-backed objects of present units are marked as defaulted; where none is, each of them reads its
stored value, or its default where the image lists none; of the other objects those that a load replaces read their
default, and the rest as before. -/
def Obligations.StoreAndRestore : Prop :=
  (∀ s : State, s.Inv →
     (∀ r : Req, let h := s.heard r.t r.port r.sender
       s.grants r Adr.store →
       ∃ x, exec (.store r) s = .next x ∧ x.nvm.storing = some h.snapImage ∧ x.nvm.currentIsB = h.nvm.currentIsB ∧
         (if h.nvm.currentIsB then x.nvm.bankA = none ∧ x.nvm.bankB = h.nvm.bankB
           else x.nvm.bankB = none ∧ x.nvm.bankA = h.nvm.bankA) ∧
         x.nvmState = 1) ∧
     (∀ (t : Nat) (i : Image), s.nvm.storing = some i → s.dormant = false →
       (∃ x, exec (.storeComplete t true) s = .next x ∧ x.nvm.storing = none ∧
         x.nvm.currentIsB = !s.nvm.currentIsB ∧
         (if s.nvm.currentIsB then x.nvm.bankA = some i ∧ x.nvm.bankB = s.nvm.bankB
           else x.nvm.bankB = some i ∧ x.nvm.bankA = s.nvm.bankA) ∧
         x.nvmState = 2 ∧
         (s.numAt Adr.storeCount + 1 < 2 ^ 32 → x.numAt Adr.storeCount = s.numAt Adr.storeCount + 1) ∧
         (2 ^ 32 ≤ s.numAt Adr.storeCount + 1 → x.numAt Adr.storeCount = 0 ∧ x.numAt (wrapFlagOf Adr.storeCount) = 1)) ∧
       (∃ x, exec (.storeComplete t false) s = .next x ∧ x.nvm = { s.nvm with storing := none } ∧ x.nvmState = 3 ∧
         x.valAt Adr.storeCount = s.valAt Adr.storeCount))) ∧
  (∀ (s : State) (r : Req), let h := s.heard r.t r.port r.sender
     (s.grants r Adr.restore → ∃ x, exec (.restore r) s = .next x ∧ x.staged = [] ∧ x.nvm = h.nvm ∧
       x = (h.loadStored.settleNow h).loadOthers.answered r.port (h.routeOf r.port r.sender) 2 r.seq Adr.restore 0 []) ∧
     (s.grants r Adr.restoreFactory → ∃ x, exec (.restoreFactory r) s = .next x ∧ x.staged = [] ∧ x.nvm = h.nvm ∧
       x = (({ h with dict := h.factoryDict, staged := [] } : State).settleNow h).answered r.port (h.routeOf r.port r.sender) 2 r.seq
         Adr.restoreFactory 0 [])) ∧
  (∀ (p : Part) (d : Dict) (i : Image), Dict.wf p.variant d = true → Dict.wf p.variant i.vals = true →
     let l := loadImage p d (some i)
     Dict.wf p.variant l.dict = true ∧
       (l.defaulted = [] → ∀ a, a ∈ nvmAddresses p.variant → l.dict.find a = i.vals.find a) ∧
       (∀ a, a ∈ l.defaulted → a ∈ nvmAddresses p.variant) ∧
       (∀ a, ¬ a ∈ nvmAddresses p.variant → l.dict.find a = (if loadedAt a then none else d.find a)))

/-- STORE, RESTORE and RESTORE_FACTORY act only when written with their key: an accepted write carries it, and any
other value that passes the checks before it is refused with 0x0401, with nothing changed but the count of aborts. -/
def Obligations.StoreCommandsNeedTheirKey : Prop :=
  ∀ (s : State) (r : Req) (a key : Nat) (c : Req → Instr),
    (a = Adr.store ∧ key = 0x65766173 ∧ c = Instr.store) ∨ (a = Adr.restore ∧ key = 0x64616F6C ∧ c = Instr.restore) ∨
      (a = Adr.restoreFactory ∧ key = 0x746C6664 ∧ c = Instr.restoreFactory) →
    let h := s.heard r.t r.port r.sender; let v := (writeValue a r.payload).toNat
    (s.grants r a → v = key) ∧
    (s.hears r.t r.port r.sender 2 (a / 256) → r.flags = 0 → 4 ≤ r.payload.length → h.ownerCheck r.port = none →
      h.existCheck a = none → h.writeCheck a = none → h.stateCheck a v = none → v ≠ key →
      exec (c r) s = .next (h.aborted r.port r.sender 2 r.seq a 0x0401))

/-- An event counter counts up by one per event and wraps from its maximum to 0, setting its WRAP flag. Writing 1 to
the flag clears it and writing 0 has no effect; an event of the same cycle sets the flag again exactly where it makes
the counter wrap. An accepted preset of a counter leaves the written value; with an event in the same cycle the
written value plus one, or, where the written value is the maximum, 0 with the WRAP flag set. -/
def Obligations.CountersFollowEventsAndPresets : Prop :=
  (∀ (s : State), s.Inv →
     (∀ a, s.numAt a + 1 < 2 ^ 64 → (s.bump a).numAt a = s.numAt a + 1 ∧ ∀ b, b ≠ a → (s.bump a).valAt b = s.valAt b) ∧
     (∀ a, s.numAt a + 1 = 2 ^ 64 → (s.bump a).numAt a = 0 ∧ (s.bump a).numAt (wrapFlagOf a) = 1 ∧
       ∀ b, b ≠ a → b ≠ wrapFlagOf a → (s.bump a).valAt b = s.valAt b) ∧
     (∀ (r : Req) (index sub : Nat) (wraps : Bool), let a := index * 256 + sub; let h := s.heard r.t r.port r.sender
       let v := (writeValue a r.payload).toNat
       s.grants r a → sub < 256 → kindAt a = .wrap →
       ∃ x, exec (.wrapFlagClear r index sub wraps) s = .next x ∧
         (v ≠ 1 → wraps = false → x.dict = h.dict) ∧
         (v = 1 → (wraps = false ∨ ∀ c, counterOf a = some c → h.numAt c ≠ 2 ^ 64 - 1) → x.numAt a = 0) ∧
         (∀ c, v = 1 → wraps = true → counterOf a = some c → h.numAt c = 2 ^ 64 - 1 → x.numAt a = 1 ∧ x.numAt c = 0))) ∧
  (∀ (s : State) (r : Req) (index sub : Nat) (event : Bool), let a := index * 256 + sub
     let n := (writeValue a r.payload).toNat
     s.Inv → s.grants r a → sub < 256 → kindAt a = .counter →
     ∃ x, exec (.counterPreset r index sub event) s = .next x ∧
       (event = false → x.numAt a = n) ∧
       (event = true → n + 1 < 2 ^ 64 → x.numAt a = n + 1) ∧
       (event = true → n + 1 = 2 ^ 64 → x.numAt a = 0 ∧ x.numAt (wrapFlagOf a) = 1))

/-- A frame of a receiving slot starts with no frame in progress, a camera's by the FS of its receiver and virtual
channel (whatever the outcome of its ECC), another by its first data: its counter is the slot's next one and its capture
time is t - TS_ADJUST. Unless the write buffer is over the slot's level (50 + 5 × PRIORITY %) it takes the first FREE
buffer of the ring; without one, and with RING_MODE 0, it is dropped with NO_BUFFER. An FS or FE that no running slot
selects is counted in CSI_UNMATCHED of its receiver. A bandwidth abort drops the frame in progress with a buffer of the
lowest PRIORITY, and of these of the highest slot: it loses its buffer, which is FREE again. A camera frame ends at its
FE, or FRAME_TIMEOUT µs after its start, then with TRUNCATED; a frame of FRAME_RULE 1 ends FRAME_TIMEOUT µs after its last
packet. The slot then has no frame in progress. Of memory the end of a frame writes its guard words and header, in the
first 64 + 4 × (guard blocks) bytes of its buffer, and nothing for a frame that was dropped. -/
def Obligations.FramesStartAndEnd : Prop :=
  (∀ (s : State) (t fill : Nat), s.Inv → let u := s.advance t
     (∀ (slot : Fin 48) (torn : List (Fin 16)) (src : FrameSource), let n := slot.val
       ((∃ recv vc ecc, src = .csi recv vc ecc ∧ u.slotsOf recv.val vc = [n]) ∨
         (src = .slot slot ∧ u.numAt (Adr.sourceKind n) ≠ 0)) →
       u.receives n = true → (u.slotAt n).filling = none →
       (u.guaranteedNow n = true ∨ fill * 100 ≤ (50 + 5 * u.numAt (Adr.priority n)) * 4194304) →
       (∀ b i, (u.ring n).find? (fun e => e.1.state == .free) = some (b, i) →
         ∃ (x : State) (y : Filling), exec (.frameStart t src fill torn) s = .next x ∧
           (x.slotAt n).filling = some y ∧ y.buffer = some i ∧ y.frame.counter = (u.slotAt n).nextCounter ∧
           y.frame.capture = t - u.numAt (Adr.tsAdjust n) ∧ y.rows = [] ∧ y.stored = [] ∧
           (x.slotAt n).nextCounter = ((u.slotAt n).nextCounter + 1) % 2 ^ 32 ∧
           (nth (x.slotAt n).buffers i Buffer.zero).state = .filling) ∧
       ((∀ e, e ∈ u.ring n → e.1.state ≠ .free) → u.numAt (Adr.ringMode n) = 0 →
         ∃ (x : State) (y : Filling), exec (.frameStart t src fill torn) s = .next x ∧
           (x.slotAt n).filling = some y ∧ y.buffer = none ∧ y.dropCause = 1 ∧
           y.frame.counter = (u.slotAt n).nextCounter ∧ (x.slotAt n).buffers = (u.slotAt n).buffers ∧
           x.tick.framesDropped = s.tick.framesDropped + 1 ∧ x.mem = s.mem)) ∧
     (u.ingestRuns = true → 95 * 4194304 < fill * 100 →
       ∀ (n i : Nat) (fl : Filling), n < 48 → u.guaranteedNow n = false → (u.slotAt n).filling = some fl →
       fl.buffer = some i →
       (∀ k fk, k < 48 → u.guaranteedNow k = false → (u.slotAt k).filling = some fk → fk.buffer.isSome →
         u.numAt (Adr.priority n) < u.numAt (Adr.priority k) ∨
           (u.numAt (Adr.priority n) = u.numAt (Adr.priority k) ∧ k ≤ n)) →
       ∃ x, exec (.bandwidthAbort t fill) s = .next x ∧
         (x.slotAt n).filling = some { fl with buffer := none, dropCause := 2 } ∧
         (i < (u.slotAt n).buffers.length → (nth (x.slotAt n).buffers i Buffer.zero).state = .free) ∧
         (∀ k, k ≠ n → x.slotAt k = u.slotAt k) ∧ x.tick.framesDropped = s.tick.framesDropped + 1 ∧ x.mem = s.mem) ∧
     (∀ (recv : Fin 8) (vc : Nat) (torn : List (Fin 16)), u.ingestRuns = true → u.slotsOf recv.val vc = [] →
       exec (.frameStart t (.csi recv vc .clean) fill torn) s = .next (u.bump (Adr.csiUnmatched recv.val)) ∧
       exec (.frameEnd t ⟨recv, vc, .clean⟩) s = .next (u.bump (Adr.csiUnmatched recv.val)))) ∧
  (∀ (s : State) (slot : Fin 48) (fl : Filling), s.Inv → let n := slot.val
     (s.slotAt n).filling = some fl → s.receives n = true →
     let limit := s.numAt (Adr.frameTimeout n) * 1000
     let ended (u x : State) (i : Nat) : Prop := ∀ a,
       (a < u.bufferBase n i ∨ u.bufferBase n i + 64 + 4 * fl.guardBlocks.length ≤ a) →
         x.mem.cells.byte a = s.mem.cells.byte a
     (∀ t recv vc ecc, fl.frame.kind = 0 → (s.advance t).slotsOf recv.val vc = [n] →
       ∃ x, exec (.frameEnd t ⟨recv, vc, ecc⟩) s = .next x ∧ (x.slotAt n).filling = none ∧
         (fl.buffer = none → x.mem = s.mem) ∧ (∀ i, fl.buffer = some i → ended (s.advance t) x i)) ∧
     (fl.frame.kind = 0 → ∃ x, exec (.frameTimeout slot) s = .next x ∧ (x.slotAt n).filling = none ∧
       x.tick.now = (s.advance (fl.frame.start + limit)).tick.now ∧
       x.numAt (Adr.truncatedFrames n) = (s.bump (Adr.truncatedFrames n)).numAt (Adr.truncatedFrames n) ∧
       (fl.buffer = none → x.mem = s.mem) ∧
       (∀ i, fl.buffer = some i → ended (s.advance (fl.frame.start + limit)) x i)) ∧
     (fl.frame.kind = 1 → s.numAt (Adr.frameRule n) = 1 → ∃ x, exec (.frameTimeout slot) s = .next x ∧
       (x.slotAt n).filling = none ∧ x.tick.now = (s.advance (fl.lastPacket + limit)).tick.now ∧
       (fl.buffer = none → x.mem = s.mem) ∧
       (∀ i, fl.buffer = some i → ended (s.advance (fl.lastPacket + limit)) x i)))

/-- A CSI-2 packet of a pixel or user data type that no running slot selects is counted in CSI_UNMATCHED, and a Line Start
or Line End changes nothing; one for a slot with a camera frame in progress below its HEIGHT adds one line, padded or cut
to the frame's width, and one to the line count. An Ethernet frame with a wrong FCS is counted in FCS_ERRORS only, one
that no flow matches in ETH_UNMATCHED only; one of a slot of FRAME_RULE 0 with a frame in progress adds its payload after
PAYLOAD_SKIP, as far as the buffer has room. An audio edge adds the enabled channels' bytes to each running slot of its
source that has a frame in progress, as far as its buffer has room. -/
def Obligations.SamplesJoinFrames : Prop :=
  ∀ (s : State), s.Inv → s.ingestRuns = true →
    (∀ p : CsiPacket, let u := s.advance p.t; let r := p.recv.val
      let takes (k : Nat) : Bool := (u.slotAt k).running && u.numAt (Adr.sourceKind k) == 0 &&
        u.numAt (Adr.sourceUnit k) == r && u.numAt (Adr.vc k) == p.vc && u.numAt (Adr.dataType k) == p.dataType
      (p.ecc = .clean → p.crcOk = true → 4 ≤ p.dataType → (∀ k, k < 48 → takes k = false) →
        exec (.csiPacket p) s = .next (u.bump (Adr.csiUnmatched r))) ∧
      (p.ecc = .clean → p.crcOk = true → p.dataType < 4 → exec (.csiPacket p) s = .next u) ∧
      (∀ n fl, 4 ≤ p.dataType → n < 48 → takes n = true → (∀ k, k < n → takes k = false) →
        (s.slotAt n).filling = some fl → fl.frame.lines < fl.frame.height →
        ∃ (x : State) (y : Filling), exec (.csiPacket p) s = .next x ∧ (x.slotAt n).filling = some y ∧
          y.frame.lines = fl.frame.lines + 1 ∧
          y.rows = fl.rows ++ [padTo (csiSamples p.dataType p.payload) (lineValues fl.frame.dataType fl.frame.width) 0])) ∧
    (∀ f : EthFrame, let u := s.advance f.t
      f.ethPort.val < s.part.variant.ethPorts → ethSize f ≤ 9216 →
      (f.fcsOk = false → exec (.ethernetFrame f) s = .next (u.bump (Adr.fcsErrors f.ethPort.val))) ∧
      (f.fcsOk = true → f.etherType ≠ 0x88F7 → (∀ k, k < 48 → u.flowMatches k f = false) →
        exec (.ethernetFrame f) s = .next (u.bump (Adr.ethUnmatched f.ethPort.val))) ∧
      (∀ n fl, f.fcsOk = true → f.etherType ≠ 0x88F7 → n < 48 → u.flowMatches n f = true →
        (∀ k, k < n → u.flowMatches k f = false) → u.numAt (Adr.frameRule n) ≠ 1 → (s.slotAt n).filling = some fl →
        ∃ (x : State) (y : Filling), exec (.ethernetFrame f) s = .next x ∧ (x.slotAt n).filling = some y ∧
          y.stored = fl.stored ++ (f.payload.drop (u.numAt (Adr.payloadSkip n))).take
            (u.numAt (Adr.bufferBytes n) - u.metaOf n fl.frame - fl.stored.length) ∧ y.lastPacket = f.t)) ∧
    (∀ (t : Nat) (tdm : Bool) (unit : Fin 2) (samples : List Nat) (fill n : Nat) (fl : Filling), let u := s.advance t
      n < 48 → (s.slotAt n).running = true → (s.slotAt n).filling = some fl →
      (if tdm then u.numAt (Adr.sourceKind n) = 2 ∧ u.numAt (Adr.sourceUnit n) = unit.val
        else u.numAt (Adr.sourceKind n) = 3 ∧ u.numAt (Adr.audioRate n) = unit.val) →
      ∃ (x : State) (y : Filling), exec (.audioWordClockEdge t tdm unit samples fill) s = .next x ∧
        (x.slotAt n).filling = some y ∧
        y.stored = fl.stored ++ (audioBytes (u.numAt (Adr.audioChannelMask n)) tdm samples).take
          (u.numAt (Adr.bufferBytes n) - u.metaOf n fl.frame - fl.stored.length) ∧ y.lastPacket = t)

/-- The oldest statistics record due of a slot is written to its entry of the statistics ring, with the frame's counter,
epoch, flags and capture time, and the oldest fusion record due of a set to its entry of the record ring, with its tick,
target, status, missing members and member count; a write that no region of the slot's partition permits, or whose path in
the fabric is closed, is discarded. Nothing else of memory changes; the record is no longer due. The shaped header of a frame completes it: its buffer is
READY (HELD where a set has selected it) and its shaping is over. The commit window of a tick opens once, at the
meridian plus COMMIT_OFFSET: each running camera slot whose SETTINGS are new has them queued on its I²C controller,
to end at COMMIT_OFFSET + COMMIT_LENGTH. On a controller, an acknowledged transaction is followed by the next entry;
the acknowledged last one raises the slot's epoch by one, for the frame PIPELINE_DEPTH after the slot's latest FS;
one that is not acknowledged is repeated once, and then the commit has failed and the epoch stands. A RELEASE of a
READY or HELD buffer of the ring makes it FREE; an ACQUIRE of a READY buffer makes it HELD by the consumer. A RELEASE
of a FREE buffer has no effect. -/
def Obligations.FramesAreDelivered : Prop :=
  (∀ (s : State) (t : Nat), s.Inv → s.ingestRuns = true → let u := s.advance t
     (∀ (slot : Fin 48) (j : StatJob) (rest : List StatJob), let n := slot.val
       let a := u.numAt (Adr.statsAddr n) + j.frame.counter % max 1 (u.numAt (Adr.statsEntries n)) * 2048
       (s.slotAt n).stats = j :: rest →
       ∃ x, exec (.statisticsRecord t slot) s = .next x ∧ (x.slotAt n).stats = rest ∧
         (u.permitted (u.numAt (Adr.partition n)) true a 2048 = true → u.closedPath 1 (u.endpointOf a) true 0 = false →
           x.readMem a 8 = leBytes 4 j.frame.counter ++ leBytes 2 j.frame.epoch ++
             leBytes 2 (b2n j.dropped + 2 * b2n (bitAt j.frame.flags flTruncated) + 4 * b2n (bitAt j.frame.flags flLink)) ∧
           x.readMem (a + 8) 8 = leBytes 8 j.frame.capture) ∧
         ∀ y, (y < a ∨ a + 2048 ≤ y) → x.mem.cells.byte y = s.mem.cells.byte y) ∧
     (∀ (c : Fin 16) (g : Shaping) (rest : List Shaping) (f : Frame), (s.ctxAt c.val).pending = g :: rest →
       g.frame = some f → g.cfg.slot < 48 → g.buffer < (s.slotAt g.cfg.slot).buffers.length →
       (nth (s.slotAt g.cfg.slot).buffers g.buffer Buffer.zero).shapePending = true →
       ∃ x, exec (.shapedHeader t c) s = .next x ∧ (x.ctxAt c.val).pending = rest ∧
         let old := nth (s.slotAt g.cfg.slot).buffers g.buffer Buffer.zero
         let new := nth (x.slotAt g.cfg.slot).buffers g.buffer Buffer.zero
         new.shapePending = false ∧ new.state = (if old.state = .filling then .ready else old.state) ∧
           new.frame = old.frame ∧ (x.slotAt g.cfg.slot).lastHeader = frameHeader g.cfg.slot f) ∧
     (∀ (set : Fin 8) (d : FusionDraft) (rest : List FusionDraft), let f := set.val; let v := s.advanceCharged t
       let a := v.numAt (Adr.recordAddr f) + d.tick % max 1 (v.numAt (Adr.recordEntries f)) * 256
       (s.fusionAt f).drafts = d :: rest → v.draftReady d = true →
       ∃ x, exec (.fusionRecord t set) s = .next x ∧ (x.fusionAt f).drafts = rest ∧
         (x.fusionAt f).records.getLast? = some d ∧
         (∀ m ms, d.members = m :: ms → v.permitted (v.numAt (Adr.partition m.slot)) true a 256 = true →
           v.closedPath 1 (v.endpointOf a) true 0 = false →
           x.readMem a 32 = leBytes 8 d.tick ++ leBytes 8 (ofSigned 64 d.target) ++ leBytes 1 d.status ++ leBytes 1 d.missing ++
             leBytes 1 d.members.length ++ List.replicate 5 0 ++ leBytes 8 d.tick) ∧
         ∀ y, (y < a ∨ a + 256 ≤ y) → x.mem.cells.byte y = s.mem.cells.byte y)) ∧
  (∀ (s : State), s.Inv →
     (∀ torn : List (Fin 48), let due := s.tick.meridian + s.numAt Adr.commitOffset * 1000
       s.tick.gen ≠ .halted → s.tick.started = true → s.ingest.windowTick ≠ some s.tick.tick → s.ingestRuns = true →
       ∃ x, exec (.commitWindowOpen torn) s = .next x ∧ x.ingest.windowTick = some s.tick.tick ∧
         ∀ n, n < 48 → (s.slotAt n).running = true → s.numAt (Adr.sourceKind n) = 0 →
           s.numAt (Adr.settingsSource n) = 0 → (s.slotAt n).settingsNew = true →
           s.numAt (Adr.i2cController n) < s.ingest.i2c.length →
           (x.slotAt n).settingsNew = false ∧
           ∃ c, c ∈ nth x.ingest.i2c (s.numAt (Adr.i2cController n)) [] ∧ c.slot = n ∧
             c.entries = groupsOf 8 (s.bytesAt (Adr.settings n)) ∧ c.repeated = false ∧
             c.windowEnd = due + s.numAt Adr.commitLength * 1000) ∧
     (∀ (t : Nat) (ctrl : Fin 8) (c : Commit) (rest : List Commit) (e : Bytes) (es : List Bytes), let u := s.advance t
       ctrl.val < s.ingest.i2c.length → nth s.ingest.i2c ctrl.val [] = c :: rest → c.entries = e :: es → c.slot < 48 →
       (es ≠ [] → ∃ x, exec (.i2cTransactionDone t ctrl true) s = .next x ∧
         nth x.ingest.i2c ctrl.val [] = { c with entries := es, repeated := false } :: rest ∧
         x.sent = u.sent ++ [.i2c ctrl.val (field (es.headD []) 0 1 % 128) (settingBytes (es.headD []))]) ∧
       (es = [] → (s.slotAt c.slot).first = false → ∃ x, exec (.i2cTransactionDone t ctrl true) s = .next x ∧
         nth x.ingest.i2c ctrl.val [] = rest ∧
         x.numAt (Adr.epoch c.slot) = (s.numAt (Adr.epoch c.slot) + 1) % 65536 ∧
         x.numAt (Adr.epochFrame c.slot) =
           ((s.slotAt c.slot).lastFsCounter + s.numAt (Adr.pipelineDepth c.slot)) % 2 ^ 32) ∧
       (c.repeated = false → ∃ x, exec (.i2cTransactionDone t ctrl false) s = .next x ∧
         nth x.ingest.i2c ctrl.val [] = { c with repeated := true } :: rest ∧
         x.sent = u.sent ++ [.i2c ctrl.val (field e 0 1 % 128) (settingBytes e)] ∧
         x.valAt (Adr.epoch c.slot) = s.valAt (Adr.epoch c.slot)) ∧
       (c.repeated = true → ∃ x, exec (.i2cTransactionDone t ctrl false) s = .next x ∧
         nth x.ingest.i2c ctrl.val [] = rest ∧
         (x.slotAt c.slot).uncertain = some (s.numAt (Adr.epoch c.slot)) ∧
         x.valAt (Adr.epoch c.slot) = s.valAt (Adr.epoch c.slot)))) ∧
  (∀ (s : State) (r : Req) (slot : Fin 48) (b : Buffer), s.Inv → let n := slot.val; let h := s.heard r.t r.port r.sender
     (let i := (writeValue (Adr.release n) r.payload).toNat
      s.grants r (Adr.release n) → (h.slotAt n).buffers[i]? = some b → i < h.numAt (Adr.ringBuffers n) →
      (b.state = .ready ∨ b.state = .held →
        ∃ x, exec (.release r slot) s = .next x ∧ (nth (x.slotAt n).buffers i Buffer.zero).state = .free ∧
          ∀ k, k ≠ i → nth (x.slotAt n).buffers k Buffer.zero = nth (h.slotAt n).buffers k Buffer.zero) ∧
      (b.state = .free → exec (.release r slot) s = .next (h.answered r.port (h.routeOf r.port r.sender) 2 r.seq (Adr.release n) 0 []))) ∧
     (let i := (writeValue (Adr.acquire n) r.payload).toNat
      s.grants r (Adr.acquire n) → (h.slotAt n).buffers[i]? = some b → i < h.numAt (Adr.ringBuffers n) →
      b.state = .ready →
        ∃ x, exec (.acquire r slot) s = .next x ∧
          nth (x.slotAt n).buffers i Buffer.zero = { b with state := .held, holder := .consumer } ∧
          ∀ k, k ≠ i → nth (x.slotAt n).buffers k Buffer.zero = nth (h.slotAt n).buffers k Buffer.zero))

/-- The checksum lane of an integer pass. A vector computed without a fault never fails its comparison, whatever the
data: from a first tile, and from every later tile whose incoming accumulators sum to the incoming C word modulo
2^32; its own accumulators sum to its own C word again, so this holds along a whole reduction. A fault on one column
of a vector, or on its checksum lane, that changes its 32-bit result, and no other fault of that vector, makes
exactly this vector fail. -/
def Obligations.IntegerChecksumFindsFaults : Prop :=
  ∀ (profile bound gang m : Nat) (p : ImagePass) (w : Tile) (op : PassOp) (prev : AccVec) (vec : List Nat),
    (firstTile p gang = true ∨ (prev.out.length = 128 ∧ sumNat prev.out % 2 ^ 32 = prev.c)) →
    let v := intVector p w gang m prev vec
    v.out.length = 128 ∧ sumNat v.out % 2 ^ 32 = v.c ∧ compareVector profile false bound v = .equal ∧
      ((∀ f, f ∈ op.faults → f.vector ≠ m) → withFaults op m v = v) ∧
      (∀ f : LaneFault, op.faults.filter (fun g => g.vector == m) = [f] → f.column ≤ 128 → 0 < f.mask → f.mask < 2 ^ 32 →
        compareVector profile false bound (withFaults op m v) = .fails)

/-- A pass of the running job's image on its array. Its transfers bring their bytes in first, and take theirs out last.
Where no read of the operand store meets an uncorrectable error and every comparison holds (or is skipped): PASSES goes up
by one, VECTORS by the number of activation vectors, ACTIVE_CELL_CYCLES by 16384 for each; the cells hold the tile of the
pass; the operand store holds, at the place of each vector, its accumulators with C and G before the last K tile, and the
rescaled outputs after it; no fault is detected, and device memory and the fabric are untouched meanwhile. A combining
pass of integers writes the sums modulo 2^32 of the partial sums that the arrays of the gang hold. The job has then
reached the next pass of its image, and the capacity procedure runs. -/
def Obligations.PassComputesOutputs : Prop :=
  ∀ (s : State) (a : Fin 8) (op : PassOp) (q : Nat) (j : Job) (p : ImagePass), s.Inv →
    let u := s.advanceCharged op.t; let n := a.val; let profile := u.profileOf j; let gang := j.arrays.length
    let loaded := State.moves (fun s m => s.moveIn n q j m) u p.loads; let g := loaded.state
    let store := (g.arrAt n).store; let w := tileOf p store
    let all := passVectors profile p w gang op store
    let bound := if p.relBound = 0 then g.numAt Adr.checkRelBoundDefault else p.relBound
    let written (vs : List AccVec) : Memory := (p.vectors.zip vs).foldl (fun (m : Memory) e =>
      (m.write e.1.out (southBytes profile p e.2)).keep (fun k => k < storeBytes)) store
    let ends (y : State) : Prop := exec (.pass a op) s = .next
      (((State.moves (fun s m => s.moveOut n q j m) y p.stores).state.setJob q j.submitSeq
        (fun k => { k with offset := max k.offset (op.passIndex + 1) })).dispatch)
    u.passOn n op = some (q, j, p) → loaded.ok = true →
    (p.combine = false → (∀ r, r ∈ passReads p gang → wordsIn g.mem.opUe n r.1 r.2 = []) →
      (∀ v, v ∈ all → compareVector profile (isFloat p.actFmt) bound v ≠ .fails) →
      ∃ y : State, ends y ∧
        y.numAt (Adr.passes n) = (g.numAt (Adr.passes n) + 1) % 2 ^ 64 ∧
        y.numAt (Adr.vectors n) = (g.numAt (Adr.vectors n) + p.vectors.length) % 2 ^ 64 ∧
        y.numAt (Adr.activeCellCycles n) = (g.numAt (Adr.activeCellCycles n) + 16384 * p.vectors.length) % 2 ^ 64 ∧
        (y.arrAt n).valid = true ∧ (y.arrAt n).working = some w ∧ (y.arrAt n).store = written all ∧
        (∀ b, b ≠ n → y.arrAt b = g.arrAt b) ∧
        y.queues = g.queues ∧ y.mem.cells = g.mem.cells ∧ y.fabric = g.fabric ∧ y.bin = g.bin ∧ y.log = g.log) ∧
    (p.combine = true → isFloat p.actFmt = false →
      let sum (get : AccVec → Nat) (v : VectorAt) : Nat :=
        sumNat (j.arrays.map (fun b => get (readAcc ((g.arrAt b).store.read v.acc 576)))) % 2 ^ 32
      ∃ y : State, ends y ∧
        (y.arrAt n).store = written (p.vectors.map (fun v =>
          { out := (List.range 128).map (fun i => sum (fun w => nth w.out i 0) v), c := sum (·.c) v, g := sum (·.g) v })) ∧
        y.queues = g.queues ∧ y.mem.cells = g.mem.cells ∧ y.fabric = g.fabric ∧ y.bin = g.bin ∧ y.log = g.log)

/-- A vector operation of the job on an array, whose formats and unit the part has, and whose operands meet no
uncorrectable error: the destination, in the operand store or in the lane registers, holds one result for each element; in
each lane a sum, a product or a multiply-add of the operands as they were loaded, rounded once to FP32 under the job's
profile; what stands in the operand store is converted to the store format. No other array changes. (The formulas of
normalisations and optimiser steps are not stated by the manual: their results are open functions of their operands, log
8.) An indexed gather of a running job whose accesses are permitted and whose paths are open, to a destination apart from
the table: row i of the destination reads as the table row that index i names, or as zeros where the index lies at or
beyond the row count; each such index is counted in GW_INDEX_RANGE, and the job goes on. Every byte outside the
destination reads as before. Segment i of a reduce reads after it as the reduction of the elements between its offsets
(for INT32 sums: their sum modulo 2^32). An atomic add into the chart store leaves each element it names with the
contributions to it added, in arrival order, or in replay mode as one tree sum over ascending source position; for INT32
that is their sum modulo 2^32 in both modes. Contributions at or beyond the element count are discarded and counted in
GW_INDEX_RANGE. Every byte outside the destination reads as before. (An atomic add elsewhere adds nothing: log 35.) -/
def Obligations.UnitsCompute : Prop :=
  (∀ (s : State) (a : Fin 8) (op : VecOp) (q : Nat) (j : Job),
     let u := s.advanceCharged op.t; let n := a.val; let profile := u.profileOf j
     let ld (p : VecPlace) (i : Nat) : Fp := nth ((u.arrAt n).vector profile op.loadFmt op.count p) i Fp.zero
     let holds (x : State) (f : Nat → Fp) : Prop :=
       x.arrAt n = (u.putVector n op.storeFmt op.dest ((List.range op.count).map f)).arrAt n
     u.jobOn n = some (q, j) → vecPresent op u.part.variant = true →
     (∀ r, r ∈ vecReads op → wordsIn u.mem.opUe n r.1 r.2 = []) →
     ∃ x, exec (.vectorOp a op) s = .next x ∧ (∀ k, k ≠ n → x.arrAt k = u.arrAt k) ∧
       x.queues = u.queues ∧ x.mem.cells = u.mem.cells ∧ x.fabric = u.fabric ∧ x.bin = u.bin ∧ x.log = u.log ∧
       (op.kind = .add → holds x (fun i => addFp32 profile (ld op.x i) (ld op.y i))) ∧
       (op.kind = .mul → holds x (fun i => mulFp32 profile (ld op.x i) (ld op.y i))) ∧
       (op.kind = .fma → holds x (fun i => roundFp32 profile (fmaFp32 profile (ld op.z i) (ld op.x i) (ld op.y i))))) ∧
  (∀ (s : State) (q : Fin 32) (op : GatherOp) (j : Job), s.Inv →
     let u := s.advanceCharged op.t; let p := u.partOf q.val; let w := op.rowBytes
     u.jobRunning q.val = some j → u.mem.ue = [] → (∀ d, u.closedPath 19 d true 0 = false) → 0 < w →
     (∀ i idx, op.indices[i]? = some idx → u.permitted p true (op.dest + i * w) w = true ∧
       (idx < op.rows → u.permitted p false (op.table + idx * w) w = true)) →
     (op.table + op.rows * w ≤ op.dest ∨ op.dest + op.indices.length * w ≤ op.table) →
     ∃ y : State, exec (.indexedGather q op) s = .next y.dispatch ∧
       (∀ i idx, op.indices[i]? = some idx → y.readMem (op.dest + i * w) w =
         if idx < op.rows then u.readMem (op.table + idx * w) w else zeros w) ∧
       (∀ x, (x < op.dest ∨ op.dest + op.indices.length * w ≤ x) → y.mem.cells.byte x = s.mem.cells.byte x) ∧
       y.numAt Adr.gwIndexRange =
         (u.numAt Adr.gwIndexRange + countIf (fun i => op.rows ≤ i) op.indices) % 2 ^ 64 ∧ y.queues = u.queues) ∧
  (∀ (s : State) (q : Fin 32) (j : Job), s.Inv →
     (∀ op : SegmentOp, let u := s.advanceCharged op.t; let p := u.partOf q.val
       u.jobRunning q.val = some j → u.mem.ue = [] → (∀ d, u.closedPath 19 d true 0 = false) →
       (∀ i, i + 1 < op.offsets.length → u.permitted p true (op.dest + 4 * i) 4 = true) →
       u.permitted p false op.src (4 * op.count) = true →
       (op.src + 4 * op.count ≤ op.dest ∨ op.dest + 4 * op.offsets.length ≤ op.src) →
       ∃ y : State, exec (.segmentReduce q op) s = .next y.dispatch ∧
         (∀ i a b, op.offsets[i]? = some a → op.offsets[i + 1]? = some b →
           let xs := (List.range (min b op.count - a)).map (fun k => u.readNum (op.src + 4 * (a + k)) 4)
           (∃ hole, y.readNum (op.dest + 4 * i) 4 =
             reduceSegment (u.profileOf j) (u.replayTrees j) op.kind op.elem hole xs % 2 ^ 32) ∧
           (op.kind = .sum → op.elem = .int32 → y.readNum (op.dest + 4 * i) 4 = sumNat xs % 2 ^ 32)) ∧
         (∀ x, (x < op.dest ∨ op.dest + 4 * (op.offsets.length - 1) ≤ x) →
           y.mem.cells.byte x = s.mem.cells.byte x)) ∧
     (∀ op : AtomicOp, let u := s.advanceCharged op.t; let p := u.partOf q.val
       let inside := op.contributions.filter (fun c => c.index < op.count)
       u.jobRunning q.val = some j →
       (atomicInChart op u.part.variant = false → exec (.atomicAdd q op) s = .next u) ∧
       (atomicInChart op u.part.variant = true → u.mem.ue = [] → (∀ d, u.closedPath 19 d true 0 = false) →
         (∀ c, c ∈ inside →
           u.permitted p false (op.base + 4 * c.index) 4 = true ∧ u.permitted p true (op.base + 4 * c.index) 4 = true) →
         ∃ y : State, exec (.atomicAdd q op) s = .next y.dispatch ∧
           (∀ i, i < op.count →
             let ofI (cs : List Contribution) : List Nat := (cs.filter (fun c => c.index == i)).map (·.value)
             let old := u.readNum (op.base + 4 * i) 4
             let add := addElem (u.profileOf j) op.elem
             (j.replay = false → y.readNum (op.base + 4 * i) 4 = (ofI inside).foldl (fun x c => add x c % 2 ^ 32) old) ∧
             (j.replay = true → ofI inside ≠ [] → y.readNum (op.base + 4 * i) 4 =
               add old (treeElem (u.profileOf j) (u.replayOf j) op.elem (ofI (byPosition inside))) % 2 ^ 32) ∧
             (op.elem = .int32 → y.readNum (op.base + 4 * i) 4 = (old + sumNat (ofI inside)) % 2 ^ 32)) ∧
           y.numAt Adr.gwIndexRange =
             (u.numAt Adr.gwIndexRange + countIf (fun c => op.count ≤ c.index) op.contributions) % 2 ^ 64 ∧
           (∀ x, (x < op.base ∨ op.base + 4 * op.count ≤ x) → y.mem.cells.byte x = s.mem.cells.byte x))))

/-- A JOB descriptor whose fetch is due is read from its entry of the submission ring and becomes the newest item of its
queue, under the queue's next submission number and with the descriptor's tag. A full queue refuses it with
REFUSED_QUEUE_FULL; a malformed descriptor, an image that is not aligned, not readable or not well formed in its header,
and one that does not lie in a region of the partition, with REFUSED_IMAGE; an absent format with REFUSED_ABSENT, in this
order; where all admission checks hold it is admitted and waits. (The capacity procedure then runs.) -/
def Obligations.JobIsAdmittedOrRefused : Prop :=
  ∀ (s : State) (t : Nat) (q : Fin 32) (desc : Bytes) (body : ImageBody),
    let u := s.advanceCharged t; let n := q.val; let k := (u.queueAt n).fetched; let seq := (u.queueAt n).submitted
    let image := field desc 8 8; let p := u.partOf n; let v := u.part.variant
    let full := u.numAt (Adr.queueDepth n) ≤ ((u.queueAt n).jobs.filter (fun i => i.ended.isNone)).length
    let header := parseImage (u.readMem image 128)
    let readable := u.permitted p false image 128 = true ∧
      (header.isSome → u.permitted p false image (128 + field (u.readMem image 128) 56 8) = true)
    s.Inv → u.fetchDue n = true → u.job? n seq = none → field desc 25 1 = 0 → u.mem.ue = [] →
    (¬ full → (readDescriptor desc k).wellFormed = true → image % 256 = 0 → ¬ readable →
      ∃ y : State, exec (.job t q desc body) s = .next y.dispatch ∧ y.endedAs n seq 0x14 0) ∧
    ((full ∨ (readDescriptor desc k).wellFormed = false ∨ image % 256 ≠ 0 ∨ readable) →
    ∃ (y : State) (j : Job), exec (.job t q desc body) s = .next y.dispatch ∧
      (y.queueAt n).fetched = (k + 1) % 2 ^ 32 ∧ (y.queueAt n).submitted = (seq + 1) % 2 ^ 32 ∧
      (y.queueAt n).jobs = (u.queueAt n).jobs ++ [j] ∧ j.tag = field desc 0 8 ∧ j.submitSeq = seq ∧ j.ringIndex = k ∧
      y.sent = u.sent ++ [.hostRead (.queue n) ((u.queueAt n).sqBase + k % (u.queueAt n).size * 64) 64 false] ∧
      (full → y.endedAs n seq 0x11 0) ∧
      (¬ full → (readDescriptor desc k).wellFormed = false ∨ image % 256 ≠ 0 ∨ header = none → y.endedAs n seq 0x14 0) ∧
      (∀ h, ¬ full → (readDescriptor desc k).wellFormed = true → image % 256 = 0 → header = some h →
        body.passes.all passOk = true → (h.cls = 1 ∨ bitAt h.flags 2 = true → p ≠ 0) →
        let present := (imageFormats h body).all (hasFormat v) = true ∧ (bitAt h.flags 2 = true ∨ body.training = true →
          v.training = true) ∧ h.arrays ≤ v.arrays
        (¬ present → y.endedAs n seq 0x12 0) ∧
        (present → (bitAt h.flags 0 = true → almanacsMatch h.almanac u.almanacEffective = true) →
          (∀ i : Job, i.budget = h.budget → i.arraysNeeded = h.arrays → i.background = (h.cls == 1) →
            u.budgetCause n i (field desc 16 8) false = none) →
          j.ended = none ∧ j.phase = .waiting ∧ j.budget = h.budget ∧ j.arraysNeeded = h.arrays ∧
            j.background = (h.cls == 1) ∧ j.replay = bitAt h.flags 0)))

/-- A running job that has been asked to stop reaches its next waypoint, once its guard step is over, and begins to save
its context; but for the stop at the housekeeping mark this counts as a pre-emption, in the job and in PREEMPTIONS of its
partition. A P0 job that was not finished at the mark ends with ABORTED_FAULT, DEADLINE_MISS. One that reaches no waypoint
within WAYPOINT_TIMEOUT of the request is stopped at once, counted in WAYPOINTS_OVERDUE, and ends with ABORTED_FAULT,
WAYPOINT_OVERDUE. Once the context of a stopped job is saved, its arrays are handed on; the job is SAVED, or PARKED
where its queue holds an unresolved translation fault. The context area of each array of the gang then holds the first
CONTEXT_BYTES of its operand store (log 33), and of memory nothing else changes. Once the context is restored each operand
store begins with the bytes of its context area again, and the job runs on, with memory unchanged. -/
def Obligations.PreemptionSavesContext : Prop :=
  (∀ (s : State) (t : Nat) (q : Fin 32) (j : Job), let n := q.val; let seq := j.submitSeq
     s.Inv →
     (let u := s.advanceCharged t; let p := u.partOf n
      u.running? n = some j → u.job? n seq = some j → j.phase = .running → j.guard = none →
      (j.stop = .preempt ∨ j.stop = .park → ∃ x, exec (.waypoint t q) s = .next x ∧
        x.job? n seq = some { j with phase := .saving, preempts := j.preempts + 1 } ∧
        x.numAt (Adr.preemptions p) = (u.numAt (Adr.preemptions p) + 1) % 2 ^ 64 ∧ x.arrs = u.arrs) ∧
      (j.stop = .housekeeping → ∃ x, exec (.waypoint t q) s = .next x ∧
        x.job? n seq = some { j with phase := .saving } ∧ x.dict = u.dict ∧ x.arrs = u.arrs) ∧
      (j.stop = .deadline → ∃ y : State, exec (.waypoint t q) s = .next y.dispatch ∧ y.endedAs n seq 0x20 0x13)) ∧
     (let u := s.advanceCharged (j.stopAt + s.numAt Adr.waypointTimeout * 1000); let p := u.partOf n
      s.running? n = some j → s.job? n seq = some j → j.phase = .running → j.stop ≠ .none → s.nextGuard = none →
      ∃ y : State, exec (.waypointTimeout q) s = .next y.dispatch ∧
        y.numAt (Adr.waypointsOverdue p) = (u.numAt (Adr.waypointsOverdue p) + 1) % 2 ^ 64 ∧
        y.endedAs n seq 0x20 (if j.stop = .deadline then 0x13 else 0x14))) ∧
  (∀ (s : State) (t : Nat) (q : Fin 32) (j : Job), let n := q.val; let seq := j.submitSeq
     let u := s.advanceCharged t; let p := u.partOf n
     s.Inv → u.running? n = some j → u.job? n seq = some j → u.mem.ue = [] → u.mem.opUe = [] →
     (∀ e d, u.closedPath e d true 0 = false) → (∀ x, x ∈ u.arrs → Memory.wf x.store = true) →
     j.arrays.Nodup → (∀ a, a ∈ j.arrays → a < 8) → 0 < j.contextBytes → j.contextBytes ≤ 2097152 →
     (∀ k, k < j.arrays.length → u.permitted p true (u.contextAt n k) j.contextBytes = true ∧
       u.permitted p false (u.contextAt n k) j.contextBytes = true) →
     (j.phase = .saving → j.stop ≠ .deadline →
       ∃ (y : State) (k : Job), exec (.contextSaveDone t q) s = .next y.dispatch ∧ y.job? n seq = some k ∧
         (∀ x, x ∈ y.arrs → x.job ≠ some (n, seq)) ∧ k.stop = .none ∧
         (∀ i a, j.arrays[i]? = some a →
           y.readMem (u.contextAt n i) j.contextBytes = (u.arrAt a).store.read 0 j.contextBytes) ∧
         (∀ x, (∀ i, i < j.arrays.length → x < u.contextAt n i ∨ u.contextAt n i + j.contextBytes ≤ x) →
           y.mem.cells.byte x = s.mem.cells.byte x) ∧
         ((u.queueAt n).fault = none → k.phase = .saved ∧ k.ended = none) ∧
         (∀ f, (u.queueAt n).fault = some f → f.resolve = 0 → k.phase = .parked ∧ k.parkedFor = 0 ∧ k.ended = none ∧
           ((u.queueAt n).state ≠ .halted → (y.queueAt n).state = .parked))) ∧
     (j.phase = .restoring →
       ∃ y : State, exec (.contextRestoreDone t q) s = .next y.dispatch ∧
         y.job? n seq = some { j with phase := .running } ∧ y.mem.cells = s.mem.cells ∧
         ∀ i a, j.arrays[i]? = some a →
           (y.arrAt a).store.read 0 j.contextBytes = u.readMem (u.contextAt n i) j.contextBytes)) ∧
  (∀ (s : State) (t : Nat) (q : Fin 32) (j : Job), let n := q.val; let seq := j.submitSeq; let u := s.advanceCharged t
     u.running? n = some j → u.job? n seq = some j → j.contextBytes = 0 →
     (j.phase = .saving → j.stop ≠ .deadline → (u.queueAt n).fault = none →
       ∃ y : State, exec (.contextSaveDone t q) s = .next y.dispatch ∧ y.mem = u.mem ∧
         y.job? n seq = some { j with phase := .saved, stop := .none } ∧ (∀ x, x ∈ y.arrs → x.job ≠ some (n, seq))) ∧
     (j.phase = .restoring →
       ∃ y : State, exec (.contextRestoreDone t q) s = .next y.dispatch ∧ y.mem = u.mem ∧
         y.job? n seq = some { j with phase := .running } ∧ y.arrs = u.arrs))

/-- A running job that finishes ends SERVED, or PREEMPTED after pre-emptions, where it is a background job, was not
carried, or ends in its due tick; else SERVED_LATE where it started in its due tick and DELAYED where it did not,
with the cause decided when it was first carried. It gives up its arrays, and JOBS_ENDED of its partition counts it.
A job that a meridian would carry beyond CARRY_LIMIT ends with REFUSED_BUDGET in the tick just closed, with cause
CARRY_LIMIT where it is parked or no tick carried it (log 34). QUEUE_ABORT
ends every item of its queue that has not ended with ABORTED_OWNER, QUEUE_ABORT. The first record of a queue is
written once it is due, and its item leaves the queue: that of a standing queue to its ring of 16 in device memory,
any other to the completion ring in host memory at CQ_BASE, entry (ring index mod ring size), with the queue's vector
after it; for a posted-ordered queue a sweep of the bulk numbering to HOST goes before it, and where that numbering is
closed the item, if it had ended served, ends with ABORTED_FAULT, FABRIC, instead. Each record is 64 bytes. -/
def Obligations.JobsEndOnce : Prop :=
  (∀ (s : State) (q : Fin 32), let n := q.val
     s.Inv →
     (∀ (t : Nat) (j : Job), let u := s.advanceCharged t; let p := u.partOf n
       u.running? n = some j → u.job? n j.submitSeq = some j → j.phase = .running → j.guard = none → j.transfer = false →
       (u.queueAt n).fault = none → j.stop ≠ .deadline →
       let inTime := j.background = true ∨ j.due = u.tick.tick ∨ j.carry = 0
       ∃ y : State, exec (.jobEnd t q) s = .next y.dispatch ∧
         y.numAt (Adr.jobsEnded p) = (u.numAt (Adr.jobsEnded p) + 1) % 2 ^ 64 ∧
         (inTime → y.endedAs n j.submitSeq (if j.preempts = 0 then 0x00 else 0x01) 0) ∧
         (¬ inTime → y.endedAs n j.submitSeq (if j.started = some j.due then 0x02 else 0x03) j.carryCause)) ∧
     (∀ j : Job, (s.queueAt n).jobs.find? s.overLimit = some j → s.job? n j.submitSeq = some j →
       ∃ y : State, exec (.carryLimit q) s = .next y.dispatch ∧
         y.endedAs n j.submitSeq 0x10 (if j.phase = .parked ∨ j.carry = 0 then 5 else j.carryCause) ∧
         ∀ k e, y.job? n j.submitSeq = some k → k.ended = some e → e.tick = s.tick.tick - 1) ∧
     (∀ r : Req, let h := s.heard r.t r.port r.sender
       s.grants r (Adr.queueAbort n) → ((h.queueAt n).jobs.map (·.submitSeq)).Nodup →
       ∃ y : State, exec (.queueAbort r q) s = .next (y.dispatch.answered r.port (h.routeOf r.port r.sender) 2 r.seq (Adr.queueAbort n) 0 []) ∧
         (∀ j, j ∈ (h.queueAt n).jobs → j.ended = none → y.endedAs n j.submitSeq 0x21 0x18) ∧
         (∀ j, j ∈ (h.queueAt n).jobs → j.ended ≠ none → j ∈ (y.queueAt n).jobs) ∧
         (∀ m, m ≠ n → y.queueAt m = h.queueAt m))) ∧
  (∀ (s : State) (t : Nat) (q : Fin 32) (j : Job) (rest : List Job) (e : Ended), let n := q.val; let u := s.advance t
     s.Inv → (u.queueAt n).jobs = j :: rest → j.ended = some e → u.recordDue n j = true →
     (j.standing = true → u.mem.ue = [] →
       let a := u.numAt (Adr.standingRecordAddr n) + j.submitSeq % 16 * 64
       u.permitted (u.partOf n) true a 64 = true →
       ∃ x, exec (.completionRecord t q) s = .next x ∧ (x.queueAt n).jobs = rest ∧
         x.readMem a 64 = u.recordBytes n j e 16 ∧ (u.recordBytes n j e 16).length = 64 ∧ x.sent = u.sent ∧
         ∀ y, (y < a ∨ a + 64 ≤ y) → x.mem.cells.byte y = s.mem.cells.byte y) ∧
     (j.standing = false → u.job? n j.submitSeq = some j → let size := 2 ^ (u.queueAt n).log2
       let relaxed := (u.queueAt n).relaxed && j.kind != 2
       let lost := !(u.queueAt n).relaxed && u.closedPath 22 4 true 0 && servedStatus e.status
       let e' : Ended := if lost then { e with
         status := 0x20, cause := 0x15, outputValid := false, isPartial := j.workStarted 0x15 } else e
       ∃ x vector, exec (.completionRecord t q) s = .next x ∧ (x.queueAt n).jobs = rest ∧
         ((u.queueAt n).relaxed = false → u.closedPath 22 4 true 0 = false →
           x.numAt (Adr.sweeps 22) = (u.numAt (Adr.sweeps 22) + 1) % 2 ^ 64) ∧
         x.sent = u.sent ++ .hostWrite ((u.queueAt n).cqBase + j.ringIndex % size * 64) (u.recordBytes n j e' size)
           relaxed false :: vector ∧ (vector = [] ∨ ∃ addr data, vector = [.msix n addr data]) ∧ x.mem = s.mem))

/-- At the housekeeping mark the running job of a queue of P1 to P3 is asked to stop, a P0 job that is not finished
has missed its deadline, which is detected as a fault, and every powered array that is not HELD_FAULT, and runs no check
tile of a warm reset, owes its check tile. The check tile of a vacated array that owes it runs and is counted, and so is
the bank swap at the handover; it passes when its signature equals the
golden one and the forced mismatch was seen, and the array is IDLE. A failure is detected as a fault, and the array
is HELD_FAULT, waiting for its localisation. Localisation starts on an array that is HELD_FAULT without a verdict,
and is counted. Its verdict is kept for the array: COLUMN (1), LANE (2) and OTHER (3) leave the array HELD_FAULT;
only UNLOCALISED (4) gives a powered array back as IDLE. The capacity procedure takes no array from a job: at a slot
boundary, and when a share runs out, the job on an array stays there, in its phase; only a request to stop may reach
it. When a share runs out it reads 0. A job that waits alone is started at a slot boundary, on the lowest array of
its queue where that array is free, in the present tick. -/
def Obligations.HousekeepingTestsArrays : Prop :=
  (∀ (s : State) (h : Nat), s.Inv → s.hkMark = some h → s.tick.marked = false → let u := s.advanceCharged h
     ∃ x, exec .housekeepingMark s = .next x ∧
       (∀ a, a < 8 → (u.arrAt a).powered = true → (u.arrAt a).state ≠ .heldFault → (u.arrAt a).tile ≠ .running →
         (x.arrAt a).tile = .due) ∧
       (∀ q j, q < 32 → s.bin.dispatcherRef = 0 → u.running? q = some j → u.job? q j.submitSeq = some j → j.kind = 0 →
         ∃ k, x.job? q j.submitSeq = some k ∧ k.phase = j.phase ∧ k.ended = none ∧
           (u.partOf q ≠ 0 → k.stop = if j.stop = .none then .housekeeping else j.stop) ∧
           (u.partOf q = 0 → k.stop = .deadline ∧ s.tick.faults < x.tick.faults))) ∧
  (∀ (s : State) (t : Nat) (a : Fin 8), s.Inv → let u := s.advanceCharged t; let n := a.val
     ((u.arrAt n).tile = .due → (u.arrAt n).job = none → (u.arrAt n).state = .idle →
       ∃ x, exec (.checkTile t a) s = .next x ∧
         x.arrAt n = { u.arrAt n with tile := .running, state := .housekeeping, swapFirst := true } ∧
         x.numAt (Adr.checkTileRuns n) = (u.numAt (Adr.checkTileRuns n) + 1) % 2 ^ 64 ∧
         x.numAt (Adr.swapsBank n) = (u.numAt (Adr.swapsBank n) + 1) % 2 ^ 64 ∧ x.queues = u.queues) ∧
     ((u.arrAt n).tile = .running →
       (∃ y : State, exec (.checkTileResult t a true true) s = .next y.dispatch ∧
         y.arrAt n = { u.arrAt n with tile := .passed, state := .idle } ∧ y.log = u.log ∧ y.bin = u.bin) ∧
       (∀ ok seen, (ok && seen) = false → ∃ x, exec (.checkTileResult t a ok seen) s = .next x ∧
         x.arrAt n = { u.arrAt n with tile := .failed, state := .heldFault, localising := false, verdict := 0 } ∧
         x.tick.faults = u.tick.faults + 1))) ∧
  (∀ (s : State) (t : Nat) (a : Fin 8), s.Inv → let u := s.advanceCharged t; let n := a.val
     ((u.arrAt n).state = .heldFault → (u.arrAt n).localising = false → (u.arrAt n).verdict = 0 →
       ∃ x, exec (.localisation t a) s = .next x ∧ x.arrAt n = { u.arrAt n with localising := true } ∧
         x.numAt (Adr.localisations n) = (u.numAt (Adr.localisations n) + 1) % 2 ^ 64) ∧
     (∀ v : Verdict, (u.arrAt n).localising = true →
       ∃ y : State, exec (.localisationVerdict t a v) s = .next (y.giveVerdict n (verdictCode v)).dispatch ∧
         (y.arrAt n).localising = false ∧
         (y.arrAt n).verdict = verdictCode v ∧ 1 ≤ verdictCode v ∧ verdictCode v ≤ 4 ∧
         y.numAt (Adr.localiseVerdict n) = verdictCode v ∧
         (v ≠ .unlocalised → (y.arrAt n).state = .heldFault) ∧
         (v = .unlocalised → (u.arrAt n).powered = true → (y.arrAt n).state = .idle))) ∧
  (∀ (s : State), s.Inv →
     let kept (u x : State) : Prop := ∀ a q j, a < 8 → u.holder? a = some (q, j) → u.head? q = some j →
       u.job? q j.submitSeq = some j → j.active = true → j.readyAt.isSome →
       ∃ k, x.holder? a = some (q, k) ∧ k.phase = j.phase ∧ k.ended = none
     (∀ t, ∃ x, exec (.slotBoundary t) s = .next x ∧ kept (s.advanceCharged t) x) ∧
     (∀ (a : Fin 8) (q : Nat) (j : Job), let left := s.shareLeft a.val (s.partOf q)
       let u := s.advanceCharged ((s.arrAt a.val).lastCharge + left)
       s.holder? a.val = some (q, j) → s.job? q j.submitSeq = some j → j.phase = .running → j.ended = none → 0 < left →
       s.dormant = false → s.nextGuard = none →
       ∃ x, exec (.shareExhausted a) s = .next x ∧ x.shareLeft a.val (s.partOf q) = 0 ∧ kept u x) ∧
     (∀ (t q a : Nat) (j : Job) (more : List Nat), let u := s.advanceCharged t
       u.dispatchOpen = true → q < 32 → (∀ k, k ≠ q → (u.queueAt k).jobs = []) → (u.queueAt q).jobs = [j] →
       u.waitingJob q = some j → j.phase = .waiting → u.almanacOk j = true → j.arraysNeeded = 1 → j.inputSet = 0xFF → u.partOf q < 4 →
       (j.background = false → u.nearMark (u.numAt Adr.dispatchGuard * 1000) = false) →
       u.queueArrays q = a :: more → u.arrayIdle a = true → (∀ b, b < 8 → (u.arrAt b).job = none) →
       ∃ x, exec (.slotBoundary t) s = .next x ∧ (x.arrAt a).job = some (q, j.submitSeq) ∧ (x.arrAt a).state = .busy ∧
         ∃ k, x.job? q j.submitSeq = some k ∧ k.phase = .running ∧ k.arrays = [a] ∧
           k.started = some u.tick.tick ∧ k.ended = none))

/-- The region check of an access. One in-force entry of the partition covers a permitted access with the right it
needs. A violating read gives zeros and a violating write is discarded; a permitted read without an error in place
gives the bytes of memory, a permitted write replaces exactly its bytes. A write of a whole block replaces an error
in it, a partial one leaves the error in place. An entry of a region table is in force exactly when it lies inside
the trained memory, or for the chart store's range inside the chart store; REGION_EFFECTIVE has exactly the bits of
the entries in force set. Before the first training (MEM_CAPACITY_MIB 0) no device-memory entry is in force. -/
def Obligations.RegionsGuardMemory : Prop :=
  (∀ (s : State) (p a : Nat) (bs : Bytes),
     (∀ write k, s.permitted p write a k = true →
       ∃ r, r ∈ s.regionsInForce p ∧ r.base ≤ a ∧ a + k ≤ r.limit ∧ (if write then r.writable else r.readable) = true) ∧
     (∀ k, s.permitted p false a k = false → s.load p a k = (zeros k, Met.refused)) ∧
     (∀ k, s.permitted p false a k = true → s.ueIn a k = [] → s.load p a k =
       (s.readMem a k, { violation := false, bad := [], corrected := granulesIn s.mem.ce a k })) ∧
     (s.permitted p true a bs.length = false → s.store p a bs = (s, Met.refused)) ∧
     (s.permitted p true a bs.length = true →
       (Memory.wf s.mem.cells = true → (s.store p a bs).1.readMem a bs.length = bs ∧
         ∀ x, x < a ∨ a + bs.length ≤ x → (s.store p a bs).1.mem.cells.byte x = s.mem.cells.byte x) ∧
       (∀ e, e ∈ (s.store p a bs).1.mem.ue ↔ e ∈ s.mem.ue ∧ ¬ (a ≤ e ∧ e + granule e ≤ a + bs.length)))) ∧
  (∀ (s : State) (p : Nat),
     (∀ r : Region, r.inChart = false → (s.regionInForce r = true ↔ r.limit ≤ s.numAt Adr.memCapacityMib * 1048576)) ∧
     (∀ r : Region, r.inChart = true → (s.regionInForce r = true ↔ r.limit ≤ chartBase + s.part.variant.chartKib * 1024)) ∧
     (∀ k r, (s.regions p)[k]? = some r → bitAt (s.regionEffective p) k = s.regionInForce r) ∧
     (∀ k, (s.regions p).length ≤ k → bitAt (s.regionEffective p) k = false) ∧
     (s.numAt Adr.memCapacityMib = 0 → ∀ r, r ∈ s.regionsInForce p → 0 < r.pages → r.inChart = true))

/-- A scrub read of a scrubbed address: a clean one has no effect; a correctable error is counted and has no other
effect; an uncorrectable error is counted and stays in place; the end of a pass is counted. In an operand store a
correctable error is counted; an uncorrectable one stays in place, and the job that holds the array ends with
ABORTED_FAULT, ECC. An accepted TLB_INVALIDATE discards exactly the cached translations in its scope: all; those of
one partition; or those of one partition whose page holds the named one. Its response is not sent yet, and keeps its
place among those of its port. The oldest invalidation is done once no request through a translation in its scope is
outstanding; what was cached in its scope since is discarded too, and only then its response is sent, or, for one of
Window A, the done count goes up; before, nothing changes. The resolution of a queue's
translation fault whose item has parked: RETRY discards the faulting page's translation and makes the item ready
again, with the fault cleared and a parked queue ACTIVE; ABORT ends it with ABORTED_FAULT, TRANSLATION. Before the
item has parked, the resolution is kept. An item still parked TF_PARK_TIMEOUT meridians after it parked ends with
ABORTED_FAULT, TRANSLATION, in the tick just closed. -/
def Obligations.MemoryUpkeep : Prop :=
  (∀ (s : State) (t a : Nat), s.Inv → let u := s.advanceCharged t
     let place : EccPlace := if a < chartBase then .device a else .chart a
     (∀ persist i, exec (.scrubRead t (.logbook persist i) .uncorrectable) s =
       .next { u with log := u.log.damage persist i }) ∧
     (u.ingestRuns = true → u.scrubbed a = true → u.mem.ue.contains (granuleBase a) = false → u.mem.ce.contains (granuleBase a) = false →
       exec (.scrubRead t place .clean) s = .next u ∧
       exec (.scrubRead t place (.upset true)) s =
         .next { u with mem := { u.mem with ce := granuleBase a :: u.mem.ce } } ∧
       exec (.scrubRead t place (.upset false)) s =
         .next { u with mem := { u.mem with ue := granuleBase a :: u.mem.ue } } ∧
       exec (.scrubRead t place .correctable) s = .next (u.countCe a) ∧
       (∃ c, exec (.scrubRead t place .passDone) s = .next (u.bump c) ∧
         c = if a < chartBase then Adr.channelScrubPasses (u.channelOf a) else Adr.chartScrubPasses) ∧
       (∃ x, exec (.scrubRead t place .uncorrectable) s = .next x ∧ x.mem.ue = granuleBase a :: u.mem.ue ∧
         x.mem.cells = u.mem.cells ∧ (u.inAnyRegion a = true → x.tick.faults = u.tick.faults + 1) ∧
         (u.inAnyRegion a = false → x = ({ u with mem := x.mem } : State).countUe a))) ∧
     (∀ (n : Fin 8) (word : Nat), u.ingestRuns = true → (u.arrAt n.val).powered = true →
       u.mem.opUe.contains (n.val, word) = false → u.mem.opCe.contains (n.val, word) = false →
       exec (.scrubRead t (.operandStore n word) .correctable) s =
         .next (u.bump (Adr.operandCeCorrected n.val)).dispatch ∧
       (u.holder? n.val = none → exec (.scrubRead t (.operandStore n word) .uncorrectable) s =
         .next (({ u with mem := { u.mem with opUe := (n.val, word) :: u.mem.opUe } } : State).bump
           (Adr.operandUeDetected n.val)).dispatch) ∧
       (∀ q j, q < 32 → u.holder? n.val = some (q, j) → u.job? q j.submitSeq = some j → j.ended = none →
         ∃ y : State, exec (.scrubRead t (.operandStore n word) .uncorrectable) s = .next y.dispatch ∧
           y.endedAs q j.submitSeq 0x20 0x11 ∧ y.mem.opUe = (n.val, word) :: u.mem.opUe))) ∧
  (∀ (s : State),
     (∀ r : Req, let h := s.heard r.t r.port r.sender; let v := (writeValue Adr.tlbInvalidate r.payload).toNat
       s.grants r Adr.tlbInvalidate →
       ∃ x, exec (.tlbInvalidate r) s = .next x ∧ x.sent = h.sent ∧ x.host = h.host ∧
         x.mem.tlb = h.mem.tlb.filter (fun e => !(inScope v e.partition e.page e.size)) ∧
         x.mem.invalidating = h.mem.invalidating ++ [{ scope := v, answer := .port r.port }] ∧
         (x.portAt r.port).waiting = (h.portAt r.port).waiting ++ [{
           pdu := responsePdu 2 r.seq Adr.tlbInvalidate 0 [], route := h.routeOf r.port r.sender, ready := false }]) ∧
     (∀ value p page size,
       (value % 4 = 0 → inScope value p page size = true) ∧
       (value % 4 = 1 → (inScope value p page size = true ↔ bitsAt value 3 2 = p)) ∧
       (value % 4 = 2 → (inScope value p page size = true ↔
         bitsAt value 3 2 = p ∧ page ≤ bitsAt value 47 12 * 4096 ∧ bitsAt value 47 12 * 4096 < page + size))) ∧
     (∀ (t : Nat) (i : Invalidation) (rest : List Invalidation), let u := s.advance t
       s.mem.invalidating = i :: rest →
       let y : State := { u with mem := { u.mem with
         invalidating := rest, tlb := u.mem.tlb.filter (fun e => !(inScope i.scope e.partition e.page e.size)) } }
       (u.translationsOpen i.scope = true → exec (.tlbInvalidateDone t) s = .next u) ∧
       (u.translationsOpen i.scope = false →
         (∀ p w ws, i.answer = .port p → (u.portAt p).waiting = w :: ws → w.ready = false →
           (∀ v, v ∈ ws → v.ready = false) → p.idx < u.ports.length →
           exec (.tlbInvalidateDone t) s =
             .next ((y.setPort p (fun k => { k with waiting := ws })).sendResponse p w.route w.pdu)) ∧
         (i.answer = .windowA → exec (.tlbInvalidateDone t) s = .next { y with mem := { y.mem with
           tlbDone := (u.mem.tlbDone + 1) % 2 ^ 32 } })))) ∧
  (∀ (s : State) (q : Fin 32) (f : TFault), s.Inv → let n := q.val
     (∀ r : Req, let h := s.heard r.t r.port r.sender
       let page := (f.addr - hostWindow) / 4096 * 4096
       (h.queueAt n).fault = some f → h.partOf n < 4 → f.addr < addressEnd →
       (s.grants { r with payload := leBytes 1 1 } (Adr.tfResolve n) →
         (∀ j, h.parked? n = some j → h.job? n j.submitSeq = some j →
           ∃ (y : State) (k : Job), exec (.tfResolveRetry (.dictionary r) q) s =
               .next (y.dispatch.answered r.port (h.routeOf r.port r.sender) 2 r.seq (Adr.tfResolve n) 0 []) ∧
             y.job? n j.submitSeq = some k ∧ k = { j with phase := if j.kind = 0 then .saved else .waiting } ∧
             (y.queueAt n).fault = none ∧ ((h.queueAt n).state = .parked → (y.queueAt n).state = .active) ∧
             y.mem.tlb = h.mem.tlb.filter (fun e => !(e.partition == h.partOf n && e.page ≤ page && page < e.page + e.size))) ∧
         (h.parked? n = none → ∃ y : State, exec (.tfResolveRetry (.dictionary r) q) s =
             .next (y.dispatch.answered r.port (h.routeOf r.port r.sender) 2 r.seq (Adr.tfResolve n) 0 []) ∧
           (y.queueAt n) = { h.queueAt n with fault := some { f with resolve := 1 } })) ∧
       (s.grants { r with payload := leBytes 1 2 } (Adr.tfResolve n) →
         (∀ j, h.parked? n = some j → h.job? n j.submitSeq = some j →
           ∃ y : State, exec (.tfResolveAbort (.dictionary r) q) s =
               .next (y.dispatch.answered r.port (h.routeOf r.port r.sender) 2 r.seq (Adr.tfResolve n) 0 []) ∧
             y.endedAs n j.submitSeq 0x20 0x12 ∧ (y.queueAt n).fault = none) ∧
         (h.parked? n = none → ∃ y : State, exec (.tfResolveAbort (.dictionary r) q) s =
             .next (y.dispatch.answered r.port (h.routeOf r.port r.sender) 2 r.seq (Adr.tfResolve n) 0 []) ∧
           (y.queueAt n) = { h.queueAt n with fault := some { f with resolve := 2 } }))) ∧
     (∀ j, s.parked? n = some j → s.job? n j.submitSeq = some j → (s.queueAt n).fault = some f →
       s.numAt (Adr.tfParkTimeout n) ≠ 0 → s.numAt (Adr.tfParkTimeout n) ≤ j.parkedFor →
       ∃ y : State, exec (.tfParkTimeout q) s = .next y.dispatch ∧ y.endedAs n j.submitSeq 0x20 0x12 ∧
         (y.queueAt n).fault = none ∧ ((s.queueAt n).state = .parked → (y.queueAt n).state = .active)))

/-- A packet that its source may send, and that the mesh carries, leaves; it enters the retry buffer, and a copy of an
unacknowledged one is that packet again. One that passes its check and is next in its numbering is accepted once: a WRITE
replaces its bytes of memory, an ATOMIC_ADD adds to its element, a READ_REQ is answered with what memory holds, a SWEEP
changes nothing; the numbering expects the next SEQ, and one answer that names the SEQ goes back to the source (WRITE_ACK,
READ_DATA, SWEEP_DONE), in a numbering that is not closed. (Accesses outside the partition's regions are another
statement's subject.) A packet whose SEQ has been accepted is a duplicate: counted in DUPLICATES and acknowledged again,
never applied again. A strict packet or a replay packet ahead of a gap is held, with nothing applied and nothing answered.
A packet that fails its check is counted in CRC_REFUSED where it arrived, with a REFUSE to the endpoint it names and
nothing applied. -/
def Obligations.FabricAppliesOnce : Prop :=
  ∀ (s : State) (t : Nat) (p : Packet) (type : Nat) (float : Bool), s.Inv →
     let u := s.advanceCharged t; let n := u.numberingOf p
     let fresh : Outstanding :=
       { type := type, packet := { p with received := none }, replay := u.replayBit p, resends := 0, sentAt := u.tick.now,
         float := float, owner := u.packetOwner p }
     let stored := n.outstanding.find? (fun x => x.packet.seq == p.seq)
     let copied (o : Outstanding) : Prop :=
       stored = some o ∧ o.type = type ∧ o.float = float ∧ o.packet = { p with received := none }
     let sends : Prop := stored = none ∧ n.accepted p.seq = false ∧ n.closed = false ∧ n.maySend p.seq = true
     let arrives (o : Outstanding) (pre : List Sent) : Prop :=
       (copied o ∧ pre = []) ∨ (sends ∧ o = fresh ∧ pre = [.packet fresh.bytes])
     let may (write : Bool) (k : Nat) : Prop :=
       unpartitioned p.src.val = true ∨ u.permitted p.partition.val write p.addr k = true
     let answer (kind : Nat) (bulk : Bool) (own : Nat) (payload : Bytes) : Sent :=
       .packet (packetBytes p.dst.val p.src.val kind bulk (sourceChannel p.dst.val p.channel) false
         (if unpartitioned p.dst.val then 0 else packetPartition p) own p.seq payload)
     u.meshOpen p.src.val p.dst.val = true → classOk type p = true → u.ownerOk p = true →
     (∀ (o : Outstanding) (pre : List Sent), p.received = none → arrives o pre → p.seq = n.expected → p.seq < 2 ^ 16 →
       n.ahead = [] → n.held = [] → (∀ b c, (u.numbering p.dst.val p.src.val b c).closed = false) → u.mem.ue = [] →
       let next (x : State) (kind : Nat) (bulk : Bool) (payload : Bytes) : Prop :=
         (x.numberingOf p).expected = (p.seq + 1) % 2 ^ 16 ∧
           ∃ own, x.sent = u.sent ++ pre ++ [answer kind bulk own payload]
       (type = 0 → float = false → memoryEnd p.dst.val = true → may true p.payload.length →
         ∃ x, exec (.fabricWrite t p) s = .next x ∧ next x 1 false [] ∧ x.readMem p.addr p.payload.length = p.payload ∧
           ∀ y, y < p.addr ∨ p.addr + p.payload.length ≤ y → x.mem.cells.byte y = s.mem.cells.byte y) ∧
       (∀ elem, type = 4 → float = isFloatElem elem → memoryEnd p.dst.val = true → may true 4 → may false 4 →
         ∃ x, exec (.fabricAtomicAdd t p elem) s = .next x ∧ next x 1 false [] ∧
           (let profile := match u.itemFor o.owner with | some (_, j) => u.profileOf j | none => u.part.roundingProfile
            x.readNum p.addr 4 = addElem profile elem (u.readNum p.addr 4) (leNat (p.payload.take 4)) % 2 ^ 32) ∧
           ∀ y, y < p.addr ∨ p.addr + 4 ≤ y → x.mem.cells.byte y = s.mem.cells.byte y) ∧
       (type = 2 → float = false → memoryEnd p.dst.val = true → (∀ k, k ≤ 256 → may false k) →
         ∃ x k, exec (.fabricReadReq t p) s = .next x ∧ k ≤ 256 ∧ next x 3 p.bulk (u.readMem p.addr k) ∧
           x.mem.cells = u.mem.cells) ∧
       (type = 5 → float = false → ∃ x, exec (.sweep t p) s = .next x ∧ next x 6 false [] ∧ x.mem = u.mem)) ∧
     (∀ i : Instr, (i, type, float) ∈ [(Instr.fabricWrite t p, 0, false), (.fabricAtomicAdd t p .int32, 4, false),
         (.fabricAtomicAdd t p .fp32, 4, true), (.fabricReadReq t p, 2, false)] →
       (p.received = none → p.src ≠ p.dst → n.accepted p.seq = true → (stored = none ∨ ∃ o, copied o) →
         ∃ x, exec i s = .next x ∧ x.mem.cells = s.mem.cells ∧ x.numberingOf p = n ∧
           (type ≠ 2 → x.numAt (Adr.duplicates p.dst.val) = (u.numAt (Adr.duplicates p.dst.val) + 1) % 2 ^ 64) ∧
           (type ≠ 2 → (∀ c, (u.numbering p.dst.val p.src.val false c).closed = false) →
             ∃ own, x.sent = u.sent ++ [answer 1 false own []])) ∧
       (p.received = none → sends → (p.bulk = false ∨ u.replayBit p = true) → p.seq ≠ n.expected →
         n.held.any (fun o => o.packet.seq == p.seq) = false →
         ∃ x, exec i s = .next x ∧ x.mem = u.mem ∧ x.sent = u.sent ++ [.packet fresh.bytes] ∧
           (x.numberingOf p).held = n.held ++ [fresh] ∧ (x.numberingOf p).expected = n.expected) ∧
       (∀ (r : Received) (pre : List Sent), p.received = some r → packetChecks r.bytes = false →
         ((stored.isSome = true ∧ pre = []) ∨ (stored = none ∧ n.accepted p.seq = true ∧ pre = []) ∨
           (sends ∧ pre = [.packet fresh.bytes])) →
         u.part.variant.endpoint r.atEnd.val = true →
         ∃ x, exec i s = .next x ∧ x.mem = u.mem ∧
           x.numAt (Adr.crcRefused r.atEnd.val) = (u.numAt (Adr.crcRefused r.atEnd.val) + 1) % 2 ^ 64 ∧
           (u.part.variant.endpoint (field r.bytes 0 1) = true →
             (∀ c, (u.numbering r.atEnd.val (field r.bytes 0 1) false c).closed = false) →
             ∃ c part own, x.sent = u.sent ++ pre ++ [.packet
               (packetBytes r.atEnd.val (field r.bytes 0 1) 7 false c false part own (field r.bytes 4 2) [])])))

/-- An acknowledgement that passes its check takes its packet out of the retry buffer of its numbering and no other.
A refused packet, and one without an acknowledgement in the time that ACK_TIMEOUT allows after its last send, is sent again
bit for bit under the same SEQ and counted in RESENDS, as long as it has been re-sent less than three times; a READ_REQ
also where its READ_DATA fails its check. When a packet's third re-send fails, its numbering closes: it is counted in
FABRIC_FAULTS, every job with packets outstanding there ends with ABORTED_FAULT, FABRIC, the packets are discarded and a
CHANNEL_RESET alone waits. At the destination of a closed numbering CHANNEL_RESET discards the held packets and sets the
next expected SEQ to the named one; RESET_DONE then reopens it at the source. A CHANNEL_RESET whose third re-send fails
leaves the numbering closed. -/
def Obligations.FabricRecovers : Prop :=
  (∀ (s : State) (t : Nat) (p : Packet) (bulk : Bool) (channel : Nat), s.Inv →
     let u := s.advanceCharged t
     let n (b : Bool) (c : Nat) := u.numbering p.dst.val p.src.val b c
     let seq := p.addr % 2 ^ 16
     let acked (i : Instr) (b : Bool) (c : Nat) : Prop := ∃ y : State, exec i s = .next y.releaseHeld.drainSignals ∧
       (y.numbering p.dst.val p.src.val b c) =
         { n b c with outstanding := (n b c).outstanding.filter (fun o => o.packet.seq != seq) } ∧ y.sent = u.sent
     let waits (b : Bool) (c type : Nat) : Prop := ∃ o, o ∈ (n b c).outstanding ∧ o.packet.seq = seq ∧ o.type = type
     u.meshOpen p.src.val p.dst.val = true →
     (arrivesGood p = true →
       (waits bulk channel 0 ∨ waits bulk channel 4 → acked (.fabricWriteAck t p bulk channel) bulk channel) ∧
       (waits bulk channel 2 → acked (.fabricReadData t p bulk channel) bulk channel) ∧
       (waits true 0 5 → acked (.sweepDone t p) true 0)) ∧
     (∀ o, (n bulk channel).outstanding.find? (fun o => o.packet.seq == seq) = some o → o.resends < 3 →
       let again (i : Instr) : Prop := ∃ x, exec i s = .next x ∧ x.sent = u.sent ++ [.packet o.bytes] ∧
         x.numAt (Adr.resends p.dst.val) = (u.numAt (Adr.resends p.dst.val) + 1) % 2 ^ 64 ∧
         (x.numbering p.dst.val p.src.val bulk channel).outstanding = (n bulk channel).outstanding.map (fun y =>
           if y.packet.seq == seq then { y with resends := y.resends + 1, sentAt := u.tick.now } else y) ∧ x.mem = u.mem
       (arrivesGood p = true → again (.refuse t p bulk channel)) ∧
       (arrivesGood p = false → o.type = 2 → again (.fabricReadData t p bulk channel)) ∧
       (u.meshOpen p.dst.val p.src.val = true → o.sentAt + u.numAt Adr.ackTimeout ≤ u.tick.now →
         again (.ackTimeout t p.dst p.src bulk channel seq)))) ∧
  (∀ (s : State) (t : Nat) (p : Packet) (bulk : Bool) (channel : Nat), s.Inv →
     let u := s.advanceCharged t
     u.meshOpen p.src.val p.dst.val = true → arrivesGood p = true →
     (let n := u.numbering p.dst.val p.src.val bulk channel; let seq := p.addr % 2 ^ 16
      (∀ o, n.outstanding.find? (fun o => o.packet.seq == seq) = some o → 3 ≤ o.resends → o.type ≠ 8 →
        ∃ (y : State) (r : Outstanding), exec (.refuse t p bulk channel) s = .next y.releaseHeld.drainSignals.dispatch ∧
          y.numbering p.dst.val p.src.val bulk channel = { n with closed := true, outstanding := [], reset := some r } ∧
          r.type = 8 ∧ r.packet.addr = n.nextSeq ∧ .packet r.bytes ∈ y.sent ∧ u.tick.faults < y.tick.faults ∧
          ∀ w q k j, w ∈ n.outstanding → w.owner = some (q, k) → q < 32 → u.job? q k = some j → j.ended = none →
            y.endedAs q k 0x20 0x15) ∧
      (∀ o, n.outstanding.find? (fun o => o.packet.seq == seq) = none → n.reset = some o → o.packet.seq = seq →
        3 ≤ o.resends → o.type = 8 →
        ∃ x, exec (.refuse t p bulk channel) s = .next x ∧
          x.numbering p.dst.val p.src.val bulk channel = { n with reset := none })) ∧
     (let n := u.numbering p.src.val p.dst.val bulk channel
      ∀ o, n.reset = some o → o.packet.src = p.src → o.packet.dst = p.dst → p.src ≠ p.dst →
       ∃ (x : State) (own c part : Nat), exec (.channelReset t p bulk channel) s = .next x ∧
       x.numbering p.src.val p.dst.val bulk channel = { n with held := [], ahead := [], expected := o.packet.addr } ∧
       x.sent = u.sent ++ [.packet (packetBytes p.dst.val p.src.val 9 false c false part own o.packet.seq [])]) ∧
     (let n := u.numbering p.dst.val p.src.val bulk channel
      ∀ o, n.reset = some o → o.packet.seq = p.addr % 2 ^ 16 → ∃ x, exec (.resetDone t p bulk channel) s = .next x ∧
       x.numbering p.dst.val p.src.val bulk channel = { n with closed := false, reset := none } ∧ x.sent = u.sent))

/-- A COPY that is the next item of its queue, on a free engine, with its pages cached, its regions permitted and its
numberings open, moves all its bytes and ends SERVED. From device to host, each byte goes out in a posted write to its
translated bus address, and no write leaves the span; from host to device, with all of host memory's bytes there, they
replace the span's bytes and no others. A read completion puts its chunk in place; one for an abandoned read is only
counted; one for a read that HOST makes for a READ_REQ sends READ_DATA back to that packet's source. A FENCE that is the
next item of its queue ends with ABORTED_FAULT, FABRIC, when the numbering it would sweep is closed. Else in a
posted-ordered queue it ends SERVED at once; in a relaxed one it ends SERVED, with a sweep counted, when no bulk packet to
HOST is unacknowledged, and waits before. -/
def Obligations.CopiesAndFences : Prop :=
  (∀ (s : State), s.Inv →
     (∀ (q : Fin 32) (op : CopyOp) (j : Job) (bus : Nat), let u := s.advanceCharged op.t; let n := q.val
       let p := u.partOf n; let e := u.numAt (Adr.queueCopyEngine n); let seq := j.submitSeq
       op.fromImage = false → u.itemOf n (readDescriptor op.desc (field op.desc 56 4)) = some j → u.head? n = some j →
       u.job? n seq = some j → j.kind = 1 → 0 < j.copyLen → j.copyNext = 0 → hostWindow ≤ j.copyAddr →
       j.copyAddr + j.copyLen ≤ addressEnd → u.ingestRuns = true → (u.queueAt n).state = .active → (u.queueAt n).fault = none → u.hostOpen = true → e < 8 →
       (∀ d, u.closedPath 22 d true 0 = false) → (u.engineAt e).owner = none → (u.engineAt e).held = none →
       (u.engineAt e).reads = [] → u.mem.ue = [] →
       (∀ k, k < j.copyLen → ∃ c, u.cached p (j.copyAddr - hostWindow + k) = some c ∧
         c.bus + (j.copyAddr - hostWindow + k - c.page) = bus + k ∧ bitAt c.leaf (if j.copyOut then 4 else 3) = true) →
       u.permitted p (!j.copyOut) j.copyDev j.copyLen = true →
       ∃ y : State, exec (.copy q op) s = .next y.dispatch ∧
         (j.copyOut = true → y.endedAs n seq 0x00 0 ∧ y.mem.cells = u.mem.cells ∧ ∃ ws, y.sent = u.sent ++ ws ∧
           (∀ k, k < j.copyLen → ∃ a b r f, Sent.hostWrite a b r f ∈ ws ∧ a ≤ bus + k ∧ bus + k < a + b.length ∧
             nth b (bus + k - a) 0 = u.mem.cells.byte (j.copyDev + k)) ∧
           (∀ w, w ∈ ws → ∃ a b r f, w = Sent.hostWrite a b r f ∧ bus ≤ a ∧ a + b.length ≤ bus + j.copyLen)) ∧
         (j.copyOut = false → j.copyLen ≤ op.hostData.length → y.endedAs n seq 0x00 0 ∧ y.sent = u.sent ∧
           y.readMem j.copyDev j.copyLen = op.hostData.take j.copyLen ∧
           ∀ x, x < j.copyDev ∨ j.copyDev + j.copyLen ≤ x → y.mem.cells.byte x = u.mem.cells.byte x)) ∧
     (∀ (t tag : Nat) (e : Fin 8) (data : Bytes), let u := s.advanceCharged t; let g := u.engineAt e.val
       let gone := g.abandoned.any (fun r => r.tag == tag)
       (gone = true →
         ∃ x, exec (.hostReadCompletion t e tag data) s = .next x ∧ x.mem = u.mem ∧ x.queues = u.queues ∧
           (x.engineAt e.val).abandoned = g.abandoned.filter (fun r => r.tag != tag) ∧
           x.numAt Adr.lateCompletionsDiscarded = (u.numAt Adr.lateCompletionsDiscarded + 1) % 2 ^ 64) ∧
       (∀ r q seq j, gone = false → g.reads.find? (fun r => r.tag == tag) = some r →
         g.owner = some (q, seq) → u.job? q seq = some j → u.mem.ue = [] →
         r.len ≤ data.length → u.permitted (u.partOf q) true (j.copyDev + r.off) r.len = true →
         ∃ y : State, exec (.hostReadCompletion t e tag data) s = .next (y.resumeEngine e.val) ∧
           y.readMem (j.copyDev + r.off) r.len = data.take r.len ∧
           (y.engineAt e.val).reads = g.reads.filter (fun y => y.tag != r.tag) ∧
           ∀ x, x < j.copyDev + r.off ∨ j.copyDev + r.off + r.len ≤ x → y.mem.cells.byte x = u.mem.cells.byte x) ∧
       (∀ r, gone = false → g.reads.find? (fun r => r.tag == tag) = none →
         u.fabric.reads.find? (fun r => r.engine == e.val && r.tag == tag) = some r →
         let p := r.request.packet
         (∀ b c, (u.numbering p.dst.val p.src.val b c).closed = false) →
         ∃ x own, exec (.hostReadCompletion t e tag data) s = .next x ∧ x.mem = u.mem ∧
           x.fabric.reads = u.fabric.reads.filter (fun y => !(y.engine == r.engine && y.tag == r.tag)) ∧
           x.sent = u.sent ++ [.packet (packetBytes p.dst.val p.src.val 3 p.bulk (sourceChannel p.dst.val p.channel) false
             (if unpartitioned p.dst.val then 0 else packetPartition p) own p.seq (data.take 256))]))) ∧
  (∀ (s : State) (t : Nat) (q : Fin 32) (desc : Bytes) (j : Job), s.Inv →
     let u := s.advanceCharged t; let n := q.val
     let closed := u.closedPath 22 4 true 0
     u.itemOf n (readDescriptor desc (field desc 56 4)) = some j → u.head? n = some j → u.job? n j.submitSeq = some j →
     j.kind = 2 → u.ingestRuns = true → (u.queueAt n).state = .active →
     (closed = true → ∃ y : State, exec (.fence t q desc) s = .next y.dispatch ∧ y.endedAs n j.submitSeq 0x20 0x15) ∧
     (closed = false → (u.queueAt n).relaxed = false →
       ∃ y : State, exec (.fence t q desc) s = .next y.dispatch ∧ y.endedAs n j.submitSeq 0x00 0) ∧
     (closed = false → (u.queueAt n).relaxed = true → u.bulkOpen 22 4 = false →
       ∃ y : State, exec (.fence t q desc) s = .next y.dispatch ∧ y.endedAs n j.submitSeq 0x00 0 ∧
         y.numAt (Adr.sweeps 22) = (u.numAt (Adr.sweeps 22) + 1) % 2 ^ 64) ∧
     (closed = false → (u.queueAt n).relaxed = true → u.bulkOpen 22 4 = true →
       exec (.fence t q desc) s = .next u.dispatch))

/-- Window A's queue blocks, while the windows decode. The doorbells take their values. With RING_ENABLE clear, a write of
a base takes the written word of a 4 KiB aligned address, and RING_CTRL takes the record class and the size; setting
RING_ENABLE restarts the descriptor count at 0 and opens a queue that a reset of the function has halted, or halts the queue
with HALT_FABRIC where its record path is closed; a standing queue enables no ring. With RING_ENABLE set these writes change
nothing, but one of RING_CTRL that clears it, which is ignored while an admitted item has not ended. RESUME of a halted queue
makes it ACTIVE (DISABLED without QUEUE_ENABLE), its due records go out, then vector q; it is ignored while requests to host
memory are impossible, or while a closed numbering or a reset of the function holds the queue. No other queue changes. The
control ring, while the windows decode: its doorbells take their values; its bases are written while it is disabled;
enabling it takes the size and starts both entry counts at 0; disabling it drops what was held. -/
def Obligations.WindowAControlsRings : Prop :=
  (∀ (s : State) (t : Nat) (q : Fin 32), s.Inv → let u := s.advance t; let n := q.val; let x := u.queueAt n
     s.windowsOpen = true →
     let becomes (i : Instr) (y : Queue) : Prop := ∃ w, exec i s = .next w ∧ w.queueAt n = y ∧
       (∀ m, m ≠ n → w.queueAt m = s.queueAt m) ∧ w.sent = s.sent
     (∀ v, becomes (.sqTail t q v) { x with sqTail := v % 2 ^ 32 } ∧
       becomes (.cqHead t q v) { x with cqHead := v % 2 ^ 32 }) ∧
     (∀ second high v,
       (x.ringOn = false → becomes (.ringEnable t q (.base second) high v)
         (if second then { x with cqBase := withWord x.cqBase high v / 4096 * 4096 }
          else { x with sqBase := withWord x.sqBase high v / 4096 * 4096 })) ∧
       (x.ringOn = true → exec (.ringEnable t q (.base second) high v) s = .next u)) ∧
     (∀ high v, let log2 := bitsAt v 7 4; let linked := u.numAt (Adr.queueMode n) = 0
       (x.ringOn = false → 1 ≤ log2 → log2 ≤ 10 →
         (bitAt v 0 = false ∨ ¬ linked →
           becomes (.ringEnable t q .ctrl high v) { x with relaxed := bitAt v 1, log2 := log2 }) ∧
         (bitAt v 0 = true → linked → u.recordPathClosed = false →
           ∃ y, becomes (.ringEnable t q .ctrl high v) y ∧ y.ringOn = true ∧ y.fetched = 0 ∧ y.log2 = log2 ∧
             y.relaxed = bitAt v 1 ∧ y.sqBase = x.sqBase ∧ y.cqBase = x.cqBase ∧ y.haltFlr = false ∧ y.jobs = x.jobs ∧
             (x.state = .halted → x.haltBme = false → x.haltFabric = false → y.state = u.openState n)) ∧
         (bitAt v 0 = true → linked → u.recordPathClosed = true →
           ∃ w, exec (.ringEnable t q .ctrl high v) s = .next w ∧ (w.queueAt n).ringOn = true ∧
             (w.queueAt n).state = .halted ∧ (w.queueAt n).haltFabric = true)) ∧
       (x.ringOn = true → bitAt v 0 = true → exec (.ringEnable t q .ctrl high v) s = .next u) ∧
       (x.ringOn = true → bitAt v 0 = false → exec (.ringEnable t q .ctrl high v) s = exec (.ringDisable t q) s)) ∧
     (x.ringOn = true → (∀ j, j ∈ x.jobs → j.ended.isSome) →
       ∃ w, exec (.ringDisable t q) s = .next w ∧ (w.queueAt n).ringOn = false) ∧
     ((∃ j, j ∈ x.jobs ∧ j.ended = none) → exec (.ringDisable t q) s = .next u) ∧
     (let v := s.advanceCharged t; let z := v.queueAt n
      let w := v.setQueue n (fun y => { y with state := v.openState n, haltBme := false })
      (z.state = .halted → v.hostOpen = true → z.haltFabric = false → v.recordPathClosed = false → z.haltFlr = false →
        ∃ y : State, exec (.resume t q) s = .next (y.sendVector n).dispatch ∧ (y.queueAt n).state = v.openState n ∧
          (y.queueAt n).haltBme = false ∧
          ((∀ j, j ∈ z.jobs → j.standing = false ∧ w.recordDue n j = true) →
            (y.queueAt n).jobs = [] ∧ y.sent.length = v.sent.length + z.jobs.length)) ∧
      (v.hostOpen = false ∨ z.haltFabric = true ∨ v.recordPathClosed = true ∨ z.haltFlr = true ∨ z.state ≠ .halted →
        exec (.resume t q) s = .next v))) ∧
  (∀ (s : State) (t : Nat), s.windowsOpen = true →
     let becomes (i : Instr) (r : ControlRing) : Prop :=
       ∃ x, exec i s = .next x ∧ x.host = { s.host with ring := r } ∧ x.sent = s.sent
     let r := s.host.ring
     (∀ v, becomes (.crReqTail t v) { r with reqTail := v % 2 ^ 32 } ∧
       becomes (.crRspHead t v) { r with rspHead := v % 2 ^ 32 }) ∧
     (∀ second high v, becomes (.controlRingEnable t (.base second) high v)
       (if r.enabled then r else if second then { r with rspBase := withWord r.rspBase high v }
        else { r with reqBase := withWord r.reqBase high v })) ∧
     (∀ high v, let log2 := bitsAt v 7 4
       (bitAt v 0 = true → r.enabled = false → 1 ≤ log2 → log2 ≤ 8 →
         becomes (.controlRingEnable t .ctrl high v)
           { r with enabled := true, log2 := log2, fetched := 0, written := 0, reserved := 0 }) ∧
       (bitAt v 0 = true → r.enabled = true → becomes (.controlRingEnable t .ctrl high v) r) ∧
       (bitAt v 0 = false →
         becomes (.controlRingEnable t .ctrl high v) { r with enabled := false, reserved := 0, heldRsp := [] })))

/-- Window A, while it decodes. A read of the low word of a counter mirror gives it and keeps the high word of the same
value, which the next read of the high word gives; a read of any other register gives what the register holds and changes
nothing. A preset takes the held high word and the written low word, while port H is the owner, of a writable counter; else
it is only counted. TLB_INV_LO starts an invalidation of the scope that both words spell, which no response follows.
Placement, while Window B decodes. A write into the span of an enabled entry of its requester is written at the entry's
device address, under the entry's partition, and its bytes are counted. A signal of such an entry, its requester's earlier
writes accepted, is counted, its value kept, and its 8 bytes written to SIGNAL_ADDR, or to nowhere where that is 0; before
they are, it waits. Any other write changes no memory, is reported and counted in PLACEMENT_REFUSED. A read of Window B
gives an Unsupported Request and nothing else. -/
def Obligations.WindowAReachesUnits : Prop :=
  (∀ (s : State) (t : Nat), s.Inv → s.windowsOpen = true → let u := s.advance t
     (∀ (slot : Fin 64) (a : Nat), let k := slot.val
       u.mirrored k = some a → s.host.latches.length = 64 → s.host.presets.length = 64 →
       (∃ x, exec (.counterLowRead t (0x4000 + 8 * k)) s = .next x ∧ x.sent = s.sent ++ [.windowRead (u.numAt a % 2 ^ 32)] ∧
         nth x.host.latches k none = some (u.numAt a / 2 ^ 32) ∧ x.dict = s.dict) ∧
       (∃ x, exec (.counterLowRead t (0x4004 + 8 * k)) s = .next x ∧ nth x.host.latches k none = none ∧ x.dict = s.dict ∧
         x.sent = s.sent ++ [.windowRead ((nth s.host.latches k none).getD (u.numAt a / 2 ^ 32))]) ∧
       (∀ high v, s.own.owner ≠ some .H →
         exec (.mirrorPreset t slot high v) s = .next (u.bump Adr.mirrorWritesIgnored)) ∧
       (∀ high v, s.own.owner = some .H → counterWritable a = false → exec (.mirrorPreset t slot high v) s = .next u) ∧
       (∀ v, s.own.owner = some .H → counterWritable a = true →
         (∃ x, exec (.mirrorPreset t slot true v) s = .next x ∧ nth x.host.presets k 0 = v % 2 ^ 32 ∧ x.dict = s.dict) ∧
         (∃ x, exec (.mirrorPreset t slot false v) s = .next x ∧
           x.numAt a = nth s.host.presets k 0 * 2 ^ 32 + v % 2 ^ 32 ∧ ∀ b, b ≠ a → x.valAt b = s.valAt b))) ∧
     (∀ o, o % 4 = 0 → o < 0x4000 ∨ 0x4200 ≤ o →
       exec (.counterLowRead t o) s = .next (u.emit (.windowRead (u.registerAt o)))) ∧
     (∀ v, (∃ x, exec (.tlbInvHi t v) s = .next x ∧ x.mem = { s.mem with tlbHigh := v % 2 ^ 32 }) ∧
       (let scope := s.mem.tlbHigh * 2 ^ 32 + v % 2 ^ 32
        ∃ x, exec (.tlbInvLo t v) s = .next x ∧
         x.mem.tlb = s.mem.tlb.filter (fun e => !(inScope scope e.partition e.page e.size)) ∧
         x.mem.invalidating = s.mem.invalidating ++ [{ scope := scope, answer := .windowA }]))) ∧
  (∀ (s : State) (t requester : Nat) (data : Bytes), s.Inv → s.ingestRuns = true → s.windowBOpen = true →
     let u := s.advance t
     let fits (offset : Nat) (e : Placement × Nat) : Prop := e.1.requester = requester ∧ e.1.offset ≤ offset ∧
       offset + data.length ≤ e.1.offset + e.1.length ∧ data ≠ []
     let signals (offset : Nat) (e : Placement × Nat) : Prop :=
       e.1.requester = requester ∧ offset = 0xFF000 + 8 * e.2 ∧ data.length = 8
     (∀ offset,
       (∀ e, e ∈ u.placements → fits offset e → (∀ f, f ∈ u.placements → fits offset f → f = e) → u.mem.ue = [] →
         (∀ d, u.closedPath 4 d true 0 = false) → let a := e.1.base + (offset - e.1.offset)
         u.permitted e.1.partition true a data.length = true →
         ∃ x, exec (.placementWrite t requester offset data) s = .next x ∧ x.readMem a data.length = data ∧
           (∀ y, y < a ∨ a + data.length ≤ y → x.mem.cells.byte y = s.mem.cells.byte y) ∧
           x.numAt Adr.placementBytes = (u.numAt Adr.placementBytes + data.length) % 2 ^ 64) ∧
       ((∀ e, e ∈ u.placements → ¬ fits offset e ∧ ¬ signals offset e) →
         ∃ x, exec (.placementWrite t requester offset data) s = .next x ∧ x.mem = s.mem ∧
           x.sent = s.sent ++ [.unsupportedRequest offset] ∧
           x.numAt Adr.placementRefused = (u.numAt Adr.placementRefused + 1) % 2 ^ 64)) ∧
     (∀ i : Fin 16, let offset := 0xFF000 + 8 * i.val
       let ends := (s.host.placed.filter (fun y => y.1 == requester)).map (·.2)
       exec (.placementSignal t requester i data) s = exec (.placementWrite t requester offset data) s ∧
       (∀ e, (e, i.val) ∈ u.placements → (∀ f, (f, i.val) ∈ u.placements → f = e) → e.requester = requester →
         data.length = 8 → (∀ f, f ∈ u.placements → ¬ fits offset f) → s.host.signals = [] →
         ((∀ d, d ∈ ends → u.sweepDone 4 d = true) → u.mem.ue = [] → (∀ d b, u.closedPath 4 d b 0 = false) →
           (e.signal ≠ 0 → u.permitted e.partition true e.signal 8 = true) →
           ∃ x, exec (.placementSignal t requester i data) s = .next x ∧
             x.numAt Adr.placementSignals = (u.numAt Adr.placementSignals + 1) % 2 ^ 64 ∧
             x.numAt (Adr.placementSignalLast i.val) = leNat data ∧ (e.signal = 0 → x.mem = s.mem) ∧
             (e.signal ≠ 0 → x.readMem e.signal 8 = data ∧
               ∀ y, y < e.signal ∨ e.signal + 8 ≤ y → x.mem.cells.byte y = s.mem.cells.byte y)) ∧
         ((∃ d, d ∈ ends ∧ u.bulkOpen 4 d = true) → (∀ d b, u.closedPath 4 d b 0 = false) →
           ∃ x y, exec (.placementSignal t requester i data) s = .next x ∧ x.host.signals = [y] ∧ y.entry = i.val ∧
             y.data = data ∧ x.mem = s.mem ∧ x.dict = s.dict))) ∧
     (∀ offset, s.host.linkUp = true → s.host.functionReady = true →
       exec (.windowBRead t offset) s = .next (u.emit (.unsupportedRequest offset))))

/-- Bus-master enable. When it is lost, every parked item, every job with a transfer unfinished and every COPY that
is next in its queue ends with ABORTED_HOST, BME; every host-linked queue is HALTED with HALT_BME; the reads of the engines,
and those that HOST makes for them, are abandoned. When it is set again, in D0, port H's held responses are written, and then
every pending vector that can be sent is sent, with its address and data. The MSI-X table takes the words written to it; a
vector that is unmasked while it is pending is sent, and a write with partial byte enables changes nothing. The function and
its link. A function-level reset ends every item of the host-linked queues and resets their blocks (HALTED with
HALT_FLR until RING_ENABLE is set again), clears Bus Master Enable, Memory Space Enable and the control ring, and
vacates an ownership of port H with cause 2; the function is then not ready until it accepts configuration requests
again, and answers them with Configuration Request Retry Status. A link-down clears both enables and vacates an ownership of
port H with cause 3; the link comes up at its speed and width. Configuration space takes what host software writes, and its
fields read as the function has them. -/
def Obligations.HostLossIsContained : Prop :=
  (∀ (s : State) (t : Nat), s.Inv →
     (let u := s.advanceCharged t
      s.host.bme = true → ∃ y : State, exec (.lossOfBusMasterEnable t) s = .next y.dispatch ∧ y.host.bme = false ∧
       (∀ q j, q < 32 → ((u.queueAt q).jobs.map (·.submitSeq)).Nodup → j ∈ (u.queueAt q).jobs → u.hostBound q j = true →
         y.endedAs q j.submitSeq 0x22 0x20) ∧
       (∀ q, q < 32 → u.hostLinked q = true → (y.queueAt q).state = .halted ∧ (y.queueAt q).haltBme = true) ∧
       (∀ e, e < 8 → (y.engineAt e).reads = [] ∧ (y.engineAt e).owner = none ∧
         (y.engineAt e).abandoned.map (·.tag) = (u.engineAt e).abandoned.map (·.tag) ++
           (u.engineAt e).reads.map (·.tag) ++ (u.fabric.reads.filter (fun r => r.engine == e)).map (·.tag)) ∧
       y.fabric.reads = [] ∧ y.mem.cells = u.mem.cells) ∧
     (s.host.linkUp = true → s.host.functionReady = true → s.host.bme = false → s.host.d3hot = false →
       ∃ x, exec (.busMasterEnableSet t) s = .next x ∧ x.host.bme = true ∧ x.host.ring.heldRsp = [] ∧ x.mem = s.mem ∧
         (s.host.ring.enabled = true → x.host.ring.written =
           (s.host.ring.written + s.host.ring.heldRsp.length) % 2 ^ 32 ∨ s.host.ring.heldRsp = []) ∧
         ∀ v, v < 64 → nth s.host.msixPending v false = true → s.host.msixEnable = true →
           s.host.msixFunctionMask = false → nth s.host.msixMasked v true = false →
           (let e := nth s.host.msixTable v (0, 0); .msix v e.1 e.2 ∈ x.sent) ∧ nth x.host.msixPending v false = false) ∧
     (∀ (v : Fin 64) (value : Nat), let u := s.advanceCharged t; let at_ := 0x2000 + 16 * v.val
       let e := nth s.host.msixTable v.val (0, 0)
       s.windowsOpen = true → s.host.msixMasked.length = 64 → s.host.msixTable.length = 64 →
       (∃ x, exec (.msixVectorUnmask t ⟨at_ + 12, value, 15⟩) s = .next x ∧
         nth x.host.msixMasked v.val true = bitAt value 0 ∧
         (bitAt value 0 = false → s.host.bme = true → s.host.msixEnable = true → s.host.msixFunctionMask = false →
           nth u.host.msixPending v.val false = true → .msix v.val e.1 e.2 ∈ x.sent)) ∧
       (∃ x, exec (.msixVectorUnmask t ⟨at_, value, 15⟩) s = .next x ∧
         nth x.host.msixTable v.val (0, 0) = (withWord e.1 false value, e.2)) ∧
       (∃ x, exec (.msixVectorUnmask t ⟨at_ + 4, value, 15⟩) s = .next x ∧
         nth x.host.msixTable v.val (0, 0) = (withWord e.1 true value, e.2)) ∧
       (∃ x, exec (.msixVectorUnmask t ⟨at_ + 8, value, 15⟩) s = .next x ∧
         nth x.host.msixTable v.val (0, 0) = (e.1, value % 2 ^ 32)) ∧
       (∀ (o : Nat) (enables : Fin 16), enables.val ≠ 15 → o < 0x8000 ∨ 0xA000 ≤ o →
         exec (.msixVectorUnmask t ⟨o, value, enables⟩) s = .next u))) ∧
  (∀ (s : State) (t : Nat), s.Inv → s.dormant = false →
     (let u := s.advanceCharged t
      ∃ y : State, exec (.functionLevelReset t) s = .next y.dispatch ∧ y.host.bme = false ∧ y.host.mse = false ∧
       y.host.functionReady = false ∧ y.host.ring = ControlRing.zero ∧ y.mem.cells = u.mem.cells ∧
       (∀ q, q < 32 → u.hostLinked q = true → (y.queueAt q).jobs = [] ∧ (y.queueAt q).state = .halted ∧
         (y.queueAt q).haltFlr = true ∧ (y.queueAt q).ringOn = false) ∧
       (s.own.owner = some .H → y.own.owner = none ∧ y.own.state = .vacant ∧ y.own.vacancyCause = 2) ∧
       (s.own.owner ≠ some .H → y.own.owner = s.own.owner)) ∧
     (∃ x, exec (.pcieFunctionReady t) s = .next x ∧ x.host = { s.host with functionReady := true }) ∧
     (∀ speed width, ∃ x, exec (.pcieLinkUp t speed width) s = .next x ∧
       x.host = { s.host with linkUp := true, speed := speed, width := width }) ∧
     (s.host.linkUp = true → ∃ x, exec (.pcieLinkDown t) s = .next x ∧ x.host.linkUp = false ∧ x.host.bme = false ∧
       x.host.mse = false ∧ (s.own.owner = some .H → x.own.owner = none ∧ x.own.vacancyCause = 3) ∧
       (s.own.owner ≠ some .H → x.own.owner = s.own.owner)) ∧
     (s.host.linkUp = true →
       (s.host.functionReady = false → ∀ c, exec (.memorySpaceEnable t c) s = .next ((s.advance t).emit .configRetry)) ∧
       (s.host.functionReady = true →
         let becomes (c : ConfigAccess) (h : HostLink) : Prop :=
           ∃ x, exec (.memorySpaceEnable t c) s = .next x ∧ x.host = h ∧ x.sent = s.sent
         let h := s.host
         (∀ on, becomes (.memorySpace on) { h with mse := on }) ∧
         (∀ high v, becomes (.bar false high v) { h with barA := withWord h.barA high v / 0x10000 * 0x10000 } ∧
           becomes (.bar true high v) { h with barB := withWord h.barB high v / 0x100000 * 0x100000 }) ∧
         (∀ p r, becomes (.deviceControl p r) { h with maxPayload := p, maxRead := r }) ∧
         becomes (.powerState true) { h with d3hot := true } ∧
         (∃ x, exec (.memorySpaceEnable t (.powerState false)) s = .next x ∧ x.host.d3hot = false) ∧
         (∀ on mask, ∃ x, exec (.memorySpaceEnable t (.msixControl on mask)) s = .next x ∧ x.host.msixEnable = on ∧
           x.host.msixFunctionMask = mask) ∧
         ∀ f, exec (.memorySpaceEnable t (.read f)) s =
           .next ((s.advance t).emit (.configRead ((s.advance t).configValue f))))))

/-- A mailbox port from the side that serves it. A write to a buffer that is not FULL replaces its bytes, IN_LEN from
1 to 256 completes the message and counts it; while IN is FULL both are discarded and set OVERRUN, which a write of 1
clears; an acknowledgement empties OUT. A write from the other side changes no port and is counted in MBX_WRONG_SIDE.
The SPI target. A read gives the bytes of the mailbox space and changes nothing; a status byte says whether a port
that the SPI side serves holds a message and whether the PCIe link is up. A write inside one inbound buffer, or of
one register, has the effect of the same write from the SPI side. -/
def Obligations.MailboxSides : Prop :=
  (∀ (s : State) (t : Nat) (spi : Bool) (m : Fin 8), s.Inv → s.dormant = false → s.windowsOpen = true →
     let u := s.advance t; let n := m.val; let b := s.mailboxAt n
     let becomes (i : Instr) (y : Mailbox) : Prop := ∃ x, exec i s = .next x ∧ x.mailboxAt n = y ∧
       (∀ k, k ≠ n → x.mailboxAt k = s.mailboxAt k)
     (s.spiServes n = spi →
       (∀ offset data, b.inFull = true → becomes (.mailboxBufferWrite t spi m offset data) { b with overrun := true }) ∧
       (∀ offset data, b.inFull = false → b.inBuf.length = 256 → offset + data.length ≤ 256 →
         ∃ buf, becomes (.mailboxBufferWrite t spi m offset data) { b with inBuf := buf } ∧ buf.length = 256 ∧
           slice buf offset data.length = data ∧
           ∀ i, i < offset ∨ offset + data.length ≤ i → nth buf i 0 = nth b.inBuf i 0) ∧
       (∀ v, b.inFull = false → 1 ≤ v → v ≤ 256 → becomes (.inLen t spi m v) { b with inLen := v, inFull := true } ∧
         ∃ x, exec (.inLen t spi m v) s = .next x ∧
           x.numAt (Adr.mbxInMessages n) = (s.numAt (Adr.mbxInMessages n) + 1) % 2 ^ 64) ∧
       (∀ v, b.inFull = false → (v = 0 ∨ 256 < v) → becomes (.inLen t spi m v) b) ∧
       (∀ v, b.inFull = true → becomes (.inLen t spi m v) { b with overrun := true }) ∧
       becomes (.outAck t spi m) { b with outFull := false } ∧ becomes (.overrunClear t spi m) { b with overrun := false }) ∧
     (s.spiServes n ≠ spi → ∀ i,
       ((∃ offset data, i = .mailboxBufferWrite t spi m offset data) ∨ (∃ v, i = .inLen t spi m v) ∨
         i = .outAck t spi m ∨ i = .overrunClear t spi m) → exec i s = .next (u.bump (Adr.mbxWrongSide n)))) ∧
  (∀ (s : State) (t : Nat), s.dormant = false → let u := s.advance t
     (∀ a len, exec (.spiRead t a len) s = .next (u.emit (.spi ((List.range len).map (fun i => s.spiByte (a % 65536 + i)))))) ∧
     (∀ (m : Fin 8) (o : Nat), o < 256 → s.spiByte (m.val * 1024 + o) = nth (s.mailboxAt m.val).inBuf o 0 ∧
       s.spiByte (m.val * 1024 + 256 + o) = nth (s.mailboxAt m.val).outBuf o 0) ∧
     (∃ b : Nat, exec (.spiStatus t) s = .next (u.emit (.spi (leBytes 1 b))) ∧ b < 4 ∧
       (bitAt b 0 = true ↔ ∃ m, m < 8 ∧ s.spiServes m = true ∧ (s.mailboxAt m).outFull = true) ∧
       bitAt b 1 = s.host.linkUp) ∧
     (∀ (m : Fin 8) (data : Bytes), data ≠ [] →
       (∀ offset, offset + data.length ≤ 256 → ∃ x, exec (.spiWrite t (m.val * 1024 + offset) data) s = .next x ∧
         exec (.mailboxBufferWrite t true m offset data) s = .next x) ∧
       (data.length = 4 → ∃ x, exec (.spiWrite t (m.val * 1024 + 0x200) data) s = .next x ∧
         exec (.inLen t true m (leNat data)) s = .next x)))

/-- The device takes a complete message: IN is emptied; port 0's is run as the Shevy request it spells on port S,
with the effect of that request, after vector 38; a KEY_ACK or TOUCH_ACK of another port has the effect of its own row, and any other
type there is refused with 0x0601, by a REFUSED reply that waits and a count. An EMPTY outbound buffer takes the next
message that waits: for port 0 a response, for another port a message with its 8-byte header and the port's next
number. KEY_ACK and TOUCH_ACK from a platform port that is served: an acknowledgement that passes its checks frees
exactly the held events, or the panel's held reports, that are not later than the number it names; one that fails a
check frees nothing and gets a REFUSED reply with the code. -/
def Obligations.MailboxMessages : Prop :=
  (∀ (s : State) (t : Nat) (m : Fin 8), s.Inv → let n := m.val; let u := s.arrival t
     let taken := (u.setMailbox n (fun y => { y with inFull := false })).sendVector (38 + n)
     let b := (u.mailboxAt n).inBuf.take (u.mailboxAt n).inLen
     ((u.mailboxAt n).inFull = true → u.takesMessages n = true →
       (n = 0 → 6 ≤ b.length → ∃ x, exec (.mailboxTake t m) s = .next x ∧ let p := pduOf t .S b
         (field b 0 1 = 1 → exec (.read p) taken = .next x) ∧ (field b 0 1 = 2 → exec (.write p) taken = .next x) ∧
         (field b 0 1 = 3 → exec (.readBlock p) taken = .next x) ∧
         (field b 0 1 = 4 → exec (.writeBlock p) taken = .next x) ∧ (field b 0 1 = 5 → exec (.claim p) taken = .next x) ∧
         (field b 0 1 = 6 → exec (.renew p) taken = .next x) ∧ (field b 0 1 = 7 → exec (.handover p) taken = .next x) ∧
         (field b 0 1 = 8 → exec (.accept p) taken = .next x) ∧
         (field b 0 1 = 9 → exec (.notifyReceived p) taken = .next x) ∧
         (9 < field b 0 1 → exec (.unknownService p (field b 0 1)) taken = .next x)) ∧
       (n ≠ 0 → 8 ≤ b.length → field b 2 2 = b.length - 8 → ∃ x, exec (.mailboxTake t m) s = .next x ∧
         (field b 0 1 = 0x81 → x = taken.takeKeyAck n (b.drop 8)) ∧
         (field b 0 1 = 0x82 → x = taken.takeTouchAck n (b.drop 8)) ∧
         (field b 0 1 ≠ 0x81 → field b 0 1 ≠ 0x82 → (x.mailboxAt n).inFull = false ∧
           (x.mailboxAt n).out = (u.mailboxAt n).out ++ [leBytes 1 (field b 0 1) ++ [0] ++ leBytes 2 0x0601] ∧
           x.numAt Adr.platMsgRefused = (u.numAt Adr.platMsgRefused + 1) % 2 ^ 64))) ∧
     ((s.advance t).takesMessages n = true → (s.mailboxAt n).outFull = false →
       (n = 0 → ∀ r rest, (s.mailboxAt 0).out = r :: rest → ∃ x, exec (.mailboxOutWrite t m) s = .next x ∧
         (x.mailboxAt 0).outFull = true ∧ (x.mailboxAt 0).outLen = r.length ∧ (x.mailboxAt 0).out = rest ∧
         (r.length ≤ 256 → (x.mailboxAt 0).outBuf.take r.length = r)) ∧
       (n ≠ 0 → ∀ g, (s.advance t).nextMessage n = some g → ∃ x, exec (.mailboxOutWrite t m) s = .next x ∧
         (x.mailboxAt n).outFull = true ∧ (x.mailboxAt n).outLen = 8 + g.payload.length ∧
         field (x.mailboxAt n).outBuf 4 4 = ((s.mailboxAt n).msgSeq + 1) % 2 ^ 32 ∧
         x.numAt Adr.platMsgSent = (s.numAt Adr.platMsgSent + 1) % 2 ^ 64))) ∧
  (∀ (s : State) (t : Nat) (m : Fin 8) (payload : Bytes), s.Inv → let n := m.val; let u := s.arrival t
     let p := u.messagePort n
     m.val ≠ 0 → u.takesMessages n = true →
     (payload.length = 4 →
       (u.refuses p Adr.eventAck (.num (leNat payload)) = none → ∃ x, exec (.keyAck t m payload) s = .next x ∧
         x.keys.fifo = u.keys.fifo.filter (fun e => later32 e.seq (leNat payload)) ∧ x.host = u.host) ∧
       (∀ c, u.refuses p Adr.eventAck (.num (leNat payload)) = some c → ∃ x, exec (.keyAck t m payload) s = .next x ∧
         x.keys = u.keys ∧ (x.mailboxAt n).out = (u.mailboxAt n).out ++ [leBytes 1 0x81 ++ [0] ++ leBytes 2 c])) ∧
     (payload.length = 8 → field payload 1 3 = 0 → field payload 0 1 < 4 →
       let k := field payload 0 1; let v := field payload 4 4
       (u.refuses p (Adr.reportAck k) (.num v) = none → ∃ x, exec (.touchAck t m payload) s = .next x ∧
         (x.panelAt k).reports = (u.panelAt k).reports.filter (fun r => later32 r.seq v) ∧
         (∀ i, i ≠ k → x.panelAt i = u.panelAt i) ∧ x.host = u.host) ∧
       (∀ c, u.refuses p (Adr.reportAck k) (.num v) = some c → ∃ x, exec (.touchAck t m payload) s = .next x ∧
         x.panels = u.panels ∧ (x.mailboxAt n).out = (u.mailboxAt n).out ++ [leBytes 1 0x82 ++ [0] ++ leBytes 2 c])))

/-- FAULT_N is asserted exactly while SAFETY_STATE is not NORMAL, and every step keeps it so. -/
def Obligations.FaultPinFollowsSafetyState : Prop :=
  (State.reset.bin.faultN = true ∧ State.reset.bin.state ≠ .normal) ∧
  ∀ s t : State, (s.bin.faultN = true ↔ s.bin.state ≠ .normal) → step s = .next t →
    (t.bin.faultN = true ↔ t.bin.state ≠ .normal)

/-- Detection of SAFETY faults. A disagreement of the copies of a powered array's sequencer, or of the job
dispatcher, a clock that leaves its window and a monitored rail that leaves its own are each detected once: the
mechanism's bit is latched, the next record number is taken, and the reaction waits. The sequencer's array is held
and its job ends with ABORTED_FAULT, OTHER_SAFETY; with the dispatcher down no job starts. A clock or rail that is
back inside its window no longer counts as violated. Of two faults of the same cycle the one with the lower mechanism code
takes the lower number, and the other the next. -/
def Obligations.SafetyFaultsAreDetected : Prop :=
  ∀ (s : State) (t : Nat), s.Inv →
    let found (u x : State) (mechanism unit kind : Nat) : Prop := x.tick.faults = u.tick.faults + 1 ∧
      bitAt (x.numAt Adr.faultLatchedMask) mechanism = true ∧ x.log.nextSeq = nextSeq u.log.nextSeq ∧
      ∃ r, r ∈ x.bin.reactions ∧ r.cls = 1 ∧ r.mechanism = mechanism ∧ r.unit = unit ∧ r.unitKind = kind ∧
        r.t0 = u.tick.now ∧
        ((∀ e, e ∈ u.bin.reactions → e.t0 ≠ u.tick.now) →
          x.bin.reactions = u.bin.reactions ++ [r] ∧ r.seq = u.log.nextSeq) ∧
        (∀ e, u.bin.reactions = [e] → e.seq ≠ 0 → e.t0 = u.tick.now →
          (e.mechanism < mechanism → x.bin.reactions = [e, r] ∧ r.seq = u.log.nextSeq) ∧
          (mechanism < e.mechanism → x.bin.reactions = [r, { e with seq := u.log.nextSeq }] ∧ r.seq = e.seq))
    (∀ a : Fin 8, let u := s.advanceCharged t
      (u.arrAt a.val).powered = true → ∃ y : State, exec (.sequencerMismatch t a) s = .next y.dispatch ∧
        found u y 1 a.val 0 ∧ (y.arrAt a.val).state = .heldFault ∧ (y.arrAt a.val).verdict = 0 ∧
        ∀ q j, q < 32 → u.holder? a.val = some (q, j) → u.job? q j.submitSeq = some j → j.ended = none →
          y.endedAs q j.submitSeq 0x20 0x16) ∧
    (let u := s.advanceCharged t
     u.ingestRuns = true → ∃ x, exec (.dispatcherMismatch t) s = .next x ∧ found u x 1 20 4 ∧
      x.bin.dispatcherDown = true ∧ x.arrs = u.arrs ∧
      ((∀ e, e ∈ u.bin.reactions → e.t0 ≠ u.tick.now) → x.bin.dispatcherRef = u.log.nextSeq ∧ x.queues = u.queues)) ∧
    (let u := s.advance t
     (∀ d, u.domainRuns d = true → u.dormant = false → d ∉ u.bin.clocks →
       ∃ x, exec (.clockFault t d) s = .next x ∧ found u x 7 (domainCode d) 6 ∧ x.bin.clocks = u.bin.clocks ++ [d]) ∧
     (∀ d, d ∈ u.bin.clocks → exec (.clockFault t d) s = .next u) ∧
     (∀ r, u.railWatched r = true → r ∉ u.bin.rails →
       ∃ x, exec (.voltageFault t r) s = .next x ∧ found u x 8 (railCode r) 7 ∧ x.bin.rails = u.bin.rails ++ [r]) ∧
     (∀ r, r ∈ u.bin.rails → exec (.voltageFault t r) s = .next u) ∧
     (∀ d, ∃ x, exec (.clockFaultCleared t d) s = .next x ∧ d ∉ x.bin.clocks ∧ x.bin.rails = u.bin.rails ∧
       (∀ e, e ≠ d → (e ∈ x.bin.clocks ↔ e ∈ u.bin.clocks)) ∧ x.dict = s.dict) ∧
     (∀ r, ∃ x, exec (.voltageFaultCleared t r) s = .next x ∧ r ∉ x.bin.rails ∧ x.bin.clocks = u.bin.clocks ∧
       (∀ e, e ≠ r → (e ∈ x.bin.rails ↔ e ∈ u.bin.rails)) ∧ x.dict = s.dict))

/-- The reaction to a fault. The oldest reaction that waits for no verdict is carried out: its record is in the ring
in the same step in which FAULT_N asserts, which only a SAFETY fault does; an EVENT message is queued where messages
are enabled. A SAFETY record is never discarded, whatever the ring holds; without room to make, a LOGGED one is
counted in RECORDS_DISCARDED. A copy to the persistent area takes the oldest SAFETY record that waits; at 64 records
it replaces the oldest. -/
def Obligations.RecordsReachPersistentArea : Prop :=
  (∀ (s : State) (t : Nat) (r : FaultRx) (rest : List FaultRx), s.Inv → let u := s.advance t
     u.bin.reactions = r :: rest → u.dormant = false →
     (r.verdictOf.isSome → exec (.logbookCommit t) s = .next u) ∧
     (r.verdictOf = none → r.seq ≠ 0 →
       ∃ x, exec (.logbookCommit t) s = .next x ∧ x.bin.reactions = rest ∧ x.log.nextSeq = u.log.nextSeq ∧
         x.log.persist = u.log.persist ∧
         (r.cls = 1 → (∃ k, k ∈ x.log.ring ∧ k.seq = r.seq ∧ k.cls = 1 ∧ k ∈ x.log.copying) ∧ x.log.lastSeq = r.seq ∧
           x.bin.faultN = true ∧ x.bin.state = (if u.bin.state = .normal then .faultLatched else u.bin.state) ∧
           bitAt (x.numAt Adr.faultLatchedMask) r.mechanism = true ∧
           (u.flagAt Adr.safetyMsgEnable = true → u.bin.state ≠ .starting → x.bin.message.isSome ∧
             x.bin.alive = (u.bin.alive + 1) % 65536)) ∧
         (r.cls = 2 → x.bin.faultN = u.bin.faultN ∧ x.bin.state = u.bin.state ∧ x.log.copying = u.log.copying ∧
           (u.log.ring.length < 512 → ∃ k, x.log.ring = u.log.ring ++ [k] ∧ k.seq = r.seq ∧ k.cls = 2) ∧
           (u.log.ring.length = 512 → u.numAt Adr.logbookPolicy = 1 →
             (∀ k, k ∈ u.log.ring → u.exported k.seq = false) → x.log.ring = u.log.ring ∧
               x.numAt Adr.recordsDiscarded = (u.numAt Adr.recordsDiscarded + 1) % 2 ^ 64)))) ∧
  (∀ (s : State) (t : Nat) (k : LogRec) (rest : List LogRec), s.log.copying = k :: rest →
     ∃ x, exec (.persistCopy t) s = .next x ∧ x.log.copying = rest ∧ x.log.ring = s.log.ring ∧
       x.log.nextSeq = s.log.nextSeq ∧
       (s.log.persist.length < 64 → x.log.persist = s.log.persist ++ [k]) ∧
       (64 ≤ s.log.persist.length → x.log.persist = s.log.persist.drop 1 ++ [k]))

/-- The binnacle itself. A lockstep mismatch puts its fixed-form record, under the next number, into the ring,
latches bit 0x0D and resets the binnacle; its watchdog resets it without a record. Either way SAFETY_STATE reads
STARTING with FAULT_N asserted, and no message and no reaction is left. When the self-test then passes, SAFETY_STATE
is NORMAL with FAULT_N released where no mechanism is latched, else FAULT_LATCHED with FAULT_N asserted. The safety
message. The PERIODIC message of the tick just closed is queued once, SAFETY_MSG_OFFSET after the meridian that
closed it, with the next ALIVE; a message still unsent is replaced and counted. OUTPUT_VALID is 0 where a SAFETY
fault was detected in the tick, or SAFETY_STATE is not NORMAL, and a bit of it is set only for an enabled P0 queue.
The queued message goes out on the selected controller under SAFETY_MSG_ID and is counted. -/
def Obligations.BinnacleReports : Prop :=
  (∀ (s : State) (t : Nat), s.Inv → s.dormant = false → let u := s.advance t
     let restarts (x : State) : Prop := x.bin.state = .starting ∧ x.bin.faultN = true ∧ x.bin.reactions = [] ∧
       x.bin.message = none ∧ x.bin.alive = 0 ∧ x.numAt Adr.resetCause = 4
     (∃ x, exec (.binnacleLockstepMismatch t) s = .next x ∧ restarts x ∧
       bitAt (x.numAt Adr.faultLatchedMask) 0x0D = true ∧ x.log.nextSeq = nextSeq u.log.nextSeq ∧
       x.tick.faults = u.tick.faults + 1 ∧
       ∃ k, k ∈ x.log.ring ∧ k.seq = u.log.nextSeq ∧ k.cls = 1 ∧ k ∈ x.log.copying) ∧
     (∃ x, exec (.binnacleWatchdog t) s = .next x ∧ restarts x ∧ x.log = s.log) ∧
     (u.power.romOnly = false → (u.power.binnacleOk = true ∨ u.power.state = .booting) → u.bin.state = .starting →
       ∃ x, exec (.binnacleStart t) s = .next x ∧ x.dict = s.dict ∧
         (u.numAt Adr.faultLatchedMask = 0 → x.bin.state = .normal ∧ x.bin.faultN = false) ∧
         (u.numAt Adr.faultLatchedMask ≠ 0 → x.bin.state = .faultLatched ∧ x.bin.faultN = true))) ∧
  (∀ (s : State), s.Inv → s.dormant = false →
     (∀ n m0 m1 k (h : List (Nat × Nat)), s.tick.history = (k, m1) :: (n, m0) :: h → s.bin.described ≠ some n →
       s.flagAt Adr.safetyMsgEnable = true → s.bin.state ≠ .starting →
       ∃ x, exec .safetyMsgPeriodic s = .next x ∧ x.bin.described = some n ∧ x.bin.alive = (s.bin.alive + 1) % 65536 ∧
         x.bin.message = some (s.safetyBytes ((s.bin.alive + 1) % 65536) n 0 (s.outputValid n) s.bin.safetyInLast m0) ∧
         x.tick.now = max s.tick.now (m1 + s.numAt Adr.safetyMsgOffset * 1000) ∧
         (s.bin.message.isSome → x.numAt Adr.safetyMsgReplaced = (s.numAt Adr.safetyMsgReplaced + 1) % 2 ^ 64)) ∧
     (∀ n, (s.bin.safetyInLast ≠ 0 ∨ s.bin.state ≠ .normal → s.outputValid n = 0) ∧
       ∀ k, k < 16 → bitAt (s.outputValid n) k = true →
         s.enabledP0 (s.numAt (Adr.safetyOutput k)) = true ∧
         ∃ e, s.p0Endings (s.numAt (Adr.safetyOutput k)) n = [e] ∧ e.valid = true) ∧
     (∀ (t : Nat) (b : Bytes), s.bin.message = some b → (s.advance t).ctlRuns = true →
       ∃ x, exec (.safetyMsgTransmit t) s = .next x ∧ x.bin = { s.bin with message := none } ∧
         x.sent = s.sent ++ [.safetyFrame (s.numAt Adr.safetyCanController) (s.numAt Adr.safetyMsgId) b] ∧
         x.numAt Adr.safetyMsgSent = (s.numAt Adr.safetyMsgSent + 1) % 2 ^ 64))

/-- FAULT_ACK, once accepted after start-up, clears FAULT_LATCHED_MASK, releases FAULT_N and makes SAFETY_STATE
NORMAL; held arrays stay held. ARRAY_FAULT_CLEAR forgets the verdict of its held array, which stays held.
LOGBOOK_CLEAR empties the ring and sets LOGBOOK_EXPORTED_UPTO to the last number; PERSIST_CLEAR erases the persistent
records; both keep the next number and each the other's records. A read selector sets the copy of its own port only. -/
def Obligations.OwnerClearsFaults : Prop :=
  ∀ (s : State) (r : Req), s.Inv → let h := s.heard r.t r.port r.sender
    (s.grants r Adr.faultAck → h.bin.state ≠ .starting → ∃ x, exec (.faultAck r) s = .next x ∧
      x.numAt Adr.faultLatchedMask = 0 ∧ x.bin.faultN = false ∧ x.bin.state = .normal ∧ x.arrs = h.arrs ∧ x.log = h.log) ∧
    (let a := (writeValue Adr.arrayFaultClear r.payload).toNat
     s.grants r Adr.arrayFaultClear → ∃ x, exec (.arrayFaultClear r) s = .next x ∧
      (x.arrAt a) = { h.arrAt a with verdict := 0 } ∧ (x.arrAt a).state = .heldFault ∧
      ∀ k, k ≠ a → x.arrAt k = h.arrAt k) ∧
    (s.grants r Adr.logbookClear → ∃ x, exec (.logbookClear r) s = .next x ∧ x.log = { h.log with ring := [] } ∧
      x.numAt Adr.logbookExportedUpto = h.log.lastSeq) ∧
    (s.grants r Adr.persistClear → ∃ x, exec (.persistClear r) s = .next x ∧ x.log = { h.log with persist := [] }) ∧
    (s.grants r Adr.logbookReadSeq → ∃ x, exec (.readSelectorWrite r false) s = .next x ∧
      (x.portAt r.port).readSeq = (writeValue Adr.logbookReadSeq r.payload).toNat ∧
      (∀ p, p ≠ r.port → (x.portAt p).readSeq = (h.portAt p).readSeq) ∧ x.own = h.own) ∧
    (s.grants r Adr.persistReadIndex → ∃ x, exec (.readSelectorWrite r true) s = .next x ∧
      (x.portAt r.port).persistIndex = (writeValue Adr.persistReadIndex r.payload).toNat ∧
      (∀ p, p ≠ r.port → (x.portAt p).persistIndex = (h.portAt p).persistIndex) ∧ x.own = h.own)

/-- Scanning. Activity of the idle matrix starts scanning; in DORMANT it is a wake request while its enable bit is
set. A scan that is due decides each key in use: its debounced state changes exactly when this scan completes
DEBOUNCE_SCANS consecutive readings opposite to it; a reading that agrees ends the run. A debounced press of an
enabled key queues a KEY_PRESS event while no lock is in force and the FIFO has room. A sample of the buttons, when
it is due, decides each button by the same rule: its debounced state changes exactly when the sample completes
BTN_DEBOUNCE consecutive readings opposite to it. Encoders. A step in which both inputs change together counts
nothing but ENC_ERRORS; any other accepted step counts one, signed by its direction; at COUNTS_PER_DETENT the
sub-count returns to 0 and ENC_POSITION counts one detent, wrapping at the ends of I32 and then setting ENC_WRAP.
Steps faster than the rated signal stop the model. A report window that closes queues the net detents, and nothing
where the net is 0. -/
def Obligations.KeysButtonsEncoders : Prop :=
  (∀ (s : State) (t : Nat), s.Inv →
     (let u := s.advance t
      (u.ctlServes = true → s.keys.scanning = false → ∃ x, exec (.keyActivity t) s = .next x ∧
        x.keys.scanning = true ∧ x.keys.activeAt = t ∧ x.keys.lastScan = none ∧ x.keys.idleScans = 0) ∧
      (s.dormant = true → bitAt (s.numAt Adr.wakeEnable) 2 = true → ∃ x, exec (.keyActivity t) s = .next x ∧
        x.keys.wakeRequest = true ∧ bitAt x.power.wakeCause 2 = true)) ∧
     (∀ down : List Nat, s.scanDue t = true → s.numAt Adr.keyRows ≤ 16 →
       let v := (s.advance t).applyMatrix t
       let need := s.numAt Adr.debounceScans
       let change (c : Nat) : Bool :=
         let run := ((v.keys.runs.find? (fun r => r.code == c)).map (·.len)).getD 0
         down.contains c != v.keys.pressed.contains c && need ≤ run + 1
       ∃ x, exec (.keyScan t down) s = .next x ∧
         (∀ c, c ∈ v.keysInUse →
           (x.keys.pressed.contains c = if change c then down.contains c else v.keys.pressed.contains c)) ∧
         (∀ c, c ∈ v.keysInUse → down.contains c = v.keys.pressed.contains c → ∀ r, r ∈ x.keys.runs → r.code ≠ c) ∧
         (∀ c, c ∈ v.keysInUse → change c = true → down.contains c = true → v.keyEnabled c = true →
           v.keys.mute.contains c = false → v.keys.lock = .off → v.keys.fifo.length + (v.keysInUse.filter change).length + 1 ≤ 64 →
           ∃ e, e ∈ x.keys.fifo ∧ e.kind = 1 ∧ e.synthetic = false ∧ e.code = c) ∧
         x.numAt Adr.scans = (v.numAt Adr.scans + 1) % 2 ^ 64)) ∧
  (∀ (s : State) (t levels : Nat), s.Inv → let u := s.advance t
     u.ctlServes = true → (∀ p, s.keys.btnLast = some p → p + s.numAt Adr.btnPeriodMs * 1000000 ≤ t) →
     ∃ x, exec (.buttonSample t levels) s = .next x ∧ x.keys.btnLast = some t ∧ x.keys.pressed = s.keys.pressed ∧
       ∀ b, b < 16 →
         let down := bitAt levels b != bitAt (s.numAt Adr.btnPolarity) b
         let was := s.keys.btnPressed.contains b
         let run := ((s.keys.btnRuns.find? (fun r => r.code == b)).map (·.len)).getD 0
         x.keys.btnPressed.contains b = if down != was && s.numAt Adr.btnDebounce ≤ run + 1 then down else was) ∧
  (∀ (s : State) (t : Nat) (e : Fin 8), s.Inv → let n := e.val; let u := s.advance t; let w := s.encoderAt n
     (∀ a b, s.ctlServes = true → s.stepTooFast n t = true → exec (.encoderStep t e a b) s = .fault .outsideRating) ∧
     (s.stepTooFast n t = false → u.ctlServes = true → s.flagAt (Adr.encEnable n) = true →
       (exec (.encoderStep t e (!w.a) (!w.b)) s = .next ((u.setEncoder n (fun y => { y with
         a := !w.a, b := !w.b, lastStep := some t })).bump Adr.encErrors)) ∧
       (∀ a b, (a != w.a) != (b != w.b) →
         let lead : Int := if (if a != w.a then a != w.b else b == w.a) then 1 else -1
         let d : Int := if s.numAt (Adr.encDirection n) = 1 then -lead else lead
         let per : Int := s.numAt (Adr.countsPerDetent n)
         let sub : Int := w.sub + d
         ∃ x, exec (.encoderStep t e a b) s = .next x ∧ (x.encoderAt n).a = a ∧ (x.encoderAt n).b = b ∧
           (∀ k, k ≠ n → x.encoderAt k = s.encoderAt k) ∧
           (-per < sub → sub < per → (x.encoderAt n).sub = sub ∧ x.dict = s.dict) ∧
           (per ≤ sub ∨ sub ≤ -per → (x.encoderAt n).sub = 0 ∧
             let up : Int := if 0 < sub then 1 else -1
             let now := s.intAt 32 (Adr.encPosition n)
             x.numAt (Adr.encPosition n) = ofSigned 32 (now + up) ∧
             (x.numAt (Adr.encWrap n) = if now + up < -(2 ^ 31) ∨ 2 ^ 31 ≤ now + up then 1
               else s.numAt (Adr.encWrap n))))) ∧
     (∀ first, w.windowAt = some first → s.ctlServes = true →
       let v := s.advance w.windowEnd
       ∃ x, exec (.encoderReport e) s = .next x ∧ (x.encoderAt n).windowAt = none ∧
         (w.net = 0 → x.keys.fifo = s.keys.fifo) ∧
         (w.net ≠ 0 → s.keys.fifo.length + 2 ≤ 64 → ∃ y, x.keys.fifo = s.keys.fifo ++ [y] ∧ y.kind = 5 ∧ y.code = n ∧
           y.data = ofSigned 16 w.net ∧ y.tick = (v.stampAt first).tick ∧ y.offset = (v.stampAt first).offset)))

/-- SCAN_MODE returns to IDLE after two consecutive scans in which no key in use reads pressed and every debounced
state is released, and only then: the first such scan counts one, any other scan counts none. -/
def Obligations.MatrixGoesIdle : Prop :=
  ∀ (s : State) (t : Nat) (down : List Nat), s.Inv → s.scanDue t = true →
    let v := (s.advance t).applyMatrix t
    ∃ x, exec (.keyScan t down) s = .next x ∧
      let quiet := x.keys.pressed = [] ∧ ∀ c, c ∈ v.keysInUse → down.contains c = false
      (quiet → 1 ≤ s.keys.idleScans → x.keys.scanning = false ∧ x.keys.idleScans = 0) ∧
      (quiet → s.keys.idleScans = 0 → x.keys.scanning = true ∧ x.keys.idleScans = 1) ∧
      (¬ quiet → x.keys.scanning = true ∧ x.keys.idleScans = 0)

/-- The event FIFO. With two entries free an event is queued under the next number; with one free an OVERFLOW entry
takes its place; a full FIFO only counts on in it. Each event lost is counted, and 64 entries are never exceeded.
EVENT_ACK frees exactly the entries that are not later than its number. The key lock. A write of 1 enters it at once
while the matrix is idle, else asks for it, and it is entered at the next scan boundary; reported keys in scope are
then released. A write of 0 ends it; keys in scope that are held stay muted. The unlock timer's end sets
UNLOCK_PROGRESS to 0 and counts a failure. A write of KEY_ENABLE_MASK keeps as reported exactly the keys that are
still enabled. -/
def Obligations.KeyEventsAndLock : Prop :=
  (∀ (s : State) (kind code data decided : Nat) (synthetic : Bool) (st : Stamp), s.Inv →
     let x := s.queueEvent kind synthetic code data st decided; let n := s.keys.fifo.length
     (n ≤ 64 → x.keys.fifo.length ≤ 64) ∧
     (n + 2 ≤ 64 → ∃ e, x.keys.fifo = s.keys.fifo ++ [e] ∧ e.kind = kind ∧ e.code = code ∧ e.data = data ∧
       e.seq = s.keys.nextSeq ∧ x.keys.nextSeq = (s.keys.nextSeq + 1) % 2 ^ 32 ∧ x.valAt Adr.eventsLost = s.valAt Adr.eventsLost) ∧
     (n = 63 → ∃ e, x.keys.fifo = s.keys.fifo ++ [e] ∧ e.kind = 8 ∧ e.data = 1 ∧
       x.numAt Adr.eventsLost = (s.numAt Adr.eventsLost + 1) % 2 ^ 64) ∧
     (n = 64 → x.keys.fifo.length = 64 ∧ x.keys.fifo.take 63 = s.keys.fifo.take 63 ∧
       x.numAt Adr.eventsLost = (s.numAt Adr.eventsLost + 1) % 2 ^ 64) ∧
     (∀ r : Req, let h := s.heard r.t r.port r.sender; let v := (writeValue Adr.eventAck r.payload).toNat
       s.grants r Adr.eventAck → ∃ x, exec (.eventAck r) s = .next x ∧
         x.keys = { h.keys with fifo := h.keys.fifo.filter (fun e => later32 e.seq v) })) ∧
  (∀ (s : State), s.Inv →
     let entered (u x : State) : Prop := x.keys.lock = .on ∧ x.keys.progress = 0 ∧ x.keys.unlockAt = none ∧
       (x.keys.reported = if bitAt (u.numAt Adr.lockScope) 0 then [] else u.keys.reported) ∧
       (x.keys.btnReported = if bitAt (u.numAt Adr.lockScope) 1 then [] else u.keys.btnReported) ∧
       x.keys.pressed = u.keys.pressed
     (∀ r : Req, let h := s.heard r.t r.port r.sender
       (s.grants { r with payload := leBytes 1 1 } Adr.keyLock → h.keys.lock = .off →
         (h.keys.scanning = false → ∃ x, exec (.keyLock r) s = .next x ∧ entered h x) ∧
         (h.keys.scanning = true → ∃ x, exec (.keyLock r) s = .next x ∧ x.keys = { h.keys with lock := .requested 0 })) ∧
       (s.grants { r with payload := leBytes 1 0 } Adr.keyLock → h.keys.lock = .on →
         ∃ x, exec (.keyUnlock r) s = .next x ∧ x.keys.lock = .off ∧ x.keys.progress = 0 ∧
           (x.keys.mute = if bitAt (h.numAt Adr.lockScope) 0 then h.keys.pressed else h.keys.mute) ∧
           (x.keys.btnMute = if bitAt (h.numAt Adr.lockScope) 1 then h.keys.btnPressed else h.keys.btnMute))) ∧
     (∀ t cause, let u := s.advance t
       s.keys.lock = .requested cause → u.ctlServes = true → s.keys.scanEnd ≤ u.tick.now →
       ∃ x, exec (.lockEntry t) s = .next x ∧ entered u x) ∧
     (∀ t, s.keys.unlockAt = some t → s.keys.lock = .on → s.dormant = false → ∃ x, exec .unlockTimeout s = .next x ∧
       x.keys = { s.keys with progress := 0, unlockAt := none } ∧
       x.numAt Adr.unlockFailures = (s.numAt Adr.unlockFailures + 1) % 2 ^ 64) ∧
     (∀ (p : Pdu) (v : Bytes), let h := s.heard p.t p.port p.sender
       s.grantsBlock p Adr.keyEnableMask v → h.bytesAt Adr.keyEnableMask ≠ v →
       ∃ x, exec (.keyEnableMask p) s = .next x ∧ x.bytesAt Adr.keyEnableMask = v ∧
         ∀ c, c ∈ x.keys.reported ↔ c ∈ h.keys.reported ∧ bitAt ((nth v (c / 8) 0).toNat) (c % 8) = true))

/-- A panel's life. Enabling it starts its calibration, disabling it stops it. In calibration a frame starts on the
next frequency that is wanted; in operation a frame that is due starts, and keeps its settings until its end. A
self-test on an ACTIVE panel with a valid map releases its contacts and runs; it ends with the panel ACTIVE, its
result held. A REPORT_ACK frees exactly the reports that are not later than its number. Display sync. An edge of an
input opens the quiet interval of exactly the panels that follow the input and the edge's direction and are not OFF.
Without an edge for DSYNC_TIMEOUT_MS an ACTIVE panel in quiet mode will fall back at its next frame start. A write of
a reference map, in its debug-unlocked carrier, replaces exactly its panel's map. -/
def Obligations.TouchPanels : Prop :=
  (∀ (s : State) (p : Fin 4), s.Inv → let n := p.val
     (∀ r : Req, let h := s.heard r.t r.port r.sender
       s.grants r (Adr.panelEnable n) →
       (writeValue (Adr.panelEnable n) r.payload = .num 1 → h.valAt (Adr.panelEnable n) = .num 0 → h.touchServes = true →
         ∃ x, exec (.panelEnable r p) s = .next x ∧ (x.panelAt n).state = .calibrating ∧ (x.panelAt n).calibrated = [] ∧
           (x.panelAt n).contacts = [] ∧ x.flagAt (Adr.panelEnable n) = true) ∧
       (writeValue (Adr.panelEnable n) r.payload = .num 0 → h.valAt (Adr.panelEnable n) = .num 1 →
         ∃ x, exec (.panelEnable r p) s = .next x ∧ (x.panelAt n).state = .off ∧ (x.panelAt n).contacts = [] ∧
           x.flagAt (Adr.panelEnable n) = false)) ∧
     (∀ t, let u := s.advance t; let x := s.panelAt n
       u.touchServes = true → x.frameStart = none →
       (∀ k, x.state = .calibrating → u.nextCalibration n = some k →
         ∃ y, exec (.touchFrameStart t p) s = .next y ∧ (y.panelAt n).frameStart = some t ∧
           (y.panelAt n).scanFreq = k ∧ (y.panelAt n).cfg = some (u.panelCfg n false)) ∧
       (x.state = .active → u.frameDue n t = true →
         ∃ y, exec (.touchFrameStart t p) s = .next y ∧ (y.panelAt n).frameStart = some t ∧
           (y.panelAt n).cfg = some (u.panelCfg n (u.quietNext n)) ∧ (y.panelAt n).quiet = u.quietNext n) ∧
       (x.state = .active → u.frameDue n t = false → exec (.touchFrameStart t p) s = .next u)) ∧
     (∀ r : Req, let h := s.heard r.t r.port r.sender
       s.grants r Adr.selfTest → (writeValue Adr.selfTest r.payload).toNat = 2 ^ n →
       (h.mapStatusOf n = 0 → ∃ x, exec (.selfTest r) s = .next x ∧ (x.panelAt n).state = .selfTest ∧
         (x.panelAt n).contacts = [] ∧ (x.panelAt n).frameStart = some h.tick.now) ∧
       (h.mapStatusOf n ≠ 0 → ∃ x, exec (.selfTest r) s = .next x ∧ (x.panelAt n).state = .active ∧
         field (x.panelAt n).result 0 1 = 3)) ∧
     (∀ (f : TouchFrame) (counts : List Nat) (b : Nat) (c : PanelCfg), let u := s.advance f.t; let x := s.panelAt n
       u.touchServes = true → x.state = .selfTest → x.frameStart = some b → x.cfg = some c →
       frameOver c.drives (u.scanAt n c 8).2 ((c.drives + c.senses) * 20) (u.scanAt n c 8).1 b f.t = true →
       ∃ y, exec (.selfTestDone p f counts) s = .next y ∧ (y.panelAt n).state = .active ∧ (y.panelAt n).frameStart = none ∧
         field (y.panelAt n).result 1 1 = n ∧ (field (y.panelAt n).result 0 1 = 1 ∨ field (y.panelAt n).result 0 1 = 2)) ∧
     (∀ r : Req, let h := s.heard r.t r.port r.sender; let v := (writeValue (Adr.reportAck n) r.payload).toNat
       s.grants r (Adr.reportAck n) → ∃ x, exec (.reportAck r p) s = .next x ∧
         (x.panelAt n).reports = (h.panelAt n).reports.filter (fun k => later32 k.seq v) ∧
         ∀ k, k ≠ n → x.panelAt k = h.panelAt k)) ∧
  (∀ (s : State) (t : Nat), s.Inv → let u := s.advance t
     (∀ (input : Fin 4) (falling : Bool), u.touchServes = true → ∃ x, exec (.dsyncEdge t input falling) s = .next x ∧
       ∀ p, p < 4 →
         let hit := u.numAt (Adr.dsyncInput p) = input.val ∧ u.numAt (Adr.dsyncPolarity p) = b2n falling ∧
           (s.panelAt p).state ≠ .off
         (hit → (x.panelAt p).lastEdge = some t ∧
           (x.panelAt p).goodEdges = (match (s.panelAt p).lastEdge with
             | some e => if e + 100000 ≤ t ∧ t ≤ e + u.numAt (Adr.dsyncTimeoutMs p) * 1000000
                 then (s.panelAt p).goodEdges + 1 else 1
             | none => 1)) ∧
         (¬ hit → x.panelAt p = s.panelAt p)) ∧
     (∀ p : Fin 4, let x := s.panelAt p.val
       u.touchServes = true → x.state = .active → u.numAt (Adr.noiseMode p.val) = 1 → x.fallback = false →
       max x.waitFrom (x.lastEdge.getD 0) + u.numAt (Adr.dsyncTimeoutMs p.val) * 1000000 ≤ t →
       ∃ y, exec (.dsyncTimeout t p) s = .next y ∧ y.panelAt p.val = { x with
         fallbackWanted := true, goodEdges := 0, frameStart := if x.quiet then none else x.frameStart } ∧ y.dict = s.dict) ∧
     (∀ (m : Pdu) (v : Bytes), let h := s.heard m.t m.port m.sender
       s.grantsBlock m Adr.touchRefMapWrite v → h.nvm.refMaps.length = 4 →
       ∃ x, exec (.touchRefMapWrite m) s = .next x ∧ nth x.nvm.refMaps (field v 0 1) [] = v.drop 4 ∧
         (∀ k, k ≠ field v 0 1 → nth x.nvm.refMaps k [] = nth h.nvm.refMaps k []) ∧ x.nvm.bankA = h.nvm.bankA ∧
         x.nvm.bankB = h.nvm.bankB))

/-- Frames. The end of a frame of an ACTIVE panel counts it, and holds a report exactly where the frame has a
contact; of a calibrating panel it keeps the frequency's raw counts, and after the last frequency wanted the panel is
ACTIVE. At most ten contacts are tracked, each under an ID of its own. -/
def Obligations.TouchFramesTrackContacts : Prop :=
  ∀ (s : State) (p : Fin 4) (f : TouchFrame) (b : Nat) (c : PanelCfg), s.Inv → let n := p.val
    let u := s.advance f.t; let x := s.panelAt n
    let raw := (padTo f.raw (c.drives * c.senses) 0).map (fun v => min v 65535)
    (∀ (ks : List Contact) (cands : List Candidate) (start : List Nat) (ds : List Int),
      (ks.map (·.id)).Nodup → (∀ k, k ∈ ks → k.id < 10) →
      let tr := trackFrame c ks cands start (peaksOf c ds)
      (tr.contacts.map (·.id)).Nodup ∧ tr.contacts.length ≤ 10 ∧ ∀ k, k ∈ tr.contacts → k.id < 10) ∧
    let scan := u.scanAt n c x.scanFreq
    (u.touchServes = true → x.frameStart = some b → x.cfg = some c →
      (c.quiet = false → frameOver c.drives scan.2 c.listen scan.1 b f.t = true) →
      (c.quiet = true → c.drives ≤ c.quietSteps scan.1 b f.t x.edges) →
      (x.state = .active → ∃ y, exec (.touchFrameEnd p f) s = .next y ∧
        let ds := List.zipWith (fun (e r : Nat) => (e : Int) - r)
          (padTo (nth x.baselines x.scanFreq []) raw.length 0) raw
        let tr := trackFrame c x.contacts x.candidates (if x.atStartFirst then x.atStart else []) (peaksOf c ds)
        (y.panelAt n).frameSeq = (x.frameSeq + 1) % 2 ^ 32 ∧ (y.panelAt n).frameStart = none ∧
          (y.panelAt n).raw = raw ∧ (y.panelAt n).delta = ds ∧
          (tr.contacts = [] → (y.panelAt n).reports = x.reports) ∧
          (tr.contacts ≠ [] → ∃ r, (y.panelAt n).reports.getLast? = some r ∧ r.seq = x.nextSeq) ∧
          (y.panelAt n).contacts = sortContacts (tr.contacts.filter (fun k => k.state != 3))) ∧
      (x.state = .calibrating → ∃ y, exec (.touchFrameEnd p f) s = .next y ∧ (y.panelAt n).frameStart = none ∧
        let done := (x.calibrated ++ [(x.scanFreq, raw)]).map (·.1)
        let want := bitsOf 8 (u.numAt (Adr.freqEnable n)) ++ (if u.mapStatusOf n = 0 then [8] else [])
        ((∃ k, k ∈ want ∧ k ∉ done) → (y.panelAt n).state = .calibrating ∧
          (y.panelAt n).calibrated = x.calibrated ++ [(x.scanFreq, raw)]) ∧
        ((∀ k, k ∈ want → k ∈ done) → (y.panelAt n).state = .active ∧ (y.panelAt n).calibrated = [])))

/-- The sequencer's steps. ENABLE_ON and ENABLE_OFF set exactly their enable output and last 1 µs; a REQUIRE step
whose level matches lasts 1 µs; a WAIT step ends where it starts when the level matches, and waits otherwise; DELAY
ends after its ARG. When a step ends at t the next step starts at t, or the script is over. A watched line found at 1
is armed. How a sequence starts and ends. An accepted SEQ_RUN starts its sequence within 10 µs and disarms the lines
it expects low. END, a failed REQUIRE, a WAIT that reaches its ARG and an accepted SEQ_ABORT each end it once, with
their RESULT, step, line, duration and the levels at the end in SEQ_LAST_RESULT; every enable output keeps its level,
only the two failures count in SEQ_FAILURES, and the SEQUENCE bit of PLAT_PENDING is set. -/
def Obligations.SequencesFollowScripts : Prop :=
  (∀ (s : State) (q : Sequence) (st : SeqStep), s.Inv → q.s < 8 →
     let goesOn (y : State) (t en : Nat) : Prop := y.plat.enState = en ∧ y.plat.pgState = s.plat.pgState ∧
       (q.step + 1 < (s.script q.s).length →
         y.plat.sequence = some { q with step := q.step + 1, stepAt := t, begun := false }) ∧
       ((s.script q.s).length ≤ q.step + 1 → y.plat.sequence = none ∧
         field (y.bytesAt (Adr.seqLastResult q.s)) 1 1 = 0 ∧ bitAt (y.numAt Adr.platPending) 2 = true)
     let armed (y : State) : Prop := bitAt (s.numAt Adr.pgWatchMask) st.line = true → bitAt y.plat.armed st.line = true
     let en := s.plat.enState; let pg := s.plat.pgState; let t0 := q.stepAt; let t1 := q.stepAt + 1000
     let waiting : State := (s.advance t0).setPlat (fun y => { y with sequence := some { q with begun := true } })
     (s.atStep 1 false = some (q, st) → ∃ y, exec .enableOn s = .next y ∧ goesOn y t1 (setBit en st.line true)) ∧
     (s.atStep 2 false = some (q, st) → ∃ y, exec .enableOff s = .next y ∧ goesOn y t1 (setBit en st.line false)) ∧
     (s.atStep 3 false = some (q, st) →
       (bitAt pg st.line = true → ∃ y, exec .waitPgHigh s = .next y ∧ goesOn y t0 en ∧ armed y) ∧
       (bitAt pg st.line = false → exec .waitPgHigh s = .next waiting)) ∧
     (s.atStep 4 false = some (q, st) →
       (bitAt pg st.line = false → ∃ y, exec .waitPgLow s = .next y ∧ goesOn y t0 en) ∧
       (bitAt pg st.line = true → exec .waitPgLow s = .next waiting)) ∧
     (s.atStep 5 false = some (q, st) → exec .delay s = .next waiting) ∧
     (s.atStep 5 true = some (q, st) →
       ∃ y, exec .delayExpiry s = .next y ∧ goesOn y (q.stepAt + st.arg * 1000) en) ∧
     (s.atStep 6 false = some (q, st) → bitAt pg st.line = true →
       ∃ y, exec .requirePgHigh s = .next y ∧ goesOn y t1 en ∧ armed y) ∧
     (s.atStep 7 false = some (q, st) → bitAt pg st.line = false →
       ∃ y, exec .requirePgLow s = .next y ∧ goesOn y t1 en)) ∧
  (∀ (s : State) (q : Sequence), s.Inv → q.s < 8 →
     let ended (u y : State) (result line t : Nat) : Prop :=
       y.plat.sequence = none ∧ y.plat.enState = u.plat.enState ∧ bitAt (y.numAt Adr.platPending) 2 = true ∧
       y.bytesAt (Adr.seqLastResult q.s) = leBytes 1 q.s ++ leBytes 1 result ++ leBytes 1 q.step ++ leBytes 1 line ++
         leBytes 4 ((t - q.startAt) / 1000) ++ leBytes 4 u.plat.enState ++ leBytes 4 u.plat.pgState ∧
       y.numAt Adr.seqFailures = (if result = 1 ∨ result = 2 then (u.numAt Adr.seqFailures + 1) % 2 ^ 64
         else u.numAt Adr.seqFailures)
     (∀ r : Req, let h := s.heard r.t r.port r.sender; let k := (writeValue Adr.seqRun r.payload).toNat
       s.grants r Adr.seqRun → ∃ y, exec (.seqRun r) s = .next y ∧ y.plat.enState = h.plat.enState ∧
         (∃ d, d ≤ 10000 ∧ let b := h.tick.now + d
           y.plat.sequence = some { s := k, step := 0, stepAt := b, startAt := b, begun := false }) ∧
         (∀ st, st ∈ h.script k → st.op = 4 ∨ st.op = 7 → bitAt y.plat.armed st.line = false)) ∧
     (∀ r : Req, let h := s.heard r.t r.port r.sender
       s.grants r Adr.seqAbort → h.plat.sequence = some q →
         ∃ y, exec (.seqAbort r) s = .next y ∧ ended h y 3 255 h.tick.now) ∧
     (∀ st, s.atStep 0 false = some (q, st) → ∃ y, exec .seqEnd s = .next y ∧ ended s y 0 255 q.stepAt) ∧
     (∀ st, s.atStep 6 false = some (q, st) → bitAt s.plat.pgState st.line = false →
       ∃ y, exec .requirePgHigh s = .next y ∧ ended s y 2 st.line q.stepAt) ∧
     (∀ st, s.atStep 7 false = some (q, st) → bitAt s.plat.pgState st.line = true →
       ∃ y, exec .requirePgLow s = .next y ∧ ended s y 2 st.line q.stepAt) ∧
     (∀ st, s.atStep 3 true = some (q, st) ∨ s.atStep 4 true = some (q, st) →
       ∃ y, exec .waitTimeout s = .next y ∧ ended s y 1 st.line (q.stepAt + st.arg * 1000)))

/-- Power-good lines. A new filtered level is taken by exactly its line. An armed watched line that falls is a loss,
counted and disarmed; when it rises again it is armed. A waiting step for the line ends at that instant. Platform
events. Every event of a class sets its PLAT_PENDING bit. Where a mailbox port carries the class, its message joins
that port's queue; a queue of 16 drops its oldest message, which is counted and remembered as LOST; other ports get
nothing, nor does any port where none carries the class. A write to PLAT_PENDING clears exactly the bits written as
1. -/
def Obligations.PowerGoodIsWatched : Prop :=
  (∀ (s : State) (t : Nat) (line : Fin 32) (pin : Bool), s.Inv →
     let u := s.advance t; let l := line.val; let high := pin == bitAt (u.numAt Adr.pgPolarity) l
     let watched := bitAt (u.numAt Adr.pgWatchMask) l
     u.ctlServes = true →
     (bitAt s.plat.pgState l = high → exec (.pgChange t line pin) s = .next u) ∧
     (bitAt s.plat.pgState l ≠ high → ∃ x, exec (.pgChange t line pin) s = .next x ∧
       x.plat.enState = s.plat.enState ∧ (∀ k, bitAt x.plat.pgState k = if k = l then high else bitAt s.plat.pgState k) ∧
       (high = false → watched = true → bitAt s.plat.armed l = true → bitAt x.plat.armed l = false ∧
         bitAt x.plat.lost l = true ∧ x.numAt Adr.pgLosses = (u.numAt Adr.pgLosses + 1) % 2 ^ 64 ∧
         x.numAt Adr.supplyEvents = (u.numAt Adr.supplyEvents + 1) % 2 ^ 64) ∧
       (high = true → watched = true → bitAt s.plat.lost l = true → bitAt x.plat.armed l = true ∧
         bitAt x.plat.lost l = false ∧ x.numAt Adr.pgLosses = u.numAt Adr.pgLosses ∧
         x.numAt Adr.supplyEvents = (u.numAt Adr.supplyEvents + 1) % 2 ^ 64) ∧
       (∀ q st, u.atStep (if high then 3 else 4) true = some (q, st) → st.line = l →
         q.step + 1 < (u.script q.s).length →
         x.plat.sequence = some { q with step := q.step + 1, stepAt := t, begun := false }))) ∧
  (∀ (s : State), s.Inv →
     (∀ k t data, k < 3 → let x := s.platEvent k t data
       bitAt (x.numAt Adr.platPending) k = true ∧
       (∀ m, s.carrier (k + 2) = some m →
         let old := (s.mailboxAt m).plat
         (∃ y, (x.mailboxAt m).plat = (if 16 ≤ old.length then old.drop 1 else old) ++ [y] ∧ y.type = k + 3) ∧
         (16 ≤ old.length → x.numAt Adr.platMsgLost = (s.numAt Adr.platMsgLost + 1) % 2 ^ 64 ∧
           (x.mailboxAt m).lost = (s.mailboxAt m).lost ++ (old.take 1).map (·.type)) ∧
         ∀ n, n ≠ m → (x.mailboxAt n).plat = (s.mailboxAt n).plat) ∧
       (s.carrier (k + 2) = none → ∀ n, (x.mailboxAt n).plat = (s.mailboxAt n).plat)) ∧
     (∀ r : Req, let h := s.heard r.t r.port r.sender; let v := (writeValue Adr.platPending r.payload).toNat
       s.grants r Adr.platPending → ∃ x, exec (.platPendingClear r) s = .next x ∧ x.plat = h.plat ∧
         ∀ k, k < 3 → bitAt (x.numAt Adr.platPending) k = (bitAt (h.numAt Adr.platPending) k && !(bitAt v k))))

/-- A thermal sample that is due. Every channel is judged on its own: a disabled one loses its crossing states; a
good on-die reading, with its OFFSET, becomes TEMP and meets the three thresholds; a short or an open NTC is FAULT
and keeps the rest; a failed SMBus read counts, and the third in a row is FAULT. A CRITICAL crossing of a channel of
TRIP_MASK asserts THERM_TRIP_N; with TRIP_LATCH set nothing of a sample releases it. An accepted TRIP_CLEAR releases
it. Vehicle supply and battery. A supply sample that is due stores its voltage rounded half up and judges the two
downward and two upward thresholds. A good poll that is due makes the battery PRESENT, stores BATT_DATA and judges
the state of charge; the third failed poll in a row makes it ABSENT, and BATT_DATA keeps its last values. -/
def Obligations.EnvironmentIsMonitored : Prop :=
  (∀ (s : State), s.Inv →
     (∀ (t : Nat) (readings : List TempReading), let u := s.advance t
       let h : Int := u.numAt Adr.thermHyst; let d := u.numAt Adr.thermDwell
       u.ctlServes = true → (∀ b, s.plat.thermAt = some b → b + u.numAt Adr.thermSampleMs * 1000000 ≤ t) →
       ∃ x, exec (.thermalSample t readings) s = .next x ∧ x.plat.thermAt = some t ∧
         (∀ ch r, ch < 24 → readings[ch]? = some r →
           let y := s.channelAt ch; let z := x.channelAt ch
           (u.flagAt (Adr.chEnable ch) = false →
             z = { y with warn := Crossing.zero, high := Crossing.zero, critical := Crossing.zero }) ∧
           (u.flagAt (Adr.chEnable ch) = true →
             (∀ v, r = .onDie v → ch < 12 →
               let temp := clampInt (v + u.intAt 16 (Adr.offset ch)) (-32768) 32767
               z = { y with temp := temp, fault := false, fails := 0,
                            warn := (y.warn.up (u.intAt 16 (Adr.warn ch)) h temp d).1,
                            high := (y.high.up (u.intAt 16 (Adr.high ch)) h temp d).1,
                            critical := (y.critical.up (u.intAt 16 (Adr.critical ch)) h temp d).1 }) ∧
             (∀ c, r = .ntc c → 12 ≤ ch → ch < 20 → c ≤ 8 ∨ 4087 ≤ c → z = { y with fault := true }) ∧
             (r = .smbusFail → 20 ≤ ch → u.numAt (Adr.smbTempAddr (ch - 20)) ≠ 0 →
               z = { y with fails := y.fails + 1, fault := y.fault || 3 ≤ y.fails + 1 })) ∧
           (y.critical.crossed = false → z.critical.crossed = true → bitAt (u.numAt Adr.tripMask) ch = true →
             x.plat.trip = true)) ∧
         (s.plat.trip = true → u.flagAt Adr.tripLatch = true → x.plat.trip = true)) ∧
     (∀ r : Req, let h := s.heard r.t r.port r.sender
       s.grants r Adr.tripClear → h.tripHeld = false ∧ ∃ x, exec (.tripClear r) s = .next x ∧
         x.plat = { h.plat with trip := false } ∧
         x.numAt Adr.thermalEvents = (if h.plat.trip then (h.numAt Adr.thermalEvents + 1) % 2 ^ 64
           else h.numAt Adr.thermalEvents))) ∧
  (∀ (s : State) (t : Nat), s.Inv → let u := s.advance t
     let level (i : Nat) := nth s.plat.vsup i Crossing.zero; let soc (i : Nat) := nth s.plat.battSoc i Crossing.zero
     u.ctlServes = true →
     (∀ code, (∀ b, s.plat.vsupAt = some b → b + u.numAt Adr.vsupSampleMs * 1000000 ≤ t) →
       ∃ x, exec (.vsupSample t code) s = .next x ∧
         let mv := x.plat.vsupMv; let h : Int := u.numAt Adr.vsupHyst; let d := u.numAt Adr.vsupDwell
         mv * 8190000 ≤ 2 * (code * 1800 * u.numAt Adr.vsupDiv) + 4095000 ∧
         2 * (code * 1800 * u.numAt Adr.vsupDiv) + 4095000 < (mv + 1) * 8190000 ∧
         x.plat.vsup = [((level 0).down (u.numAt Adr.underCrit) h mv d).1, ((level 1).down (u.numAt Adr.under) h mv d).1,
           ((level 2).up (u.numAt Adr.over) h mv d).1, ((level 3).up (u.numAt Adr.overCrit) h mv d).1]) ∧
     (u.flagAt Adr.battEnable = true → (∀ b, s.plat.battAt = some b → b + u.numAt Adr.battPollMs * 1000000 ≤ t) →
       (∀ w : BattWords, ∃ x, exec (.batteryPoll t (some w)) s = .next x ∧ x.plat.battStatus = 2 ∧ x.plat.battFails = 0 ∧
         x.plat.battWords = leBytes 2 w.temperature ++ leBytes 2 w.voltage ++ leBytes 2 w.current ++ leBytes 1 w.soc ++
           leBytes 1 0 ++ leBytes 2 w.remaining ++ leBytes 2 w.full ++ leBytes 2 w.status ++ leBytes 2 w.cycles ∧
         let h : Int := u.numAt Adr.battHyst
         x.plat.battSoc = [((soc 0).down (u.numAt Adr.battLowSoc) h w.soc 1).1,
           ((soc 1).down (u.numAt Adr.battCritSoc) h w.soc 1).1]) ∧
       (∃ x, exec (.batteryPoll t none) s = .next x ∧ x.plat.battFails = s.plat.battFails + 1 ∧
         x.plat.battWords = s.plat.battWords ∧ x.plat.battSoc = s.plat.battSoc ∧
         x.numAt Adr.battPollFails = (u.numAt Adr.battPollFails + 1) % 2 ^ 64 ∧
         x.plat.battStatus = (if 3 ≤ s.plat.battFails + 1 then 1 else s.plat.battStatus))))

/-- The shared threshold rule, over any run of samples with dwell d and a hysteresis above 0: a crossing completes d
consecutive samples at or above the threshold, a re-arm d consecutive samples at or below threshold less hysteresis;
crossings and re-arms alternate; and d samples in a row at or above the threshold leave it crossed. A downward
threshold is the mirror image. -/
def Obligations.ThresholdsCrossOnce : Prop :=
  (∀ (high h : Int) (d : Nat) (vs : List Int), 0 < h → 0 < d →
    let r := vs.foldl (fun (acc : Crossing × List (Option Bool)) v =>
      let x := acc.1.up high h v d; (x.1, acc.2 ++ [x.2])) (Crossing.zero, [])
    (∀ k : Nat, r.2[k]? = some (some true) → ∀ i, i < d → i ≤ k ∧ ∃ v, vs[k - i]? = some v ∧ high ≤ v) ∧
    (∀ k : Nat, r.2[k]? = some (some false) → ∀ i, i < d → i ≤ k ∧ ∃ v, vs[k - i]? = some v ∧ v ≤ high - h) ∧
    (∀ (k m : Nat) (b : Bool), k < m → r.2[k]? = some (some b) → r.2[m]? = some (some b) →
      ∃ j : Nat, k < j ∧ j < m ∧ r.2[j]? = some (some (!b))) ∧
    (d ≤ vs.length → (∀ v, v ∈ vs.drop (vs.length - d) → high ≤ v) → r.1.crossed = true)) ∧
  (∀ (c : Crossing) (low h v : Int) (d : Nat), c.down low h v d = c.up (-low) h (-v) d)

/-- Fans. Every 100 ms FAN_RPM follows from the pulses of the last second; a fan becomes FAULT exactly when its speed
has been below FAN_MIN_RPM for FAN_STALL_MS at a duty of at least 200, and leaves it exactly when it has been back
for 1 s; both are events, the entry is counted, and nothing else of the platform changes. The duty is full on a trip
with FAN_TRIP_FULL, FAN_FAIL_DUTY on a curve whose source is in FAULT, FAN_DUTY in manual mode, else the curve value;
FAN_DUTY_EFFECTIVE takes it at each thermal sample. -/
def Obligations.FansAreSupervised : Prop :=
  ∀ (s : State) (t : Nat) (f : Fin 2) (pulses : Nat), s.Inv → let u := s.advance t; let n := f.val; let w := s.fanAt n
    let ps := (pulses :: w.pulses).take 10
    let rpm := min (ps.foldl (· + ·) 0 * 60 / u.numAt (Adr.fanPulsesPerRev n)) 65535
    (u.ctlServes = true → (∀ b, w.lastUpdate = some b → b + 100 * 1000000 ≤ t) → 0 < u.numAt (Adr.fanPulsesPerRev n) →
      ∃ x, exec (.fanTachUpdate t f pulses) s = .next x ∧ (x.fanAt n).rpm = rpm ∧ (x.fanAt n).pulses = ps ∧
        (∀ k, k ≠ n → x.fanAt k = s.fanAt k) ∧
        (w.fault = false → ((x.fanAt n).fault = true ↔ rpm < u.numAt (Adr.fanMinRpm n) ∧ 200 ≤ w.duty ∧
          w.lowSince.getD t + u.numAt (Adr.fanStallMs n) * 1000000 ≤ t)) ∧
        (w.fault = true → ((x.fanAt n).fault = false ↔ u.numAt (Adr.fanMinRpm n) ≤ rpm ∧
          w.okSince.getD t + 1000000000 ≤ t)) ∧
        x.numAt Adr.fanFaults = (if w.fault = false ∧ (x.fanAt n).fault = true
          then (u.numAt Adr.fanFaults + 1) % 2 ^ 64 else u.numAt Adr.fanFaults) ∧
        x.numAt Adr.thermalEvents = (if w.fault = (x.fanAt n).fault then u.numAt Adr.thermalEvents
          else (u.numAt Adr.thermalEvents + 1) % 2 ^ 64) ∧
        x.plat = { s.plat with fans := x.plat.fans }) ∧
    (∀ readings, u.ctlServes = true → (∀ b, s.plat.thermAt = some b → b + u.numAt Adr.thermSampleMs * 1000000 ≤ t) →
      ∃ x, exec (.thermalSample t readings) s = .next x ∧ (x.fanAt n).duty = x.fanDuty n) ∧
    (let full := s.plat.trip = true ∧ s.flagAt (Adr.fanTripFull n) = true
     let curve := s.numAt (Adr.fanMode n) = 1
     let failed := ∃ ch, ch < 24 ∧ bitAt (s.numAt (Adr.fanSourceMask n)) ch = true ∧ (s.channelAt ch).fault = true
     (full → s.fanDuty n = 1000) ∧ (¬ full → curve → failed → s.fanDuty n = s.numAt (Adr.fanFailDuty n)) ∧
      (¬ full → ¬ curve → s.fanDuty n = s.numAt (Adr.fanDuty n)) ∧
      (¬ full → curve → ¬ failed → s.fanDuty n = (s.fanAt n).curve))

/-- POWER_CMD. An accepted target other than the present state begins a transition to it; the present state is
accepted without effect. The state checks, in table order: 0x0501 while BOOTING; 0x0504 during a transition, on the
way down from READY with an item open, into DORMANT with a sequence running; 0x0502 into DORMANT while NVM is busy;
0x0505 into READY without binnacle or microcode, and into RUN without the array rail.
STANDBY and READY. When the step up is complete with training failed, the state stays STANDBY, MEM_CAPACITY_MIB
reads 0 and the transition is over with RESULT 1; trained, READY is entered, the capacity is that of the present
channels, and the chart store and every in-force INLINE_ECC region read as zeros while every other byte keeps. On the
way down frames in progress end, device memory is lost, closed numberings stay closed. Enable outputs keep their
levels. RUN. At the meridian just taken, RUN is entered: every enabled array that is not held, and whose power switch
and check tile did not fail, is powered and IDLE; one whose switch failed is unpowered; one whose check tile failed
is unpowered and HELD_FAULT with no verdict; RESULT is 2 exactly where an array is unpowered. RUN is left only once
its meridian is reached and the arrays are vacated; then no array is powered and held arrays stay held. -/
def Obligations.ReadyAndRun : Prop :=
  (∀ (s : State), s.Inv →
     (∀ r : Req, let h := s.heard r.t r.port r.sender; let v := (writeValue Adr.powerCmd r.payload).toNat
       s.grants r Adr.powerCmd → ∃ x, exec (.powerCmd r) s = .next x ∧
         (v = h.power.state.code → x.power = h.power) ∧
         (v ≠ h.power.state.code → x.power = { h.power with
           target := some (Power.ofCode v), cause := 0, stepAt := h.tick.now, wakePending := 0,
           runAt := if h.power.state = .run then some h.reachedTick else none })) ∧
     (let c := s.power.state.code; let code (v : Nat) : Option Nat := s.stateCheck Adr.powerCmd v
      let opened := ∃ q j, q ∈ s.queues ∧ j ∈ q.jobs ∧ j.ended = none ∧ j.kind ≤ 1
      (s.power.state = .booting → ∀ v, code v = some 0x0501) ∧
      (s.power.state ≠ .booting → s.power.target.isSome → ∀ v, code v = some 0x0504) ∧
      (s.power.state ≠ .booting → s.power.target = none →
        code c = none ∧
        (∀ v, 2 ≤ c → v < 2 → opened → code v = some 0x0504) ∧
        (0 < c → ¬ (2 ≤ c ∧ opened) → s.plat.sequence.isSome → code 0 = some 0x0504) ∧
        (0 < c → ¬ (2 ≤ c ∧ opened) → s.plat.sequence = none → s.nvmState = 1 → code 0 = some 0x0502) ∧
        (∀ v, c < 2 → 2 ≤ v → v < 4 → s.bin.state = .starting ∨ s.power.microcodeOk = false → code v = some 0x0505) ∧
        (2 ≤ c → c < 3 → bitAt s.plat.pgState (s.numAt Adr.arrayRailPg) = false → code 3 = some 0x0505)))) ∧
  (∀ (s : State) (t : Nat), s.Inv → let u := s.advance t
     let settled (x : State) (p : Power) : Prop := x.power.target = (if u.power.target = some p then none else u.power.target)
     (u.goesUp .standby = true →
       (∀ m, ∃ x, exec (.standbyToReady t m false) s = .next x ∧ x.power.state = .standby ∧ x.power.target = none ∧
         x.numAt Adr.memCapacityMib = 0 ∧ field x.power.lastResult 0 1 = 1 ∧ field x.power.lastResult 3 1 = 1) ∧
       (∀ m least, m.length = u.part.variant.channels → least ∈ m → (∀ k, k ∈ m → least ≤ k) →
         ∃ x, exec (.standbyToReady t m true) s = .next x ∧ x.power.state = .ready ∧ settled x .ready ∧
           x.numAt Adr.memCapacityMib = u.part.variant.channels * least ∧ x.plat = s.plat ∧
           field x.power.lastResult 0 1 = 2 ∧ field x.power.lastResult 1 1 = 1 ∧ field x.power.lastResult 3 1 = 0 ∧
           (∀ a, let ecc := ∃ p r, p < 4 ∧ r ∈ regionsOf (u.bytesAt (Adr.regionTable p)) ∧ r.ecc = true ∧
               x.regionInForce r = true ∧ r.base ≤ a ∧ a < r.limit
             let fresh := (chartBase ≤ a ∧ a < hostWindow) ∨ ecc
             (fresh → x.mem.cells.byte a = 0 ∧ a ∉ x.mem.ue) ∧ (¬ fresh → x.mem.cells.byte a = s.mem.cells.byte a)))) ∧
     (u.goesDown .ready = true → ∃ x, exec (.readyToStandby t) s = .next x ∧ x.power.state = .standby ∧ settled x .standby ∧
       x.mem.cells = [] ∧ x.mem.ue = [] ∧ x.plat = s.plat ∧ x.fabric.numberings = s.fabric.numberings.filter (·.closed) ∧
       field x.power.lastResult 0 1 = 1 ∧ field x.power.lastResult 1 1 = 2 ∧ ∀ n, n < 48 → (x.slotAt n).filling = none)) ∧
  (∀ (s : State) (t : Nat), s.Inv → let u := s.advanceCharged t
     (∀ sw tile, u.goesUp .ready = true → u.tick.started = true → u.tick.meridian = t → u.tick.now = t →
       ∃ y : State, exec (.readyToRun t sw tile) s = .next y.dispatch ∧ y.power.state = .run ∧
         y.power.target = (if u.power.target = some .run then none else u.power.target) ∧
         (∀ a, a < 8 → bitAt (u.numAt Adr.arrayEnable) a = true →
           let held := (u.arrAt a).state = .heldFault; let z := y.arrAt a
           (bitAt sw a = true → z.powered = false) ∧
           (bitAt sw a = false → held → z.powered = true ∧ z.state = .heldFault) ∧
           (bitAt sw a = false → ¬ held → bitAt tile a = false → z.powered = true ∧ z.state = .idle ∧ z.job = none) ∧
           (bitAt sw a = false → ¬ held → bitAt tile a = true →
             z.powered = false ∧ z.state = .heldFault ∧ z.verdict = 0)) ∧
         (∀ a, a < 8 → bitAt (u.numAt Adr.arrayEnable) a = false → y.arrAt a = u.arrAt a) ∧
         (field y.power.lastResult 3 1 = 2 ↔
           ∃ a, a < 8 ∧ bitAt (u.numAt Adr.arrayEnable) a = true ∧ (y.arrAt a).powered = false)) ∧
     (u.goesDown .run = true → u.tick.started = true →
       ((∀ n, u.power.runAt = some n → n ≤ u.tick.tick) → u.power.runAt.isSome → (∀ a, a ∈ u.arrs → a.job = none) →
         ∃ x, exec (.runToReady t) s = .next x ∧ x.power.state = .ready ∧ x.power.runAt = none ∧ x.queues = u.queues ∧
           x.mem = u.mem ∧ x.plat = u.plat ∧ (∀ a, a ∈ x.arrs → a.powered = false ∧ a.job = none) ∧
           ∀ a, (x.arrAt a).state = .heldFault ↔ (u.arrAt a).state = .heldFault) ∧
       (∀ n, u.power.runAt = some n → u.tick.tick < n → exec (.runToReady t) s = .next u)))

/-- DORMANT and wake. On entry the tick halts, ownership is vacant, the key FIFO and all touch reports are empty, the
trip is released, SAFETY_STATE is STARTING with FAULT_N asserted; settings, staged values, images and enable outputs
are retained; a wake command that came meanwhile starts the way back. A wake command, at least 50 µs low or the
node's own CAN frame, acts only while enabled. The exit enters STANDBY with CAUSE 1 and advances device time by the
real-time clock's count. -/
def Obligations.DormantRetainsAndWakes : Prop :=
  ∀ (s : State) (t : Nat), s.Inv → let u := s.advance t
    (u.goesDown .standby = true → ∃ x, exec (.standbyToDormant t) s = .next x ∧ x.power.state = .dormant ∧
      x.tick.gen = .halted ∧ x.tick.next = none ∧ x.tick.realignAt = [] ∧ x.own.owner = none ∧ x.keys.fifo = [] ∧
      x.plat.trip = false ∧ x.bin.state = .starting ∧ x.bin.faultN = true ∧
      (∀ p, p < 4 → (x.panelAt p).state = .off ∧ (x.panelAt p).reports = []) ∧
      x.plat.enState = s.plat.enState ∧ x.staged = s.staged ∧ x.nvm = s.nvm ∧ x.log = s.log ∧
      (∀ a, nvmAt s.part.variant a = true → x.valAt a = s.valAt a) ∧
      x.power.target = (if u.power.wakePending = 0 then none else some .standby) ∧
      x.power.wakeCause = u.power.wakePending) ∧
    (let woken (x : State) (k : Nat) : Prop :=
       (bitAt (u.numAt Adr.wakeEnable) k = false → x = u) ∧
       (bitAt (u.numAt Adr.wakeEnable) k = true →
         (u.power.state = .dormant → x.power.target = some .standby ∧ bitAt x.power.wakeCause k = true ∧
           x.power.state = .dormant ∧ x.keys.wakeRequest = false) ∧
         (u.power.state = .standby → u.power.target = some .dormant → bitAt x.power.wakePending k = true ∧
           x.power.state = .standby ∧ x.power.target = some .dormant) ∧
         (u.power.state ≠ .dormant → u.power.state ≠ .standby → x = u))
     (∀ low, low < 50000 → exec (.wakeN t low) s = .next u) ∧
     (∀ low, 50000 ≤ low → ∃ x, exec (.wakeN t low) s = .next x ∧ woken x 0) ∧
     (∀ id, id ≠ u.numAt Adr.canReqBase + u.numAt Adr.canNodeId → exec (.canWakeFrame t id) s = .next u) ∧
     (∃ x, exec (.canWakeFrame t (u.numAt Adr.canReqBase + u.numAt Adr.canNodeId)) s = .next x ∧ woken x 1)) ∧
    (∀ n, s.goesUp .dormant = true → ∃ x, exec (.dormantToStandby n) s = .next x ∧ x.power.state = .standby ∧
      x.power.target = (if s.power.target = some .standby then none else s.power.target) ∧
      x.tick.now = s.tick.now + n * 1000000000 / 32768 ∧ x.tick.gen ≠ .halted ∧ x.keys.fifo = [] ∧
      x.plat.enState = s.plat.enState ∧ x.staged = s.staged ∧ x.nvm = s.nvm ∧
      field x.power.lastResult 0 1 = 1 ∧ field x.power.lastResult 1 1 = 0 ∧ field x.power.lastResult 2 1 = 1 ∧
      field x.power.lastResult 8 1 = s.power.wakeCause % 256)

/-- Power-on reset, RESET_N and boot. Both resets end in BOOTING with ownership vacant, memory empty and debug access
locked. At power-on, device time is 0, the ring holds the persistent records, a damaged one as its stub and counted, the enables are 0 and DEBUG_UNLOCKS and
STORE_COUNT are kept; RESET_N, low for 10 µs, keeps device time, the records and the enables, and a shorter pulse
does nothing. Boot with controller firmware enters STANDBY with CAUSE 2 and starts the tick; without it the boot ROM
stays in BOOTING. Warm and controller reset. An accepted WARM_RESET keeps the power state, ownership, settings and
the ring's records, and frees every array, buffer and numbering; the chart store reads as zeros and the rest of
memory keeps. A controller reset, commanded with its key or by the watchdog, leaves ownership vacant and the enables,
jobs, arrays, memory and fabric as they were; a running sequence has ended with ABORTED_RESET. -/
def Obligations.ResetsRestart : Prop :=
  (∀ (s : State), s.Inv →
     let cold (x : State) (cause : Nat) : Prop := x.power.state = .booting ∧ x.power.romOnly = false ∧
       x.own.state = .vacant ∧ x.own.owner = none ∧ x.mem.cells = [] ∧ x.power.debugUnlocked = false ∧
       x.power.debugFailures = 0 ∧ x.numAt Adr.resetCause = cause ∧ x.fabric.numberings = [] ∧
       x.pending = s.pending ∧ x.nvm.bankA = s.nvm.bankA ∧ x.nvm.bankB = s.nvm.bankB
     (∃ x, exec .powerOnReset s = .next x ∧ cold x 0 ∧ x.tick.now = 0 ∧ x.plat.enState = 0 ∧
       x.log.ring = s.log.persist.map (fun r => { r with bytes := r.delivered, damaged := false }) ∧
       x.numAt Adr.recordsDamaged = (s.log.persist.filter (·.damaged)).length % 2 ^ 64 ∧
       x.log.persist = s.log.persist ∧ x.log.nextSeq = s.log.nextSeq ∧
       x.numAt Adr.debugUnlocks = s.numAt Adr.debugUnlocks ∧ x.numAt Adr.storeCount = s.numAt Adr.storeCount) ∧
     (∀ t low, low < 10000 → exec (.resetN t low) s = .next (s.advance t)) ∧
     (∀ t low, 10000 ≤ low → ∃ x, exec (.resetN t low) s = .next x ∧ cold x 1 ∧ x.tick.now = max s.tick.now t ∧
       x.log = { s.log with suppress := [] } ∧ x.plat.enState = s.plat.enState ∧ x.plat.pgState = s.plat.pgState ∧
       x.numAt Adr.enPolarityEffective = s.numAt Adr.enPolarityEffective) ∧
     (∀ t a b images, let u := s.advance t; let found := u.bootImage (bootFlash a b images)
       u.power.state = .booting → u.power.romOnly = false →
       (found 1 = none → ∃ x, exec (.bootComplete t a b images) s = .next x ∧ x.power.state = .booting ∧
         x.power.romOnly = true ∧ x.bin.faultN = true ∧ x.tick = u.tick) ∧
       (∀ k v, found 1 = some (k, v) → ∃ x, exec (.bootComplete t a b images) s = .next x ∧ x.power.state = .standby ∧
         x.power.romOnly = false ∧ field x.power.lastResult 0 1 = 1 ∧ field x.power.lastResult 1 1 = 4 ∧
         field x.power.lastResult 2 1 = 2 ∧ x.tick.gen ≠ .halted ∧ x.tick.startAt = u.tick.now ∧
         x.numAt Adr.controllerFwVersion = v ∧ (x.power.microcodeOk = true ↔ (found 3).isSome) ∧
         (found 2 = none → x.bin.state = .starting ∧ x.bin.faultN = true) ∧
         (∀ q step d, q < 8 → u.plat.aborted = some (q, step, d) → x.plat.aborted = none ∧
           field (x.bytesAt (Adr.seqLastResult q)) 0 1 = q ∧ field (x.bytesAt (Adr.seqLastResult q)) 1 1 = 4)))) ∧
  (∀ (s : State), s.Inv →
     let restarted (h x : State) : Prop := x.own.owner = none ∧ x.own.state = .vacant ∧ x.plat.enState = h.plat.enState ∧
       x.plat.sequence = none ∧ x.queues = h.queues ∧ x.arrs = h.arrs ∧ x.mem.cells = h.mem.cells ∧ x.mem.tlb = h.mem.tlb ∧
       x.fabric = h.fabric ∧ x.ingest = h.ingest ∧ x.power.state = h.power.state ∧ x.numAt Adr.resetCause = 5 ∧
       x.power.ctlUntil ≤ h.tick.now + 30000000 ∧
       ∀ q, q.s < 8 → h.plat.sequence = some q → field (x.bytesAt (Adr.seqLastResult q.s)) 1 1 = 4
     (∀ r : Req, let h := s.heard r.t r.port r.sender
       s.grants r Adr.warmReset → ∃ x, exec (.warmReset r) s = .next x ∧ x.power = h.power ∧ x.own.owner = h.own.owner ∧
         x.numAt Adr.resetCause = 2 ∧ x.fabric.numberings = [] ∧ (∀ a, a ∈ x.arrs → a.job = none) ∧
         (∀ a, a < 8 → (x.arrAt a).powered = (h.arrAt a).powered) ∧
         (∀ n b, n < 48 → b ∈ (x.slotAt n).buffers → b.state = .free) ∧ (∀ n, n < 48 → (x.slotAt n).filling = none) ∧
         (∀ a, x.mem.cells.byte a = if chartBase ≤ a ∧ a < hostWindow then 0 else h.mem.cells.byte a) ∧
         x.log.ring = h.log.ring ∧ x.bin.dispatcherDown = true ∧
         (∀ a, nvmAt s.part.variant a = true → x.valAt a = h.valAt a)) ∧
     (∀ r : Req, s.grants r Adr.ctlReset → ∃ x, exec (.ctlReset r) s = .next x ∧ restarted (s.heard r.t r.port r.sender) x) ∧
     (∀ t, let u := s.advance t
       (s.dormant = false → s.power.romOnly = false →
         ∃ x, exec (.controllerWatchdog t) s = .next x ∧ restarted u x) ∧
       (s.power.romOnly = true → exec (.controllerWatchdog t) s = .next u)))

/-- Debug access. A right response, as the key digest and the signature over the challenge decide, unlocks and is
counted; a wrong one is a failure, and after three of them responses are refused, by Shevy and by the TAP. DEBUG_LOCK locks
again. While access is locked a debug instruction of the TAP selects BYPASS; IDCODE gives the part number. An image is taken
at boot only from a directory copy whose CRC holds, with an unrevoked key, a right signature and body digest, for this
variant, and a security version not below the fused minimum; copy B only where copy A has none.
SECURITY_VERSION_RAISE sets the fused minimum of its image KIND to the version given, which is not below it, and of
no other KIND. -/
def Obligations.DebugAccessIsGuarded : Prop :=
  ∀ (s : State), s.Inv →
    (∀ (p : Pdu) (v : Bytes), let h := s.heard p.t p.port p.sender
      s.grantsBlock p Adr.debugResponse v →
      h.power.debugFailures < 3 ∧ ∃ x, exec (.debugResponse (.request p)) s = .next x ∧
        (h.debugOk v = true → x.power.debugUnlocked = true ∧ x.power.debugFailures = h.power.debugFailures ∧
          x.numAt Adr.debugUnlocks = (h.numAt Adr.debugUnlocks + 1) % 2 ^ 64) ∧
        (h.debugOk v = false → x.power.debugUnlocked = h.power.debugUnlocked ∧
          x.power.debugFailures = h.power.debugFailures + 1 ∧ x.valAt Adr.debugUnlocks = h.valAt Adr.debugUnlocks)) ∧
    (∀ r : Req, let h := s.heard r.t r.port r.sender
      s.grants r Adr.debugLock → ∃ x, exec (.debugLock r) s = .next x ∧
        x.power = { h.power with debugUnlocked := false }) ∧
    (∀ t i, ∃ x, exec (.debugResponse (.tapInstruction t i)) s = .next x ∧ x.power = { s.power with tap := i } ∧
      x.sent = s.sent) ∧
    (∀ t b, let scan := exec (.debugResponse (.tapScan t b)) s
      (s.power.debugUnlocked = false → tapAlways s.power.tap = false →
        scan = .next ((s.advance t).emit (.tapData (List.replicate b.length 0)))) ∧
      (s.power.tap = .idcode → scan = .next ((s.advance t).emit (.tapData (leBytes 4 s.idcode))) ∧
        s.idcode / 2 ^ 12 % 2 ^ 16 = s.part.variant.deviceId) ∧
      (s.power.tap = .dbgAuth → ∃ x, scan = .next x ∧ x.sent = s.sent ++ [.tapData s.challengeBytes] ∧
        (3 ≤ s.power.debugFailures ∨ b.length ≠ 128 → x.power = s.power) ∧
        (s.power.debugFailures < 3 → b.length = 128 →
          (s.debugOk b = true → x.power.debugUnlocked = true ∧ x.power.debugFailures = s.power.debugFailures) ∧
          (s.debugOk b = false → x.power.debugUnlocked = s.power.debugUnlocked ∧
            x.power.debugFailures = s.power.debugFailures + 1)))) ∧
    (∀ flash copy kind v, s.imageIn flash copy kind = some v →
      let d := flashRead flash (directoryAt copy) 28; let at_ := field d (8 * (kind - 1)) 4
      let h := flashRead flash at_ 256; let body := flashRead flash (at_ + 256) (field h 16 4)
      field d 24 4 = crc32c (d.take 24) ∧ field h 4 1 = kind ∧ field h 8 4 = v ∧ Config.keyRevoked (field h 5 1) = false ∧
      Config.sha256 (slice h 64 64) = Config.keyDigest (field h 5 1) ∧
      Config.p256Verify (slice h 64 64) (Config.sha256 (h.take 128)) (slice h 128 64) = true ∧
      Config.sha256 body = slice h 32 32 ∧ bitAt (field h 20 2) (deviceBit s.part.variant) = true ∧
      nth s.nvm.minSecurity (kind - 1) 0 ≤ field h 12 4) ∧
    (∀ flash kind v, s.bootImage flash kind = some (1, v) → s.imageIn flash 0 kind = none) ∧
    (∀ (p : Pdu) (v : Bytes), let h := s.heard p.t p.port p.sender; let k := field v 0 1
      s.grantsBlock p Adr.securityVersionRaise v → h.nvm.minSecurity.length = 3 →
      h.power.debugUnlocked = true ∧ ∃ x, exec (.securityVersionRaise p) s = .next x ∧
        nth x.nvm.minSecurity (k - 1) 0 = field v 4 4 ∧ nth h.nvm.minSecurity (k - 1) 0 ≤ field v 4 4 ∧
        ∀ i, i ≠ k - 1 → nth x.nvm.minSecurity i 0 = nth h.nvm.minSecurity i 0)
end

