-- ==== Sys2Proof/Laws/Memory.lean ====
section
/-! SUPPORT. Laws/Memory: the register file and device memory as canonical lists: every operation keeps the
canonical form, a read after a write of the same place gives what was written, and a write leaves every other
place alone. -/

namespace Sys2Proof.Machine

/-! ## Memory -/

/-- The canonical form of a memory, one entry at a time. -/
theorem Memory.wf_cons (c : Host.Cell) (m : Memory) :
    Memory.wf (c :: m) = true ↔ c.2 ≠ 0 ∧ (∀ d ∈ m.head?, c.1 < d.1) ∧ Memory.wf m = true := by
  cases m with
  | nil => simp [Memory.wf]
  | cons d m => simp [Memory.wf]; tauto

/-- In a canonical memory every later entry has a higher address. -/
theorem Memory.wf_lt {c : Host.Cell} {m : Memory} (h : Memory.wf (c :: m) = true) : ∀ d ∈ m, c.1 < d.1 := by
  induction m generalizing c with
  | nil => simp
  | cons e m ih =>
    rw [Memory.wf_cons] at h
    intro d hd
    rcases List.mem_cons.1 hd with rfl | hd
    · exact h.2.1 _ (by simp)
    · exact lt_trans (h.2.1 e (by simp)) (ih h.2.2 d hd)

/-- The canonical form, as a statement about all entries. -/
theorem Memory.wf_iff (m : Memory) :
    Memory.wf m = true ↔ m.Pairwise (fun a b => a.1 < b.1) ∧ ∀ c ∈ m, c.2 ≠ 0 := by
  induction m with
  | nil => simp [Memory.wf]
  | cons c m ih =>
    constructor
    · intro h
      have hl := Memory.wf_lt h
      rw [Memory.wf_cons] at h
      obtain ⟨h1, h2⟩ := ih.1 h.2.2
      exact ⟨List.pairwise_cons.2 ⟨hl, h1⟩, by simpa using ⟨h.1, fun a b hab => h2 (a, b) hab⟩⟩
    · rintro ⟨h1, h2⟩
      rw [List.pairwise_cons] at h1
      rw [Memory.wf_cons]
      exact ⟨h2 c (by simp), fun d hd => h1.1 d (List.mem_of_mem_head? hd),
        ih.2 ⟨h1.2, fun d hd => h2 d (by simp [hd])⟩⟩

/-- Keeping some addresses keeps the canonical form. -/
theorem Memory.wf_keep {m : Memory} (p : Nat → Bool) (h : Memory.wf m = true) : Memory.wf (m.keep p) = true := by
  rw [Memory.wf_iff] at h ⊢
  exact ⟨h.1.filter _, fun c hc => h.2 c (List.mem_filter.1 hc).1⟩

/-- An entry after a byte was put is the entry put or an old one. -/
theorem Memory.mem_put {m : Memory} {x : Nat} {w : Byte} {c : Host.Cell} (h : c ∈ m.put x w) :
    c ∈ m ∨ (c = (x, w) ∧ w ≠ 0) := by
  induction m with
  | nil =>
    simp only [Memory.put] at h
    split at h <;> simp_all
  | cons e m ih =>
    obtain ⟨a, b⟩ := e
    simp only [Memory.put] at h
    split at h
    · split at h <;> simp_all
      tauto
    · split at h
      · split at h <;> simp_all
        tauto
      · rcases List.mem_cons.1 h with rfl | h
        · simp
        · rcases ih h with h | h <;> simp_all

/-- Putting a byte keeps the canonical form. -/
theorem Memory.wf_put {m : Memory} (x : Nat) (w : Byte) (h : Memory.wf m = true) :
    Memory.wf (m.put x w) = true := by
  induction m with
  | nil =>
    simp only [Memory.put]
    split <;> simp_all [Memory.wf]
  | cons e m ih =>
    obtain ⟨a, b⟩ := e
    have hl := Memory.wf_lt h
    have h' := (Memory.wf_cons _ _).1 h
    simp only [Memory.put]
    split
    · split
      · exact h
      · rw [Memory.wf_cons]
        exact ⟨by simp_all, by simp; omega, h⟩
    · split
      · split
        · exact h'.2.2
        · rw [Memory.wf_cons]
          refine ⟨by simp_all, fun d hd => ?_, h'.2.2⟩
          have := hl d (List.mem_of_mem_head? hd)
          simp_all
      · rw [Memory.wf_cons]
        refine ⟨h'.1, fun d hd => ?_, ih h'.2.2⟩
        rcases Memory.mem_put (List.mem_of_mem_head? hd) with hm | ⟨rfl, -⟩
        · exact hl d hm
        · simp_all
          omega

/-- Writing bytes keeps the canonical form. -/
theorem Memory.wf_write {m : Memory} (x : Nat) (bs : Bytes) (h : Memory.wf m = true) :
    Memory.wf (m.write x bs) = true := by
  induction bs generalizing m x with
  | nil => exact h
  | cons b bs ih => exact ih (x + 1) (Memory.wf_put x b h)

/-- A byte below every listed address reads as 0. -/
theorem Memory.byte_below {m : Memory} {x : Nat} (h : ∀ c ∈ m, x < c.1) : m.byte x = 0 := by
  cases m with
  | nil => rfl
  | cons c m =>
    have : x < c.1 := h c (by simp)
    simp [Memory.byte, this]

/-- Read after put, same address. -/
theorem Memory.byte_put_same {m : Memory} (x : Nat) (w : Byte) (h : Memory.wf m = true) :
    (m.put x w).byte x = w := by
  induction m with
  | nil =>
    simp only [Memory.put]
    split <;> simp_all [Memory.byte]
  | cons e m ih =>
    obtain ⟨a, b⟩ := e
    have hl := Memory.wf_lt h
    have h' := (Memory.wf_cons _ _).1 h
    simp only [Memory.put]
    split
    · split
      · simp_all [Memory.byte]
      · simp [Memory.byte]
    · split
      · split
        · rename_i hx hw
          have hx : x = a := by simpa using hx
          subst hx
          rw [Memory.byte_below hl]
          simpa using (beq_iff_eq.1 hw).symm
        · simp [Memory.byte]
      · simp_all [Memory.byte]

/-- Read after put, another address. -/
theorem Memory.byte_put_other {m : Memory} {x y : Nat} (w : Byte) (h : Memory.wf m = true) (hn : y ≠ x) :
    (m.put x w).byte y = m.byte y := by
  induction m with
  | nil =>
    simp only [Memory.put]
    split
    · rfl
    · simp only [Memory.byte]
      split <;> simp_all
  | cons e m ih =>
    obtain ⟨a, b⟩ := e
    have hl := Memory.wf_lt h
    have h' := (Memory.wf_cons _ _).1 h
    simp only [Memory.put]
    split
    · rename_i hx
      split
      · rfl
      · simp only [Memory.byte]
        by_cases h1 : y < x
        · simp [h1, lt_trans h1 hx]
        · simp [h1, hn]
    · split
      · rename_i hx
        have hx : x = a := by simpa using hx
        subst hx
        split
        · by_cases h1 : y < x
          · have : ∀ c ∈ m, y < c.1 := fun c hc => lt_trans h1 (hl c hc)
            simp [Memory.byte, h1, Memory.byte_below this]
          · simp [Memory.byte, h1, hn]
        · simp [Memory.byte, hn]
      · simp only [Memory.byte, ih h'.2.2]

/-- A write leaves every byte outside it alone. -/
theorem Memory.byte_write_other {m : Memory} {x y : Nat} {bs : Bytes} (h : Memory.wf m = true)
    (hn : y < x ∨ x + bs.length ≤ y) : (m.write x bs).byte y = m.byte y := by
  induction bs generalizing m x with
  | nil => rfl
  | cons b bs ih =>
    simp only [List.length_cons] at hn
    rw [Memory.write, ih (Memory.wf_put x b h) (by omega), Memory.byte_put_other b h (by omega)]

/-- A write gives every byte inside it its new value. -/
theorem Memory.byte_write_same {m : Memory} {x i : Nat} {bs : Bytes} (h : Memory.wf m = true)
    (hi : i < bs.length) : (m.write x bs).byte (x + i) = bs[i] := by
  induction bs generalizing m x i with
  | nil => simp at hi
  | cons b bs ih =>
    have h1 := Memory.wf_put x b h
    rw [Memory.write]
    cases i with
    | zero => rw [Memory.byte_write_other h1 (by omega)]; simpa using Memory.byte_put_same x b h
    | succ i =>
      have := ih (x := x + 1) (i := i) h1 (by simpa using hi)
      simpa [Nat.add_assoc, Nat.add_comm 1 i] using this

/-! ## The register file -/

/-- The canonical form of the register file, one entry at a time. -/
theorem Dict.wf_cons (v : Variant) (e : Nat × Val) (d : Dict) :
    Dict.wf v (e :: d) = true ↔ e.2 ≠ defaultAt v e.1 ∧ (∀ f ∈ d.head?, e.1 < f.1) ∧ Dict.wf v d = true := by
  cases d with
  | nil => simp [Dict.wf]
  | cons f d => simp [Dict.wf]; tauto

/-- The canonical form, as a statement about all entries. -/
theorem Dict.wf_iff (v : Variant) (d : Dict) :
    Dict.wf v d = true ↔ d.Pairwise (fun a b => a.1 < b.1) ∧ ∀ e ∈ d, e.2 ≠ defaultAt v e.1 := by
  induction d with
  | nil => simp [Dict.wf]
  | cons e d ih =>
    rw [Dict.wf_cons, ih, List.pairwise_cons]
    constructor
    · rintro ⟨h1, h2, h3, h4⟩
      refine ⟨⟨fun f hf => ?_, h3⟩, by simpa using ⟨h1, fun a b hab => h4 (a, b) hab⟩⟩
      cases d with
      | nil => simp at hf
      | cons g d =>
        have hg := h2 g (by simp)
        rcases List.mem_cons.1 hf with rfl | hf
        · exact hg
        · exact lt_trans hg ((List.pairwise_cons.1 h3).1 f hf)
    · rintro ⟨⟨h1, h2⟩, h3⟩
      exact ⟨h3 e (by simp), fun f hf => h1 f (List.mem_of_mem_head? hf), h2, fun f hf => h3 f (by simp [hf])⟩

/-- Dropping entries keeps the canonical form. -/
theorem Dict.wf_filter {v : Variant} {d : Dict} (p : Nat × Val → Bool) (h : Dict.wf v d = true) :
    Dict.wf v (d.filter p) = true := by
  rw [Dict.wf_iff] at h ⊢
  exact ⟨h.1.filter _, fun c hc => h.2 c (List.mem_filter.1 hc).1⟩

/-- Unlisting an address keeps the other entries in their order. -/
theorem Dict.erase_sublist (d : Dict) (x : Nat) : (d.erase x).Sublist d := by
  induction d with
  | nil => simp [Dict.erase]
  | cons e d ih =>
    obtain ⟨a, w⟩ := e
    simp only [Dict.erase]
    split
    · exact List.Sublist.refl _
    · split
      · exact List.sublist_cons_self _ _
      · exact ih.cons_cons _

/-- An entry after an insertion is the new one or an old one. -/
theorem Dict.mem_insert {d : Dict} {x : Nat} {w : Val} {e : Nat × Val} (h : e ∈ d.insert x w) :
    e ∈ d ∨ e = (x, w) := by
  induction d with
  | nil => simp_all [Dict.insert]
  | cons f d ih =>
    obtain ⟨a, u⟩ := f
    simp only [Dict.insert] at h
    split at h
    · simp_all; tauto
    · split at h
      · simp_all; tauto
      · rcases List.mem_cons.1 h with rfl | h
        · simp
        · rcases ih h with h | h <;> simp_all

/-- Storing a value keeps the canonical form. -/
theorem Dict.wf_set {v : Variant} {d : Dict} (x : Nat) (w : Val) (h : Dict.wf v d = true) :
    Dict.wf v (d.set v x w) = true := by
  rw [Dict.wf_iff] at h ⊢
  obtain ⟨h1, h2⟩ := h
  unfold Dict.set
  split
  · exact ⟨h1.sublist (d.erase_sublist x), fun e he => h2 e ((d.erase_sublist x).subset he)⟩
  · rename_i hw
    refine ⟨?_, fun e he => ?_⟩
    · clear h2 hw
      induction d with
      | nil => simp [Dict.insert]
      | cons f d ih =>
        obtain ⟨a, u⟩ := f
        rw [List.pairwise_cons] at h1
        simp only [Dict.insert]
        split
        · rename_i hx
          rw [List.pairwise_cons, List.pairwise_cons]
          refine ⟨fun e he => ?_, h1⟩
          rcases List.mem_cons.1 he with rfl | he
          · exact hx
          · exact lt_trans hx (h1.1 e he)
        · split
          · rename_i hx
            have hx : x = a := by simpa using hx
            subst hx
            exact List.pairwise_cons.2 h1
          · rw [List.pairwise_cons]
            refine ⟨fun e he => ?_, ih h1.2⟩
            rcases Dict.mem_insert he with he | rfl
            · exact h1.1 e he
            · simp_all
              omega
    · rcases Dict.mem_insert he with he | rfl
      · exact h2 e he
      · simpa using hw

/-- An address below every listed one is unlisted. -/
theorem Dict.find_below {d : Dict} {x : Nat} (h : ∀ e ∈ d, x < e.1) : d.find x = none := by
  cases d with
  | nil => rfl
  | cons e d =>
    have : x < e.1 := h e (by simp)
    simp [Dict.find, this]

theorem Dict.find_insert_same (d : Dict) (x : Nat) (w : Val) : (d.insert x w).find x = some w := by
  induction d with
  | nil => simp [Dict.insert, Dict.find]
  | cons e d ih =>
    obtain ⟨a, u⟩ := e
    simp only [Dict.insert]
    split
    · simp [Dict.find]
    · split
      · simp [Dict.find]
      · simp_all [Dict.find]

theorem Dict.find_insert_other {d : Dict} {x y : Nat} (w : Val)
    (hn : y ≠ x) : (d.insert x w).find y = d.find y := by
  induction d with
  | nil => simp [Dict.insert, Dict.find, hn]
  | cons e d ih =>
    obtain ⟨a, u⟩ := e
    simp only [Dict.insert]
    split
    · rename_i hx
      simp only [Dict.find]
      by_cases h1 : y < x
      · simp [h1, lt_trans h1 hx]
      · simp [h1, hn]
    · split
      · rename_i hx
        have hx : x = a := by simpa using hx
        subst hx
        simp [Dict.find, hn]
      · simp only [Dict.find, ih]

theorem Dict.find_erase_same {d : Dict} (x : Nat) (h : d.Pairwise (fun a b => a.1 < b.1)) :
    (d.erase x).find x = none := by
  induction d with
  | nil => rfl
  | cons e d ih =>
    obtain ⟨a, u⟩ := e
    rw [List.pairwise_cons] at h
    simp only [Dict.erase]
    split
    · simp_all [Dict.find]
    · split
      · rename_i hx
        have hx : x = a := by simpa using hx
        subst hx
        exact Dict.find_below h.1
      · simp_all [Dict.find]

theorem Dict.find_erase_other {d : Dict} {x y : Nat} (h : d.Pairwise (fun a b => a.1 < b.1)) (hn : y ≠ x) :
    (d.erase x).find y = d.find y := by
  induction d with
  | nil => rfl
  | cons e d ih =>
    obtain ⟨a, u⟩ := e
    rw [List.pairwise_cons] at h
    simp only [Dict.erase]
    split
    · rfl
    · split
      · rename_i hx
        have hx : x = a := by simpa using hx
        subst hx
        by_cases h1 : y < x
        · have : ∀ e ∈ d, y < e.1 := fun e he => lt_trans h1 (h.1 e he)
          simp [Dict.find, h1, Dict.find_below this]
        · simp [Dict.find, h1, hn]
      · simp only [Dict.find, ih h.2]

/-- A stored value is what the address holds. -/
theorem Dict.get_set_same {v : Variant} {d : Dict} (x : Nat) (w : Val) (h : Dict.wf v d = true) :
    ((d.set v x w).find x).getD (defaultAt v x) = w := by
  unfold Dict.set
  split
  · rename_i hw
    rw [Dict.find_erase_same x ((Dict.wf_iff v d).1 h).1]
    simpa using (beq_iff_eq.1 hw).symm
  · rw [Dict.find_insert_same]; rfl

/-- Storing a value leaves every other address alone. -/
theorem Dict.find_set_other {v : Variant} {d : Dict} {x y : Nat} (w : Val) (h : Dict.wf v d = true) (hn : y ≠ x) :
    (d.set v x w).find y = d.find y := by
  unfold Dict.set
  split
  · exact Dict.find_erase_other ((Dict.wf_iff v d).1 h).1 hn
  · exact Dict.find_insert_other w hn

/-! ## Objects -/

theorem State.valAt_setVal_same {s : State} (a : Nat) (w : Val) (h : Dict.wf s.part.variant s.dict = true) :
    (s.setVal a w).valAt a = w := Dict.get_set_same a w h

theorem State.valAt_setVal_other {s : State} {a b : Nat} (w : Val) (h : Dict.wf s.part.variant s.dict = true)
    (hn : b ≠ a) : (s.setVal a w).valAt b = s.valAt b := by
  simp only [State.valAt, State.setVal, Dict.find_set_other w h hn]

theorem State.numAt_setNum_same {s : State} (a x : Nat) (h : Dict.wf s.part.variant s.dict = true) :
    (s.setNum a x).numAt a = x := by
  simp [State.numAt, State.setNum, State.valAt_setVal_same a _ h, Val.toNat]

theorem State.numAt_setNum_other {s : State} {a b : Nat} (x : Nat) (h : Dict.wf s.part.variant s.dict = true)
    (hn : b ≠ a) : (s.setNum a x).numAt b = s.numAt b := by
  simp only [State.numAt, State.setNum, State.valAt_setVal_other _ h hn]

/-- R80: a counter below its maximum counts by one. -/
theorem State.bump_below {s : State} {a : Nat} (h : s.numAt a + 1 < 2 ^ 64) : s.bump a = s.setNum a (s.numAt a + 1) := by
  unfold State.bump State.bumpBy
  exact if_pos h

/-! ## Lists by index -/

@[simp] theorem length_modifyAt {α : Type} (xs : List α) (i : Nat) (f : α → α) : (modifyAt xs i f).length = xs.length := by
  induction xs generalizing i with
  | nil => rfl
  | cons x xs ih => cases i <;> simp [modifyAt, ih]

theorem nth_modifyAt_same {α : Type} {xs : List α} {i : Nat} (f : α → α) (d : α) (h : i < xs.length) :
    nth (modifyAt xs i f) i d = f (nth xs i d) := by
  induction xs generalizing i with
  | nil => simp at h
  | cons x xs ih =>
    cases i with
    | zero => rfl
    | succ i => exact ih (by simpa using h)

theorem nth_modifyAt_other {α : Type} {xs : List α} {i j : Nat} (f : α → α) (d : α) (h : j ≠ i) :
    nth (modifyAt xs i f) j d = nth xs j d := by
  induction xs generalizing i j with
  | nil => rfl
  | cons x xs ih =>
    cases i <;> cases j
    · exact absurd rfl h
    · rfl
    · rfl
    · exact ih (fun e => h (by rw [e]))

end Sys2Proof.Machine
end

