-- ==== Sys2Proof/Laws/Sound.lean ====
section
/-! SUPPORT. Laws/Sound: what every operation of the block keeps, said once: the parts it touches, device time never
running backwards, the canonical forms and the units. `State.Sound m o n s` says it of one state `s` on the way from
`o`; each operation has one lemma that carries it from the state it is given to the state it answers
(Laws/Keep*.lean). -/

namespace Sys2Proof.Machine

/-! ## The parts of a state -/

/-- Agreement of two states on one part. -/
def Field.same (f : Field) (s t : State) : Prop :=
  match f with
  | .part => s.part = t.part
  | .pending => s.pending = t.pending
  | .dict => s.dict = t.dict
  | .staged => s.staged = t.staged
  | .nvm => s.nvm = t.nvm
  | .tick => Tick.patch [.clock, .tally] s.tick t.tick = t.tick
  | .clock => s.tick.now = t.tick.now ∧ s.tick.frac = t.tick.frac
  | .tally => s.tick.outcomes = t.tick.outcomes ∧ s.tick.faults = t.tick.faults ∧
      s.tick.framesDropped = t.tick.framesDropped ∧ s.tick.closing = t.tick.closing
  | .own => s.own = t.own
  | .ports => s.ports = t.ports
  | .ingest => s.ingest = t.ingest
  | .arrs => s.arrs = t.arrs
  | .queues => s.queues = t.queues
  | .mem => s.mem = t.mem
  | .fabric => s.fabric = t.fabric
  | .host => s.host = t.host
  | .bin => s.bin = t.bin
  | .log => s.log = t.log
  | .keys => s.keys = t.keys
  | .panels => s.panels = t.panels
  | .plat => s.plat = t.plat
  | .power => s.power = t.power
  | .sent => s.sent = t.sent
  | .free => s.free = t.free

theorem Field.same_refl (f : Field) (s : State) : f.same s s := by
  cases f <;> first | rfl | exact ⟨rfl, rfl⟩ | exact ⟨rfl, rfl, rfl, rfl⟩

/-- Two tick generators that agree but for clock and tally. -/
theorem Tick.patch_trans {a b c : Tick} (h : Tick.patch [.clock, .tally] a b = b)
    (k : Tick.patch [.clock, .tally] b c = c) : Tick.patch [.clock, .tally] a c = c := by
  rw [← k, ← h]
  rfl

theorem Field.same_trans {f : Field} {s t u : State} (h : f.same s t) (k : f.same t u) : f.same s u := by
  cases f
  case tick => exact Tick.patch_trans h k
  case clock => exact ⟨h.1.trans k.1, h.2.trans k.2⟩
  case tally => exact ⟨h.1.trans k.1, h.2.1.trans k.2.1, h.2.2.1.trans k.2.2.1, h.2.2.2.trans k.2.2.2⟩
  all_goals exact Eq.trans h k

theorem Field.same_symm {f : Field} {s t : State} (h : f.same s t) : f.same t s := by
  cases f
  case tick =>
    have h : Tick.patch [.clock, .tally] s.tick t.tick = t.tick := h
    show Tick.patch [.clock, .tally] t.tick s.tick = s.tick
    rw [← h]
    rfl
  case clock => exact ⟨h.1.symm, h.2.symm⟩
  case tally => exact ⟨h.1.symm, h.2.1.symm, h.2.2.1.symm, h.2.2.2.symm⟩
  all_goals exact Eq.symm h

/-- Tick generators that agree on their three parts are one. -/
theorem Tick.eq_of_same {s t : State} (h : Field.tick.same s t) (k : Field.clock.same s t)
    (l : Field.tally.same s t) : s.tick = t.tick := by
  obtain ⟨k1, k2⟩ := k
  obtain ⟨l1, l2, l3, l4⟩ := l
  refine Eq.trans ?_ h
  simp only [Tick.patch, ← k1, ← k2, ← l1, ← l2, ← l3, ← l4]
  rfl

/-- Two states that agree on every part are one. -/
theorem State.eq_of_same {s t : State} (h : ∀ f : Field, f.same s t) : s = t := by
  have := h .part
  have := h .pending
  have := h .dict
  have := h .staged
  have := h .nvm
  have := Tick.eq_of_same (h .tick) (h .clock) (h .tally)
  have := h .own
  have := h .ports
  have := h .ingest
  have := h .arrs
  have := h .queues
  have := h .mem
  have := h .fabric
  have := h .host
  have := h .bin
  have := h .log
  have := h .keys
  have := h .panels
  have := h .plat
  have := h .power
  have := h .sent
  have := h .free
  cases s
  cases t
  simp_all [Field.same]

/-- The parts that a patch takes from elsewhere, and those it keeps. -/
theorem State.patch_same (m : List Field) (o s : State) (f : Field) :
    if m.contains f then f.same s (State.patch m o s) else f.same o (State.patch m o s) := by
  cases h : m.contains f <;> cases f <;>
    simp only [Field.same, State.patch, Tick.patch, h, if_true, if_false, Bool.false_eq_true] <;>
    (repeat' constructor)

/-- `Within`, part by part. -/
theorem State.within_iff {m : List Field} {o s : State} :
    State.Within m o s ↔ ∀ f : Field, m.contains f = false → f.same o s := by
  constructor
  · intro h f hf
    have := State.patch_same m o s f
    rw [hf, if_neg (by simp), ← show s = State.patch m o s from h] at this
    exact this
  · intro h
    refine State.eq_of_same (fun f => ?_)
    have := State.patch_same m o s f
    cases hf : m.contains f with
    | true => rwa [hf, if_pos rfl] at this
    | false =>
      rw [hf, if_neg (by simp)] at this
      exact Field.same_trans (Field.same_symm (h f hf)) this

theorem State.Within.refl (m : List Field) (s : State) : State.Within m s s :=
  State.within_iff.2 (fun f _ => f.same_refl s)

theorem Field.sub_trans {a b c : List Field} (h : Field.sub a b = true) (k : Field.sub b c = true) :
    Field.sub a c = true := by
  simp only [Field.sub, List.all_eq_true, List.contains_iff_mem] at *
  exact fun f hf => k f (h f hf)

theorem Field.sub_of {a b c : List Field} (k : Field.sub b c = true) (h : Field.sub a b = true) :
    Field.sub a c = true := Field.sub_trans h k

theorem Field.sub_refl (a : List Field) : Field.sub a a = true := by simp [Field.sub]

/-- A step that touches the parts in `d`, after one that touches those in `m`. -/
theorem State.Within.trans {d m : List Field} {o s t : State} (h : State.Within m o s) (k : State.Within d s t)
    (hm : Field.sub d m = true) : State.Within m o t := by
  rw [State.within_iff] at *
  intro f hf
  refine Field.same_trans (h f hf) (k f ?_)
  by_contra hd
  simp only [Field.sub, List.all_eq_true, List.contains_iff_mem] at hm
  simp only [Bool.not_eq_false, List.contains_iff_mem] at hd
  have := hm f hd
  simp_all

/-! ## Sound states -/

/-- `s` differs from `o` at most in the parts in `m`, its device time is at least `n`, and it has the invariant where
`o` has it. -/
structure State.Sound (m : List Field) (o : State) (n : Nat) (s : State) : Prop where
  within : State.Within m o s
  time : n ≤ s.tick.now
  good : o.Inv → s.Inv

/-- An answer with a value beside the state. -/
def State.SoundP {α : Type} (m : List Field) (o : State) (n : Nat) (y : α × State) : Prop := State.Sound m o n y.2

/-- An answer with two values beside the state. -/
def State.SoundP2 {α β : Type} (m : List Field) (o : State) (n : Nat) (y : α × β × State) : Prop :=
  State.Sound m o n y.2.2

/-- An answer with three values beside the state. -/
def State.SoundP3 {α β γ : Type} (m : List Field) (o : State) (n : Nat) (y : α × β × γ × State) : Prop :=
  State.Sound m o n y.2.2.2

/-- An answer with the state in front of a value. -/
def State.SoundF {α : Type} (m : List Field) (o : State) (n : Nat) (y : State × α) : Prop := State.Sound m o n y.1

/-- A step of the graph walker. -/
def State.SoundG (m : List Field) (o : State) (n : Nat) (y : Gw) : Prop := State.Sound m o n y.state

/-- A stage of the guard step. -/
def State.SoundGR (m : List Field) (o : State) (n : Nat) (y : GuardRun) : Prop := State.Sound m o n y.state

/-- A read of the graph walker. -/
def State.SoundPG {α : Type} (m : List Field) (o : State) (n : Nat) (y : α × Gw) : Prop := State.Sound m o n y.2.state

/-- A state that may be absent. -/
def State.SoundO (m : List Field) (o : State) (n : Nat) (y : Option State) : Prop := ∀ s, y = some s → State.Sound m o n s

/-- An answer with a value beside the state, where there is one. -/
def State.SoundOP {α : Type} (m : List Field) (o : State) (n : Nat) (y : Option (α × State)) : Prop :=
  ∀ a s, y = some (a, s) → State.Sound m o n s

/-- The outcome of a command. -/
def State.SoundX (m : List Field) (o : State) (n : Nat) (y : Host.Outcome State Fault Refusal) : Prop :=
  ∀ s, y = .next s → State.Sound m o n s

/-- A reply of the protocol. -/
def State.SoundR (m : List Field) (o : State) (n : Nat) (y : Reply) : Prop :=
  match y with
  | .done _ _ s => State.Sound m o n s
  | .refused _ _ s => State.Sound m o n s
  | .later s => State.Sound m o n s

variable {m : List Field} {o : State} {n : Nat}

/-- The state one starts from. -/
theorem State.Sound.refl (m : List Field) (s : State) : State.Sound m s s.tick.now s :=
  ⟨State.Within.refl m s, Nat.le_refl _, id⟩

/-- A state that differs in the parts in `d` and agrees on what the invariant speaks of. -/
theorem State.Sound.congr {s s' : State} (d : List Field) (h : State.Sound m o n s) (hm : Field.sub d m = true)
    (hp : s' = State.patch d s s') (h1 : s'.part = s.part) (h3 : s.tick.now ≤ s'.tick.now) (h4 : s'.dict = s.dict)
    (h5 : s'.mem.cells = s.mem.cells) (h6 : s'.shape = s.shape) : State.Sound m o n s' :=
  ⟨h.within.trans hp hm, h.time.trans h3, fun g => by
    have := h.good g
    simpa only [State.Inv, State.Canonical, State.Shaped, h1, h4, h5, h6] using this⟩

/-- A state that differs in the parts in `d`, with canonical forms and all units shown anew. -/
theorem State.Sound.renewed {s s' : State} (d : List Field) (h : State.Sound m o n s) (hm : Field.sub d m = true)
    (hp : s' = State.patch d s s') (h3 : s.tick.now ≤ s'.tick.now) (h4 : s.Inv → s'.Inv) : State.Sound m o n s' :=
  ⟨h.within.trans hp hm, h.time.trans h3, fun g => h4 (h.good g)⟩

/-- A device time that has been reached stays reached. -/
theorem State.Sound.mono {s : State} {k : Nat} (h : State.Sound m o n s) (hk : k ≤ n) : State.Sound m o k s :=
  ⟨h.within, hk.trans h.time, h.good⟩

/-- The units, one by one. -/
theorem State.shaped_iff (s : State) : s.Shaped ↔
    s.ports.length = 4 ∧ s.queues.length = 32 ∧ s.arrs.length = 8 ∧ s.panels.length = 4 ∧
      s.ingest.slots.length = 48 ∧ s.ingest.ctxs.length = 16 ∧ s.ingest.fusion.length = 8 ∧
      s.host.mailboxes.length = 8 ∧ s.host.engines.length = 8 ∧ s.plat.channels.length = 24 ∧
      s.plat.fans.length = 2 ∧ s.keys.encoders.length = 8 := by
  simp [State.Shaped, State.shape]

theorem State.Sound.ite {c : Prop} [Decidable c] {x y : State} (hx : State.Sound m o n x)
    (hy : State.Sound m o n y) : State.Sound m o n (if c then x else y) := by split <;> assumption

theorem State.SoundP.ite {α : Type} {c : Prop} [Decidable c] {x y : α × State} (hx : State.SoundP m o n x)
    (hy : State.SoundP m o n y) : State.SoundP m o n (if c then x else y) := by split <;> assumption

theorem State.SoundP2.ite {α β : Type} {c : Prop} [Decidable c] {x y : α × β × State} (hx : State.SoundP2 m o n x)
    (hy : State.SoundP2 m o n y) : State.SoundP2 m o n (if c then x else y) := by split <;> assumption

theorem State.SoundP3.ite {α β γ : Type} {c : Prop} [Decidable c] {x y : α × β × γ × State}
    (hx : State.SoundP3 m o n x) (hy : State.SoundP3 m o n y) : State.SoundP3 m o n (if c then x else y) := by
  split <;> assumption

theorem State.SoundF.ite {α : Type} {c : Prop} [Decidable c] {x y : State × α} (hx : State.SoundF m o n x)
    (hy : State.SoundF m o n y) : State.SoundF m o n (if c then x else y) := by split <;> assumption

theorem State.SoundG.ite {c : Prop} [Decidable c] {x y : Gw} (hx : State.SoundG m o n x)
    (hy : State.SoundG m o n y) : State.SoundG m o n (if c then x else y) := by split <;> assumption

theorem State.SoundGR.ite {c : Prop} [Decidable c] {x y : GuardRun} (hx : State.SoundGR m o n x)
    (hy : State.SoundGR m o n y) : State.SoundGR m o n (if c then x else y) := by split <;> assumption

theorem State.SoundPG.ite {α : Type} {c : Prop} [Decidable c] {x y : α × Gw} (hx : State.SoundPG m o n x)
    (hy : State.SoundPG m o n y) : State.SoundPG m o n (if c then x else y) := by split <;> assumption

theorem State.SoundO.ite {c : Prop} [Decidable c] {x y : Option State} (hx : State.SoundO m o n x)
    (hy : State.SoundO m o n y) : State.SoundO m o n (if c then x else y) := by split <;> assumption

theorem State.SoundX.ite {c : Prop} [Decidable c] {x y : Host.Outcome State Fault Refusal}
    (hx : State.SoundX m o n x) (hy : State.SoundX m o n y) : State.SoundX m o n (if c then x else y) := by
  split <;> assumption

theorem State.SoundR.ite {c : Prop} [Decidable c] {x y : Reply} (hx : State.SoundR m o n x)
    (hy : State.SoundR m o n y) : State.SoundR m o n (if c then x else y) := by split <;> assumption

theorem State.SoundP.mk {α : Type} {a : α} {s : State} (h : State.Sound m o n s) : State.SoundP m o n (a, s) := h

theorem State.SoundP.snd {α : Type} {y : α × State} (h : State.SoundP m o n y) : State.Sound m o n y.2 := h

theorem State.SoundP.of {α : Type} {y : α × State} {a : α} {s : State} (e : y = (a, s)) (h : State.SoundP m o n y) :
    State.Sound m o n s := by subst e; exact h

theorem State.SoundP2.snd {α β : Type} {y : α × β × State} (h : State.SoundP2 m o n y) : State.Sound m o n y.2.2 := h

theorem State.SoundP2.mk {α β : Type} {a : α} {b : β} {s : State} (h : State.Sound m o n s) :
    State.SoundP2 m o n (a, b, s) := h

theorem State.SoundP2.of {α β : Type} {y : α × β × State} {a : α} {b : β} {s : State} (e : y = (a, b, s))
    (h : State.SoundP2 m o n y) : State.Sound m o n s := by subst e; exact h

theorem State.SoundP3.mk {α β γ : Type} {a : α} {b : β} {c : γ} {s : State} (h : State.Sound m o n s) :
    State.SoundP3 m o n (a, b, c, s) := h

theorem State.SoundP3.of {α β γ : Type} {y : α × β × γ × State} {a : α} {b : β} {c : γ} {s : State}
    (e : y = (a, b, c, s)) (h : State.SoundP3 m o n y) : State.Sound m o n s := by subst e; exact h

theorem State.SoundF.mk {α : Type} {a : α} {s : State} (h : State.Sound m o n s) : State.SoundF m o n (s, a) := h

theorem State.SoundF.fst {α : Type} {y : State × α} (h : State.SoundF m o n y) : State.Sound m o n y.1 := h

theorem State.SoundF.of {α : Type} {y : State × α} {a : α} {s : State} (e : y = (s, a)) (h : State.SoundF m o n y) :
    State.Sound m o n s := by subst e; exact h

theorem State.SoundG.mk {b : Bool} {s : State} (h : State.Sound m o n s) :
    State.SoundG m o n { state := s, ok := b } := h

theorem State.SoundG.state {y : Gw} (h : State.SoundG m o n y) : State.Sound m o n y.state := h

theorem State.SoundGR.mk {e : Option (Nat × Nat)} {k : Nat} {s : State} (h : State.Sound m o n s) :
    State.SoundGR m o n { state := s, ended := e, bytes := k } := h

theorem State.SoundGR.state {y : GuardRun} (h : State.SoundGR m o n y) : State.Sound m o n y.state := h

theorem State.SoundPG.mk {α : Type} {a : α} {y : Gw} (h : State.SoundG m o n y) : State.SoundPG m o n (a, y) := h

theorem State.SoundPG.snd {α : Type} {y : α × Gw} (h : State.SoundPG m o n y) : State.SoundG m o n y.2 := h

theorem State.SoundPG.of {α : Type} {y : α × Gw} {a : α} {g : Gw} (e : y = (a, g)) (h : State.SoundPG m o n y) :
    State.SoundG m o n g := by subst e; exact h

theorem State.SoundO.none : State.SoundO m o n .none := fun _ e => absurd e (Option.some_ne_none _).symm

theorem State.SoundO.some {s : State} (h : State.Sound m o n s) : State.SoundO m o n (.some s) :=
  fun _ e => Option.some.inj e ▸ h

theorem State.SoundO.of {y : Option State} {s : State} (e : y = .some s) (h : State.SoundO m o n y) :
    State.Sound m o n s := h s e

theorem State.SoundO.getD {y : Option State} {s : State} (h : State.SoundO m o n y) (hs : State.Sound m o n s) :
    State.Sound m o n (y.getD s) := by
  cases y with
  | none => exact hs
  | some x => exact h x rfl

theorem State.SoundOP.ite {α : Type} {c : Prop} [Decidable c] {x y : Option (α × State)}
    (hx : State.SoundOP m o n x) (hy : State.SoundOP m o n y) : State.SoundOP m o n (if c then x else y) := by
  split <;> assumption

theorem State.SoundOP.none {α : Type} : State.SoundOP (α := α) m o n .none :=
  fun _ _ e => absurd e (Option.some_ne_none _).symm

theorem State.SoundOP.some {α : Type} {y : α × State} (h : State.SoundP m o n y) : State.SoundOP m o n (.some y) :=
  fun _ _ e => by have := Option.some.inj e; subst this; exact h

theorem State.SoundOP.of {α : Type} {y : Option (α × State)} {x : α × State} (e : y = .some x)
    (h : State.SoundOP m o n y) : State.SoundP m o n x := h x.1 x.2 e

theorem State.SoundX.next {s : State} (h : State.Sound m o n s) : State.SoundX m o n (.next s) :=
  fun _ e => Host.Outcome.next.inj e ▸ h

theorem State.SoundX.fault {f : Fault} : State.SoundX m o n (.fault f) := by
  intro s e
  simp at e

theorem State.SoundR.done {f : Nat} {b : Bytes} {s : State} (h : State.Sound m o n s) :
    State.SoundR m o n (.done f b s) := h

theorem State.SoundR.refused {f c : Nat} {s : State} (h : State.Sound m o n s) :
    State.SoundR m o n (.refused f c s) := h

theorem State.SoundR.later {s : State} (h : State.Sound m o n s) : State.SoundR m o n (.later s) := h

theorem State.SoundR.of_done {y : Reply} {f : Nat} {b : Bytes} {s : State} (e : y = .done f b s)
    (h : State.SoundR m o n y) : State.Sound m o n s := by subst e; exact h

theorem State.SoundR.of_refused {y : Reply} {f c : Nat} {s : State} (e : y = .refused f c s)
    (h : State.SoundR m o n y) : State.Sound m o n s := by subst e; exact h

theorem State.SoundR.of_later {y : Reply} {s : State} (e : y = .later s)
    (h : State.SoundR m o n y) : State.Sound m o n s := by subst e; exact h

theorem State.Sound.foldl {α : Type} {f : State → α → State} {xs : List α} {s : State} (h : State.Sound m o n s)
    (hf : ∀ s x, State.Sound m o n s → State.Sound m o n (f s x)) : State.Sound m o n (xs.foldl f s) := by
  induction xs generalizing s with
  | nil => exact h
  | cons x xs ih => exact ih (hf s x h)

theorem State.SoundG.foldl {α : Type} {f : Gw → α → Gw} {xs : List α} {g : Gw} (h : State.SoundG m o n g)
    (hf : ∀ g x, State.SoundG m o n g → State.SoundG m o n (f g x)) : State.SoundG m o n (xs.foldl f g) := by
  induction xs generalizing g with
  | nil => exact h
  | cons x xs ih => exact ih (hf g x h)

theorem State.SoundPG.foldl {α β : Type} {f : β × Gw → α → β × Gw} {xs : List α} {y : β × Gw}
    (h : State.SoundPG m o n y) (hf : ∀ y x, State.SoundPG m o n y → State.SoundPG m o n (f y x)) :
    State.SoundPG m o n (xs.foldl f y) := by
  induction xs generalizing y with
  | nil => exact h
  | cons x xs ih => exact ih (hf y x h)

theorem State.SoundP.foldl {α β : Type} {f : β × State → α → β × State} {xs : List α} {y : β × State}
    (h : State.SoundP m o n y) (hf : ∀ y x, State.SoundP m o n y → State.SoundP m o n (f y x)) :
    State.SoundP m o n (xs.foldl f y) := by
  induction xs generalizing y with
  | nil => exact h
  | cons x xs ih => exact ih (hf y x h)

/-! ## The plain operations of Machine/Ops -/

theorem State.Sound.setVal {s : State} {a : Nat} {w : Val} (h : State.Sound m o n s)
    (hm : Field.sub [.dict] m = true) : State.Sound m o n (s.setVal a w) :=
  State.Sound.renewed [.dict] h hm rfl (Nat.le_refl _) (fun g => ⟨⟨Dict.wf_set a w g.1.1, g.1.2⟩, g.2⟩)

theorem State.Sound.writeMem {s : State} {x : Nat} {bs : Bytes} (h : State.Sound m o n s)
    (hm : Field.sub [.mem] m = true) : State.Sound m o n (s.writeMem x bs) :=
  State.Sound.renewed [.mem] h hm rfl (Nat.le_refl _) (fun g => ⟨⟨g.1.1, Memory.wf_write x bs g.1.2⟩, g.2⟩)

theorem State.Sound.advance {s : State} {t : Nat} (h : State.Sound m o n s) (hm : Field.sub [.clock] m = true) :
    State.Sound m o n (s.advance t) := by
  unfold State.advance
  split
  · exact h
  · rename_i hc
    refine State.Sound.congr [.clock] h hm rfl rfl ?_ rfl rfl rfl
    simp at hc ⊢
    omega

theorem State.Sound.idleCycle {s : State} (h : State.Sound m o n s) (hm : Field.sub [.clock] m = true) :
    State.Sound m o n s.idleCycle := by
  unfold State.idleCycle
  split
  · exact h
  · exact State.Sound.congr [.clock] h hm rfl rfl (Nat.le_add_right _ _) rfl rfl rfl

theorem State.Sound.setSlot {s : State} {i : Nat} {f : Slot → Slot} (h : State.Sound m o n s)
    (hm : Field.sub [.ingest] m = true) : State.Sound m o n (s.setSlot i f) :=
  State.Sound.congr [.ingest] h hm rfl rfl (Nat.le_refl _) rfl rfl (by simp [State.shape, State.setSlot])

theorem State.Sound.setArr {s : State} {i : Nat} {f : Arr → Arr} (h : State.Sound m o n s)
    (hm : Field.sub [.arrs] m = true) : State.Sound m o n (s.setArr i f) :=
  State.Sound.congr [.arrs] h hm rfl rfl (Nat.le_refl _) rfl rfl (by simp [State.shape, State.setArr])

theorem State.Sound.setQueue {s : State} {i : Nat} {f : Queue → Queue} (h : State.Sound m o n s)
    (hm : Field.sub [.queues] m = true) : State.Sound m o n (s.setQueue i f) :=
  State.Sound.congr [.queues] h hm rfl rfl (Nat.le_refl _) rfl rfl (by simp [State.shape, State.setQueue])

theorem State.Sound.setPanel {s : State} {i : Nat} {f : Panel → Panel} (h : State.Sound m o n s)
    (hm : Field.sub [.panels] m = true) : State.Sound m o n (s.setPanel i f) :=
  State.Sound.congr [.panels] h hm rfl rfl (Nat.le_refl _) rfl rfl (by simp [State.shape, State.setPanel])

theorem State.Sound.setMailbox {s : State} {i : Nat} {f : Mailbox → Mailbox} (h : State.Sound m o n s)
    (hm : Field.sub [.host] m = true) : State.Sound m o n (s.setMailbox i f) :=
  State.Sound.congr [.host] h hm rfl rfl (Nat.le_refl _) rfl rfl (by simp [State.shape, State.setMailbox])

theorem State.Sound.setPort {s : State} {i : Port} {f : PortState → PortState} (h : State.Sound m o n s)
    (hm : Field.sub [.ports] m = true) : State.Sound m o n (s.setPort i f) :=
  State.Sound.congr [.ports] h hm rfl rfl (Nat.le_refl _) rfl rfl (by simp [State.shape, State.setPort])

end Sys2Proof.Machine
end

