-- ==== Sys2Proof/Laws/KeepOps.lean ====
section
/-! SUPPORT. Laws/KeepOps: what the shared operations keep: sending, counters, faults, accesses to memory (`State.Sound`: the parts
touched, device time, the invariant). -/

namespace Sys2Proof.Machine

variable {m : List Field} {o : State} {n : Nat}

/-! ## Ops -/

theorem State.Sound.setNum {s a x} (h : State.Sound m o n s) (hm : Field.sub [.dict] m = true) :
    State.Sound m o n (State.setNum s a x) := by
  unfold State.setNum
  exact State.Sound.setVal h (Field.sub_of hm rfl)

theorem State.Sound.bumpBy {s a k} (h : State.Sound m o n s) (hm : Field.sub [.dict] m = true) :
    State.Sound m o n (State.bumpBy s a k) := by
  unfold State.bumpBy
  extract_lets x1
  exact State.Sound.ite (State.Sound.setNum h (Field.sub_of hm rfl)) (State.Sound.setNum (State.Sound.setNum h
      (Field.sub_of hm rfl)) (Field.sub_of hm rfl))

theorem State.Sound.bump {s a} (h : State.Sound m o n s) (hm : Field.sub [.dict] m = true) :
    State.Sound m o n (State.bump s a) := by
  unfold State.bump
  exact State.Sound.bumpBy h (Field.sub_of hm rfl)

theorem State.Sound.bumpWord {s a} (h : State.Sound m o n s) (hm : Field.sub [.dict] m = true) :
    State.Sound m o n (State.bumpWord s a) := by
  unfold State.bumpWord
  extract_lets x1
  exact State.Sound.ite (State.Sound.setNum h (Field.sub_of hm rfl)) (State.Sound.setNum (State.Sound.setNum h
      (Field.sub_of hm rfl)) (Field.sub_of hm rfl))

theorem State.Sound.takeFree {s bound} (h : State.Sound m o n s) (hm : Field.sub [.free] m = true) :
    State.SoundP m o n (State.takeFree s bound) := by
  unfold State.takeFree
  exact State.SoundP.mk (State.Sound.congr [.free] h (Field.sub_of hm rfl) rfl rfl (Nat.le_refl _) rfl rfl rfl)

theorem State.Sound.takeFreeBytes {s k} (h : State.Sound m o n s) (hm : Field.sub [.free] m = true) :
    State.SoundP m o n (State.takeFreeBytes s k) := by
  unfold State.takeFreeBytes
  exact State.SoundP.mk (State.Sound.congr [.free] h (Field.sub_of hm rfl) rfl rfl (Nat.le_refl _) rfl rfl rfl)

theorem State.Sound.presetCounter {s a v} (h : State.Sound m o n s) (hm : Field.sub [.dict, .arrs] m = true) :
    State.Sound m o n (State.presetCounter s a v) := by
  unfold State.presetCounter
  extract_lets x1
  have h1 : State.Sound m o n x1 := State.Sound.setVal h (Field.sub_of hm rfl)
  clear_value x1
  split
  · rename_i y1 y2 y3
    exact State.Sound.setArr h1 (Field.sub_of hm rfl)
  · rename_i y4 y5
    exact h1

theorem State.Sound.emit {s x} (h : State.Sound m o n s) (hm : Field.sub [.sent] m = true) :
    State.Sound m o n (State.emit s x) := by
  unfold State.emit
  exact State.Sound.congr [.sent] h (Field.sub_of hm rfl) rfl rfl (Nat.le_refl _) rfl rfl rfl

theorem State.Sound.emitVector {s v} (h : State.Sound m o n s) (hm : Field.sub [.sent] m = true) :
    State.Sound m o n (State.emitVector s v) := by
  unfold State.emitVector
  extract_lets x1
  exact State.Sound.emit h (Field.sub_of hm rfl)

theorem State.Sound.sendVector {s v} (h : State.Sound m o n s) (hm : Field.sub [.host, .sent] m = true) :
    State.Sound m o n (State.sendVector s v) := by
  unfold State.sendVector
  exact State.Sound.ite (State.Sound.emit h (Field.sub_of hm rfl)) (State.Sound.congr [.host] h (Field.sub_of hm
      rfl) rfl rfl (Nat.le_refl _) rfl rfl rfl)

theorem State.Sound.hostWrite {s addr bs} (h : State.Sound m o n s) (hm : Field.sub [.sent] m = true) :
    State.Sound m o n (State.hostWrite s addr bs) := by
  unfold State.hostWrite
  exact State.Sound.emit h (Field.sub_of hm rfl)

theorem State.Sound.ringWrite {s pdu} (h : State.Sound m o n s) (hm : Field.sub [.host, .sent] m = true) :
    State.Sound m o n (State.ringWrite s pdu) := by
  unfold State.ringWrite
  extract_lets x1 x2 x3 x4
  have h1 : State.Sound m o n x2 := State.Sound.hostWrite h (Field.sub_of hm rfl)
  clear_value x2
  have h2 : State.Sound m o n x4 := State.Sound.congr [.host] h1 (Field.sub_of hm rfl) rfl rfl (Nat.le_refl _) rfl
      rfl rfl
  clear_value x4
  exact State.Sound.sendVector h2 (Field.sub_of hm rfl)

theorem State.Sound.mailShevy {s pdu} (h : State.Sound m o n s) (hm : Field.sub [.host] m = true) :
    State.Sound m o n (State.mailShevy s pdu) := by
  unfold State.mailShevy
  exact State.Sound.setMailbox h (Field.sub_of hm rfl)

theorem State.Sound.sendFrame {s p r pdu} (h : State.Sound m o n s) (hm : Field.sub [.sent] m = true) :
    State.Sound m o n (State.sendFrame s p r pdu) := by
  unfold State.sendFrame
  exact State.Sound.ite (State.Sound.emit h (Field.sub_of hm rfl)) (State.Sound.emit h (Field.sub_of hm rfl))

theorem State.Sound.sendResponse {s p r pdu} (h : State.Sound m o n s) (hm : Field.sub [.host, .sent] m = true) :
    State.Sound m o n (State.sendResponse s p r pdu) := by
  unfold State.sendResponse
  split
  · rename_i y1
    exact State.Sound.sendFrame h (Field.sub_of hm rfl)
  · rename_i y2
    exact State.Sound.sendFrame h (Field.sub_of hm rfl)
  · rename_i y3
    exact State.Sound.mailShevy h (Field.sub_of hm rfl)
  · rename_i y4
    refine State.Sound.ite h ?_
    refine State.Sound.ite ?_ (State.Sound.congr [.host] h (Field.sub_of hm rfl) rfl rfl (Nat.le_refl _) rfl rfl rfl)
    extract_lets x1 x2 x3
    have h1 : State.Sound m o n x1 := State.Sound.ringWrite h (Field.sub_of hm rfl)
    clear_value x1
    exact State.Sound.congr [.host] h1 (Field.sub_of hm rfl) rfl rfl (Nat.le_refl _) rfl rfl rfl

theorem State.Sound.respond {s p r pdu} (h : State.Sound m o n s) (hm : Field.sub [.ports, .host, .sent] m = true) :
    State.Sound m o n (State.respond s p r pdu) := by
  unfold State.respond
  exact State.Sound.ite (State.Sound.sendResponse h (Field.sub_of hm rfl)) (State.Sound.setPort h (Field.sub_of hm
      rfl))

theorem State.Sound.holdResponse {s p r pdu} (h : State.Sound m o n s) (hm : Field.sub [.ports] m = true) :
    State.Sound m o n (State.holdResponse s p r pdu) := by
  unfold State.holdResponse
  exact State.Sound.setPort h (Field.sub_of hm rfl)

theorem State.Sound.releaseResponse {s p} (h : State.Sound m o n s) (hm : Field.sub [.ports, .host, .sent] m = true)
    :
    State.Sound m o n (State.releaseResponse s p) := by
  unfold State.releaseResponse
  extract_lets x1 x2
  have h1 : State.Sound m o n x2 := State.Sound.setPort h (Field.sub_of hm rfl)
  clear_value x2
  exact State.Sound.foldl h1 (fun s1 x3 h2 => (State.Sound.sendResponse h2 (Field.sub_of hm rfl)))

theorem State.Sound.ringNotify {s pdu} (h : State.Sound m o n s) (hm : Field.sub [.host, .sent] m = true) :
    State.Sound m o n (State.ringNotify s pdu) := by
  unfold State.ringNotify
  extract_lets x1 x2
  exact State.Sound.ite h (State.Sound.ite (State.Sound.congr [.host] h (Field.sub_of hm rfl) rfl rfl (Nat.le_refl _)
      rfl rfl rfl) (State.Sound.ringWrite h (Field.sub_of hm rfl)))

theorem State.Sound.notifyOn {s p event addr st data} (h : State.Sound m o n s) (hm : Field.sub [.ports, .host,
    .sent] m = true) :
    State.Sound m o n (State.notifyOn s p event addr st data) := by
  unfold State.notifyOn
  refine State.Sound.ite h ?_
  extract_lets x1 x2 x3
  have h1 : State.Sound m o n x2 := State.Sound.setPort h (Field.sub_of hm rfl)
  clear_value x2
  split
  · exact State.Sound.emit h1 (Field.sub_of hm rfl)
  · exact State.Sound.emit h1 (Field.sub_of hm rfl)
  · exact State.Sound.mailShevy h1 (Field.sub_of hm rfl)
  · exact State.Sound.ringNotify h1 (Field.sub_of hm rfl)

theorem State.Sound.notifyPorts {s ps event addr st data} (h : State.Sound m o n s) (hm : Field.sub [.ports, .host,
    .sent] m = true) :
    State.Sound m o n (State.notifyPorts s ps event addr st data) := by
  unfold State.notifyPorts
  exact State.Sound.foldl h (fun s1 x1 h1 => State.Sound.notifyOn h1 (Field.sub_of hm rfl))

theorem State.Sound.notify {s event addr data} (h : State.Sound m o n s) (hm : Field.sub [.ports, .host, .sent] m =
    true) :
    State.Sound m o n (State.notify s event addr data) := by
  unfold State.notify
  exact State.Sound.notifyPorts h (Field.sub_of hm rfl)

/-! ## Faults -/

theorem State.Sound.countMechanism {s mechanism} (h : State.Sound m o n s) (hm : Field.sub [.dict] m = true) :
    State.Sound m o n (State.countMechanism s mechanism) := by
  unfold State.countMechanism
  exact State.Sound.ite h (State.Sound.bump h (Field.sub_of hm rfl))

theorem State.Sound.latchMechanism {s mechanism} (h : State.Sound m o n s) (hm : Field.sub [.dict] m = true) :
    State.Sound m o n (State.latchMechanism s mechanism) := by
  unfold State.latchMechanism
  exact State.Sound.setNum h (Field.sub_of hm rfl)

theorem State.Sound.latchSafety {s mechanism} (h : State.Sound m o n s) (hm : Field.sub [.dict, .bin] m = true) :
    State.Sound m o n (State.latchSafety s mechanism) := by
  unfold State.latchSafety
  extract_lets x1 x2
  have h1 : State.Sound m o n x1 := State.Sound.bump (State.Sound.latchMechanism h (Field.sub_of hm rfl))
      (Field.sub_of hm rfl)
  clear_value x1
  exact State.Sound.congr [.bin] h1 (Field.sub_of hm rfl) rfl rfl (Nat.le_refl _) rfl rfl rfl

theorem State.Sound.setSuppress {s x} (h : State.Sound m o n s) (hm : Field.sub [.log] m = true) :
    State.Sound m o n (State.setSuppress s x) := by
  unfold State.setSuppress
  exact State.Sound.congr [.log] h (Field.sub_of hm rfl) rfl rfl (Nat.le_refl _) rfl rfl rfl

theorem State.Sound.countLogged {s signature tick} (h : State.Sound m o n s) (hm : Field.sub [.dict, .log] m = true)
    :
    State.SoundP m o n (State.countLogged s signature tick) := by
  unfold State.countLogged
  extract_lets x1
  exact State.SoundP.ite (State.SoundP.ite (State.SoundP.mk (State.Sound.bump (State.Sound.setSuppress h
      (Field.sub_of hm rfl)) (Field.sub_of hm rfl))) (State.SoundP.mk (State.Sound.setSuppress h (Field.sub_of hm
      rfl)))) (State.SoundP.mk (State.Sound.setSuppress h (Field.sub_of hm rfl)))

theorem State.Sound.returnSuppressed {s signature k2} (h : State.Sound m o n s) (hm : Field.sub [.log] m = true) :
    State.Sound m o n (State.returnSuppressed s signature k2) := by
  unfold State.returnSuppressed
  refine State.Sound.ite h ?_
  extract_lets x1
  exact State.Sound.setSuppress h (Field.sub_of hm rfl)

theorem State.Sound.renumberRefs {s k1} (h : State.Sound m o n s) (hm : Field.sub [.queues, .bin] m = true) :
    State.Sound m o n (State.renumberRefs s k1) := by
  unfold State.renumberRefs
  extract_lets x1 x2
  exact State.Sound.congr [.queues, .bin] h (Field.sub_of hm rfl) rfl rfl (Nat.le_refl _) rfl rfl (by simp
      [State.shape])

theorem State.Sound.assignSeq {s r} (h : State.Sound m o n s) (hm : Field.sub [.queues, .bin, .log] m = true) :
    State.SoundP m o n (State.assignSeq s r) := by
  unfold State.assignSeq
  extract_lets x1 x2 x3 x4 x5 x6 x7
  have h1 : State.Sound m o n x4 := State.Sound.ite h (State.Sound.renumberRefs h (Field.sub_of hm rfl))
  clear_value x4
  exact State.SoundP.mk (State.Sound.congr [.bin, .log] h1 (Field.sub_of hm rfl) rfl rfl (Nat.le_refl _) rfl rfl rfl)

theorem State.Sound.detect {s d} (h : State.Sound m o n s) (hm : Field.sub [.dict, .tally, .queues, .bin, .log] m =
    true) :
    State.SoundP m o n (State.detect s d) := by
  unfold State.detect
  extract_lets x1 x2 x3 x4 x5 x6
  have h1 : State.Sound m o n x1 := State.Sound.countMechanism h (Field.sub_of hm rfl)
  clear_value x1
  have h2 : State.Sound m o n x3 := State.Sound.congr [.tally] h1 (Field.sub_of hm rfl) rfl rfl (Nat.le_refl _) rfl
      rfl rfl
  clear_value x3
  have h3 : State.Sound m o n x5 := State.Sound.latchSafety h2 (Field.sub_of hm rfl)
  clear_value x5
  have h4 : State.Sound m o n x6 := State.Sound.bump h2 (Field.sub_of hm rfl)
  clear_value x6
  refine State.SoundP.ite (State.Sound.assignSeq h3 (Field.sub_of hm rfl)) ?_
  split
  rename_i y1 y2 y3 y4
  have h5 : State.Sound m o n y3 := State.SoundP.of y4 (State.Sound.countLogged h4 (Field.sub_of hm rfl))
  split
  · rename_i y5
    have h6 : State.Sound m o n y3 := State.SoundP.of y4 (State.Sound.countLogged h4 (Field.sub_of hm rfl))
    exact State.SoundP.mk (State.Sound.congr [.bin] h5 (Field.sub_of hm rfl) rfl rfl (Nat.le_refl _) rfl rfl rfl)
  · rename_i y6 y7
    have h7 : State.Sound m o n y3 := State.SoundP.of y4 (State.Sound.countLogged h4 (Field.sub_of hm rfl))
    exact State.Sound.assignSeq h5 (Field.sub_of hm rfl)

theorem State.Sound.raise {s d} (h : State.Sound m o n s) (hm : Field.sub [.dict, .tally, .queues, .bin, .log] m =
    true) :
    State.Sound m o n (State.raise s d) := by
  unfold State.raise
  exact State.SoundP.snd (State.Sound.detect h (Field.sub_of hm rfl))

theorem State.Sound.pushReaction {s r} (h : State.Sound m o n s) (hm : Field.sub [.bin] m = true) :
    State.Sound m o n (State.pushReaction s r) := by
  unfold State.pushReaction
  exact State.Sound.congr [.bin] h (Field.sub_of hm rfl) rfl rfl (Nat.le_refl _) rfl rfl rfl

theorem State.Sound.giveVerdict {s a verdict} (h : State.Sound m o n s) (hm : Field.sub [.dict, .queues, .bin, .log]
    m = true) :
    State.Sound m o n (State.giveVerdict s a verdict) := by
  unfold State.giveVerdict
  extract_lets x1 x2 x3 x4 x5 x6
  have h2 : State.Sound m o n x3 := State.Sound.foldl h (fun s1 x7 h1 => (State.Sound.returnSuppressed
      (State.Sound.latchSafety h1 (Field.sub_of hm rfl)) (Field.sub_of hm rfl)))
  clear_value x3
  have h3 : State.Sound m o n x6 := State.Sound.congr [.bin] h2 (Field.sub_of hm rfl) rfl rfl (Nat.le_refl _) rfl
      rfl rfl
  clear_value x6
  exact State.Sound.foldl h3 (fun s2 x8 h4 => (State.SoundP.snd (State.Sound.assignSeq h4 (Field.sub_of hm rfl))))

theorem State.Sound.commitRecord {s r} (h : State.Sound m o n s) (hm : Field.sub [.dict, .bin, .log] m = true) :
    State.Sound m o n (State.commitRecord s r) := by
  unfold State.commitRecord
  extract_lets x1 x2
  split
  · rename_i y1 y2
    exact State.Sound.bump (State.Sound.returnSuppressed h (Field.sub_of hm rfl)) (Field.sub_of hm rfl)
  · rename_i y3 y4 y5
    extract_lets x3 x4 x5 x6
    have h1 : State.Sound m o n x3 := State.Sound.ite h (State.Sound.bump h (Field.sub_of hm rfl))
    clear_value x3
    have h2 : State.Sound m o n x6 := State.Sound.congr [.bin, .log] h1 (Field.sub_of hm rfl) rfl rfl (Nat.le_refl
        _) rfl rfl rfl
    clear_value x6
    exact State.Sound.bump h2 (Field.sub_of hm rfl)

theorem State.Sound.queueMessage {s tick kind valid faults meridian} (h : State.Sound m o n s) (hm : Field.sub
    [.dict, .bin] m = true) :
    State.Sound m o n (State.queueMessage s tick kind valid faults meridian) := by
  unfold State.queueMessage
  refine State.Sound.ite h ?_
  extract_lets x1 x2 x3 x4
  have h1 : State.Sound m o n x3 := State.Sound.ite (State.Sound.bump h (Field.sub_of hm rfl)) h
  clear_value x3
  exact State.Sound.congr [.bin] h1 (Field.sub_of hm rfl) rfl rfl (Nat.le_refl _) rfl rfl rfl

theorem State.Sound.eventMessage {s r} (h : State.Sound m o n s) (hm : Field.sub [.dict, .bin, .free] m = true) :
    State.Sound m o n (State.eventMessage s r) := by
  unfold State.eventMessage
  refine State.Sound.ite ?_ ?_
  · extract_lets x1
    exact State.Sound.queueMessage h (Field.sub_of hm rfl)
  · split
    · rename_i y1 y2 y3 y4
      have h1 : State.Sound m o n y3 := State.SoundP.of y4 (State.Sound.takeFree h (Field.sub_of hm rfl))
      split
      · rename_i y5 y6 y7 y8
        have h2 : State.Sound m o n y7 := State.SoundP.of y8 (State.Sound.takeFree h1 (Field.sub_of hm rfl))
        exact State.Sound.queueMessage h2 (Field.sub_of hm rfl)

theorem State.Sound.assertFault {s} (h : State.Sound m o n s) (hm : Field.sub [.bin] m = true) :
    State.Sound m o n (State.assertFault s) := by
  unfold State.assertFault
  exact State.Sound.congr [.bin] h (Field.sub_of hm rfl) rfl rfl (Nat.le_refl _) rfl rfl rfl

theorem State.Sound.notifyFault {s r} (h : State.Sound m o n s) (hm : Field.sub [.ports, .host, .sent] m = true) :
    State.Sound m o n (State.notifyFault s r) := by
  unfold State.notifyFault
  exact State.Sound.notifyPorts h (Field.sub_of hm rfl)

theorem State.Sound.react {s r} (h : State.Sound m o n s) (hm : Field.sub [.dict, .ports, .host, .bin, .log, .sent,
    .free] m = true) :
    State.Sound m o n (State.react s r) := by
  unfold State.react
  extract_lets x1
  have h1 : State.Sound m o n x1 := State.Sound.ite h (State.Sound.commitRecord h (Field.sub_of hm rfl))
  clear_value x1
  exact State.Sound.ite (State.Sound.notifyFault (State.Sound.eventMessage (State.Sound.assertFault
      (State.Sound.latchMechanism h1 (Field.sub_of hm rfl)) (Field.sub_of hm rfl)) (Field.sub_of hm rfl))
      (Field.sub_of hm rfl)) (State.Sound.notifyFault h1 (Field.sub_of hm rfl))

theorem State.Sound.binnacleReset {s} (h : State.Sound m o n s) (hm : Field.sub [.dict, .bin] m = true) :
    State.Sound m o n (State.binnacleReset s) := by
  unfold State.binnacleReset
  extract_lets x1 x2
  have h1 : State.Sound m o n x2 := State.Sound.congr [.bin] h (Field.sub_of hm rfl) rfl rfl (Nat.le_refl _) rfl rfl
      rfl
  clear_value x2
  exact State.Sound.bump (State.Sound.setNum h1 (Field.sub_of hm rfl)) (Field.sub_of hm rfl)

theorem State.Sound.lockstepMismatch {s} (h : State.Sound m o n s) (hm : Field.sub [.dict, .tally, .bin, .log] m =
    true) :
    State.Sound m o n (State.lockstepMismatch s) := by
  unfold State.lockstepMismatch
  extract_lets x1 x2 x3 x4
  have h1 : State.Sound m o n x4 := State.Sound.congr [.tally, .log] h (Field.sub_of hm rfl) rfl rfl (Nat.le_refl _)
      rfl rfl rfl
  clear_value x4
  exact State.Sound.binnacleReset (State.Sound.commitRecord (State.Sound.latchSafety h1 (Field.sub_of hm rfl))
      (Field.sub_of hm rfl)) (Field.sub_of hm rfl)

theorem State.Sound.copyOldest {s} (h : State.Sound m o n s) (hm : Field.sub [.dict, .log] m = true) :
    State.Sound m o n (State.copyOldest s) := by
  unfold State.copyOldest
  split
  · exact h
  · extract_lets x1 x2
    exact State.Sound.bump (State.Sound.congr [.log] h (Field.sub_of hm rfl) rfl rfl (Nat.le_refl _) rfl rfl rfl)
        (Field.sub_of hm rfl)

theorem State.Sound.binnacleUp {s} (h : State.Sound m o n s) (hm : Field.sub [.bin] m = true) :
    State.Sound m o n (State.binnacleUp s) := by
  unfold State.binnacleUp
  refine State.Sound.ite h ?_
  extract_lets x1 x2
  exact State.Sound.congr [.bin] h (Field.sub_of hm rfl) rfl rfl (Nat.le_refl _) rfl rfl rfl

theorem State.Sound.faultAck {s} (h : State.Sound m o n s) (hm : Field.sub [.dict, .bin] m = true) :
    State.Sound m o n (State.faultAck s) := by
  unfold State.faultAck
  extract_lets x1 x2
  have h1 : State.Sound m o n x1 := State.Sound.setNum h (Field.sub_of hm rfl)
  clear_value x1
  exact State.Sound.ite h1 (State.Sound.congr [.bin] h1 (Field.sub_of hm rfl) rfl rfl (Nat.le_refl _) rfl rfl rfl)

/-! ## Access -/

theorem State.Sound.countUe {s a} (h : State.Sound m o n s) (hm : Field.sub [.dict] m = true) :
    State.Sound m o n (State.countUe s a) := by
  unfold State.countUe
  exact State.Sound.ite (State.Sound.bump h (Field.sub_of hm rfl)) (State.Sound.bump h (Field.sub_of hm rfl))

theorem State.Sound.countCe {s a} (h : State.Sound m o n s) (hm : Field.sub [.dict] m = true) :
    State.Sound m o n (State.countCe s a) := by
  unfold State.countCe
  exact State.Sound.ite (State.Sound.bump h (Field.sub_of hm rfl)) (State.Sound.bump h (Field.sub_of hm rfl))

theorem State.Sound.rawStore {s a bs} (h : State.Sound m o n s) (hm : Field.sub [.mem] m = true) :
    State.SoundF m o n (State.rawStore s a bs) := by
  unfold State.rawStore
  extract_lets x1 x2 x3 x4 x5
  have h1 : State.Sound m o n x4 := State.Sound.writeMem h (Field.sub_of hm rfl)
  clear_value x4
  exact State.SoundF.mk (State.Sound.congr [.mem] h1 (Field.sub_of hm rfl) rfl rfl (Nat.le_refl _) rfl rfl rfl)

theorem State.Sound.store {s p a bs} (h : State.Sound m o n s) (hm : Field.sub [.mem] m = true) :
    State.SoundF m o n (State.store s p a bs) := by
  unfold State.store
  exact State.SoundF.ite (State.Sound.rawStore h (Field.sub_of hm rfl)) (State.SoundF.mk h)

theorem State.Sound.chargeBytes {s p k} (h : State.Sound m o n s) (hm : Field.sub [.dict, .mem] m = true) :
    State.Sound m o n (State.chargeBytes s p k) := by
  unfold State.chargeBytes
  refine State.Sound.ite h ?_
  extract_lets x1 x2 x3 x4
  have h1 : State.Sound m o n x4 := State.Sound.congr [.mem] h (Field.sub_of hm rfl) rfl rfl (Nat.le_refl _) rfl rfl
      rfl
  clear_value x4
  exact State.Sound.ite (State.Sound.bump h1 (Field.sub_of hm rfl)) h1

theorem State.Sound.chargeAccess {s p write a k} (h : State.Sound m o n s) (hm : Field.sub [.dict, .mem] m = true) :
    State.Sound m o n (State.chargeAccess s p write a k) := by
  unfold State.chargeAccess
  exact State.Sound.chargeBytes h (Field.sub_of hm rfl)

theorem State.Sound.violate {s w cause a} (h : State.Sound m o n s) (hm : Field.sub [.dict, .tally, .queues, .bin,
    .log] m = true) :
    State.SoundP m o n (State.violate s w cause a) := by
  unfold State.violate
  extract_lets x1 x2
  have h1 : State.Sound m o n x1 := State.Sound.bump h (Field.sub_of hm rfl)
  clear_value x1
  exact State.Sound.detect h1 (Field.sub_of hm rfl)

theorem State.Sound.uncorrectable {s scrub part queue tag cause a} (h : State.Sound m o n s) (hm : Field.sub [.dict,
    .tally, .queues, .bin, .log] m = true) :
    State.SoundP m o n (State.uncorrectable s scrub part queue tag cause a) := by
  unfold State.uncorrectable
  extract_lets x1 x2 x3 x4
  have h1 : State.Sound m o n x1 := State.Sound.countUe h (Field.sub_of hm rfl)
  clear_value x1
  exact State.SoundP.ite (State.SoundP.mk h1) (State.Sound.detect h1 (Field.sub_of hm rfl))

theorem State.Sound.correct {s k1} (h : State.Sound m o n s) (hm : Field.sub [.dict, .mem] m = true) :
    State.Sound m o n (State.correct s k1) := by
  unfold State.correct
  extract_lets x1 x2
  have h2 : State.Sound m o n x1 := State.Sound.foldl h (fun s1 x3 h1 => (State.Sound.countCe h1 (Field.sub_of hm
      rfl)))
  clear_value x1
  exact State.Sound.congr [.mem] h2 (Field.sub_of hm rfl) rfl rfl (Nat.le_refl _) rfl rfl rfl

theorem State.Sound.uncorrectables {part queue tag cause a a5} (h : State.Sound m o n a5) (hm : Field.sub [.dict,
    .tally, .queues, .bin, .log] m = true) :
    State.SoundP m o n (State.uncorrectables part queue tag cause a a5) := by
  induction a generalizing part queue tag cause a5
  · unfold State.uncorrectables
    exact State.SoundP.mk h
  · rename_i i0 i1 i2
    unfold State.uncorrectables
    split
    rename_i y1 y2 y3 y4
    have h1 : State.Sound m o n y3 := State.SoundP.of y4 (State.Sound.uncorrectable h (Field.sub_of hm rfl))
    exact State.SoundP.mk (State.SoundP.snd (i2 h1))

theorem State.Sound.report {s w a k3} (h : State.Sound m o n s) (hm : Field.sub [.dict, .tally, .queues, .mem, .bin,
    .log] m = true) :
    State.SoundP m o n (State.report s w a k3) := by
  unfold State.report
  extract_lets x1
  have h1 : State.Sound m o n x1 := State.Sound.correct h (Field.sub_of hm rfl)
  clear_value x1
  refine State.SoundP.ite ?_ ?_
  · split
    rename_i y1 y2 y3 y4
    have h2 : State.Sound m o n y3 := State.SoundP.of y4 (State.Sound.violate h1 (Field.sub_of hm rfl))
    exact State.SoundP.mk h2
  · refine State.SoundP.ite (State.SoundP.mk h1) ?_
    split
    rename_i y5 y6 y7 y8
    have h3 : State.Sound m o n y7 := State.SoundP.of y8 (State.Sound.uncorrectables h1 (Field.sub_of hm rfl))
    exact State.SoundP.mk h3

theorem State.Sound.reportIngest {s w a k3} (h : State.Sound m o n s) (hm : Field.sub [.dict, .tally, .queues, .mem,
    .bin, .log] m = true) :
    State.SoundP m o n (State.reportIngest s w a k3) := by
  unfold State.reportIngest
  extract_lets x1
  have h1 : State.Sound m o n x1 := State.Sound.correct h (Field.sub_of hm rfl)
  clear_value x1
  exact State.SoundP.ite (State.SoundP.mk (State.SoundP.snd (State.Sound.violate h1 (Field.sub_of hm rfl))))
      (State.SoundP.mk (State.SoundP.snd (State.Sound.uncorrectables h1 (Field.sub_of hm rfl))))

theorem State.Sound.countSlotBytes {s z2 k} (h : State.Sound m o n s) (hm : Field.sub [.dict, .ingest] m = true) :
    State.Sound m o n (State.countSlotBytes s z2 k) := by
  unfold State.countSlotBytes
  extract_lets x1 x2
  have h1 : State.Sound m o n x2 := State.Sound.setSlot h (Field.sub_of hm rfl)
  clear_value x2
  exact State.Sound.ite (State.Sound.bump (State.Sound.setSlot h1 (Field.sub_of hm rfl)) (Field.sub_of hm rfl)) h1

theorem State.Sound.ingestWrite {s k1 a bs} (h : State.Sound m o n s) (hm : Field.sub [.dict, .tally, .ingest,
    .queues, .mem, .bin, .log] m = true) :
    State.SoundP m o n (State.ingestWrite s k1 a bs) := by
  unfold State.ingestWrite
  refine State.SoundP.ite (State.SoundP.mk h) ?_
  extract_lets x1 x2
  have h1 : State.Sound m o n x1 := State.Sound.countSlotBytes h (Field.sub_of hm rfl)
  clear_value x1
  split
  rename_i y1 y2 y3 y4
  have h2 : State.Sound m o n y2 := State.SoundF.of y4 (State.Sound.store h1 (Field.sub_of hm rfl))
  exact State.Sound.reportIngest h2 (Field.sub_of hm rfl)

theorem State.Sound.ingestWrites {s k1 pieces} (h : State.Sound m o n s) (hm : Field.sub [.dict, .tally, .ingest,
    .queues, .mem, .bin, .log] m = true) :
    State.SoundP m o n (State.ingestWrites s k1 pieces) := by
  unfold State.ingestWrites
  refine State.SoundP.foldl (State.SoundP.mk h) (fun s1 x1 h1 => ?_)
  split
  rename_i y1 y2 y3 y4
  have h2 : State.Sound m o n y3 := State.SoundP.of y4 (State.Sound.ingestWrite (State.SoundP.snd h1) (Field.sub_of
      hm rfl))
  exact State.SoundP.mk h2

end Sys2Proof.Machine
end

