-- ==== Sys2Proof/Laws/KeepIngest.lean ====
section
/-! SUPPORT. Laws/KeepIngest: what shaping and ingest keep (`State.Sound`: the parts
touched, device time, the invariant). -/

namespace Sys2Proof.Machine

variable {m : List Field} {o : State} {n : Nat}

/-! ## Shaping -/

theorem State.Sound.writeShaped {s ctx g f} (h : State.Sound m o n s) (hm : Field.sub [.dict, .tally, .ingest,
    .queues, .mem, .bin, .log, .free] m = true) :
    State.Sound m o n (State.writeShaped s ctx g f) := by
  unfold State.writeShaped
  extract_lets x1
  split
  rename_i y1 y2 y3 y4
  have h1 : State.Sound m o n y3 := State.SoundP.of y4 (State.Sound.takeFree h (Field.sub_of hm rfl))
  split
  rename_i y5 y6 y7 y8
  have h2 : State.Sound m o n y7 := State.SoundP.of y8 (State.Sound.takeFreeBytes h1 (Field.sub_of hm rfl))
  extract_lets x2
  split
  rename_i y9 y10 y11 y12
  have h5 : State.Sound m o n y11 := by
    refine State.SoundP.of y12 ?_
    refine State.SoundP.ite (State.SoundP.mk h2) ?_
    refine State.SoundP.foldl (State.SoundP.mk h2) (fun s1 x3 h3 => ?_)
    split
    rename_i y13 y14 y15 y16
    have h4 : State.Sound m o n y15 := State.SoundP.of y16 (State.Sound.takeFreeBytes (State.SoundP.snd h3)
        (Field.sub_of hm rfl))
    exact State.SoundP.mk h4
  extract_lets x4
  split
  rename_i y17 y18 y19 y20
  have h6 : State.Sound m o n y19 := State.SoundP.of y20 (State.Sound.ingestWrites h5 (Field.sub_of hm rfl))
  extract_lets x5 x6
  split
  rename_i y21 y22 y23 y24
  have h7 : State.Sound m o n y23 := State.SoundP.of y24 (State.Sound.ingestWrites h6 (Field.sub_of hm rfl))
  extract_lets x7 x8
  have h8 : State.Sound m o n x8 := State.SoundP.snd (State.Sound.ingestWrite h7 (Field.sub_of hm rfl))
  clear_value x8
  exact State.Sound.ite (State.Sound.bump h8 (Field.sub_of hm rfl)) (State.Sound.ite h8 (State.Sound.bump h8
      (Field.sub_of hm rfl)))

theorem State.Sound.setCtx {s c f} (h : State.Sound m o n s) (hm : Field.sub [.ingest] m = true) :
    State.Sound m o n (State.setCtx s c f) := by
  unfold State.setCtx
  exact State.Sound.congr [.ingest] h (Field.sub_of hm rfl) rfl rfl (Nat.le_refl _) rfl rfl (by simp [State.shape])

theorem State.Sound.startShaping {s c buffer f torn} (h : State.Sound m o n s) (hm : Field.sub [.dict, .tally,
    .ingest, .queues, .mem, .bin, .log] m = true) :
    State.Sound m o n (State.startShaping s c buffer f torn) := by
  unfold State.startShaping
  extract_lets x1 x2 x3 x4 x5
  split
  rename_i y1 y2 y3 y4
  have h5 : State.Sound m o n y3 := by
    refine State.SoundP.of y4 ?_
    refine State.SoundP.ite (State.SoundP.mk h) ?_
    split
    rename_i y5 y6 y7 y8
    split
    rename_i y9 y10 y11 y12
    have h1 : State.Sound m o n y11 := State.SoundP.of y12 (State.Sound.reportIngest h (Field.sub_of hm rfl))
    extract_lets x6 x7 x8
    split
    rename_i y13 y14 y15 y16
    split
    rename_i y17 y18 y19 y20
    have h2 : State.Sound m o n y19 := State.SoundP.of y20 (State.SoundP.ite (State.SoundP.mk h1)
        (State.Sound.reportIngest h1 (Field.sub_of hm rfl)))
    split
    rename_i y21 y22 y23 y24
    split
    rename_i y25 y26 y27 y28
    have h3 : State.Sound m o n y27 := State.SoundP.of y28 (State.Sound.reportIngest h2 (Field.sub_of hm rfl))
    extract_lets x9 x10
    have h4 : State.Sound m o n x10 := State.Sound.bump h3 (Field.sub_of hm rfl)
    clear_value x10
    refine State.SoundP.ite (State.SoundP.mk h3) ?_
    split
    · rename_i y29 y30 y31 y32 y33
      exact State.SoundP.mk h4
    · rename_i y34 y35
      exact State.SoundP.mk h4
  extract_lets x11 x12
  have h6 : State.Sound m o n x12 := State.Sound.bumpBy h5 (Field.sub_of hm rfl)
  clear_value x12
  exact State.Sound.setCtx h6 (Field.sub_of hm rfl)

theorem State.Sound.servePool {s t} (h : State.Sound m o n s) (hm : Field.sub [.ingest] m = true) :
    State.Sound m o n (State.servePool s t) := by
  unfold State.servePool
  extract_lets x1 x2
  have h1 : State.Sound m o n x2 := State.Sound.congr [.ingest] h (Field.sub_of hm rfl) rfl rfl (Nat.le_refl _) rfl
      rfl rfl
  clear_value x2
  refine State.SoundP.snd ?_
  refine State.SoundP.foldl (State.SoundP.mk h1) (fun s1 x3 h2 => ?_)
  split
  rename_i y1 y2 y3 y4
  exact State.SoundP.mk (State.Sound.setCtx (State.SoundP.snd h2) (Field.sub_of hm rfl))

theorem State.Sound.shapeLine {s k1 i r t f} (h : State.Sound m o n s) (hm : Field.sub [.ingest] m = true) :
    State.Sound m o n (State.shapeLine s k1 i r t f) := by
  unfold State.shapeLine
  extract_lets x1
  have h1 : State.Sound m o n x1 := State.Sound.servePool h (Field.sub_of hm rfl)
  clear_value x1
  refine State.Sound.foldl h1 (fun s1 x2 h2 => ?_)
  extract_lets x3
  split
  · rename_i y1 y2
    exact h2
  · rename_i y3 y4 y5
    exact State.Sound.ite h2 (State.Sound.ite (State.Sound.setCtx h2 (Field.sub_of hm rfl)) (State.Sound.setCtx h2
        (Field.sub_of hm rfl)))

/-! ## Ingest -/

theorem State.Sound.setBuffer {s z2 i f} (h : State.Sound m o n s) (hm : Field.sub [.ingest] m = true) :
    State.Sound m o n (State.setBuffer s z2 i f) := by
  unfold State.setBuffer
  exact State.Sound.setSlot h (Field.sub_of hm rfl)

theorem State.Sound.accountDrop {s z2 cause f} (h : State.Sound m o n s) (hm : Field.sub [.dict, .tally, .ingest] m =
    true) :
    State.Sound m o n (State.accountDrop s z2 cause f) := by
  unfold State.accountDrop
  extract_lets x1 x2 x3 x4
  have h1 : State.Sound m o n x1 := State.Sound.bump h (Field.sub_of hm rfl)
  clear_value x1
  have h2 : State.Sound m o n x2 := State.Sound.bump h1 (Field.sub_of hm rfl)
  clear_value x2
  have h3 : State.Sound m o n x4 := State.Sound.congr [.tally] h2 (Field.sub_of hm rfl) rfl rfl (Nat.le_refl _) rfl
      rfl rfl
  clear_value x4
  exact State.Sound.setSlot h3 (Field.sub_of hm rfl)

theorem State.Sound.unshape {s z2 i} (h : State.Sound m o n s) (hm : Field.sub [.ingest] m = true) :
    State.Sound m o n (State.unshape s z2 i) := by
  unfold State.unshape
  extract_lets x1 x2
  exact State.Sound.congr [.ingest] h (Field.sub_of hm rfl) rfl rfl (Nat.le_refl _) rfl rfl (by simp +zetaDelta
      [State.shape])

theorem State.Sound.freeBuffer {s z2 i} (h : State.Sound m o n s) (hm : Field.sub [.ingest] m = true) :
    State.Sound m o n (State.freeBuffer s z2 i) := by
  unfold State.freeBuffer
  exact State.Sound.setBuffer (State.Sound.unshape h (Field.sub_of hm rfl)) (Field.sub_of hm rfl)

theorem State.Sound.dropFilling {s z2 cause} (h : State.Sound m o n s) (hm : Field.sub [.dict, .tally, .ingest] m =
    true) :
    State.Sound m o n (State.dropFilling s z2 cause) := by
  unfold State.dropFilling
  split
  · exact h
  · split
    · exact h
    · extract_lets x1
      have h1 : State.Sound m o n x1 := State.Sound.freeBuffer (State.Sound.accountDrop h (Field.sub_of hm rfl))
          (Field.sub_of hm rfl)
      clear_value x1
      exact State.Sound.setSlot h1 (Field.sub_of hm rfl)

theorem State.Sound.takeBuffer {s z2 fill} (h : State.Sound m o n s) (hm : Field.sub [.dict, .tally, .ingest] m =
    true) :
    State.SoundP m o n (State.takeBuffer s z2 fill) := by
  unfold State.takeBuffer
  extract_lets x1
  refine State.SoundP.ite (State.SoundP.mk h) ?_
  split
  · exact State.SoundP.mk h
  · refine State.SoundP.ite (State.SoundP.mk h) ?_
    split
    · exact State.SoundP.mk h
    · extract_lets x2
      exact State.SoundP.mk (State.Sound.freeBuffer (State.Sound.accountDrop h (Field.sub_of hm rfl))
          (Field.sub_of hm rfl))

theorem State.Sound.beginFrame {s k1 fill t torn} (h : State.Sound m o n s) (hm : Field.sub [.dict, .tally, .ingest,
    .queues, .mem, .bin, .log] m = true) :
    State.Sound m o n (State.beginFrame s k1 fill t torn) := by
  unfold State.beginFrame
  extract_lets x1 x2 x3 x4 x5 x6 x7
  split
  rename_i y1 y2 y3 y4 y5
  extract_lets x8 x9 x10
  split
  rename_i y6 y7 y8 y9 y10
  have h1 : State.Sound m o n y9 := State.SoundP.of y10 (State.Sound.takeBuffer h (Field.sub_of hm rfl))
  extract_lets x11 x12
  have h2 : State.Sound m o n x12 := State.Sound.setSlot h1 (Field.sub_of hm rfl)
  clear_value x12
  split
  · rename_i y11
    exact State.Sound.accountDrop h2 (Field.sub_of hm rfl)
  · rename_i y12 y13
    extract_lets x13
    have h3 : State.Sound m o n x13 := State.Sound.setBuffer h2 (Field.sub_of hm rfl)
    clear_value x13
    split
    · rename_i y14 y15 y16
      exact State.Sound.ite (State.Sound.startShaping h3 (Field.sub_of hm rfl)) h3
    · rename_i y17 y18
      exact h3

theorem State.Sound.deliver {s z2 i header} (h : State.Sound m o n s) (hm : Field.sub [.dict, .ingest] m = true) :
    State.Sound m o n (State.deliver s z2 i header) := by
  unfold State.deliver
  extract_lets x1
  have h1 : State.Sound m o n x1 := State.Sound.setBuffer h (Field.sub_of hm rfl)
  clear_value x1
  exact State.Sound.bump (State.Sound.setSlot h1 (Field.sub_of hm rfl)) (Field.sub_of hm rfl)

theorem State.Sound.shapeEnded {s z2 i f rows} (h : State.Sound m o n s) (hm : Field.sub [.ingest] m = true) :
    State.SoundO m o n (State.shapeEnded s z2 i f rows) := by
  unfold State.shapeEnded
  split
  · exact State.SoundO.none
  · split
    · exact State.SoundO.none
    · exact State.SoundO.some (State.Sound.setBuffer (State.Sound.setCtx h (Field.sub_of hm rfl)) (Field.sub_of hm
          rfl))

theorem State.Sound.completeFrame {s k1 i fl} (h : State.Sound m o n s) (hm : Field.sub [.dict, .tally, .ingest,
    .queues, .mem, .bin, .log] m = true) :
    State.Sound m o n (State.completeFrame s k1 i fl) := by
  unfold State.completeFrame
  extract_lets x1 x2 x3
  split
  rename_i y1 y2 y3 y4
  have h1 : State.Sound m o n y3 := State.SoundP.of y4 (State.Sound.ingestWrites h (Field.sub_of hm rfl))
  extract_lets x4 x5 x6
  split
  rename_i y5 y6 y7 y8
  have h2 : State.Sound m o n y7 := State.SoundP.of y8 (State.Sound.ingestWrite h1 (Field.sub_of hm rfl))
  extract_lets x7 x8 x9
  have h3 : State.Sound m o n x7 := State.Sound.setSlot h2 (Field.sub_of hm rfl)
  clear_value x7
  have h4 : State.Sound m o n x8 := State.Sound.setSlot h3 (Field.sub_of hm rfl)
  clear_value x8
  have h5 : State.Sound m o n x9 := State.Sound.setBuffer h4 (Field.sub_of hm rfl)
  clear_value x9
  refine State.Sound.ite (State.Sound.freeBuffer (State.Sound.accountDrop h3 (Field.sub_of hm rfl)) (Field.sub_of hm
      rfl)) ?_
  split
  · rename_i y9 y10 y11
    have h6 : State.Sound m o n y10 := State.SoundO.of y11 (State.Sound.shapeEnded h5 (Field.sub_of hm rfl))
    exact h6
  · rename_i y12 y13
    exact State.Sound.deliver h5 (Field.sub_of hm rfl)

theorem State.Sound.endFrame {s k1 t truncated} (h : State.Sound m o n s) (hm : Field.sub [.dict, .tally, .ingest,
    .queues, .mem, .bin, .log] m = true) :
    State.Sound m o n (State.endFrame s k1 t truncated) := by
  unfold State.endFrame
  split
  · rename_i y1 y2
    exact h
  · rename_i y3 y4 y5
    extract_lets x1 x2 x3 x4 x5 x6 x7 x8
    have h1 : State.Sound m o n x5 := State.Sound.ite (State.Sound.bump h (Field.sub_of hm rfl)) h
    clear_value x5
    have h2 : State.Sound m o n x6 := State.Sound.ite (State.Sound.bump h1 (Field.sub_of hm rfl)) h1
    clear_value x6
    have h3 : State.Sound m o n x7 := by
      unfold x7
      split
      · rename_i y6 y7 y8
        exact State.Sound.completeFrame h2 (Field.sub_of hm rfl)
      · rename_i y9 y10
        exact State.Sound.setSlot h2 (Field.sub_of hm rfl)
    clear_value x7
    exact State.Sound.ite (State.Sound.setSlot h3 (Field.sub_of hm rfl)) h3

theorem State.Sound.startSlot {s z2} (h : State.Sound m o n s) (hm : Field.sub [.ingest] m = true) :
    State.Sound m o n (State.startSlot s z2) := by
  unfold State.startSlot
  exact State.Sound.setSlot h (Field.sub_of hm rfl)

theorem State.Sound.stopSlot {s k1 t} (h : State.Sound m o n s) (hm : Field.sub [.dict, .tally, .ingest, .queues,
    .mem, .bin, .log] m = true) :
    State.Sound m o n (State.stopSlot s k1 t) := by
  unfold State.stopSlot
  exact State.Sound.setSlot (State.Sound.endFrame h (Field.sub_of hm rfl)) (Field.sub_of hm rfl)

theorem State.Sound.endTickFrames {s t} (h : State.Sound m o n s) (hm : Field.sub [.dict, .tally, .ingest, .queues,
    .mem, .bin, .log] m = true) :
    State.Sound m o n (State.endTickFrames s t) := by
  unfold State.endTickFrames
  refine State.Sound.foldl h (fun s1 x1 h1 => ?_)
  split
  · rename_i y1 y2
    exact h1
  · rename_i y3 y4 y5
    exact State.Sound.ite h1 (State.Sound.endFrame h1 (Field.sub_of hm rfl))

theorem State.Sound.notePacket {s r ecc crcOk} (h : State.Sound m o n s) (hm : Field.sub [.dict] m = true) :
    State.Sound m o n (State.notePacket s r ecc crcOk) := by
  unfold State.notePacket
  extract_lets x1
  have h1 : State.Sound m o n x1 := State.Sound.ite (State.Sound.bump h (Field.sub_of hm rfl)) h
  clear_value x1
  exact State.Sound.ite (State.Sound.bump h1 (Field.sub_of hm rfl)) h1

theorem State.Sound.linkError {s k1 bad} (h : State.Sound m o n s) (hm : Field.sub [.ingest] m = true) :
    State.Sound m o n (State.linkError s k1 bad) := by
  unfold State.linkError
  exact State.Sound.ite (State.Sound.setSlot h (Field.sub_of hm rfl)) h

theorem State.Sound.startCamera {s k1 fill t torn bad} (h : State.Sound m o n s) (hm : Field.sub [.dict, .tally,
    .ingest, .queues, .mem, .bin, .log] m = true) :
    State.Sound m o n (State.startCamera s k1 fill t torn bad) := by
  unfold State.startCamera
  extract_lets x1
  have h1 : State.Sound m o n x1 := State.Sound.endFrame h (Field.sub_of hm rfl)
  clear_value x1
  exact State.Sound.linkError (State.Sound.beginFrame h1 (Field.sub_of hm rfl)) (Field.sub_of hm rfl)

theorem State.Sound.frameStartPacket {s r vc ecc fill t torn} (h : State.Sound m o n s) (hm : Field.sub [.dict,
    .tally, .ingest, .queues, .mem, .bin, .log] m = true) :
    State.Sound m o n (State.frameStartPacket s r vc ecc fill t torn) := by
  unfold State.frameStartPacket
  extract_lets x1
  have h1 : State.Sound m o n x1 := State.Sound.notePacket h (Field.sub_of hm rfl)
  clear_value x1
  split
  · rename_i y1 y2
    exact State.Sound.bump h1 (Field.sub_of hm rfl)
  · rename_i y3 y4
    exact State.Sound.foldl h1 (fun s1 x2 h2 => (State.Sound.startCamera h2 (Field.sub_of hm rfl)))

theorem State.Sound.of_doFrameStart {t src fill torn s} (h : State.Sound m o n s) (hm : Field.sub [.dict, .clock,
    .tally, .ingest, .queues, .mem, .bin, .log] m = true) :
    State.Sound m o n (doFrameStart t src fill torn s) := by
  unfold doFrameStart
  extract_lets x1
  have h1 : State.Sound m o n x1 := State.Sound.advance h (Field.sub_of hm rfl)
  clear_value x1
  split
  · rename_i y1 y2 y3 y4
    exact State.Sound.ite (State.Sound.frameStartPacket h1 (Field.sub_of hm rfl)) h1
  · rename_i y5 y6
    exact State.Sound.ite h1 (State.Sound.beginFrame h1 (Field.sub_of hm rfl))

theorem State.Sound.of_execFrameStart {t src fill torn s} (h : State.Sound m o n s) (hm : Field.sub [.dict, .clock,
    .tally, .ingest, .queues, .mem, .bin, .log] m = true) :
    State.SoundX m o n (execFrameStart t src fill torn s) := by
  unfold execFrameStart
  exact State.SoundX.next (State.Sound.of_doFrameStart h (Field.sub_of hm rfl))

theorem State.Sound.endCamera {s k1 t bad} (h : State.Sound m o n s) (hm : Field.sub [.dict, .tally, .ingest,
    .queues, .mem, .bin, .log] m = true) :
    State.Sound m o n (State.endCamera s k1 t bad) := by
  unfold State.endCamera
  exact State.Sound.endFrame (State.Sound.linkError h (Field.sub_of hm rfl)) (Field.sub_of hm rfl)

theorem State.Sound.frameEndPacket {s r vc ecc t} (h : State.Sound m o n s) (hm : Field.sub [.dict, .tally, .ingest,
    .queues, .mem, .bin, .log] m = true) :
    State.Sound m o n (State.frameEndPacket s r vc ecc t) := by
  unfold State.frameEndPacket
  extract_lets x1
  have h1 : State.Sound m o n x1 := State.Sound.notePacket h (Field.sub_of hm rfl)
  clear_value x1
  split
  · rename_i y1 y2
    exact State.Sound.bump h1 (Field.sub_of hm rfl)
  · rename_i y3 y4
    exact State.Sound.foldl h1 (fun s1 x2 h2 => (State.Sound.endCamera h2 (Field.sub_of hm rfl)))

theorem State.Sound.of_doFrameEnd {t recv vc ecc s} (h : State.Sound m o n s) (hm : Field.sub [.dict, .clock,
    .tally, .ingest, .queues, .mem, .bin, .log] m = true) :
    State.Sound m o n (doFrameEnd t recv vc ecc s) := by
  unfold doFrameEnd
  extract_lets x1
  have h1 : State.Sound m o n x1 := State.Sound.advance h (Field.sub_of hm rfl)
  clear_value x1
  exact State.Sound.ite (State.Sound.frameEndPacket h1 (Field.sub_of hm rfl)) h1

theorem State.Sound.of_execFrameEnd {t packet s} (h : State.Sound m o n s) (hm : Field.sub [.dict, .clock,
    .tally, .ingest, .queues, .mem, .bin, .log] m = true) :
    State.SoundX m o n (execFrameEnd t packet s) := by
  unfold execFrameEnd
  exact State.SoundX.next (State.Sound.of_doFrameEnd h (Field.sub_of hm rfl))

theorem State.Sound.of_doFrameTimeout {slot s} (h : State.Sound m o n s) (hm : Field.sub [.dict, .clock, .tally,
    .ingest, .queues, .mem, .bin, .log] m = true) :
    State.Sound m o n (doFrameTimeout slot s) := by
  unfold doFrameTimeout
  extract_lets x1 x2
  split
  · rename_i y1 y2
    exact h
  · rename_i y3 y4 y5
    exact State.Sound.ite h (State.Sound.ite (State.Sound.endFrame (State.Sound.advance h (Field.sub_of hm rfl))
        (Field.sub_of hm rfl)) (State.Sound.ite (State.Sound.endFrame (State.Sound.advance h (Field.sub_of hm rfl))
        (Field.sub_of hm rfl)) h))

theorem State.Sound.of_execFrameTimeout {slot s} (h : State.Sound m o n s) (hm : Field.sub [.dict, .clock, .tally,
    .ingest, .queues, .mem, .bin, .log] m = true) :
    State.SoundX m o n (execFrameTimeout slot s) := by
  unfold execFrameTimeout
  exact State.SoundX.next (State.Sound.of_doFrameTimeout h (Field.sub_of hm rfl))

theorem State.Sound.addLine {s k1 fl samples bad t} (h : State.Sound m o n s) (hm : Field.sub [.dict, .tally,
    .ingest, .queues, .mem, .bin, .log] m = true) :
    State.Sound m o n (State.addLine s k1 fl samples bad t) := by
  unfold State.addLine
  extract_lets x1 x2 x3 x4 x5 x6 x7 x8 x9
  have h1 : State.Sound m o n x9 := State.Sound.setSlot h (Field.sub_of hm rfl)
  clear_value x9
  refine State.Sound.ite (State.Sound.setSlot h (Field.sub_of hm rfl)) ?_
  split
  · rename_i y1 y2
    exact h1
  · rename_i y3 y4 y5
    split
    rename_i y6 y7 y8 y9
    have h2 : State.Sound m o n y8 := State.SoundP.of y9 (State.Sound.ingestWrite h1 (Field.sub_of hm rfl))
    exact State.Sound.ite (State.Sound.dropFilling h2 (Field.sub_of hm rfl)) (State.Sound.shapeLine h2 (Field.sub_of
        hm rfl))

theorem State.Sound.of_doCsiPacket {p s} (h : State.Sound m o n s) (hm : Field.sub [.dict, .clock, .tally, .ingest,
    .queues, .mem, .bin, .log] m = true) :
    State.Sound m o n (doCsiPacket p s) := by
  unfold doCsiPacket
  extract_lets x1 x2 x3
  have h1 : State.Sound m o n x1 := State.Sound.advance h (Field.sub_of hm rfl)
  clear_value x1
  have h2 : State.Sound m o n x3 := State.Sound.notePacket h1 (Field.sub_of hm rfl)
  clear_value x3
  refine State.Sound.ite h1 ?_
  refine State.Sound.ite h2 ?_
  split
  · rename_i y1 y2
    exact State.Sound.bump h2 (Field.sub_of hm rfl)
  · rename_i y3 y4 y5
    split
    · rename_i y6 y7
      exact h2
    · rename_i y8 y9 y10
      exact State.Sound.addLine h2 (Field.sub_of hm rfl)

theorem State.Sound.of_execCsiPacket {p s} (h : State.Sound m o n s) (hm : Field.sub [.dict, .clock, .tally,
    .ingest, .queues, .mem, .bin, .log] m = true) :
    State.SoundX m o n (execCsiPacket p s) := by
  unfold execCsiPacket
  exact State.SoundX.next (State.Sound.of_doCsiPacket h (Field.sub_of hm rfl))

theorem State.Sound.addBytes {s k1 bs t} (h : State.Sound m o n s) (hm : Field.sub [.dict, .tally, .ingest, .queues,
    .mem, .bin, .log] m = true) :
    State.Sound m o n (State.addBytes s k1 bs t) := by
  unfold State.addBytes
  split
  · rename_i y1 y2
    exact h
  · rename_i y3 y4 y5
    extract_lets x1 x2 x3 x4 x5 x6
    have h1 : State.Sound m o n x6 := State.Sound.setSlot h (Field.sub_of hm rfl)
    clear_value x6
    split
    · rename_i y6 y7
      exact h1
    · rename_i y8 y9 y10
      split
      rename_i y11 y12 y13 y14
      have h2 : State.Sound m o n y13 := State.SoundP.of y14 (State.Sound.ingestWrite h1 (Field.sub_of hm rfl))
      exact State.Sound.ite (State.Sound.dropFilling h2 (Field.sub_of hm rfl)) h2

theorem State.Sound.openCloud {s k1 fill t stored} (h : State.Sound m o n s) (hm : Field.sub [.dict, .tally,
    .ingest, .queues, .mem, .bin, .log] m = true) :
    State.Sound m o n (State.openCloud s k1 fill t stored) := by
  unfold State.openCloud
  extract_lets x1 x2 x3 x4 x5
  have h1 : State.Sound m o n x5 := State.Sound.ite h (State.Sound.beginFrame (State.Sound.endFrame h (Field.sub_of
      hm rfl)) (Field.sub_of hm rfl))
  clear_value x5
  exact State.Sound.ite (State.Sound.ite h (State.Sound.beginFrame h (Field.sub_of hm rfl))) (State.Sound.ite h
      (State.Sound.setSlot h1 (Field.sub_of hm rfl)))

theorem State.Sound.of_doEthernetFrame {f s} (h : State.Sound m o n s) (hm : Field.sub [.dict, .clock, .tally,
    .ingest, .queues, .mem, .bin, .log] m = true) :
    State.Sound m o n (doEthernetFrame f s) := by
  unfold doEthernetFrame
  extract_lets x1 x2
  have h1 : State.Sound m o n x1 := State.Sound.advance h (Field.sub_of hm rfl)
  clear_value x1
  refine State.Sound.ite h1 ?_
  refine State.Sound.ite (State.Sound.bump h1 (Field.sub_of hm rfl)) ?_
  refine State.Sound.ite h1 ?_
  split
  · rename_i y1 y2
    exact State.Sound.bump h1 (Field.sub_of hm rfl)
  · rename_i y3 y4 y5
    extract_lets x3
    exact State.Sound.addBytes (State.Sound.openCloud h1 (Field.sub_of hm rfl)) (Field.sub_of hm rfl)

theorem State.Sound.of_execEthernetFrame {f s} (h : State.Sound m o n s) (hm : Field.sub [.dict, .clock, .tally,
    .ingest, .queues, .mem, .bin, .log] m = true) :
    State.SoundX m o n (execEthernetFrame f s) := by
  unfold execEthernetFrame
  exact State.SoundX.next (State.Sound.of_doEthernetFrame h (Field.sub_of hm rfl))

theorem State.Sound.of_doAudioWordClockEdge {t tdm unit samples fill s} (h : State.Sound m o n s) (hm : Field.sub
    [.dict, .clock, .tally, .ingest, .queues, .mem, .bin, .log] m = true) :
    State.Sound m o n (doAudioWordClockEdge t tdm unit samples fill s) := by
  unfold doAudioWordClockEdge
  extract_lets x1
  have h1 : State.Sound m o n x1 := State.Sound.advance h (Field.sub_of hm rfl)
  clear_value x1
  refine State.Sound.ite h1 ?_
  refine State.Sound.foldl h1 (fun s1 x2 h2 => ?_)
  extract_lets x3 x4
  have h3 : State.Sound m o n x4 := State.Sound.ite h2 (State.Sound.beginFrame h2 (Field.sub_of hm rfl))
  clear_value x4
  exact State.Sound.ite h2 (State.Sound.addBytes h3 (Field.sub_of hm rfl))

theorem State.Sound.of_execAudioWordClockEdge {t tdm unit samples fill s} (h : State.Sound m o n s) (hm : Field.sub
    [.dict, .clock, .tally, .ingest, .queues, .mem, .bin, .log] m = true) :
    State.SoundX m o n (execAudioWordClockEdge t tdm unit samples fill s) := by
  unfold execAudioWordClockEdge
  exact State.SoundX.next (State.Sound.of_doAudioWordClockEdge h (Field.sub_of hm rfl))

theorem State.Sound.of_doBandwidthAbort {t fill s} (h : State.Sound m o n s) (hm : Field.sub [.dict, .clock, .tally,
    .ingest] m = true) :
    State.Sound m o n (doBandwidthAbort t fill s) := by
  unfold doBandwidthAbort
  extract_lets x1
  have h1 : State.Sound m o n x1 := State.Sound.advance h (Field.sub_of hm rfl)
  clear_value x1
  refine State.Sound.ite h1 ?_
  split
  · exact h1
  · exact State.Sound.dropFilling h1 (Field.sub_of hm rfl)

theorem State.Sound.of_execBandwidthAbort {t fill s} (h : State.Sound m o n s) (hm : Field.sub [.dict, .clock,
    .tally, .ingest] m = true) :
    State.SoundX m o n (execBandwidthAbort t fill s) := by
  unfold execBandwidthAbort
  exact State.SoundX.next (State.Sound.of_doBandwidthAbort h (Field.sub_of hm rfl))

theorem State.Sound.writeStats {s k1} (h : State.Sound m o n s) (hm : Field.sub [.dict, .tally, .ingest, .queues,
    .mem, .bin, .log, .free] m = true) :
    State.Sound m o n (State.writeStats s k1) := by
  unfold State.writeStats
  split
  · rename_i y1 y2
    exact h
  · rename_i y3 y4 y5 y6
    extract_lets x1 x2 x3 x4 x5
    have h1 : State.Sound m o n x1 := State.Sound.setSlot h (Field.sub_of hm rfl)
    clear_value x1
    split
    rename_i y7 y8 y9 y10
    have h3 : State.Sound m o n y9 := by
      refine State.SoundP.of y10 ?_
      refine State.SoundP.ite ?_ (State.Sound.takeFreeBytes h1 (Field.sub_of hm rfl))
      split
      rename_i y11 y12 y13 y14
      split
      rename_i y15 y16 y17 y18
      have h2 : State.Sound m o n y17 := State.SoundP.of y18 (State.Sound.takeFree h1 (Field.sub_of hm rfl))
      exact State.SoundP.mk h2
    extract_lets x6 x7
    exact State.SoundP.snd (State.Sound.ingestWrite h3 (Field.sub_of hm rfl))

theorem State.Sound.of_doStatisticsRecord {t slot s} (h : State.Sound m o n s) (hm : Field.sub [.dict, .clock,
    .tally, .ingest, .queues, .mem, .bin, .log, .free] m = true) :
    State.Sound m o n (doStatisticsRecord t slot s) := by
  unfold doStatisticsRecord
  extract_lets x1
  have h1 : State.Sound m o n x1 := State.Sound.advance h (Field.sub_of hm rfl)
  clear_value x1
  exact State.Sound.ite (State.Sound.writeStats h1 (Field.sub_of hm rfl)) h1

theorem State.Sound.of_execStatisticsRecord {t slot s} (h : State.Sound m o n s) (hm : Field.sub [.dict, .clock,
    .tally, .ingest, .queues, .mem, .bin, .log, .free] m = true) :
    State.SoundX m o n (execStatisticsRecord t slot s) := by
  unfold execStatisticsRecord
  exact State.SoundX.next (State.Sound.of_doStatisticsRecord h (Field.sub_of hm rfl))

theorem State.Sound.finishShaping {s c} (h : State.Sound m o n s) (hm : Field.sub [.dict, .tally, .ingest, .queues,
    .mem, .bin, .log, .free] m = true) :
    State.Sound m o n (State.finishShaping s c) := by
  unfold State.finishShaping
  split
  · rename_i y1 y2
    exact h
  · rename_i y3 y4 y5 y6
    extract_lets x1 x2
    have h1 : State.Sound m o n x1 := State.Sound.setCtx h (Field.sub_of hm rfl)
    clear_value x1
    split
    · rename_i y7 y8
      exact h1
    · rename_i y9 y10 y11
      exact State.Sound.ite h1 (State.Sound.deliver (State.Sound.writeShaped h1 (Field.sub_of hm rfl)) (Field.sub_of
          hm rfl))

theorem State.Sound.of_doShapedHeader {t ctx s} (h : State.Sound m o n s) (hm : Field.sub [.dict, .clock, .tally,
    .ingest, .queues, .mem, .bin, .log, .free] m = true) :
    State.Sound m o n (doShapedHeader t ctx s) := by
  unfold doShapedHeader
  extract_lets x1
  have h1 : State.Sound m o n x1 := State.Sound.advance h (Field.sub_of hm rfl)
  clear_value x1
  exact State.Sound.ite (State.Sound.finishShaping h1 (Field.sub_of hm rfl)) h1

theorem State.Sound.of_execShapedHeader {t ctx s} (h : State.Sound m o n s) (hm : Field.sub [.dict, .clock, .tally,
    .ingest, .queues, .mem, .bin, .log, .free] m = true) :
    State.SoundX m o n (execShapedHeader t ctx s) := by
  unfold execShapedHeader
  exact State.SoundX.next (State.Sound.of_doShapedHeader h (Field.sub_of hm rfl))

theorem State.Sound.sendSetting {s ctrl e} (h : State.Sound m o n s) (hm : Field.sub [.sent] m = true) :
    State.Sound m o n (State.sendSetting s ctrl e) := by
  unfold State.sendSetting
  exact State.Sound.emit h (Field.sub_of hm rfl)

theorem State.Sound.nextSetting {s ctrl} (h : State.Sound m o n s) (hm : Field.sub [.sent] m = true) :
    State.Sound m o n (State.nextSetting s ctrl) := by
  unfold State.nextSetting
  split
  · exact h
  · split
    · exact h
    · exact State.Sound.sendSetting h (Field.sub_of hm rfl)

theorem State.Sound.setCommits {s ctrl cs} (h : State.Sound m o n s) (hm : Field.sub [.ingest] m = true) :
    State.Sound m o n (State.setCommits s ctrl cs) := by
  unfold State.setCommits
  exact State.Sound.congr [.ingest] h (Field.sub_of hm rfl) rfl rfl (Nat.le_refl _) rfl rfl rfl

theorem State.Sound.newSettings {s k1 torn} (h : State.Sound m o n s) (hm : Field.sub [.dict, .tally, .ingest,
    .queues, .mem, .bin, .log] m = true) :
    State.SoundP m o n (State.newSettings s k1 torn) := by
  unfold State.newSettings
  extract_lets x1 x2 x3 x4
  refine State.SoundP.ite (State.SoundP.ite (State.SoundP.mk (State.Sound.setSlot h (Field.sub_of hm rfl)))
      (State.SoundP.mk h)) ?_
  split
  rename_i y1 y2 y3 y4
  split
  rename_i y5 y6 y7 y8
  have h1 : State.Sound m o n y7 := State.SoundP.of y8 (State.Sound.reportIngest h (Field.sub_of hm rfl))
  extract_lets x5
  refine State.SoundP.ite (State.SoundP.mk h1) ?_
  split
  rename_i y9 y10 y11 y12
  split
  rename_i y13 y14 y15 y16
  have h2 : State.Sound m o n y15 := State.SoundP.of y16 (State.Sound.reportIngest h1 (Field.sub_of hm rfl))
  exact State.SoundP.ite (State.SoundP.mk h2) (State.SoundP.mk h2)

theorem State.Sound.queueCommit {s k1 windowEnd torn} (h : State.Sound m o n s) (hm : Field.sub [.dict, .tally,
    .ingest, .queues, .mem, .bin, .log, .sent] m = true) :
    State.Sound m o n (State.queueCommit s k1 windowEnd torn) := by
  unfold State.queueCommit
  split
  · rename_i y1 y2 y3
    have h1 : State.Sound m o n y2 := State.SoundP.of y3 (State.Sound.newSettings h (Field.sub_of hm rfl))
    exact h1
  · rename_i y4 y5 y6 y7 y8
    have h2 : State.Sound m o n y7 := State.SoundP.of y8 (State.Sound.newSettings h (Field.sub_of hm rfl))
    extract_lets x1 x2 x3 x4
    have h3 : State.Sound m o n x4 := State.Sound.setCommits h2 (Field.sub_of hm rfl)
    clear_value x4
    exact State.Sound.ite (State.Sound.nextSetting h3 (Field.sub_of hm rfl)) h3

theorem State.Sound.of_doCommitWindowOpen {torn s} (h : State.Sound m o n s) (hm : Field.sub [.dict, .clock, .tally,
    .ingest, .queues, .mem, .bin, .log, .sent] m = true) :
    State.Sound m o n (doCommitWindowOpen torn s) := by
  unfold doCommitWindowOpen
  extract_lets x1 x2 x3 x4 x5
  have h1 : State.Sound m o n x2 := State.Sound.advance h (Field.sub_of hm rfl)
  clear_value x2
  have h2 : State.Sound m o n x4 := State.Sound.congr [.ingest] h1 (Field.sub_of hm rfl) rfl rfl (Nat.le_refl _) rfl
      rfl rfl
  clear_value x4
  exact State.Sound.ite h (State.Sound.foldl h2 (fun s1 x6 h3 => (State.Sound.ite (State.Sound.queueCommit h3
      (Field.sub_of hm rfl)) h3)))

theorem State.Sound.of_execCommitWindowOpen {torn s} (h : State.Sound m o n s) (hm : Field.sub [.dict, .clock,
    .tally, .ingest, .queues, .mem, .bin, .log, .sent] m = true) :
    State.SoundX m o n (execCommitWindowOpen torn s) := by
  unfold execCommitWindowOpen
  exact State.SoundX.next (State.Sound.of_doCommitWindowOpen h (Field.sub_of hm rfl))

theorem State.Sound.commitDone {s c t} (h : State.Sound m o n s) (hm : Field.sub [.dict, .ingest, .free] m = true) :
    State.Sound m o n (State.commitDone s c t) := by
  unfold State.commitDone
  extract_lets x1 x2 x3 x4
  split
  · rename_i y1 y2 y3 y4
    have h1 : State.Sound m o n y3 := State.SoundP.of y4 (State.SoundP.ite (State.Sound.takeFree h (Field.sub_of hm
        rfl)) (State.SoundP.mk h))
    extract_lets x5 x6 x7
    have h2 : State.Sound m o n x6 := State.Sound.setNum (State.Sound.setNum h1 (Field.sub_of hm rfl))
        (Field.sub_of hm rfl)
    clear_value x6
    have h3 : State.Sound m o n x7 := State.Sound.ite (State.Sound.bump h2 (Field.sub_of hm rfl)) h2
    clear_value x7
    exact State.Sound.setSlot h3 (Field.sub_of hm rfl)

theorem State.Sound.of_doI2cTransactionDone {t ctrl acked s} (h : State.Sound m o n s) (hm : Field.sub [.dict,
    .clock, .ingest, .sent, .free] m = true) :
    State.Sound m o n (doI2cTransactionDone t ctrl acked s) := by
  unfold doI2cTransactionDone
  extract_lets x1 x2
  have h1 : State.Sound m o n x1 := State.Sound.advance h (Field.sub_of hm rfl)
  clear_value x1
  have h2 : State.Sound m o n x2 := State.Sound.bump h1 (Field.sub_of hm rfl)
  clear_value x2
  split
  · exact h1
  · refine State.Sound.ite ?_ ?_
    · split
      · exact State.Sound.nextSetting (State.Sound.setCommits (State.Sound.commitDone h1 (Field.sub_of hm rfl))
            (Field.sub_of hm rfl)) (Field.sub_of hm rfl)
      · exact State.Sound.nextSetting (State.Sound.setCommits h1 (Field.sub_of hm rfl)) (Field.sub_of hm rfl)
    · refine State.Sound.ite ?_ (State.Sound.nextSetting (State.Sound.setCommits h2 (Field.sub_of hm rfl))
          (Field.sub_of hm rfl))
      extract_lets x3 x4
      have h3 : State.Sound m o n x3 := State.Sound.bump h2 (Field.sub_of hm rfl)
      clear_value x3
      have h4 : State.Sound m o n x4 := State.Sound.setSlot h3 (Field.sub_of hm rfl)
      clear_value x4
      exact State.Sound.nextSetting (State.Sound.setCommits h4 (Field.sub_of hm rfl)) (Field.sub_of hm rfl)

theorem State.Sound.of_execI2cTransactionDone {t ctrl acked s} (h : State.Sound m o n s) (hm : Field.sub [.dict,
    .clock, .ingest, .sent, .free] m = true) :
    State.SoundX m o n (execI2cTransactionDone t ctrl acked s) := by
  unfold execI2cTransactionDone
  exact State.SoundX.next (State.Sound.of_doI2cTransactionDone h (Field.sub_of hm rfl))

theorem State.Sound.setFusion {s f g} (h : State.Sound m o n s) (hm : Field.sub [.ingest] m = true) :
    State.Sound m o n (State.setFusion s f g) := by
  unfold State.setFusion
  exact State.Sound.congr [.ingest] h (Field.sub_of hm rfl) rfl rfl (Nat.le_refl _) rfl rfl (by simp [State.shape])

theorem State.Sound.closeFusion {s f z3 m0 m1} (h : State.Sound m o n s) (hm : Field.sub [.dict, .ingest] m = true) :
    State.Sound m o n (State.closeFusion s f z3 m0 m1) := by
  unfold State.closeFusion
  extract_lets x1 x2 x3 x4 x5 x6 x7 x8 x9
  have h1 : State.Sound m o n x7 := State.Sound.foldl h (fun s1 x10 h1 => State.Sound.ite (State.Sound.setBuffer h1
      (Field.sub_of hm rfl)) h1)
  clear_value x7
  have h2 : State.Sound m o n x9 := State.Sound.setFusion h1 (Field.sub_of hm rfl)
  clear_value x9
  exact State.Sound.bump h2 (Field.sub_of hm rfl)

theorem State.Sound.closeSets {s z2 m0 m1} (h : State.Sound m o n s) (hm : Field.sub [.dict, .ingest] m = true) :
    State.Sound m o n (State.closeSets s z2 m0 m1) := by
  unfold State.closeSets
  exact State.Sound.foldl h (fun s1 x1 h1 => State.Sound.ite (State.Sound.closeFusion h1 (Field.sub_of hm rfl)) h1)

theorem State.Sound.forgetDrops {s t} (h : State.Sound m o n s) (hm : Field.sub [.ingest] m = true) :
    State.Sound m o n (State.forgetDrops s t) := by
  unfold State.forgetDrops
  exact State.Sound.congr [.ingest] h (Field.sub_of hm rfl) rfl rfl (Nat.le_refl _) rfl rfl (by simp [State.shape])

theorem State.Sound.writeFusion {s f} (h : State.Sound m o n s) (hm : Field.sub [.dict, .tally, .ingest, .queues,
    .mem, .bin, .log, .free] m = true) :
    State.Sound m o n (State.writeFusion s f) := by
  unfold State.writeFusion
  split
  · rename_i y1 y2
    exact h
  · rename_i y3 y4 y5 y6
    refine State.Sound.ite h ?_
    split
    rename_i y7 y8 y9 y10
    have h1 : State.Sound m o n y9 := State.SoundP.of y10 (State.Sound.takeFreeBytes h (Field.sub_of hm rfl))
    extract_lets x1 x2 x3
    have h3 : State.Sound m o n x3 := by
      unfold x3
      split
      · rename_i y11 y12
        refine State.Sound.ite ?_ h1
        split
        rename_i y13 y14 y15 y16
        have h2 : State.Sound m o n y14 := State.SoundF.of y16 (State.Sound.rawStore h1 (Field.sub_of hm rfl))
        exact State.SoundP.snd (State.Sound.reportIngest h2 (Field.sub_of hm rfl))
      · rename_i y17 y18 y19 y20
        exact State.SoundP.snd (State.Sound.ingestWrite h1 (Field.sub_of hm rfl))
    clear_value x3
    exact State.Sound.setFusion h3 (Field.sub_of hm rfl)

theorem State.Sound.releaseBuffer {s z2 i} (h : State.Sound m o n s) (hm : Field.sub [.ingest] m = true) :
    State.SoundP m o n (State.releaseBuffer s z2 i) := by
  unfold State.releaseBuffer
  split
  · exact State.SoundP.mk h
  · refine State.SoundP.ite (State.SoundP.mk h) ?_
    split
    · exact State.SoundP.mk h
    · exact State.SoundP.mk h
    · exact State.SoundP.mk (State.Sound.freeBuffer h (Field.sub_of hm rfl))
    · exact State.SoundP.mk (State.Sound.freeBuffer h (Field.sub_of hm rfl))

theorem State.Sound.acquireBuffer {s z2 i} (h : State.Sound m o n s) (hm : Field.sub [.ingest] m = true) :
    State.SoundP m o n (State.acquireBuffer s z2 i) := by
  unfold State.acquireBuffer
  split
  · exact State.SoundP.mk h
  · exact State.SoundP.ite (State.SoundP.mk h) (State.SoundP.ite (State.SoundP.mk (State.Sound.setBuffer h
        (Field.sub_of hm rfl))) (State.SoundP.mk h))

end Sys2Proof.Machine
end

