-- ==== Sys2Proof/Laws/KeepJobs.lean ====
section
/-! SUPPORT. Laws/KeepJobs: what jobs, the dispatcher and the steps of a job keep (`State.Sound`: the parts
touched, device time, the invariant). -/

namespace Sys2Proof.Machine

variable {m : List Field} {o : State} {n : Nat}

/-! ## Mesh -/

theorem State.Sound.sweep {s src} (h : State.Sound m o n s) (hm : Field.sub [.dict] m = true) :
    State.Sound m o n (State.sweep s src) := by
  unfold State.sweep
  exact State.Sound.bump h (Field.sub_of hm rfl)

/-! ## Jobs -/

theorem State.Sound.setJob {s q seq f} (h : State.Sound m o n s) (hm : Field.sub [.queues] m = true) :
    State.Sound m o n (State.setJob s q seq f) := by
  unfold State.setJob
  exact State.Sound.setQueue h (Field.sub_of hm rfl)

theorem State.Sound.chargeArray {s a} (h : State.Sound m o n s) (hm : Field.sub [.dict, .arrs, .queues] m = true) :
    State.Sound m o n (State.chargeArray s a) := by
  unfold State.chargeArray
  extract_lets x1 x2 x3 x4
  have h1 : State.Sound m o n x4 := State.Sound.setArr h (Field.sub_of hm rfl)
  clear_value x4
  split
  · rename_i y1 y2
    exact h1
  · rename_i y3 y4 y5 y6
    refine State.Sound.ite h1 ?_
    extract_lets x5 x6 x7 x8
    have h2 : State.Sound m o n x7 := State.Sound.setArr h1 (Field.sub_of hm rfl)
    clear_value x7
    have h3 : State.Sound m o n x8 := State.Sound.ite h2 (State.Sound.bumpBy h2 (Field.sub_of hm rfl))
    clear_value x8
    exact State.Sound.setJob h3 (Field.sub_of hm rfl)

theorem State.Sound.chargeAll {s} (h : State.Sound m o n s) (hm : Field.sub [.dict, .arrs, .queues] m = true) :
    State.Sound m o n (State.chargeAll s) := by
  unfold State.chargeAll
  exact State.Sound.foldl h (fun s1 x1 h1 => State.Sound.chargeArray h1 (Field.sub_of hm rfl))

theorem State.Sound.countOutcome {s p status tick} (h : State.Sound m o n s) (hm : Field.sub [.tally] m = true) :
    State.Sound m o n (State.countOutcome s p status tick) := by
  unfold State.countOutcome
  split
  · exact State.Sound.ite (State.Sound.congr [.tally] h (Field.sub_of hm rfl) rfl rfl (Nat.le_refl _) rfl rfl rfl)
        (State.Sound.congr [.tally] h (Field.sub_of hm rfl) rfl rfl (Nat.le_refl _) rfl rfl rfl)
  · exact State.Sound.congr [.tally] h (Field.sub_of hm rfl) rfl rfl (Nat.le_refl _) rfl rfl rfl

theorem State.Sound.uncountOutcome {s p status tick} (h : State.Sound m o n s) (hm : Field.sub [.tally] m = true) :
    State.Sound m o n (State.uncountOutcome s p status tick) := by
  unfold State.uncountOutcome
  split
  · rename_i y1 y2 y3
    exact State.Sound.ite (State.Sound.congr [.tally] h (Field.sub_of hm rfl) rfl rfl (Nat.le_refl _) rfl rfl rfl)
        (State.Sound.ite (State.Sound.congr [.tally] h (Field.sub_of hm rfl) rfl rfl (Nat.le_refl _) rfl rfl rfl) h)
  · rename_i y4 y5
    exact State.Sound.ite (State.Sound.congr [.tally] h (Field.sub_of hm rfl) rfl rfl (Nat.le_refl _) rfl rfl rfl) h

theorem State.Sound.vacateArrays {s q seq} (h : State.Sound m o n s) (hm : Field.sub [.arrs] m = true) :
    State.Sound m o n (State.vacateArrays s q seq) := by
  unfold State.vacateArrays
  exact State.Sound.congr [.arrs] h (Field.sub_of hm rfl) rfl rfl (Nat.le_refl _) rfl rfl (by simp [State.shape])

theorem State.Sound.clearFault {s q} (h : State.Sound m o n s) (hm : Field.sub [.queues] m = true) :
    State.Sound m o n (State.clearFault s q) := by
  unfold State.clearFault
  exact State.Sound.setQueue h (Field.sub_of hm rfl)

theorem State.Sound.endItemAt {s q seq status cause ref detail tick offset} (h : State.Sound m o n s) (hm :
    Field.sub [.dict, .tally, .arrs, .queues, .bin] m = true) :
    State.Sound m o n (State.endItemAt s q seq status cause ref detail tick offset) := by
  unfold State.endItemAt
  split
  · rename_i y1 y2
    exact h
  · rename_i y3 y4 y5
    split
    · rename_i y6 y7 y8
      exact State.Sound.ite (State.Sound.setJob h (Field.sub_of hm rfl)) h
    · rename_i y9 y10
      extract_lets x1 x2 x3 x4 x5 x6 x7 x8
      have h1 : State.Sound m o n x4 := State.Sound.ite (State.Sound.clearFault h (Field.sub_of hm rfl)) h
      clear_value x4
      have h2 : State.Sound m o n x5 := State.Sound.vacateArrays h1 (Field.sub_of hm rfl)
      clear_value x5
      have h3 : State.Sound m o n x6 := State.Sound.setJob h2 (Field.sub_of hm rfl)
      clear_value x6
      have h4 : State.Sound m o n x7 := State.Sound.bump (State.Sound.countOutcome h3 (Field.sub_of hm rfl))
          (Field.sub_of hm rfl)
      clear_value x7
      exact State.Sound.ite (State.Sound.congr [.bin] h4 (Field.sub_of hm rfl) rfl rfl (Nat.le_refl _) rfl rfl rfl)
          h4

theorem State.Sound.endItem {s q seq status cause ref detail} (h : State.Sound m o n s) (hm : Field.sub [.dict,
    .tally, .arrs, .queues, .bin] m = true) :
    State.Sound m o n (State.endItem s q seq status cause ref detail) := by
  unfold State.endItem
  exact State.Sound.endItemAt h (Field.sub_of hm rfl)

theorem State.Sound.endAtMeridian {s q seq status cause detail} (h : State.Sound m o n s) (hm : Field.sub [.dict,
    .tally, .arrs, .queues, .bin] m = true) :
    State.Sound m o n (State.endAtMeridian s q seq status cause detail) := by
  unfold State.endAtMeridian
  extract_lets x1
  exact State.Sound.endItemAt h (Field.sub_of hm rfl)

theorem State.Sound.endQueue {s q status cause} (h : State.Sound m o n s) (hm : Field.sub [.dict, .tally, .arrs,
    .queues, .bin] m = true) :
    State.Sound m o n (State.endQueue s q status cause) := by
  unfold State.endQueue
  exact State.Sound.foldl h (fun s1 x1 h1 => State.Sound.endItem h1 (Field.sub_of hm rfl))

theorem State.Sound.jobFault {s q j cls mechanism unit kind cause detail localise} (h : State.Sound m o n s) (hm :
    Field.sub [.dict, .tally, .queues, .bin, .log] m = true) :
    State.SoundP m o n (State.jobFault s q j cls mechanism unit kind cause detail localise) := by
  unfold State.jobFault
  exact State.Sound.detect h (Field.sub_of hm rfl)

theorem State.Sound.amendItem {s q seq} (h : State.Sound m o n s) (hm : Field.sub [.tally, .queues, .bin] m = true) :
    State.Sound m o n (State.amendItem s q seq) := by
  unfold State.amendItem
  split
  · rename_i y1 y2
    exact h
  · rename_i y3 y4 y5
    split
    · rename_i y6 y7
      exact h
    · rename_i y8 y9 y10
      refine State.Sound.ite h ?_
      extract_lets x1 x2 x3 x4
      have h1 : State.Sound m o n x2 := State.Sound.countOutcome (State.Sound.uncountOutcome h (Field.sub_of hm
          rfl)) (Field.sub_of hm rfl)
      clear_value x2
      have h2 : State.Sound m o n x3 := State.Sound.setJob h1 (Field.sub_of hm rfl)
      clear_value x3
      exact State.Sound.ite (State.Sound.congr [.bin] h2 (Field.sub_of hm rfl) rfl rfl (Nat.le_refl _) rfl rfl rfl)
          h2

theorem State.Sound.sweepRecord {s q seq} (h : State.Sound m o n s) (hm : Field.sub [.dict, .tally, .queues, .bin] m
    = true) :
    State.Sound m o n (State.sweepRecord s q seq) := by
  unfold State.sweepRecord
  exact State.Sound.ite h (State.Sound.ite (State.Sound.amendItem h (Field.sub_of hm rfl)) (State.Sound.sweep h
      (Field.sub_of hm rfl)))

theorem State.Sound.putStanding {s q j e} (h : State.Sound m o n s) (hm : Field.sub [.dict, .tally, .queues, .mem,
    .bin, .log] m = true) :
    State.Sound m o n (State.putStanding s q j e) := by
  unfold State.putStanding
  extract_lets x1 x2
  split
  rename_i y1 y2 y3 y4
  have h1 : State.Sound m o n y2 := State.SoundF.of y4 (State.Sound.store (State.Sound.chargeAccess h (Field.sub_of
      hm rfl)) (Field.sub_of hm rfl))
  exact State.SoundP.snd (State.Sound.report h1 (Field.sub_of hm rfl))

theorem State.Sound.putRecord {s q} (h : State.Sound m o n s) (hm : Field.sub [.dict, .tally, .queues, .mem, .bin,
    .log, .sent] m = true) :
    State.SoundP m o n (State.putRecord s q) := by
  unfold State.putRecord
  split
  · rename_i y1 y2
    exact State.SoundP.mk h
  · rename_i y3 y4 y5 y6
    refine State.SoundP.ite (State.SoundP.mk h) ?_
    extract_lets x1 x2 x3 x4 x5
    have h1 : State.Sound m o n x1 := State.Sound.ite h (State.Sound.sweepRecord h (Field.sub_of hm rfl))
    clear_value x1
    have h2 : State.Sound m o n x3 := State.Sound.setQueue h1 (Field.sub_of hm rfl)
    clear_value x3
    split
    · rename_i y7 y8
      exact State.SoundP.mk h1
    · rename_i y9 y10 y11
      exact State.SoundP.ite (State.SoundP.mk (State.Sound.putStanding h2 (Field.sub_of hm rfl))) (State.SoundP.mk
          (State.Sound.emit h2 (Field.sub_of hm rfl)))

theorem State.Sound.writeRecord {s q} (h : State.Sound m o n s) (hm : Field.sub [.dict, .tally, .queues, .mem, .host,
    .bin, .log, .sent] m = true) :
    State.Sound m o n (State.writeRecord s q) := by
  unfold State.writeRecord
  split
  · rename_i y1 y2 y3
    have h1 : State.Sound m o n y2 := State.SoundP.of y3 (State.Sound.putRecord h (Field.sub_of hm rfl))
    exact State.Sound.sendVector h1 (Field.sub_of hm rfl)
  · rename_i y1 y2 y3
    have h1 : State.Sound m o n y2 := State.SoundP.of y3 (State.Sound.putRecord h (Field.sub_of hm rfl))
    exact h1

theorem State.Sound.guardReads {s q j a a4} (h : State.Sound m o n s) (hm : Field.sub [.dict, .tally, .queues, .mem,
    .bin, .log] m = true) :
    State.SoundGR m o n (State.guardReads s q j a a4) := by
  induction a generalizing s q j a4
  · unfold State.guardReads
    exact State.SoundGR.mk h
  · rename_i i0 i1 i2
    unfold State.guardReads
    extract_lets x1 x2
    refine State.SoundGR.ite (State.SoundGR.mk h) ?_
    split
    · rename_i y1 y2 y3
      have h1 : State.Sound m o n y2 := State.SoundP.of y3 (State.Sound.report (State.Sound.chargeAccess h
          (Field.sub_of hm rfl)) (Field.sub_of hm rfl))
      exact i2 h1
    · rename_i y4 y5 y6 y7
      have h2 : State.Sound m o n y6 := State.SoundP.of y7 (State.Sound.report (State.Sound.chargeAccess h
          (Field.sub_of hm rfl)) (Field.sub_of hm rfl))
      exact State.SoundGR.mk h2

theorem State.Sound.of_guardChecks {q j a a3} (h : State.SoundGR m o n a3) (hm : Field.sub [.dict, .tally, .queues,
    .mem, .bin, .log] m = true) :
    State.SoundGR m o n (guardChecks q j a a3) := by
  induction a generalizing q j a3
  · unfold guardChecks
    exact h
  · rename_i i0 i1 i2
    unfold guardChecks
    extract_lets x1
    have h1 : State.SoundGR m o n x1 := State.Sound.guardReads (State.SoundGR.state h) (Field.sub_of hm rfl)
    clear_value x1
    refine State.SoundGR.ite h1 ?_
    refine State.SoundGR.ite (i2 h1) ?_
    split
    rename_i y1 y2 y3 y4
    have h2 : State.Sound m o n y3 := State.SoundP.of y4 (State.Sound.jobFault (State.SoundGR.state h1)
        (Field.sub_of hm rfl))
    exact State.SoundGR.mk h2

theorem State.Sound.of_guardMembers {q j a a3} (h : State.SoundGR m o n a3) (hm : Field.sub [.dict, .tally, .queues,
    .mem, .bin, .log] m = true) :
    State.SoundGR m o n (guardMembers q j a a3) := by
  induction a generalizing q j a3
  · unfold guardMembers
    exact h
  · rename_i i0 i1 i2
    unfold guardMembers
    extract_lets x1 x2 x3 x4 x5 x6
    have h1 : State.Sound m o n x1 := State.SoundGR.state h
    clear_value x1
    have h2 : State.Sound m o n x5 := State.Sound.setQueue h1 (Field.sub_of hm rfl)
    clear_value x5
    have h3 : State.SoundGR m o n x6 := State.Sound.of_guardChecks (State.SoundGR.mk h2) (Field.sub_of hm rfl)
    clear_value x6
    exact State.SoundGR.ite h3 (i2 h3)

theorem State.Sound.guardStep {s q j} (h : State.Sound m o n s) (hm : Field.sub [.dict, .tally, .queues, .mem, .bin,
    .log] m = true) :
    State.SoundGR m o n (State.guardStep s q j) := by
  unfold State.guardStep
  extract_lets x1
  have h1 : State.SoundGR m o n x1 := State.SoundGR.mk h
  clear_value x1
  split
  · rename_i y1 y2
    exact h1
  · rename_i y3 y4 y5
    exact State.Sound.of_guardMembers h1 (Field.sub_of hm rfl)

theorem State.Sound.missAlmanac {s required} (h : State.Sound m o n s) (hm : Field.sub [.dict] m = true) :
    State.Sound m o n (State.missAlmanac s required) := by
  unfold State.missAlmanac
  extract_lets x1 x2
  exact State.Sound.setNum (State.Sound.setVal h (Field.sub_of hm rfl)) (Field.sub_of hm rfl)

theorem State.Sound.noteHead {s q} (h : State.Sound m o n s) (hm : Field.sub [.dict, .tally, .arrs, .queues, .bin] m
    = true) :
    State.Sound m o n (State.noteHead s q) := by
  unfold State.noteHead
  split
  · exact h
  · extract_lets x1 x2
    exact State.Sound.ite h (State.Sound.ite (State.Sound.endItem (State.Sound.bump (State.Sound.missAlmanac h
        (Field.sub_of hm rfl)) (Field.sub_of hm rfl)) (Field.sub_of hm rfl)) (State.Sound.setJob h
        (Field.sub_of hm rfl)))

theorem State.Sound.noteQueue {k i s} (h : State.Sound m o n s) (hm : Field.sub [.dict, .tally, .arrs, .queues, .bin]
    m = true) :
    State.Sound m o n (State.noteQueue k i s) := by
  induction k generalizing s with
  | zero => exact h
  | succ k ih => exact ih (State.Sound.noteHead h (Field.sub_of hm rfl))

theorem State.Sound.noteReady {s} (h : State.Sound m o n s) (hm : Field.sub [.dict, .tally, .arrs, .queues, .bin] m =
    true) :
    State.Sound m o n (State.noteReady s) := by
  unfold State.noteReady
  exact State.Sound.foldl h (fun s1 x1 h1 => State.Sound.noteQueue h1 (Field.sub_of hm rfl))

theorem State.Sound.requestStop {s q seq why} (h : State.Sound m o n s) (hm : Field.sub [.queues] m = true) :
    State.Sound m o n (State.requestStop s q seq why) := by
  unfold State.requestStop
  exact State.Sound.setJob h (Field.sub_of hm rfl)

theorem State.Sound.takeArrays {s q seq arrays} (h : State.Sound m o n s) (hm : Field.sub [.arrs] m = true) :
    State.Sound m o n (State.takeArrays s q seq arrays) := by
  unfold State.takeArrays
  exact State.Sound.foldl h (fun s1 x1 h1 => State.Sound.setArr h1 (Field.sub_of hm rfl))

theorem State.Sound.startJob {s q j arrays} (h : State.Sound m o n s) (hm : Field.sub [.arrs, .queues] m = true) :
    State.Sound m o n (State.startJob s q j arrays) := by
  unfold State.startJob
  extract_lets x1 x2 x3 x4 x5
  have h1 : State.Sound m o n x3 := State.Sound.takeArrays h (Field.sub_of hm rfl)
  clear_value x3
  have h2 : State.Sound m o n x4 := State.Sound.setJob h1 (Field.sub_of hm rfl)
  clear_value x4
  exact State.Sound.ite (State.Sound.setJob h1 (Field.sub_of hm rfl)) (State.Sound.ite h2 (State.Sound.setJob h2
      (Field.sub_of hm rfl)))

theorem State.Sound.carryOut {s p} (h : State.Sound m o n s) (hm : Field.sub [.dict, .tally, .arrs, .queues, .bin,
    .log] m = true) :
    State.SoundP m o n (State.carryOut s p) := by
  unfold State.carryOut
  split
  · exact State.SoundP.mk h
  · exact State.SoundP.mk h
  · exact State.SoundP.ite (State.SoundP.mk h) (State.SoundP.mk (State.Sound.startJob h (Field.sub_of hm rfl)))

theorem State.Sound.dispatchOne {s a} (h : State.Sound m o n s) (hm : Field.sub [.dict, .tally, .arrs, .queues, .bin,
    .log] m = true) :
    State.SoundP m o n (State.dispatchOne s a) := by
  unfold State.dispatchOne
  extract_lets x1 x2 x3
  refine State.SoundP.ite (State.SoundP.mk h) ?_
  split
  · exact State.SoundP.ite (State.Sound.carryOut h (Field.sub_of hm rfl)) (State.SoundP.ite (State.Sound.carryOut h
        (Field.sub_of hm rfl)) (State.Sound.carryOut h (Field.sub_of hm rfl)))
  · extract_lets x4
    exact State.SoundP.ite (State.SoundP.mk h) (State.SoundP.ite (State.SoundP.mk (State.Sound.requestStop h
        (Field.sub_of hm rfl))) (State.SoundP.ite (State.SoundP.mk h) (State.SoundP.ite (State.SoundP.mk
        (State.Sound.requestStop h (Field.sub_of hm rfl))) (State.SoundP.mk h))))

theorem State.Sound.dispatchRound {s} (h : State.Sound m o n s) (hm : Field.sub [.dict, .tally, .arrs, .queues, .bin,
    .log] m = true) :
    State.SoundP m o n (State.dispatchRound s) := by
  unfold State.dispatchRound
  refine State.SoundP.foldl (State.SoundP.mk (State.Sound.noteReady h (Field.sub_of hm rfl))) (fun s1 x1 h1 => ?_)
  split
  · rename_i y1 y2 y3 y4
    have h2 : State.Sound m o n y3 := State.SoundP.of y4 (State.Sound.dispatchOne (State.SoundP.snd h1)
        (Field.sub_of hm rfl))
    exact State.SoundP.mk h2

theorem State.Sound.dispatchLoop {k s} (h : State.Sound m o n s)
    (hm : Field.sub [.dict, .tally, .arrs, .queues, .bin, .log] m = true) : State.Sound m o n (State.dispatchLoop k
        s) := by
  induction k generalizing s with
  | zero => exact h
  | succ k ih =>
    unfold State.dispatchLoop
    extract_lets x1
    have h1 : State.SoundP m o n x1 := State.Sound.dispatchRound h (Field.sub_of hm rfl)
    clear_value x1
    exact State.Sound.ite (ih h1) h1

theorem State.Sound.dispatch {s} (h : State.Sound m o n s) (hm : Field.sub [.dict, .tally, .arrs, .queues, .bin,
    .log] m = true) :
    State.Sound m o n (State.dispatch s) := by
  unfold State.dispatch
  exact State.Sound.dispatchLoop h (Field.sub_of hm rfl)

theorem State.Sound.finishGuard {s q j} (h : State.Sound m o n s) (hm : Field.sub [.dict, .tally, .arrs, .queues,
    .mem, .bin, .log] m = true) :
    State.Sound m o n (State.finishGuard s q j) := by
  unfold State.finishGuard
  extract_lets x1 x2
  have h1 : State.SoundGR m o n x1 := State.Sound.guardStep h (Field.sub_of hm rfl)
  clear_value x1
  have h2 : State.Sound m o n x2 := State.Sound.setJob (State.SoundGR.state h1) (Field.sub_of hm rfl)
  clear_value x2
  split
  · rename_i y1 y2
    exact h2
  · rename_i y3 y4 y5 y6
    exact State.Sound.endItem h2 (Field.sub_of hm rfl)

theorem State.Sound.settleGuards {t a a2} (h : State.Sound m o n a2) (hm : Field.sub [.dict, .clock, .tally, .arrs,
    .queues, .mem, .bin, .log] m = true) :
    State.Sound m o n (State.settleGuards t a a2) := by
  induction a generalizing t a2
  · unfold State.settleGuards
    exact h
  · rename_i i0 i1
    unfold State.settleGuards
    split
    · rename_i y1 y2
      exact h
    · rename_i y3 y4 y5 y6 y7
      refine State.Sound.ite h ?_
      extract_lets x1
      have h1 : State.Sound m o n x1 := State.Sound.chargeAll (State.Sound.advance h (Field.sub_of hm rfl))
          (Field.sub_of hm rfl)
      clear_value x1
      exact i1 (State.Sound.dispatch (State.Sound.finishGuard h1 (Field.sub_of hm rfl)) (Field.sub_of hm rfl))

theorem State.Sound.advanceCharged {s t} (h : State.Sound m o n s) (hm : Field.sub [.dict, .clock, .tally, .arrs,
    .queues, .mem, .bin, .log] m = true) :
    State.Sound m o n (State.advanceCharged s t) := by
  unfold State.advanceCharged
  exact State.Sound.chargeAll (State.Sound.advance (State.Sound.settleGuards h (Field.sub_of hm rfl)) (Field.sub_of
      hm rfl)) (Field.sub_of hm rfl)

theorem State.Sound.imageBytes {s q j k} (h : State.Sound m o n s) (hm : Field.sub [.dict, .tally, .queues, .mem,
    .bin, .log] m = true) :
    State.SoundP m o n (State.imageBytes s q j k) := by
  unfold State.imageBytes
  extract_lets x1
  split
  rename_i y1 y2 y3 y4
  split
  rename_i y5 y6 y7 y8
  have h1 : State.Sound m o n y7 := State.SoundP.of y8 (State.Sound.reportIngest (State.Sound.chargeAccess h
      (Field.sub_of hm rfl)) (Field.sub_of hm rfl))
  exact State.SoundP.mk h1

theorem State.Sound.readImage {s q j} (h : State.Sound m o n s) (hm : Field.sub [.dict, .tally, .queues, .mem, .bin,
    .log] m = true) :
    State.SoundP m o n (State.readImage s q j) := by
  unfold State.readImage
  refine State.SoundP.ite (State.SoundP.mk h) ?_
  split
  · rename_i y1 y2 y3
    have h1 : State.Sound m o n y2 := State.SoundP.of y3 (State.Sound.imageBytes h (Field.sub_of hm rfl))
    exact State.SoundP.mk h1
  · rename_i y4 y5 y6 y7
    have h2 : State.Sound m o n y6 := State.SoundP.of y7 (State.Sound.imageBytes h (Field.sub_of hm rfl))
    split
    · rename_i y8 y9
      exact State.SoundP.mk h2
    · rename_i y10 y11 y12
      split
      rename_i y13 y14 y15 y16
      have h3 : State.Sound m o n y15 := State.SoundP.of y16 (State.Sound.imageBytes h2 (Field.sub_of hm rfl))
      exact State.SoundP.mk h3

theorem State.Sound.admitJob {s q x body j} (h : State.Sound m o n s) (hm : Field.sub [.dict, .tally, .queues, .mem,
    .bin, .log] m = true) :
    State.SoundP2 m o n (State.admitJob s q x body j) := by
  unfold State.admitJob
  split
  rename_i y1 y2 y3 y4
  have h1 : State.Sound m o n y3 := State.SoundP.of y4 (State.SoundP.ite (State.Sound.readImage h (Field.sub_of hm
      rfl)) (State.SoundP.mk h))
  split
  · rename_i y5
    have h2 : State.Sound m o n y3 := State.SoundP.of y4 (State.SoundP.ite (State.Sound.readImage h (Field.sub_of hm
        rfl)) (State.SoundP.mk h))
    exact State.SoundP2.mk h1
  · rename_i y6 y7 y8
    have h3 : State.Sound m o n y3 := State.SoundP.of y4 (State.SoundP.ite (State.Sound.readImage h (Field.sub_of hm
        rfl)) (State.SoundP.mk h))
    extract_lets x1 x2 x3 x4
    refine State.SoundP2.ite (State.SoundP2.mk h1) ?_
    refine State.SoundP2.ite (State.SoundP2.mk h1) ?_
    refine State.SoundP2.ite (State.SoundP2.mk (State.Sound.bump (State.Sound.missAlmanac h1 (Field.sub_of hm rfl))
        (Field.sub_of hm rfl))) ?_
    split
    · rename_i y9 y10 y11
      exact State.SoundP2.mk h1
    · rename_i y12 y13
      exact State.SoundP2.mk (State.Sound.ite (State.Sound.bump h1 (Field.sub_of hm rfl)) h1)

theorem State.Sound.submit {s q x body} (h : State.Sound m o n s) (hm : Field.sub [.dict, .tally, .arrs, .queues,
    .mem, .bin, .log] m = true) :
    State.Sound m o n (State.submit s q x body) := by
  unfold State.submit
  extract_lets x1 x2 x3 x4
  have h1 : State.Sound m o n x3 := State.Sound.setQueue h (Field.sub_of hm rfl)
  clear_value x3
  split
  rename_i y1 y2 y3 y4 y5
  have h2 : State.Sound m o n y4 := State.SoundP2.of y5 (State.SoundP2.ite (State.SoundP2.mk h1) (State.SoundP2.ite
      (State.Sound.admitJob h1 (Field.sub_of hm rfl)) (State.SoundP2.mk h1)))
  extract_lets x5
  have h3 : State.Sound m o n x5 := State.Sound.setQueue h2 (Field.sub_of hm rfl)
  clear_value x5
  split
  · rename_i y6
    exact h3
  · rename_i y7 y8 y9
    exact State.Sound.endItem h3 (Field.sub_of hm rfl)

theorem State.Sound.fetch {s q d body} (h : State.Sound m o n s) (hm : Field.sub [.dict, .tally, .arrs, .queues,
    .mem, .bin, .log, .sent] m = true) :
    State.Sound m o n (State.fetch s q d body) := by
  unfold State.fetch
  refine State.Sound.ite h ?_
  extract_lets x1 x2 x3 x4
  have h1 : State.Sound m o n x3 := State.Sound.emit h (Field.sub_of hm rfl)
  clear_value x3
  have h2 : State.Sound m o n x4 := State.Sound.setQueue h1 (Field.sub_of hm rfl)
  clear_value x4
  exact State.Sound.submit h2 (Field.sub_of hm rfl)

theorem State.Sound.submitStanding {s q k2} (h : State.Sound m o n s) (hm : Field.sub [.dict, .tally, .arrs,
    .queues, .mem, .bin, .log] m = true) :
    State.Sound m o n (State.submitStanding s q k2) := by
  unfold State.submitStanding
  extract_lets x1 x2 x3
  exact State.Sound.submit h (Field.sub_of hm rfl)

/-! ## JobSteps -/

theorem State.Sound.gwMet {s q j a k4} (h : State.Sound m o n s) (hm : Field.sub [.dict, .tally, .arrs, .queues,
    .mem, .bin, .log] m = true) :
    State.SoundG m o n (State.gwMet s q j a k4) := by
  unfold State.gwMet
  split
  · rename_i y1 y2 y3
    have h1 : State.Sound m o n y2 := State.SoundP.of y3 (State.Sound.report h (Field.sub_of hm rfl))
    exact State.SoundG.mk h1
  · rename_i y4 y5 y6 y7 y8
    have h2 : State.Sound m o n y7 := State.SoundP.of y8 (State.Sound.report h (Field.sub_of hm rfl))
    exact State.SoundG.mk (State.Sound.endItem h2 (Field.sub_of hm rfl))

theorem State.Sound.gwClosed {s q j} (h : State.Sound m o n s) (hm : Field.sub [.dict, .tally, .arrs, .queues, .bin]
    m = true) :
    State.SoundG m o n (State.gwClosed s q j) := by
  unfold State.gwClosed
  exact State.SoundG.mk (State.Sound.endItem h (Field.sub_of hm rfl))

theorem State.Sound.gwRead {s e q j a k} (h : State.Sound m o n s) (hm : Field.sub [.dict, .tally, .arrs, .queues,
    .mem, .bin, .log] m = true) :
    State.SoundPG m o n (State.gwRead s e q j a k) := by
  unfold State.gwRead
  refine State.SoundPG.ite (State.SoundPG.mk (State.Sound.gwClosed h (Field.sub_of hm rfl))) ?_
  split
  rename_i y1 y2 y3 y4
  exact State.SoundPG.mk (State.Sound.gwMet (State.Sound.chargeAccess h (Field.sub_of hm rfl)) (Field.sub_of hm rfl))

theorem State.Sound.gwWrite {s e q j a b} (h : State.Sound m o n s) (hm : Field.sub [.dict, .tally, .arrs, .queues,
    .mem, .bin, .log] m = true) :
    State.SoundG m o n (State.gwWrite s e q j a b) := by
  unfold State.gwWrite
  refine State.SoundG.ite (State.Sound.gwClosed h (Field.sub_of hm rfl)) ?_
  split
  rename_i y1 y2 y3 y4
  have h1 : State.Sound m o n y2 := State.SoundF.of y4 (State.Sound.store (State.Sound.chargeAccess h (Field.sub_of
      hm rfl)) (Field.sub_of hm rfl))
  exact State.Sound.gwMet h1 (Field.sub_of hm rfl)

theorem State.Sound.of_doJob {t q desc body s} (h : State.Sound m o n s) (hm : Field.sub [.dict, .clock, .tally,
    .arrs, .queues, .mem, .bin, .log, .sent] m = true) :
    State.Sound m o n (doJob t q desc body s) := by
  unfold doJob
  exact State.Sound.dispatch (State.Sound.fetch (State.Sound.advanceCharged h (Field.sub_of hm rfl)) (Field.sub_of
      hm rfl)) (Field.sub_of hm rfl)

theorem State.Sound.of_execJob {t q desc body s} (h : State.Sound m o n s) (hm : Field.sub [.dict, .clock, .tally,
    .arrs, .queues, .mem, .bin, .log, .sent] m = true) :
    State.SoundX m o n (execJob t q desc body s) := by
  unfold execJob
  exact State.SoundX.next (State.Sound.of_doJob h (Field.sub_of hm rfl))

theorem State.Sound.of_doSlotBoundary {t s} (h : State.Sound m o n s) (hm : Field.sub [.dict, .clock, .tally, .arrs,
    .queues, .mem, .bin, .log] m = true) :
    State.Sound m o n (doSlotBoundary t s) := by
  unfold doSlotBoundary
  exact State.Sound.dispatch (State.Sound.advanceCharged h (Field.sub_of hm rfl)) (Field.sub_of hm rfl)

theorem State.Sound.of_execSlotBoundary {t s} (h : State.Sound m o n s) (hm : Field.sub [.dict, .clock, .tally,
    .arrs, .queues, .mem, .bin, .log] m = true) :
    State.SoundX m o n (execSlotBoundary t s) := by
  unfold execSlotBoundary
  exact State.SoundX.next (State.Sound.of_doSlotBoundary h (Field.sub_of hm rfl))

theorem State.Sound.of_doShareExhausted {a s} (h : State.Sound m o n s) (hm : Field.sub [.dict, .clock, .tally,
    .arrs, .queues, .mem, .bin, .log] m = true) :
    State.Sound m o n (doShareExhausted a s) := by
  unfold doShareExhausted
  split
  · rename_i y1 y2
    exact h
  · rename_i y3 y4 y5 y6
    extract_lets x1
    exact State.Sound.ite h (State.Sound.dispatch (State.Sound.advanceCharged h (Field.sub_of hm rfl)) (Field.sub_of
        hm rfl))

theorem State.Sound.of_execShareExhausted {a s} (h : State.Sound m o n s) (hm : Field.sub [.dict, .clock, .tally,
    .arrs, .queues, .mem, .bin, .log] m = true) :
    State.SoundX m o n (execShareExhausted a s) := by
  unfold execShareExhausted
  exact State.SoundX.next (State.Sound.of_doShareExhausted h (Field.sub_of hm rfl))

theorem State.Sound.stopAtWaypoint {s q j} (h : State.Sound m o n s) (hm : Field.sub [.dict, .queues] m = true) :
    State.Sound m o n (State.stopAtWaypoint s q j) := by
  unfold State.stopAtWaypoint
  extract_lets x1 x2
  have h1 : State.Sound m o n x2 := State.Sound.ite (State.Sound.bump h (Field.sub_of hm rfl)) h
  clear_value x2
  exact State.Sound.setJob h1 (Field.sub_of hm rfl)

theorem State.Sound.missDeadline {s q j} (h : State.Sound m o n s) (hm : Field.sub [.dict, .tally, .arrs, .queues,
    .bin, .log] m = true) :
    State.Sound m o n (State.missDeadline s q j) := by
  unfold State.missDeadline
  exact State.Sound.dispatch (State.Sound.endItem h (Field.sub_of hm rfl)) (Field.sub_of hm rfl)

theorem State.Sound.of_doWaypoint {t q s} (h : State.Sound m o n s) (hm : Field.sub [.dict, .clock, .tally, .arrs,
    .queues, .mem, .bin, .log] m = true) :
    State.Sound m o n (doWaypoint t q s) := by
  unfold doWaypoint
  extract_lets x1
  have h1 : State.Sound m o n x1 := State.Sound.advanceCharged h (Field.sub_of hm rfl)
  clear_value x1
  split
  · rename_i y1 y2
    exact h1
  · rename_i y3 y4 y5
    exact State.Sound.ite h1 (State.Sound.ite (State.Sound.missDeadline h1 (Field.sub_of hm rfl))
        (State.Sound.stopAtWaypoint h1 (Field.sub_of hm rfl)))

theorem State.Sound.of_execWaypoint {t q s} (h : State.Sound m o n s) (hm : Field.sub [.dict, .clock, .tally, .arrs,
    .queues, .mem, .bin, .log] m = true) :
    State.SoundX m o n (execWaypoint t q s) := by
  unfold execWaypoint
  exact State.SoundX.next (State.Sound.of_doWaypoint h (Field.sub_of hm rfl))

theorem State.Sound.operandUe {s a word} (h : State.Sound m o n s)
    (hm : Field.sub [.dict, .tally, .arrs, .queues, .mem, .bin, .log] m = true) :
    State.Sound m o n (State.operandUe s a word) := by
  unfold State.operandUe
  extract_lets x1 x2 x3
  have h1 : State.Sound m o n x1 := State.Sound.bump h (Field.sub_of hm rfl)
  have h2 : State.Sound m o n x3 := State.Sound.congr [.mem] h1 (Field.sub_of hm rfl) rfl rfl (Nat.le_refl _) rfl
      rfl rfl
  clear_value x3
  split
  · exact h2
  · split
    rename_i y1 y2 y3 y4 y5 y6 y7
    exact State.Sound.endItem (State.SoundP.of y7 (State.Sound.jobFault h2 (Field.sub_of hm rfl))) (Field.sub_of hm
        rfl)

theorem State.Sound.readStoreMet {s a reads} (h : State.Sound m o n s) (hm : Field.sub [.dict, .tally, .arrs,
    .queues, .mem, .bin, .log] m = true) :
    State.SoundG m o n (State.readStoreMet s a reads) := by
  unfold State.readStoreMet
  extract_lets x1 x2 x3 x4 x5
  have h2 : State.Sound m o n x3 := State.Sound.foldl h (fun s1 x6 h1 => (State.Sound.bump h1 (Field.sub_of hm rfl)))
  clear_value x3
  have h3 : State.Sound m o n x5 := State.Sound.congr [.mem] h2 (Field.sub_of hm rfl) rfl rfl (Nat.le_refl _) rfl
      rfl rfl
  clear_value x5
  exact State.SoundG.mk (State.Sound.foldl h3 (fun s2 x7 h4 => (State.Sound.operandUe h4 (Field.sub_of hm rfl))))

theorem State.Sound.saveContexts {s q j a} (h : State.Sound m o n s) (hm : Field.sub [.dict, .tally, .arrs, .queues,
    .mem, .bin, .log] m = true) :
    State.SoundG m o n (State.saveContexts s q j a) := by
  induction a generalizing s q j
  · unfold State.saveContexts
    exact State.SoundG.mk h
  · rename_i i0 i1
    unfold State.saveContexts
    extract_lets x1 x2 x3
    have h1 : State.SoundG m o n x1 := i1 h
    clear_value x1
    have h2 : State.SoundG m o n x3 := State.Sound.readStoreMet (State.SoundG.state h1) (Field.sub_of hm rfl)
    clear_value x3
    exact State.SoundG.ite h1 (State.SoundG.ite h2 (State.Sound.gwWrite (State.SoundG.state h2) (Field.sub_of hm
        rfl)))

theorem State.Sound.writeStore {s a x b} (h : State.Sound m o n s) (hm : Field.sub [.arrs, .mem] m = true) :
    State.Sound m o n (State.writeStore s a x b) := by
  unfold State.writeStore
  extract_lets x1 x2 x3
  have h1 : State.Sound m o n x1 := State.Sound.setArr h (Field.sub_of hm rfl)
  clear_value x1
  exact State.Sound.congr [.mem] h1 (Field.sub_of hm rfl) rfl rfl (Nat.le_refl _) rfl rfl rfl

theorem State.Sound.loadContexts {s q j a} (h : State.Sound m o n s) (hm : Field.sub [.dict, .tally, .arrs, .queues,
    .mem, .bin, .log] m = true) :
    State.SoundG m o n (State.loadContexts s q j a) := by
  induction a generalizing s q j
  · unfold State.loadContexts
    exact State.SoundG.mk h
  · rename_i i0 i1
    unfold State.loadContexts
    extract_lets x1 x2 x3
    have h1 : State.SoundG m o n x1 := i1 h
    clear_value x1
    have h2 : State.SoundPG m o n x3 := State.Sound.gwRead (State.SoundG.state h1) (Field.sub_of hm rfl)
    clear_value x3
    exact State.SoundG.ite h1 (State.SoundG.ite (State.SoundG.mk (State.Sound.writeStore (State.SoundG.state
        (State.SoundPG.snd h2)) (Field.sub_of hm rfl))) (State.SoundPG.snd h2))

theorem State.Sound.park {s q j f} (h : State.Sound m o n s) (hm : Field.sub [.dict, .tally, .arrs, .queues, .bin] m
    = true) :
    State.Sound m o n (State.park s q j f) := by
  unfold State.park
  extract_lets x1 x2 x3
  have h1 : State.Sound m o n x1 := State.Sound.bump h (Field.sub_of hm rfl)
  clear_value x1
  have h2 : State.Sound m o n x2 := State.Sound.setJob h1 (Field.sub_of hm rfl)
  clear_value x2
  have h3 : State.Sound m o n x3 := State.Sound.setQueue h2 (Field.sub_of hm rfl)
  clear_value x3
  exact State.Sound.ite (State.Sound.setJob (State.Sound.setQueue h1 (Field.sub_of hm rfl)) (Field.sub_of hm
      rfl)) (State.Sound.ite (State.Sound.endItem h3 (Field.sub_of hm rfl)) h3)

theorem State.Sound.contextSaved {s q j} (h : State.Sound m o n s) (hm : Field.sub [.dict, .tally, .arrs, .queues,
    .mem, .bin, .log] m = true) :
    State.Sound m o n (State.contextSaved s q j) := by
  unfold State.contextSaved
  extract_lets x1 x2
  have h1 : State.SoundG m o n x1 := State.Sound.saveContexts h (Field.sub_of hm rfl)
  clear_value x1
  have h2 : State.Sound m o n x2 := State.Sound.vacateArrays (State.SoundG.state h1) (Field.sub_of hm rfl)
  clear_value x2
  refine State.Sound.ite (State.SoundG.state h1) ?_
  split
  · rename_i y1 y2 y3
    exact State.Sound.park h2 (Field.sub_of hm rfl)
  · rename_i y4 y5
    exact State.Sound.setJob h2 (Field.sub_of hm rfl)

theorem State.Sound.of_doContextSaveDone {t q s} (h : State.Sound m o n s) (hm : Field.sub [.dict, .clock, .tally,
    .arrs, .queues, .mem, .bin, .log, .free] m = true) :
    State.Sound m o n (doContextSaveDone t q s) := by
  unfold doContextSaveDone
  extract_lets x1
  have h1 : State.Sound m o n x1 := State.Sound.advanceCharged h (Field.sub_of hm rfl)
  clear_value x1
  split
  · exact h1
  · exact State.Sound.ite h1 (State.Sound.ite (State.Sound.missDeadline h1 (Field.sub_of hm rfl))
        (State.Sound.dispatch (State.Sound.contextSaved h1 (Field.sub_of hm rfl)) (Field.sub_of hm rfl)))

theorem State.Sound.of_execContextSaveDone {t q s} (h : State.Sound m o n s) (hm : Field.sub [.dict, .clock, .tally,
    .arrs, .queues, .mem, .bin, .log, .free] m = true) :
    State.SoundX m o n (execContextSaveDone t q s) := by
  unfold execContextSaveDone
  exact State.SoundX.next (State.Sound.of_doContextSaveDone h (Field.sub_of hm rfl))

theorem State.Sound.contextRestored {s q j} (h : State.Sound m o n s) (hm : Field.sub [.dict, .tally, .arrs,
    .queues, .mem, .bin, .log] m = true) :
    State.Sound m o n (State.contextRestored s q j) := by
  unfold State.contextRestored
  extract_lets x1
  have h1 : State.SoundG m o n x1 := State.Sound.loadContexts h (Field.sub_of hm rfl)
  clear_value x1
  exact State.Sound.ite (State.SoundG.state h1) (State.Sound.setJob (State.SoundG.state h1) (Field.sub_of hm rfl))

theorem State.Sound.of_doContextRestoreDone {t q s} (h : State.Sound m o n s) (hm : Field.sub [.dict, .clock, .tally,
    .arrs, .queues, .mem, .bin, .log] m = true) :
    State.Sound m o n (doContextRestoreDone t q s) := by
  unfold doContextRestoreDone
  extract_lets x1
  have h1 : State.Sound m o n x1 := State.Sound.advanceCharged h (Field.sub_of hm rfl)
  clear_value x1
  split
  · exact h1
  · exact State.Sound.ite (State.Sound.dispatch (State.Sound.contextRestored h1 (Field.sub_of hm rfl))
        (Field.sub_of hm rfl)) h1

theorem State.Sound.of_execContextRestoreDone {t q s} (h : State.Sound m o n s) (hm : Field.sub [.dict, .clock,
    .tally, .arrs, .queues, .mem, .bin, .log] m = true) :
    State.SoundX m o n (execContextRestoreDone t q s) := by
  unfold execContextRestoreDone
  exact State.SoundX.next (State.Sound.of_doContextRestoreDone h (Field.sub_of hm rfl))

theorem State.Sound.of_doWaypointTimeout {q s} (h : State.Sound m o n s) (hm : Field.sub [.dict, .clock, .tally,
    .arrs, .queues, .mem, .bin, .log] m = true) :
    State.Sound m o n (doWaypointTimeout q s) := by
  unfold doWaypointTimeout
  split
  · rename_i y1 y2
    exact h
  · rename_i y3 y4 y5
    refine State.Sound.ite h ?_
    extract_lets x1 x2
    have h1 : State.Sound m o n x1 := State.Sound.advanceCharged h (Field.sub_of hm rfl)
    clear_value x1
    have h2 : State.Sound m o n x2 := State.Sound.bump h1 (Field.sub_of hm rfl)
    clear_value x2
    exact State.Sound.ite (State.Sound.missDeadline h2 (Field.sub_of hm rfl)) (State.Sound.dispatch
        (State.Sound.endItem h2 (Field.sub_of hm rfl)) (Field.sub_of hm rfl))

theorem State.Sound.of_execWaypointTimeout {q s} (h : State.Sound m o n s) (hm : Field.sub [.dict, .clock, .tally,
    .arrs, .queues, .mem, .bin, .log] m = true) :
    State.SoundX m o n (execWaypointTimeout q s) := by
  unfold execWaypointTimeout
  exact State.SoundX.next (State.Sound.of_doWaypointTimeout h (Field.sub_of hm rfl))

theorem State.Sound.of_doJobEnd {t q s} (h : State.Sound m o n s) (hm : Field.sub [.dict, .clock, .tally, .arrs,
    .queues, .mem, .bin, .log] m = true) :
    State.Sound m o n (doJobEnd t q s) := by
  unfold doJobEnd
  extract_lets x1
  have h1 : State.Sound m o n x1 := State.Sound.advanceCharged h (Field.sub_of hm rfl)
  clear_value x1
  split
  · rename_i y1 y2
    exact h1
  · rename_i y3 y4 y5
    refine State.Sound.ite h1 ?_
    refine State.Sound.ite (State.Sound.missDeadline h1 (Field.sub_of hm rfl)) ?_
    split
    rename_i y6 y7 y8 y9
    exact State.Sound.dispatch (State.Sound.endItem h1 (Field.sub_of hm rfl)) (Field.sub_of hm rfl)

theorem State.Sound.of_execJobEnd {t q s} (h : State.Sound m o n s) (hm : Field.sub [.dict, .clock, .tally, .arrs,
    .queues, .mem, .bin, .log] m = true) :
    State.SoundX m o n (execJobEnd t q s) := by
  unfold execJobEnd
  exact State.SoundX.next (State.Sound.of_doJobEnd h (Field.sub_of hm rfl))

theorem State.Sound.of_doCompletionRecord {t q s} (h : State.Sound m o n s) (hm : Field.sub [.dict, .clock, .tally,
    .queues, .mem, .host, .bin, .log, .sent] m = true) :
    State.Sound m o n (doCompletionRecord t q s) := by
  unfold doCompletionRecord
  exact State.Sound.writeRecord (State.Sound.advance h (Field.sub_of hm rfl)) (Field.sub_of hm rfl)

theorem State.Sound.of_execCompletionRecord {t q s} (h : State.Sound m o n s) (hm : Field.sub [.dict, .clock, .tally,
    .queues, .mem, .host, .bin, .log, .sent] m = true) :
    State.SoundX m o n (execCompletionRecord t q s) := by
  unfold execCompletionRecord
  exact State.SoundX.next (State.Sound.of_doCompletionRecord h (Field.sub_of hm rfl))

theorem State.Sound.endOverLimit {s q j} (h : State.Sound m o n s) (hm : Field.sub [.dict, .tally, .arrs, .queues,
    .bin] m = true) :
    State.Sound m o n (State.endOverLimit s q j) := by
  unfold State.endOverLimit
  exact State.Sound.endAtMeridian h (Field.sub_of hm rfl)

theorem State.Sound.of_doCarryLimit {q s} (h : State.Sound m o n s) (hm : Field.sub [.dict, .tally, .arrs, .queues,
    .bin, .log] m = true) :
    State.Sound m o n (doCarryLimit q s) := by
  unfold doCarryLimit
  split
  · exact h
  · exact State.Sound.dispatch (State.Sound.endOverLimit h (Field.sub_of hm rfl)) (Field.sub_of hm rfl)

theorem State.Sound.of_execCarryLimit {q s} (h : State.Sound m o n s) (hm : Field.sub [.dict, .tally, .arrs, .queues,
    .bin, .log] m = true) :
    State.SoundX m o n (execCarryLimit q s) := by
  unfold execCarryLimit
  exact State.SoundX.next (State.Sound.of_doCarryLimit h (Field.sub_of hm rfl))

theorem State.Sound.of_doFusionRecord {t set s} (h : State.Sound m o n s) (hm : Field.sub [.dict, .clock, .tally,
    .ingest, .arrs, .queues, .mem, .bin, .log, .free] m = true) :
    State.Sound m o n (doFusionRecord t set s) := by
  unfold doFusionRecord
  extract_lets x1
  have h1 : State.Sound m o n x1 := State.Sound.advanceCharged h (Field.sub_of hm rfl)
  clear_value x1
  exact State.Sound.ite (State.Sound.dispatch (State.Sound.writeFusion h1 (Field.sub_of hm rfl)) (Field.sub_of hm
      rfl)) h1

theorem State.Sound.of_execFusionRecord {t set s} (h : State.Sound m o n s) (hm : Field.sub [.dict, .clock, .tally,
    .ingest, .arrs, .queues, .mem, .bin, .log, .free] m = true) :
    State.SoundX m o n (execFusionRecord t set s) := by
  unfold execFusionRecord
  exact State.SoundX.next (State.Sound.of_doFusionRecord h (Field.sub_of hm rfl))

theorem State.Sound.markJob {s q} (h : State.Sound m o n s) (hm : Field.sub [.dict, .tally, .queues, .bin, .log] m =
    true) :
    State.Sound m o n (State.markJob s q) := by
  unfold State.markJob
  split
  · exact h
  · refine State.Sound.ite h ?_
    refine State.Sound.ite ?_ (State.Sound.requestStop h (Field.sub_of hm rfl))
    split
    · rename_i y1 y2 y3 y4 y5 y6 y7
      have h1 : State.Sound m o n y6 := State.SoundP.of y7 (State.Sound.jobFault h (Field.sub_of hm rfl))
      exact State.Sound.setJob h1 (Field.sub_of hm rfl)

theorem State.Sound.markWaiting {s q} (h : State.Sound m o n s) (hm : Field.sub [.dict, .tally, .arrs, .queues, .bin]
    m = true) :
    State.Sound m o n (State.markWaiting s q) := by
  unfold State.markWaiting
  split
  · exact h
  · exact State.Sound.ite (State.Sound.endItem h (Field.sub_of hm rfl)) h

theorem State.Sound.of_doHousekeepingMark {s} (h : State.Sound m o n s)
    (hm : Field.sub [.dict, .tick, .clock, .tally, .arrs, .queues, .mem, .bin, .log] m = true) :
    State.Sound m o n (doHousekeepingMark s) := by
  unfold doHousekeepingMark
  split
  · exact h
  · extract_lets x1 x2 x3 x4 x5
    have h1 : State.Sound m o n x1 := State.Sound.advanceCharged h (Field.sub_of hm rfl)
    clear_value x1
    have h2 : State.Sound m o n x3 := State.Sound.congr [.tick] h1 (Field.sub_of hm rfl) rfl rfl (Nat.le_refl _) rfl
        rfl
        rfl
    clear_value x3
    have h3 : State.Sound m o n x4 := State.Sound.foldl h2 (fun s1 y1 k1 => State.Sound.markJob k1 (Field.sub_of hm
        rfl))
    clear_value x4
    have h4 : State.Sound m o n x5 := State.Sound.ite (State.Sound.foldl h3 (fun s1 y1 k1 => State.Sound.markWaiting
        k1
        (Field.sub_of hm rfl))) h3
    clear_value x5
    exact State.Sound.congr [.arrs] h4 (Field.sub_of hm rfl) rfl rfl (Nat.le_refl _) rfl rfl (by simp [State.shape])

theorem State.Sound.of_execHousekeepingMark {s} (h : State.Sound m o n s) (hm : Field.sub [.dict, .tick, .clock,
    .tally, .arrs, .queues, .mem, .bin, .log] m = true) :
    State.SoundX m o n (execHousekeepingMark s) := by
  unfold execHousekeepingMark
  exact State.SoundX.next (State.Sound.of_doHousekeepingMark h (Field.sub_of hm rfl))

theorem State.Sound.of_doCheckTile {t a s} (h : State.Sound m o n s) (hm : Field.sub [.dict, .clock, .tally, .arrs,
    .queues, .mem, .bin, .log] m = true) :
    State.Sound m o n (doCheckTile t a s) := by
  unfold doCheckTile
  extract_lets x1 x2 x3
  have h1 : State.Sound m o n x1 := State.Sound.advanceCharged h (Field.sub_of hm rfl)
  clear_value x1
  have h2 : State.Sound m o n x3 := State.Sound.setArr h1 (Field.sub_of hm rfl)
  clear_value x3
  exact State.Sound.ite h1 (State.Sound.bump (State.Sound.bump h2 (Field.sub_of hm rfl)) (Field.sub_of hm rfl))

theorem State.Sound.of_execCheckTile {t a s} (h : State.Sound m o n s) (hm : Field.sub [.dict, .clock, .tally,
    .arrs, .queues, .mem, .bin, .log] m = true) :
    State.SoundX m o n (execCheckTile t a s) := by
  unfold execCheckTile
  exact State.SoundX.next (State.Sound.of_doCheckTile h (Field.sub_of hm rfl))

theorem State.Sound.holdArray {s a} (h : State.Sound m o n s) (hm : Field.sub [.arrs] m = true) :
    State.Sound m o n (State.holdArray s a) := by
  unfold State.holdArray
  exact State.Sound.setArr h (Field.sub_of hm rfl)

theorem State.Sound.of_doCheckTileResult {t a signatureOk mismatchSeen s} (h : State.Sound m o n s) (hm : Field.sub
    [.dict, .clock, .tally, .arrs, .queues, .mem, .bin, .log] m = true) :
    State.Sound m o n (doCheckTileResult t a signatureOk mismatchSeen s) := by
  unfold doCheckTileResult
  extract_lets x1 x2 x3 x4
  have h1 : State.Sound m o n x1 := State.Sound.advanceCharged h (Field.sub_of hm rfl)
  clear_value x1
  have h2 : State.Sound m o n x2 := State.Sound.bump h1 (Field.sub_of hm rfl)
  clear_value x2
  have h3 : State.Sound m o n x4 := State.Sound.raise h2 (Field.sub_of hm rfl)
  clear_value x4
  exact State.Sound.ite h1 (State.Sound.ite (State.Sound.dispatch (State.Sound.setArr h1 (Field.sub_of hm rfl))
      (Field.sub_of hm rfl)) (State.Sound.holdArray h3 (Field.sub_of hm rfl)))

theorem State.Sound.of_execCheckTileResult {t a signatureOk mismatchSeen s} (h : State.Sound m o n s) (hm :
    Field.sub [.dict, .clock, .tally, .arrs, .queues, .mem, .bin, .log] m = true) :
    State.SoundX m o n (execCheckTileResult t a signatureOk mismatchSeen s) := by
  unfold execCheckTileResult
  exact State.SoundX.next (State.Sound.of_doCheckTileResult h (Field.sub_of hm rfl))

theorem State.Sound.of_doLocalisation {t a s} (h : State.Sound m o n s) (hm : Field.sub [.dict, .clock, .tally,
    .arrs, .queues, .mem, .bin, .log] m = true) :
    State.Sound m o n (doLocalisation t a s) := by
  unfold doLocalisation
  extract_lets x1 x2
  have h1 : State.Sound m o n x1 := State.Sound.advanceCharged h (Field.sub_of hm rfl)
  clear_value x1
  exact State.Sound.ite h1 (State.Sound.bump (State.Sound.setArr h1 (Field.sub_of hm rfl)) (Field.sub_of hm rfl))

theorem State.Sound.of_execLocalisation {t a s} (h : State.Sound m o n s) (hm : Field.sub [.dict, .clock, .tally,
    .arrs, .queues, .mem, .bin, .log] m = true) :
    State.SoundX m o n (execLocalisation t a s) := by
  unfold execLocalisation
  exact State.SoundX.next (State.Sound.of_doLocalisation h (Field.sub_of hm rfl))

theorem State.Sound.of_doLocalisationVerdict {t a v s} (h : State.Sound m o n s) (hm : Field.sub [.dict, .clock,
    .tally, .arrs, .queues, .mem, .bin, .log] m = true) :
    State.Sound m o n (doLocalisationVerdict t a v s) := by
  unfold doLocalisationVerdict
  extract_lets x1 x2 x3
  have h1 : State.Sound m o n x1 := State.Sound.advanceCharged h (Field.sub_of hm rfl)
  clear_value x1
  have h2 : State.Sound m o n x3 := State.Sound.setArr h1 (Field.sub_of hm rfl)
  clear_value x3
  exact State.Sound.ite h1 (State.Sound.dispatch (State.Sound.giveVerdict (State.Sound.setNum h2 (Field.sub_of hm
      rfl)) (Field.sub_of hm rfl)) (Field.sub_of hm rfl))

theorem State.Sound.of_execLocalisationVerdict {t a v s} (h : State.Sound m o n s) (hm : Field.sub [.dict, .clock,
    .tally, .arrs, .queues, .mem, .bin, .log] m = true) :
    State.SoundX m o n (execLocalisationVerdict t a v s) := by
  unfold execLocalisationVerdict
  exact State.SoundX.next (State.Sound.of_doLocalisationVerdict h (Field.sub_of hm rfl))

theorem State.Sound.faultOnArray {s a cls mechanism cause detail detailed vector} (h : State.Sound m o n s) (hm :
    Field.sub [.dict, .tally, .arrs, .queues, .bin, .log] m = true) :
    State.Sound m o n (State.faultOnArray s a cls mechanism cause detail detailed vector) := by
  unfold State.faultOnArray
  split
  · rename_i y1 y2
    exact State.Sound.holdArray (State.Sound.raise h (Field.sub_of hm rfl)) (Field.sub_of hm rfl)
  · rename_i y3 y4 y5 y6
    split
    rename_i y7 y8 y9 y10
    have h1 : State.Sound m o n y9 := State.SoundP.of y10 (State.Sound.detect h (Field.sub_of hm rfl))
    exact State.Sound.holdArray (State.Sound.endItem h1 (Field.sub_of hm rfl)) (Field.sub_of hm rfl)

theorem State.Sound.of_doSequencerMismatch {t a s} (h : State.Sound m o n s) (hm : Field.sub [.dict, .clock, .tally,
    .arrs, .queues, .mem, .bin, .log] m = true) :
    State.Sound m o n (doSequencerMismatch t a s) := by
  unfold doSequencerMismatch
  extract_lets x1
  have h1 : State.Sound m o n x1 := State.Sound.advanceCharged h (Field.sub_of hm rfl)
  clear_value x1
  exact State.Sound.ite (State.Sound.dispatch (State.Sound.faultOnArray h1 (Field.sub_of hm rfl)) (Field.sub_of hm
      rfl)) h1

theorem State.Sound.of_execSequencerMismatch {t a s} (h : State.Sound m o n s) (hm : Field.sub [.dict, .clock,
    .tally, .arrs, .queues, .mem, .bin, .log] m = true) :
    State.SoundX m o n (execSequencerMismatch t a s) := by
  unfold execSequencerMismatch
  exact State.SoundX.next (State.Sound.of_doSequencerMismatch h (Field.sub_of hm rfl))

theorem State.Sound.of_doDispatcherMismatch {t s} (h : State.Sound m o n s) (hm : Field.sub [.dict, .clock, .tally,
    .arrs, .queues, .mem, .bin, .log] m = true) :
    State.Sound m o n (doDispatcherMismatch t s) := by
  unfold doDispatcherMismatch
  extract_lets x1
  have h1 : State.Sound m o n x1 := State.Sound.advanceCharged h (Field.sub_of hm rfl)
  clear_value x1
  refine State.Sound.ite h1 ?_
  split
  rename_i y1 y2 y3 y4
  have h2 : State.Sound m o n y3 := State.SoundP.of y4 (State.Sound.detect h1 (Field.sub_of hm rfl))
  exact State.Sound.congr [.bin] h2 (Field.sub_of hm rfl) rfl rfl (Nat.le_refl _) rfl rfl rfl

theorem State.Sound.of_execDispatcherMismatch {t s} (h : State.Sound m o n s) (hm : Field.sub [.dict, .clock,
    .tally, .arrs, .queues, .mem, .bin, .log] m = true) :
    State.SoundX m o n (execDispatcherMismatch t s) := by
  unfold execDispatcherMismatch
  exact State.SoundX.next (State.Sound.of_doDispatcherMismatch h (Field.sub_of hm rfl))

end Sys2Proof.Machine
end

