-- ==== Sys2Proof/Laws/KeepMemory.lean ====
section
/-! SUPPORT. Laws/KeepMemory: what the memory system, the arrays, the graph walker and the fabric keep (`State.Sound`: the parts
touched, device time, the invariant). -/

namespace Sys2Proof.Machine

variable {m : List Field} {o : State} {n : Nat}

/-! ## Memory -/

theorem State.Sound.upsetAt {s b correctable} (h : State.Sound m o n s) (hm : Field.sub [.mem] m = true) :
    State.Sound m o n (State.upsetAt s b correctable) := by
  unfold State.upsetAt
  extract_lets x1 x2
  exact State.Sound.ite h (State.Sound.ite (State.Sound.congr [.mem] h (Field.sub_of hm rfl) rfl rfl (Nat.le_refl _)
      rfl rfl rfl) (State.Sound.congr [.mem] h (Field.sub_of hm rfl) rfl rfl (Nat.le_refl _) rfl rfl rfl))

theorem State.Sound.scrubAt {s a found} (h : State.Sound m o n s) (hm : Field.sub [.dict, .tally, .queues, .mem,
    .bin, .log] m = true) :
    State.Sound m o n (State.scrubAt s a found) := by
  unfold State.scrubAt
  refine State.Sound.ite h ?_
  extract_lets x1 x2
  clear_value x2
  split
  · rename_i y1
    exact h
  · rename_i y2
    exact State.Sound.correct h (Field.sub_of hm rfl)
  · rename_i y3
    exact State.Sound.ite (State.Sound.bump h (Field.sub_of hm rfl)) (State.Sound.bump h (Field.sub_of hm rfl))
  · rename_i y4
    exact State.SoundP.snd (State.Sound.uncorrectable (State.Sound.upsetAt h (Field.sub_of hm rfl)) (Field.sub_of hm
        rfl))
  · rename_i y5 y6
    exact State.Sound.upsetAt h (Field.sub_of hm rfl)

theorem State.Sound.operandUpset {s a word correctable} (h : State.Sound m o n s) (hm : Field.sub [.mem] m = true) :
    State.Sound m o n (State.operandUpset s a word correctable) := by
  unfold State.operandUpset
  extract_lets x1 x2
  exact State.Sound.ite h (State.Sound.ite (State.Sound.congr [.mem] h (Field.sub_of hm rfl) rfl rfl (Nat.le_refl _)
      rfl rfl rfl) (State.Sound.congr [.mem] h (Field.sub_of hm rfl) rfl rfl (Nat.le_refl _) rfl rfl rfl))

theorem State.Sound.logbookEcc {s persist index found} (h : State.Sound m o n s) (hm : Field.sub [.log] m = true) :
    State.Sound m o n (State.logbookEcc s persist index found) := by
  unfold State.logbookEcc
  split
  · rename_i y1
    exact h
  · rename_i y2
    exact h
  · rename_i y3
    exact h
  · rename_i y4
    exact h
  · rename_i y5
    exact State.Sound.congr [.log] h (Field.sub_of hm rfl) rfl rfl (Nat.le_refl _) rfl rfl rfl
  · rename_i y6
    exact State.Sound.congr [.log] h (Field.sub_of hm rfl) rfl rfl (Nat.le_refl _) rfl rfl rfl

theorem State.Sound.operandEcc {s a word found} (h : State.Sound m o n s) (hm : Field.sub [.dict, .tally, .arrs,
    .queues, .mem, .bin, .log] m = true) :
    State.Sound m o n (State.operandEcc s a word found) := by
  unfold State.operandEcc
  refine State.Sound.ite h ?_
  extract_lets x1
  clear_value x1
  split
  · rename_i y1
    exact h
  · rename_i y2
    exact h
  · rename_i y3
    exact State.SoundG.state (State.Sound.readStoreMet (State.Sound.operandUpset h (Field.sub_of hm rfl))
        (Field.sub_of hm rfl))
  · rename_i y4
    exact State.Sound.operandUe h (Field.sub_of hm rfl)
  · rename_i y5 y6
    exact State.Sound.operandUpset h (Field.sub_of hm rfl)

theorem State.Sound.of_doScrubRead {t place found s} (h : State.Sound m o n s) (hm : Field.sub [.dict, .clock,
    .tally, .arrs, .queues, .mem, .bin, .log] m = true) :
    State.Sound m o n (doScrubRead t place found s) := by
  unfold doScrubRead
  extract_lets x1
  have h1 : State.Sound m o n x1 := State.Sound.advanceCharged h (Field.sub_of hm rfl)
  clear_value x1
  split
  · rename_i y1 y2 y3
    exact State.Sound.logbookEcc h1 (Field.sub_of hm rfl)
  · rename_i y4 y5
    refine State.Sound.ite h1 ?_
    split
    · rename_i y6 y7 y8 y9
      exact h1
    · rename_i y10 y11 y12
      exact State.Sound.ite (State.Sound.scrubAt h1 (Field.sub_of hm rfl)) h1
    · rename_i y13 y14 y15
      exact State.Sound.ite (State.Sound.scrubAt h1 (Field.sub_of hm rfl)) h1
    · rename_i y16 y17 y18 y19
      exact State.Sound.dispatch (State.Sound.operandEcc h1 (Field.sub_of hm rfl)) (Field.sub_of hm rfl)
  · rename_i y20 y21
    refine State.Sound.ite h1 ?_
    split
    · rename_i y22 y23 y24 y25
      exact h1
    · rename_i y26 y27 y28
      exact State.Sound.ite (State.Sound.scrubAt h1 (Field.sub_of hm rfl)) h1
    · rename_i y29 y30 y31
      exact State.Sound.ite (State.Sound.scrubAt h1 (Field.sub_of hm rfl)) h1
    · rename_i y32 y33 y34 y35
      exact State.Sound.dispatch (State.Sound.operandEcc h1 (Field.sub_of hm rfl)) (Field.sub_of hm rfl)
  · rename_i y36 y37 y38
    refine State.Sound.ite h1 ?_
    split
    · rename_i y39 y40 y41 y42
      exact h1
    · rename_i y43 y44 y45
      exact State.Sound.ite (State.Sound.scrubAt h1 (Field.sub_of hm rfl)) h1
    · rename_i y46 y47 y48
      exact State.Sound.ite (State.Sound.scrubAt h1 (Field.sub_of hm rfl)) h1
    · rename_i y49 y50 y51 y52
      exact State.Sound.dispatch (State.Sound.operandEcc h1 (Field.sub_of hm rfl)) (Field.sub_of hm rfl)

theorem State.Sound.of_execScrubRead {t place found s} (h : State.Sound m o n s) (hm : Field.sub [.dict, .clock,
    .tally, .arrs, .queues, .mem, .bin, .log] m = true) :
    State.SoundX m o n (execScrubRead t place found s) := by
  unfold execScrubRead
  exact State.SoundX.next (State.Sound.of_doScrubRead h (Field.sub_of hm rfl))

theorem State.Sound.readPte {s p a} (h : State.Sound m o n s) (hm : Field.sub [.dict, .mem] m = true) :
    State.SoundP m o n (State.readPte s p a) := by
  unfold State.readPte
  extract_lets x1
  have h1 : State.Sound m o n x1 := State.Sound.chargeAccess h (Field.sub_of hm rfl)
  clear_value x1
  refine State.SoundP.ite (State.SoundP.mk (State.Sound.ite h1 (State.Sound.bump h1 (Field.sub_of hm rfl)))) ?_
  split
  rename_i y1 y2 y3 y4
  extract_lets x2
  have h2 : State.Sound m o n x2 := State.Sound.correct h1 (Field.sub_of hm rfl)
  clear_value x2
  exact State.SoundP.ite (State.SoundP.mk (State.Sound.bump h2 (Field.sub_of hm rfl))) (State.SoundP.mk
      (State.Sound.foldl h2 (fun s1 x3 h3 => (State.Sound.countUe h3 (Field.sub_of hm rfl)))))

theorem State.Sound.walkFrom {i v k b small s} (h : State.Sound m o n s)
    (hm : Field.sub [.dict, .mem] m = true) : State.SoundP m o n (State.walkFrom i v k b small s) := by
  induction k generalizing b small s with
  | zero => exact State.SoundP.mk h
  | succ k ih =>
    unfold State.walkFrom
    extract_lets x1
    split
    · rename_i y1 y2
      exact State.SoundP.mk (State.SoundP.of y2 (State.Sound.readPte h (Field.sub_of hm rfl)))
    · rename_i y1 y2 y3
      have h1 := State.SoundP.of y3 (State.Sound.readPte h (Field.sub_of hm rfl))
      split
      · exact State.SoundP.mk h1
      · exact ih h1

theorem State.Sound.cache {s e} (h : State.Sound m o n s) (hm : Field.sub [.mem] m = true) :
    State.Sound m o n (State.cache s e) := by
  unfold State.cache
  extract_lets x1 x2 x3 x4
  exact State.Sound.congr [.mem] h (Field.sub_of hm rfl) rfl rfl (Nat.le_refl _) rfl rfl rfl

theorem State.Sound.translate {s p write v} (h : State.Sound m o n s) (hm : Field.sub [.dict, .mem] m = true) :
    State.SoundP m o n (State.translate s p write v) := by
  unfold State.translate
  split
  · exact State.SoundP.mk h
  · split
    · rename_i y1 y2 y3 y4 y5 y6
      have h1 : State.Sound m o n y5 := State.SoundP.of y6 (State.Sound.walkFrom (State.Sound.bump h (Field.sub_of
          hm rfl)) (Field.sub_of hm rfl))
      split
      · exact State.SoundP.mk h1
      · exact State.SoundP.mk (State.Sound.cache h1 (Field.sub_of hm rfl))

theorem State.Sound.discardScope {s value} (h : State.Sound m o n s) (hm : Field.sub [.mem] m = true) :
    State.Sound m o n (State.discardScope s value) := by
  unfold State.discardScope
  exact State.Sound.congr [.mem] h (Field.sub_of hm rfl) rfl rfl (Nat.le_refl _) rfl rfl rfl

theorem State.Sound.invalidate {s value response} (h : State.Sound m o n s) (hm : Field.sub [.mem] m = true) :
    State.Sound m o n (State.invalidate s value response) := by
  unfold State.invalidate
  extract_lets x1 x2
  have h1 : State.Sound m o n x1 := State.Sound.discardScope h (Field.sub_of hm rfl)
  clear_value x1
  exact State.Sound.congr [.mem] h1 (Field.sub_of hm rfl) rfl rfl (Nat.le_refl _) rfl rfl rfl

theorem State.Sound.of_doTlbInvalidateDone {t s} (h : State.Sound m o n s) (hm : Field.sub [.clock, .ports, .mem,
    .host, .sent] m = true) :
    State.Sound m o n (doTlbInvalidateDone t s) := by
  unfold doTlbInvalidateDone
  extract_lets x1
  have h1 : State.Sound m o n x1 := State.Sound.advance h (Field.sub_of hm rfl)
  clear_value x1
  split
  · rename_i y1 y2
    exact h1
  · rename_i y3 y4 y5 y6
    refine State.Sound.ite h1 ?_
    extract_lets x2 x3 x4 x5
    have h2 : State.Sound m o n x2 := State.Sound.discardScope h1 (Field.sub_of hm rfl)
    clear_value x2
    have h3 : State.Sound m o n x4 := State.Sound.congr [.mem] h2 (Field.sub_of hm rfl) rfl rfl (Nat.le_refl _) rfl
        rfl rfl
    clear_value x4
    split
    · rename_i y7 y8
      exact State.Sound.congr [.mem] h3 (Field.sub_of hm rfl) rfl rfl (Nat.le_refl _) rfl rfl rfl
    · rename_i y9 y10 y11
      exact State.Sound.releaseResponse h3 (Field.sub_of hm rfl)
    · rename_i y12 y13
      exact h3

theorem State.Sound.of_execTlbInvalidateDone {t s} (h : State.Sound m o n s) (hm : Field.sub [.clock, .ports, .mem,
    .host, .sent] m = true) :
    State.SoundX m o n (execTlbInvalidateDone t s) := by
  unfold execTlbInvalidateDone
  exact State.SoundX.next (State.Sound.of_doTlbInvalidateDone h (Field.sub_of hm rfl))

theorem State.Sound.recordTf {s q f disposition context} (h : State.Sound m o n s) (hm : Field.sub [.dict, .mem,
    .host, .sent] m = true) :
    State.Sound m o n (State.recordTf s q f disposition context) := by
  unfold State.recordTf
  extract_lets x1 x2 x3 x4 x5 x6
  have h1 : State.Sound m o n x4 := State.Sound.bump h (Field.sub_of hm rfl)
  clear_value x4
  have h2 : State.Sound m o n x6 := State.Sound.congr [.mem] h1 (Field.sub_of hm rfl) rfl rfl (Nat.le_refl _) rfl rfl
      rfl
  clear_value x6
  exact State.Sound.ite (State.Sound.sendVector (State.Sound.hostWrite h2 (Field.sub_of hm rfl)) (Field.sub_of hm
      rfl)) h2

theorem State.Sound.applyTf {s q seq f context} (h : State.Sound m o n s) (hm : Field.sub [.dict, .tally, .arrs,
    .queues, .mem, .host, .bin, .log, .sent] m = true) :
    State.Sound m o n (State.applyTf s q seq f context) := by
  unfold State.applyTf
  extract_lets x1 x2 x3 x4
  have h1 : State.Sound m o n x2 := State.Sound.setNum h (Field.sub_of hm rfl)
  clear_value x2
  have h2 : State.Sound m o n x4 := State.Sound.setQueue (State.Sound.recordTf h1 (Field.sub_of hm rfl))
      (Field.sub_of hm rfl)
  clear_value x4
  split
  · exact State.Sound.recordTf h1 (Field.sub_of hm rfl)
  · split
    · rename_i y1 y2 y3 y4 y5 y6 y7
      have h3 : State.Sound m o n y6 := State.SoundP.of y7 (State.Sound.detect h1 (Field.sub_of hm rfl))
      clear_value x1
      split
      · exact State.Sound.endItem (State.Sound.recordTf h3 (Field.sub_of hm rfl)) (Field.sub_of hm rfl)
      · exact State.Sound.ite (State.Sound.requestStop h2 (Field.sub_of hm rfl)) (State.Sound.park h2
            (Field.sub_of hm rfl))
      · exact State.Sound.endItem (State.Sound.recordTf h1 (Field.sub_of hm rfl)) (Field.sub_of hm rfl)

theorem State.Sound.setEngine {s e f} (h : State.Sound m o n s) (hm : Field.sub [.host] m = true) :
    State.Sound m o n (State.setEngine s e f) := by
  unfold State.setEngine
  exact State.Sound.congr [.host] h (Field.sub_of hm rfl) rfl rfl (Nat.le_refl _) rfl rfl (by simp [State.shape])

theorem State.Sound.translationFault {s q j f} (h : State.Sound m o n s) (hm : Field.sub [.dict, .tally, .arrs,
    .queues, .mem, .host, .bin, .log, .sent] m = true) :
    State.Sound m o n (State.translationFault s q j f) := by
  unfold State.translationFault
  exact State.Sound.ite (State.Sound.setEngine h (Field.sub_of hm rfl)) (State.Sound.applyTf h (Field.sub_of hm
      rfl))

theorem State.Sound.releaseHeld {s} (h : State.Sound m o n s) (hm : Field.sub [.dict, .tally, .arrs, .queues, .mem,
    .host, .bin, .log, .sent] m = true) :
    State.Sound m o n (State.releaseHeld s) := by
  unfold State.releaseHeld
  refine State.Sound.foldl h (fun s1 x1 h1 => ?_)
  split
  · exact State.Sound.ite h1 (State.Sound.applyTf (State.Sound.setEngine h1 (Field.sub_of hm rfl)) (Field.sub_of
        hm rfl))
  · exact h1

theorem State.Sound.tfRetry {s q f} (h : State.Sound m o n s) (hm : Field.sub [.queues, .mem] m = true) :
    State.Sound m o n (State.tfRetry s q f) := by
  unfold State.tfRetry
  extract_lets x1 x2
  have h1 : State.Sound m o n x2 := State.Sound.discardScope h (Field.sub_of hm rfl)
  clear_value x2
  split
  · exact State.Sound.setQueue h1 (Field.sub_of hm rfl)
  · extract_lets x3
    have h2 : State.Sound m o n x3 := State.Sound.setJob h1 (Field.sub_of hm rfl)
    clear_value x3
    exact State.Sound.setQueue h2 (Field.sub_of hm rfl)

theorem State.Sound.tfAbort {s q f} (h : State.Sound m o n s) (hm : Field.sub [.dict, .tally, .arrs, .queues, .bin] m
    = true) :
    State.Sound m o n (State.tfAbort s q f) := by
  unfold State.tfAbort
  split
  · exact State.Sound.setQueue h (Field.sub_of hm rfl)
  · exact State.Sound.endItem h (Field.sub_of hm rfl)

theorem State.Sound.tfResolve {s i retry} (h : State.Sound m o n s)
    (hm : Field.sub [.dict, .tally, .arrs, .queues, .mem, .bin, .log] m = true) : State.SoundO m o n (State.tfResolve
        s i retry) := by
  unfold State.tfResolve
  cases (s.queueAt i).fault with
  | none => exact State.SoundO.none
  | some f =>
    exact State.SoundO.some (State.Sound.dispatch
      (State.Sound.ite (State.Sound.tfRetry h (Field.sub_of hm rfl)) (State.Sound.tfAbort h (Field.sub_of hm rfl)))
          (Field.sub_of hm rfl))

theorem State.Sound.of_doTfParkTimeout {q s} (h : State.Sound m o n s) (hm : Field.sub [.dict, .tally, .arrs,
    .queues, .bin, .log] m = true) :
    State.Sound m o n (doTfParkTimeout q s) := by
  unfold doTfParkTimeout
  split
  · exact State.Sound.ite (State.Sound.dispatch (State.Sound.endAtMeridian h (Field.sub_of hm rfl)) (Field.sub_of
        hm rfl)) h
  · exact h

theorem State.Sound.of_execTfParkTimeout {q s} (h : State.Sound m o n s) (hm : Field.sub [.dict, .tally, .arrs,
    .queues, .bin, .log] m = true) :
    State.SoundX m o n (execTfParkTimeout q s) := by
  unfold execTfParkTimeout
  exact State.SoundX.next (State.Sound.of_doTfParkTimeout h (Field.sub_of hm rfl))

/-! ## Arrays -/

theorem State.Sound.moveIn {s a q j k4} (h : State.Sound m o n s) (hm : Field.sub [.dict, .tally, .arrs, .queues,
    .mem, .bin, .log] m = true) :
    State.SoundG m o n (State.moveIn s a q j k4) := by
  unfold State.moveIn
  extract_lets x1 x2
  have h1 : State.SoundPG m o n x1 := State.Sound.gwRead h (Field.sub_of hm rfl)
  clear_value x1
  have h2 : State.SoundG m o n x2 := State.SoundPG.snd h1
  clear_value x2
  exact State.SoundG.ite (State.SoundG.mk (State.Sound.writeStore (State.SoundG.state (State.SoundPG.snd h1))
      (Field.sub_of hm rfl))) (State.SoundPG.snd h1)

theorem State.Sound.moveOut {s a q j k4} (h : State.Sound m o n s) (hm : Field.sub [.dict, .tally, .arrs, .queues,
    .mem, .bin, .log] m = true) :
    State.SoundG m o n (State.moveOut s a q j k4) := by
  unfold State.moveOut
  extract_lets x1
  have h1 : State.SoundG m o n x1 := State.Sound.readStoreMet h (Field.sub_of hm rfl)
  clear_value x1
  exact State.SoundG.ite h1 (State.Sound.gwWrite (State.SoundG.state h1) (Field.sub_of hm rfl))

theorem State.Sound.moves {step s ms} (h : State.Sound m o n s)
    (hs : ∀ s x, State.Sound m o n s → State.SoundG m o n (step s x)) : State.SoundG m o n (State.moves step s ms)
        := by
  unfold State.moves
  exact State.SoundG.foldl (State.SoundG.mk h) (fun g x k => State.SoundG.ite (hs g.state x (State.SoundG.state k))
      k)

theorem State.Sound.countGated {s a int4 k} (h : State.Sound m o n s) (hm : Field.sub [.dict, .arrs] m = true) :
    State.Sound m o n (State.countGated s a int4 k) := by
  unfold State.countGated
  refine State.Sound.ite h ?_
  extract_lets x1 x2
  have h1 : State.Sound m o n x2 := State.Sound.ite h (State.Sound.setArr (State.Sound.bumpBy h (Field.sub_of hm
      rfl)) (Field.sub_of hm rfl))
  clear_value x2
  exact State.Sound.ite (State.Sound.bumpBy h1 (Field.sub_of hm rfl)) (State.Sound.bumpBy h (Field.sub_of hm rfl))

theorem State.Sound.loadShadow {s a p} (h : State.Sound m o n s) (hm : Field.sub [.arrs] m = true) :
    State.Sound m o n (State.loadShadow s a p) := by
  unfold State.loadShadow
  exact State.Sound.setArr h (Field.sub_of hm rfl)

theorem State.Sound.copyShadow {s a} (h : State.Sound m o n s) (hm : Field.sub [.arrs] m = true) :
    State.Sound m o n (State.copyShadow s a) := by
  unfold State.copyShadow
  exact State.Sound.setArr h (Field.sub_of hm rfl)

theorem State.Sound.countSwap {s a j p op} (h : State.Sound m o n s) (hm : Field.sub [.dict] m = true) :
    State.Sound m o n (State.countSwap s a j p op) := by
  unfold State.countSwap
  extract_lets x1 x2 x3 x4
  have h1 : State.Sound m o n x4 := State.Sound.bump h (Field.sub_of hm rfl)
  clear_value x4
  exact State.Sound.ite (State.Sound.bump h (Field.sub_of hm rfl)) (State.Sound.ite h1 (State.Sound.bumpBy h1
      (Field.sub_of hm rfl)))

theorem State.Sound.countRescaled {s a rs} (h : State.Sound m o n s) (hm : Field.sub [.dict] m = true) :
    State.Sound m o n (State.countRescaled s a rs) := by
  unfold State.countRescaled
  extract_lets x1
  have h1 : ∀ x1a1 x1a2 x1a3, State.Sound m o n x1a1 → State.Sound m o n (x1 x1a1 x1a2 x1a3) := by
    intro x1a1 x1a2 x1a3 x1h1
    unfold x1
    exact State.Sound.ite x1h1 (State.Sound.bumpBy x1h1 (Field.sub_of hm rfl))
  clear_value x1
  exact h1 _ _ _ (h1 _ _ _ (h1 _ _ _ h))

theorem State.Sound.southEdge {s a profile p vs} (h : State.Sound m o n s) (hm : Field.sub [.dict, .arrs, .mem] m =
    true) :
    State.Sound m o n (State.southEdge s a profile p vs) := by
  unfold State.southEdge
  extract_lets x1
  have h2 : State.Sound m o n x1 := State.Sound.foldl h (fun s1 x2 h1 => (State.Sound.writeStore h1 (Field.sub_of hm
      rfl)))
  clear_value x1
  exact State.Sound.ite (State.Sound.countRescaled h2 (Field.sub_of hm rfl)) h2

theorem State.Sound.multiply {s a j p op} (h : State.Sound m o n s) (hm : Field.sub [.dict, .arrs, .mem] m = true) :
    State.SoundP m o n (State.multiply s a j p op) := by
  unfold State.multiply
  extract_lets x1 x2 x3 x4 x5 x6 x7 x8 x9 x10 x11 x12 x13 x14 x15 x16 x17 x18 x19 x20 x21 x22
  have h1 : State.Sound m o n x4 := State.Sound.copyShadow (State.Sound.loadShadow (State.Sound.countSwap h
      (Field.sub_of hm rfl)) (Field.sub_of hm rfl)) (Field.sub_of hm rfl)
  clear_value x4
  have h2 : State.Sound m o n x12 := State.Sound.bumpBy (State.Sound.bump h1 (Field.sub_of hm rfl)) (Field.sub_of hm
      rfl)
  clear_value x12
  have h3 : State.Sound m o n x13 := State.Sound.bumpBy h2 (Field.sub_of hm rfl)
  clear_value x13
  have h4 : State.Sound m o n x15 := State.Sound.countGated h3 (Field.sub_of hm rfl)
  clear_value x15
  have h5 : State.Sound m o n x17 := State.Sound.ite h4 (State.Sound.bumpBy h4 (Field.sub_of hm rfl))
  clear_value x17
  have h6 : State.Sound m o n x20 := State.Sound.ite h5 (State.Sound.bumpBy h5 (Field.sub_of hm rfl))
  clear_value x20
  have h7 : State.Sound m o n x21 := State.Sound.ite h6 (State.Sound.bumpBy h6 (Field.sub_of hm rfl))
  clear_value x21
  have h8 : State.Sound m o n x22 := State.Sound.southEdge h7 (Field.sub_of hm rfl)
  clear_value x22
  exact State.SoundP.mk (State.Sound.setArr h8 (Field.sub_of hm rfl))

theorem State.Sound.combine {s a j p op} (h : State.Sound m o n s) (hm : Field.sub [.dict, .arrs, .mem] m = true) :
    State.Sound m o n (State.combine s a j p op) := by
  unfold State.combine
  extract_lets x1 x2 x3 x4 x5
  exact State.Sound.southEdge h (Field.sub_of hm rfl)

theorem State.Sound.arrayWork {s a q j p op} (h : State.Sound m o n s) (hm : Field.sub [.dict, .tally, .arrs,
    .queues, .mem, .bin, .log] m = true) :
    State.SoundG m o n (State.arrayWork s a q j p op) := by
  unfold State.arrayWork
  refine State.SoundG.ite (State.SoundG.mk (State.Sound.combine h (Field.sub_of hm rfl))) ?_
  extract_lets x1
  have h1 : State.SoundG m o n x1 := State.Sound.readStoreMet h (Field.sub_of hm rfl)
  clear_value x1
  refine State.SoundG.ite h1 ?_
  split
  · rename_i y1 y2 y3
    have h2 : State.Sound m o n y2 := State.SoundP.of y3 (State.Sound.multiply (State.SoundG.state h1) (Field.sub_of
        hm rfl))
    exact State.SoundG.mk h2
  · rename_i y4 y5 y6 y7
    have h3 : State.Sound m o n y6 := State.SoundP.of y7 (State.Sound.multiply (State.SoundG.state h1) (Field.sub_of
        hm rfl))
    exact State.SoundG.mk (State.Sound.faultOnArray h3 (Field.sub_of hm rfl))

theorem State.Sound.runPass {s a q j p op} (h : State.Sound m o n s) (hm : Field.sub [.dict, .tally, .arrs, .queues,
    .mem, .bin, .log] m = true) :
    State.Sound m o n (State.runPass s a q j p op) := by
  unfold State.runPass
  extract_lets x1 x2 x3
  have h2 : State.SoundG m o n x1 := State.Sound.moves h (fun s1 s2 h1 => (State.Sound.moveIn h1 (Field.sub_of hm
      rfl)))
  clear_value x1
  have h3 : State.SoundG m o n x2 := State.SoundG.ite (State.Sound.arrayWork (State.SoundG.state h2) (Field.sub_of
      hm rfl)) h2
  clear_value x2
  have h5 : State.SoundG m o n x3 := State.SoundG.ite (State.Sound.moves (State.SoundG.state h3) (fun s3 s4 h4 =>
      (State.Sound.moveOut h4 (Field.sub_of hm rfl)))) h3
  clear_value x3
  exact State.Sound.dispatch (State.Sound.setJob (State.SoundG.state h5) (Field.sub_of hm rfl)) (Field.sub_of hm rfl)

theorem State.Sound.of_doPass {a op s} (h : State.Sound m o n s) (hm : Field.sub [.dict, .clock, .tally, .arrs,
    .queues, .mem, .bin, .log] m = true) :
    State.Sound m o n (doPass a op s) := by
  unfold doPass
  extract_lets x1
  have h1 : State.Sound m o n x1 := State.Sound.advanceCharged h (Field.sub_of hm rfl)
  clear_value x1
  split
  · rename_i y1 y2
    exact h1
  · rename_i y3 y4 y5 y6 y7
    exact State.Sound.runPass h1 (Field.sub_of hm rfl)

theorem State.Sound.of_execPass {a op s} (h : State.Sound m o n s) (hm : Field.sub [.dict, .clock, .tally, .arrs,
    .queues, .mem, .bin, .log] m = true) :
    State.SoundX m o n (execPass a op s) := by
  unfold execPass
  exact State.SoundX.next (State.Sound.of_doPass h (Field.sub_of hm rfl))

theorem State.Sound.putVector {s a c p ys} (h : State.Sound m o n s) (hm : Field.sub [.arrs, .mem] m = true) :
    State.Sound m o n (State.putVector s a c p ys) := by
  unfold State.putVector
  split
  · rename_i y1 y2
    exact State.Sound.writeStore h (Field.sub_of hm rfl)
  · rename_i y3 y4
    exact State.Sound.setArr h (Field.sub_of hm rfl)

theorem State.Sound.optimise {s a profile rev code op params} (h : State.Sound m o n s) (hm : Field.sub [.arrs,
    .mem] m = true) :
    State.Sound m o n (State.optimise s a profile rev code op params) := by
  unfold State.optimise
  extract_lets x1 x2 x3 x4 x5 x6 x7
  have h1 : State.Sound m o n x7 := State.Sound.putVector h (Field.sub_of hm rfl)
  clear_value x7
  exact State.Sound.foldl h1 (fun s1 x8 h2 => (State.Sound.putVector h2 (Field.sub_of hm rfl)))

theorem State.Sound.runVector {s a j op} (h : State.Sound m o n s) (hm : Field.sub [.arrs, .mem] m = true) :
    State.Sound m o n (State.runVector s a j op) := by
  unfold State.runVector
  extract_lets x1 x2 x3 x4 x5 x6 x7 x8 x9
  split
  · rename_i y1 y2
    exact State.Sound.putVector h (Field.sub_of hm rfl)
  · rename_i y3 y4
    exact State.Sound.putVector h (Field.sub_of hm rfl)
  · rename_i y5 y6
    exact State.Sound.putVector h (Field.sub_of hm rfl)
  · rename_i y7 y8
    exact State.Sound.optimise h (Field.sub_of hm rfl)
  · rename_i y9 y10
    exact State.Sound.optimise h (Field.sub_of hm rfl)
  · rename_i y11 y12
    exact State.Sound.putVector h (Field.sub_of hm rfl)
  · rename_i y13 y14
    exact State.Sound.putVector h (Field.sub_of hm rfl)
  · rename_i y15 y16
    exact State.Sound.putVector h (Field.sub_of hm rfl)
  · rename_i y17 y18
    exact State.Sound.putVector h (Field.sub_of hm rfl)
  · rename_i y19 y20
    exact State.Sound.putVector h (Field.sub_of hm rfl)
  · rename_i y21 y22
    exact State.Sound.putVector h (Field.sub_of hm rfl)
  · rename_i y23 y24
    exact State.Sound.putVector h (Field.sub_of hm rfl)
  · rename_i y25 y26
    exact State.Sound.putVector h (Field.sub_of hm rfl)
  · rename_i y27 y28
    exact State.Sound.putVector h (Field.sub_of hm rfl)
  · rename_i y29 y30
    exact State.Sound.putVector h (Field.sub_of hm rfl)
  · rename_i y31 y32
    exact State.Sound.putVector h (Field.sub_of hm rfl)
  · rename_i y33 y34
    exact State.Sound.putVector h (Field.sub_of hm rfl)
  · rename_i y35 y36
    exact State.Sound.putVector h (Field.sub_of hm rfl)
  · rename_i y37 y38
    exact State.Sound.putVector h (Field.sub_of hm rfl)
  · rename_i y39 y40
    exact State.Sound.putVector h (Field.sub_of hm rfl)

theorem State.Sound.of_doVectorOp {a op s} (h : State.Sound m o n s) (hm : Field.sub [.dict, .clock, .tally, .arrs,
    .queues, .mem, .bin, .log] m = true) :
    State.Sound m o n (doVectorOp a op s) := by
  unfold doVectorOp
  extract_lets x1 x2
  have h1 : State.Sound m o n x1 := State.Sound.advanceCharged h (Field.sub_of hm rfl)
  clear_value x1
  have h2 : State.SoundG m o n x2 := State.Sound.readStoreMet h1 (Field.sub_of hm rfl)
  clear_value x2
  split
  · rename_i y1 y2
    exact h1
  · rename_i y3 y4 y5 y6
    exact State.Sound.ite h1 (State.Sound.ite (State.Sound.runVector (State.SoundG.state h2) (Field.sub_of hm rfl))
        (State.Sound.dispatch (State.SoundG.state h2) (Field.sub_of hm rfl)))

theorem State.Sound.of_execVectorOp {a op s} (h : State.Sound m o n s) (hm : Field.sub [.dict, .clock, .tally,
    .arrs, .queues, .mem, .bin, .log] m = true) :
    State.SoundX m o n (execVectorOp a op s) := by
  unfold execVectorOp
  exact State.SoundX.next (State.Sound.of_doVectorOp h (Field.sub_of hm rfl))

theorem State.Sound.gatherRow {s q j op i idx} (h : State.Sound m o n s) (hm : Field.sub [.dict, .tally, .arrs,
    .queues, .mem, .bin, .log] m = true) :
    State.SoundG m o n (State.gatherRow s q j op i idx) := by
  unfold State.gatherRow
  extract_lets x1 x2 x3
  have h1 : State.SoundPG m o n x2 := State.SoundPG.ite (State.Sound.gwRead h (Field.sub_of hm rfl))
      (State.SoundPG.mk (State.SoundG.mk (State.Sound.bump h (Field.sub_of hm rfl))))
  clear_value x2
  have h2 : State.SoundG m o n x3 := State.Sound.gwWrite (State.SoundG.state (State.SoundPG.snd h1)) (Field.sub_of
      hm rfl)
  clear_value x3
  exact State.SoundG.ite (State.SoundG.mk h) (State.SoundG.ite (State.SoundPG.snd h1) (State.SoundG.ite
      (State.SoundG.mk (State.Sound.bumpBy (State.SoundG.state h2) (Field.sub_of hm rfl))) h2))

theorem State.Sound.of_gatherRows {i j op k xs s} (h : State.Sound m o n s)
    (hm : Field.sub [.dict, .tally, .arrs, .queues, .mem, .bin, .log] m = true) : State.Sound m o n (gatherRows i j
        op k xs s) := by
  induction xs generalizing k s with
  | nil => exact h
  | cons x xs ih =>
    unfold gatherRows
    extract_lets x1
    have h1 : State.SoundG m o n x1 := State.Sound.gatherRow h (Field.sub_of hm rfl)
    exact State.Sound.ite (ih (State.SoundG.state h1)) (State.SoundG.state h1)

theorem State.Sound.of_doIndexedGather {q op s} (h : State.Sound m o n s) (hm : Field.sub [.dict, .clock, .tally,
    .arrs, .queues, .mem, .bin, .log] m = true) :
    State.Sound m o n (doIndexedGather q op s) := by
  unfold doIndexedGather
  extract_lets x1
  have h1 : State.Sound m o n x1 := State.Sound.advanceCharged h (Field.sub_of hm rfl)
  clear_value x1
  split
  · exact h1
  · exact State.Sound.dispatch (State.Sound.of_gatherRows h1 (Field.sub_of hm rfl)) (Field.sub_of hm rfl)

theorem State.Sound.of_execIndexedGather {q op s} (h : State.Sound m o n s) (hm : Field.sub [.dict, .clock, .tally,
    .arrs, .queues, .mem, .bin, .log] m = true) :
    State.SoundX m o n (execIndexedGather q op s) := by
  unfold execIndexedGather
  exact State.SoundX.next (State.Sound.of_doIndexedGather h (Field.sub_of hm rfl))

theorem State.Sound.segmentStep {s q j op i z6 upto} (h : State.Sound m o n s) (hm : Field.sub [.dict, .tally, .arrs,
    .queues, .mem, .bin, .log, .free] m = true) :
    State.SoundG m o n (State.segmentStep s q j op i z6 upto) := by
  unfold State.segmentStep
  extract_lets x1 x2 x3 x4
  have h1 : State.Sound m o n x3 := State.Sound.ite h (State.Sound.bumpBy h (Field.sub_of hm rfl))
  clear_value x3
  split
  · rename_i y1 y2 y3 y4
    have h2 : State.Sound m o n y3 := State.SoundP.of y4 (State.Sound.takeFree h1 (Field.sub_of hm rfl))
    extract_lets x5 x6 x7 x8 x9
    have h3 : State.SoundPG m o n x5 := State.SoundPG.ite (State.SoundPG.mk (State.SoundG.mk h2)) (State.Sound.gwRead
        h2 (Field.sub_of hm rfl))
    clear_value x5
    have h4 : State.Sound m o n x7 := State.SoundG.state (State.SoundPG.snd h3)
    clear_value x7
    have h5 : State.Sound m o n x9 := State.Sound.ite h4 (State.Sound.bumpBy h4 (Field.sub_of hm rfl))
    clear_value x9
    exact State.SoundG.ite (State.SoundPG.snd h3) (State.Sound.gwWrite h5 (Field.sub_of hm rfl))

theorem State.Sound.of_segmentSteps {q j op k xs s} (h : State.Sound m o n s)
    (hm : Field.sub [.dict, .tally, .arrs, .queues, .mem, .bin, .log, .free] m = true) :
    State.Sound m o n (segmentSteps q j op k xs s) := by
  induction xs generalizing k s with
  | nil => exact h
  | cons x xs ih =>
    cases xs with
    | nil => exact h
    | cons y xs =>
      unfold segmentSteps
      extract_lets x1
      have h1 : State.SoundG m o n x1 := State.Sound.segmentStep h (Field.sub_of hm rfl)
      exact State.Sound.ite (ih (State.SoundG.state h1)) (State.SoundG.state h1)

theorem State.Sound.of_doSegmentReduce {q op s} (h : State.Sound m o n s) (hm : Field.sub [.dict, .clock, .tally,
    .arrs, .queues, .mem, .bin, .log, .free] m = true) :
    State.Sound m o n (doSegmentReduce q op s) := by
  unfold doSegmentReduce
  extract_lets x1
  have h1 : State.Sound m o n x1 := State.Sound.advanceCharged h (Field.sub_of hm rfl)
  clear_value x1
  split
  · exact h1
  · exact State.Sound.dispatch (State.Sound.of_segmentSteps h1 (Field.sub_of hm rfl)) (Field.sub_of hm rfl)

theorem State.Sound.of_execSegmentReduce {q op s} (h : State.Sound m o n s) (hm : Field.sub [.dict, .clock, .tally,
    .arrs, .queues, .mem, .bin, .log, .free] m = true) :
    State.SoundX m o n (execSegmentReduce q op s) := by
  unfold execSegmentReduce
  exact State.SoundX.next (State.Sound.of_doSegmentReduce h (Field.sub_of hm rfl))

theorem State.Sound.atomicStep {s q j op idx x k} (h : State.Sound m o n s) (hm : Field.sub [.dict, .tally, .arrs,
    .queues, .mem, .bin, .log] m = true) :
    State.SoundG m o n (State.atomicStep s q j op idx x k) := by
  unfold State.atomicStep
  extract_lets x1 x2 x3 x4
  have h1 : State.SoundPG m o n x2 := State.Sound.gwRead h (Field.sub_of hm rfl)
  clear_value x2
  have h2 : State.Sound m o n x3 := State.SoundG.state (State.SoundPG.snd h1)
  clear_value x3
  have h3 : State.SoundG m o n x4 := State.Sound.gwWrite h2 (Field.sub_of hm rfl)
  clear_value x4
  exact State.SoundG.ite (State.SoundPG.snd h1) (State.SoundG.ite (State.SoundG.mk (State.Sound.bumpBy
      (State.SoundG.state h3) (Field.sub_of hm rfl))) h3)

theorem State.Sound.of_atomicSteps {i j op xs s} (h : State.Sound m o n s)
    (hm : Field.sub [.dict, .tally, .arrs, .queues, .mem, .bin, .log] m = true) : State.Sound m o n (atomicSteps i j
        op xs s) := by
  induction xs generalizing s with
  | nil => exact h
  | cons x xs ih =>
    obtain ⟨a, b, c⟩ := x
    unfold atomicSteps
    extract_lets x1
    have h1 : State.SoundG m o n x1 := State.Sound.atomicStep h (Field.sub_of hm rfl)
    exact State.Sound.ite (ih (State.SoundG.state h1)) (State.SoundG.state h1)

theorem State.Sound.of_doAtomicAdd {q op s} (h : State.Sound m o n s) (hm : Field.sub [.dict, .clock, .tally, .arrs,
    .queues, .mem, .bin, .log] m = true) :
    State.Sound m o n (doAtomicAdd q op s) := by
  unfold doAtomicAdd
  extract_lets x1 x2 x3
  have h1 : State.Sound m o n x1 := State.Sound.advanceCharged h (Field.sub_of hm rfl)
  clear_value x1
  have h2 : State.Sound m o n x3 := State.Sound.ite h1 (State.Sound.bumpBy h1 (Field.sub_of hm rfl))
  clear_value x3
  split
  · rename_i y1 y2
    exact h1
  · rename_i y3 y4 y5
    exact State.Sound.ite h1 (State.Sound.dispatch (State.Sound.of_atomicSteps h2 (Field.sub_of hm rfl))
        (Field.sub_of hm rfl))

theorem State.Sound.of_execAtomicAdd {q op s} (h : State.Sound m o n s) (hm : Field.sub [.dict, .clock, .tally,
    .arrs, .queues, .mem, .bin, .log] m = true) :
    State.SoundX m o n (execAtomicAdd q op s) := by
  unfold execAtomicAdd
  exact State.SoundX.next (State.Sound.of_doAtomicAdd h (Field.sub_of hm rfl))

/-! ## Fabric -/

theorem State.Sound.setNumbering {s z2} (h : State.Sound m o n s) (hm : Field.sub [.fabric] m = true) :
    State.Sound m o n (State.setNumbering s z2) := by
  unfold State.setNumbering
  extract_lets x1 x2
  exact State.Sound.congr [.fabric] h (Field.sub_of hm rfl) rfl rfl (Nat.le_refl _) rfl rfl rfl

theorem State.Sound.answer {s type src dst bulk channel partition seq payload} (h : State.Sound m o n s) (hm :
    Field.sub [.dict, .fabric, .sent] m = true) :
    State.Sound m o n (State.answer s type src dst bulk channel partition seq payload) := by
  unfold State.answer
  extract_lets x1 x2 x3 x4
  have h1 : State.Sound m o n x4 := State.Sound.ite h (State.Sound.setNumbering h (Field.sub_of hm rfl))
  clear_value x4
  exact State.Sound.ite h (State.Sound.emit (State.Sound.bump h1 (Field.sub_of hm rfl)) (Field.sub_of hm rfl))

theorem State.Sound.packetMet {s k1 k2} (h : State.Sound m o n s) (hm : Field.sub [.dict, .tally, .arrs, .queues,
    .mem, .bin, .log] m = true) :
    State.Sound m o n (State.packetMet s k1 k2) := by
  unfold State.packetMet
  refine State.Sound.ite (State.SoundP.snd (State.Sound.uncorrectables (State.Sound.correct h (Field.sub_of hm rfl))
      (Field.sub_of hm rfl))) ?_
  split
  · rename_i y1 y2 y3
    have h1 : State.Sound m o n y2 := State.SoundP.of y3 (State.Sound.report h (Field.sub_of hm rfl))
    exact h1
  · rename_i y4 y5 y6 y7 y8
    have h2 : State.Sound m o n y7 := State.SoundP.of y8 (State.Sound.report h (Field.sub_of hm rfl))
    split
    · rename_i y9 y10
      exact h2
    · rename_i y11 y12 y13 y14
      exact State.Sound.endItem h2 (Field.sub_of hm rfl)

theorem State.Sound.chargePacket {s k1 write k} (h : State.Sound m o n s) (hm : Field.sub [.dict, .mem] m = true) :
    State.Sound m o n (State.chargePacket s k1 write k) := by
  unfold State.chargePacket
  exact State.Sound.ite (State.Sound.chargeAccess h (Field.sub_of hm rfl)) h

theorem State.Sound.packetStore {s k1 b} (h : State.Sound m o n s) (hm : Field.sub [.dict, .tally, .arrs, .queues,
    .mem, .bin, .log] m = true) :
    State.Sound m o n (State.packetStore s k1 b) := by
  unfold State.packetStore
  extract_lets x1
  have h1 : State.Sound m o n x1 := State.Sound.chargePacket h (Field.sub_of hm rfl)
  clear_value x1
  split
  rename_i y1 y2 y3 y4
  have h2 : State.Sound m o n y2 := State.SoundF.of y4 (State.SoundF.ite (State.Sound.rawStore h1 (Field.sub_of hm
      rfl)) (State.Sound.store h1 (Field.sub_of hm rfl)))
  exact State.Sound.packetMet h2 (Field.sub_of hm rfl)

theorem State.Sound.packetLoad {s k1 k} (h : State.Sound m o n s) (hm : Field.sub [.dict, .tally, .arrs, .queues,
    .mem, .bin, .log] m = true) :
    State.SoundP m o n (State.packetLoad s k1 k) := by
  unfold State.packetLoad
  extract_lets x1
  have h1 : State.Sound m o n x1 := State.Sound.chargePacket h (Field.sub_of hm rfl)
  clear_value x1
  split
  rename_i y1 y2 y3 y4
  exact State.SoundP.mk (State.Sound.packetMet h1 (Field.sub_of hm rfl))

theorem State.Sound.packetNoSnoop {s p} (h : State.Sound m o n s) (hm : Field.sub [.free] m = true) :
    State.SoundP m o n (State.packetNoSnoop s p) := by
  unfold State.packetNoSnoop
  split
  · rename_i y1 y2 y3
    exact State.SoundP.mk h
  · rename_i y4 y5
    refine State.SoundP.ite (State.SoundP.mk h) ?_
    split
    rename_i y6 y7 y8 y9
    have h1 : State.Sound m o n y8 := State.SoundP.of y9 (State.Sound.takeFree h (Field.sub_of hm rfl))
    exact State.SoundP.mk h1

theorem State.Sound.packetToHost {s p} (h : State.Sound m o n s) (hm : Field.sub [.sent, .free] m = true) :
    State.Sound m o n (State.packetToHost s p) := by
  unfold State.packetToHost
  refine State.Sound.ite h ?_
  extract_lets x1
  split
  rename_i y1 y2 y3 y4
  have h1 : State.Sound m o n y3 := State.SoundP.of y4 (State.Sound.packetNoSnoop h (Field.sub_of hm rfl))
  exact State.Sound.emit h1 (Field.sub_of hm rfl)

theorem State.Sound.packetFromHost {s k1} (h : State.Sound m o n s) (hm : Field.sub [.fabric, .sent, .free] m =
    true) :
    State.Sound m o n (State.packetFromHost s k1) := by
  unfold State.packetFromHost
  extract_lets x1
  refine State.Sound.ite h ?_
  split
  rename_i y1 y2 y3 y4
  have h1 : State.Sound m o n y3 := State.SoundP.of y4 (State.Sound.takeFree h (Field.sub_of hm rfl))
  split
  rename_i y5 y6 y7 y8
  have h2 : State.Sound m o n y7 := State.SoundP.of y8 (State.Sound.packetNoSnoop h1 (Field.sub_of hm rfl))
  extract_lets x2 x3 x4 x5
  have h3 : State.Sound m o n x5 := State.Sound.congr [.fabric] h2 (Field.sub_of hm rfl) rfl rfl (Nat.le_refl _) rfl
      rfl rfl
  clear_value x5
  exact State.Sound.emit h3 (Field.sub_of hm rfl)

theorem State.Sound.packetAdd {s z2} (h : State.Sound m o n s) (hm : Field.sub [.dict, .tally, .arrs, .queues, .mem,
    .bin, .log] m = true) :
    State.Sound m o n (State.packetAdd s z2) := by
  unfold State.packetAdd
  extract_lets x1
  split
  · rename_i y1 y2 y3 y4
    have h1 : State.Sound m o n y3 := State.SoundP.of y4 (State.Sound.packetLoad h (Field.sub_of hm rfl))
    exact State.Sound.packetStore h1 (Field.sub_of hm rfl)

theorem State.Sound.applyPacket {s z2} (h : State.Sound m o n s) (hm : Field.sub [.dict, .tally, .arrs, .queues,
    .mem, .bin, .log, .sent, .free] m = true) :
    State.Sound m o n (State.applyPacket s z2) := by
  unfold State.applyPacket
  extract_lets x1
  split
  · exact State.Sound.ite (State.Sound.packetToHost h (Field.sub_of hm rfl)) (State.Sound.ite
        (State.Sound.packetStore h (Field.sub_of hm rfl)) h)
  · exact State.Sound.ite (State.Sound.packetAdd h (Field.sub_of hm rfl)) h
  · exact h

theorem State.Sound.answerTo {s k1 type bulk payload} (h : State.Sound m o n s) (hm : Field.sub [.dict, .fabric,
    .sent] m = true) :
    State.Sound m o n (State.answerTo s k1 type bulk payload) := by
  unfold State.answerTo
  extract_lets x1
  exact State.Sound.answer h (Field.sub_of hm rfl)

theorem State.Sound.acknowledge {s k1} (h : State.Sound m o n s) (hm : Field.sub [.dict, .tally, .arrs, .queues,
    .mem, .fabric, .bin, .log, .sent, .free] m = true) :
    State.Sound m o n (State.acknowledge s k1) := by
  unfold State.acknowledge
  extract_lets x1
  split
  · rename_i y1 y2
    exact State.Sound.answerTo h (Field.sub_of hm rfl)
  · rename_i y3 y4
    exact State.Sound.answerTo h (Field.sub_of hm rfl)
  · rename_i y5 y6
    refine State.Sound.ite (State.Sound.packetFromHost h (Field.sub_of hm rfl)) ?_
    split
    rename_i y7 y8 y9 y10
    have h1 : State.Sound m o n y9 := State.SoundP.of y10 (State.Sound.takeFree h (Field.sub_of hm rfl))
    split
    rename_i y11 y12 y13 y14
    have h2 : State.Sound m o n y13 := State.SoundP.of y14 (State.SoundP.ite (State.Sound.packetLoad h1
        (Field.sub_of hm rfl)) (State.Sound.takeFreeBytes h1 (Field.sub_of hm rfl)))
    exact State.Sound.answerTo h2 (Field.sub_of hm rfl)
  · rename_i y15 y16
    exact State.Sound.answerTo h (Field.sub_of hm rfl)
  · rename_i y17 y18 y19 y20 y21
    exact h

theorem State.Sound.acceptPacket {s z2} (h : State.Sound m o n s) (hm : Field.sub [.dict, .tally, .arrs, .queues,
    .mem, .fabric, .bin, .log, .sent, .free] m = true) :
    State.Sound m o n (State.acceptPacket s z2) := by
  unfold State.acceptPacket
  extract_lets x1
  have h1 : State.Sound m o n x1 := State.Sound.setNumbering h (Field.sub_of hm rfl)
  clear_value x1
  exact State.Sound.acknowledge (State.Sound.applyPacket h1 (Field.sub_of hm rfl)) (Field.sub_of hm rfl)

theorem State.Sound.drainHeld {k x s} (h : State.Sound m o n s) (hm : Field.sub [.dict, .tally, .arrs, .queues, .mem,
    .fabric, .bin, .log, .sent, .free] m = true) :
    State.Sound m o n (State.drainHeld k x s) := by
  induction k generalizing s with
  | zero => exact h
  | succ k ih =>
    unfold State.drainHeld
    extract_lets x1
    split
    · exact h
    · exact ih (State.Sound.acceptPacket (State.Sound.setNumbering h (Field.sub_of hm rfl)) (Field.sub_of hm rfl))

theorem State.Sound.duplicate {s k1} (h : State.Sound m o n s) (hm : Field.sub [.dict, .tally, .arrs, .queues, .mem,
    .fabric, .bin, .log, .sent, .free] m = true) :
    State.Sound m o n (State.duplicate s k1) := by
  unfold State.duplicate
  exact State.Sound.acknowledge (State.Sound.bump h (Field.sub_of hm rfl)) (Field.sub_of hm rfl)

theorem State.Sound.deliverPacket {s z2} (h : State.Sound m o n s) (hm : Field.sub [.dict, .tally, .arrs, .queues,
    .mem, .fabric, .bin, .log, .sent, .free] m = true) :
    State.Sound m o n (State.deliverPacket s z2) := by
  unfold State.deliverPacket
  extract_lets x1 x2 x3
  have h1 : State.Sound m o n x3 := State.Sound.acceptPacket h (Field.sub_of hm rfl)
  clear_value x3
  exact State.Sound.ite (State.Sound.acknowledge (State.Sound.bump h (Field.sub_of hm rfl)) (Field.sub_of hm
      rfl)) (State.Sound.ite (State.Sound.ite h (State.Sound.setNumbering h (Field.sub_of hm rfl)))
      (State.Sound.drainHeld h1 (Field.sub_of hm rfl)))

theorem State.Sound.countRefused {s p} (h : State.Sound m o n s) (hm : Field.sub [.dict] m = true) :
    State.Sound m o n (State.countRefused s p) := by
  unfold State.countRefused
  split
  · rename_i y1 y2
    exact h
  · rename_i y3 y4 y5
    exact State.Sound.ite (State.Sound.bump h (Field.sub_of hm rfl)) h

theorem State.Sound.refusePacket {s p} (h : State.Sound m o n s) (hm : Field.sub [.dict, .fabric, .sent] m = true) :
    State.Sound m o n (State.refusePacket s p) := by
  unfold State.refusePacket
  split
  · rename_i y1 y2
    exact h
  · rename_i y3 y4 y5
    refine State.Sound.ite h ?_
    extract_lets x1
    have h1 : State.Sound m o n x1 := State.Sound.countRefused h (Field.sub_of hm rfl)
    clear_value x1
    exact State.Sound.ite (State.Sound.answer h1 (Field.sub_of hm rfl)) h1

theorem State.Sound.writeSignal {s x} (h : State.Sound m o n s) (hm : Field.sub [.dict, .tally, .queues, .mem, .bin,
    .log] m = true) :
    State.Sound m o n (State.writeSignal s x) := by
  unfold State.writeSignal
  extract_lets x1 x2 x3
  have h2 : State.Sound m o n x1 := State.Sound.foldl h (fun s1 x4 h1 => (State.Sound.sweep h1 (Field.sub_of hm
      rfl)))
  clear_value x1
  have h3 : State.Sound m o n x2 := State.Sound.setNum (State.Sound.bump h2 (Field.sub_of hm rfl)) (Field.sub_of hm
      rfl)
  clear_value x2
  refine State.Sound.ite h3 ?_
  split
  rename_i y1 y2 y3 y4
  have h4 : State.Sound m o n y2 := State.SoundF.of y4 (State.Sound.store h3 (Field.sub_of hm rfl))
  exact State.SoundP.snd (State.Sound.report h4 (Field.sub_of hm rfl))

theorem State.Sound.drainSignals {s} (h : State.Sound m o n s) (hm : Field.sub [.dict, .tally, .queues, .mem, .host,
    .bin, .log] m = true) :
    State.Sound m o n (State.drainSignals s) := by
  unfold State.drainSignals
  extract_lets x1 x2
  exact State.Sound.foldl (State.Sound.congr [.host] h (Field.sub_of hm rfl) rfl rfl (Nat.le_refl _) rfl rfl rfl)
      (fun s1 x3 h1 => (State.Sound.ite (State.Sound.congr [.host] h1 (Field.sub_of hm rfl) rfl rfl (Nat.le_refl _)
      rfl rfl rfl) (State.Sound.ite h1 (State.Sound.writeSignal h1 (Field.sub_of hm rfl)))))

theorem State.Sound.haltForFabric {s} (h : State.Sound m o n s) (hm : Field.sub [.queues, .host, .sent] m = true) :
    State.Sound m o n (State.haltForFabric s) := by
  unfold State.haltForFabric
  refine State.Sound.ite h ?_
  refine State.Sound.foldl h (fun s1 x1 h1 => ?_)
  refine State.Sound.ite h1 ?_
  extract_lets x2 x3
  have h2 : State.Sound m o n x3 := State.Sound.setQueue h1 (Field.sub_of hm rfl)
  clear_value x3
  exact State.Sound.ite h2 (State.Sound.sendVector h2 (Field.sub_of hm rfl))

theorem State.Sound.reportFabric {s k1} (h : State.Sound m o n s) (hm : Field.sub [.dict, .tally, .queues, .bin,
    .log] m = true) :
    State.SoundP m o n (State.reportFabric s k1) := by
  unfold State.reportFabric
  extract_lets x1 x2 x3 x4
  exact State.Sound.detect h (Field.sub_of hm rfl)

theorem State.Sound.endOwners {s os ref} (h : State.Sound m o n s) (hm : Field.sub [.dict, .tally, .arrs, .queues,
    .bin] m = true) :
    State.Sound m o n (State.endOwners s os ref) := by
  unfold State.endOwners
  refine State.Sound.foldl h (fun s1 x1 h1 => ?_)
  split
  · rename_i y1 y2 y3 y4
    exact State.Sound.amendItem (State.Sound.endItem h1 (Field.sub_of hm rfl)) (Field.sub_of hm rfl)
  · rename_i y5 y6
    exact h1

theorem State.Sound.amendWaiting {s} (h : State.Sound m o n s) (hm : Field.sub [.tally, .queues, .bin] m = true) :
    State.Sound m o n (State.amendWaiting s) := by
  unfold State.amendWaiting
  exact State.Sound.foldl h (fun s1 x1 h1 => (State.Sound.ite h1 (State.Sound.foldl h1 (fun s2 x2 h2 =>
      (State.Sound.amendItem h2 (Field.sub_of hm rfl))))))

theorem State.Sound.fabricFault {s k1 k2} (h : State.Sound m o n s) (hm : Field.sub [.dict, .tally, .arrs, .queues,
    .mem, .fabric, .host, .bin, .log, .sent] m = true) :
    State.Sound m o n (State.fabricFault s k1 k2) := by
  unfold State.fabricFault
  extract_lets x1
  have h1 : State.Sound m o n x1 := State.Sound.bump h (Field.sub_of hm rfl)
  clear_value x1
  split
  rename_i y1 y2 y3 y4
  have h2 : State.Sound m o n y3 := State.SoundP.of y4 (State.Sound.reportFabric h1 (Field.sub_of hm rfl))
  refine State.Sound.ite (State.Sound.setNumbering h2 (Field.sub_of hm rfl)) ?_
  extract_lets x2 x3 x4 x5 x6 x7
  have h3 : State.Sound m o n x3 := State.Sound.setNumbering h2 (Field.sub_of hm rfl)
  clear_value x3
  have h4 : State.Sound m o n x4 := State.Sound.setNum h3 (Field.sub_of hm rfl)
  clear_value x4
  have h5 : State.Sound m o n x5 := State.Sound.emit (State.Sound.bump h4 (Field.sub_of hm rfl)) (Field.sub_of hm
      rfl)
  clear_value x5
  have h6 : State.Sound m o n x6 := State.Sound.endOwners h5 (Field.sub_of hm rfl)
  clear_value x6
  have h7 : State.Sound m o n x7 := State.Sound.ite (State.Sound.amendWaiting h6 (Field.sub_of hm rfl)) h6
  clear_value x7
  exact State.Sound.dispatch (State.Sound.drainSignals (State.Sound.releaseHeld (State.Sound.haltForFabric h7
      (Field.sub_of hm rfl)) (Field.sub_of hm rfl)) (Field.sub_of hm rfl)) (Field.sub_of hm rfl)

theorem State.Sound.resend {s k1 seq} (h : State.Sound m o n s) (hm : Field.sub [.dict, .tally, .arrs, .queues,
    .mem, .fabric, .host, .bin, .log, .sent] m = true) :
    State.Sound m o n (State.resend s k1 seq) := by
  unfold State.resend
  split
  · rename_i y1 y2
    exact h
  · rename_i y3 y4 y5
    refine State.Sound.ite (State.Sound.fabricFault h (Field.sub_of hm rfl)) ?_
    extract_lets x1 x2
    have h1 : State.Sound m o n x2 := State.Sound.setNumbering h (Field.sub_of hm rfl)
    clear_value x2
    exact State.Sound.emit (State.Sound.bump h1 (Field.sub_of hm rfl)) (Field.sub_of hm rfl)

theorem State.Sound.sendPacket {s k1 k2} (h : State.Sound m o n s) (hm : Field.sub [.dict, .fabric, .sent] m = true)
    :
    State.Sound m o n (State.sendPacket s k1 k2) := by
  unfold State.sendPacket
  extract_lets x1 x2 x3
  have h1 : State.Sound m o n x2 := State.Sound.setNumbering h (Field.sub_of hm rfl)
  clear_value x2
  have h2 : State.Sound m o n x3 := State.Sound.emit (State.Sound.bump h1 (Field.sub_of hm rfl)) (Field.sub_of hm
      rfl)
  clear_value x3
  exact State.Sound.ite (State.Sound.bump h2 (Field.sub_of hm rfl)) h2

theorem State.Sound.packetAt {s p k2} (h : State.Sound m o n s) (hm : Field.sub [.dict, .tally, .arrs, .queues,
    .mem, .fabric, .bin, .log, .sent, .free] m = true) :
    State.Sound m o n (State.packetAt s p k2) := by
  unfold State.packetAt
  exact State.Sound.ite (State.Sound.deliverPacket h (Field.sub_of hm rfl)) (State.Sound.refusePacket h
      (Field.sub_of hm rfl))

theorem State.Sound.packetArrives {s type float p} (h : State.Sound m o n s) (hm : Field.sub [.dict, .tally, .arrs,
    .queues, .mem, .fabric, .bin, .log, .sent, .free] m = true) :
    State.Sound m o n (State.packetArrives s type float p) := by
  unfold State.packetArrives
  refine State.Sound.ite h ?_
  extract_lets x1 x2
  split
  · rename_i y1 y2 y3
    exact State.Sound.packetAt h (Field.sub_of hm rfl)
  · rename_i y4 y5
    refine State.Sound.ite (State.Sound.packetAt h (Field.sub_of hm rfl)) ?_
    refine State.Sound.ite ?_ (State.Sound.ite (State.Sound.packetAt (State.Sound.sendPacket h (Field.sub_of hm
        rfl)) (Field.sub_of hm rfl)) h)
    split
    · rename_i y6 y7 y8 y9
      exact State.Sound.dispatch (State.Sound.endItem h (Field.sub_of hm rfl)) (Field.sub_of hm rfl)
    · rename_i y10 y11
      exact h

theorem State.Sound.ackArrives {s types p bulk channel} (h : State.Sound m o n s) (hm : Field.sub [.dict, .tally,
    .arrs, .queues, .mem, .fabric, .host, .bin, .log, .sent] m = true) :
    State.Sound m o n (State.ackArrives s types p bulk channel) := by
  unfold State.ackArrives
  refine State.Sound.ite h ?_
  refine State.Sound.ite (State.Sound.countRefused h (Field.sub_of hm rfl)) ?_
  extract_lets x1 x2
  exact State.Sound.ite (State.Sound.drainSignals (State.Sound.releaseHeld (State.Sound.setNumbering h (Field.sub_of
      hm rfl)) (Field.sub_of hm rfl)) (Field.sub_of hm rfl)) h

theorem State.Sound.of_doFabricWrite {t p s} (h : State.Sound m o n s) (hm : Field.sub [.dict, .clock, .tally, .arrs,
    .queues, .mem, .fabric, .bin, .log, .sent, .free] m = true) :
    State.Sound m o n (doFabricWrite t p s) := by
  unfold doFabricWrite
  exact State.Sound.packetArrives (State.Sound.advanceCharged h (Field.sub_of hm rfl)) (Field.sub_of hm rfl)

theorem State.Sound.of_execFabricWrite {t p s} (h : State.Sound m o n s) (hm : Field.sub [.dict, .clock, .tally,
    .arrs, .queues, .mem, .fabric, .bin, .log, .sent, .free] m = true) :
    State.SoundX m o n (execFabricWrite t p s) := by
  unfold execFabricWrite
  exact State.SoundX.next (State.Sound.of_doFabricWrite h (Field.sub_of hm rfl))

theorem State.Sound.of_doFabricReadReq {t p s} (h : State.Sound m o n s) (hm : Field.sub [.dict, .clock, .tally,
    .arrs, .queues, .mem, .fabric, .bin, .log, .sent, .free] m = true) :
    State.Sound m o n (doFabricReadReq t p s) := by
  unfold doFabricReadReq
  exact State.Sound.packetArrives (State.Sound.advanceCharged h (Field.sub_of hm rfl)) (Field.sub_of hm rfl)

theorem State.Sound.of_execFabricReadReq {t p s} (h : State.Sound m o n s) (hm : Field.sub [.dict, .clock, .tally,
    .arrs, .queues, .mem, .fabric, .bin, .log, .sent, .free] m = true) :
    State.SoundX m o n (execFabricReadReq t p s) := by
  unfold execFabricReadReq
  exact State.SoundX.next (State.Sound.of_doFabricReadReq h (Field.sub_of hm rfl))

theorem State.Sound.of_doFabricAtomicAdd {t p elem s} (h : State.Sound m o n s) (hm : Field.sub [.dict, .clock,
    .tally, .arrs, .queues, .mem, .fabric, .bin, .log, .sent, .free] m = true) :
    State.Sound m o n (doFabricAtomicAdd t p elem s) := by
  unfold doFabricAtomicAdd
  exact State.Sound.packetArrives (State.Sound.advanceCharged h (Field.sub_of hm rfl)) (Field.sub_of hm rfl)

theorem State.Sound.of_execFabricAtomicAdd {t p elem s} (h : State.Sound m o n s) (hm : Field.sub [.dict, .clock,
    .tally, .arrs, .queues, .mem, .fabric, .bin, .log, .sent, .free] m = true) :
    State.SoundX m o n (execFabricAtomicAdd t p elem s) := by
  unfold execFabricAtomicAdd
  exact State.SoundX.next (State.Sound.of_doFabricAtomicAdd h (Field.sub_of hm rfl))

theorem State.Sound.of_doSweep {t p s} (h : State.Sound m o n s) (hm : Field.sub [.dict, .clock, .tally, .arrs,
    .queues, .mem, .fabric, .bin, .log, .sent, .free] m = true) :
    State.Sound m o n (doSweep t p s) := by
  unfold doSweep
  exact State.Sound.packetArrives (State.Sound.advanceCharged h (Field.sub_of hm rfl)) (Field.sub_of hm rfl)

theorem State.Sound.of_execSweep {t p s} (h : State.Sound m o n s) (hm : Field.sub [.dict, .clock, .tally, .arrs,
    .queues, .mem, .fabric, .bin, .log, .sent, .free] m = true) :
    State.SoundX m o n (execSweep t p s) := by
  unfold execSweep
  exact State.SoundX.next (State.Sound.of_doSweep h (Field.sub_of hm rfl))

theorem State.Sound.of_doFabricWriteAck {t p ofBulk ofChannel s} (h : State.Sound m o n s) (hm : Field.sub [.dict,
    .clock, .tally, .arrs, .queues, .mem, .fabric, .host, .bin, .log, .sent] m = true) :
    State.Sound m o n (doFabricWriteAck t p ofBulk ofChannel s) := by
  unfold doFabricWriteAck
  exact State.Sound.ackArrives (State.Sound.advanceCharged h (Field.sub_of hm rfl)) (Field.sub_of hm rfl)

theorem State.Sound.of_execFabricWriteAck {t p ofBulk ofChannel s} (h : State.Sound m o n s) (hm : Field.sub [.dict,
    .clock, .tally, .arrs, .queues, .mem, .fabric, .host, .bin, .log, .sent] m = true) :
    State.SoundX m o n (execFabricWriteAck t p ofBulk ofChannel s) := by
  unfold execFabricWriteAck
  exact State.SoundX.next (State.Sound.of_doFabricWriteAck h (Field.sub_of hm rfl))

theorem State.Sound.of_doFabricReadData {t p ofBulk ofChannel s} (h : State.Sound m o n s) (hm : Field.sub [.dict,
    .clock, .tally, .arrs, .queues, .mem, .fabric, .host, .bin, .log, .sent] m = true) :
    State.Sound m o n (doFabricReadData t p ofBulk ofChannel s) := by
  unfold doFabricReadData
  extract_lets x1 x2 x3
  have h1 : State.Sound m o n x1 := State.Sound.ackArrives (State.Sound.advanceCharged h (Field.sub_of hm rfl))
      (Field.sub_of hm rfl)
  clear_value x1
  exact State.Sound.ite h1 (State.Sound.resend h1 (Field.sub_of hm rfl))

theorem State.Sound.of_execFabricReadData {t p ofBulk ofChannel s} (h : State.Sound m o n s) (hm : Field.sub [.dict,
    .clock, .tally, .arrs, .queues, .mem, .fabric, .host, .bin, .log, .sent] m = true) :
    State.SoundX m o n (execFabricReadData t p ofBulk ofChannel s) := by
  unfold execFabricReadData
  exact State.SoundX.next (State.Sound.of_doFabricReadData h (Field.sub_of hm rfl))

theorem State.Sound.of_doSweepDone {t p s} (h : State.Sound m o n s) (hm : Field.sub [.dict, .clock, .tally, .arrs,
    .queues, .mem, .fabric, .host, .bin, .log, .sent] m = true) :
    State.Sound m o n (doSweepDone t p s) := by
  unfold doSweepDone
  exact State.Sound.ackArrives (State.Sound.advanceCharged h (Field.sub_of hm rfl)) (Field.sub_of hm rfl)

theorem State.Sound.of_execSweepDone {t p s} (h : State.Sound m o n s) (hm : Field.sub [.dict, .clock, .tally, .arrs,
    .queues, .mem, .fabric, .host, .bin, .log, .sent] m = true) :
    State.SoundX m o n (execSweepDone t p s) := by
  unfold execSweepDone
  exact State.SoundX.next (State.Sound.of_doSweepDone h (Field.sub_of hm rfl))

theorem State.Sound.of_doRefuse {t p ofBulk ofChannel s} (h : State.Sound m o n s) (hm : Field.sub [.dict, .clock,
    .tally, .arrs, .queues, .mem, .fabric, .host, .bin, .log, .sent, .free] m = true) :
    State.Sound m o n (doRefuse t p ofBulk ofChannel s) := by
  unfold doRefuse
  extract_lets x1
  have h1 : State.Sound m o n x1 := State.Sound.advanceCharged h (Field.sub_of hm rfl)
  clear_value x1
  exact State.Sound.ite h1 (State.Sound.ite (State.Sound.refusePacket h1 (Field.sub_of hm rfl)) (State.Sound.resend
      h1 (Field.sub_of hm rfl)))

theorem State.Sound.of_execRefuse {t p ofBulk ofChannel s} (h : State.Sound m o n s) (hm : Field.sub [.dict, .clock,
    .tally, .arrs, .queues, .mem, .fabric, .host, .bin, .log, .sent, .free] m = true) :
    State.SoundX m o n (execRefuse t p ofBulk ofChannel s) := by
  unfold execRefuse
  exact State.SoundX.next (State.Sound.of_doRefuse h (Field.sub_of hm rfl))

theorem State.Sound.of_doAckTimeout {t src dst bulk channel seq s} (h : State.Sound m o n s) (hm : Field.sub [.dict,
    .clock, .tally, .arrs, .queues, .mem, .fabric, .host, .bin, .log, .sent] m = true) :
    State.Sound m o n (doAckTimeout t src dst bulk channel seq s) := by
  unfold doAckTimeout
  extract_lets x1 x2
  have h1 : State.Sound m o n x1 := State.Sound.advanceCharged h (Field.sub_of hm rfl)
  clear_value x1
  split
  · rename_i y1 y2
    exact h1
  · rename_i y3 y4 y5
    exact State.Sound.ite h1 (State.Sound.resend (State.Sound.bump h1 (Field.sub_of hm rfl)) (Field.sub_of hm rfl))

theorem State.Sound.of_execAckTimeout {t src dst bulk channel seq s} (h : State.Sound m o n s) (hm : Field.sub
    [.dict, .clock, .tally, .arrs, .queues, .mem, .fabric, .host, .bin, .log, .sent] m = true) :
    State.SoundX m o n (execAckTimeout t src dst bulk channel seq s) := by
  unfold execAckTimeout
  exact State.SoundX.next (State.Sound.of_doAckTimeout h (Field.sub_of hm rfl))

theorem State.Sound.of_doChannelReset {t p ofBulk ofChannel s} (h : State.Sound m o n s) (hm : Field.sub [.dict,
    .clock, .tally, .arrs, .queues, .mem, .fabric, .bin, .log, .sent] m = true) :
    State.Sound m o n (doChannelReset t p ofBulk ofChannel s) := by
  unfold doChannelReset
  extract_lets x1 x2
  have h1 : State.Sound m o n x1 := State.Sound.advanceCharged h (Field.sub_of hm rfl)
  clear_value x1
  split
  · rename_i y1 y2
    exact h1
  · rename_i y3 y4 y5
    refine State.Sound.ite h1 ?_
    refine State.Sound.ite (State.Sound.refusePacket h1 (Field.sub_of hm rfl)) ?_
    extract_lets x3
    have h2 : State.Sound m o n x3 := State.Sound.setNumbering h1 (Field.sub_of hm rfl)
    clear_value x3
    exact State.Sound.answerTo h2 (Field.sub_of hm rfl)

theorem State.Sound.of_execChannelReset {t p ofBulk ofChannel s} (h : State.Sound m o n s) (hm : Field.sub [.dict,
    .clock, .tally, .arrs, .queues, .mem, .fabric, .bin, .log, .sent] m = true) :
    State.SoundX m o n (execChannelReset t p ofBulk ofChannel s) := by
  unfold execChannelReset
  exact State.SoundX.next (State.Sound.of_doChannelReset h (Field.sub_of hm rfl))

theorem State.Sound.of_doResetDone {t p ofBulk ofChannel s} (h : State.Sound m o n s) (hm : Field.sub [.dict,
    .clock, .tally, .arrs, .queues, .mem, .fabric, .bin, .log] m = true) :
    State.Sound m o n (doResetDone t p ofBulk ofChannel s) := by
  unfold doResetDone
  extract_lets x1 x2
  have h1 : State.Sound m o n x1 := State.Sound.advanceCharged h (Field.sub_of hm rfl)
  clear_value x1
  exact State.Sound.ite h1 (State.Sound.ite (State.Sound.countRefused h1 (Field.sub_of hm rfl)) (State.Sound.ite
      (State.Sound.setNumbering h1 (Field.sub_of hm rfl)) h1))

theorem State.Sound.of_execResetDone {t p ofBulk ofChannel s} (h : State.Sound m o n s) (hm : Field.sub [.dict,
    .clock, .tally, .arrs, .queues, .mem, .fabric, .bin, .log] m = true) :
    State.SoundX m o n (execResetDone t p ofBulk ofChannel s) := by
  unfold execResetDone
  exact State.SoundX.next (State.Sound.of_doResetDone h (Field.sub_of hm rfl))

end Sys2Proof.Machine
end

