-- ==== Sys2Proof/Laws/KeepHost.lean ====
section
/-! SUPPORT. Laws/KeepHost: what ownership, the host link and changes of settings keep (`State.Sound`: the parts
touched, device time, the invariant). -/

namespace Sys2Proof.Machine

variable {m : List Field} {o : State} {n : Nat}

/-! ## Owner -/

theorem State.Sound.setOwn {s f} (h : State.Sound m o n s) (hm : Field.sub [.own] m = true) :
    State.Sound m o n (State.setOwn s f) := by
  unfold State.setOwn
  exact State.Sound.congr [.own] h (Field.sub_of hm rfl) rfl rfl (Nat.le_refl _) rfl rfl rfl

theorem State.Sound.setLease {s} (h : State.Sound m o n s) (hm : Field.sub [.own] m = true) :
    State.Sound m o n (State.setLease s) := by
  unfold State.setLease
  exact State.Sound.setOwn h (Field.sub_of hm rfl)

theorem State.Sound.discardTransfer {s p code} (h : State.Sound m o n s) (hm : Field.sub [.dict, .ports] m = true) :
    State.Sound m o n (State.discardTransfer s p code) := by
  unfold State.discardTransfer
  exact State.Sound.ite (State.Sound.bump (State.Sound.setPort h (Field.sub_of hm rfl)) (Field.sub_of hm rfl)) h

theorem State.Sound.giveOwnership {s p nonce} (h : State.Sound m o n s) (hm : Field.sub [.dict, .own, .ports, .host,
    .sent] m = true) :
    State.Sound m o n (State.giveOwnership s p nonce) := by
  unfold State.giveOwnership
  extract_lets x1 x2
  have h1 : State.Sound m o n x1 := by
    unfold x1
    split
    · exact State.Sound.discardTransfer h (Field.sub_of hm rfl)
    · exact h
  clear_value x1
  have h2 : State.Sound m o n x2 := State.Sound.setOwn h1 (Field.sub_of hm rfl)
  clear_value x2
  exact State.Sound.notify (State.Sound.setLease h2 (Field.sub_of hm rfl)) (Field.sub_of hm rfl)

theorem State.Sound.dropOwner {s cause} (h : State.Sound m o n s) (hm : Field.sub [.dict, .own, .ports] m = true) :
    State.Sound m o n (State.dropOwner s cause) := by
  unfold State.dropOwner
  extract_lets x1
  have h1 : State.Sound m o n x1 := by
    unfold x1
    split
    · exact State.Sound.discardTransfer h (Field.sub_of hm rfl)
    · exact h
  clear_value x1
  exact State.Sound.setOwn h1 (Field.sub_of hm rfl)

theorem State.Sound.vacate {s cause ports} (h : State.Sound m o n s) (hm : Field.sub [.dict, .own, .ports, .host,
    .sent] m = true) :
    State.Sound m o n (State.vacate s cause ports) := by
  unfold State.vacate
  extract_lets x1
  exact State.Sound.notifyPorts (State.Sound.dropOwner h (Field.sub_of hm rfl)) (Field.sub_of hm rfl)

theorem State.Sound.failHandover {s ports} (h : State.Sound m o n s) (hm : Field.sub [.own, .ports, .host, .sent] m =
    true) :
    State.Sound m o n (State.failHandover s ports) := by
  unfold State.failHandover
  extract_lets x1 x2
  have h1 : State.Sound m o n x2 := State.Sound.setOwn h (Field.sub_of hm rfl)
  clear_value x2
  exact State.Sound.notifyPorts (State.Sound.setLease h1 (Field.sub_of hm rfl)) (Field.sub_of hm rfl)

theorem State.Sound.portHLost {s cause} (h : State.Sound m o n s) (hm : Field.sub [.dict, .own, .ports, .host, .sent]
    m = true) :
    State.Sound m o n (State.portHLost s cause) := by
  unfold State.portHLost
  refine State.Sound.ite (State.Sound.vacate h (Field.sub_of hm rfl)) ?_
  refine State.Sound.ite (State.Sound.failHandover h (Field.sub_of hm rfl)) ?_
  extract_lets x1
  exact State.Sound.ite (State.Sound.setOwn h (Field.sub_of hm rfl)) (State.Sound.setOwn h (Field.sub_of hm rfl))

/-! ## Host -/

/-- A change of the host link that keeps the number of mailbox ports and copy engines. -/
theorem State.Sound.setHost {s f} (h : State.Sound m o n s)
    (hf : (f s.host).mailboxes.length = s.host.mailboxes.length ∧ (f s.host).engines.length = s.host.engines.length)
    (hm : Field.sub [.host] m = true) : State.Sound m o n (State.setHost s f) :=
  State.Sound.congr [.host] h hm rfl rfl (Nat.le_refl _) rfl rfl (by simp [State.shape, State.setHost, hf])

theorem State.Sound.endFor {s q seq met} (h : State.Sound m o n s) (hm : Field.sub [.dict, .tally, .arrs, .queues,
    .bin] m = true) :
    State.Sound m o n (State.endFor s q seq met) := by
  unfold State.endFor
  split
  · exact h
  · exact State.Sound.endItem h (Field.sub_of hm rfl)

theorem State.Sound.landBytes {s q j off b} (h : State.Sound m o n s) (hm : Field.sub [.dict, .tally, .arrs, .queues,
    .mem, .bin, .log] m = true) :
    State.Sound m o n (State.landBytes s q j off b) := by
  unfold State.landBytes
  extract_lets x1 x2
  have h1 : State.Sound m o n x2 := State.Sound.chargeBytes h (Field.sub_of hm rfl)
  clear_value x2
  split
  · rename_i y1 y2 y3 y4
    have h2 : State.Sound m o n y2 := State.SoundF.of y4 (State.Sound.store h1 (Field.sub_of hm rfl))
    split
    · rename_i y5 y6 y7 y8
      have h3 : State.Sound m o n y7 := State.SoundP.of y8 (State.Sound.report h2 (Field.sub_of hm rfl))
      exact State.Sound.endFor h3 (Field.sub_of hm rfl)

theorem State.Sound.moved {s q seq upto} (h : State.Sound m o n s) (hm : Field.sub [.queues] m = true) :
    State.Sound m o n (State.moved s q seq upto) := by
  unfold State.moved
  exact State.Sound.setJob h (Field.sub_of hm rfl)

theorem State.Sound.copyOutChunk {s q j upto bus bits} (h : State.Sound m o n s) (hm : Field.sub [.dict, .tally,
    .arrs, .queues, .mem, .bin, .log, .sent] m = true) :
    State.Sound m o n (State.copyOutChunk s q j upto bus bits) := by
  unfold State.copyOutChunk
  extract_lets x1 x2 x3
  have h1 : State.Sound m o n x3 := State.Sound.chargeBytes h (Field.sub_of hm rfl)
  clear_value x3
  split
  · split
    · rename_i y1 y2 y3 y4 y5 y6 y7 y8
      have h2 : State.Sound m o n y7 := State.SoundP.of y8 (State.Sound.report h1 (Field.sub_of hm rfl))
      exact State.Sound.endFor h2 (Field.sub_of hm rfl)
    · rename_i y1 y2 y3 y4 y5 y6 y7
      have h2 : State.Sound m o n y6 := State.SoundP.of y7 (State.Sound.report h1 (Field.sub_of hm rfl))
      exact State.Sound.moved (State.Sound.emit h2 (Field.sub_of hm rfl)) (Field.sub_of hm rfl)

theorem State.Sound.copyInChunk {s q j e upto bus page size bits host} (h : State.Sound m o n s) (hm : Field.sub
    [.dict, .tally, .arrs, .queues, .mem, .host, .bin, .log, .sent] m = true) :
    State.Sound m o n (State.copyInChunk s q j e upto bus page size bits host) := by
  unfold State.copyInChunk
  extract_lets x1 x2 x3
  have h1 : State.Sound m o n x3 := State.Sound.setEngine h (Field.sub_of hm rfl)
  clear_value x3
  exact State.Sound.ite (State.Sound.moved (State.Sound.landBytes h (Field.sub_of hm rfl)) (Field.sub_of hm rfl))
      (State.Sound.moved (State.Sound.emit h1 (Field.sub_of hm rfl)) (Field.sub_of hm rfl))

theorem State.Sound.copyOutside {s q j a} (h : State.Sound m o n s) (hm : Field.sub [.dict, .tally, .arrs, .queues,
    .bin, .log] m = true) :
    State.Sound m o n (State.copyOutside s q j a) := by
  unfold State.copyOutside
  split
  rename_i y1 y2 y3 y4
  have h1 : State.Sound m o n y3 := State.SoundP.of y4 (State.Sound.violate h (Field.sub_of hm rfl))
  exact State.Sound.endItem h1 (Field.sub_of hm rfl)

theorem State.Sound.copyStep {s q seq e host} (h : State.Sound m o n s) (hm : Field.sub [.dict, .tally, .arrs,
    .queues, .mem, .host, .bin, .log, .sent] m = true) :
    State.SoundP m o n (State.copyStep s q seq e host) := by
  unfold State.copyStep
  split
  · rename_i y1 y2
    exact State.SoundP.mk h
  · rename_i y3 y4 y5
    extract_lets x1
    refine State.SoundP.ite (State.SoundP.mk h) ?_
    refine State.SoundP.ite (State.SoundP.mk (State.Sound.copyOutside h (Field.sub_of hm rfl))) ?_
    split
    · rename_i y6 y7 y8 y9 y10
      have h1 : State.Sound m o n y9 := State.SoundP.of y10 (State.Sound.translate h (Field.sub_of hm rfl))
      extract_lets x2
      exact State.SoundP.mk (State.Sound.translationFault h1 (Field.sub_of hm rfl))
    · rename_i y11 y12 y13 y14 y15 y16 y17 y18
      have h2 : State.Sound m o n y17 := State.SoundP.of y18 (State.Sound.translate h (Field.sub_of hm rfl))
      extract_lets x3
      exact State.SoundP.ite (State.SoundP.mk (State.Sound.endItem h2 (Field.sub_of hm rfl))) (State.SoundP.mk
          (State.Sound.ite (State.Sound.copyOutChunk h2 (Field.sub_of hm rfl)) (State.Sound.copyInChunk h2
          (Field.sub_of hm rfl))))

theorem State.Sound.copySteps {k i seq e b s} (h : State.Sound m o n s)
    (hm : Field.sub [.dict, .tally, .arrs, .queues, .mem, .host, .bin, .log, .sent] m = true) : State.Sound m o n
        (State.copySteps k i seq e b s) := by
  induction k generalizing s with
  | zero => exact h
  | succ k ih =>
    unfold State.copySteps
    split
    · rename_i y1 y2
      exact State.SoundP.of y2 (State.Sound.copyStep h (Field.sub_of hm rfl))
    · rename_i y1 y2
      exact ih (State.SoundP.of y2 (State.Sound.copyStep h (Field.sub_of hm rfl)))

theorem State.Sound.finishCopy {s q seq e} (h : State.Sound m o n s) (hm : Field.sub [.dict, .tally, .arrs, .queues,
    .host, .bin] m = true) :
    State.Sound m o n (State.finishCopy s q seq e) := by
  unfold State.finishCopy
  split
  · exact h
  · extract_lets x1 x2
    have h1 : State.Sound m o n x2 := State.Sound.setEngine h (Field.sub_of hm rfl)
    clear_value x2
    exact State.Sound.ite h (State.Sound.ite (State.Sound.endItem h1 (Field.sub_of hm rfl)) (State.Sound.setJob h1
        (Field.sub_of hm rfl)))

theorem State.Sound.serveTransfer {s q seq host} (h : State.Sound m o n s) (hm : Field.sub [.dict, .tally, .arrs,
    .queues, .mem, .host, .bin, .log, .sent] m = true) :
    State.Sound m o n (State.serveTransfer s q seq host) := by
  unfold State.serveTransfer
  extract_lets x1 x2
  have h1 : State.Sound m o n x2 := State.Sound.setEngine h (Field.sub_of hm rfl)
  clear_value x2
  split
  · rename_i y1 y2
    exact h
  · rename_i y3 y4 y5
    refine State.Sound.ite h ?_
    extract_lets x3
    have h2 : State.Sound m o n x3 := State.Sound.copySteps h1 (Field.sub_of hm rfl)
    clear_value x3
    exact State.Sound.finishCopy h2 (Field.sub_of hm rfl)

theorem State.Sound.fetchOnce {s q d} (h : State.Sound m o n s) (hm : Field.sub [.dict, .tally, .arrs, .queues,
    .mem, .bin, .log, .sent] m = true) :
    State.Sound m o n (State.fetchOnce s q d) := by
  unfold State.fetchOnce
  exact State.Sound.ite h (State.Sound.fetch h (Field.sub_of hm rfl))

theorem State.Sound.copyDescriptor {s q op} (h : State.Sound m o n s) (hm : Field.sub [.dict, .tally, .arrs, .queues,
    .mem, .host, .bin, .log, .sent] m = true) :
    State.Sound m o n (State.copyDescriptor s q op) := by
  unfold State.copyDescriptor
  extract_lets x1
  have h1 : State.Sound m o n x1 := State.Sound.fetchOnce h (Field.sub_of hm rfl)
  clear_value x1
  split
  · exact h1
  · exact State.Sound.ite (State.Sound.serveTransfer h1 (Field.sub_of hm rfl)) h1

theorem State.Sound.imageTransfer {s q op} (h : State.Sound m o n s) (hm : Field.sub [.dict, .tally, .arrs, .queues,
    .mem, .host, .bin, .log, .sent] m = true) :
    State.Sound m o n (State.imageTransfer s q op) := by
  unfold State.imageTransfer
  extract_lets x1
  split
  · rename_i y1 y2
    exact h
  · rename_i y3 y4 y5
    extract_lets x2 x3
    have h1 : State.Sound m o n x3 := State.Sound.ite h (State.Sound.setJob h (Field.sub_of hm rfl))
    clear_value x3
    refine State.Sound.ite h ?_
    refine State.Sound.ite ?_ (State.Sound.ite (State.Sound.endItem h (Field.sub_of hm rfl)) (State.Sound.ite
        (State.Sound.serveTransfer h1 (Field.sub_of hm rfl)) h1))
    split
    rename_i y6 y7 y8 y9
    have h2 : State.Sound m o n y8 := State.SoundP.of y9 (State.Sound.jobFault h (Field.sub_of hm rfl))
    exact State.Sound.endItem h2 (Field.sub_of hm rfl)

theorem State.Sound.of_doCopy {q op s} (h : State.Sound m o n s) (hm : Field.sub [.dict, .clock, .tally, .arrs,
    .queues, .mem, .host, .bin, .log, .sent] m = true) :
    State.Sound m o n (doCopy q op s) := by
  unfold doCopy
  extract_lets x1
  have h1 : State.Sound m o n x1 := State.Sound.advanceCharged h (Field.sub_of hm rfl)
  clear_value x1
  exact State.Sound.dispatch (State.Sound.ite (State.Sound.imageTransfer h1 (Field.sub_of hm rfl))
      (State.Sound.copyDescriptor h1 (Field.sub_of hm rfl))) (Field.sub_of hm rfl)

theorem State.Sound.of_execCopy {q op s} (h : State.Sound m o n s) (hm : Field.sub [.dict, .clock, .tally, .arrs,
    .queues, .mem, .host, .bin, .log, .sent] m = true) :
    State.SoundX m o n (execCopy q op s) := by
  unfold execCopy
  exact State.SoundX.next (State.Sound.of_doCopy h (Field.sub_of hm rfl))

theorem State.Sound.serveFence {s q j} (h : State.Sound m o n s) (hm : Field.sub [.dict, .tally, .arrs, .queues,
    .bin] m = true) :
    State.Sound m o n (State.serveFence s q j) := by
  unfold State.serveFence
  extract_lets x1
  exact State.Sound.ite (State.Sound.endItem h (Field.sub_of hm rfl)) (State.Sound.ite (State.Sound.endItem h
      (Field.sub_of hm rfl)) (State.Sound.ite (State.Sound.endItem (State.Sound.sweep h (Field.sub_of hm rfl))
      (Field.sub_of hm rfl)) h))

theorem State.Sound.of_doFence {t q desc s} (h : State.Sound m o n s) (hm : Field.sub [.dict, .clock, .tally, .arrs,
    .queues, .mem, .bin, .log, .sent] m = true) :
    State.Sound m o n (doFence t q desc s) := by
  unfold doFence
  extract_lets x1
  have h1 : State.Sound m o n x1 := State.Sound.fetchOnce (State.Sound.advanceCharged h (Field.sub_of hm rfl))
      (Field.sub_of hm rfl)
  clear_value x1
  split
  · rename_i y1 y2
    exact h1
  · rename_i y3 y4 y5
    exact State.Sound.dispatch (State.Sound.serveFence h1 (Field.sub_of hm rfl)) (Field.sub_of hm rfl)

theorem State.Sound.of_execFence {t q desc s} (h : State.Sound m o n s) (hm : Field.sub [.dict, .clock, .tally,
    .arrs, .queues, .mem, .bin, .log, .sent] m = true) :
    State.SoundX m o n (execFence t q desc s) := by
  unfold execFence
  exact State.SoundX.next (State.Sound.of_doFence h (Field.sub_of hm rfl))

theorem State.Sound.resumeEngine {s e} (h : State.Sound m o n s) (hm : Field.sub [.dict, .tally, .arrs, .queues,
    .mem, .host, .bin, .log, .sent] m = true) :
    State.Sound m o n (State.resumeEngine s e) := by
  unfold State.resumeEngine
  split
  · exact h
  · exact State.Sound.ite (State.Sound.dispatch (State.Sound.serveTransfer h (Field.sub_of hm rfl)) (Field.sub_of
        hm rfl)) h

theorem State.Sound.completeRead {s e r data} (h : State.Sound m o n s) (hm : Field.sub [.dict, .tally, .arrs,
    .queues, .mem, .host, .bin, .log, .sent] m = true) :
    State.Sound m o n (State.completeRead s e r data) := by
  unfold State.completeRead
  split
  · rename_i y1 y2
    exact h
  · rename_i y3 y4 y5 y6
    split
    · rename_i y7 y8
      exact h
    · rename_i y9 y10 y11
      refine State.Sound.ite h ?_
      extract_lets x1
      have h1 : State.Sound m o n x1 := State.Sound.setEngine h (Field.sub_of hm rfl)
      clear_value x1
      exact State.Sound.resumeEngine (State.Sound.landBytes h1 (Field.sub_of hm rfl)) (Field.sub_of hm rfl)

theorem State.Sound.completeMeshRead {s r data} (h : State.Sound m o n s) (hm : Field.sub [.dict, .fabric, .sent] m
    = true) :
    State.Sound m o n (State.completeMeshRead s r data) := by
  unfold State.completeMeshRead
  extract_lets x1 x2
  have h1 : State.Sound m o n x2 := State.Sound.congr [.fabric] h (Field.sub_of hm rfl) rfl rfl (Nat.le_refl _) rfl
      rfl rfl
  clear_value x2
  exact State.Sound.answerTo h1 (Field.sub_of hm rfl)

theorem State.Sound.of_doHostReadCompletion {t engine tag data s} (h : State.Sound m o n s) (hm : Field.sub [.dict,
    .clock, .tally, .arrs, .queues, .mem, .fabric, .host, .bin, .log, .sent] m = true) :
    State.Sound m o n (doHostReadCompletion t engine tag data s) := by
  unfold doHostReadCompletion
  extract_lets x1 x2
  have h1 : State.Sound m o n x1 := State.Sound.advanceCharged h (Field.sub_of hm rfl)
  clear_value x1
  refine State.Sound.ite (State.Sound.bump (State.Sound.setEngine h1 (Field.sub_of hm rfl)) (Field.sub_of hm rfl)) ?_
  split
  · rename_i y1 y2 y3 y4
    exact State.Sound.completeRead h1 (Field.sub_of hm rfl)
  · rename_i y5 y6 y7 y8 y9
    exact State.Sound.completeMeshRead h1 (Field.sub_of hm rfl)
  · rename_i y10 y11 y12 y13
    exact h1

theorem State.Sound.of_execHostReadCompletion {t engine tag data s} (h : State.Sound m o n s) (hm : Field.sub
    [.dict, .clock, .tally, .arrs, .queues, .mem, .fabric, .host, .bin, .log, .sent] m = true) :
    State.SoundX m o n (execHostReadCompletion t engine tag data s) := by
  unfold execHostReadCompletion
  exact State.SoundX.next (State.Sound.of_doHostReadCompletion h (Field.sub_of hm rfl))

theorem State.Sound.queueBlock {s t q f} (h : State.Sound m o n s) (hm : Field.sub [.clock, .queues] m = true) :
    State.Sound m o n (State.queueBlock s t q f) := by
  unfold State.queueBlock
  extract_lets x1
  have h1 : State.Sound m o n x1 := State.Sound.advance h (Field.sub_of hm rfl)
  clear_value x1
  exact State.Sound.ite (State.Sound.setQueue h1 (Field.sub_of hm rfl)) h1

theorem State.Sound.of_doSqTail {t q value s} (h : State.Sound m o n s) (hm : Field.sub [.clock, .queues] m = true) :
    State.Sound m o n (doSqTail t q value s) := by
  unfold doSqTail
  exact State.Sound.queueBlock h (Field.sub_of hm rfl)

theorem State.Sound.of_execSqTail {t q value s} (h : State.Sound m o n s) (hm : Field.sub [.clock, .queues] m = true)
    :
    State.SoundX m o n (execSqTail t q value s) := by
  unfold execSqTail
  exact State.SoundX.next (State.Sound.of_doSqTail h (Field.sub_of hm rfl))

theorem State.Sound.of_doCqHead {t q value s} (h : State.Sound m o n s) (hm : Field.sub [.clock, .queues] m = true) :
    State.Sound m o n (doCqHead t q value s) := by
  unfold doCqHead
  exact State.Sound.queueBlock h (Field.sub_of hm rfl)

theorem State.Sound.of_execCqHead {t q value s} (h : State.Sound m o n s) (hm : Field.sub [.clock, .queues] m = true)
    :
    State.SoundX m o n (execCqHead t q value s) := by
  unfold execCqHead
  exact State.SoundX.next (State.Sound.of_doCqHead h (Field.sub_of hm rfl))

theorem State.Sound.writeRecords {k i s} (h : State.Sound m o n s)
    (hm : Field.sub [.dict, .tally, .queues, .mem, .host, .bin, .log, .sent] m = true) : State.Sound m o n
        (State.writeRecords k i s) := by
  induction k generalizing s with
  | zero => exact h
  | succ k ih => exact ih (State.Sound.writeRecord h (Field.sub_of hm rfl))

theorem State.Sound.ringOff {s q} (h : State.Sound m o n s) (hm : Field.sub [.dict, .tally, .queues, .mem, .host,
    .bin, .log, .sent] m = true) :
    State.Sound m o n (State.ringOff s q) := by
  unfold State.ringOff
  extract_lets x1
  exact State.Sound.ite h (State.Sound.setQueue (State.Sound.writeRecords h (Field.sub_of hm rfl)) (Field.sub_of hm
      rfl))

theorem State.Sound.of_doRingDisable {t q s} (h : State.Sound m o n s) (hm : Field.sub [.dict, .clock, .tally,
    .queues, .mem, .host, .bin, .log, .sent] m = true) :
    State.Sound m o n (doRingDisable t q s) := by
  unfold doRingDisable
  extract_lets x1
  have h1 : State.Sound m o n x1 := State.Sound.advance h (Field.sub_of hm rfl)
  clear_value x1
  exact State.Sound.ite (State.Sound.ringOff h1 (Field.sub_of hm rfl)) h1

theorem State.Sound.of_execRingDisable {t q s} (h : State.Sound m o n s) (hm : Field.sub [.dict, .clock, .tally,
    .queues, .mem, .host, .bin, .log, .sent] m = true) :
    State.SoundX m o n (execRingDisable t q s) := by
  unfold execRingDisable
  exact State.SoundX.next (State.Sound.of_doRingDisable h (Field.sub_of hm rfl))

theorem State.Sound.ringOn {s q} (h : State.Sound m o n s) (hm : Field.sub [.queues, .host, .sent] m = true) :
    State.Sound m o n (State.ringOn s q) := by
  unfold State.ringOn
  extract_lets x1
  have h1 : State.Sound m o n x1 := State.Sound.setQueue h (Field.sub_of hm rfl)
  clear_value x1
  exact State.Sound.haltForFabric h1 (Field.sub_of hm rfl)

theorem State.Sound.ringControl {s q value} (h : State.Sound m o n s) (hm : Field.sub [.dict, .tally, .queues, .mem,
    .host, .bin, .log, .sent] m = true) :
    State.Sound m o n (State.ringControl s q value) := by
  unfold State.ringControl
  extract_lets x1 x2 x3
  have h1 : State.Sound m o n x3 := State.Sound.setQueue h (Field.sub_of hm rfl)
  clear_value x3
  exact State.Sound.ite (State.Sound.ite h (State.Sound.ringOff h (Field.sub_of hm rfl))) (State.Sound.ite h
      (State.Sound.ite (State.Sound.ringOn h1 (Field.sub_of hm rfl)) h1))

theorem State.Sound.ringRegister {s q w} (h : State.Sound m o n s) (hm : Field.sub [.dict, .tally, .queues, .mem,
    .host, .bin, .log, .sent] m = true) :
    State.Sound m o n (State.ringRegister s q w) := by
  unfold State.ringRegister
  split
  · rename_i y1 y2
    exact State.Sound.ringControl h (Field.sub_of hm rfl)
  · rename_i y3 y4 y5 y6
    exact State.Sound.ite h (State.Sound.ite (State.Sound.setQueue h (Field.sub_of hm rfl)) (State.Sound.setQueue h
        (Field.sub_of hm rfl)))

theorem State.Sound.of_doRingEnable {t q w s} (h : State.Sound m o n s) (hm : Field.sub [.dict, .clock, .tally,
    .queues, .mem, .host, .bin, .log, .sent] m = true) :
    State.Sound m o n (doRingEnable t q w s) := by
  unfold doRingEnable
  extract_lets x1
  have h1 : State.Sound m o n x1 := State.Sound.advance h (Field.sub_of hm rfl)
  clear_value x1
  exact State.Sound.ite (State.Sound.ringRegister h1 (Field.sub_of hm rfl)) h1

theorem State.Sound.of_execRingEnable {t q register high value s} (h : State.Sound m o n s) (hm : Field.sub [.dict, .clock, .tally,
    .queues, .mem, .host, .bin, .log, .sent] m = true) :
    State.SoundX m o n (execRingEnable t q register high value s) := by
  unfold execRingEnable
  exact State.SoundX.next (State.Sound.of_doRingEnable h (Field.sub_of hm rfl))

theorem State.Sound.putRecords {k i s} (h : State.Sound m o n s)
    (hm : Field.sub [.dict, .tally, .queues, .mem, .bin, .log, .sent] m = true) : State.Sound m o n (State.putRecords
        k i s) := by
  induction k generalizing s with
  | zero => exact h
  | succ k ih => exact ih (State.SoundP.snd (State.Sound.putRecord h (Field.sub_of hm rfl)))

theorem State.Sound.resume {s q} (h : State.Sound m o n s) (hm : Field.sub [.dict, .tally, .arrs, .queues, .mem,
    .host, .bin, .log, .sent] m = true) :
    State.Sound m o n (State.resume s q) := by
  unfold State.resume
  extract_lets x1 x2
  have h1 : State.Sound m o n x2 := State.Sound.setQueue h (Field.sub_of hm rfl)
  clear_value x2
  exact State.Sound.ite h (State.Sound.dispatch (State.Sound.sendVector (State.Sound.putRecords h1 (Field.sub_of hm
      rfl)) (Field.sub_of hm rfl)) (Field.sub_of hm rfl))

theorem State.Sound.of_doResume {t q s} (h : State.Sound m o n s) (hm : Field.sub [.dict, .clock, .tally, .arrs,
    .queues, .mem, .host, .bin, .log, .sent] m = true) :
    State.Sound m o n (doResume t q s) := by
  unfold doResume
  extract_lets x1
  have h1 : State.Sound m o n x1 := State.Sound.advanceCharged h (Field.sub_of hm rfl)
  clear_value x1
  exact State.Sound.ite (State.Sound.resume h1 (Field.sub_of hm rfl)) h1

theorem State.Sound.of_execResume {t q s} (h : State.Sound m o n s) (hm : Field.sub [.dict, .clock, .tally, .arrs,
    .queues, .mem, .host, .bin, .log, .sent] m = true) :
    State.SoundX m o n (execResume t q s) := by
  unfold execResume
  exact State.SoundX.next (State.Sound.of_doResume h (Field.sub_of hm rfl))

theorem State.Sound.of_doTlbInvHi {t value s} (h : State.Sound m o n s) (hm : Field.sub [.clock, .mem] m = true) :
    State.Sound m o n (doTlbInvHi t value s) := by
  unfold doTlbInvHi
  extract_lets x1 x2
  have h1 : State.Sound m o n x1 := State.Sound.advance h (Field.sub_of hm rfl)
  clear_value x1
  exact State.Sound.ite (State.Sound.congr [.mem] h1 (Field.sub_of hm rfl) rfl rfl (Nat.le_refl _) rfl rfl rfl) h1

theorem State.Sound.of_execTlbInvHi {t value s} (h : State.Sound m o n s) (hm : Field.sub [.clock, .mem] m = true) :
    State.SoundX m o n (execTlbInvHi t value s) := by
  unfold execTlbInvHi
  exact State.SoundX.next (State.Sound.of_doTlbInvHi h (Field.sub_of hm rfl))

theorem State.Sound.of_doTlbInvLo {t value s} (h : State.Sound m o n s) (hm : Field.sub [.clock, .mem] m = true) :
    State.Sound m o n (doTlbInvLo t value s) := by
  unfold doTlbInvLo
  extract_lets x1
  have h1 : State.Sound m o n x1 := State.Sound.advance h (Field.sub_of hm rfl)
  clear_value x1
  exact State.Sound.ite (State.Sound.invalidate h1 (Field.sub_of hm rfl)) h1

theorem State.Sound.of_execTlbInvLo {t value s} (h : State.Sound m o n s) (hm : Field.sub [.clock, .mem] m = true) :
    State.SoundX m o n (execTlbInvLo t value s) := by
  unfold execTlbInvLo
  exact State.SoundX.next (State.Sound.of_doTlbInvLo h (Field.sub_of hm rfl))

theorem State.Sound.mirrorResolve {s t q retry} (h : State.Sound m o n s) (hm : Field.sub [.dict, .clock, .tally,
    .arrs, .queues, .mem, .bin, .log] m = true) :
    State.Sound m o n (State.mirrorResolve s t q retry) := by
  unfold State.mirrorResolve
  extract_lets x1
  have h1 : State.Sound m o n x1 := State.Sound.advanceCharged h (Field.sub_of hm rfl)
  clear_value x1
  exact State.Sound.ite (State.SoundO.getD (State.Sound.tfResolve h1 (Field.sub_of hm rfl)) h1) h1

theorem State.Sound.presetMirror {s slot high value} (h : State.Sound m o n s) (hm : Field.sub [.dict, .arrs, .host]
    m = true) :
    State.Sound m o n (State.presetMirror s slot high value) := by
  unfold State.presetMirror
  split
  · rename_i y1 y2
    exact h
  · rename_i y3 y4 y5
    exact State.Sound.ite (State.Sound.bump h (Field.sub_of hm rfl)) (State.Sound.ite h (State.Sound.ite
        (State.Sound.setHost h ⟨rfl, rfl⟩ (Field.sub_of hm rfl)) (State.Sound.presetCounter h (Field.sub_of hm
        rfl))))

theorem State.Sound.of_doMirrorPreset {t slot high value s} (h : State.Sound m o n s) (hm : Field.sub [.dict,
    .clock, .arrs, .host] m = true) :
    State.Sound m o n (doMirrorPreset t slot high value s) := by
  unfold doMirrorPreset
  extract_lets x1
  have h1 : State.Sound m o n x1 := State.Sound.advance h (Field.sub_of hm rfl)
  clear_value x1
  exact State.Sound.ite (State.Sound.presetMirror h1 (Field.sub_of hm rfl)) h1

theorem State.Sound.of_execMirrorPreset {t slot high value s} (h : State.Sound m o n s) (hm : Field.sub [.dict,
    .clock, .arrs, .host] m = true) :
    State.SoundX m o n (execMirrorPreset t slot high value s) := by
  unfold execMirrorPreset
  exact State.SoundX.next (State.Sound.of_doMirrorPreset h (Field.sub_of hm rfl))

theorem State.Sound.placementRefused {s offset} (h : State.Sound m o n s) (hm : Field.sub [.dict, .sent] m = true) :
    State.Sound m o n (State.placementRefused s offset) := by
  unfold State.placementRefused
  exact State.Sound.bump (State.Sound.emit h (Field.sub_of hm rfl)) (Field.sub_of hm rfl)

theorem State.Sound.place {s requester a p data} (h : State.Sound m o n s) (hm : Field.sub [.dict, .tally, .queues,
    .mem, .host, .bin, .log] m = true) :
    State.Sound m o n (State.place s requester a p data) := by
  unfold State.place
  extract_lets x1 x2 x3
  have h1 : State.Sound m o n x1 := State.Sound.bumpBy h (Field.sub_of hm rfl)
  clear_value x1
  refine State.Sound.ite h1 ?_
  split
  rename_i y1 y2 y3 y4
  have h2 : State.Sound m o n y2 := State.SoundF.of y4 (State.Sound.store h1 (Field.sub_of hm rfl))
  extract_lets x4 x5
  have h3 : State.Sound m o n x4 := State.SoundP.snd (State.Sound.report h2 (Field.sub_of hm rfl))
  clear_value x4
  exact State.Sound.setHost h3 ⟨rfl, rfl⟩ (Field.sub_of hm rfl)

theorem State.Sound.signal {s requester i e data} (h : State.Sound m o n s) (hm : Field.sub [.dict, .tally, .queues,
    .mem, .host, .bin, .log] m = true) :
    State.Sound m o n (State.signal s requester i e data) := by
  unfold State.signal
  extract_lets x1
  exact State.Sound.drainSignals (State.Sound.setHost h ⟨rfl, rfl⟩ (Field.sub_of hm rfl)) (Field.sub_of hm rfl)

theorem State.Sound.windowBWrite {s requester offset data} (h : State.Sound m o n s) (hm : Field.sub [.dict, .tally,
    .queues, .mem, .host, .bin, .log, .sent] m = true) :
    State.Sound m o n (State.windowBWrite s requester offset data) := by
  unfold State.windowBWrite
  extract_lets x1
  split
  · rename_i y1 y2 y3 y4
    exact State.Sound.place h (Field.sub_of hm rfl)
  · rename_i y5 y6
    split
    · rename_i y7 y8 y9 y10
      exact State.Sound.signal h (Field.sub_of hm rfl)
    · rename_i y11 y12
      exact State.Sound.placementRefused h (Field.sub_of hm rfl)

theorem State.Sound.of_doPlacementWrite {t requester offset data s} (h : State.Sound m o n s) (hm : Field.sub
    [.dict, .clock, .tally, .queues, .mem, .host, .bin, .log, .sent] m = true) :
    State.Sound m o n (doPlacementWrite t requester offset data s) := by
  unfold doPlacementWrite
  extract_lets x1
  have h1 : State.Sound m o n x1 := State.Sound.advance h (Field.sub_of hm rfl)
  clear_value x1
  exact State.Sound.ite (State.Sound.windowBWrite h1 (Field.sub_of hm rfl)) h1

theorem State.Sound.of_execPlacementWrite {t requester offset data s} (h : State.Sound m o n s) (hm : Field.sub
    [.dict, .clock, .tally, .queues, .mem, .host, .bin, .log, .sent] m = true) :
    State.SoundX m o n (execPlacementWrite t requester offset data s) := by
  unfold execPlacementWrite
  exact State.SoundX.next (State.Sound.of_doPlacementWrite h (Field.sub_of hm rfl))

theorem State.Sound.of_doPlacementSignal {t requester entry data s} (h : State.Sound m o n s) (hm : Field.sub
    [.dict, .clock, .tally, .queues, .mem, .host, .bin, .log, .sent] m = true) :
    State.Sound m o n (doPlacementSignal t requester entry data s) := by
  unfold doPlacementSignal
  extract_lets x1
  have h1 : State.Sound m o n x1 := State.Sound.advance h (Field.sub_of hm rfl)
  clear_value x1
  exact State.Sound.ite (State.Sound.windowBWrite h1 (Field.sub_of hm rfl)) h1

theorem State.Sound.of_execPlacementSignal {t requester entry data s} (h : State.Sound m o n s) (hm : Field.sub
    [.dict, .clock, .tally, .queues, .mem, .host, .bin, .log, .sent] m = true) :
    State.SoundX m o n (execPlacementSignal t requester entry data s) := by
  unfold execPlacementSignal
  exact State.SoundX.next (State.Sound.of_doPlacementSignal h (Field.sub_of hm rfl))

theorem State.Sound.of_doWindowBRead {t offset s} (h : State.Sound m o n s) (hm : Field.sub [.clock, .sent] m = true)
    :
    State.Sound m o n (doWindowBRead t offset s) := by
  unfold doWindowBRead
  extract_lets x1
  have h1 : State.Sound m o n x1 := State.Sound.advance h (Field.sub_of hm rfl)
  clear_value x1
  exact State.Sound.ite (State.Sound.emit h1 (Field.sub_of hm rfl)) h1

theorem State.Sound.of_execWindowBRead {t offset s} (h : State.Sound m o n s) (hm : Field.sub [.clock, .sent] m =
    true) :
    State.SoundX m o n (execWindowBRead t offset s) := by
  unfold execWindowBRead
  exact State.SoundX.next (State.Sound.of_doWindowBRead h (Field.sub_of hm rfl))

theorem State.Sound.recordHeld {s e} (h : State.Sound m o n s) (hm : Field.sub [.dict, .mem, .host, .sent] m = true)
    :
    State.Sound m o n (State.recordHeld s e) := by
  unfold State.recordHeld
  split
  · rename_i y1 y2 y3 y4 y5 y6 y7
    exact State.Sound.recordTf h (Field.sub_of hm rfl)
  · rename_i y8 y9 y10
    exact h

theorem State.Sound.rewind {s e} (h : State.Sound m o n s) (hm : Field.sub [.queues] m = true) :
    State.Sound m o n (State.rewind s e) := by
  unfold State.rewind
  extract_lets x1
  split
  · rename_i y1 y2 y3 y4 y5 y6 y7 y8
    exact State.Sound.setJob h (Field.sub_of hm rfl)
  · rename_i y9 y10 y11
    exact h

theorem State.Sound.abandonReads {s} (h : State.Sound m o n s) (hm : Field.sub [.dict, .queues, .mem, .fabric,
    .host, .sent] m = true) :
    State.Sound m o n (State.abandonReads s) := by
  unfold State.abandonReads
  extract_lets x1 x2 x3 x4
  have h2 : State.Sound m o n x1 := State.Sound.foldl h (fun s1 x5 h1 => (State.Sound.rewind (State.Sound.recordHeld
      h1 (Field.sub_of hm rfl)) (Field.sub_of hm rfl)))
  clear_value x1
  have h3 : State.Sound m o n x3 := State.Sound.setHost h2 (by simp) (Field.sub_of hm rfl)
  clear_value x3
  exact State.Sound.congr [.fabric] h3 (Field.sub_of hm rfl) rfl rfl (Nat.le_refl _) rfl rfl rfl

theorem State.Sound.endWhere {s test status cause} (h : State.Sound m o n s) (hm : Field.sub [.dict, .tally, .arrs,
    .queues, .bin] m = true) :
    State.Sound m o n (State.endWhere s test status cause) := by
  unfold State.endWhere
  exact State.Sound.foldl h (fun s1 x1 h1 => State.Sound.foldl h1 (fun s2 x2 h2 => State.Sound.endItem h2
      (Field.sub_of hm rfl)))

theorem State.Sound.bmeLost {s} (h : State.Sound m o n s) (hm : Field.sub [.dict, .tally, .arrs, .queues, .mem,
    .fabric, .host, .bin, .log, .sent] m = true) :
    State.Sound m o n (State.bmeLost s) := by
  unfold State.bmeLost
  refine State.Sound.ite h ?_
  extract_lets x1 x2 x3
  have h1 : State.Sound m o n x1 := State.Sound.setHost h ⟨rfl, rfl⟩ (Field.sub_of hm rfl)
  clear_value x1
  have h2 : State.Sound m o n x2 := State.Sound.endWhere h1 (Field.sub_of hm rfl)
  clear_value x2
  have h5 : State.Sound m o n x3 := by
    unfold x3
    refine State.Sound.foldl h2 (fun s1 x4 h3 => ?_)
    refine State.Sound.ite ?_ h3
    extract_lets x5 x6
    have h4 : State.Sound m o n x6 := State.Sound.setQueue h3 (Field.sub_of hm rfl)
    clear_value x6
    exact State.Sound.ite (State.Sound.sendVector h4 (Field.sub_of hm rfl)) h4
  clear_value x3
  exact State.Sound.dispatch (State.Sound.abandonReads h5 (Field.sub_of hm rfl)) (Field.sub_of hm rfl)

theorem State.Sound.of_doLossOfBusMasterEnable {t s} (h : State.Sound m o n s) (hm : Field.sub [.dict, .clock,
    .tally, .arrs, .queues, .mem, .fabric, .host, .bin, .log, .sent] m = true) :
    State.Sound m o n (doLossOfBusMasterEnable t s) := by
  unfold doLossOfBusMasterEnable
  exact State.Sound.bmeLost (State.Sound.advanceCharged h (Field.sub_of hm rfl)) (Field.sub_of hm rfl)

theorem State.Sound.of_execLossOfBusMasterEnable {t s} (h : State.Sound m o n s) (hm : Field.sub [.dict, .clock,
    .tally, .arrs, .queues, .mem, .fabric, .host, .bin, .log, .sent] m = true) :
    State.SoundX m o n (execLossOfBusMasterEnable t s) := by
  unfold execLossOfBusMasterEnable
  exact State.SoundX.next (State.Sound.of_doLossOfBusMasterEnable h (Field.sub_of hm rfl))

theorem State.Sound.sendPending {s} (h : State.Sound m o n s) (hm : Field.sub [.host, .sent] m = true) :
    State.Sound m o n (State.sendPending s) := by
  unfold State.sendPending
  exact State.Sound.foldl h (fun s1 x1 h1 => State.Sound.ite (State.Sound.emit (State.Sound.setHost h1 (⟨rfl, rfl⟩)
      (Field.sub_of hm rfl)) (Field.sub_of hm rfl)) h1)

theorem State.Sound.hostReopened {s} (h : State.Sound m o n s) (hm : Field.sub [.host, .sent] m = true) :
    State.Sound m o n (State.hostReopened s) := by
  unfold State.hostReopened
  refine State.Sound.ite h ?_
  extract_lets x1 x2
  have h1 : State.Sound m o n x2 := State.Sound.setHost h ⟨rfl, rfl⟩ (Field.sub_of hm rfl)
  clear_value x2
  exact State.Sound.sendPending (State.Sound.foldl h1 (fun s1 x3 h2 => (State.Sound.sendResponse h2 (Field.sub_of hm
      rfl)))) (Field.sub_of hm rfl)

theorem State.Sound.of_doBusMasterEnableSet {t s} (h : State.Sound m o n s) (hm : Field.sub [.clock, .host, .sent] m
    = true) :
    State.Sound m o n (doBusMasterEnableSet t s) := by
  unfold doBusMasterEnableSet
  extract_lets x1
  have h1 : State.Sound m o n x1 := State.Sound.advance h (Field.sub_of hm rfl)
  clear_value x1
  exact State.Sound.ite h1 (State.Sound.hostReopened (State.Sound.setHost h1 ⟨rfl, rfl⟩ (Field.sub_of hm rfl))
      (Field.sub_of hm rfl))

theorem State.Sound.of_execBusMasterEnableSet {t s} (h : State.Sound m o n s) (hm : Field.sub [.clock, .host, .sent]
    m = true) :
    State.SoundX m o n (execBusMasterEnableSet t s) := by
  unfold execBusMasterEnableSet
  exact State.SoundX.next (State.Sound.of_doBusMasterEnableSet h (Field.sub_of hm rfl))

theorem State.Sound.configAccess {s c} (h : State.Sound m o n s) (hm : Field.sub [.host, .sent] m = true) :
    State.Sound m o n (State.configAccess s c) := by
  unfold State.configAccess
  split
  · rename_i y1 y2
    exact State.Sound.setHost h ⟨rfl, rfl⟩ (Field.sub_of hm rfl)
  · rename_i y3 y4 y5
    exact State.Sound.setHost h ⟨rfl, rfl⟩ (Field.sub_of hm rfl)
  · rename_i y6 y7 y8
    exact State.Sound.setHost h ⟨rfl, rfl⟩ (Field.sub_of hm rfl)
  · rename_i y9 y10 y11
    exact State.Sound.setHost h ⟨rfl, rfl⟩ (Field.sub_of hm rfl)
  · rename_i y12 y13
    exact State.Sound.hostReopened (State.Sound.setHost h ⟨rfl, rfl⟩ (Field.sub_of hm rfl)) (Field.sub_of hm rfl)
  · rename_i y14 y15 y16
    exact State.Sound.sendPending (State.Sound.setHost h ⟨rfl, rfl⟩ (Field.sub_of hm rfl)) (Field.sub_of hm rfl)
  · rename_i y17 y18
    exact State.Sound.emit h (Field.sub_of hm rfl)

theorem State.Sound.of_doMemorySpaceEnable {t c s} (h : State.Sound m o n s) (hm : Field.sub [.clock, .host, .sent]
    m = true) :
    State.Sound m o n (doMemorySpaceEnable t c s) := by
  unfold doMemorySpaceEnable
  extract_lets x1
  have h1 : State.Sound m o n x1 := State.Sound.advance h (Field.sub_of hm rfl)
  clear_value x1
  exact State.Sound.ite h1 (State.Sound.ite (State.Sound.configAccess h1 (Field.sub_of hm rfl)) (State.Sound.emit h1
      (Field.sub_of hm rfl)))

theorem State.Sound.of_execMemorySpaceEnable {t c s} (h : State.Sound m o n s) (hm : Field.sub [.clock, .host,
    .sent] m = true) :
    State.SoundX m o n (execMemorySpaceEnable t c s) := by
  unfold execMemorySpaceEnable
  exact State.SoundX.next (State.Sound.of_doMemorySpaceEnable h (Field.sub_of hm rfl))

theorem State.Sound.resetLinked {s} (h : State.Sound m o n s) (hm : Field.sub [.queues] m = true) :
    State.Sound m o n (State.resetLinked s) := by
  unfold State.resetLinked
  exact State.Sound.congr [.queues] h (Field.sub_of hm rfl) rfl rfl (Nat.le_refl _) rfl rfl (by simp [State.shape])

theorem State.Sound.resetFunction {s} (h : State.Sound m o n s)
    (hm : Field.sub [.mem, .host] m = true) : State.Sound m o n (State.resetFunction s) := by
  unfold State.resetFunction
  extract_lets x1 x2 x3 x4
  have h1 : State.Sound m o n x4 := State.Sound.congr [.mem] h (Field.sub_of hm rfl) rfl rfl (Nat.le_refl _) rfl rfl
      rfl
  refine State.Sound.renewed [.host] h1 (Field.sub_of hm rfl) rfl (Nat.le_refl _) (fun g => ⟨g.1, ?_⟩)
  have := (State.shaped_iff x4).1 g.2
  rw [State.shaped_iff]
  exact ⟨this.1, this.2.1, this.2.2.1, this.2.2.2.1, this.2.2.2.2.1, this.2.2.2.2.2.1, this.2.2.2.2.2.2.1,
    by simp [State.setHost, x2, x1, ← this.2.2.2.2.2.2.2.1, x4], this.2.2.2.2.2.2.2.2.1,
    this.2.2.2.2.2.2.2.2.2.1, this.2.2.2.2.2.2.2.2.2.2.1, this.2.2.2.2.2.2.2.2.2.2.2⟩

theorem State.Sound.forgetResponses {s p} (h : State.Sound m o n s) (hm : Field.sub [.ports, .mem] m = true) :
    State.Sound m o n (State.forgetResponses s p) := by
  unfold State.forgetResponses
  extract_lets x1 x2
  have h1 : State.Sound m o n x2 := State.Sound.congr [.mem] h (Field.sub_of hm rfl) rfl rfl (Nat.le_refl _) rfl rfl
      rfl
  clear_value x2
  exact State.Sound.setPort h1 (Field.sub_of hm rfl)

theorem State.Sound.resetPortH {s} (h : State.Sound m o n s) (hm : Field.sub [.dict, .ports, .mem] m = true) :
    State.Sound m o n (State.resetPortH s) := by
  unfold State.resetPortH
  exact State.Sound.setPort (State.Sound.forgetResponses (State.Sound.discardTransfer h (Field.sub_of hm rfl))
      (Field.sub_of hm rfl)) (Field.sub_of hm rfl)

theorem State.Sound.restartNotifies {s} (h : State.Sound m o n s) (hm : Field.sub [.ports] m = true) :
    State.Sound m o n (State.restartNotifies s) := by
  unfold State.restartNotifies
  exact State.Sound.setPort h (Field.sub_of hm rfl)

theorem State.Sound.of_doFunctionLevelReset {t s} (h : State.Sound m o n s) (hm : Field.sub [.dict, .clock, .tally,
    .own, .ports, .arrs, .queues, .mem, .fabric, .host, .bin, .log, .sent] m = true) :
    State.Sound m o n (doFunctionLevelReset t s) := by
  unfold doFunctionLevelReset
  extract_lets x1 x2 x3 x4
  have h1 : State.Sound m o n x1 := State.Sound.advanceCharged h (Field.sub_of hm rfl)
  clear_value x1
  have h2 : State.Sound m o n x2 := State.Sound.resetFunction (State.Sound.abandonReads (State.Sound.resetLinked
      (State.Sound.endWhere h1 (Field.sub_of hm rfl)) (Field.sub_of hm rfl)) (Field.sub_of hm rfl)) (Field.sub_of hm
      rfl)
  clear_value x2
  have h3 : State.Sound m o n x3 := State.Sound.setHost h2 ⟨rfl, rfl⟩ (Field.sub_of hm rfl)
  clear_value x3
  have h4 : State.Sound m o n x4 := State.Sound.bump (State.Sound.setNum h3 (Field.sub_of hm rfl)) (Field.sub_of hm
      rfl)
  clear_value x4
  exact State.Sound.ite h1 (State.Sound.dispatch (State.Sound.restartNotifies (State.Sound.resetPortH
      (State.Sound.portHLost h4 (Field.sub_of hm rfl)) (Field.sub_of hm rfl)) (Field.sub_of hm rfl)) (Field.sub_of
      hm rfl))

theorem State.Sound.of_execFunctionLevelReset {t s} (h : State.Sound m o n s) (hm : Field.sub [.dict, .clock,
    .tally, .own, .ports, .arrs, .queues, .mem, .fabric, .host, .bin, .log, .sent] m = true) :
    State.SoundX m o n (execFunctionLevelReset t s) := by
  unfold execFunctionLevelReset
  exact State.SoundX.next (State.Sound.of_doFunctionLevelReset h (Field.sub_of hm rfl))

theorem State.Sound.of_doPcieFunctionReady {t s} (h : State.Sound m o n s) (hm : Field.sub [.clock, .host] m = true)
    :
    State.Sound m o n (doPcieFunctionReady t s) := by
  unfold doPcieFunctionReady
  extract_lets x1
  have h1 : State.Sound m o n x1 := State.Sound.advance h (Field.sub_of hm rfl)
  clear_value x1
  exact State.Sound.ite h1 (State.Sound.setHost h1 (⟨rfl, rfl⟩) (Field.sub_of hm rfl))

theorem State.Sound.of_execPcieFunctionReady {t s} (h : State.Sound m o n s) (hm : Field.sub [.clock, .host] m =
    true) :
    State.SoundX m o n (execPcieFunctionReady t s) := by
  unfold execPcieFunctionReady
  exact State.SoundX.next (State.Sound.of_doPcieFunctionReady h (Field.sub_of hm rfl))

theorem State.Sound.of_doPcieLinkUp {t speed width s} (h : State.Sound m o n s) (hm : Field.sub [.clock, .ports,
    .host] m = true) :
    State.Sound m o n (doPcieLinkUp t speed width s) := by
  unfold doPcieLinkUp
  extract_lets x1 x2
  have h1 : State.Sound m o n x1 := State.Sound.advance h (Field.sub_of hm rfl)
  clear_value x1
  have h2 : State.Sound m o n x2 := State.Sound.setHost h1 (⟨rfl, rfl⟩) (Field.sub_of hm rfl)
  clear_value x2
  exact State.Sound.ite h1 (State.Sound.setPort h2 (Field.sub_of hm rfl))

theorem State.Sound.of_execPcieLinkUp {t speed width s} (h : State.Sound m o n s) (hm : Field.sub [.clock, .ports,
    .host] m = true) :
    State.SoundX m o n (execPcieLinkUp t speed width s) := by
  unfold execPcieLinkUp
  exact State.SoundX.next (State.Sound.of_doPcieLinkUp h (Field.sub_of hm rfl))

theorem State.Sound.linkLost {s} (h : State.Sound m o n s) (hm : Field.sub [.dict, .tally, .own, .ports, .arrs,
    .queues, .mem, .fabric, .host, .bin, .log, .sent] m = true) :
    State.Sound m o n (State.linkLost s) := by
  unfold State.linkLost
  extract_lets x1
  have h1 : State.Sound m o n x1 := State.Sound.setHost (State.Sound.bmeLost h (Field.sub_of hm rfl)) ⟨rfl, rfl⟩
      (Field.sub_of hm rfl)
  clear_value x1
  exact State.Sound.setPort (State.Sound.portHLost h1 (Field.sub_of hm rfl)) (Field.sub_of hm rfl)

theorem State.Sound.of_doPcieLinkDown {t s} (h : State.Sound m o n s) (hm : Field.sub [.dict, .clock, .tally, .own,
    .ports, .arrs, .queues, .mem, .fabric, .host, .bin, .log, .sent] m = true) :
    State.Sound m o n (doPcieLinkDown t s) := by
  unfold doPcieLinkDown
  extract_lets x1
  have h1 : State.Sound m o n x1 := State.Sound.advanceCharged h (Field.sub_of hm rfl)
  clear_value x1
  exact State.Sound.ite (State.Sound.linkLost h1 (Field.sub_of hm rfl)) h1

theorem State.Sound.of_execPcieLinkDown {t s} (h : State.Sound m o n s) (hm : Field.sub [.dict, .clock, .tally,
    .own, .ports, .arrs, .queues, .mem, .fabric, .host, .bin, .log, .sent] m = true) :
    State.SoundX m o n (execPcieLinkDown t s) := by
  unfold execPcieLinkDown
  exact State.SoundX.next (State.Sound.of_doPcieLinkDown h (Field.sub_of hm rfl))

theorem State.Sound.setRing {s f} (h : State.Sound m o n s) (hm : Field.sub [.host] m = true) :
    State.Sound m o n (State.setRing s f) := by
  unfold State.setRing
  exact State.Sound.setHost h (⟨rfl, rfl⟩) (Field.sub_of hm rfl)

theorem State.Sound.of_doCrReqTail {t value s} (h : State.Sound m o n s) (hm : Field.sub [.clock, .host] m = true) :
    State.Sound m o n (doCrReqTail t value s) := by
  unfold doCrReqTail
  extract_lets x1
  have h1 : State.Sound m o n x1 := State.Sound.advance h (Field.sub_of hm rfl)
  clear_value x1
  exact State.Sound.ite (State.Sound.setRing h1 (Field.sub_of hm rfl)) h1

theorem State.Sound.of_execCrReqTail {t value s} (h : State.Sound m o n s) (hm : Field.sub [.clock, .host] m = true)
    :
    State.SoundX m o n (execCrReqTail t value s) := by
  unfold execCrReqTail
  exact State.SoundX.next (State.Sound.of_doCrReqTail h (Field.sub_of hm rfl))

theorem State.Sound.of_doCrRspHead {t value s} (h : State.Sound m o n s) (hm : Field.sub [.clock, .host] m = true) :
    State.Sound m o n (doCrRspHead t value s) := by
  unfold doCrRspHead
  extract_lets x1
  have h1 : State.Sound m o n x1 := State.Sound.advance h (Field.sub_of hm rfl)
  clear_value x1
  exact State.Sound.ite (State.Sound.setRing h1 (Field.sub_of hm rfl)) h1

theorem State.Sound.of_execCrRspHead {t value s} (h : State.Sound m o n s) (hm : Field.sub [.clock, .host] m = true)
    :
    State.SoundX m o n (execCrRspHead t value s) := by
  unfold execCrRspHead
  exact State.SoundX.next (State.Sound.of_doCrRspHead h (Field.sub_of hm rfl))

theorem State.Sound.crControl {s value} (h : State.Sound m o n s) (hm : Field.sub [.host] m = true) :
    State.Sound m o n (State.crControl s value) := by
  unfold State.crControl
  extract_lets x1
  exact State.Sound.ite (State.Sound.setRing h (Field.sub_of hm rfl)) (State.Sound.ite h (State.Sound.setRing h
      (Field.sub_of hm rfl)))

theorem State.Sound.crRegister {s w} (h : State.Sound m o n s) (hm : Field.sub [.host] m = true) :
    State.Sound m o n (State.crRegister s w) := by
  unfold State.crRegister
  split
  · rename_i y1 y2
    exact State.Sound.crControl h (Field.sub_of hm rfl)
  · rename_i y3 y4 y5 y6
    exact State.Sound.ite h (State.Sound.ite (State.Sound.setRing h (Field.sub_of hm rfl)) (State.Sound.setRing h
        (Field.sub_of hm rfl)))

theorem State.Sound.of_doControlRingEnable {t w s} (h : State.Sound m o n s) (hm : Field.sub [.clock, .host] m =
    true) :
    State.Sound m o n (doControlRingEnable t w s) := by
  unfold doControlRingEnable
  extract_lets x1
  have h1 : State.Sound m o n x1 := State.Sound.advance h (Field.sub_of hm rfl)
  clear_value x1
  exact State.Sound.ite (State.Sound.crRegister h1 (Field.sub_of hm rfl)) h1

theorem State.Sound.of_execControlRingEnable {t register high value s} (h : State.Sound m o n s) (hm : Field.sub [.clock, .host] m =
    true) :
    State.SoundX m o n (execControlRingEnable t register high value s) := by
  unfold execControlRingEnable
  exact State.SoundX.next (State.Sound.of_doControlRingEnable h (Field.sub_of hm rfl))

/-! ## Settle -/

theorem State.Sound.endQueueAt {s q status cause tick offset} (h : State.Sound m o n s) (hm : Field.sub [.dict,
    .tally, .arrs, .queues, .bin] m = true) :
    State.Sound m o n (State.endQueueAt s q status cause tick offset) := by
  unfold State.endQueueAt
  exact State.Sound.foldl h (fun s1 x1 h1 => State.Sound.endItemAt h1 (Field.sub_of hm rfl))

theorem State.Sound.settleQueue {s old tick offset q} (h : State.Sound m o n s) (hm : Field.sub [.dict, .tally,
    .arrs, .queues, .bin] m = true) :
    State.Sound m o n (State.settleQueue s old tick offset q) := by
  unfold State.settleQueue
  extract_lets x1 x2
  exact State.Sound.ite h (State.Sound.ite (State.Sound.setQueue h (Field.sub_of hm rfl)) (State.Sound.setQueue
      (State.Sound.endQueueAt h (Field.sub_of hm rfl)) (Field.sub_of hm rfl)))

theorem State.Sound.settlePartition {s old tick offset p} (h : State.Sound m o n s) (hm : Field.sub [.dict, .tally,
    .arrs, .queues, .bin] m = true) :
    State.Sound m o n (State.settlePartition s old tick offset p) := by
  unfold State.settlePartition
  exact State.Sound.ite (State.Sound.foldl h (fun s1 x1 h1 => State.Sound.ite (State.Sound.endQueueAt h1
      (Field.sub_of hm rfl)) h1)) h

theorem State.Sound.settleSlot {s t k2} (h : State.Sound m o n s) (hm : Field.sub [.dict, .tally, .ingest, .queues,
    .mem, .bin, .log] m = true) :
    State.Sound m o n (State.settleSlot s t k2) := by
  unfold State.settleSlot
  extract_lets x1 x2
  exact State.Sound.ite (State.Sound.startSlot h (Field.sub_of hm rfl)) (State.Sound.ite (State.Sound.stopSlot h
      (Field.sub_of hm rfl)) h)

theorem State.Sound.settleContext {s old c} (h : State.Sound m o n s) (hm : Field.sub [.ingest] m = true) :
    State.Sound m o n (State.settleContext s old c) := by
  unfold State.settleContext
  exact State.Sound.ite (State.Sound.setCtx h (Field.sub_of hm rfl)) h

theorem State.Sound.settleUnits {s old t tick offset} (h : State.Sound m o n s) (hm : Field.sub [.dict, .tally,
    .ingest, .arrs, .queues, .mem, .bin, .log] m = true) :
    State.Sound m o n (State.settleUnits s old t tick offset) := by
  unfold State.settleUnits
  extract_lets x1 x2 x3
  have h1 : State.Sound m o n x1 := State.Sound.foldl h (fun s1 x4 h1 => State.Sound.settlePartition h1
      (Field.sub_of hm rfl))
  clear_value x1
  have h2 : State.Sound m o n x2 := State.Sound.foldl h1 (fun s1 x4 h2 => State.Sound.settleQueue h2 (Field.sub_of
      hm rfl))
  clear_value x2
  have h3 : State.Sound m o n x3 := State.Sound.foldl h2 (fun s1 x4 h3 => State.Sound.settleSlot h3 (Field.sub_of hm
      rfl))
  clear_value x3
  exact State.Sound.foldl h3 (fun s1 x4 h4 => State.Sound.settleContext h4 (Field.sub_of hm rfl))

end Sys2Proof.Machine
end

