-- ==== Sys2Proof/Laws/KeepTick.lean ====
section
/-! SUPPORT. Laws/KeepTick: what the tick generator, keys and encoders keep (`State.Sound`: the parts
touched, device time, the invariant). -/

namespace Sys2Proof.Machine

variable {m : List Field} {o : State} {n : Nat}

/-! ## Tick -/

/-- A change of the tick generator that does not set device time back. -/
theorem State.Sound.setTick {s f} (d : List Field) (h : State.Sound m o n s) (hm : Field.sub d m = true)
    (hp : s.setTick f = State.patch d s (s.setTick f)) (hf : s.tick.now ≤ (f s.tick).now) :
    State.Sound m o n (State.setTick s f) :=
  State.Sound.congr d h hm hp rfl hf rfl rfl rfl

theorem State.Sound.placeMeridian {s z2} (h : State.Sound m o n s) (hm : Field.sub [.dict, .tick] m = true) :
    State.Sound m o n (State.placeMeridian s z2) := by
  unfold State.placeMeridian
  exact State.Sound.bump (State.Sound.setTick [.tick] h (Field.sub_of hm rfl) rfl ((Nat.le_refl _))) (Field.sub_of
      hm rfl)

theorem State.Sound.failNear {s et z3} (h : State.Sound m o n s) (hm : Field.sub [.tick] m = true) :
    State.Sound m o n (State.failNear s et z3) := by
  unfold State.failNear
  extract_lets x1
  exact State.Sound.ite (State.Sound.setTick [.tick] h (Field.sub_of hm rfl) rfl ((Nat.le_refl _))) h

theorem State.Sound.realignEvent {s et ok} (h : State.Sound m o n s) (hm : Field.sub [.dict, .tick] m = true) :
    State.Sound m o n (State.realignEvent s et ok) := by
  unfold State.realignEvent
  extract_lets x1
  exact State.Sound.ite (State.Sound.failNear h (Field.sub_of hm rfl)) (State.Sound.ite (State.Sound.bump h
      (Field.sub_of hm rfl)) (State.Sound.ite (State.Sound.setTick [.tick] (State.Sound.placeMeridian h
      (Field.sub_of hm rfl)) (Field.sub_of hm rfl) rfl (Nat.le_refl _)) (State.Sound.bump h (Field.sub_of hm rfl))))

theorem State.Sound.startEvent {s et ok} (h : State.Sound m o n s) (hm : Field.sub [.dict, .tick] m = true) :
    State.Sound m o n (State.startEvent s et ok) := by
  unfold State.startEvent
  extract_lets x1
  exact State.Sound.ite (State.Sound.failNear h (Field.sub_of hm rfl)) (State.Sound.ite (State.Sound.bump h
      (Field.sub_of hm rfl)) (State.Sound.ite (State.Sound.setTick [.tick] (State.Sound.placeMeridian h
      (Field.sub_of hm rfl)) (Field.sub_of hm rfl) rfl ((Nat.le_refl _))) (State.Sound.bump h (Field.sub_of hm
      rfl))))

theorem State.Sound.windowEvent {s et ok} (h : State.Sound m o n s) (hm : Field.sub [.dict, .tick] m = true) :
    State.Sound m o n (State.windowEvent s et ok) := by
  unfold State.windowEvent
  extract_lets x1 x2 x3
  exact State.Sound.ite (State.Sound.setTick [.tick] h (Field.sub_of hm rfl) rfl ((Nat.le_refl _))) (State.Sound.bump
      (State.Sound.setTick [.tick] h (Field.sub_of hm rfl) rfl ((Nat.le_refl _))) (Field.sub_of hm rfl))

theorem State.Sound.fixEvent {s t ok} (h : State.Sound m o n s) (hm : Field.sub [.dict, .tick] m = true) :
    State.Sound m o n (State.fixEvent s t ok) := by
  unfold State.fixEvent
  extract_lets x1
  exact State.Sound.ite (State.Sound.startEvent h (Field.sub_of hm rfl)) (State.Sound.ite (State.Sound.realignEvent
      h (Field.sub_of hm rfl)) (State.Sound.windowEvent h (Field.sub_of hm rfl)))

theorem State.Sound.of_doPinEventQualified {t pin falling s} (h : State.Sound m o n s) (hm : Field.sub [.dict,
    .tick, .clock, .tally, .arrs, .queues, .mem, .bin, .log] m = true) :
    State.Sound m o n (doPinEventQualified t pin falling s) := by
  unfold doPinEventQualified
  extract_lets x1
  have h1 : State.Sound m o n x1 := State.Sound.advanceCharged h (Field.sub_of hm rfl)
  clear_value x1
  exact State.Sound.ite (State.Sound.fixEvent h1 (Field.sub_of hm rfl)) h1

theorem State.Sound.of_execPinEventQualified {t edge s} (h : State.Sound m o n s) (hm : Field.sub [.dict,
    .tick, .clock, .tally, .arrs, .queues, .mem, .bin, .log] m = true) :
    State.SoundX m o n (execPinEventQualified t edge s) := by
  unfold execPinEventQualified
  exact State.SoundX.next (State.Sound.of_doPinEventQualified h (Field.sub_of hm rfl))

theorem State.Sound.of_doPinEventUnqualified {t pin falling width s} (h : State.Sound m o n s) (hm : Field.sub
    [.dict, .tick, .clock, .tally, .arrs, .queues, .mem, .bin, .log] m = true) :
    State.Sound m o n (doPinEventUnqualified t pin falling width s) := by
  unfold doPinEventUnqualified
  extract_lets x1
  have h1 : State.Sound m o n x1 := State.Sound.advanceCharged h (Field.sub_of hm rfl)
  clear_value x1
  exact State.Sound.ite (State.Sound.fixEvent h1 (Field.sub_of hm rfl)) h1

theorem State.Sound.of_execPinEventUnqualified {t pulse s} (h : State.Sound m o n s) (hm : Field.sub
    [.dict, .tick, .clock, .tally, .arrs, .queues, .mem, .bin, .log] m = true) :
    State.SoundX m o n (execPinEventUnqualified t pulse s) := by
  unfold execPinEventUnqualified
  exact State.SoundX.next (State.Sound.of_doPinEventUnqualified h (Field.sub_of hm rfl))

theorem State.Sound.of_doGptpScheduleEvent {t s} (h : State.Sound m o n s) (hm : Field.sub [.dict, .tick, .clock,
    .tally, .arrs, .queues, .mem, .bin, .log] m = true) :
    State.Sound m o n (doGptpScheduleEvent t s) := by
  unfold doGptpScheduleEvent
  extract_lets x1
  have h1 : State.Sound m o n x1 := State.Sound.advanceCharged h (Field.sub_of hm rfl)
  clear_value x1
  exact State.Sound.ite (State.Sound.fixEvent h1 (Field.sub_of hm rfl)) h1

theorem State.Sound.of_execGptpScheduleEvent {t s} (h : State.Sound m o n s) (hm : Field.sub [.dict, .tick, .clock,
    .tally, .arrs, .queues, .mem, .bin, .log] m = true) :
    State.SoundX m o n (execGptpScheduleEvent t s) := by
  unfold execGptpScheduleEvent
  exact State.SoundX.next (State.Sound.of_doGptpScheduleEvent h (Field.sub_of hm rfl))

theorem State.Sound.enterDeadReckoning {s} (h : State.Sound m o n s) (hm : Field.sub [.dict, .tick, .ports, .host,
    .sent] m = true) :
    State.Sound m o n (State.enterDeadReckoning s) := by
  unfold State.enterDeadReckoning
  extract_lets x1
  have h1 : State.Sound m o n x1 := State.Sound.bump (State.Sound.setTick [.tick] h (Field.sub_of hm rfl) rfl
      ((Nat.le_refl _))) (Field.sub_of hm rfl)
  clear_value x1
  exact State.Sound.notify h1 (Field.sub_of hm rfl)

theorem State.Sound.miss {s} (h : State.Sound m o n s) (hm : Field.sub [.dict, .tick, .ports, .host, .sent] m = true)
    :
    State.Sound m o n (State.miss s) := by
  unfold State.miss
  extract_lets x1 x2
  have h1 : State.Sound m o n x2 := State.Sound.setTick [.tick] h (Field.sub_of hm rfl) rfl ((Nat.le_refl _))
  clear_value x2
  exact State.Sound.ite h1 (State.Sound.ite (State.Sound.enterDeadReckoning h1 (Field.sub_of hm rfl))
      (State.Sound.setTick [.tick] h1 (Field.sub_of hm rfl) rfl ((Nat.le_refl _))))

theorem State.Sound.classify {s} (h : State.Sound m o n s) (hm : Field.sub [.dict, .tick, .ports, .host, .sent] m =
    true) :
    State.SoundP3 m o n (State.classify s) := by
  unfold State.classify
  extract_lets x1 x2
  split
  · rename_i y1 y2 y3
    extract_lets x3 x4
    have h1 : State.Sound m o n x4 := State.Sound.setTick [.tick] h (Field.sub_of hm rfl) rfl (Nat.le_refl _)
    clear_value x4
    exact State.SoundP3.ite (State.SoundP3.mk h1) (State.SoundP3.ite (State.SoundP3.mk (State.Sound.bump h1
        (Field.sub_of hm rfl))) (State.SoundP3.mk (State.Sound.bump h1 (Field.sub_of hm rfl))))
  · rename_i y4 y5
    exact State.SoundP3.ite (State.SoundP3.mk (State.Sound.miss (State.Sound.bump h (Field.sub_of hm rfl))
        (Field.sub_of hm rfl))) (State.SoundP3.mk (State.Sound.miss (State.Sound.bump h (Field.sub_of hm rfl))
        (Field.sub_of hm rfl)))

theorem State.Sound.fixNext {s slew error status outside} (h : State.Sound m o n s) (hm : Field.sub [.tick] m = true)
    :
    State.Sound m o n (State.fixNext s slew error status outside) := by
  unfold State.fixNext
  extract_lets x1
  exact State.Sound.setTick [.tick] h (Field.sub_of hm rfl) rfl ((Nat.le_refl _))

theorem State.Sound.closeWindow {s} (h : State.Sound m o n s) (hm : Field.sub [.dict, .tick, .ports, .host, .sent] m
    = true) :
    State.Sound m o n (State.closeWindow s) := by
  unfold State.closeWindow
  extract_lets x1
  split
  rename_i y1 y2 y3 y4 y5 y6
  have h1 : State.Sound m o n y5 := State.SoundP3.of y6 (State.Sound.classify h (Field.sub_of hm rfl))
  exact State.Sound.fixNext h1 (Field.sub_of hm rfl)

theorem State.Sound.of_doCaptureWindowClose {s} (h : State.Sound m o n s) (hm : Field.sub [.dict, .tick, .clock,
    .tally, .ports, .arrs, .queues, .mem, .host, .bin, .log, .sent] m = true) :
    State.Sound m o n (doCaptureWindowClose s) := by
  unfold doCaptureWindowClose
  extract_lets x1 x2
  have h1 : State.Sound m o n x2 := State.Sound.advanceCharged h (Field.sub_of hm rfl)
  clear_value x2
  exact State.Sound.ite h (State.Sound.ite (State.Sound.closeWindow h1 (Field.sub_of hm rfl)) (State.Sound.setTick
      [.tick] h1 (Field.sub_of hm rfl) rfl (Nat.le_refl _)))

theorem State.Sound.of_execCaptureWindowClose {s} (h : State.Sound m o n s) (hm : Field.sub [.dict, .tick, .clock,
    .tally, .ports, .arrs, .queues, .mem, .host, .bin, .log, .sent] m = true) :
    State.SoundX m o n (execCaptureWindowClose s) := by
  unfold execCaptureWindowClose
  exact State.SoundX.next (State.Sound.of_doCaptureWindowClose h (Field.sub_of hm rfl))

theorem State.Sound.of_doRealignSearchTimeout {s} (h : State.Sound m o n s) (hm : Field.sub [.dict, .tick, .clock,
    .tally, .ports, .arrs, .queues, .mem, .host, .bin, .log, .sent] m = true) :
    State.Sound m o n (doRealignSearchTimeout s) := by
  unfold doRealignSearchTimeout
  extract_lets x1 x2 x3 x4 x5
  have h1 : State.Sound m o n x3 := State.Sound.advanceCharged h (Field.sub_of hm rfl)
  clear_value x3
  have h2 : State.Sound m o n x5 := State.Sound.bump (State.Sound.advanceCharged h (Field.sub_of hm rfl))
      (Field.sub_of hm rfl)
  clear_value x5
  exact State.Sound.ite h (State.Sound.ite (State.Sound.setTick [.tick] h1 (Field.sub_of hm rfl) rfl (Nat.le_refl
      _)) (State.Sound.ite h (State.Sound.setTick [.tick] (State.Sound.miss h2 (Field.sub_of hm rfl)) (Field.sub_of
      hm rfl) rfl (Nat.le_refl _))))

theorem State.Sound.of_execRealignSearchTimeout {s} (h : State.Sound m o n s) (hm : Field.sub [.dict, .tick, .clock,
    .tally, .ports, .arrs, .queues, .mem, .host, .bin, .log, .sent] m = true) :
    State.SoundX m o n (execRealignSearchTimeout s) := by
  unfold execRealignSearchTimeout
  exact State.SoundX.next (State.Sound.of_doRealignSearchTimeout h (Field.sub_of hm rfl))

theorem State.Sound.settleSource {s old} (h : State.Sound m o n s) (hm : Field.sub [.tick] m = true) :
    State.Sound m o n (State.settleSource s old) := by
  unfold State.settleSource
  refine State.Sound.ite h ?_
  extract_lets x1 x2
  have h1 : State.Sound m o n x1 := State.Sound.setTick [.tick] h (Field.sub_of hm rfl) rfl (Nat.le_refl _)
  clear_value x1
  exact State.Sound.ite h1 (State.Sound.setTick [.tick] h1 (Field.sub_of hm rfl) rfl (Nat.le_refl _))

theorem State.Sound.requestRealign {s} (h : State.Sound m o n s) (hm : Field.sub [.tick] m = true) :
    State.Sound m o n (State.requestRealign s) := by
  unfold State.requestRealign
  extract_lets x1
  exact State.Sound.ite h (State.Sound.setTick [.tick] h (Field.sub_of hm rfl) rfl (Nat.le_refl _))

theorem State.Sound.applyStaged {s z2} (h : State.Sound m o n s) (hm : Field.sub [.dict, .staged, .tick] m = true) :
    State.Sound m o n (State.applyStaged s z2) := by
  unfold State.applyStaged
  extract_lets x1 x2 x3
  have h1 : State.Sound m o n x2 := State.Sound.foldl h (fun s1 x4 h1 => State.Sound.setVal h1 (Field.sub_of hm
      rfl))
  clear_value x2
  exact State.Sound.congr [.staged, .tick] h1 (Field.sub_of hm rfl) rfl rfl (Nat.le_refl _) rfl rfl rfl

theorem State.Sound.carryItem {s q j} (h : State.Sound m o n s) (hm : Field.sub [.dict, .queues] m = true) :
    State.Sound m o n (State.carryItem s q j) := by
  unfold State.carryItem
  extract_lets x1 x2 x3 x4
  have h1 : State.Sound m o n x4 := State.Sound.setJob h (Field.sub_of hm rfl)
  clear_value x4
  exact State.Sound.ite (State.Sound.bump h1 (Field.sub_of hm rfl)) h1

theorem State.Sound.carryAll {s z2 offset} (h : State.Sound m o n s) (hm : Field.sub [.dict, .tally, .arrs, .queues,
    .bin] m = true) :
    State.Sound m o n (State.carryAll s z2 offset) := by
  unfold State.carryAll
  exact State.Sound.foldl h (fun s1 x1 h1 => State.Sound.foldl h1 (fun s2 x2 h2 => State.Sound.ite
      (State.Sound.carryItem h2 (Field.sub_of hm rfl)) (State.Sound.endItemAt (State.Sound.setJob h2 (Field.sub_of
      hm rfl)) (Field.sub_of hm rfl))))

theorem State.Sound.refill {s} (h : State.Sound m o n s) (hm : Field.sub [.arrs, .queues, .mem, .bin] m = true) :
    State.Sound m o n (State.refill s) := by
  unfold State.refill
  extract_lets x1 x2 x3
  have h1 : State.Sound m o n x1 :=
    State.Sound.congr [.arrs, .queues] h (Field.sub_of hm rfl) rfl rfl (Nat.le_refl _) rfl rfl (by simp [State.shape,
        x1])
  clear_value x1
  exact State.Sound.congr [.mem, .bin] h1 (Field.sub_of hm rfl) rfl rfl (Nat.le_refl _) rfl rfl rfl

theorem State.Sound.missTile {s a} (h : State.Sound m o n s) (hm : Field.sub [.dict, .tally, .arrs, .queues, .bin,
    .log] m = true) :
    State.Sound m o n (State.missTile s a) := by
  unfold State.missTile
  extract_lets x1 x2 x3
  have h1 : State.Sound m o n x2 := State.Sound.setArr (State.Sound.bump h (Field.sub_of hm rfl)) (Field.sub_of hm
      rfl)
  clear_value x2
  split
  · rename_i y1 y2
    exact h
  · rename_i y3 y4
    exact State.Sound.setArr h (Field.sub_of hm rfl)
  · rename_i y5 y6
    exact State.Sound.raise h1 (Field.sub_of hm rfl)
  · rename_i y7 y8
    exact State.Sound.raise h1 (Field.sub_of hm rfl)
  · rename_i y9 y10
    exact State.Sound.raise h1 (Field.sub_of hm rfl)

theorem State.Sound.returnBuffer {s k z3 i} (h : State.Sound m o n s) (hm : Field.sub [.ingest] m = true) :
    State.Sound m o n (State.returnBuffer s k z3 i) := by
  unfold State.returnBuffer
  split
  · exact h
  · split
    · exact State.Sound.ite (State.Sound.freeBuffer h (Field.sub_of hm rfl)) h
    · exact h

theorem State.Sound.returnBuffers {s k} (h : State.Sound m o n s) (hm : Field.sub [.ingest] m = true) :
    State.Sound m o n (State.returnBuffers s k) := by
  unfold State.returnBuffers
  exact State.Sound.foldl h (fun s1 x1 h1 => State.Sound.foldl h1 (fun s2 x2 h2 => State.Sound.returnBuffer h2
      (Field.sub_of hm rfl)))

theorem State.Sound.submitAll {s k1} (h : State.Sound m o n s) (hm : Field.sub [.dict, .tally, .arrs, .queues, .mem,
    .bin, .log] m = true) :
    State.Sound m o n (State.submitAll s k1) := by
  unfold State.submitAll
  exact State.Sound.foldl h (fun s1 x1 h1 => (State.Sound.ite (State.Sound.submitStanding h1 (Field.sub_of hm rfl))
      h1))

theorem State.Sound.openTick {s k1 k2 oldSource} (h : State.Sound m o n s) (hm : Field.sub [.dict, .tick, .ports,
    .host, .sent] m = true) :
    State.Sound m o n (State.openTick s k1 k2 oldSource) := by
  unfold State.openTick
  extract_lets x1 x2 x3 x4 x5 x6
  have h1 : State.Sound m o n x2 := State.Sound.ite h (State.Sound.setTick [.tick] h (Field.sub_of hm rfl) rfl
      (Nat.le_refl _))
  clear_value x2
  have h2 : State.Sound m o n x5 := State.Sound.setTick [.tick] h1 (Field.sub_of hm rfl) rfl (Nat.le_refl _)
  clear_value x5
  exact State.Sound.ite (State.Sound.setTick [.tick] h2 (Field.sub_of hm rfl) rfl (Nat.le_refl _)) (State.Sound.ite
      (State.Sound.setTick [.tick] h2 (Field.sub_of hm rfl) rfl (Nat.le_refl _)) (State.Sound.ite
      (State.Sound.closeWindow h2 (Field.sub_of hm rfl)) (State.Sound.ite h2 (State.Sound.setTick [.tick] h2
      (Field.sub_of hm rfl) rfl (Nat.le_refl _)))))

theorem State.Sound.stepTick {s z2 z3} (h : State.Sound m o n s) (hm : Field.sub [.tick, .tally] m = true) :
    State.Sound m o n (State.stepTick s z2 z3) := by
  unfold State.stepTick
  extract_lets x1
  exact State.Sound.setTick [.tick, .tally] h (Field.sub_of hm rfl) rfl ((Nat.le_refl _))

theorem State.Sound.closeBinnacle {s z2} (h : State.Sound m o n s) (hm : Field.sub [.bin] m = true) :
    State.Sound m o n (State.closeBinnacle s z2) := by
  unfold State.closeBinnacle
  exact State.Sound.congr [.bin] h (Field.sub_of hm rfl) rfl rfl (Nat.le_refl _) rfl rfl rfl

theorem State.Sound.decrementLease {s} (h : State.Sound m o n s) (hm : Field.sub [.own, .ports, .host, .sent] m =
    true) :
    State.Sound m o n (State.decrementLease s) := by
  unfold State.decrementLease
  split
  · exact h
  · refine State.Sound.ite h ?_
    extract_lets x1 x2
    have h1 : State.Sound m o n x2 := State.Sound.congr [.own] h (Field.sub_of hm rfl) rfl rfl (Nat.le_refl _) rfl
        rfl rfl
    clear_value x2
    exact State.Sound.ite (State.Sound.notifyOn h1 (Field.sub_of hm rfl)) h1

theorem State.Sound.openIngest {s z2} (h : State.Sound m o n s) (hm : Field.sub [.ingest] m = true) :
    State.Sound m o n (State.openIngest s z2) := by
  unfold State.openIngest
  extract_lets x1 x2
  have h1 : State.Sound m o n x1 := State.Sound.forgetDrops h (Field.sub_of hm rfl)
  clear_value x1
  exact State.Sound.congr [.ingest] h1 (Field.sub_of hm rfl) rfl rfl (Nat.le_refl _) rfl rfl (by simp +zetaDelta
      [State.shape])

theorem State.Sound.closeTick {s k1} (h : State.Sound m o n s) (hm : Field.sub [.dict, .tally, .ingest, .arrs,
    .queues, .mem, .bin, .log] m = true) :
    State.Sound m o n (State.closeTick s k1) := by
  unfold State.closeTick
  extract_lets x1 x2 x3
  have h1 : State.Sound m o n x2 := State.Sound.endTickFrames h (Field.sub_of hm rfl)
  clear_value x2
  have h2 : State.Sound m o n x3 := State.Sound.carryAll h1 (Field.sub_of hm rfl)
  clear_value x3
  exact State.Sound.ite h1 (State.Sound.setTick [.tally] h2 (Field.sub_of hm rfl) rfl (Nat.le_refl _))

theorem State.Sound.openMonitor {s} (h : State.Sound m o n s) (hm : Field.sub [.tick] m = true) :
    State.Sound m o n (State.openMonitor s) := by
  unfold State.openMonitor
  exact State.Sound.setTick [.tick] h (Field.sub_of hm rfl) rfl ((Nat.le_refl _))

theorem State.Sound.meridian {s k1 k2} (h : State.Sound m o n s) (hm : Field.sub [.dict, .staged, .tick, .tally,
    .own, .ports, .ingest, .arrs, .queues, .mem, .host, .bin, .log, .sent] m = true) :
    State.Sound m o n (State.meridian s k1 k2) := by
  unfold State.meridian
  extract_lets x1 x2 x3 x4 x5 x6 x7 x8 x9 x10 x11 x12 x13
  have h1 : State.Sound m o n x1 := h
  clear_value x1
  have h2 : State.Sound m o n x4 := State.Sound.closeTick h (Field.sub_of hm rfl)
  clear_value x4
  have h3 : State.Sound m o n x5 := State.Sound.closeBinnacle (State.Sound.stepTick h2 (Field.sub_of hm rfl))
      (Field.sub_of hm rfl)
  clear_value x5
  have h4 : State.Sound m o n x6 := h3
  clear_value x6
  have h5 : State.Sound m o n x7 := State.Sound.applyStaged h3 (Field.sub_of hm rfl)
  clear_value x7
  have h6 : State.Sound m o n x8 := State.Sound.settleUnits h5 (Field.sub_of hm rfl)
  clear_value x8
  have h7 : State.Sound m o n x9 := State.Sound.ite (State.Sound.closeSets h6 (Field.sub_of hm rfl)) h6
  clear_value x9
  have h8 : State.Sound m o n x10 := State.Sound.decrementLease (State.Sound.openMonitor (State.Sound.openTick h7
      (Field.sub_of hm rfl)) (Field.sub_of hm rfl)) (Field.sub_of hm rfl)
  clear_value x10
  have h9 : State.Sound m o n x11 := State.Sound.returnBuffers (State.Sound.openIngest h8 (Field.sub_of hm rfl))
      (Field.sub_of hm rfl)
  clear_value x11
  have h11 : State.Sound m o n x12 := State.Sound.foldl (State.Sound.refill h9 (Field.sub_of hm rfl)) (fun s1 x14
      h10 => (State.Sound.missTile h10 (Field.sub_of hm rfl)))
  clear_value x12
  have h12 : State.Sound m o n x13 := State.Sound.ite (State.Sound.raise h11 (Field.sub_of hm rfl)) h11
  clear_value x13
  exact State.Sound.dispatch (State.Sound.submitAll h12 (Field.sub_of hm rfl)) (Field.sub_of hm rfl)

theorem State.Sound.setRanAt {s t} (h : State.Sound m o n s) (hm : Field.sub [.tick] m = true) :
    State.Sound m o n (s.setTick (fun k => { k with ranAt := t })) :=
  State.Sound.setTick [.tick] h hm rfl (Nat.le_refl _)

theorem State.Sound.of_doMeridian {t s} (h : State.Sound m o n s) (hm : Field.sub [.dict, .staged, .tick, .clock,
    .tally, .own, .ports, .ingest, .arrs, .queues, .mem, .host, .bin, .log, .sent] m = true) :
    State.Sound m o n (doMeridian t s) := by
  unfold doMeridian
  split
  · exact h
  · exact State.Sound.ite h (State.Sound.setRanAt (State.Sound.advanceCharged (State.Sound.meridian
      (State.Sound.advanceCharged h (Field.sub_of hm rfl)) (Field.sub_of hm rfl)) (Field.sub_of hm rfl))
          (Field.sub_of hm rfl))

theorem State.Sound.of_execMeridian {t s} (h : State.Sound m o n s) (hm : Field.sub [.dict, .staged, .tick, .clock,
    .tally, .own, .ports, .ingest, .arrs, .queues, .mem, .host, .bin, .log, .sent] m = true) :
    State.SoundX m o n (execMeridian t s) := by
  unfold execMeridian
  exact State.SoundX.next (State.Sound.of_doMeridian h (Field.sub_of hm rfl))

theorem State.Sound.of_doCamTrigPulse {k0 s} (h : State.Sound m o n s) (hm : Field.sub [.dict, .tick, .clock,
    .tally, .arrs, .queues, .mem, .bin, .log, .sent] m = true) :
    State.Sound m o n (doCamTrigPulse k0 s) := by
  unfold doCamTrigPulse
  refine State.Sound.ite h ?_
  extract_lets x1 x2
  have h1 : State.Sound m o n x2 := State.Sound.advanceCharged h (Field.sub_of hm rfl)
  clear_value x2
  exact State.Sound.emit (State.Sound.setTick [.tick] h1 (Field.sub_of hm rfl) rfl (Nat.le_refl _)) (Field.sub_of hm
      rfl)

theorem State.Sound.of_execCamTrigPulse {k0 s} (h : State.Sound m o n s) (hm : Field.sub [.dict, .tick, .clock,
    .tally, .arrs, .queues, .mem, .bin, .log, .sent] m = true) :
    State.SoundX m o n (execCamTrigPulse k0 s) := by
  unfold execCamTrigPulse
  exact State.SoundX.next (State.Sound.of_doCamTrigPulse h (Field.sub_of hm rfl))

theorem State.Sound.of_doCamTrigPulseEnd {k0 s} (h : State.Sound m o n s) (hm : Field.sub [.dict, .tick, .clock,
    .tally, .arrs, .queues, .mem, .bin, .log, .sent] m = true) :
    State.Sound m o n (doCamTrigPulseEnd k0 s) := by
  unfold doCamTrigPulseEnd
  split
  · rename_i y1 y2
    exact h
  · rename_i y3 y4 y5
    extract_lets x1
    have h1 : State.Sound m o n x1 := State.Sound.advanceCharged h (Field.sub_of hm rfl)
    clear_value x1
    exact State.Sound.emit (State.Sound.setTick [.tick] h1 (Field.sub_of hm rfl) rfl (Nat.le_refl _)) (Field.sub_of
        hm rfl)

theorem State.Sound.of_execCamTrigPulseEnd {k0 s} (h : State.Sound m o n s) (hm : Field.sub [.dict, .tick, .clock,
    .tally, .arrs, .queues, .mem, .bin, .log, .sent] m = true) :
    State.SoundX m o n (execCamTrigPulseEnd k0 s) := by
  unfold execCamTrigPulseEnd
  exact State.SoundX.next (State.Sound.of_doCamTrigPulseEnd h (Field.sub_of hm rfl))

theorem State.Sound.reportToHost {s z2 b} (h : State.Sound m o n s) (hm : Field.sub [.host, .sent] m = true) :
    State.Sound m o n (State.reportToHost s z2 b) := by
  unfold State.reportToHost
  extract_lets x1 x2 x3
  have h1 : State.Sound m o n x2 := State.Sound.hostWrite h (Field.sub_of hm rfl)
  clear_value x2
  have h2 : State.Sound m o n x3 := State.Sound.ite h1 (State.Sound.hostWrite h1 (Field.sub_of hm rfl))
  clear_value x3
  exact State.Sound.sendVector (State.Sound.hostWrite h2 (Field.sub_of hm rfl)) (Field.sub_of hm rfl)

theorem State.Sound.of_doTickReport {t s} (h : State.Sound m o n s)
    (hm : Field.sub [.tick, .clock, .tally, .mem, .fabric, .host, .sent] m = true) : State.Sound m o n (doTickReport
        t s) := by
  unfold doTickReport
  extract_lets x1
  have h1 : State.Sound m o n x1 := State.Sound.advance h (Field.sub_of hm rfl)
  clear_value x1
  split
  · exact h1
  · refine State.Sound.ite h1 ?_
    extract_lets x2 x3
    have h2 : State.Sound m o n x3 := State.Sound.setTick [.tick, .tally] h1 (Field.sub_of hm rfl) rfl (Nat.le_refl
        _)
    clear_value x3
    exact State.Sound.ite (State.Sound.reportToHost h2 (Field.sub_of hm rfl)) h2

theorem State.Sound.of_execTickReport {t s} (h : State.Sound m o n s) (hm : Field.sub [.tick, .clock, .tally, .mem,
    .fabric, .host, .sent] m = true) :
    State.SoundX m o n (execTickReport t s) := by
  unfold execTickReport
  exact State.SoundX.next (State.Sound.of_doTickReport h (Field.sub_of hm rfl))

theorem State.Sound.setGptp {s f} (h : State.Sound m o n s) (hm : Field.sub [.tick] m = true) :
    State.Sound m o n (State.setGptp s f) := by
  unfold State.setGptp
  exact State.Sound.setTick [.tick] h (Field.sub_of hm rfl) rfl ((Nat.le_refl _))

theorem State.Sound.of_doSyncMessage {t ethPort domain origin interval s} (h : State.Sound m o n s) (hm : Field.sub
    [.dict, .tick, .clock, .tally, .arrs, .queues, .mem, .bin, .log, .free] m = true) :
    State.Sound m o n (doSyncMessage t ethPort domain origin interval s) := by
  unfold doSyncMessage
  extract_lets x1 x2 x3 x4 x5 x6 x7
  have h1 : State.Sound m o n x1 := State.Sound.advanceCharged h (Field.sub_of hm rfl)
  clear_value x1
  have h2 : State.Sound m o n x6 := State.Sound.setGptp h1 (Field.sub_of hm rfl)
  clear_value x6
  refine State.Sound.ite h1 ?_
  refine State.Sound.ite (State.Sound.setNum h2 (Field.sub_of hm rfl)) ?_
  split
  rename_i y1 y2 y3 y4
  have h3 : State.Sound m o n y3 := State.SoundP.of y4 (State.Sound.takeFree h2 (Field.sub_of hm rfl))
  exact State.Sound.setNum (State.Sound.setNum (State.Sound.setNum h3 (Field.sub_of hm rfl)) (Field.sub_of hm rfl))
      (Field.sub_of hm rfl)

theorem State.Sound.of_execSyncMessage {t ethPort domain origin interval s} (h : State.Sound m o n s) (hm :
    Field.sub [.dict, .tick, .clock, .tally, .arrs, .queues, .mem, .bin, .log, .free] m = true) :
    State.SoundX m o n (execSyncMessage t ethPort domain origin interval s) := by
  unfold execSyncMessage
  exact State.SoundX.next (State.Sound.of_doSyncMessage h (Field.sub_of hm rfl))

theorem State.Sound.of_doPdelayMessage {t ethPort t1 t2 t3 t4 s} (h : State.Sound m o n s) (hm : Field.sub [.dict,
    .tick, .clock, .tally, .arrs, .queues, .mem, .bin, .log] m = true) :
    State.Sound m o n (doPdelayMessage t ethPort t1 t2 t3 t4 s) := by
  unfold doPdelayMessage
  extract_lets x1
  have h1 : State.Sound m o n x1 := State.Sound.advanceCharged h (Field.sub_of hm rfl)
  clear_value x1
  exact State.Sound.ite h1 (State.Sound.setGptp h1 (Field.sub_of hm rfl))

theorem State.Sound.of_execPdelayMessage {t ethPort t1 t2 t3 t4 s} (h : State.Sound m o n s) (hm : Field.sub [.dict,
    .tick, .clock, .tally, .arrs, .queues, .mem, .bin, .log] m = true) :
    State.SoundX m o n (execPdelayMessage t ethPort t1 t2 t3 t4 s) := by
  unfold execPdelayMessage
  exact State.SoundX.next (State.Sound.of_doPdelayMessage h (Field.sub_of hm rfl))

theorem State.Sound.of_doGptpTimeout {t s} (h : State.Sound m o n s) (hm : Field.sub [.dict, .tick, .clock, .tally,
    .arrs, .queues, .mem, .bin, .log] m = true) :
    State.Sound m o n (doGptpTimeout t s) := by
  unfold doGptpTimeout
  extract_lets x1 x2
  have h1 : State.Sound m o n x1 := State.Sound.advanceCharged h (Field.sub_of hm rfl)
  clear_value x1
  exact State.Sound.ite (State.Sound.setGptp (State.Sound.setNum h1 (Field.sub_of hm rfl)) (Field.sub_of hm rfl)) h1

theorem State.Sound.of_execGptpTimeout {t s} (h : State.Sound m o n s) (hm : Field.sub [.dict, .tick, .clock,
    .tally, .arrs, .queues, .mem, .bin, .log] m = true) :
    State.SoundX m o n (execGptpTimeout t s) := by
  unfold execGptpTimeout
  exact State.SoundX.next (State.Sound.of_doGptpTimeout h (Field.sub_of hm rfl))

/-! ## Keys -/

/-- A change of the keys that keeps the number of encoders. -/
theorem State.Sound.setKeys {s f} (h : State.Sound m o n s)
    (hf : (f s.keys).encoders.length = s.keys.encoders.length) (hm : Field.sub [.keys] m = true) :
    State.Sound m o n (State.setKeys s f) :=
  State.Sound.congr [.keys] h hm rfl rfl (Nat.le_refl _) rfl rfl (by simp [State.shape, State.setKeys, hf])

theorem State.Sound.pushEvent {s kind synthetic code data st} (h : State.Sound m o n s) (hm : Field.sub [.keys] m =
    true) :
    State.Sound m o n (State.pushEvent s kind synthetic code data st) := by
  unfold State.pushEvent
  exact State.Sound.setKeys h rfl (Field.sub_of hm rfl)

theorem State.Sound.queueEvent {s kind synthetic code data st decided} (h : State.Sound m o n s) (hm : Field.sub
    [.dict, .keys] m = true) :
    State.Sound m o n (State.queueEvent s kind synthetic code data st decided) := by
  unfold State.queueEvent
  extract_lets x1
  exact State.Sound.ite (State.Sound.bump (State.Sound.pushEvent h (Field.sub_of hm rfl)) (Field.sub_of hm rfl))
      (State.Sound.ite (State.Sound.bump (State.Sound.pushEvent h (Field.sub_of hm rfl)) (Field.sub_of hm rfl))
      (State.Sound.bump (State.Sound.setKeys h rfl (Field.sub_of hm rfl)) (Field.sub_of hm rfl)))

theorem State.Sound.ackEvents {s x} (h : State.Sound m o n s) (hm : Field.sub [.keys] m = true) :
    State.Sound m o n (State.ackEvents s x) := by
  unfold State.ackEvents
  exact State.Sound.setKeys h rfl (Field.sub_of hm rfl)

theorem State.Sound.releaseAll {s kind codes t} (h : State.Sound m o n s) (hm : Field.sub [.dict, .keys] m = true) :
    State.Sound m o n (State.releaseAll s kind codes t) := by
  unfold State.releaseAll
  exact State.Sound.foldl h (fun s1 x1 h1 => State.Sound.queueEvent h1 (Field.sub_of hm rfl))

theorem State.Sound.dropWindows {s} (h : State.Sound m o n s) (hm : Field.sub [.keys] m = true) :
    State.Sound m o n (State.dropWindows s) := by
  unfold State.dropWindows
  exact State.Sound.setKeys h ((by simp)) (Field.sub_of hm rfl)

theorem State.Sound.enterLock {s cause t} (h : State.Sound m o n s) (hm : Field.sub [.dict, .keys] m = true) :
    State.Sound m o n (State.enterLock s cause t) := by
  unfold State.enterLock
  extract_lets x1 x2 x3 x4
  have h1 : State.Sound m o n x2 := State.Sound.ite (State.Sound.setKeys (State.Sound.releaseAll h (Field.sub_of hm
      rfl)) rfl (Field.sub_of hm rfl)) h
  clear_value x2
  have h2 : State.Sound m o n x3 := State.Sound.ite (State.Sound.setKeys (State.Sound.releaseAll h1 (Field.sub_of hm
      rfl)) rfl (Field.sub_of hm rfl)) h1
  clear_value x3
  have h3 : State.Sound m o n x4 := State.Sound.ite (State.Sound.dropWindows h2 (Field.sub_of hm rfl)) h2
  clear_value x4
  exact State.Sound.setKeys (State.Sound.queueEvent h3 (Field.sub_of hm rfl)) rfl (Field.sub_of hm rfl)

theorem State.Sound.requestLock {s cause t} (h : State.Sound m o n s) (hm : Field.sub [.dict, .keys] m = true) :
    State.Sound m o n (State.requestLock s cause t) := by
  unfold State.requestLock
  exact State.Sound.ite h (State.Sound.ite (State.Sound.setKeys h rfl (Field.sub_of hm rfl)) (State.Sound.enterLock
      h (Field.sub_of hm rfl)))

theorem State.Sound.leaveLock {s cause t} (h : State.Sound m o n s) (hm : Field.sub [.dict, .keys] m = true) :
    State.Sound m o n (State.leaveLock s cause t) := by
  unfold State.leaveLock
  extract_lets x1 x2 x3
  have h1 : State.Sound m o n x2 := State.Sound.setKeys h rfl (Field.sub_of hm rfl)
  clear_value x2
  have h2 : State.Sound m o n x3 := State.Sound.ite (State.Sound.dropWindows h1 (Field.sub_of hm rfl)) h1
  clear_value x3
  exact State.Sound.queueEvent h2 (Field.sub_of hm rfl)

theorem State.Sound.ownerUnlock {s t} (h : State.Sound m o n s) (hm : Field.sub [.dict, .keys] m = true) :
    State.Sound m o n (State.ownerUnlock s t) := by
  unfold State.ownerUnlock
  split
  · exact State.Sound.leaveLock h (Field.sub_of hm rfl)
  · exact State.Sound.setKeys h rfl (Field.sub_of hm rfl)
  · exact h

theorem State.Sound.matchPress {s p len t} (h : State.Sound m o n s) (hm : Field.sub [.dict, .keys] m = true) :
    State.Sound m o n (State.matchPress s p len t) := by
  unfold State.matchPress
  exact State.Sound.ite (State.Sound.leaveLock h (Field.sub_of hm rfl)) (State.Sound.setKeys h rfl (Field.sub_of
      hm rfl))

theorem State.Sound.unlockPress {s code t} (h : State.Sound m o n s) (hm : Field.sub [.dict, .keys] m = true) :
    State.Sound m o n (State.unlockPress s code t) := by
  unfold State.unlockPress
  extract_lets x1 x2 x3 x4
  have h1 : State.Sound m o n x3 := State.Sound.ite h (State.Sound.bump h (Field.sub_of hm rfl))
  clear_value x3
  have h2 : State.Sound m o n x4 := State.Sound.setKeys h1 rfl (Field.sub_of hm rfl)
  clear_value x4
  exact State.Sound.ite h (State.Sound.ite (State.Sound.matchPress h (Field.sub_of hm rfl)) (State.Sound.ite
      (State.Sound.matchPress h2 (Field.sub_of hm rfl)) h2))

theorem State.Sound.keyChange {s x t} (h : State.Sound m o n s) (hm : Field.sub [.dict, .keys] m = true) :
    State.Sound m o n (State.keyChange s x t) := by
  unfold State.keyChange
  extract_lets x1 x2 x3 x4 x5
  have h1 : State.Sound m o n x4 := State.Sound.setKeys h rfl (Field.sub_of hm rfl)
  clear_value x4
  have h2 : State.Sound m o n x5 := State.Sound.ite h1 (State.Sound.ite (State.Sound.bump h1 (Field.sub_of hm rfl))
      (State.Sound.queueEvent h1 (Field.sub_of hm rfl)))
  clear_value x5
  exact State.Sound.ite (State.Sound.unlockPress h2 (Field.sub_of hm rfl)) h2

theorem State.Sound.retireKeys {s gone t} (h : State.Sound m o n s) (hm : Field.sub [.dict, .keys] m = true) :
    State.Sound m o n (State.retireKeys s gone t) := by
  unfold State.retireKeys
  exact State.Sound.setKeys (State.Sound.releaseAll h (Field.sub_of hm rfl)) rfl (Field.sub_of hm rfl)

theorem State.Sound.maskKeys {s t} (h : State.Sound m o n s) (hm : Field.sub [.dict, .keys] m = true) :
    State.Sound m o n (State.maskKeys s t) := by
  unfold State.maskKeys
  exact State.Sound.retireKeys h (Field.sub_of hm rfl)

theorem State.Sound.applyMatrix {s t} (h : State.Sound m o n s) (hm : Field.sub [.dict, .keys] m = true) :
    State.Sound m o n (State.applyMatrix s t) := by
  unfold State.applyMatrix
  extract_lets x1
  exact State.Sound.setKeys (State.Sound.retireKeys h (Field.sub_of hm rfl)) rfl (Field.sub_of hm rfl)

theorem State.Sound.restScan {s quiet} (h : State.Sound m o n s) (hm : Field.sub [.keys] m = true) :
    State.Sound m o n (State.restScan s quiet) := by
  unfold State.restScan
  extract_lets x1
  exact State.Sound.ite (State.Sound.setKeys h rfl (Field.sub_of hm rfl)) (State.Sound.setKeys h rfl (Field.sub_of
      hm rfl))

theorem State.Sound.of_doKeyActivity {t s} (h : State.Sound m o n s) (hm : Field.sub [.clock, .keys, .power] m =
    true) :
    State.Sound m o n (doKeyActivity t s) := by
  unfold doKeyActivity
  extract_lets x1 x2 x3
  have h1 : State.Sound m o n x1 := State.Sound.advance h (Field.sub_of hm rfl)
  clear_value x1
  exact State.Sound.ite (State.Sound.ite (State.Sound.congr [.keys, .power] h1 (Field.sub_of hm rfl) rfl rfl
      (Nat.le_refl _) rfl rfl rfl) h1) (State.Sound.ite h1 (State.Sound.setKeys h1 rfl (Field.sub_of hm rfl)))

theorem State.Sound.of_execKeyActivity {t s} (h : State.Sound m o n s) (hm : Field.sub [.clock, .keys, .power] m =
    true) :
    State.SoundX m o n (execKeyActivity t s) := by
  unfold execKeyActivity
  exact State.SoundX.next (State.Sound.of_doKeyActivity h (Field.sub_of hm rfl))

theorem State.Sound.of_doKeyScan {t pressed s} (h : State.Sound m o n s) (hm : Field.sub [.dict, .clock, .keys] m =
    true) :
    State.Sound m o n (doKeyScan t pressed s) := by
  unfold doKeyScan
  refine State.Sound.ite (State.Sound.advance h (Field.sub_of hm rfl)) ?_
  extract_lets x1 x2 x3 x4 x5 x6
  have h1 : State.Sound m o n x1 := State.Sound.applyMatrix (State.Sound.advance h (Field.sub_of hm rfl))
      (Field.sub_of hm rfl)
  clear_value x1
  have h2 : State.Sound m o n x5 := State.Sound.setKeys h1 rfl (Field.sub_of hm rfl)
  clear_value x5
  have h3 : State.Sound m o n x6 := State.Sound.advance h2 (Field.sub_of hm rfl)
  clear_value x6
  split
  · extract_lets x7 x8
    have h4 : State.Sound m o n x7 := State.Sound.setKeys h3 rfl (Field.sub_of hm rfl)
    clear_value x7
    have h5 : State.Sound m o n x8 := State.Sound.bump (State.Sound.foldl h4 (fun s1 x9 h5 => State.Sound.keyChange
        h5 (Field.sub_of hm rfl))) (Field.sub_of hm rfl)
    clear_value x8
    exact State.Sound.restScan h5 (Field.sub_of hm rfl)

theorem State.Sound.of_execKeyScan {t pressed s} (h : State.Sound m o n s) (hm : Field.sub [.dict, .clock, .keys] m =
    true) :
    State.SoundX m o n (execKeyScan t pressed s) := by
  unfold execKeyScan
  exact State.SoundX.next (State.Sound.of_doKeyScan h (Field.sub_of hm rfl))

theorem State.Sound.of_doLockEntry {t s} (h : State.Sound m o n s) (hm : Field.sub [.dict, .clock, .keys] m = true) :
    State.Sound m o n (doLockEntry t s) := by
  unfold doLockEntry
  extract_lets x1
  have h1 : State.Sound m o n x1 := State.Sound.advance h (Field.sub_of hm rfl)
  clear_value x1
  split
  · exact State.Sound.ite (State.Sound.enterLock h1 (Field.sub_of hm rfl)) h1
  · exact h1
  · exact h1

theorem State.Sound.of_execLockEntry {t s} (h : State.Sound m o n s) (hm : Field.sub [.dict, .clock, .keys] m = true)
    :
    State.SoundX m o n (execLockEntry t s) := by
  unfold execLockEntry
  exact State.SoundX.next (State.Sound.of_doLockEntry h (Field.sub_of hm rfl))

theorem State.Sound.of_doUnlockTimeout {s} (h : State.Sound m o n s) (hm : Field.sub [.dict, .clock, .keys] m = true)
    :
    State.Sound m o n (doUnlockTimeout s) := by
  unfold doUnlockTimeout
  split
  · exact h
  · exact State.Sound.ite h (State.Sound.setKeys (State.Sound.bump (State.Sound.advance h (Field.sub_of hm rfl))
        (Field.sub_of hm rfl)) rfl (Field.sub_of hm rfl))

theorem State.Sound.of_execUnlockTimeout {s} (h : State.Sound m o n s) (hm : Field.sub [.dict, .clock, .keys] m =
    true) :
    State.SoundX m o n (execUnlockTimeout s) := by
  unfold execUnlockTimeout
  exact State.SoundX.next (State.Sound.of_doUnlockTimeout h (Field.sub_of hm rfl))

theorem State.Sound.buttonChange {s x t} (h : State.Sound m o n s) (hm : Field.sub [.dict, .keys] m = true) :
    State.Sound m o n (State.buttonChange s x t) := by
  unfold State.buttonChange
  extract_lets x1 x2 x3
  have h1 : State.Sound m o n x3 := State.Sound.setKeys h rfl (Field.sub_of hm rfl)
  clear_value x3
  exact State.Sound.ite h1 (State.Sound.ite (State.Sound.bump h1 (Field.sub_of hm rfl)) (State.Sound.queueEvent h1
      (Field.sub_of hm rfl)))

theorem State.Sound.of_doButtonSample {t levels s} (h : State.Sound m o n s) (hm : Field.sub [.dict, .clock, .keys] m
    = true) :
    State.Sound m o n (doButtonSample t levels s) := by
  unfold doButtonSample
  extract_lets x1 x2 x3
  have h1 : State.Sound m o n x1 := State.Sound.advance h (Field.sub_of hm rfl)
  clear_value x1
  refine State.Sound.ite h1 ?_
  split
  · extract_lets x4
    have h2 : State.Sound m o n x4 := State.Sound.setKeys h1 rfl (Field.sub_of hm rfl)
    clear_value x4
    exact State.Sound.foldl h2 (fun s1 x5 h3 => State.Sound.buttonChange h3 (Field.sub_of hm rfl))

theorem State.Sound.of_execButtonSample {t levels s} (h : State.Sound m o n s) (hm : Field.sub [.dict, .clock, .keys]
    m = true) :
    State.SoundX m o n (execButtonSample t levels s) := by
  unfold execButtonSample
  exact State.SoundX.next (State.Sound.of_doButtonSample h (Field.sub_of hm rfl))

theorem State.Sound.setEncoder {s e f} (h : State.Sound m o n s) (hm : Field.sub [.keys] m = true) :
    State.Sound m o n (State.setEncoder s e f) := by
  unfold State.setEncoder
  exact State.Sound.setKeys h ((by simp)) (Field.sub_of hm rfl)

theorem State.Sound.countDetent {s e d} (h : State.Sound m o n s) (hm : Field.sub [.dict] m = true) :
    State.Sound m o n (State.countDetent s e d) := by
  unfold State.countDetent
  extract_lets x1 x2
  have h1 : State.Sound m o n x2 := State.Sound.setNum h (Field.sub_of hm rfl)
  clear_value x2
  exact State.Sound.ite (State.Sound.setNum h1 (Field.sub_of hm rfl)) h1

theorem State.Sound.countWindow {s e d t} (h : State.Sound m o n s) (hm : Field.sub [.keys] m = true) :
    State.Sound m o n (State.countWindow s e d t) := by
  unfold State.countWindow
  exact State.Sound.ite h (State.Sound.setEncoder h (Field.sub_of hm rfl))

theorem State.Sound.countStep {s e step t} (h : State.Sound m o n s) (hm : Field.sub [.dict, .keys] m = true) :
    State.Sound m o n (State.countStep s e step t) := by
  unfold State.countStep
  extract_lets x1 x2 x3 x4
  exact State.Sound.ite (State.Sound.countWindow (State.Sound.countDetent (State.Sound.setEncoder h (Field.sub_of hm
      rfl)) (Field.sub_of hm rfl)) (Field.sub_of hm rfl)) (State.Sound.setEncoder h (Field.sub_of hm rfl))

theorem State.Sound.of_doEncoderStep {t e a b s} (h : State.Sound m o n s) (hm : Field.sub [.dict, .clock, .keys] m =
    true) :
    State.Sound m o n (doEncoderStep t e a b s) := by
  unfold doEncoderStep
  extract_lets x1 x2 x3
  have h1 : State.Sound m o n x1 := State.Sound.advance h (Field.sub_of hm rfl)
  clear_value x1
  have h2 : State.Sound m o n x3 := State.Sound.setEncoder h1 (Field.sub_of hm rfl)
  clear_value x3
  exact State.Sound.ite h1 (State.Sound.ite h2 (State.Sound.ite (State.Sound.bump h2 (Field.sub_of hm rfl))
      (State.Sound.ite h2 (State.Sound.countStep h2 (Field.sub_of hm rfl)))))

theorem State.Sound.of_execEncoderStep {t e a b s} (h : State.Sound m o n s) (hm : Field.sub [.dict, .clock, .keys] m
    = true) :
    State.SoundX m o n (execEncoderStep t e a b s) := by
  unfold execEncoderStep
  exact State.SoundX.ite State.SoundX.fault (State.SoundX.next (State.Sound.of_doEncoderStep h (Field.sub_of hm
      rfl)))

theorem State.Sound.of_doEncoderReport {e s} (h : State.Sound m o n s) (hm : Field.sub [.dict, .clock, .keys] m =
    true) :
    State.Sound m o n (doEncoderReport e s) := by
  unfold doEncoderReport
  extract_lets x1 x2
  have h1 : State.Sound m o n x2 := State.Sound.setEncoder (State.Sound.advance h (Field.sub_of hm rfl))
      (Field.sub_of hm rfl)
  clear_value x2
  split
  · exact h
  · exact State.Sound.ite h (State.Sound.ite h1 (State.Sound.queueEvent h1 (Field.sub_of hm rfl)))

theorem State.Sound.of_execEncoderReport {e s} (h : State.Sound m o n s) (hm : Field.sub [.dict, .clock, .keys] m =
    true) :
    State.SoundX m o n (execEncoderReport e s) := by
  unfold execEncoderReport
  exact State.SoundX.next (State.Sound.of_doEncoderReport h (Field.sub_of hm rfl))

theorem State.Sound.startKeys {s} (h : State.Sound m o n s) (hm : Field.sub [.dict, .keys] m = true) :
    State.Sound m o n (State.startKeys s) := by
  unfold State.startKeys
  extract_lets x1 x2
  have h1 : State.Sound m o n x1 := State.Sound.renewed [.keys] h (Field.sub_of hm rfl) rfl (Nat.le_refl _)
    (fun g => ⟨g.1, by
      have := (State.shaped_iff s).1 g.2
      rw [State.shaped_iff]
      exact ⟨this.1, this.2.1, this.2.2.1, this.2.2.2.1, this.2.2.2.2.1, this.2.2.2.2.2.1, this.2.2.2.2.2.2.1,
        this.2.2.2.2.2.2.2.1, this.2.2.2.2.2.2.2.2.1, this.2.2.2.2.2.2.2.2.2.1, this.2.2.2.2.2.2.2.2.2.2.1, rfl⟩⟩)
  clear_value x1
  have h2 : State.Sound m o n x2 := State.Sound.foldl h1 (fun s1 x1 h1 => State.Sound.setNum h1 (Field.sub_of hm
      rfl))
  exact State.Sound.ite (State.Sound.requestLock h2 (Field.sub_of hm rfl)) h2

end Sys2Proof.Machine
end

