-- ==== Sys2Proof/Laws/KeepPlatform.lean ====
section
/-! SUPPORT. Laws/KeepPlatform: what touch, platform management, storage and power keep (`State.Sound`: the parts
touched, device time, the invariant). -/

namespace Sys2Proof.Machine

variable {m : List Field} {o : State} {n : Nat}

/-! ## Touch -/

theorem State.Sound.holdReport {s p b} (h : State.Sound m o n s) (hm : Field.sub [.dict, .host, .panels] m = true) :
    State.Sound m o n (State.holdReport s p b) := by
  unfold State.holdReport
  extract_lets x1 x2 x3 x4 x5 x6 x7
  have h1 : State.Sound m o n x4 := State.Sound.setPanel h (Field.sub_of hm rfl)
  clear_value x4
  have h2 : State.Sound m o n x5 := State.Sound.bump h1 (Field.sub_of hm rfl)
  clear_value x5
  have h3 : State.Sound m o n x6 := State.Sound.ite (State.Sound.bump h2 (Field.sub_of hm rfl)) h2
  clear_value x6
  have h4 : State.Sound m o n x7 := State.Sound.foldl h3 (fun s1 x8 h4 => State.Sound.congr [.host] h4 (Field.sub_of
      hm rfl) rfl rfl (Nat.le_refl _) rfl rfl (by simp [State.shape]))
  clear_value x7
  split
  · exact h4
  · exact State.Sound.setMailbox h4 (Field.sub_of hm rfl)

theorem State.Sound.ackReports {s p q} (h : State.Sound m o n s) (hm : Field.sub [.panels] m = true) :
    State.Sound m o n (State.ackReports s p q) := by
  unfold State.ackReports
  exact State.Sound.setPanel h (Field.sub_of hm rfl)

theorem State.Sound.startCalibration {s p} (h : State.Sound m o n s) (hm : Field.sub [.panels] m = true) :
    State.Sound m o n (State.startCalibration s p) := by
  unfold State.startCalibration
  exact State.Sound.setPanel h (Field.sub_of hm rfl)

theorem State.Sound.stopPanel {s p} (h : State.Sound m o n s) (hm : Field.sub [.panels] m = true) :
    State.Sound m o n (State.stopPanel s p) := by
  unfold State.stopPanel
  exact State.Sound.setPanel h (Field.sub_of hm rfl)

theorem State.Sound.settlePanel {s old p} (h : State.Sound m o n s) (hm : Field.sub [.panels] m = true) :
    State.Sound m o n (State.settlePanel s old p) := by
  unfold State.settlePanel
  extract_lets x1 x2
  exact State.Sound.ite h (State.Sound.ite (State.Sound.ite (State.Sound.startCalibration h (Field.sub_of hm rfl))
      h) (State.Sound.stopPanel h (Field.sub_of hm rfl)))

theorem State.Sound.startTouch {s} (h : State.Sound m o n s) (hm : Field.sub [.panels] m = true) :
    State.Sound m o n (State.startTouch s) := by
  unfold State.startTouch
  exact State.Sound.foldl h (fun s1 x1 h1 => State.Sound.ite (State.Sound.startCalibration h1 (Field.sub_of hm
      rfl)) h1)

theorem State.Sound.stopTouch {s} (h : State.Sound m o n s) (hm : Field.sub [.panels] m = true) :
    State.Sound m o n (State.stopTouch s) := by
  unfold State.stopTouch
  exact State.Sound.foldl h (fun s1 x1 h1 => State.Sound.setPanel (State.Sound.stopPanel h1 (Field.sub_of hm rfl))
      (Field.sub_of hm rfl))

theorem State.Sound.endCalibration {s p t} (h : State.Sound m o n s) (hm : Field.sub [.panels, .free] m = true) :
    State.Sound m o n (State.endCalibration s p t) := by
  unfold State.endCalibration
  extract_lets x1 x2 x3 x4 x5
  split
  · rename_i y1 y2 y3 y4
    have h1 : State.Sound m o n y3 := State.SoundP.of y4 (State.SoundP.ite (State.Sound.takeFree h (Field.sub_of hm
        rfl)) (State.SoundP.mk h))
    extract_lets x6 x7 x8
    exact State.Sound.setPanel h1 (Field.sub_of hm rfl)

theorem State.Sound.openFrame {s p t} (h : State.Sound m o n s) (hm : Field.sub [.dict, .panels] m = true) :
    State.Sound m o n (State.openFrame s p t) := by
  unfold State.openFrame
  extract_lets x1 x2 x3 x4 x5 x6 x7 x8
  have h1 : State.Sound m o n x7 := State.Sound.ite (State.Sound.bump h (Field.sub_of hm rfl)) h
  clear_value x7
  have h2 : State.Sound m o n x8 := State.Sound.ite (State.Sound.bump h1 (Field.sub_of hm rfl)) h1
  clear_value x8
  exact State.Sound.setPanel h2 (Field.sub_of hm rfl)

theorem State.Sound.of_doTouchFrameStart {t p s} (h : State.Sound m o n s) (hm : Field.sub [.dict, .clock, .panels] m
    = true) :
    State.Sound m o n (doTouchFrameStart t p s) := by
  unfold doTouchFrameStart
  extract_lets x1 x2
  have h1 : State.Sound m o n x1 := State.Sound.advance h (Field.sub_of hm rfl)
  clear_value x1
  refine State.Sound.ite h1 ?_
  split
  · exact h1
  · exact h1
  · split
    · exact State.Sound.setPanel h1 (Field.sub_of hm rfl)
    · exact h1
  · exact State.Sound.ite (State.Sound.ite (State.Sound.bump h1 (Field.sub_of hm rfl)) h1) (State.Sound.ite
        (State.Sound.openFrame h1 (Field.sub_of hm rfl)) h1)

theorem State.Sound.of_execTouchFrameStart {t p s} (h : State.Sound m o n s) (hm : Field.sub [.dict, .clock, .panels]
    m = true) :
    State.SoundX m o n (execTouchFrameStart t p s) := by
  unfold execTouchFrameStart
  exact State.SoundX.next (State.Sound.of_doTouchFrameStart h (Field.sub_of hm rfl))

theorem State.Sound.listenSlot {s p c levels} (h : State.Sound m o n s) (hm : Field.sub [.panels] m = true) :
    State.Sound m o n (State.listenSlot s p c levels) := by
  unfold State.listenSlot
  extract_lets x1
  split
  · extract_lets x2 x3
    exact State.Sound.setPanel h (Field.sub_of hm rfl)

theorem State.Sound.setBaseline {s p f g} (h : State.Sound m o n s) (hm : Field.sub [.panels] m = true) :
    State.Sound m o n (State.setBaseline s p f g) := by
  unfold State.setBaseline
  exact State.Sound.setPanel h (Field.sub_of hm rfl)

theorem State.Sound.updateBaselines {s p c f raw calm} (h : State.Sound m o n s) (hm : Field.sub [.panels] m = true)
    :
    State.Sound m o n (State.updateBaselines s p c f raw calm) := by
  unfold State.updateBaselines
  extract_lets x1 x2
  have h1 : State.Sound m o n x2 := State.Sound.setPanel h (Field.sub_of hm rfl)
  clear_value x2
  exact State.Sound.ite (State.Sound.setPanel h (Field.sub_of hm rfl)) (State.Sound.ite (State.Sound.setBaseline h1
      (Field.sub_of hm rfl)) h1)

theorem State.Sound.recalibrate {s p c f raw ds} (h : State.Sound m o n s) (hm : Field.sub [.dict, .panels] m = true)
    :
    State.Sound m o n (State.recalibrate s p c f raw ds) := by
  unfold State.recalibrate
  extract_lets x1 x2
  have h1 : State.Sound m o n x2 := State.Sound.setBaseline h (Field.sub_of hm rfl)
  clear_value x2
  exact State.Sound.ite (State.Sound.bump (State.Sound.setPanel h1 (Field.sub_of hm rfl)) (Field.sub_of hm rfl))
      (State.Sound.setPanel h (Field.sub_of hm rfl))

theorem State.Sound.countFrame {s p} (h : State.Sound m o n s) (hm : Field.sub [.dict, .panels] m = true) :
    State.Sound m o n (State.countFrame s p) := by
  unfold State.countFrame
  exact State.Sound.bump (State.Sound.setPanel h (Field.sub_of hm rfl)) (Field.sub_of hm rfl)

theorem State.Sound.closeFrame {s p c b raw levels} (h : State.Sound m o n s) (hm : Field.sub [.dict, .host, .panels]
    m = true) :
    State.Sound m o n (State.closeFrame s p c b raw levels) := by
  unfold State.closeFrame
  extract_lets x1 x2 x3 x4 x5 x6 x7 x8 x9 x10 x11 x12
  have h1 : State.Sound m o n x5 := State.Sound.setPanel (State.Sound.countFrame h (Field.sub_of hm rfl))
      (Field.sub_of hm rfl)
  clear_value x5
  have h2 : State.Sound m o n x6 := State.Sound.ite h1 (State.Sound.listenSlot h1 (Field.sub_of hm rfl))
  clear_value x6
  have h3 : State.Sound m o n x10 := State.Sound.bumpBy h2 (Field.sub_of hm rfl)
  clear_value x10
  have h4 : State.Sound m o n x11 := State.Sound.recalibrate (State.Sound.updateBaselines h3 (Field.sub_of hm rfl))
      (Field.sub_of hm rfl)
  clear_value x11
  have h5 : State.Sound m o n x12 := State.Sound.ite h4 (State.Sound.holdReport h4 (Field.sub_of hm rfl))
  clear_value x12
  exact State.Sound.setPanel h5 (Field.sub_of hm rfl)

theorem State.Sound.closeCalibration {s p t raw levels} (h : State.Sound m o n s) (hm : Field.sub [.dict, .panels,
    .free] m = true) :
    State.Sound m o n (State.closeCalibration s p t raw levels) := by
  unfold State.closeCalibration
  extract_lets x1 x2
  have h1 : State.Sound m o n x2 := State.Sound.setPanel (State.Sound.countFrame h (Field.sub_of hm rfl))
      (Field.sub_of hm rfl)
  clear_value x2
  exact State.Sound.ite (State.Sound.endCalibration h1 (Field.sub_of hm rfl)) h1

theorem State.Sound.of_doTouchFrameEnd {p f s} (h : State.Sound m o n s) (hm : Field.sub [.dict, .clock, .host,
    .panels, .free] m = true) :
    State.Sound m o n (doTouchFrameEnd p f s) := by
  unfold doTouchFrameEnd
  extract_lets x1 x2 x3
  have h1 : State.Sound m o n x1 := State.Sound.advance h (Field.sub_of hm rfl)
  clear_value x1
  split
  · extract_lets x4 x5
    split
    · refine State.Sound.ite h1 ?_
      split
      · exact h1
      · exact h1
      · exact State.Sound.closeCalibration h1 (Field.sub_of hm rfl)
      · exact State.Sound.closeFrame h1 (Field.sub_of hm rfl)
  · exact h1

theorem State.Sound.of_execTouchFrameEnd {p f s} (h : State.Sound m o n s) (hm : Field.sub [.dict, .clock, .host,
    .panels, .free] m = true) :
    State.SoundX m o n (execTouchFrameEnd p f s) := by
  unfold execTouchFrameEnd
  exact State.SoundX.next (State.Sound.of_doTouchFrameEnd h (Field.sub_of hm rfl))

theorem State.Sound.panelEdge {s p t} (h : State.Sound m o n s) (hm : Field.sub [.panels] m = true) :
    State.Sound m o n (State.panelEdge s p t) := by
  unfold State.panelEdge
  extract_lets x1 x2
  exact State.Sound.setPanel h (Field.sub_of hm rfl)

theorem State.Sound.of_doDsyncEdge {t input falling s} (h : State.Sound m o n s) (hm : Field.sub [.clock, .panels] m
    = true) :
    State.Sound m o n (doDsyncEdge t input falling s) := by
  unfold doDsyncEdge
  extract_lets x1
  have h1 : State.Sound m o n x1 := State.Sound.advance h (Field.sub_of hm rfl)
  clear_value x1
  exact State.Sound.ite h1 (State.Sound.foldl h1 (fun s1 x2 h2 => State.Sound.ite (State.Sound.panelEdge h2
      (Field.sub_of hm rfl)) h2))

theorem State.Sound.of_execDsyncEdge {t input falling s} (h : State.Sound m o n s) (hm : Field.sub [.clock, .panels]
    m = true) :
    State.SoundX m o n (execDsyncEdge t input falling s) := by
  unfold execDsyncEdge
  exact State.SoundX.next (State.Sound.of_doDsyncEdge h (Field.sub_of hm rfl))

theorem State.Sound.of_doDsyncTimeout {t p s} (h : State.Sound m o n s) (hm : Field.sub [.clock, .panels] m = true) :
    State.Sound m o n (doDsyncTimeout t p s) := by
  unfold doDsyncTimeout
  extract_lets x1 x2 x3
  have h1 : State.Sound m o n x1 := State.Sound.advance h (Field.sub_of hm rfl)
  clear_value x1
  exact State.Sound.ite (State.Sound.setPanel h1 (Field.sub_of hm rfl)) h1

theorem State.Sound.of_execDsyncTimeout {t p s} (h : State.Sound m o n s) (hm : Field.sub [.clock, .panels] m = true)
    :
    State.SoundX m o n (execDsyncTimeout t p s) := by
  unfold execDsyncTimeout
  exact State.SoundX.next (State.Sound.of_doDsyncTimeout h (Field.sub_of hm rfl))

theorem State.Sound.settleNoise {s old p} (h : State.Sound m o n s) (hm : Field.sub [.panels] m = true) :
    State.Sound m o n (State.settleNoise s old p) := by
  unfold State.settleNoise
  exact State.Sound.ite h (State.Sound.setPanel h (Field.sub_of hm rfl))

theorem State.Sound.startTest {s p} (h : State.Sound m o n s) (hm : Field.sub [.dict, .host, .panels] m = true) :
    State.Sound m o n (State.startTest s p) := by
  unfold State.startTest
  refine State.Sound.ite (State.Sound.setPanel h (Field.sub_of hm rfl)) ?_
  extract_lets x1 x2
  have h1 : State.Sound m o n x2 := State.Sound.holdReport h (Field.sub_of hm rfl)
  clear_value x2
  exact State.Sound.setPanel h1 (Field.sub_of hm rfl)

theorem State.Sound.of_doSelfTestDone {p f selfCounts s} (h : State.Sound m o n s) (hm : Field.sub [.dict, .clock,
    .panels] m = true) :
    State.Sound m o n (doSelfTestDone p f selfCounts s) := by
  unfold doSelfTestDone
  extract_lets x1 x2
  have h1 : State.Sound m o n x1 := State.Sound.advance h (Field.sub_of hm rfl)
  clear_value x1
  split
  · split
    · extract_lets x3 x4
      exact State.Sound.ite h1 (State.Sound.setPanel (State.Sound.countFrame h1 (Field.sub_of hm rfl))
          (Field.sub_of hm rfl))
  · exact h1

theorem State.Sound.of_execSelfTestDone {p f selfCounts s} (h : State.Sound m o n s) (hm : Field.sub [.dict, .clock,
    .panels] m = true) :
    State.SoundX m o n (execSelfTestDone p f selfCounts s) := by
  unfold execSelfTestDone
  exact State.SoundX.next (State.Sound.of_doSelfTestDone h (Field.sub_of hm rfl))

/-! ## Platform -/

/-- A change of platform management that keeps the number of channels and fans. -/
theorem State.Sound.setPlat {s f} (h : State.Sound m o n s)
    (hf : (f s.plat).channels.length = s.plat.channels.length ∧ (f s.plat).fans.length = s.plat.fans.length)
    (hm : Field.sub [.plat] m = true) : State.Sound m o n (State.setPlat s f) :=
  State.Sound.congr [.plat] h hm rfl rfl (Nat.le_refl _) rfl rfl (by simp [State.shape, State.setPlat, hf])

theorem State.Sound.platEvent {s k t data} (h : State.Sound m o n s) (hm : Field.sub [.dict, .ports, .host, .sent] m
    = true) :
    State.Sound m o n (State.platEvent s k t data) := by
  unfold State.platEvent
  extract_lets x1 x2 x3 x4
  have h1 : State.Sound m o n x3 := State.Sound.setNum h (Field.sub_of hm rfl)
  clear_value x3
  have h2 : State.Sound m o n x4 := State.Sound.notifyPorts h1 (Field.sub_of hm rfl)
  clear_value x4
  split
  · exact h2
  · extract_lets x5
    have h3 : State.Sound m o n x5 := State.Sound.ite (State.Sound.bump h2 (Field.sub_of hm rfl)) h2
    clear_value x5
    exact State.Sound.setMailbox h3 (Field.sub_of hm rfl)

theorem State.Sound.thermalEvent {s t channel kind level value threshold} (h : State.Sound m o n s) (hm : Field.sub
    [.dict, .ports, .host, .sent] m = true) :
    State.Sound m o n (State.thermalEvent s t channel kind level value threshold) := by
  unfold State.thermalEvent
  exact State.Sound.platEvent (State.Sound.bump h (Field.sub_of hm rfl)) (Field.sub_of hm rfl)

theorem State.Sound.supplyEvent {s t source kind level value threshold} (h : State.Sound m o n s) (hm : Field.sub
    [.dict, .ports, .host, .sent] m = true) :
    State.Sound m o n (State.supplyEvent s t source kind level value threshold) := by
  unfold State.supplyEvent
  exact State.Sound.platEvent (State.Sound.bump h (Field.sub_of hm rfl)) (Field.sub_of hm rfl)

theorem State.Sound.reportSeq {s k result step line duration t} (h : State.Sound m o n s) (hm : Field.sub [.dict,
    .ports, .host, .sent] m = true) :
    State.Sound m o n (State.reportSeq s k result step line duration t) := by
  unfold State.reportSeq
  extract_lets x1
  exact State.Sound.platEvent (State.Sound.setVal h (Field.sub_of hm rfl)) (Field.sub_of hm rfl)

theorem State.Sound.endSequence {s result line t} (h : State.Sound m o n s) (hm : Field.sub [.dict, .ports, .host,
    .plat, .sent] m = true) :
    State.Sound m o n (State.endSequence s result line t) := by
  unfold State.endSequence
  split
  · exact h
  · extract_lets x1 x2
    have h1 : State.Sound m o n x1 := State.Sound.setPlat h (⟨rfl, rfl⟩) (Field.sub_of hm rfl)
    clear_value x1
    have h2 : State.Sound m o n x2 := State.Sound.ite (State.Sound.bump h1 (Field.sub_of hm rfl)) h1
    clear_value x2
    exact State.Sound.reportSeq h2 (Field.sub_of hm rfl)

theorem State.Sound.nextStep {s t} (h : State.Sound m o n s) (hm : Field.sub [.dict, .ports, .host, .plat, .sent] m =
    true) :
    State.Sound m o n (State.nextStep s t) := by
  unfold State.nextStep
  split
  · exact h
  · exact State.Sound.ite (State.Sound.setPlat h (⟨rfl, rfl⟩) (Field.sub_of hm rfl)) (State.Sound.endSequence h
        (Field.sub_of hm rfl))

theorem State.Sound.armLine {s line} (h : State.Sound m o n s) (hm : Field.sub [.plat] m = true) :
    State.Sound m o n (State.armLine s line) := by
  unfold State.armLine
  exact State.Sound.ite (State.Sound.setPlat h (⟨rfl, rfl⟩) (Field.sub_of hm rfl)) h

theorem State.Sound.disarmLine {s line} (h : State.Sound m o n s) (hm : Field.sub [.plat] m = true) :
    State.Sound m o n (State.disarmLine s line) := by
  unfold State.disarmLine
  exact State.Sound.setPlat h (⟨rfl, rfl⟩) (Field.sub_of hm rfl)

theorem State.Sound.startSequence {s k t} (h : State.Sound m o n s) (hm : Field.sub [.dict, .plat, .free] m = true) :
    State.Sound m o n (State.startSequence s k t) := by
  unfold State.startSequence
  split
  · rename_i y1 y2 y3 y4
    have h1 : State.Sound m o n y3 := State.SoundP.of y4 (State.Sound.takeFree h (Field.sub_of hm rfl))
    extract_lets x1 x2
    have h2 : State.Sound m o n x2 := State.Sound.bump (State.Sound.foldl h1 (fun s1 x3 h2 => State.Sound.disarmLine
        h2 (Field.sub_of hm rfl))) (Field.sub_of hm rfl)
    clear_value x2
    exact State.Sound.setPlat h2 (⟨rfl, rfl⟩) (Field.sub_of hm rfl)

theorem State.Sound.enableStep {s op on} (h : State.Sound m o n s) (hm : Field.sub [.dict, .clock, .ports, .host,
    .plat, .sent] m = true) :
    State.Sound m o n (State.enableStep s op on) := by
  unfold State.enableStep
  split
  · rename_i y1 y2
    exact h
  · rename_i y3 y4 y5 y6
    extract_lets x1
    have h1 : State.Sound m o n x1 := State.Sound.setPlat (State.Sound.advance h (Field.sub_of hm rfl)) ⟨rfl, rfl⟩
        (Field.sub_of hm rfl)
    clear_value x1
    exact State.Sound.nextStep (State.Sound.advance h1 (Field.sub_of hm rfl)) (Field.sub_of hm rfl)

theorem State.Sound.of_doEnableOn {s} (h : State.Sound m o n s) (hm : Field.sub [.dict, .clock, .ports, .host, .plat,
    .sent] m = true) :
    State.Sound m o n (doEnableOn s) := by
  unfold doEnableOn
  exact State.Sound.enableStep h (Field.sub_of hm rfl)

theorem State.Sound.of_execEnableOn {s} (h : State.Sound m o n s) (hm : Field.sub [.dict, .clock, .ports, .host,
    .plat, .sent] m = true) :
    State.SoundX m o n (execEnableOn s) := by
  unfold execEnableOn
  exact State.SoundX.next (State.Sound.of_doEnableOn h (Field.sub_of hm rfl))

theorem State.Sound.of_doEnableOff {s} (h : State.Sound m o n s) (hm : Field.sub [.dict, .clock, .ports, .host,
    .plat, .sent] m = true) :
    State.Sound m o n (doEnableOff s) := by
  unfold doEnableOff
  exact State.Sound.enableStep h (Field.sub_of hm rfl)

theorem State.Sound.of_execEnableOff {s} (h : State.Sound m o n s) (hm : Field.sub [.dict, .clock, .ports, .host,
    .plat, .sent] m = true) :
    State.SoundX m o n (execEnableOff s) := by
  unfold execEnableOff
  exact State.SoundX.next (State.Sound.of_doEnableOff h (Field.sub_of hm rfl))

theorem State.Sound.waitStep {s op high} (h : State.Sound m o n s) (hm : Field.sub [.dict, .clock, .ports, .host,
    .plat, .sent] m = true) :
    State.Sound m o n (State.waitStep s op high) := by
  unfold State.waitStep
  split
  · exact h
  · extract_lets x1
    have h1 : State.Sound m o n x1 := State.Sound.advance h (Field.sub_of hm rfl)
    clear_value x1
    exact State.Sound.ite (State.Sound.nextStep (State.Sound.ite (State.Sound.armLine h1 (Field.sub_of hm rfl)) h1)
        (Field.sub_of hm rfl)) (State.Sound.setPlat h1 (⟨rfl, rfl⟩) (Field.sub_of hm rfl))

theorem State.Sound.of_doWaitPgHigh {s} (h : State.Sound m o n s) (hm : Field.sub [.dict, .clock, .ports, .host,
    .plat, .sent] m = true) :
    State.Sound m o n (doWaitPgHigh s) := by
  unfold doWaitPgHigh
  exact State.Sound.waitStep h (Field.sub_of hm rfl)

theorem State.Sound.of_execWaitPgHigh {s} (h : State.Sound m o n s) (hm : Field.sub [.dict, .clock, .ports, .host,
    .plat, .sent] m = true) :
    State.SoundX m o n (execWaitPgHigh s) := by
  unfold execWaitPgHigh
  exact State.SoundX.next (State.Sound.of_doWaitPgHigh h (Field.sub_of hm rfl))

theorem State.Sound.of_doWaitPgLow {s} (h : State.Sound m o n s) (hm : Field.sub [.dict, .clock, .ports, .host,
    .plat, .sent] m = true) :
    State.Sound m o n (doWaitPgLow s) := by
  unfold doWaitPgLow
  exact State.Sound.waitStep h (Field.sub_of hm rfl)

theorem State.Sound.of_execWaitPgLow {s} (h : State.Sound m o n s) (hm : Field.sub [.dict, .clock, .ports, .host,
    .plat, .sent] m = true) :
    State.SoundX m o n (execWaitPgLow s) := by
  unfold execWaitPgLow
  exact State.SoundX.next (State.Sound.of_doWaitPgLow h (Field.sub_of hm rfl))

theorem State.Sound.of_doDelay {s} (h : State.Sound m o n s) (hm : Field.sub [.clock, .plat] m = true) :
    State.Sound m o n (doDelay s) := by
  unfold doDelay
  split
  · exact h
  · exact State.Sound.setPlat (State.Sound.advance h (Field.sub_of hm rfl)) (⟨rfl, rfl⟩) (Field.sub_of hm rfl)

theorem State.Sound.of_execDelay {s} (h : State.Sound m o n s) (hm : Field.sub [.clock, .plat] m = true) :
    State.SoundX m o n (execDelay s) := by
  unfold execDelay
  exact State.SoundX.next (State.Sound.of_doDelay h (Field.sub_of hm rfl))

theorem State.Sound.of_doDelayExpiry {s} (h : State.Sound m o n s) (hm : Field.sub [.dict, .clock, .ports, .host,
    .plat, .sent] m = true) :
    State.Sound m o n (doDelayExpiry s) := by
  unfold doDelayExpiry
  split
  · exact h
  · extract_lets x1
    exact State.Sound.nextStep (State.Sound.advance h (Field.sub_of hm rfl)) (Field.sub_of hm rfl)

theorem State.Sound.of_execDelayExpiry {s} (h : State.Sound m o n s) (hm : Field.sub [.dict, .clock, .ports, .host,
    .plat, .sent] m = true) :
    State.SoundX m o n (execDelayExpiry s) := by
  unfold execDelayExpiry
  exact State.SoundX.next (State.Sound.of_doDelayExpiry h (Field.sub_of hm rfl))

theorem State.Sound.requireStep {s op high} (h : State.Sound m o n s) (hm : Field.sub [.dict, .clock, .ports, .host,
    .plat, .sent] m = true) :
    State.Sound m o n (State.requireStep s op high) := by
  unfold State.requireStep
  split
  · rename_i y1 y2
    exact h
  · rename_i y3 y4 y5 y6
    extract_lets x1
    have h1 : State.Sound m o n x1 := State.Sound.advance h (Field.sub_of hm rfl)
    clear_value x1
    exact State.Sound.ite (State.Sound.nextStep (State.Sound.advance (State.Sound.ite (State.Sound.armLine h1
        (Field.sub_of hm rfl)) h1) (Field.sub_of hm rfl)) (Field.sub_of hm rfl)) (State.Sound.endSequence h1
        (Field.sub_of hm rfl))

theorem State.Sound.of_doRequirePgHigh {s} (h : State.Sound m o n s) (hm : Field.sub [.dict, .clock, .ports, .host,
    .plat, .sent] m = true) :
    State.Sound m o n (doRequirePgHigh s) := by
  unfold doRequirePgHigh
  exact State.Sound.requireStep h (Field.sub_of hm rfl)

theorem State.Sound.of_execRequirePgHigh {s} (h : State.Sound m o n s) (hm : Field.sub [.dict, .clock, .ports, .host,
    .plat, .sent] m = true) :
    State.SoundX m o n (execRequirePgHigh s) := by
  unfold execRequirePgHigh
  exact State.SoundX.next (State.Sound.of_doRequirePgHigh h (Field.sub_of hm rfl))

theorem State.Sound.of_doRequirePgLow {s} (h : State.Sound m o n s) (hm : Field.sub [.dict, .clock, .ports, .host,
    .plat, .sent] m = true) :
    State.Sound m o n (doRequirePgLow s) := by
  unfold doRequirePgLow
  exact State.Sound.requireStep h (Field.sub_of hm rfl)

theorem State.Sound.of_execRequirePgLow {s} (h : State.Sound m o n s) (hm : Field.sub [.dict, .clock, .ports, .host,
    .plat, .sent] m = true) :
    State.SoundX m o n (execRequirePgLow s) := by
  unfold execRequirePgLow
  exact State.SoundX.next (State.Sound.of_doRequirePgLow h (Field.sub_of hm rfl))

theorem State.Sound.of_doSeqEnd {s} (h : State.Sound m o n s) (hm : Field.sub [.dict, .clock, .ports, .host, .plat,
    .sent] m = true) :
    State.Sound m o n (doSeqEnd s) := by
  unfold doSeqEnd
  split
  · exact h
  · exact State.Sound.endSequence (State.Sound.advance h (Field.sub_of hm rfl)) (Field.sub_of hm rfl)

theorem State.Sound.of_execSeqEnd {s} (h : State.Sound m o n s) (hm : Field.sub [.dict, .clock, .ports, .host, .plat,
    .sent] m = true) :
    State.SoundX m o n (execSeqEnd s) := by
  unfold execSeqEnd
  exact State.SoundX.next (State.Sound.of_doSeqEnd h (Field.sub_of hm rfl))

theorem State.Sound.of_doWaitTimeout {s} (h : State.Sound m o n s) (hm : Field.sub [.dict, .clock, .ports, .host,
    .plat, .sent] m = true) :
    State.Sound m o n (doWaitTimeout s) := by
  unfold doWaitTimeout
  split
  · exact h
  · extract_lets x1
    exact State.Sound.endSequence (State.Sound.advance h (Field.sub_of hm rfl)) (Field.sub_of hm rfl)

theorem State.Sound.of_execWaitTimeout {s} (h : State.Sound m o n s) (hm : Field.sub [.dict, .clock, .ports, .host,
    .plat, .sent] m = true) :
    State.SoundX m o n (execWaitTimeout s) := by
  unfold execWaitTimeout
  exact State.SoundX.next (State.Sound.of_doWaitTimeout h (Field.sub_of hm rfl))

theorem State.Sound.wakeWait {s line high t} (h : State.Sound m o n s) (hm : Field.sub [.dict, .ports, .host, .plat,
    .sent] m = true) :
    State.Sound m o n (State.wakeWait s line high t) := by
  unfold State.wakeWait
  split
  · exact h
  · exact State.Sound.ite (State.Sound.nextStep (State.Sound.ite (State.Sound.armLine h (Field.sub_of hm rfl)) h)
        (Field.sub_of hm rfl)) h

theorem State.Sound.pgLevel {s line high t} (h : State.Sound m o n s) (hm : Field.sub [.dict, .ports, .host, .plat,
    .sent] m = true) :
    State.Sound m o n (State.pgLevel s line high t) := by
  unfold State.pgLevel
  refine State.Sound.ite h ?_
  extract_lets x1 x2 x3 x4
  have h1 : State.Sound m o n x2 := State.Sound.setPlat h (⟨rfl, rfl⟩) (Field.sub_of hm rfl)
  clear_value x2
  have h2 : State.Sound m o n x3 := State.Sound.bump (State.Sound.setPlat h1 (⟨rfl, rfl⟩) (Field.sub_of hm rfl))
      (Field.sub_of hm rfl)
  clear_value x3
  have h3 : State.Sound m o n x4 := State.Sound.ite (State.Sound.supplyEvent h2 (Field.sub_of hm rfl))
      (State.Sound.ite (State.Sound.supplyEvent (State.Sound.armLine h1 (Field.sub_of hm rfl)) (Field.sub_of hm
      rfl)) h1)
  clear_value x4
  exact State.Sound.wakeWait h3 (Field.sub_of hm rfl)

theorem State.Sound.of_doPgChange {t line pinHigh s} (h : State.Sound m o n s) (hm : Field.sub [.dict, .clock,
    .ports, .host, .plat, .sent] m = true) :
    State.Sound m o n (doPgChange t line pinHigh s) := by
  unfold doPgChange
  extract_lets x1 x2
  have h1 : State.Sound m o n x1 := State.Sound.advance h (Field.sub_of hm rfl)
  clear_value x1
  exact State.Sound.ite (State.Sound.pgLevel h1 (Field.sub_of hm rfl)) (State.Sound.setPlat h1 (⟨rfl, rfl⟩)
      (Field.sub_of hm rfl))

theorem State.Sound.of_execPgChange {t line pinHigh s} (h : State.Sound m o n s) (hm : Field.sub [.dict, .clock,
    .ports, .host, .plat, .sent] m = true) :
    State.SoundX m o n (execPgChange t line pinHigh s) := by
  unfold execPgChange
  exact State.SoundX.next (State.Sound.of_doPgChange h (Field.sub_of hm rfl))

theorem State.Sound.settlePolarity {s old t} (h : State.Sound m o n s) (hm : Field.sub [.dict, .ports, .host, .plat,
    .sent] m = true) :
    State.Sound m o n (State.settlePolarity s old t) := by
  unfold State.settlePolarity
  exact State.Sound.foldl h (fun s1 x1 h1 => State.Sound.ite h1 (State.Sound.pgLevel h1 (Field.sub_of hm rfl)))

theorem State.Sound.settleWatch {s} (h : State.Sound m o n s) (hm : Field.sub [.plat] m = true) :
    State.Sound m o n (State.settleWatch s) := by
  unfold State.settleWatch
  extract_lets x1
  exact State.Sound.setPlat h (⟨rfl, rfl⟩) (Field.sub_of hm rfl)

theorem State.Sound.readChannel {s ch r} (h : State.Sound m o n s) (hm : Field.sub [.free] m = true) :
    State.SoundP m o n (State.readChannel s ch r) := by
  unfold State.readChannel
  split
  · rename_i y1 y2
    exact State.SoundP.ite (State.SoundP.mk h) (State.SoundP.mk h)
  · rename_i y3 y4
    refine State.SoundP.ite (State.SoundP.mk h) ?_
    refine State.SoundP.ite (State.SoundP.mk h) ?_
    split
    · rename_i y5 y6 y7
      exact State.SoundP.mk h
    · rename_i y8 y9
      split
      rename_i y10 y11 y12 y13
      have h1 : State.Sound m o n y12 := State.SoundP.of y13 (State.Sound.takeFree h (Field.sub_of hm rfl))
      exact State.SoundP.mk h1
  · rename_i y14 y15 y16
    extract_lets x1
    exact State.SoundP.ite (State.SoundP.mk h) (State.SoundP.ite (State.SoundP.mk h) (State.SoundP.ite
        (State.SoundP.mk h) (State.SoundP.mk h)))
  · rename_i y17
    exact State.SoundP.ite (State.SoundP.mk h) (State.SoundP.mk h)

theorem State.Sound.setChannel {s ch f} (h : State.Sound m o n s) (hm : Field.sub [.plat] m = true) :
    State.Sound m o n (State.setChannel s ch f) := by
  unfold State.setChannel
  exact State.Sound.setPlat h ((by simp)) (Field.sub_of hm rfl)

theorem State.Sound.driveTrip {s on t temp threshold} (h : State.Sound m o n s) (hm : Field.sub [.dict, .ports,
    .host, .plat, .sent] m = true) :
    State.Sound m o n (State.driveTrip s on t temp threshold) := by
  unfold State.driveTrip
  refine State.Sound.ite h ?_
  extract_lets x1 x2
  have h1 : State.Sound m o n x1 := State.Sound.setPlat h (⟨rfl, rfl⟩) (Field.sub_of hm rfl)
  clear_value x1
  have h2 : State.Sound m o n x2 := State.Sound.ite (State.Sound.bump h1 (Field.sub_of hm rfl)) h1
  clear_value x2
  exact State.Sound.thermalEvent h2 (Field.sub_of hm rfl)

theorem State.Sound.settleTrip {s t temp threshold} (h : State.Sound m o n s) (hm : Field.sub [.dict, .ports, .host,
    .plat, .sent] m = true) :
    State.Sound m o n (State.settleTrip s t temp threshold) := by
  unfold State.settleTrip
  exact State.Sound.ite (State.Sound.driveTrip h (Field.sub_of hm rfl)) h

theorem State.Sound.levelEvent {s ch level t temp threshold ev} (h : State.Sound m o n s) (hm : Field.sub [.dict,
    .ports, .host, .plat, .sent] m = true) :
    State.Sound m o n (State.levelEvent s ch level t temp threshold ev) := by
  unfold State.levelEvent
  split
  · exact h
  · extract_lets x1
    have h1 : State.Sound m o n x1 := State.Sound.thermalEvent h (Field.sub_of hm rfl)
    clear_value x1
    exact State.Sound.ite h1 (State.Sound.ite (State.Sound.ite (State.Sound.driveTrip h1 (Field.sub_of hm rfl)) h1)
        (State.Sound.settleTrip h1 (Field.sub_of hm rfl)))

theorem State.Sound.judgeChannel {s ch t temp} (h : State.Sound m o n s) (hm : Field.sub [.dict, .ports, .host,
    .plat, .sent] m = true) :
    State.Sound m o n (State.judgeChannel s ch t temp) := by
  unfold State.judgeChannel
  extract_lets x1 x2 x3 x4 x5 x6
  split
  · split
    · split
      · extract_lets x7
        have h1 : State.Sound m o n x7 := State.Sound.setChannel h (Field.sub_of hm rfl)
        clear_value x7
        exact State.Sound.levelEvent (State.Sound.levelEvent (State.Sound.levelEvent h1 (Field.sub_of hm rfl))
            (Field.sub_of hm rfl)) (Field.sub_of hm rfl)

theorem State.Sound.faultChannel {s ch t} (h : State.Sound m o n s) (hm : Field.sub [.dict, .ports, .host, .plat,
    .sent] m = true) :
    State.Sound m o n (State.faultChannel s ch t) := by
  unfold State.faultChannel
  refine State.Sound.ite h ?_
  extract_lets x1
  have h1 : State.Sound m o n x1 := State.Sound.bump (State.Sound.setChannel h (Field.sub_of hm rfl))
      (Field.sub_of hm rfl)
  clear_value x1
  exact State.Sound.thermalEvent h1 (Field.sub_of hm rfl)

theorem State.Sound.sampleChannel {s ch t r} (h : State.Sound m o n s) (hm : Field.sub [.dict, .ports, .host, .plat,
    .sent, .free] m = true) :
    State.Sound m o n (State.sampleChannel s ch t r) := by
  unfold State.sampleChannel
  refine State.Sound.ite (State.Sound.setChannel h (Field.sub_of hm rfl)) ?_
  split
  · rename_i y1 y2 y3 y4
    have h1 : State.Sound m o n y3 := State.SoundP.of y4 (State.Sound.readChannel h (Field.sub_of hm rfl))
    split
    · exact h1
    · exact State.Sound.faultChannel h1 (Field.sub_of hm rfl)
    · extract_lets x1 x2
      have h2 : State.Sound m o n x2 := State.Sound.setChannel h1 (Field.sub_of hm rfl)
      clear_value x2
      exact State.Sound.ite (State.Sound.faultChannel h2 (Field.sub_of hm rfl)) h2
    · extract_lets x1 x2 x3 x4
      have h2 : State.Sound m o n x3 := State.Sound.setChannel h1 (Field.sub_of hm rfl)
      clear_value x3
      have h3 : State.Sound m o n x4 := State.Sound.ite (State.Sound.thermalEvent h2 (Field.sub_of hm rfl)) h2
      clear_value x4
      exact State.Sound.judgeChannel h3 (Field.sub_of hm rfl)

theorem State.Sound.updateCurve {s f} (h : State.Sound m o n s) (hm : Field.sub [.plat, .free] m = true) :
    State.Sound m o n (State.updateCurve s f) := by
  unfold State.updateCurve
  extract_lets x1
  split
  · rename_i y1 y2 y3 y4
    have h1 : State.Sound m o n y3 := State.SoundP.of y4 (by
      clear_value x1
      split
      · exact State.Sound.takeFree h (Field.sub_of hm rfl)
      · exact State.SoundP.mk h)
    exact State.Sound.setPlat h1 ((by simp)) (Field.sub_of hm rfl)

theorem State.Sound.updateFan {s f} (h : State.Sound m o n s) (hm : Field.sub [.plat, .free] m = true) :
    State.Sound m o n (State.updateFan s f) := by
  unfold State.updateFan
  extract_lets x1
  have h1 : State.Sound m o n x1 := State.Sound.updateCurve h (Field.sub_of hm rfl)
  clear_value x1
  exact State.Sound.setPlat h1 (by simp) (Field.sub_of hm rfl)

theorem State.Sound.of_doThermalSample {t readings s} (h : State.Sound m o n s) (hm : Field.sub [.dict, .clock,
    .ports, .host, .plat, .sent, .free] m = true) :
    State.Sound m o n (doThermalSample t readings s) := by
  unfold doThermalSample
  extract_lets x1 x2 x3
  have h1 : State.Sound m o n x1 := State.Sound.advance h (Field.sub_of hm rfl)
  clear_value x1
  have h2 : State.Sound m o n x2 := State.Sound.setPlat h1 ⟨rfl, rfl⟩ (Field.sub_of hm rfl)
  clear_value x2
  have h4 : State.Sound m o n x3 := State.Sound.foldl h2 (fun s1 x4 h3 => (State.Sound.sampleChannel h3
      (Field.sub_of hm rfl)))
  clear_value x3
  exact State.Sound.ite h1 (State.Sound.updateFan (State.Sound.updateFan h4 (Field.sub_of hm rfl)) (Field.sub_of hm
      rfl))

theorem State.Sound.of_execThermalSample {t readings s} (h : State.Sound m o n s) (hm : Field.sub [.dict, .clock,
    .ports, .host, .plat, .sent, .free] m = true) :
    State.SoundX m o n (execThermalSample t readings s) := by
  unfold execThermalSample
  exact State.SoundX.next (State.Sound.of_doThermalSample h (Field.sub_of hm rfl))

theorem State.Sound.settleChannels {s t} (h : State.Sound m o n s) (hm : Field.sub [.dict, .ports, .host, .plat,
    .sent] m = true) :
    State.Sound m o n (State.settleChannels s t) := by
  unfold State.settleChannels
  extract_lets x1
  have h1 : State.Sound m o n x1 := State.Sound.foldl h (fun s1 x2 h1 => State.Sound.ite h1 (State.Sound.setChannel
      h1 (Field.sub_of hm rfl)))
  clear_value x1
  exact State.Sound.settleTrip h1 (Field.sub_of hm rfl)

theorem State.Sound.of_doFanTachUpdate {t f pulses s} (h : State.Sound m o n s) (hm : Field.sub [.dict, .clock,
    .ports, .host, .plat, .sent] m = true) :
    State.Sound m o n (doFanTachUpdate t f pulses s) := by
  unfold doFanTachUpdate
  extract_lets x1 x2 x3 x4 x5 x6 x7 x8 x9 x10
  have h1 : State.Sound m o n x1 := State.Sound.advance h (Field.sub_of hm rfl)
  clear_value x1
  have h2 : State.Sound m o n x10 := State.Sound.setPlat h1 ((by simp)) (Field.sub_of hm rfl)
  clear_value x10
  exact State.Sound.ite h1 (State.Sound.ite (State.Sound.thermalEvent (State.Sound.bump h2 (Field.sub_of hm rfl))
      (Field.sub_of hm rfl)) (State.Sound.ite (State.Sound.thermalEvent h2 (Field.sub_of hm rfl)) h2))

theorem State.Sound.of_execFanTachUpdate {t f pulses s} (h : State.Sound m o n s) (hm : Field.sub [.dict, .clock,
    .ports, .host, .plat, .sent] m = true) :
    State.SoundX m o n (execFanTachUpdate t f pulses s) := by
  unfold execFanTachUpdate
  exact State.SoundX.next (State.Sound.of_doFanTachUpdate h (Field.sub_of hm rfl))

theorem State.Sound.vsupEvent {s t level mv threshold ev} (h : State.Sound m o n s) (hm : Field.sub [.dict, .ports,
    .host, .sent] m = true) :
    State.Sound m o n (State.vsupEvent s t level mv threshold ev) := by
  unfold State.vsupEvent
  split
  · exact h
  · exact State.Sound.supplyEvent h (Field.sub_of hm rfl)

theorem State.Sound.of_doVsupSample {t code s} (h : State.Sound m o n s) (hm : Field.sub [.dict, .clock, .ports,
    .host, .plat, .sent] m = true) :
    State.Sound m o n (doVsupSample t code s) := by
  unfold doVsupSample
  extract_lets x1 x2 x3 x4 x5
  have h1 : State.Sound m o n x1 := State.Sound.advance h (Field.sub_of hm rfl)
  clear_value x1
  refine State.Sound.ite h1 ?_
  split
  · split
    · split
      · split
        · extract_lets x6 x7 x8 x9
          have h2 : State.Sound m o n x6 := State.Sound.setPlat h1 (⟨rfl, rfl⟩) (Field.sub_of hm rfl)
          clear_value x6
          have h3 : State.Sound m o n x7 := State.Sound.vsupEvent h2 (Field.sub_of hm rfl)
          clear_value x7
          have h4 : State.Sound m o n x8 := State.Sound.vsupEvent h3 (Field.sub_of hm rfl)
          clear_value x8
          have h5 : State.Sound m o n x9 := State.Sound.vsupEvent h4 (Field.sub_of hm rfl)
          clear_value x9
          exact State.Sound.vsupEvent h5 (Field.sub_of hm rfl)

theorem State.Sound.of_execVsupSample {t code s} (h : State.Sound m o n s) (hm : Field.sub [.dict, .clock, .ports,
    .host, .plat, .sent] m = true) :
    State.SoundX m o n (execVsupSample t code s) := by
  unfold execVsupSample
  exact State.SoundX.next (State.Sound.of_doVsupSample h (Field.sub_of hm rfl))

theorem State.Sound.goodPoll {s t w} (h : State.Sound m o n s) (hm : Field.sub [.dict, .ports, .host, .plat, .sent] m
    = true) :
    State.Sound m o n (State.goodPoll s t w) := by
  unfold State.goodPoll
  extract_lets x1 x2 x3 x4
  split
  · split
    · extract_lets x5 x6 x7 x8
      have h1 : State.Sound m o n x5 := State.Sound.setPlat h (⟨rfl, rfl⟩) (Field.sub_of hm rfl)
      clear_value x5
      have h2 : State.Sound m o n x6 := State.Sound.ite h1 (State.Sound.supplyEvent h1 (Field.sub_of hm rfl))
      clear_value x6
      have h3 : State.Sound m o n x7 := by
        unfold x7
        split
        · exact h2
        · exact State.Sound.supplyEvent h2 (Field.sub_of hm rfl)
      clear_value x7
      have h4 : State.Sound m o n x8 := by
        unfold x8
        split
        · exact h3
        · exact State.Sound.supplyEvent h3 (Field.sub_of hm rfl)
      clear_value x8
      exact State.Sound.ite h4 (State.Sound.supplyEvent h4 (Field.sub_of hm rfl))

theorem State.Sound.badPoll {s t} (h : State.Sound m o n s) (hm : Field.sub [.dict, .ports, .host, .plat, .sent] m =
    true) :
    State.Sound m o n (State.badPoll s t) := by
  unfold State.badPoll
  extract_lets x1 x2
  have h1 : State.Sound m o n x2 := State.Sound.bump (State.Sound.setPlat h (⟨rfl, rfl⟩) (Field.sub_of hm rfl))
      (Field.sub_of hm rfl)
  clear_value x2
  exact State.Sound.ite (State.Sound.supplyEvent (State.Sound.setPlat h1 (⟨rfl, rfl⟩) (Field.sub_of hm rfl))
      (Field.sub_of hm rfl)) h1

theorem State.Sound.of_doBatteryPoll {t words s} (h : State.Sound m o n s) (hm : Field.sub [.dict, .clock, .ports,
    .host, .plat, .sent] m = true) :
    State.Sound m o n (doBatteryPoll t words s) := by
  unfold doBatteryPoll
  extract_lets x1 x2
  have h1 : State.Sound m o n x1 := State.Sound.advance h (Field.sub_of hm rfl)
  clear_value x1
  have h2 : State.Sound m o n x2 := State.Sound.setPlat h1 (⟨rfl, rfl⟩) (Field.sub_of hm rfl)
  clear_value x2
  refine State.Sound.ite h1 ?_
  split
  · exact State.Sound.goodPoll h2 (Field.sub_of hm rfl)
  · exact State.Sound.badPoll h2 (Field.sub_of hm rfl)

theorem State.Sound.of_execBatteryPoll {t words s} (h : State.Sound m o n s) (hm : Field.sub [.dict, .clock, .ports,
    .host, .plat, .sent] m = true) :
    State.SoundX m o n (execBatteryPoll t words s) := by
  unfold execBatteryPoll
  exact State.SoundX.next (State.Sound.of_doBatteryPoll h (Field.sub_of hm rfl))

theorem State.Sound.settleBattery {s} (h : State.Sound m o n s) (hm : Field.sub [.plat] m = true) :
    State.Sound m o n (State.settleBattery s) := by
  unfold State.settleBattery
  exact State.Sound.ite h (State.Sound.setPlat h (⟨rfl, rfl⟩) (Field.sub_of hm rfl))

theorem State.Sound.reportAborted {s} (h : State.Sound m o n s) (hm : Field.sub [.dict, .ports, .host, .plat, .sent]
    m = true) :
    State.Sound m o n (State.reportAborted s) := by
  unfold State.reportAborted
  split
  · exact h
  · exact State.Sound.reportSeq (State.Sound.setPlat h (⟨rfl, rfl⟩) (Field.sub_of hm rfl)) (Field.sub_of hm rfl)

/-! ## Storage -/

theorem State.Sound.settleTimeSource {s old} (h : State.Sound m o n s) (hm : Field.sub [.dict, .tick] m = true) :
    State.Sound m o n (State.settleTimeSource s old) := by
  unfold State.settleTimeSource
  extract_lets x1
  exact State.Sound.ite h (State.Sound.setGptp (State.Sound.setNum h (Field.sub_of hm rfl)) (Field.sub_of hm rfl))

theorem State.Sound.settleKeys {s old t} (h : State.Sound m o n s) (hm : Field.sub [.dict, .keys] m = true) :
    State.Sound m o n (State.settleKeys s old t) := by
  unfold State.settleKeys
  exact State.Sound.ite h (State.Sound.maskKeys h (Field.sub_of hm rfl))

theorem State.Sound.settleAll {s old t tick offset} (h : State.Sound m o n s) (hm : Field.sub [.dict, .tick, .tally,
    .ports, .ingest, .arrs, .queues, .mem, .host, .bin, .log, .keys, .panels, .plat, .sent] m = true) :
    State.Sound m o n (State.settleAll s old t tick offset) := by
  unfold State.settleAll
  extract_lets x1 x2 x3
  have h1 : State.Sound m o n x1 := State.Sound.settleUnits h (Field.sub_of hm rfl)
  clear_value x1
  have h3 : State.Sound m o n x2 := State.Sound.foldl h1 (fun s1 x4 h2 => (State.Sound.settleNoise
      (State.Sound.settlePanel h2 (Field.sub_of hm rfl)) (Field.sub_of hm rfl)))
  clear_value x2
  have h4 : State.Sound m o n x3 := State.Sound.settleBattery (State.Sound.settleChannels (State.Sound.settleWatch
      (State.Sound.settlePolarity h3 (Field.sub_of hm rfl)) (Field.sub_of hm rfl)) (Field.sub_of hm rfl))
      (Field.sub_of hm rfl)
  clear_value x3
  exact State.Sound.settleKeys (State.Sound.settleTimeSource (State.Sound.settleSource h4 (Field.sub_of hm rfl))
      (Field.sub_of hm rfl)) (Field.sub_of hm rfl)

theorem State.Sound.settleNow {s old} (h : State.Sound m o n s) (hm : Field.sub [.dict, .tick, .tally, .ports,
    .ingest, .arrs, .queues, .mem, .host, .bin, .log, .keys, .panels, .plat, .sent] m = true) :
    State.Sound m o n (State.settleNow s old) := by
  unfold State.settleNow
  exact State.Sound.settleAll h (Field.sub_of hm rfl)

/-- A load keeps the canonical form of the register file. -/
theorem loadImage_wf {v : Part} {d : Dict} {i : Option Image} (h : Dict.wf v.variant d = true) :
    Dict.wf v.variant (loadImage v d i).dict = true := by
  unfold loadImage
  extract_lets kept
  have hk : Dict.wf v.variant kept = true := Dict.wf_filter _ h
  clear_value kept
  cases i with
  | none => exact hk
  | some i =>
    have : ∀ (xs : List Nat) (l : Loaded), Dict.wf v.variant l.dict = true →
        Dict.wf v.variant (xs.foldl (loadOne v i) l).dict = true := by
      intro xs
      induction xs with
      | nil => exact fun l hl => hl
      | cons e xs ih =>
        intro l hl
        refine ih _ ?_
        unfold loadOne
        extract_lets look value
        split
        · exact hl
        · split
          · exact Dict.wf_set _ _ hl
          · exact hl
    exact this _ _ hk

theorem State.Sound.loadStored {s} (h : State.Sound m o n s) (hm : Field.sub [.dict, .staged] m = true) :
    State.Sound m o n (State.loadStored s) := by
  unfold State.loadStored
  extract_lets x1 x2 x3 x4
  have h1 : State.Sound m o n x3 := State.Sound.renewed [.dict, .staged] h (Field.sub_of hm rfl) rfl (Nat.le_refl _)
    (fun g => ⟨⟨loadImage_wf g.1.1, g.1.2⟩, g.2⟩)
  clear_value x3
  exact State.Sound.ite (State.Sound.setNum h1 (Field.sub_of hm rfl)) (State.Sound.setNum (State.Sound.setNum h1
      (Field.sub_of hm rfl)) (Field.sub_of hm rfl))

theorem State.Sound.setNvmState {s x} (h : State.Sound m o n s) (hm : Field.sub [.dict] m = true) :
    State.Sound m o n (State.setNvmState s x) := by
  unfold State.setNvmState
  exact State.Sound.setNum h (Field.sub_of hm rfl)

theorem State.Sound.startStore {s} (h : State.Sound m o n s) (hm : Field.sub [.dict, .nvm] m = true) :
    State.Sound m o n (State.startStore s) := by
  unfold State.startStore
  exact State.Sound.setNvmState (State.Sound.congr [.nvm] h (Field.sub_of hm rfl) rfl rfl (Nat.le_refl _) rfl rfl
      rfl) (Field.sub_of hm rfl)

theorem State.Sound.of_doStoreComplete {t verified s} (h : State.Sound m o n s) (hm : Field.sub [.dict, .nvm,
    .clock] m = true) :
    State.Sound m o n (doStoreComplete t verified s) := by
  unfold doStoreComplete
  extract_lets x1 x2
  have h1 : State.Sound m o n x1 := State.Sound.advance h (Field.sub_of hm rfl)
  clear_value x1
  split
  · rename_i y1 y2
    exact h1
  · rename_i y3 y4 y5
    refine State.Sound.ite h1 ?_
    refine State.Sound.ite ?_ (State.Sound.setNvmState (State.Sound.congr [.nvm] h1 (Field.sub_of hm rfl) rfl rfl
        (Nat.le_refl _) rfl rfl rfl) (Field.sub_of hm rfl))
    extract_lets x3 x4
    have h2 : State.Sound m o n x4 := State.Sound.congr [.nvm] h1 (Field.sub_of hm rfl) rfl rfl (Nat.le_refl _) rfl
        rfl rfl
    clear_value x4
    exact State.Sound.bumpWord (State.Sound.setNum h2 (Field.sub_of hm rfl)) (Field.sub_of hm rfl)

theorem State.Sound.of_execStoreComplete {t verified s} (h : State.Sound m o n s) (hm : Field.sub [.dict, .nvm,
    .clock] m = true) :
    State.SoundX m o n (execStoreComplete t verified s) := by
  unfold execStoreComplete
  exact State.SoundX.next (State.Sound.of_doStoreComplete h (Field.sub_of hm rfl))

theorem State.Sound.loadOthers {s} (h : State.Sound m o n s) (hm : Field.sub [.dict, .ports, .keys] m = true) :
    State.Sound m o n (State.loadOthers s) := by
  unfold State.loadOthers
  exact State.Sound.ownerUnlock (State.Sound.congr [.ports] h (Field.sub_of hm rfl) rfl rfl (Nat.le_refl _) rfl rfl
      (by simp [State.shape])) (Field.sub_of hm rfl)

theorem State.Sound.restoreImage {s} (h : State.Sound m o n s) (hm : Field.sub [.dict, .staged, .tick, .tally,
    .ports, .ingest, .arrs, .queues, .mem, .host, .bin, .log, .keys, .panels, .plat, .sent] m = true) :
    State.Sound m o n (State.restoreImage s) := by
  unfold State.restoreImage
  exact State.Sound.loadOthers (State.Sound.settleNow (State.Sound.loadStored h (Field.sub_of hm rfl)) (Field.sub_of
      hm rfl)) (Field.sub_of hm rfl)

theorem State.Sound.restoreDefaults {s} (h : State.Sound m o n s)
    (hm : Field.sub [.dict, .staged, .tick, .tally, .ports, .ingest, .arrs, .queues, .mem, .host, .bin, .log, .keys,
        .panels, .plat, .sent] m = true) : State.Sound m o n (State.restoreDefaults s) := by
  unfold State.restoreDefaults
  exact State.Sound.settleNow (State.Sound.renewed [.dict, .staged] h (Field.sub_of hm rfl) rfl (Nat.le_refl _)
    (fun g => ⟨⟨Dict.wf_filter _ g.1.1, g.1.2⟩, g.2⟩)) (Field.sub_of hm rfl)

/-! ## Power -/

theorem State.Sound.setPower {s f} (h : State.Sound m o n s) (hm : Field.sub [.power] m = true) :
    State.Sound m o n (State.setPower s f) := by
  unfold State.setPower
  exact State.Sound.congr [.power] h (Field.sub_of hm rfl) rfl rfl (Nat.le_refl _) rfl rfl rfl

theorem State.Sound.reportPower {s x origin cause result duration} (h : State.Sound m o n s) (hm : Field.sub [.ports,
    .host, .power, .sent] m = true) :
    State.Sound m o n (State.reportPower s x origin cause result duration) := by
  unfold State.reportPower
  extract_lets x1
  exact State.Sound.notify (State.Sound.setPower h (Field.sub_of hm rfl)) (Field.sub_of hm rfl)

theorem State.Sound.enter {s x origin cause result duration} (h : State.Sound m o n s) (hm : Field.sub [.ports,
    .host, .power, .sent] m = true) :
    State.Sound m o n (State.enter s x origin cause result duration) := by
  unfold State.enter
  extract_lets x1
  have h1 : State.Sound m o n x1 := State.Sound.setPower h (Field.sub_of hm rfl)
  clear_value x1
  exact State.Sound.reportPower h1 (Field.sub_of hm rfl)

theorem State.Sound.startGenerator {s t} (h : State.Sound m o n s) (hm : Field.sub [.tick] m = true) :
    State.Sound m o n (State.startGenerator s t) := by
  unfold State.startGenerator
  extract_lets x1 x2 x3
  exact State.Sound.setTick [.tick] h (Field.sub_of hm rfl) rfl ((Nat.le_refl _))

theorem State.Sound.haltGenerator {s} (h : State.Sound m o n s) (hm : Field.sub [.tick] m = true) :
    State.Sound m o n (State.haltGenerator s) := by
  unfold State.haltGenerator
  exact State.Sound.setTick [.tick] h (Field.sub_of hm rfl) rfl ((Nat.le_refl _))

theorem State.Sound.initMemory {s} (h : State.Sound m o n s) (hm : Field.sub [.mem] m = true) :
    State.Sound m o n (State.initMemory s) := by
  unfold State.initMemory
  extract_lets x1 x2 x3
  exact State.Sound.renewed [.mem] h hm rfl (Nat.le_refl _)
    (fun g => ⟨⟨g.1.1, Memory.wf_keep (fun a => !(x2 a)) g.1.2⟩, g.2⟩)

theorem State.Sound.of_doStandbyToReady {t channelMib trained s} (h : State.Sound m o n s) (hm : Field.sub [.dict,
    .clock, .tally, .ports, .ingest, .arrs, .queues, .mem, .host, .bin, .log, .power, .sent] m = true) :
    State.Sound m o n (doStandbyToReady t channelMib trained s) := by
  unfold doStandbyToReady
  extract_lets x1 x2 x3 x4 x5 x6 x7 x8
  have h1 : State.Sound m o n x1 := State.Sound.advance h (Field.sub_of hm rfl)
  clear_value x1
  have h2 : State.Sound m o n x4 := State.Sound.initMemory (State.Sound.setNum h1 (Field.sub_of hm rfl))
      (Field.sub_of hm rfl)
  clear_value x4
  have h3 : State.Sound m o n x6 := State.Sound.congr [.mem] h2 (Field.sub_of hm rfl) rfl rfl (Nat.le_refl _) rfl rfl
      rfl
  clear_value x6
  have h4 : State.Sound m o n x8 := State.Sound.enter h3 (Field.sub_of hm rfl)
  clear_value x8
  exact State.Sound.ite h1 (State.Sound.ite (State.Sound.reportPower (State.Sound.setPower (State.Sound.setNum h1
      (Field.sub_of hm rfl)) (Field.sub_of hm rfl)) (Field.sub_of hm rfl)) (State.Sound.settleUnits h4
      (Field.sub_of hm rfl)))

theorem State.Sound.of_execStandbyToReady {t channelMib trained s} (h : State.Sound m o n s) (hm : Field.sub [.dict,
    .clock, .tally, .ports, .ingest, .arrs, .queues, .mem, .host, .bin, .log, .power, .sent] m = true) :
    State.SoundX m o n (execStandbyToReady t channelMib trained s) := by
  unfold execStandbyToReady
  exact State.SoundX.next (State.Sound.of_doStandbyToReady h (Field.sub_of hm rfl))

theorem State.Sound.powerArray {s switchFail tileFail a} (h : State.Sound m o n s) (hm : Field.sub [.dict, .tally,
    .arrs, .queues, .bin, .log] m = true) :
    State.Sound m o n (State.powerArray s switchFail tileFail a) := by
  unfold State.powerArray
  extract_lets x1 x2 x3 x4 x5 x6 x7 x8
  have h1 : State.Sound m o n x5 := State.Sound.setArr h (Field.sub_of hm rfl)
  clear_value x5
  have h2 : State.Sound m o n x6 := State.Sound.bump h1 (Field.sub_of hm rfl)
  clear_value x6
  have h3 : State.Sound m o n x7 := State.Sound.setArr (State.Sound.bump h2 (Field.sub_of hm rfl)) (Field.sub_of hm
      rfl)
  clear_value x7
  exact State.Sound.ite (State.Sound.raise (State.Sound.setArr h (Field.sub_of hm rfl)) (Field.sub_of hm rfl))
      (State.Sound.ite h1 (State.Sound.ite (State.Sound.raise h3 (Field.sub_of hm rfl)) h2))

theorem State.Sound.of_doReadyToRun {t switchFail tileFail s} (h : State.Sound m o n s) (hm : Field.sub [.dict,
    .clock, .tally, .ports, .arrs, .queues, .mem, .host, .bin, .log, .power, .sent] m = true) :
    State.Sound m o n (doReadyToRun t switchFail tileFail s) := by
  unfold doReadyToRun
  extract_lets x1 x2 x3 x4 x5 x6
  have h1 : State.Sound m o n x1 := State.Sound.advanceCharged h (Field.sub_of hm rfl)
  clear_value x1
  have h2 : State.Sound m o n x4 := State.Sound.congr [.mem] h1 (Field.sub_of hm rfl) rfl rfl (Nat.le_refl _) rfl rfl
      rfl
  clear_value x4
  have h3 : State.Sound m o n x5 := State.Sound.foldl h2 (fun s1 x7 h3 => State.Sound.powerArray h3 (Field.sub_of hm
      rfl))
  clear_value x5
  exact State.Sound.ite h1 (State.Sound.dispatch (State.Sound.enter h3 (Field.sub_of hm rfl)) (Field.sub_of hm
      rfl))

theorem State.Sound.of_execReadyToRun {t switchFail tileFail s} (h : State.Sound m o n s) (hm : Field.sub [.dict,
    .clock, .tally, .ports, .arrs, .queues, .mem, .host, .bin, .log, .power, .sent] m = true) :
    State.SoundX m o n (execReadyToRun t switchFail tileFail s) := by
  unfold execReadyToRun
  exact State.SoundX.next (State.Sound.of_doReadyToRun h (Field.sub_of hm rfl))

theorem State.Sound.gateArrays {s} (h : State.Sound m o n s) (hm : Field.sub [.arrs] m = true) :
    State.Sound m o n (State.gateArrays s) := by
  unfold State.gateArrays
  exact State.Sound.congr [.arrs] h (Field.sub_of hm rfl) rfl rfl (Nat.le_refl _) rfl rfl (by simp [State.shape])

theorem State.Sound.of_doRunToReady {t s} (h : State.Sound m o n s) (hm : Field.sub [.dict, .clock, .tally, .ports,
    .arrs, .queues, .mem, .host, .bin, .log, .power, .sent] m = true) :
    State.Sound m o n (doRunToReady t s) := by
  unfold doRunToReady
  extract_lets x1 x2 x3
  have h1 : State.Sound m o n x1 := State.Sound.advanceCharged h (Field.sub_of hm rfl)
  clear_value x1
  exact State.Sound.ite h1 (State.Sound.enter (State.Sound.setPower (State.Sound.gateArrays h1 (Field.sub_of hm
      rfl)) (Field.sub_of hm rfl)) (Field.sub_of hm rfl))

theorem State.Sound.of_execRunToReady {t s} (h : State.Sound m o n s) (hm : Field.sub [.dict, .clock, .tally,
    .ports, .arrs, .queues, .mem, .host, .bin, .log, .power, .sent] m = true) :
    State.SoundX m o n (execRunToReady t s) := by
  unfold execRunToReady
  exact State.SoundX.next (State.Sound.of_doRunToReady h (Field.sub_of hm rfl))

theorem State.Sound.of_doReadyToStandby {t s} (h : State.Sound m o n s)
    (hm : Field.sub [.dict, .clock, .tally, .ports, .ingest, .queues, .mem, .fabric, .host, .bin, .log, .power,
        .sent] m = true) : State.Sound m o n (doReadyToStandby t s) := by
  unfold doReadyToStandby
  extract_lets x1 x2 x3 x4 x5
  have h1 : State.Sound m o n x1 := State.Sound.advance h (Field.sub_of hm rfl)
  clear_value x1
  have h2 : State.Sound m o n x2 := State.Sound.foldl h1 (fun s1 y1 k1 => State.Sound.endFrame k1 (Field.sub_of hm
      rfl))
  clear_value x2
  have h3 : State.Sound m o n x4 := State.Sound.renewed [.mem, .fabric] h2 (Field.sub_of hm rfl) rfl (Nat.le_refl _)
    (fun g => ⟨⟨g.1.1, rfl⟩, g.2⟩)
  clear_value x4
  exact State.Sound.ite h1 (State.Sound.enter h3 (Field.sub_of hm rfl))

theorem State.Sound.of_execReadyToStandby {t s} (h : State.Sound m o n s) (hm : Field.sub [.dict, .clock, .tally,
    .ports, .ingest, .queues, .mem, .fabric, .host, .bin, .log, .power, .sent] m = true) :
    State.SoundX m o n (execReadyToStandby t s) := by
  unfold execReadyToStandby
  exact State.SoundX.next (State.Sound.of_doReadyToStandby h (Field.sub_of hm rfl))

theorem State.Sound.hostOff {s} (h : State.Sound m o n s) (hm : Field.sub [.dict, .ports, .queues, .mem, .host, .bin]
    m = true) :
    State.Sound m o n (State.hostOff s) := by
  unfold State.hostOff
  extract_lets x1 x2 x3
  have h1 : State.Sound m o n x1 := State.Sound.setHost (State.Sound.resetFunction (State.Sound.resetLinked h
      (Field.sub_of hm rfl)) (Field.sub_of hm rfl)) ((by simp)) (Field.sub_of hm rfl)
  clear_value x1
  have h2 : State.Sound m o n x2 := State.Sound.setPort (State.Sound.resetPortH h1 (Field.sub_of hm rfl))
      (Field.sub_of hm rfl)
  clear_value x2
  exact State.Sound.congr [.bin] h2 (Field.sub_of hm rfl) rfl rfl (Nat.le_refl _) rfl rfl rfl

theorem State.Sound.stopPorts {s} (h : State.Sound m o n s) (hm : Field.sub [.dict, .ports, .mem] m = true) :
    State.Sound m o n (State.stopPorts s) := by
  unfold State.stopPorts
  exact State.Sound.foldl h (fun s1 x1 h1 => (State.Sound.forgetResponses (State.Sound.discardTransfer h1
      (Field.sub_of hm rfl)) (Field.sub_of hm rfl)))

theorem State.Sound.dormantParts {s} (h : State.Sound m o n s) (hm : Field.sub [.plat, .ingest] m = true) :
    State.Sound m o n { s with plat := s.plat.stopSampling, ingest := s.ingest.dormant } := by
  refine State.Sound.renewed [.plat, .ingest] h hm rfl (Nat.le_refl _) (fun g => ⟨g.1, ?_⟩)
  have := (State.shaped_iff s).1 g.2
  rw [State.shaped_iff]
  exact ⟨this.1, this.2.1, this.2.2.1, this.2.2.2.1, by simpa [Ingest.dormant] using this.2.2.2.2.1, rfl, rfl,
    this.2.2.2.2.2.2.2.1, this.2.2.2.2.2.2.2.2.1, by simpa [Platform.stopSampling] using this.2.2.2.2.2.2.2.2.2.1,
    by simpa [Platform.stopSampling] using this.2.2.2.2.2.2.2.2.2.2.1, this.2.2.2.2.2.2.2.2.2.2.2⟩

theorem State.Sound.of_doStandbyToDormant {t s} (h : State.Sound m o n s)
    (hm : Field.sub [.dict, .tick, .clock, .own, .ports, .ingest, .queues, .mem, .host, .bin, .keys, .panels, .plat,
        .power, .sent] m = true) : State.Sound m o n (doStandbyToDormant t s) := by
  unfold doStandbyToDormant
  extract_lets x1 x2 x3 x4 x5 x6 x7 x8 x9
  have h1 : State.Sound m o n x1 := State.Sound.advance h (Field.sub_of hm rfl)
  clear_value x1
  have h2 : State.Sound m o n x2 := State.Sound.reportPower h1 (Field.sub_of hm rfl)
  clear_value x2
  have h3 : State.Sound m o n x3 := State.Sound.ite (State.Sound.vacate h2 (Field.sub_of hm rfl))
    (State.Sound.dropOwner h2 (Field.sub_of hm rfl))
  clear_value x3
  have h4 : State.Sound m o n x4 := State.Sound.stopPorts h3 (Field.sub_of hm rfl)
  clear_value x4
  have h5 : State.Sound m o n x5 := State.Sound.stopTouch (State.Sound.setKeys h4 rfl (Field.sub_of hm rfl))
    (Field.sub_of hm rfl)
  clear_value x5
  have h6 : State.Sound m o n x6 :=
    State.Sound.hostOff (State.Sound.haltGenerator (State.Sound.dormantParts h5 (Field.sub_of hm rfl)) (Field.sub_of
        hm rfl)) (Field.sub_of hm rfl)
  clear_value x6
  have h7 : State.Sound m o n x7 :=
    State.Sound.ite h6 (State.Sound.setTick [.tick] (State.Sound.setNum h6 (Field.sub_of hm rfl)) (Field.sub_of hm
        rfl) rfl (Nat.le_refl _))
  clear_value x7
  exact State.Sound.ite h1 (State.Sound.setPower h7 (Field.sub_of hm rfl))

theorem State.Sound.of_execStandbyToDormant {t s} (h : State.Sound m o n s) (hm : Field.sub [.dict, .tick, .clock,
    .own, .ports, .ingest, .queues, .mem, .host, .bin, .keys, .panels, .plat, .power, .sent] m = true) :
    State.SoundX m o n (execStandbyToDormant t s) := by
  unfold execStandbyToDormant
  exact State.SoundX.next (State.Sound.of_doStandbyToDormant h (Field.sub_of hm rfl))

theorem State.Sound.skipTime {s k} (h : State.Sound m o n s) (hm : Field.sub [.clock] m = true) :
    State.Sound m o n (s.setTick (fun x => { x with now := x.now + k })) :=
  State.Sound.setTick [.clock] h hm rfl (Nat.le_add_right _ _)

theorem State.Sound.of_doDormantToStandby {rtcTicks s} (h : State.Sound m o n s)
    (hm : Field.sub [.tick, .clock, .ports, .host, .keys, .panels, .power, .sent, .free] m = true) :
    State.Sound m o n (doDormantToStandby rtcTicks s) := by
  unfold doDormantToStandby
  refine State.Sound.ite h ?_
  extract_lets x1
  have h1 : State.Sound m o n x1 := State.Sound.skipTime h (Field.sub_of hm rfl)
  clear_value x1
  split
  · rename_i y1 y2 y3 y4
    have h2 : State.Sound m o n y3 := State.SoundP.of y4 (State.Sound.takeFree h1 (Field.sub_of hm rfl))
    extract_lets x2
    have h3 : State.Sound m o n x2 :=
      State.Sound.startGenerator (State.Sound.setKeys h2 (by simp [Keys.restart]) (Field.sub_of hm rfl))
          (Field.sub_of hm rfl)
    clear_value x2
    exact State.Sound.startTouch (State.Sound.enter h3 (Field.sub_of hm rfl)) (Field.sub_of hm rfl)

theorem State.Sound.of_execDormantToStandby {rtcTicks s} (h : State.Sound m o n s) (hm : Field.sub [.tick, .clock,
    .ports, .host, .keys, .panels, .power, .sent, .free] m = true) :
    State.SoundX m o n (execDormantToStandby rtcTicks s) := by
  unfold execDormantToStandby
  exact State.SoundX.next (State.Sound.of_doDormantToStandby h (Field.sub_of hm rfl))

theorem State.Sound.wakeCommand {s k} (h : State.Sound m o n s) (hm : Field.sub [.keys, .power] m = true) :
    State.Sound m o n (State.wakeCommand s k) := by
  unfold State.wakeCommand
  exact State.Sound.ite h (State.Sound.ite (State.Sound.setKeys (State.Sound.setPower h (Field.sub_of hm rfl)) rfl
      (Field.sub_of hm rfl)) (State.Sound.ite (State.Sound.setPower h (Field.sub_of hm rfl)) h))

theorem State.Sound.of_doWakeN {t lowFor s} (h : State.Sound m o n s) (hm : Field.sub [.clock, .keys, .power] m =
    true) :
    State.Sound m o n (doWakeN t lowFor s) := by
  unfold doWakeN
  extract_lets x1
  have h1 : State.Sound m o n x1 := State.Sound.advance h (Field.sub_of hm rfl)
  clear_value x1
  exact State.Sound.ite h1 (State.Sound.wakeCommand h1 (Field.sub_of hm rfl))

theorem State.Sound.of_execWakeN {t lowFor s} (h : State.Sound m o n s) (hm : Field.sub [.clock, .keys, .power] m =
    true) :
    State.SoundX m o n (execWakeN t lowFor s) := by
  unfold execWakeN
  exact State.SoundX.next (State.Sound.of_doWakeN h (Field.sub_of hm rfl))

theorem State.Sound.of_doCanWakeFrame {t canId s} (h : State.Sound m o n s) (hm : Field.sub [.clock, .keys, .power] m
    = true) :
    State.Sound m o n (doCanWakeFrame t canId s) := by
  unfold doCanWakeFrame
  extract_lets x1
  have h1 : State.Sound m o n x1 := State.Sound.advance h (Field.sub_of hm rfl)
  clear_value x1
  exact State.Sound.ite (State.Sound.wakeCommand h1 (Field.sub_of hm rfl)) h1

theorem State.Sound.of_execCanWakeFrame {t canId s} (h : State.Sound m o n s) (hm : Field.sub [.clock, .keys, .power]
    m = true) :
    State.SoundX m o n (execCanWakeFrame t canId s) := by
  unfold execCanWakeFrame
  exact State.SoundX.next (State.Sound.of_doCanWakeFrame h (Field.sub_of hm rfl))

theorem State.Sound.coldStart {s cause} (h : State.Sound m o n s)
    (hm : Field.sub [.dict, .staged, .nvm, .tick, .clock, .tally, .own, .ports, .ingest, .arrs, .queues, .mem,
        .fabric, .host, .bin, .log, .keys, .panels, .plat, .power, .sent, .free] m = true) : State.Sound m o 0
        (State.coldStart s cause) := by
  unfold State.coldStart
  extract_lets x1 x2 y1 x3 x4 x5
  have h1 : State.Sound m o 0 x3 :=
    ⟨h.within.trans (show State.Within requestTouches s x3 from rfl) hm, Nat.zero_le _,
      fun g => ⟨⟨Dict.wf_filter _ (h.good g).1.1, rfl⟩, rfl⟩⟩
  clear_value x3
  have h2 : State.Sound m o 0 x4 := State.Sound.setNum (State.Sound.loadStored h1 (Field.sub_of hm rfl))
      (Field.sub_of hm rfl)
  clear_value x4
  have h3 : State.Sound m o 0 x5 := State.Sound.settleUnits h2 (Field.sub_of hm rfl)
  clear_value x5
  exact State.Sound.ite h3 (State.Sound.setNum h3 (Field.sub_of hm rfl))

theorem State.Sound.of_doPowerOnReset {s} (h : State.Sound m o n s)
    (hm : Field.sub [.dict, .staged, .nvm, .tick, .clock, .tally, .own, .ports, .ingest, .arrs, .queues, .mem,
        .fabric, .host, .bin, .log, .keys, .panels, .plat, .power, .sent, .free] m = true) : State.Sound m o 0
        (doPowerOnReset s) := by
  unfold doPowerOnReset
  extract_lets x1 x2
  have h1 : State.Sound m o 0 x1 := State.Sound.coldStart h (Field.sub_of hm rfl)
  clear_value x1
  have h2 : State.Sound m o 0 x2 := State.Sound.bumpBy (State.Sound.congr [.log] h1 (Field.sub_of hm rfl) rfl rfl
    (Nat.le_refl _) rfl rfl rfl) (Field.sub_of hm rfl)
  clear_value x2
  exact State.Sound.setNum h2 (Field.sub_of hm rfl)

theorem State.Sound.of_execPowerOnReset {s} (h : State.Sound m o n s)
    (hm : Field.sub [.dict, .staged, .nvm, .tick, .clock, .tally, .own, .ports, .ingest, .arrs, .queues, .mem,
        .fabric, .host, .bin, .log, .keys, .panels, .plat, .power, .sent, .free] m = true) : State.SoundX m o 0
        (execPowerOnReset s) :=
  State.SoundX.next (State.Sound.of_doPowerOnReset h hm)

theorem State.Sound.of_doResetN {t lowFor s} (h : State.Sound m o n s)
    (hm : Field.sub [.dict, .staged, .nvm, .tick, .clock, .tally, .own, .ports, .ingest, .arrs, .queues, .mem,
        .fabric, .host, .bin, .log, .keys, .panels, .plat, .power, .sent, .free] m = true) : State.Sound m o n
        (doResetN t lowFor s) := by
  unfold doResetN
  refine State.Sound.ite (State.Sound.advance h (Field.sub_of hm rfl)) ?_
  extract_lets x1 x2 x3 x4 x5 x6
  have h1 : State.Sound m o 0 x2 := State.Sound.coldStart h (Field.sub_of hm rfl)
  clear_value x2
  have h2 : State.Sound m o n x5 :=
    ⟨h1.within.trans (show State.Within [.log, .plat, .tick, .clock] x2 x5 from rfl) (Field.sub_of hm rfl),
        h.time.trans (le_max_left _ _),
      fun g => ⟨(h1.good g).1, by
        have := (State.shaped_iff x2).1 (h1.good g).2
        rw [State.shaped_iff]
        exact ⟨this.1, this.2.1, this.2.2.1, this.2.2.2.1, this.2.2.2.2.1, this.2.2.2.2.2.1, this.2.2.2.2.2.2.1,
          this.2.2.2.2.2.2.2.1, this.2.2.2.2.2.2.2.2.1, rfl, rfl, this.2.2.2.2.2.2.2.2.2.2.2⟩⟩⟩
  clear_value x5
  have h3 : State.Sound m o n x6 := State.Sound.setPower h2 (Field.sub_of hm rfl)
  clear_value x6
  exact State.Sound.bump (State.Sound.setNum (State.Sound.setNum h3 (Field.sub_of hm rfl)) (Field.sub_of hm rfl))
      (Field.sub_of hm rfl)

theorem State.Sound.of_execResetN {t lowFor s} (h : State.Sound m o n s) (hm : Field.sub [.dict, .staged, .nvm,
    .tick, .clock, .tally, .own, .ports, .ingest, .arrs, .queues, .mem, .fabric, .host, .bin, .log, .keys, .panels,
    .plat, .power, .sent, .free] m = true) :
    State.SoundX m o n (execResetN t lowFor s) := by
  unfold execResetN
  exact State.SoundX.next (State.Sound.of_doResetN h (Field.sub_of hm rfl))

theorem State.Sound.endBoot {s controller binnacle microcode} (h : State.Sound m o n s) (hm : Field.sub [.dict,
    .tick, .ports, .host, .bin, .keys, .panels, .plat, .power, .sent] m = true) :
    State.Sound m o n (State.endBoot s controller binnacle microcode) := by
  unfold State.endBoot
  extract_lets x1 x2 x3 x4 x5
  have h1 : State.Sound m o n x1 := State.Sound.setPower h (Field.sub_of hm rfl)
  clear_value x1
  have h2 : State.Sound m o n x2 := State.Sound.setNum (State.Sound.setNum (State.Sound.setNum h1 (Field.sub_of hm
      rfl)) (Field.sub_of hm rfl)) (Field.sub_of hm rfl)
  clear_value x2
  have h3 : State.Sound m o n x4 := State.Sound.ite h2 (State.Sound.congr [.bin] h2 (Field.sub_of hm rfl) rfl rfl
      (Nat.le_refl _) rfl rfl rfl)
  clear_value x4
  have h4 : State.Sound m o n x5 := State.Sound.startKeys (State.Sound.startGenerator h3 (Field.sub_of hm rfl))
      (Field.sub_of hm rfl)
  clear_value x5
  exact State.Sound.ite (State.Sound.congr [.bin] h2 (Field.sub_of hm rfl) rfl rfl (Nat.le_refl _) rfl rfl rfl)
      (State.Sound.reportAborted (State.Sound.startTouch (State.Sound.enter h4 (Field.sub_of hm rfl)) (Field.sub_of
      hm rfl)) (Field.sub_of hm rfl))

theorem State.Sound.of_doBootComplete {t flash s} (h : State.Sound m o n s) (hm : Field.sub [.dict, .tick, .clock,
    .ports, .host, .bin, .keys, .panels, .plat, .power, .sent] m = true) :
    State.Sound m o n (doBootComplete t flash s) := by
  unfold doBootComplete
  extract_lets x1
  have h1 : State.Sound m o n x1 := State.Sound.advance h (Field.sub_of hm rfl)
  clear_value x1
  exact State.Sound.ite h1 (State.Sound.endBoot h1 (Field.sub_of hm rfl))

theorem State.Sound.of_execBootComplete {t directoryA directoryB images s} (h : State.Sound m o n s) (hm : Field.sub [.dict, .tick, .clock,
    .ports, .host, .bin, .keys, .panels, .plat, .power, .sent] m = true) :
    State.SoundX m o n (execBootComplete t directoryA directoryB images s) := by
  unfold execBootComplete
  exact State.SoundX.next (State.Sound.of_doBootComplete h (Field.sub_of hm rfl))

theorem State.Sound.warmReset {s} (h : State.Sound m o n s)
    (hm : Field.sub [.dict, .tally, .ingest, .arrs, .queues, .mem, .fabric, .host, .bin, .log, .sent] m = true) :
        State.Sound m o n (State.warmReset s) := by
  unfold State.warmReset
  extract_lets x1 x2 x3 x4 x5 x6 x7 x8 x9 x10
  have h1 : State.Sound m o n x1 := State.Sound.endWhere h (Field.sub_of hm rfl)
  clear_value x1
  have h2 : State.Sound m o n x1.resetLinked := State.Sound.resetLinked h1 (Field.sub_of hm rfl)
  have h3 : State.Sound m o n x3 := State.Sound.congr [.queues] h2 (Field.sub_of hm rfl) rfl rfl (Nat.le_refl _) rfl
      rfl (by simp +zetaDelta [State.shape])
  clear_value x3
  have h4 : State.Sound m o n x4 := State.Sound.abandonReads h3 (Field.sub_of hm rfl)
  clear_value x4
  have h5 : State.Sound m o n x5 := State.Sound.foldl h4 (fun s1 y1 k1 => State.Sound.giveVerdict k1 (Field.sub_of hm
      rfl))
  clear_value x5
  have h6 : State.Sound m o n x9 := by
    refine State.Sound.renewed [.ingest, .arrs, .fabric, .mem, .bin] h5 (Field.sub_of hm rfl) rfl (Nat.le_refl _)
        (fun g => ?_)
    refine ⟨⟨g.1.1, Memory.wf_keep (fun a => !(chartBase ≤ a && a < hostWindow)) g.1.2⟩, ?_⟩
    have := (State.shaped_iff x5).1 g.2
    rw [State.shaped_iff]
    exact ⟨this.1, this.2.1, by simpa [x9] using this.2.2.1, this.2.2.2.1, by simpa [x9] using this.2.2.2.2.1, rfl,
      rfl, this.2.2.2.2.2.2.2.1, this.2.2.2.2.2.2.2.2.1, this.2.2.2.2.2.2.2.2.2.1, this.2.2.2.2.2.2.2.2.2.2.1,
      this.2.2.2.2.2.2.2.2.2.2.2⟩
  clear_value x9
  have h7 : State.Sound m o n x10 := State.Sound.foldl h6 (fun s1 y1 k1 => State.Sound.ite (State.Sound.bump k1
    (Field.sub_of hm rfl)) k1)
  clear_value x10
  exact State.Sound.bump (State.Sound.setNum (State.Sound.setNum h7 (Field.sub_of hm rfl)) (Field.sub_of hm rfl))
      (Field.sub_of hm rfl)

theorem State.Sound.restartTouch {s} (h : State.Sound m o n s) (hm : Field.sub [.panels] m = true) :
    State.Sound m o n (State.restartTouch s) := by
  unfold State.restartTouch
  refine State.Sound.foldl h (fun s1 x1 h1 => ?_)
  extract_lets x2
  have h2 : State.Sound m o n x2 := State.Sound.setPanel (State.Sound.stopPanel h1 (Field.sub_of hm rfl))
      (Field.sub_of hm rfl)
  clear_value x2
  exact State.Sound.ite (State.Sound.startCalibration h2 (Field.sub_of hm rfl)) h2

theorem State.Sound.interruptStore {s} (h : State.Sound m o n s) (hm : Field.sub [.dict, .nvm] m = true) :
    State.Sound m o n (State.interruptStore s) := by
  unfold State.interruptStore
  exact State.Sound.ite (State.Sound.setNvmState (State.Sound.congr [.nvm] h (Field.sub_of hm rfl) rfl rfl
      (Nat.le_refl _) rfl rfl rfl) (Field.sub_of hm rfl)) h

theorem State.Sound.controllerReset {s} (h : State.Sound m o n s)
    (hm : Field.sub [.dict, .nvm, .own, .ports, .mem, .host, .keys, .panels, .plat, .power, .sent, .free] m = true) :
        State.Sound m o n (State.controllerReset s) := by
  unfold State.controllerReset
  extract_lets x1 x2 x3 x4 x5 x6
  have h1 : State.Sound m o n x1 := State.Sound.interruptStore (State.Sound.dropOwner h (Field.sub_of hm rfl))
      (Field.sub_of hm rfl)
  clear_value x1
  have h1 : State.Sound m o n x2 := State.Sound.foldl h1 (fun s1 y1 k1 => State.Sound.forgetResponses k1
      (Field.sub_of hm
      rfl))
  clear_value x2
  have h2 : State.Sound m o n x5 := by
    refine State.Sound.renewed [.ports, .host, .plat] h1 (Field.sub_of hm rfl) rfl (Nat.le_refl _) (fun g => ⟨g.1,
        ?_⟩)
    have := (State.shaped_iff x2).1 g.2
    rw [State.shaped_iff]
    exact ⟨by simpa [x5] using this.1, this.2.1, this.2.2.1, this.2.2.2.1, this.2.2.2.2.1, this.2.2.2.2.2.1,
      this.2.2.2.2.2.2.1, by simpa [x5, x4] using this.2.2.2.2.2.2.2.1, this.2.2.2.2.2.2.2.2.1, rfl, rfl,
      this.2.2.2.2.2.2.2.2.2.2.2⟩
  clear_value x5
  have h3 : State.Sound m o n x6 :=
    State.Sound.reportAborted (State.Sound.restartTouch (State.Sound.startKeys h2 (Field.sub_of hm rfl))
        (Field.sub_of hm rfl)) (Field.sub_of hm rfl)
  clear_value x6
  split
  rename_i y1 y2 y3
  have h4 : State.Sound m o n y2 := State.SoundP.of y3 (State.Sound.takeFree h3 (Field.sub_of hm rfl))
  exact State.Sound.bump (State.Sound.setNum (State.Sound.setPower h4 (Field.sub_of hm rfl)) (Field.sub_of hm rfl))
      (Field.sub_of hm rfl)

theorem State.Sound.of_doControllerWatchdog {t s} (h : State.Sound m o n s) (hm : Field.sub [.dict, .nvm, .clock,
    .own, .ports, .mem, .host, .keys, .panels, .plat, .power, .sent, .free] m = true) :
    State.Sound m o n (doControllerWatchdog t s) := by
  unfold doControllerWatchdog
  extract_lets x1
  have h1 : State.Sound m o n x1 := State.Sound.advance h (Field.sub_of hm rfl)
  clear_value x1
  exact State.Sound.ite h1 (State.Sound.controllerReset h1 (Field.sub_of hm rfl))

theorem State.Sound.of_execControllerWatchdog {t s} (h : State.Sound m o n s) (hm : Field.sub [.dict, .nvm, .clock,
    .own, .ports, .mem, .host, .keys, .panels, .plat, .power, .sent, .free] m = true) :
    State.SoundX m o n (execControllerWatchdog t s) := by
  unfold execControllerWatchdog
  exact State.SoundX.next (State.Sound.of_doControllerWatchdog h (Field.sub_of hm rfl))

theorem State.Sound.commandPower {s target} (h : State.Sound m o n s) (hm : Field.sub [.power] m = true) :
    State.Sound m o n (State.commandPower s target) := by
  unfold State.commandPower
  exact State.Sound.ite h (State.Sound.setPower h (Field.sub_of hm rfl))

end Sys2Proof.Machine
end

