-- ==== Sys2Proof/Laws/KeepProtocol.lean ====
section
/-! SUPPORT. Laws/KeepProtocol: what the binnacle, the Shevy protocol, its services, the debug port, the mailboxes and
Window A keep (`State.Sound`: the parts
touched, device time, the invariant). -/

namespace Sys2Proof.Machine

variable {m : List Field} {o : State} {n : Nat}

/-! ## Binnacle -/

theorem State.Sound.of_doClockFault {t d s} (h : State.Sound m o n s) (hm : Field.sub [.dict, .clock, .tally,
    .queues, .bin, .log] m = true) :
    State.Sound m o n (doClockFault t d s) := by
  unfold doClockFault
  extract_lets x1 x2 x3
  have h1 : State.Sound m o n x1 := State.Sound.advance h (Field.sub_of hm rfl)
  clear_value x1
  have h2 : State.Sound m o n x3 := State.Sound.congr [.bin] h1 (Field.sub_of hm rfl) rfl rfl (Nat.le_refl _) rfl
      rfl rfl
  clear_value x3
  exact State.Sound.ite h1 (State.Sound.ite h2 (State.Sound.raise h2 (Field.sub_of hm rfl)))

theorem State.Sound.of_execClockFault {t d s} (h : State.Sound m o n s) (hm : Field.sub [.dict, .clock, .tally,
    .queues, .bin, .log] m = true) :
    State.SoundX m o n (execClockFault t d s) := by
  unfold execClockFault
  exact State.SoundX.next (State.Sound.of_doClockFault h (Field.sub_of hm rfl))

theorem State.Sound.of_doVoltageFault {t r s} (h : State.Sound m o n s) (hm : Field.sub [.dict, .clock, .tally,
    .queues, .bin, .log] m = true) :
    State.Sound m o n (doVoltageFault t r s) := by
  unfold doVoltageFault
  extract_lets x1 x2 x3
  have h1 : State.Sound m o n x1 := State.Sound.advance h (Field.sub_of hm rfl)
  clear_value x1
  have h2 : State.Sound m o n x3 := State.Sound.congr [.bin] h1 (Field.sub_of hm rfl) rfl rfl (Nat.le_refl _) rfl
      rfl rfl
  clear_value x3
  exact State.Sound.ite h1 (State.Sound.raise h2 (Field.sub_of hm rfl))

theorem State.Sound.of_execVoltageFault {t r s} (h : State.Sound m o n s) (hm : Field.sub [.dict, .clock, .tally,
    .queues, .bin, .log] m = true) :
    State.SoundX m o n (execVoltageFault t r s) := by
  unfold execVoltageFault
  exact State.SoundX.next (State.Sound.of_doVoltageFault h (Field.sub_of hm rfl))

theorem State.Sound.of_doClockFaultCleared {t d s} (h : State.Sound m o n s) (hm : Field.sub [.clock, .bin] m = true)
    :
    State.Sound m o n (doClockFaultCleared t d s) := by
  unfold doClockFaultCleared
  extract_lets x1 x2
  have h1 : State.Sound m o n x1 := State.Sound.advance h (Field.sub_of hm rfl)
  clear_value x1
  exact State.Sound.congr [.bin] h1 (Field.sub_of hm rfl) rfl rfl (Nat.le_refl _) rfl rfl rfl

theorem State.Sound.of_execClockFaultCleared {t d s} (h : State.Sound m o n s) (hm : Field.sub [.clock, .bin] m =
    true) :
    State.SoundX m o n (execClockFaultCleared t d s) := by
  unfold execClockFaultCleared
  exact State.SoundX.next (State.Sound.of_doClockFaultCleared h (Field.sub_of hm rfl))

theorem State.Sound.of_doVoltageFaultCleared {t r s} (h : State.Sound m o n s) (hm : Field.sub [.clock, .bin] m =
    true) :
    State.Sound m o n (doVoltageFaultCleared t r s) := by
  unfold doVoltageFaultCleared
  extract_lets x1 x2
  have h1 : State.Sound m o n x1 := State.Sound.advance h (Field.sub_of hm rfl)
  clear_value x1
  exact State.Sound.congr [.bin] h1 (Field.sub_of hm rfl) rfl rfl (Nat.le_refl _) rfl rfl rfl

theorem State.Sound.of_execVoltageFaultCleared {t r s} (h : State.Sound m o n s) (hm : Field.sub [.clock, .bin] m =
    true) :
    State.SoundX m o n (execVoltageFaultCleared t r s) := by
  unfold execVoltageFaultCleared
  exact State.SoundX.next (State.Sound.of_doVoltageFaultCleared h (Field.sub_of hm rfl))

theorem State.Sound.of_doBinnacleLockstepMismatch {t s} (h : State.Sound m o n s) (hm : Field.sub [.dict, .clock,
    .tally, .bin, .log] m = true) :
    State.Sound m o n (doBinnacleLockstepMismatch t s) := by
  unfold doBinnacleLockstepMismatch
  extract_lets x1
  have h1 : State.Sound m o n x1 := State.Sound.advance h (Field.sub_of hm rfl)
  clear_value x1
  exact State.Sound.ite h1 (State.Sound.lockstepMismatch h1 (Field.sub_of hm rfl))

theorem State.Sound.of_execBinnacleLockstepMismatch {t s} (h : State.Sound m o n s) (hm : Field.sub [.dict, .clock,
    .tally, .bin, .log] m = true) :
    State.SoundX m o n (execBinnacleLockstepMismatch t s) := by
  unfold execBinnacleLockstepMismatch
  exact State.SoundX.next (State.Sound.of_doBinnacleLockstepMismatch h (Field.sub_of hm rfl))

theorem State.Sound.of_doBinnacleWatchdog {t s} (h : State.Sound m o n s) (hm : Field.sub [.dict, .clock, .bin] m =
    true) :
    State.Sound m o n (doBinnacleWatchdog t s) := by
  unfold doBinnacleWatchdog
  extract_lets x1
  have h1 : State.Sound m o n x1 := State.Sound.advance h (Field.sub_of hm rfl)
  clear_value x1
  exact State.Sound.ite h1 (State.Sound.binnacleReset h1 (Field.sub_of hm rfl))

theorem State.Sound.of_execBinnacleWatchdog {t s} (h : State.Sound m o n s) (hm : Field.sub [.dict, .clock, .bin] m =
    true) :
    State.SoundX m o n (execBinnacleWatchdog t s) := by
  unfold execBinnacleWatchdog
  exact State.SoundX.next (State.Sound.of_doBinnacleWatchdog h (Field.sub_of hm rfl))

theorem State.Sound.of_doBinnacleStart {t s} (h : State.Sound m o n s) (hm : Field.sub [.clock, .bin, .power] m =
    true) :
    State.Sound m o n (doBinnacleStart t s) := by
  unfold doBinnacleStart
  extract_lets x1 x2
  have h1 : State.Sound m o n x1 := State.Sound.advance h (Field.sub_of hm rfl)
  clear_value x1
  exact State.Sound.ite h1 (State.Sound.binnacleUp (State.Sound.congr [.power] h1 (Field.sub_of hm rfl) rfl rfl
      (Nat.le_refl _) rfl rfl rfl) (Field.sub_of hm rfl))

theorem State.Sound.of_execBinnacleStart {t s} (h : State.Sound m o n s) (hm : Field.sub [.clock, .bin, .power] m =
    true) :
    State.SoundX m o n (execBinnacleStart t s) := by
  unfold execBinnacleStart
  exact State.SoundX.next (State.Sound.of_doBinnacleStart h (Field.sub_of hm rfl))

theorem State.Sound.of_doLogbookCommit {t s} (h : State.Sound m o n s) (hm : Field.sub [.dict, .clock, .ports, .host,
    .bin, .log, .sent, .free] m = true) :
    State.Sound m o n (doLogbookCommit t s) := by
  unfold doLogbookCommit
  extract_lets x1 x2
  have h1 : State.Sound m o n x1 := State.Sound.advance h (Field.sub_of hm rfl)
  clear_value x1
  split
  · exact h1
  · exact State.Sound.ite h1 (State.Sound.react (State.Sound.congr [.bin] h1 (Field.sub_of hm rfl) rfl rfl
        (Nat.le_refl _) rfl rfl rfl) (Field.sub_of hm rfl))

theorem State.Sound.of_execLogbookCommit {t s} (h : State.Sound m o n s) (hm : Field.sub [.dict, .clock, .ports,
    .host, .bin, .log, .sent, .free] m = true) :
    State.SoundX m o n (execLogbookCommit t s) := by
  unfold execLogbookCommit
  exact State.SoundX.next (State.Sound.of_doLogbookCommit h (Field.sub_of hm rfl))

theorem State.Sound.of_doPersistCopy {t s} (h : State.Sound m o n s) (hm : Field.sub [.dict, .clock, .log] m = true)
    :
    State.Sound m o n (doPersistCopy t s) := by
  unfold doPersistCopy
  exact State.Sound.copyOldest (State.Sound.advance h (Field.sub_of hm rfl)) (Field.sub_of hm rfl)

theorem State.Sound.of_execPersistCopy {t s} (h : State.Sound m o n s) (hm : Field.sub [.dict, .clock, .log] m =
    true) :
    State.SoundX m o n (execPersistCopy t s) := by
  unfold execPersistCopy
  exact State.SoundX.next (State.Sound.of_doPersistCopy h (Field.sub_of hm rfl))

theorem State.Sound.of_doSafetyMsgPeriodic {s} (h : State.Sound m o n s) (hm : Field.sub [.dict, .clock, .bin] m =
    true) :
    State.Sound m o n (doSafetyMsgPeriodic s) := by
  unfold doSafetyMsgPeriodic
  split
  · extract_lets x1 x2 x3
    have h1 : State.Sound m o n x1 := State.Sound.advance h (Field.sub_of hm rfl)
    clear_value x1
    have h2 : State.Sound m o n x2 := State.Sound.queueMessage h1 (Field.sub_of hm rfl)
    clear_value x2
    exact State.Sound.ite h1 (State.Sound.congr [.bin] h2 (Field.sub_of hm rfl) rfl rfl (Nat.le_refl _) rfl rfl rfl)
  · exact h

theorem State.Sound.of_execSafetyMsgPeriodic {s} (h : State.Sound m o n s) (hm : Field.sub [.dict, .clock, .bin] m =
    true) :
    State.SoundX m o n (execSafetyMsgPeriodic s) := by
  unfold execSafetyMsgPeriodic
  exact State.SoundX.next (State.Sound.of_doSafetyMsgPeriodic h (Field.sub_of hm rfl))

theorem State.Sound.of_doSafetyMsgTransmit {t s} (h : State.Sound m o n s) (hm : Field.sub [.dict, .clock, .bin,
    .sent] m = true) :
    State.Sound m o n (doSafetyMsgTransmit t s) := by
  unfold doSafetyMsgTransmit
  extract_lets x1
  have h1 : State.Sound m o n x1 := State.Sound.advance h (Field.sub_of hm rfl)
  clear_value x1
  split
  · exact h1
  · refine State.Sound.ite h1 ?_
    extract_lets x2 x3
    have h2 : State.Sound m o n x2 := State.Sound.emit h1 (Field.sub_of hm rfl)
    clear_value x2
    exact State.Sound.bump (State.Sound.congr [.bin] h2 (Field.sub_of hm rfl) rfl rfl (Nat.le_refl _) rfl rfl rfl)
        (Field.sub_of hm rfl)

theorem State.Sound.of_execSafetyMsgTransmit {t s} (h : State.Sound m o n s) (hm : Field.sub [.dict, .clock, .bin,
    .sent] m = true) :
    State.SoundX m o n (execSafetyMsgTransmit t s) := by
  unfold execSafetyMsgTransmit
  exact State.SoundX.next (State.Sound.of_doSafetyMsgTransmit h (Field.sub_of hm rfl))

/-! ## Shevy -/

theorem State.Sound.endHandover {s} (h : State.Sound m o n s) (hm : Field.sub [.own, .ports, .host, .sent] m = true)
    :
    State.Sound m o n (State.endHandover s) := by
  unfold State.endHandover
  exact State.Sound.ite (State.Sound.failHandover h (Field.sub_of hm rfl)) h

theorem State.Sound.endLease {s} (h : State.Sound m o n s) (hm : Field.sub [.dict, .own, .ports, .host, .sent] m =
    true) :
    State.Sound m o n (State.endLease s) := by
  unfold State.endLease
  exact State.Sound.ite (State.Sound.vacate h (Field.sub_of hm rfl)) h

theorem State.Sound.closeClaims {s} (h : State.Sound m o n s) (hm : Field.sub [.dict, .own, .ports, .host, .sent] m =
    true) :
    State.Sound m o n (State.closeClaims s) := by
  unfold State.closeClaims
  refine State.Sound.ite ?_ h
  split
  · exact h
  · exact State.Sound.giveOwnership h (Field.sub_of hm rfl)

theorem State.Sound.settleOwnership {s} (h : State.Sound m o n s) (hm : Field.sub [.dict, .own, .ports, .host, .sent]
    m = true) :
    State.Sound m o n (State.settleOwnership s) := by
  unfold State.settleOwnership
  exact State.Sound.closeClaims (State.Sound.endLease (State.Sound.endHandover h (Field.sub_of hm rfl))
      (Field.sub_of hm rfl)) (Field.sub_of hm rfl)

theorem State.Sound.fetchEntry {s} (h : State.Sound m o n s) (hm : Field.sub [.host, .sent] m = true) :
    State.Sound m o n (State.fetchEntry s) := by
  unfold State.fetchEntry
  extract_lets x1
  exact State.Sound.setRing (State.Sound.emit h (Field.sub_of hm rfl)) (Field.sub_of hm rfl)

theorem State.Sound.acceptOn {s p} (h : State.Sound m o n s) (hm : Field.sub [.dict, .host, .sent] m = true) :
    State.Sound m o n (State.acceptOn s p) := by
  unfold State.acceptOn
  extract_lets x1
  have h1 : State.Sound m o n x1 := State.Sound.ite (State.Sound.setRing (State.Sound.fetchEntry h (Field.sub_of hm
      rfl)) (Field.sub_of hm rfl)) h
  clear_value x1
  exact State.Sound.bump h1 (Field.sub_of hm rfl)

theorem State.Sound.touchLease {s p} (h : State.Sound m o n s) (hm : Field.sub [.own] m = true) :
    State.Sound m o n (State.touchLease s p) := by
  unfold State.touchLease
  exact State.Sound.ite (State.Sound.setLease h (Field.sub_of hm rfl)) h

theorem State.Sound.of_Reply_send {r p route service seq addr} (h : State.SoundR m o n r)
    (hm : Field.sub [.dict, .ports, .host, .sent] m = true) : State.Sound m o n (Reply.send r p route service seq
        addr) := by
  unfold Reply.send
  split
  · exact h
  · exact State.Sound.respond h (Field.sub_of hm rfl)
  · exact State.Sound.respond (State.Sound.bump h (Field.sub_of hm rfl)) (Field.sub_of hm rfl)

theorem State.Sound.dropPdu {s p} (h : State.Sound m o n s) (hm : Field.sub [.dict] m = true) :
    State.Sound m o n (State.dropPdu s p) := by
  unfold State.dropPdu
  exact State.Sound.bump h (Field.sub_of hm rfl)

theorem State.Sound.notePeer {s p sender} (h : State.Sound m o n s) (hm : Field.sub [.ports] m = true) :
    State.Sound m o n (State.notePeer s p sender) := by
  unfold State.notePeer
  exact State.Sound.ite (State.Sound.setPort h (Field.sub_of hm rfl)) h

theorem State.Sound.request {s t p sender service seq index sub serve} (h : State.Sound m o n s)
    (hs : ∀ s, State.Sound m o n s → State.SoundR m o n (serve s))
    (hm : Field.sub [.dict, .clock, .tally, .own, .ports, .arrs, .queues, .mem, .host, .bin, .log, .sent] m = true) :
    State.Sound m o n (State.request s t p sender service seq index sub serve) := by
  unfold State.request
  extract_lets x1 x2 x3
  have h1 : State.Sound m o n x1 := State.Sound.settleOwnership (State.Sound.advanceCharged h (Field.sub_of hm rfl))
      (Field.sub_of hm rfl)
  clear_value x1
  have h2 : State.Sound m o n x2 := State.Sound.notePeer (State.Sound.acceptOn h1 (Field.sub_of hm rfl))
      (Field.sub_of hm rfl)
  clear_value x2
  have h3 : State.SoundR m o n x3 := State.SoundR.ite (State.SoundR.refused h2) (hs _ h2)
  exact State.Sound.ite h1 (State.Sound.ite (State.Sound.dropPdu h1 (Field.sub_of hm rfl))
    (State.Sound.of_Reply_send h3 (Field.sub_of hm rfl)))

theorem State.Sound.stage {s a v} (h : State.Sound m o n s) (hm : Field.sub [.staged] m = true) :
    State.Sound m o n (State.stage s a v) := by
  unfold State.stage
  exact State.Sound.congr [.staged] h (Field.sub_of hm rfl) rfl rfl (Nat.le_refl _) rfl rfl rfl

theorem State.Sound.applyNow {s a v} (h : State.Sound m o n s) (hm : Field.sub [.dict, .tick, .tally, .ports,
    .ingest, .arrs, .queues, .mem, .host, .bin, .log, .keys, .panels, .plat, .sent] m = true) :
    State.Sound m o n (State.applyNow s a v) := by
  unfold State.applyNow
  exact State.Sound.settleNow (State.Sound.setVal h (Field.sub_of hm rfl)) (Field.sub_of hm rfl)

theorem State.Sound.putSetting {s a v} (h : State.Sound m o n s) (hm : Field.sub [.dict, .staged, .tick, .tally,
    .ports, .ingest, .arrs, .queues, .mem, .host, .bin, .log, .keys, .panels, .plat, .sent] m = true) :
    State.Sound m o n (State.putSetting s a v) := by
  unfold State.putSetting
  extract_lets x1 x2
  have h1 : State.Sound m o n x2 := State.Sound.setVal h (Field.sub_of hm rfl)
  clear_value x2
  exact State.Sound.ite (State.Sound.stage h (Field.sub_of hm rfl)) (State.Sound.ite (State.Sound.setNum h
      (Field.sub_of hm rfl)) (State.Sound.ite (State.Sound.setSlot (State.Sound.setVal h (Field.sub_of hm rfl))
      (Field.sub_of hm rfl)) (State.Sound.ite (State.Sound.setNum h1 (Field.sub_of hm rfl)) (State.Sound.applyNow
      h (Field.sub_of hm rfl)))))

theorem State.Sound.answerDebug {s b} (h : State.Sound m o n s) (hm : Field.sub [.dict, .power, .free] m = true) :
    State.SoundP m o n (State.answerDebug s b) := by
  unfold State.answerDebug
  extract_lets x1 x2
  have h1 : State.Sound m o n x2 := State.Sound.setPower (State.Sound.congr [.free] h (Field.sub_of hm rfl) rfl rfl
      (Nat.le_refl _) rfl rfl rfl) (Field.sub_of hm rfl)
  clear_value x2
  exact State.SoundP.ite (State.SoundP.mk (State.Sound.bump (State.Sound.setPower h1 (Field.sub_of hm rfl))
      (Field.sub_of hm rfl))) (State.SoundP.mk (State.Sound.setPower h1 (Field.sub_of hm rfl)))

theorem State.Sound.clearLogbook {s} (h : State.Sound m o n s) (hm : Field.sub [.dict, .log] m = true) :
    State.Sound m o n (State.clearLogbook s) := by
  unfold State.clearLogbook
  exact State.Sound.setNum (State.Sound.congr [.log] h (Field.sub_of hm rfl) rfl rfl (Nat.le_refl _) rfl rfl rfl)
      (Field.sub_of hm rfl)

theorem State.Sound.putSelector {s p a x} (h : State.Sound m o n s) (hm : Field.sub [.ports] m = true) :
    State.Sound m o n (State.putSelector s p a x) := by
  unfold State.putSelector
  exact State.Sound.setPort h (Field.sub_of hm rfl)

theorem State.Sound.command {s a v} (h : State.Sound m o n s) (hm : Field.sub [.dict, .staged, .nvm, .tick, .tally,
    .ports, .ingest, .arrs, .queues, .mem, .fabric, .host, .bin, .log, .keys, .panels, .plat, .power, .sent, .free]
    m = true) :
    State.SoundO m o n (State.command s a v) := by
  unfold State.command
  extract_lets x1 x2 x3 x4
  exact State.SoundO.ite (State.SoundO.some (State.Sound.requestRealign h (Field.sub_of hm rfl))) (State.SoundO.ite
      (State.SoundO.some (State.Sound.startStore h (Field.sub_of hm rfl))) (State.SoundO.ite (State.SoundO.some
      (State.Sound.restoreImage h (Field.sub_of hm rfl))) (State.SoundO.ite (State.SoundO.some
      (State.Sound.restoreDefaults h (Field.sub_of hm rfl))) (State.SoundO.ite (State.SoundO.some
      (State.Sound.faultAck h (Field.sub_of hm rfl))) (State.SoundO.ite (State.SoundO.some (State.Sound.setArr h
      (Field.sub_of hm rfl))) (State.SoundO.ite (State.SoundO.some (State.Sound.clearLogbook h (Field.sub_of hm
      rfl))) (State.SoundO.ite (State.SoundO.some (State.Sound.ackEvents h (Field.sub_of hm rfl))) (State.SoundO.ite
      (State.SoundO.some (State.Sound.ite (State.Sound.requestLock h (Field.sub_of hm rfl)) (State.Sound.ownerUnlock
      h (Field.sub_of hm rfl)))) (State.SoundO.ite (State.SoundO.some (State.Sound.foldl h (fun s1 x5 h1 =>
      (State.Sound.startTest h1 (Field.sub_of hm rfl))))) (State.SoundO.ite (State.SoundO.some
      (State.Sound.startSequence h (Field.sub_of hm rfl))) (State.SoundO.ite (State.SoundO.some
      (State.Sound.endSequence h (Field.sub_of hm rfl))) (State.SoundO.ite (State.SoundO.some (State.Sound.driveTrip
      h (Field.sub_of hm rfl))) (State.SoundO.ite (State.SoundO.some (State.Sound.setNum h (Field.sub_of hm rfl)))
      (State.SoundO.ite (State.SoundO.some (State.Sound.commandPower h (Field.sub_of hm rfl))) (State.SoundO.ite
      (State.SoundO.some (State.Sound.warmReset h (Field.sub_of hm rfl))) (State.SoundO.ite (State.SoundO.some
      (State.Sound.setPower h (Field.sub_of hm rfl))) (State.SoundO.ite (State.SoundO.some (State.Sound.congr [.nvm]
      h (Field.sub_of hm rfl) rfl rfl (Nat.le_refl _) rfl rfl rfl)) (State.SoundO.ite (State.SoundO.some
      (State.Sound.congr [.log] h (Field.sub_of hm rfl) rfl rfl (Nat.le_refl _) rfl rfl rfl)) (State.SoundO.ite
      (State.SoundO.some (State.Sound.congr [.nvm] h (Field.sub_of hm rfl) rfl rfl (Nat.le_refl _) rfl rfl rfl))
      State.SoundO.none)))))))))))))))))))

theorem State.Sound.unitCommand {s a x} (h : State.Sound m o n s) (hm : Field.sub [.dict, .tally, .ingest, .arrs,
    .queues, .mem, .bin, .log, .panels] m = true) :
    State.SoundOP m o n (State.unitCommand s a x) := by
  unfold State.unitCommand
  extract_lets x1
  exact State.SoundOP.ite (State.SoundOP.some (State.Sound.releaseBuffer h (Field.sub_of hm rfl)))
      (State.SoundOP.ite (State.SoundOP.some (State.Sound.acquireBuffer h (Field.sub_of hm rfl)))
      (State.SoundOP.ite (State.SoundOP.some (State.SoundP.mk (State.Sound.dispatch (State.Sound.endQueue h
      (Field.sub_of hm rfl)) (Field.sub_of hm rfl)))) (State.SoundOP.ite (State.SoundOP.some (State.SoundP.mk
      (State.SoundO.getD (State.Sound.tfResolve h (Field.sub_of hm rfl)) h))) (State.SoundOP.ite
      (State.SoundOP.some (State.SoundP.mk (State.Sound.ackReports h (Field.sub_of hm rfl)))) State.SoundOP.none))))

theorem State.Sound.perform {s p a v} (h : State.Sound m o n s) (hm : Field.sub [.dict, .staged, .nvm, .tick,
    .tally, .ports, .ingest, .arrs, .queues, .mem, .fabric, .host, .bin, .log, .keys, .panels, .plat, .power, .sent,
    .free] m = true) :
    State.SoundP m o n (State.perform s p a v) := by
  unfold State.perform
  refine State.SoundP.ite (State.SoundP.mk (State.Sound.putSelector h (Field.sub_of hm rfl))) ?_
  refine State.SoundP.ite (State.SoundP.mk (State.Sound.ite (State.Sound.setNum h (Field.sub_of hm rfl)) h)) ?_
  refine State.SoundP.ite (State.SoundP.mk (State.Sound.presetCounter h (Field.sub_of hm rfl))) ?_
  refine State.SoundP.ite (State.Sound.answerDebug h (Field.sub_of hm rfl)) ?_
  split
  · rename_i y1 y2 y3
    have h1 : State.SoundP m o n y2 := State.SoundOP.of y3 (State.Sound.unitCommand h (Field.sub_of hm rfl))
    exact h1
  · rename_i y4 y5
    split
    · rename_i y6 y7 y8
      have h2 : State.Sound m o n y7 := State.SoundO.of y8 (State.Sound.command h (Field.sub_of hm rfl))
      exact State.SoundP.mk h2
    · rename_i y9 y10
      exact State.SoundP.mk (State.Sound.putSetting h (Field.sub_of hm rfl))

theorem State.Sound.serveRead {s p flags a} (h : State.Sound m o n s) (hm : Field.sub [.own] m = true) :
    State.SoundR m o n (State.serveRead s p flags a) := by
  unfold State.serveRead
  split
  · exact State.SoundR.refused h
  · extract_lets x1
    have h1 : State.Sound m o n x1 := State.Sound.touchLease h (Field.sub_of hm rfl)
    clear_value x1
    exact State.SoundR.done h1

theorem State.Sound.serveInvalidate {s p sender seq x} (h : State.Sound m o n s) (hm : Field.sub [.own, .ports,
    .mem] m = true) :
    State.SoundR m o n (State.serveInvalidate s p sender seq x) := by
  unfold State.serveInvalidate
  extract_lets x1
  have h1 : State.Sound m o n x1 := State.Sound.holdResponse (State.Sound.touchLease h (Field.sub_of hm rfl))
      (Field.sub_of hm rfl)
  clear_value x1
  exact State.SoundR.later (State.Sound.invalidate h1 (Field.sub_of hm rfl))

theorem State.Sound.serveControllerReset {s p sender seq} (h : State.Sound m o n s) (hm : Field.sub [.dict, .nvm,
    .own, .ports, .mem, .host, .keys, .panels, .plat, .power, .sent, .free] m = true) :
    State.SoundR m o n (State.serveControllerReset s p sender seq) := by
  unfold State.serveControllerReset
  extract_lets x1
  have h1 : State.Sound m o n x1 := State.Sound.respond h (Field.sub_of hm rfl)
  clear_value x1
  exact State.SoundR.later (State.Sound.setMailbox (State.Sound.controllerReset h1 (Field.sub_of hm rfl))
      (Field.sub_of hm rfl))

theorem State.Sound.serveWrite {s p sender seq flags a payload} (h : State.Sound m o n s) (hm : Field.sub [.dict,
    .staged, .nvm, .tick, .tally, .own, .ports, .ingest, .arrs, .queues, .mem, .fabric, .host, .bin, .log, .keys,
    .panels, .plat, .power, .sent, .free] m = true) :
    State.SoundR m o n (State.serveWrite s p sender seq flags a payload) := by
  unfold State.serveWrite
  extract_lets x1
  split
  · rename_i y1 y2 y3
    exact State.SoundR.refused h
  · rename_i y4 y5
    refine State.SoundR.ite (State.Sound.serveInvalidate h (Field.sub_of hm rfl)) ?_
    refine State.SoundR.ite (State.Sound.serveControllerReset h (Field.sub_of hm rfl)) ?_
    split
    · rename_i y6 y7 y8 y9
      have h1 : State.Sound m o n y8 := State.SoundP.of y9 (State.Sound.perform h (Field.sub_of hm rfl))
      exact State.SoundR.refused h1
    · rename_i y10 y11 y12
      have h2 : State.Sound m o n y11 := State.SoundP.of y12 (State.Sound.perform h (Field.sub_of hm rfl))
      exact State.SoundR.done (State.Sound.ite h2 (State.Sound.touchLease h2 (Field.sub_of hm rfl)))

/-! ## Blocks -/

theorem State.Sound.expireTransfer {s p} (h : State.Sound m o n s) (hm : Field.sub [.dict, .ports] m = true) :
    State.Sound m o n (State.expireTransfer s p) := by
  unfold State.expireTransfer
  split
  · exact h
  · exact State.Sound.ite h (State.Sound.ite (State.Sound.setPort h (Field.sub_of hm rfl))
        (State.Sound.discardTransfer h (Field.sub_of hm rfl)))

theorem State.Sound.repeatResponse {s p x} (h : State.Sound m o n s) (hm : Field.sub [.own, .ports] m = true) :
    State.SoundR m o n (State.repeatResponse s p x) := by
  unfold State.repeatResponse
  extract_lets x1
  have h1 : State.Sound m o n x1 := State.Sound.setPort h (Field.sub_of hm rfl)
  clear_value x1
  exact State.SoundR.done (State.Sound.touchLease h1 (Field.sub_of hm rfl))

theorem State.Sound.breakTransfer {s p flags code z5} (h : State.Sound m o n s) (hm : Field.sub [.dict, .ports] m =
    true) :
    State.SoundR m o n (State.breakTransfer s p flags code z5) := by
  unfold State.breakTransfer
  exact State.SoundR.refused (State.Sound.discardTransfer h (Field.sub_of hm rfl))

theorem State.Sound.sendSegment {s p g x} (h : State.Sound m o n s) (hm : Field.sub [.own, .ports] m = true) :
    State.SoundR m o n (State.sendSegment s p g x) := by
  unfold State.sendSegment
  extract_lets x1 x2 x3 x4 x5
  exact State.SoundR.done (State.Sound.touchLease (State.Sound.setPort h (Field.sub_of hm rfl)) (Field.sub_of hm
      rfl))

theorem State.Sound.takeSegment {s p g x data} (h : State.Sound m o n s) (hm : Field.sub [.dict, .staged, .nvm,
    .tick, .tally, .own, .ports, .ingest, .arrs, .queues, .mem, .fabric, .host, .bin, .log, .keys, .panels, .plat,
    .power, .sent, .free] m = true) :
    State.SoundR m o n (State.takeSegment s p g x data) := by
  unfold State.takeSegment
  extract_lets x1 x2 x3 x4
  have h1 : State.Sound m o n x3 := State.Sound.setPort h (Field.sub_of hm rfl)
  clear_value x3
  have h2 : ∀ x4a1, State.Sound m o n x4a1 → State.SoundR m o n (x4 x4a1) := by
    intro x4a1 x4h1
    unfold x4
    exact State.SoundR.done (State.Sound.touchLease (State.Sound.setPort x4h1 (Field.sub_of hm rfl)) (Field.sub_of
        hm rfl))
  clear_value x4
  refine State.SoundR.ite (h2 _ h1) ?_
  split
  · exact State.Sound.breakTransfer h1 (Field.sub_of hm rfl)
  · split
    · rename_i y1 y2 y3 y4 y5 y6
      have h3 : State.Sound m o n y5 := State.SoundP.of y6 (State.Sound.perform h1 (Field.sub_of hm rfl))
      exact State.Sound.breakTransfer h3 (Field.sub_of hm rfl)
    · rename_i y1 y2 y3 y4 y5
      have h3 : State.Sound m o n y4 := State.SoundP.of y5 (State.Sound.perform h1 (Field.sub_of hm rfl))
      exact h2 _ h3

theorem State.Sound.readRecords {s p a} (h : State.Sound m o n s) (hm : Field.sub [.dict] m = true) :
    State.Sound m o n (State.readRecords s p a) := by
  unfold State.readRecords
  extract_lets x1
  exact State.Sound.ite (State.Sound.bumpBy h (Field.sub_of hm rfl)) (State.Sound.ite (State.Sound.bumpBy h
      (Field.sub_of hm rfl)) (State.Sound.ite (State.Sound.bumpBy h (Field.sub_of hm rfl)) h))

theorem State.Sound.refuseInit {s p code z4} (h : State.Sound m o n s) (hm : Field.sub [.dict, .ports] m = true) :
    State.SoundR m o n (State.refuseInit s p code z4) := by
  unfold State.refuseInit
  exact State.SoundR.refused (State.Sound.bump (State.Sound.setPort h (Field.sub_of hm rfl)) (Field.sub_of hm
      rfl))

theorem State.Sound.initSegment {s p g} (h : State.Sound m o n s) (hm : Field.sub [.dict, .staged, .nvm, .tick,
    .tally, .own, .ports, .ingest, .arrs, .queues, .mem, .fabric, .host, .bin, .log, .keys, .panels, .plat, .power,
    .sent, .free] m = true) :
    State.SoundR m o n (State.initSegment s p g) := by
  unfold State.initSegment
  extract_lets x1 x2 x3
  have h1 : State.Sound m o n x2 := State.Sound.setPort (State.Sound.discardTransfer h (Field.sub_of hm rfl))
      (Field.sub_of hm rfl)
  clear_value x2
  refine State.SoundR.ite (State.SoundR.refused h1) ?_
  refine State.SoundR.ite (State.SoundR.refused h1) ?_
  refine State.SoundR.ite (State.Sound.refuseInit h1 (Field.sub_of hm rfl)) ?_
  split
  · rename_i y1 y2 y3
    exact State.Sound.refuseInit h1 (Field.sub_of hm rfl)
  · rename_i y4 y5
    exact State.SoundR.ite (State.Sound.takeSegment h1 (Field.sub_of hm rfl)) (State.Sound.sendSegment
        (State.Sound.readRecords h1 (Field.sub_of hm rfl)) (Field.sub_of hm rfl))

theorem State.Sound.nextSegment {s p g x} (h : State.Sound m o n s) (hm : Field.sub [.dict, .staged, .nvm, .tick,
    .tally, .own, .ports, .ingest, .arrs, .queues, .mem, .fabric, .host, .bin, .log, .keys, .panels, .plat, .power,
    .sent, .free] m = true) :
    State.SoundR m o n (State.nextSegment s p g x) := by
  unfold State.nextSegment
  refine State.SoundR.ite (State.Sound.breakTransfer h (Field.sub_of hm rfl)) ?_
  refine State.SoundR.ite (State.Sound.breakTransfer h (Field.sub_of hm rfl)) ?_
  split
  · exact State.Sound.breakTransfer h (Field.sub_of hm rfl)
  · exact State.SoundR.ite (State.Sound.takeSegment h (Field.sub_of hm rfl)) (State.Sound.sendSegment h
        (Field.sub_of hm rfl))

theorem State.Sound.freshSegment {s p g} (h : State.Sound m o n s) (hm : Field.sub [.dict, .staged, .nvm, .tick,
    .tally, .own, .ports, .ingest, .arrs, .queues, .mem, .fabric, .host, .bin, .log, .keys, .panels, .plat, .power,
    .sent, .free] m = true) :
    State.SoundR m o n (State.freshSegment s p g) := by
  unfold State.freshSegment
  refine State.SoundR.ite (State.Sound.breakTransfer h (Field.sub_of hm rfl)) ?_
  refine State.SoundR.ite (State.Sound.initSegment h (Field.sub_of hm rfl)) ?_
  split
  · exact State.SoundR.refused h
  · exact State.SoundR.ite (State.SoundR.refused h) (State.Sound.nextSegment h (Field.sub_of hm rfl))

theorem State.Sound.serveBlock {s p write seq flags a payload} (h : State.Sound m o n s) (hm : Field.sub [.dict,
    .staged, .nvm, .tick, .tally, .own, .ports, .ingest, .arrs, .queues, .mem, .fabric, .host, .bin, .log, .keys,
    .panels, .plat, .power, .sent, .free] m = true) :
    State.SoundR m o n (State.serveBlock s p write seq flags a payload) := by
  unfold State.serveBlock
  extract_lets x1 x2
  have h1 : State.Sound m o n x2 := State.Sound.expireTransfer h (Field.sub_of hm rfl)
  clear_value x2
  refine State.SoundR.ite (State.SoundR.refused h) ?_
  split
  · exact State.SoundR.ite (State.Sound.repeatResponse h1 (Field.sub_of hm rfl)) (State.Sound.freshSegment h1
        (Field.sub_of hm rfl))
  · exact State.Sound.freshSegment h1 (Field.sub_of hm rfl)

theorem State.Sound.of_doSegmentTimeout {t port s} (h : State.Sound m o n s) (hm : Field.sub [.dict, .clock, .ports]
    m = true) :
    State.Sound m o n (doSegmentTimeout t port s) := by
  unfold doSegmentTimeout
  exact State.Sound.expireTransfer (State.Sound.advance h (Field.sub_of hm rfl)) (Field.sub_of hm rfl)

theorem State.Sound.of_execSegmentTimeout {t port s} (h : State.Sound m o n s) (hm : Field.sub [.dict, .clock,
    .ports] m = true) :
    State.SoundX m o n (execSegmentTimeout t port s) := by
  unfold execSegmentTimeout
  exact State.SoundX.next (State.Sound.of_doSegmentTimeout h (Field.sub_of hm rfl))

/-! ## Services -/

theorem State.Sound.openWindow {s} (h : State.Sound m o n s) (hm : Field.sub [.own] m = true) :
    State.Sound m o n (State.openWindow s) := by
  unfold State.openWindow
  exact State.Sound.ite h (State.Sound.setOwn h (Field.sub_of hm rfl))

theorem State.Sound.joinWindow {s c} (h : State.Sound m o n s) (hm : Field.sub [.own] m = true) :
    State.Sound m o n (State.joinWindow s c) := by
  unfold State.joinWindow
  exact State.Sound.setOwn h (Field.sub_of hm rfl)

theorem State.Sound.serveClaim {s p flags payload} (h : State.Sound m o n s) (hm : Field.sub [.own] m = true) :
    State.SoundR m o n (State.serveClaim s p flags payload) := by
  unfold State.serveClaim
  split
  · exact State.SoundR.refused h
  · refine State.SoundR.ite (State.SoundR.done (State.Sound.touchLease h (Field.sub_of hm rfl))) ?_
    refine State.SoundR.ite (State.SoundR.refused h) ?_
    refine State.SoundR.ite (State.SoundR.refused h) ?_
    extract_lets x1
    have h1 : State.Sound m o n x1 := State.Sound.joinWindow (State.Sound.openWindow h (Field.sub_of hm rfl))
        (Field.sub_of hm rfl)
    clear_value x1
    exact State.SoundR.done h1

theorem State.Sound.serveRenew {s p flags} (h : State.Sound m o n s) (hm : Field.sub [.own] m = true) :
    State.SoundR m o n (State.serveRenew s p flags) := by
  unfold State.serveRenew
  split
  · exact State.SoundR.refused h
  · extract_lets x1
    have h1 : State.Sound m o n x1 := State.Sound.touchLease h (Field.sub_of hm rfl)
    clear_value x1
    exact State.SoundR.done h1

theorem State.Sound.cancelHandover {s p} (h : State.Sound m o n s) (hm : Field.sub [.own, .ports, .host, .sent] m =
    true) :
    State.Sound m o n (State.cancelHandover s p) := by
  unfold State.cancelHandover
  exact State.Sound.ite (State.Sound.failHandover h (Field.sub_of hm rfl)) (State.Sound.touchLease h (Field.sub_of
      hm rfl))

theorem State.Sound.startHandover {s p successor} (h : State.Sound m o n s) (hm : Field.sub [.dict, .own, .ports,
    .host, .sent] m = true) :
    State.Sound m o n (State.startHandover s p successor) := by
  unfold State.startHandover
  extract_lets x1
  have h1 : State.Sound m o n x1 := State.Sound.setOwn (State.Sound.touchLease h (Field.sub_of hm rfl))
      (Field.sub_of hm rfl)
  clear_value x1
  exact State.Sound.notify (State.Sound.discardTransfer h1 (Field.sub_of hm rfl)) (Field.sub_of hm rfl)

theorem State.Sound.nameSuccessor {s p code} (h : State.Sound m o n s) (hm : Field.sub [.dict, .own, .ports, .host,
    .sent] m = true) :
    State.SoundR m o n (State.nameSuccessor s p code) := by
  unfold State.nameSuccessor
  split
  · exact State.SoundR.refused h
  · refine State.SoundR.ite (State.SoundR.done (State.Sound.cancelHandover h (Field.sub_of hm rfl))) ?_
    refine State.SoundR.ite (State.SoundR.refused h) ?_
    refine State.SoundR.ite (State.SoundR.refused h) ?_
    extract_lets x1
    have h1 : State.Sound m o n x1 := State.Sound.startHandover h (Field.sub_of hm rfl)
    clear_value x1
    exact State.SoundR.done h1

theorem State.Sound.serveHandover {s p flags payload} (h : State.Sound m o n s) (hm : Field.sub [.dict, .own, .ports,
    .host, .sent] m = true) :
    State.SoundR m o n (State.serveHandover s p flags payload) := by
  unfold State.serveHandover
  split
  · exact State.SoundR.refused h
  · exact State.Sound.nameSuccessor h (Field.sub_of hm rfl)

theorem State.Sound.serveAccept {s p flags payload} (h : State.Sound m o n s) (hm : Field.sub [.dict, .own, .ports,
    .host, .sent] m = true) :
    State.SoundR m o n (State.serveAccept s p flags payload) := by
  unfold State.serveAccept
  extract_lets x1
  split
  · exact State.SoundR.refused h
  · exact State.SoundR.done (State.Sound.giveOwnership h (Field.sub_of hm rfl))

theorem State.Sound.servePdu {s x service serve} (h : State.Sound m o n s)
    (hs : ∀ s, State.Sound m o n s → State.SoundR m o n (serve s))
    (hm : Field.sub [.dict, .clock, .tally, .own, .ports, .arrs, .queues, .mem, .host, .bin, .log, .sent] m = true) :
    State.Sound m o n (State.servePdu s x service serve) := by
  unfold State.servePdu
  exact State.Sound.request h hs hm

theorem State.Sound.of_doClaim {p s} (h : State.Sound m o n s) (hm : Field.sub [.dict, .clock, .tally, .own, .ports,
    .arrs, .queues, .mem, .host, .bin, .log, .sent] m = true) :
    State.Sound m o n (doClaim p s) := by
  unfold doClaim
  exact State.Sound.servePdu h (fun s1 h1 => (State.Sound.serveClaim h1 (Field.sub_of hm rfl))) (Field.sub_of hm rfl)

theorem State.Sound.of_execClaim {p s} (h : State.Sound m o n s) (hm : Field.sub [.dict, .clock, .tally, .own,
    .ports, .arrs, .queues, .mem, .host, .bin, .log, .sent] m = true) :
    State.SoundX m o n (execClaim p s) := by
  unfold execClaim
  exact State.SoundX.next (State.Sound.of_doClaim h (Field.sub_of hm rfl))

theorem State.Sound.of_doRenew {p s} (h : State.Sound m o n s) (hm : Field.sub [.dict, .clock, .tally, .own, .ports,
    .arrs, .queues, .mem, .host, .bin, .log, .sent] m = true) :
    State.Sound m o n (doRenew p s) := by
  unfold doRenew
  exact State.Sound.servePdu h (fun s1 h1 => (State.Sound.serveRenew h1 (Field.sub_of hm rfl))) (Field.sub_of hm rfl)

theorem State.Sound.of_execRenew {p s} (h : State.Sound m o n s) (hm : Field.sub [.dict, .clock, .tally, .own,
    .ports, .arrs, .queues, .mem, .host, .bin, .log, .sent] m = true) :
    State.SoundX m o n (execRenew p s) := by
  unfold execRenew
  exact State.SoundX.next (State.Sound.of_doRenew h (Field.sub_of hm rfl))

theorem State.Sound.of_doHandover {p s} (h : State.Sound m o n s) (hm : Field.sub [.dict, .clock, .tally, .own,
    .ports, .arrs, .queues, .mem, .host, .bin, .log, .sent] m = true) :
    State.Sound m o n (doHandover p s) := by
  unfold doHandover
  exact State.Sound.servePdu h (fun s1 h1 => (State.Sound.serveHandover h1 (Field.sub_of hm rfl))) (Field.sub_of hm
      rfl)

theorem State.Sound.of_execHandover {p s} (h : State.Sound m o n s) (hm : Field.sub [.dict, .clock, .tally, .own,
    .ports, .arrs, .queues, .mem, .host, .bin, .log, .sent] m = true) :
    State.SoundX m o n (execHandover p s) := by
  unfold execHandover
  exact State.SoundX.next (State.Sound.of_doHandover h (Field.sub_of hm rfl))

theorem State.Sound.of_doAccept {p s} (h : State.Sound m o n s) (hm : Field.sub [.dict, .clock, .tally, .own,
    .ports, .arrs, .queues, .mem, .host, .bin, .log, .sent] m = true) :
    State.Sound m o n (doAccept p s) := by
  unfold doAccept
  exact State.Sound.servePdu h (fun s1 h1 => (State.Sound.serveAccept h1 (Field.sub_of hm rfl))) (Field.sub_of hm
      rfl)

theorem State.Sound.of_execAccept {p s} (h : State.Sound m o n s) (hm : Field.sub [.dict, .clock, .tally, .own,
    .ports, .arrs, .queues, .mem, .host, .bin, .log, .sent] m = true) :
    State.SoundX m o n (execAccept p s) := by
  unfold execAccept
  exact State.SoundX.next (State.Sound.of_doAccept h (Field.sub_of hm rfl))

theorem State.Sound.of_doNotifyReceived {p s} (h : State.Sound m o n s) (hm : Field.sub [.dict, .clock, .tally,
    .own, .ports, .arrs, .queues, .mem, .host, .bin, .log, .sent] m = true) :
    State.Sound m o n (doNotifyReceived p s) := by
  unfold doNotifyReceived
  exact State.Sound.servePdu h (fun s1 h1 => (State.SoundR.refused h1)) (Field.sub_of hm rfl)

theorem State.Sound.of_execNotifyReceived {p s} (h : State.Sound m o n s) (hm : Field.sub [.dict, .clock, .tally,
    .own, .ports, .arrs, .queues, .mem, .host, .bin, .log, .sent] m = true) :
    State.SoundX m o n (execNotifyReceived p s) := by
  unfold execNotifyReceived
  exact State.SoundX.next (State.Sound.of_doNotifyReceived h (Field.sub_of hm rfl))

theorem State.Sound.of_doUnknownService {p code s} (h : State.Sound m o n s) (hm : Field.sub [.dict, .clock, .tally,
    .own, .ports, .arrs, .queues, .mem, .host, .bin, .log, .sent] m = true) :
    State.Sound m o n (doUnknownService p code s) := by
  unfold doUnknownService
  exact State.Sound.ite h (State.Sound.servePdu h (fun s1 h1 => (State.SoundR.refused h1)) (Field.sub_of hm rfl))

theorem State.Sound.of_execUnknownService {p code s} (h : State.Sound m o n s) (hm : Field.sub [.dict, .clock,
    .tally, .own, .ports, .arrs, .queues, .mem, .host, .bin, .log, .sent] m = true) :
    State.SoundX m o n (execUnknownService p code s) := by
  unfold execUnknownService
  exact State.SoundX.next (State.Sound.of_doUnknownService h (Field.sub_of hm rfl))

theorem State.Sound.of_doMalformedPdu {t port sender why s} (h : State.Sound m o n s) (hm : Field.sub [.dict,
    .clock, .host, .sent] m = true) :
    State.Sound m o n (doMalformedPdu t port sender why s) := by
  unfold doMalformedPdu
  extract_lets x1 x2
  have h1 : State.Sound m o n x1 := State.Sound.advance h (Field.sub_of hm rfl)
  clear_value x1
  have h2 : State.Sound m o n x2 := State.Sound.ite (State.Sound.fetchEntry h1 (Field.sub_of hm rfl)) h1
  clear_value x2
  exact State.Sound.ite h1 (State.Sound.dropPdu h2 (Field.sub_of hm rfl))

theorem State.Sound.of_execMalformedPdu {t port what s} (h : State.Sound m o n s) (hm : Field.sub [.dict,
    .clock, .host, .sent] m = true) :
    State.SoundX m o n (execMalformedPdu t port what s) := by
  unfold execMalformedPdu
  exact State.SoundX.next (State.Sound.of_doMalformedPdu h (Field.sub_of hm rfl))

theorem State.Sound.of_doHandoverDeadline {s} (h : State.Sound m o n s) (hm : Field.sub [.own, .ports, .host, .sent]
    m = true) :
    State.Sound m o n (doHandoverDeadline s) := by
  unfold doHandoverDeadline
  exact State.Sound.endHandover h (Field.sub_of hm rfl)

theorem State.Sound.of_execHandoverDeadline {s} (h : State.Sound m o n s) (hm : Field.sub [.own, .ports, .host,
    .sent] m = true) :
    State.SoundX m o n (execHandoverDeadline s) := by
  unfold execHandoverDeadline
  exact State.SoundX.next (State.Sound.of_doHandoverDeadline h (Field.sub_of hm rfl))

theorem State.Sound.of_doLeaseExpiry {s} (h : State.Sound m o n s) (hm : Field.sub [.dict, .own, .ports, .host,
    .sent] m = true) :
    State.Sound m o n (doLeaseExpiry s) := by
  unfold doLeaseExpiry
  exact State.Sound.endLease h (Field.sub_of hm rfl)

theorem State.Sound.of_execLeaseExpiry {s} (h : State.Sound m o n s) (hm : Field.sub [.dict, .own, .ports, .host,
    .sent] m = true) :
    State.SoundX m o n (execLeaseExpiry s) := by
  unfold execLeaseExpiry
  exact State.SoundX.next (State.Sound.of_doLeaseExpiry h (Field.sub_of hm rfl))

theorem State.Sound.of_doClaimWindowClose {s} (h : State.Sound m o n s) (hm : Field.sub [.dict, .own, .ports, .host,
    .sent] m = true) :
    State.Sound m o n (doClaimWindowClose s) := by
  unfold doClaimWindowClose
  exact State.Sound.closeClaims h (Field.sub_of hm rfl)

theorem State.Sound.of_execClaimWindowClose {s} (h : State.Sound m o n s) (hm : Field.sub [.dict, .own, .ports,
    .host, .sent] m = true) :
    State.SoundX m o n (execClaimWindowClose s) := by
  unfold execClaimWindowClose
  exact State.SoundX.next (State.Sound.of_doClaimWindowClose h (Field.sub_of hm rfl))

/-! ## Debug -/

theorem State.Sound.tapAnswer {s b} (h : State.Sound m o n s) (hm : Field.sub [.dict, .power, .free] m = true) :
    State.Sound m o n (State.tapAnswer s b) := by
  unfold State.tapAnswer
  exact State.Sound.ite h (State.SoundP.snd (State.Sound.answerDebug h (Field.sub_of hm rfl)))

theorem State.Sound.tapScan {s b} (h : State.Sound m o n s) (hm : Field.sub [.dict, .power, .sent, .free] m = true) :
    State.Sound m o n (State.tapScan s b) := by
  unfold State.tapScan
  split
  · rename_i y1 y2
    exact State.Sound.emit h (Field.sub_of hm rfl)
  · rename_i y3 y4
    exact State.Sound.emit h (Field.sub_of hm rfl)
  · rename_i y5 y6
    exact State.Sound.tapAnswer (State.Sound.emit h (Field.sub_of hm rfl)) (Field.sub_of hm rfl)
  · rename_i y7 y8
    split
    rename_i y9 y10 y11 y12
    have h1 : State.Sound m o n y11 := State.SoundP.of y12 (State.Sound.takeFreeBytes h (Field.sub_of hm rfl))
    exact State.Sound.emit h1 (Field.sub_of hm rfl)
  · rename_i y13 y14
    split
    rename_i y15 y16 y17 y18
    have h2 : State.Sound m o n y17 := State.SoundP.of y18 (State.Sound.takeFreeBytes h (Field.sub_of hm rfl))
    exact State.Sound.emit h2 (Field.sub_of hm rfl)
  · rename_i y19 y20 y21
    split
    rename_i y22 y23 y24 y25
    have h3 : State.Sound m o n y24 := State.SoundP.of y25 (State.Sound.takeFreeBytes h (Field.sub_of hm rfl))
    exact State.Sound.emit h3 (Field.sub_of hm rfl)

theorem State.Sound.tapLoad {s i} (h : State.Sound m o n s) (hm : Field.sub [.power] m = true) :
    State.Sound m o n (State.tapLoad s i) := by
  unfold State.tapLoad
  exact State.Sound.setPower h (Field.sub_of hm rfl)

/-! ## Requests -/

theorem State.Sound.of_doRead {p s} (h : State.Sound m o n s) (hm : Field.sub [.dict, .clock, .tally, .own, .ports,
    .arrs, .queues, .mem, .host, .bin, .log, .sent] m = true) :
    State.Sound m o n (doRead p s) := by
  unfold doRead
  exact State.Sound.servePdu h (fun s1 h1 => (State.Sound.serveRead h1 (Field.sub_of hm rfl))) (Field.sub_of hm rfl)

theorem State.Sound.of_execRead {p s} (h : State.Sound m o n s) (hm : Field.sub [.dict, .clock, .tally, .own,
    .ports, .arrs, .queues, .mem, .host, .bin, .log, .sent] m = true) :
    State.SoundX m o n (execRead p s) := by
  unfold execRead
  exact State.SoundX.next (State.Sound.of_doRead h (Field.sub_of hm rfl))

theorem State.Sound.of_doWrite {p s} (h : State.Sound m o n s) (hm : Field.sub [.dict, .staged, .nvm, .tick, .clock,
    .tally, .own, .ports, .ingest, .arrs, .queues, .mem, .fabric, .host, .bin, .log, .keys, .panels, .plat, .power,
    .sent, .free] m = true) :
    State.Sound m o n (doWrite p s) := by
  unfold doWrite
  exact State.Sound.servePdu h (fun t1 k1 => State.Sound.serveWrite k1 (Field.sub_of hm rfl)) (Field.sub_of hm
      rfl)

theorem State.Sound.of_execWrite {p s} (h : State.Sound m o n s) (hm : Field.sub [.dict, .staged, .nvm, .tick,
    .clock, .tally, .own, .ports, .ingest, .arrs, .queues, .mem, .fabric, .host, .bin, .log, .keys, .panels, .plat,
    .power, .sent, .free] m = true) :
    State.SoundX m o n (execWrite p s) := by
  unfold execWrite
  exact State.SoundX.next (State.Sound.of_doWrite h (Field.sub_of hm rfl))

theorem State.Sound.of_doReadBlock {p s} (h : State.Sound m o n s) (hm : Field.sub [.dict, .staged, .nvm, .tick,
    .clock, .tally, .own, .ports, .ingest, .arrs, .queues, .mem, .fabric, .host, .bin, .log, .keys, .panels, .plat,
    .power, .sent, .free] m = true) :
    State.Sound m o n (doReadBlock p s) := by
  unfold doReadBlock
  exact State.Sound.servePdu h (fun t1 k1 => State.Sound.serveBlock k1 (Field.sub_of hm rfl)) (Field.sub_of hm
      rfl)

theorem State.Sound.of_execReadBlock {p s} (h : State.Sound m o n s) (hm : Field.sub [.dict, .staged, .nvm, .tick,
    .clock, .tally, .own, .ports, .ingest, .arrs, .queues, .mem, .fabric, .host, .bin, .log, .keys, .panels, .plat,
    .power, .sent, .free] m = true) :
    State.SoundX m o n (execReadBlock p s) := by
  unfold execReadBlock
  exact State.SoundX.next (State.Sound.of_doReadBlock h (Field.sub_of hm rfl))

theorem State.Sound.of_doWriteBlock {p s} (h : State.Sound m o n s) (hm : Field.sub [.dict, .staged, .nvm, .tick,
    .clock, .tally, .own, .ports, .ingest, .arrs, .queues, .mem, .fabric, .host, .bin, .log, .keys, .panels, .plat,
    .power, .sent, .free] m = true) :
    State.Sound m o n (doWriteBlock p s) := by
  unfold doWriteBlock
  exact State.Sound.servePdu h (fun t1 k1 => State.Sound.serveBlock k1 (Field.sub_of hm rfl)) (Field.sub_of hm
      rfl)

theorem State.Sound.of_execWriteBlock {p s} (h : State.Sound m o n s) (hm : Field.sub [.dict, .staged, .nvm, .tick,
    .clock, .tally, .own, .ports, .ingest, .arrs, .queues, .mem, .fabric, .host, .bin, .log, .keys, .panels, .plat,
    .power, .sent, .free] m = true) :
    State.SoundX m o n (execWriteBlock p s) := by
  unfold execWriteBlock
  exact State.SoundX.next (State.Sound.of_doWriteBlock h (Field.sub_of hm rfl))

theorem State.Sound.writeRow {s r a} (h : State.Sound m o n s) (hm : Field.sub [.dict, .staged, .nvm, .tick, .clock,
    .tally, .own, .ports, .ingest, .arrs, .queues, .mem, .fabric, .host, .bin, .log, .keys, .panels, .plat, .power,
    .sent, .free] m = true) :
    State.Sound m o n (State.writeRow s r a) := by
  unfold State.writeRow
  exact State.Sound.request h (fun t1 k1 => State.Sound.serveWrite k1 (Field.sub_of hm rfl)) (Field.sub_of hm rfl)

theorem State.Sound.blockRow {s p write a} (h : State.Sound m o n s) (hm : Field.sub [.dict, .staged, .nvm, .tick,
    .clock, .tally, .own, .ports, .ingest, .arrs, .queues, .mem, .fabric, .host, .bin, .log, .keys, .panels, .plat,
    .power, .sent, .free] m = true) :
    State.Sound m o n (State.blockRow s p write a) := by
  unfold State.blockRow
  exact State.Sound.request h (fun t1 k1 => State.Sound.serveBlock k1 (Field.sub_of hm rfl)) (Field.sub_of hm rfl)

theorem State.Sound.of_doRealign {r s} (h : State.Sound m o n s) (hm : Field.sub [.dict, .staged, .nvm, .tick,
    .clock, .tally, .own, .ports, .ingest, .arrs, .queues, .mem, .fabric, .host, .bin, .log, .keys, .panels, .plat,
    .power, .sent, .free] m = true) :
    State.Sound m o n (doRealign r s) := by
  unfold doRealign
  exact State.Sound.writeRow h (Field.sub_of hm rfl)

theorem State.Sound.of_execRealign {r s} (h : State.Sound m o n s) (hm : Field.sub [.dict, .staged, .nvm, .tick,
    .clock, .tally, .own, .ports, .ingest, .arrs, .queues, .mem, .fabric, .host, .bin, .log, .keys, .panels, .plat,
    .power, .sent, .free] m = true) :
    State.SoundX m o n (execRealign r s) := by
  unfold execRealign
  exact State.SoundX.next (State.Sound.of_doRealign h (Field.sub_of hm rfl))

theorem State.Sound.of_doStore {r s} (h : State.Sound m o n s) (hm : Field.sub [.dict, .staged, .nvm, .tick, .clock,
    .tally, .own, .ports, .ingest, .arrs, .queues, .mem, .fabric, .host, .bin, .log, .keys, .panels, .plat, .power,
    .sent, .free] m = true) :
    State.Sound m o n (doStore r s) := by
  unfold doStore
  exact State.Sound.writeRow h (Field.sub_of hm rfl)

theorem State.Sound.of_execStore {r s} (h : State.Sound m o n s) (hm : Field.sub [.dict, .staged, .nvm, .tick,
    .clock, .tally, .own, .ports, .ingest, .arrs, .queues, .mem, .fabric, .host, .bin, .log, .keys, .panels, .plat,
    .power, .sent, .free] m = true) :
    State.SoundX m o n (execStore r s) := by
  unfold execStore
  exact State.SoundX.next (State.Sound.of_doStore h (Field.sub_of hm rfl))

theorem State.Sound.of_doRestore {r s} (h : State.Sound m o n s) (hm : Field.sub [.dict, .staged, .nvm, .tick,
    .clock, .tally, .own, .ports, .ingest, .arrs, .queues, .mem, .fabric, .host, .bin, .log, .keys, .panels, .plat,
    .power, .sent, .free] m = true) :
    State.Sound m o n (doRestore r s) := by
  unfold doRestore
  exact State.Sound.writeRow h (Field.sub_of hm rfl)

theorem State.Sound.of_execRestore {r s} (h : State.Sound m o n s) (hm : Field.sub [.dict, .staged, .nvm, .tick,
    .clock, .tally, .own, .ports, .ingest, .arrs, .queues, .mem, .fabric, .host, .bin, .log, .keys, .panels, .plat,
    .power, .sent, .free] m = true) :
    State.SoundX m o n (execRestore r s) := by
  unfold execRestore
  exact State.SoundX.next (State.Sound.of_doRestore h (Field.sub_of hm rfl))

theorem State.Sound.of_doRestoreFactory {r s} (h : State.Sound m o n s) (hm : Field.sub [.dict, .staged, .nvm, .tick,
    .clock, .tally, .own, .ports, .ingest, .arrs, .queues, .mem, .fabric, .host, .bin, .log, .keys, .panels, .plat,
    .power, .sent, .free] m = true) :
    State.Sound m o n (doRestoreFactory r s) := by
  unfold doRestoreFactory
  exact State.Sound.writeRow h (Field.sub_of hm rfl)

theorem State.Sound.of_execRestoreFactory {r s} (h : State.Sound m o n s) (hm : Field.sub [.dict, .staged, .nvm,
    .tick, .clock, .tally, .own, .ports, .ingest, .arrs, .queues, .mem, .fabric, .host, .bin, .log, .keys, .panels,
    .plat, .power, .sent, .free] m = true) :
    State.SoundX m o n (execRestoreFactory r s) := by
  unfold execRestoreFactory
  exact State.SoundX.next (State.Sound.of_doRestoreFactory h (Field.sub_of hm rfl))

theorem State.Sound.of_doRelease {r slot s} (h : State.Sound m o n s) (hm : Field.sub [.dict, .staged, .nvm, .tick,
    .clock, .tally, .own, .ports, .ingest, .arrs, .queues, .mem, .fabric, .host, .bin, .log, .keys, .panels, .plat,
    .power, .sent, .free] m = true) :
    State.Sound m o n (doRelease r slot s) := by
  unfold doRelease
  exact State.Sound.writeRow h (Field.sub_of hm rfl)

theorem State.Sound.of_execRelease {r slot s} (h : State.Sound m o n s) (hm : Field.sub [.dict, .staged, .nvm, .tick,
    .clock, .tally, .own, .ports, .ingest, .arrs, .queues, .mem, .fabric, .host, .bin, .log, .keys, .panels, .plat,
    .power, .sent, .free] m = true) :
    State.SoundX m o n (execRelease r slot s) := by
  unfold execRelease
  exact State.SoundX.next (State.Sound.of_doRelease h (Field.sub_of hm rfl))

theorem State.Sound.of_doAcquire {r slot s} (h : State.Sound m o n s) (hm : Field.sub [.dict, .staged, .nvm, .tick,
    .clock, .tally, .own, .ports, .ingest, .arrs, .queues, .mem, .fabric, .host, .bin, .log, .keys, .panels, .plat,
    .power, .sent, .free] m = true) :
    State.Sound m o n (doAcquire r slot s) := by
  unfold doAcquire
  exact State.Sound.writeRow h (Field.sub_of hm rfl)

theorem State.Sound.of_execAcquire {r slot s} (h : State.Sound m o n s) (hm : Field.sub [.dict, .staged, .nvm, .tick,
    .clock, .tally, .own, .ports, .ingest, .arrs, .queues, .mem, .fabric, .host, .bin, .log, .keys, .panels, .plat,
    .power, .sent, .free] m = true) :
    State.SoundX m o n (execAcquire r slot s) := by
  unfold execAcquire
  exact State.SoundX.next (State.Sound.of_doAcquire h (Field.sub_of hm rfl))

theorem State.Sound.of_doQueueAbort {r q s} (h : State.Sound m o n s) (hm : Field.sub [.dict, .staged, .nvm, .tick,
    .clock, .tally, .own, .ports, .ingest, .arrs, .queues, .mem, .fabric, .host, .bin, .log, .keys, .panels, .plat,
    .power, .sent, .free] m = true) :
    State.Sound m o n (doQueueAbort r q s) := by
  unfold doQueueAbort
  exact State.Sound.writeRow h (Field.sub_of hm rfl)

theorem State.Sound.of_execQueueAbort {r q s} (h : State.Sound m o n s) (hm : Field.sub [.dict, .staged, .nvm, .tick,
    .clock, .tally, .own, .ports, .ingest, .arrs, .queues, .mem, .fabric, .host, .bin, .log, .keys, .panels, .plat,
    .power, .sent, .free] m = true) :
    State.SoundX m o n (execQueueAbort r q s) := by
  unfold execQueueAbort
  exact State.SoundX.next (State.Sound.of_doQueueAbort h (Field.sub_of hm rfl))

theorem State.Sound.of_doTlbInvalidate {r s} (h : State.Sound m o n s) (hm : Field.sub [.dict, .staged, .nvm, .tick,
    .clock, .tally, .own, .ports, .ingest, .arrs, .queues, .mem, .fabric, .host, .bin, .log, .keys, .panels, .plat,
    .power, .sent, .free] m = true) :
    State.Sound m o n (doTlbInvalidate r s) := by
  unfold doTlbInvalidate
  exact State.Sound.writeRow h (Field.sub_of hm rfl)

theorem State.Sound.of_execTlbInvalidate {r s} (h : State.Sound m o n s) (hm : Field.sub [.dict, .staged, .nvm,
    .tick, .clock, .tally, .own, .ports, .ingest, .arrs, .queues, .mem, .fabric, .host, .bin, .log, .keys, .panels,
    .plat, .power, .sent, .free] m = true) :
    State.SoundX m o n (execTlbInvalidate r s) := by
  unfold execTlbInvalidate
  exact State.SoundX.next (State.Sound.of_doTlbInvalidate h (Field.sub_of hm rfl))

theorem State.Sound.of_doFaultAck {r s} (h : State.Sound m o n s) (hm : Field.sub [.dict, .staged, .nvm, .tick,
    .clock, .tally, .own, .ports, .ingest, .arrs, .queues, .mem, .fabric, .host, .bin, .log, .keys, .panels, .plat,
    .power, .sent, .free] m = true) :
    State.Sound m o n (doFaultAck r s) := by
  unfold doFaultAck
  exact State.Sound.writeRow h (Field.sub_of hm rfl)

theorem State.Sound.of_execFaultAck {r s} (h : State.Sound m o n s) (hm : Field.sub [.dict, .staged, .nvm, .tick,
    .clock, .tally, .own, .ports, .ingest, .arrs, .queues, .mem, .fabric, .host, .bin, .log, .keys, .panels, .plat,
    .power, .sent, .free] m = true) :
    State.SoundX m o n (execFaultAck r s) := by
  unfold execFaultAck
  exact State.SoundX.next (State.Sound.of_doFaultAck h (Field.sub_of hm rfl))

theorem State.Sound.of_doArrayFaultClear {r s} (h : State.Sound m o n s) (hm : Field.sub [.dict, .staged, .nvm,
    .tick, .clock, .tally, .own, .ports, .ingest, .arrs, .queues, .mem, .fabric, .host, .bin, .log, .keys, .panels,
    .plat, .power, .sent, .free] m = true) :
    State.Sound m o n (doArrayFaultClear r s) := by
  unfold doArrayFaultClear
  exact State.Sound.writeRow h (Field.sub_of hm rfl)

theorem State.Sound.of_execArrayFaultClear {r s} (h : State.Sound m o n s) (hm : Field.sub [.dict, .staged, .nvm,
    .tick, .clock, .tally, .own, .ports, .ingest, .arrs, .queues, .mem, .fabric, .host, .bin, .log, .keys, .panels,
    .plat, .power, .sent, .free] m = true) :
    State.SoundX m o n (execArrayFaultClear r s) := by
  unfold execArrayFaultClear
  exact State.SoundX.next (State.Sound.of_doArrayFaultClear h (Field.sub_of hm rfl))

theorem State.Sound.of_doLogbookClear {r s} (h : State.Sound m o n s) (hm : Field.sub [.dict, .staged, .nvm, .tick,
    .clock, .tally, .own, .ports, .ingest, .arrs, .queues, .mem, .fabric, .host, .bin, .log, .keys, .panels, .plat,
    .power, .sent, .free] m = true) :
    State.Sound m o n (doLogbookClear r s) := by
  unfold doLogbookClear
  exact State.Sound.writeRow h (Field.sub_of hm rfl)

theorem State.Sound.of_execLogbookClear {r s} (h : State.Sound m o n s) (hm : Field.sub [.dict, .staged, .nvm, .tick,
    .clock, .tally, .own, .ports, .ingest, .arrs, .queues, .mem, .fabric, .host, .bin, .log, .keys, .panels, .plat,
    .power, .sent, .free] m = true) :
    State.SoundX m o n (execLogbookClear r s) := by
  unfold execLogbookClear
  exact State.SoundX.next (State.Sound.of_doLogbookClear h (Field.sub_of hm rfl))

theorem State.Sound.of_doEventAck {r s} (h : State.Sound m o n s) (hm : Field.sub [.dict, .staged, .nvm, .tick,
    .clock, .tally, .own, .ports, .ingest, .arrs, .queues, .mem, .fabric, .host, .bin, .log, .keys, .panels, .plat,
    .power, .sent, .free] m = true) :
    State.Sound m o n (doEventAck r s) := by
  unfold doEventAck
  exact State.Sound.writeRow h (Field.sub_of hm rfl)

theorem State.Sound.of_execEventAck {r s} (h : State.Sound m o n s) (hm : Field.sub [.dict, .staged, .nvm, .tick,
    .clock, .tally, .own, .ports, .ingest, .arrs, .queues, .mem, .fabric, .host, .bin, .log, .keys, .panels, .plat,
    .power, .sent, .free] m = true) :
    State.SoundX m o n (execEventAck r s) := by
  unfold execEventAck
  exact State.SoundX.next (State.Sound.of_doEventAck h (Field.sub_of hm rfl))

theorem State.Sound.of_doPanelEnable {r p s} (h : State.Sound m o n s) (hm : Field.sub [.dict, .staged, .nvm, .tick,
    .clock, .tally, .own, .ports, .ingest, .arrs, .queues, .mem, .fabric, .host, .bin, .log, .keys, .panels, .plat,
    .power, .sent, .free] m = true) :
    State.Sound m o n (doPanelEnable r p s) := by
  unfold doPanelEnable
  exact State.Sound.writeRow h (Field.sub_of hm rfl)

theorem State.Sound.of_execPanelEnable {r p s} (h : State.Sound m o n s) (hm : Field.sub [.dict, .staged, .nvm,
    .tick, .clock, .tally, .own, .ports, .ingest, .arrs, .queues, .mem, .fabric, .host, .bin, .log, .keys, .panels,
    .plat, .power, .sent, .free] m = true) :
    State.SoundX m o n (execPanelEnable r p s) := by
  unfold execPanelEnable
  exact State.SoundX.next (State.Sound.of_doPanelEnable h (Field.sub_of hm rfl))

theorem State.Sound.of_doSelfTest {r s} (h : State.Sound m o n s) (hm : Field.sub [.dict, .staged, .nvm, .tick,
    .clock, .tally, .own, .ports, .ingest, .arrs, .queues, .mem, .fabric, .host, .bin, .log, .keys, .panels, .plat,
    .power, .sent, .free] m = true) :
    State.Sound m o n (doSelfTest r s) := by
  unfold doSelfTest
  exact State.Sound.writeRow h (Field.sub_of hm rfl)

theorem State.Sound.of_execSelfTest {r s} (h : State.Sound m o n s) (hm : Field.sub [.dict, .staged, .nvm, .tick,
    .clock, .tally, .own, .ports, .ingest, .arrs, .queues, .mem, .fabric, .host, .bin, .log, .keys, .panels, .plat,
    .power, .sent, .free] m = true) :
    State.SoundX m o n (execSelfTest r s) := by
  unfold execSelfTest
  exact State.SoundX.next (State.Sound.of_doSelfTest h (Field.sub_of hm rfl))

theorem State.Sound.of_doReportAck {r p s} (h : State.Sound m o n s) (hm : Field.sub [.dict, .staged, .nvm, .tick,
    .clock, .tally, .own, .ports, .ingest, .arrs, .queues, .mem, .fabric, .host, .bin, .log, .keys, .panels, .plat,
    .power, .sent, .free] m = true) :
    State.Sound m o n (doReportAck r p s) := by
  unfold doReportAck
  exact State.Sound.writeRow h (Field.sub_of hm rfl)

theorem State.Sound.of_execReportAck {r p s} (h : State.Sound m o n s) (hm : Field.sub [.dict, .staged, .nvm, .tick,
    .clock, .tally, .own, .ports, .ingest, .arrs, .queues, .mem, .fabric, .host, .bin, .log, .keys, .panels, .plat,
    .power, .sent, .free] m = true) :
    State.SoundX m o n (execReportAck r p s) := by
  unfold execReportAck
  exact State.SoundX.next (State.Sound.of_doReportAck h (Field.sub_of hm rfl))

theorem State.Sound.of_doSeqRun {r s} (h : State.Sound m o n s) (hm : Field.sub [.dict, .staged, .nvm, .tick, .clock,
    .tally, .own, .ports, .ingest, .arrs, .queues, .mem, .fabric, .host, .bin, .log, .keys, .panels, .plat, .power,
    .sent, .free] m = true) :
    State.Sound m o n (doSeqRun r s) := by
  unfold doSeqRun
  exact State.Sound.writeRow h (Field.sub_of hm rfl)

theorem State.Sound.of_execSeqRun {r s} (h : State.Sound m o n s) (hm : Field.sub [.dict, .staged, .nvm, .tick,
    .clock, .tally, .own, .ports, .ingest, .arrs, .queues, .mem, .fabric, .host, .bin, .log, .keys, .panels, .plat,
    .power, .sent, .free] m = true) :
    State.SoundX m o n (execSeqRun r s) := by
  unfold execSeqRun
  exact State.SoundX.next (State.Sound.of_doSeqRun h (Field.sub_of hm rfl))

theorem State.Sound.of_doSeqAbort {r s} (h : State.Sound m o n s) (hm : Field.sub [.dict, .staged, .nvm, .tick,
    .clock, .tally, .own, .ports, .ingest, .arrs, .queues, .mem, .fabric, .host, .bin, .log, .keys, .panels, .plat,
    .power, .sent, .free] m = true) :
    State.Sound m o n (doSeqAbort r s) := by
  unfold doSeqAbort
  exact State.Sound.writeRow h (Field.sub_of hm rfl)

theorem State.Sound.of_execSeqAbort {r s} (h : State.Sound m o n s) (hm : Field.sub [.dict, .staged, .nvm, .tick,
    .clock, .tally, .own, .ports, .ingest, .arrs, .queues, .mem, .fabric, .host, .bin, .log, .keys, .panels, .plat,
    .power, .sent, .free] m = true) :
    State.SoundX m o n (execSeqAbort r s) := by
  unfold execSeqAbort
  exact State.SoundX.next (State.Sound.of_doSeqAbort h (Field.sub_of hm rfl))

theorem State.Sound.of_doTripClear {r s} (h : State.Sound m o n s) (hm : Field.sub [.dict, .staged, .nvm, .tick,
    .clock, .tally, .own, .ports, .ingest, .arrs, .queues, .mem, .fabric, .host, .bin, .log, .keys, .panels, .plat,
    .power, .sent, .free] m = true) :
    State.Sound m o n (doTripClear r s) := by
  unfold doTripClear
  exact State.Sound.writeRow h (Field.sub_of hm rfl)

theorem State.Sound.of_execTripClear {r s} (h : State.Sound m o n s) (hm : Field.sub [.dict, .staged, .nvm, .tick,
    .clock, .tally, .own, .ports, .ingest, .arrs, .queues, .mem, .fabric, .host, .bin, .log, .keys, .panels, .plat,
    .power, .sent, .free] m = true) :
    State.SoundX m o n (execTripClear r s) := by
  unfold execTripClear
  exact State.SoundX.next (State.Sound.of_doTripClear h (Field.sub_of hm rfl))

theorem State.Sound.of_doPlatPendingClear {r s} (h : State.Sound m o n s) (hm : Field.sub [.dict, .staged, .nvm,
    .tick, .clock, .tally, .own, .ports, .ingest, .arrs, .queues, .mem, .fabric, .host, .bin, .log, .keys, .panels,
    .plat, .power, .sent, .free] m = true) :
    State.Sound m o n (doPlatPendingClear r s) := by
  unfold doPlatPendingClear
  exact State.Sound.writeRow h (Field.sub_of hm rfl)

theorem State.Sound.of_execPlatPendingClear {r s} (h : State.Sound m o n s) (hm : Field.sub [.dict, .staged, .nvm,
    .tick, .clock, .tally, .own, .ports, .ingest, .arrs, .queues, .mem, .fabric, .host, .bin, .log, .keys, .panels,
    .plat, .power, .sent, .free] m = true) :
    State.SoundX m o n (execPlatPendingClear r s) := by
  unfold execPlatPendingClear
  exact State.SoundX.next (State.Sound.of_doPlatPendingClear h (Field.sub_of hm rfl))

theorem State.Sound.of_doPowerCmd {r s} (h : State.Sound m o n s) (hm : Field.sub [.dict, .staged, .nvm, .tick,
    .clock, .tally, .own, .ports, .ingest, .arrs, .queues, .mem, .fabric, .host, .bin, .log, .keys, .panels, .plat,
    .power, .sent, .free] m = true) :
    State.Sound m o n (doPowerCmd r s) := by
  unfold doPowerCmd
  exact State.Sound.writeRow h (Field.sub_of hm rfl)

theorem State.Sound.of_execPowerCmd {r s} (h : State.Sound m o n s) (hm : Field.sub [.dict, .staged, .nvm, .tick,
    .clock, .tally, .own, .ports, .ingest, .arrs, .queues, .mem, .fabric, .host, .bin, .log, .keys, .panels, .plat,
    .power, .sent, .free] m = true) :
    State.SoundX m o n (execPowerCmd r s) := by
  unfold execPowerCmd
  exact State.SoundX.next (State.Sound.of_doPowerCmd h (Field.sub_of hm rfl))

theorem State.Sound.of_doWarmReset {r s} (h : State.Sound m o n s) (hm : Field.sub [.dict, .staged, .nvm, .tick,
    .clock, .tally, .own, .ports, .ingest, .arrs, .queues, .mem, .fabric, .host, .bin, .log, .keys, .panels, .plat,
    .power, .sent, .free] m = true) :
    State.Sound m o n (doWarmReset r s) := by
  unfold doWarmReset
  exact State.Sound.writeRow h (Field.sub_of hm rfl)

theorem State.Sound.of_execWarmReset {r s} (h : State.Sound m o n s) (hm : Field.sub [.dict, .staged, .nvm, .tick,
    .clock, .tally, .own, .ports, .ingest, .arrs, .queues, .mem, .fabric, .host, .bin, .log, .keys, .panels, .plat,
    .power, .sent, .free] m = true) :
    State.SoundX m o n (execWarmReset r s) := by
  unfold execWarmReset
  exact State.SoundX.next (State.Sound.of_doWarmReset h (Field.sub_of hm rfl))

theorem State.Sound.of_doCtlReset {r s} (h : State.Sound m o n s) (hm : Field.sub [.dict, .staged, .nvm, .tick,
    .clock, .tally, .own, .ports, .ingest, .arrs, .queues, .mem, .fabric, .host, .bin, .log, .keys, .panels, .plat,
    .power, .sent, .free] m = true) :
    State.Sound m o n (doCtlReset r s) := by
  unfold doCtlReset
  exact State.Sound.writeRow h (Field.sub_of hm rfl)

theorem State.Sound.of_execCtlReset {r s} (h : State.Sound m o n s) (hm : Field.sub [.dict, .staged, .nvm, .tick,
    .clock, .tally, .own, .ports, .ingest, .arrs, .queues, .mem, .fabric, .host, .bin, .log, .keys, .panels, .plat,
    .power, .sent, .free] m = true) :
    State.SoundX m o n (execCtlReset r s) := by
  unfold execCtlReset
  exact State.SoundX.next (State.Sound.of_doCtlReset h (Field.sub_of hm rfl))

theorem State.Sound.of_doDebugLock {r s} (h : State.Sound m o n s) (hm : Field.sub [.dict, .staged, .nvm, .tick,
    .clock, .tally, .own, .ports, .ingest, .arrs, .queues, .mem, .fabric, .host, .bin, .log, .keys, .panels, .plat,
    .power, .sent, .free] m = true) :
    State.Sound m o n (doDebugLock r s) := by
  unfold doDebugLock
  exact State.Sound.writeRow h (Field.sub_of hm rfl)

theorem State.Sound.of_execDebugLock {r s} (h : State.Sound m o n s) (hm : Field.sub [.dict, .staged, .nvm, .tick,
    .clock, .tally, .own, .ports, .ingest, .arrs, .queues, .mem, .fabric, .host, .bin, .log, .keys, .panels, .plat,
    .power, .sent, .free] m = true) :
    State.SoundX m o n (execDebugLock r s) := by
  unfold execDebugLock
  exact State.SoundX.next (State.Sound.of_doDebugLock h (Field.sub_of hm rfl))

theorem State.Sound.of_doPersistClear {r s} (h : State.Sound m o n s) (hm : Field.sub [.dict, .staged, .nvm, .tick,
    .clock, .tally, .own, .ports, .ingest, .arrs, .queues, .mem, .fabric, .host, .bin, .log, .keys, .panels, .plat,
    .power, .sent, .free] m = true) :
    State.Sound m o n (doPersistClear r s) := by
  unfold doPersistClear
  exact State.Sound.writeRow h (Field.sub_of hm rfl)

theorem State.Sound.of_execPersistClear {r s} (h : State.Sound m o n s) (hm : Field.sub [.dict, .staged, .nvm, .tick,
    .clock, .tally, .own, .ports, .ingest, .arrs, .queues, .mem, .fabric, .host, .bin, .log, .keys, .panels, .plat,
    .power, .sent, .free] m = true) :
    State.SoundX m o n (execPersistClear r s) := by
  unfold execPersistClear
  exact State.SoundX.next (State.Sound.of_doPersistClear h (Field.sub_of hm rfl))

theorem State.Sound.of_doCounterPreset {r index sub sameCycle s} (h : State.Sound m o n s) (hm : Field.sub [.dict,
    .staged, .nvm, .tick, .clock, .tally, .own, .ports, .ingest, .arrs, .queues, .mem, .fabric, .host, .bin, .log,
    .keys, .panels, .plat, .power, .sent, .free] m = true) :
    State.Sound m o n (doCounterPreset r index sub sameCycle s) := by
  unfold doCounterPreset
  extract_lets x1
  refine State.Sound.ite h ?_
  refine State.Sound.request h ?_ (Field.sub_of hm rfl)
  intro t1 k1
  split
  · rename_i y1 y2 y3 y4 y5
    have h1 : State.Sound m o n y4 := State.SoundR.of_done y5 (State.Sound.serveWrite k1 (Field.sub_of hm rfl))
    exact State.SoundR.done (State.Sound.ite (State.Sound.bump h1 (Field.sub_of hm rfl)) h1)
  · rename_i y1 y2
    exact State.Sound.serveWrite k1 (Field.sub_of hm rfl)

theorem State.Sound.of_execCounterPreset {r index sub sameCycle s} (h : State.Sound m o n s) (hm : Field.sub [.dict,
    .staged, .nvm, .tick, .clock, .tally, .own, .ports, .ingest, .arrs, .queues, .mem, .fabric, .host, .bin, .log,
    .keys, .panels, .plat, .power, .sent, .free] m = true) :
    State.SoundX m o n (execCounterPreset r index sub sameCycle s) := by
  unfold execCounterPreset
  exact State.SoundX.next (State.Sound.of_doCounterPreset h (Field.sub_of hm rfl))

theorem State.Sound.of_doWrapFlagClear {r index sub wrapsInCycle s} (h : State.Sound m o n s) (hm : Field.sub [.dict,
    .staged, .nvm, .tick, .clock, .tally, .own, .ports, .ingest, .arrs, .queues, .mem, .fabric, .host, .bin, .log,
    .keys, .panels, .plat, .power, .sent, .free] m = true) :
    State.Sound m o n (doWrapFlagClear r index sub wrapsInCycle s) := by
  unfold doWrapFlagClear
  extract_lets x1
  refine State.Sound.ite h ?_
  refine State.Sound.request h ?_ (Field.sub_of hm rfl)
  intro t1 k1
  split
  · rename_i y1 y2 y3 y4 y5
    have h1 : State.Sound m o n y4 := State.SoundR.of_done y5 (State.Sound.serveWrite k1 (Field.sub_of hm rfl))
    refine State.SoundR.done ?_
    split
    · exact State.Sound.ite (State.Sound.bump h1 (Field.sub_of hm rfl)) h1
    · exact h1
  · rename_i y1 y2
    exact State.Sound.serveWrite k1 (Field.sub_of hm rfl)

theorem State.Sound.of_execWrapFlagClear {r index sub wrapsInCycle s} (h : State.Sound m o n s) (hm : Field.sub
    [.dict, .staged, .nvm, .tick, .clock, .tally, .own, .ports, .ingest, .arrs, .queues, .mem, .fabric, .host, .bin,
    .log, .keys, .panels, .plat, .power, .sent, .free] m = true) :
    State.SoundX m o n (execWrapFlagClear r index sub wrapsInCycle s) := by
  unfold execWrapFlagClear
  exact State.SoundX.next (State.Sound.of_doWrapFlagClear h (Field.sub_of hm rfl))

theorem State.Sound.resolveRow {s via q x} (h : State.Sound m o n s) (hm : Field.sub [.dict, .staged, .nvm, .tick,
    .clock, .tally, .own, .ports, .ingest, .arrs, .queues, .mem, .fabric, .host, .bin, .log, .keys, .panels, .plat,
    .power, .sent, .free] m = true) :
    State.Sound m o n (State.resolveRow s via q x) := by
  unfold State.resolveRow
  split
  · exact State.Sound.mirrorResolve h (Field.sub_of hm rfl)
  · exact State.Sound.writeRow h (Field.sub_of hm rfl)

theorem State.Sound.of_doTfResolveRetry {via q s} (h : State.Sound m o n s) (hm : Field.sub [.dict, .staged, .nvm,
    .tick, .clock, .tally, .own, .ports, .ingest, .arrs, .queues, .mem, .fabric, .host, .bin, .log, .keys, .panels,
    .plat, .power, .sent, .free] m = true) :
    State.Sound m o n (doTfResolveRetry via q s) := by
  unfold doTfResolveRetry
  exact State.Sound.resolveRow h (Field.sub_of hm rfl)

theorem State.Sound.of_execTfResolveRetry {via q s} (h : State.Sound m o n s) (hm : Field.sub [.dict, .staged, .nvm,
    .tick, .clock, .tally, .own, .ports, .ingest, .arrs, .queues, .mem, .fabric, .host, .bin, .log, .keys, .panels,
    .plat, .power, .sent, .free] m = true) :
    State.SoundX m o n (execTfResolveRetry via q s) := by
  unfold execTfResolveRetry
  exact State.SoundX.next (State.Sound.of_doTfResolveRetry h (Field.sub_of hm rfl))

theorem State.Sound.of_doTfResolveAbort {via q s} (h : State.Sound m o n s) (hm : Field.sub [.dict, .staged, .nvm,
    .tick, .clock, .tally, .own, .ports, .ingest, .arrs, .queues, .mem, .fabric, .host, .bin, .log, .keys, .panels,
    .plat, .power, .sent, .free] m = true) :
    State.Sound m o n (doTfResolveAbort via q s) := by
  unfold doTfResolveAbort
  exact State.Sound.resolveRow h (Field.sub_of hm rfl)

theorem State.Sound.of_execTfResolveAbort {via q s} (h : State.Sound m o n s) (hm : Field.sub [.dict, .staged, .nvm,
    .tick, .clock, .tally, .own, .ports, .ingest, .arrs, .queues, .mem, .fabric, .host, .bin, .log, .keys, .panels,
    .plat, .power, .sent, .free] m = true) :
    State.SoundX m o n (execTfResolveAbort via q s) := by
  unfold execTfResolveAbort
  exact State.SoundX.next (State.Sound.of_doTfResolveAbort h (Field.sub_of hm rfl))

theorem State.Sound.of_doReadSelectorWrite {r persist s} (h : State.Sound m o n s) (hm : Field.sub [.dict, .staged,
    .nvm, .tick, .clock, .tally, .own, .ports, .ingest, .arrs, .queues, .mem, .fabric, .host, .bin, .log, .keys,
    .panels, .plat, .power, .sent, .free] m = true) :
    State.Sound m o n (doReadSelectorWrite r persist s) := by
  unfold doReadSelectorWrite
  exact State.Sound.writeRow h (Field.sub_of hm rfl)

theorem State.Sound.of_execReadSelectorWrite {r persist s} (h : State.Sound m o n s) (hm : Field.sub [.dict, .staged,
    .nvm, .tick, .clock, .tally, .own, .ports, .ingest, .arrs, .queues, .mem, .fabric, .host, .bin, .log, .keys,
    .panels, .plat, .power, .sent, .free] m = true) :
    State.SoundX m o n (execReadSelectorWrite r persist s) := by
  unfold execReadSelectorWrite
  exact State.SoundX.next (State.Sound.of_doReadSelectorWrite h (Field.sub_of hm rfl))

theorem State.Sound.of_doLogbookExport {p s} (h : State.Sound m o n s) (hm : Field.sub [.dict, .staged, .nvm, .tick,
    .clock, .tally, .own, .ports, .ingest, .arrs, .queues, .mem, .fabric, .host, .bin, .log, .keys, .panels, .plat,
    .power, .sent, .free] m = true) :
    State.Sound m o n (doLogbookExport p s) := by
  unfold doLogbookExport
  exact State.Sound.blockRow h (Field.sub_of hm rfl)

theorem State.Sound.of_execLogbookExport {p s} (h : State.Sound m o n s) (hm : Field.sub [.dict, .staged, .nvm,
    .tick, .clock, .tally, .own, .ports, .ingest, .arrs, .queues, .mem, .fabric, .host, .bin, .log, .keys, .panels,
    .plat, .power, .sent, .free] m = true) :
    State.SoundX m o n (execLogbookExport p s) := by
  unfold execLogbookExport
  exact State.SoundX.next (State.Sound.of_doLogbookExport h (Field.sub_of hm rfl))

theorem State.Sound.of_doKeyLock {r s} (h : State.Sound m o n s) (hm : Field.sub [.dict, .staged, .nvm, .tick,
    .clock, .tally, .own, .ports, .ingest, .arrs, .queues, .mem, .fabric, .host, .bin, .log, .keys, .panels, .plat,
    .power, .sent, .free] m = true) :
    State.Sound m o n (doKeyLock r s) := by
  unfold doKeyLock
  exact State.Sound.writeRow h (Field.sub_of hm rfl)

theorem State.Sound.of_execKeyLock {r s} (h : State.Sound m o n s) (hm : Field.sub [.dict, .staged, .nvm, .tick,
    .clock, .tally, .own, .ports, .ingest, .arrs, .queues, .mem, .fabric, .host, .bin, .log, .keys, .panels, .plat,
    .power, .sent, .free] m = true) :
    State.SoundX m o n (execKeyLock r s) := by
  unfold execKeyLock
  exact State.SoundX.next (State.Sound.of_doKeyLock h (Field.sub_of hm rfl))

theorem State.Sound.of_doKeyUnlock {r s} (h : State.Sound m o n s) (hm : Field.sub [.dict, .staged, .nvm, .tick,
    .clock, .tally, .own, .ports, .ingest, .arrs, .queues, .mem, .fabric, .host, .bin, .log, .keys, .panels, .plat,
    .power, .sent, .free] m = true) :
    State.Sound m o n (doKeyUnlock r s) := by
  unfold doKeyUnlock
  exact State.Sound.writeRow h (Field.sub_of hm rfl)

theorem State.Sound.of_execKeyUnlock {r s} (h : State.Sound m o n s) (hm : Field.sub [.dict, .staged, .nvm, .tick,
    .clock, .tally, .own, .ports, .ingest, .arrs, .queues, .mem, .fabric, .host, .bin, .log, .keys, .panels, .plat,
    .power, .sent, .free] m = true) :
    State.SoundX m o n (execKeyUnlock r s) := by
  unfold execKeyUnlock
  exact State.SoundX.next (State.Sound.of_doKeyUnlock h (Field.sub_of hm rfl))

theorem State.Sound.of_doKeyEnableMask {p s} (h : State.Sound m o n s) (hm : Field.sub [.dict, .staged, .nvm, .tick,
    .clock, .tally, .own, .ports, .ingest, .arrs, .queues, .mem, .fabric, .host, .bin, .log, .keys, .panels, .plat,
    .power, .sent, .free] m = true) :
    State.Sound m o n (doKeyEnableMask p s) := by
  unfold doKeyEnableMask
  exact State.Sound.blockRow h (Field.sub_of hm rfl)

theorem State.Sound.of_execKeyEnableMask {p s} (h : State.Sound m o n s) (hm : Field.sub [.dict, .staged, .nvm,
    .tick, .clock, .tally, .own, .ports, .ingest, .arrs, .queues, .mem, .fabric, .host, .bin, .log, .keys, .panels,
    .plat, .power, .sent, .free] m = true) :
    State.SoundX m o n (execKeyEnableMask p s) := by
  unfold execKeyEnableMask
  exact State.SoundX.next (State.Sound.of_doKeyEnableMask h (Field.sub_of hm rfl))

theorem State.Sound.of_doDebugResponse {via s} (h : State.Sound m o n s) (hm : Field.sub [.dict, .staged, .nvm,
    .tick, .clock, .tally, .own, .ports, .ingest, .arrs, .queues, .mem, .fabric, .host, .bin, .log, .keys, .panels,
    .plat, .power, .sent, .free] m = true) :
    State.Sound m o n (doDebugResponse via s) := by
  unfold doDebugResponse
  split
  · rename_i y1 y2
    exact State.Sound.blockRow h (Field.sub_of hm rfl)
  · rename_i y3 y4 y5
    exact State.Sound.tapLoad (State.Sound.advance h (Field.sub_of hm rfl)) (Field.sub_of hm rfl)
  · rename_i y6 y7 y8
    exact State.Sound.tapScan (State.Sound.advance h (Field.sub_of hm rfl)) (Field.sub_of hm rfl)

theorem State.Sound.of_execDebugResponse {p s} (h : State.Sound m o n s) (hm : Field.sub [.dict, .staged, .nvm,
    .tick, .clock, .tally, .own, .ports, .ingest, .arrs, .queues, .mem, .fabric, .host, .bin, .log, .keys, .panels,
    .plat, .power, .sent, .free] m = true) :
    State.SoundX m o n (execDebugResponse p s) := by
  unfold execDebugResponse
  exact State.SoundX.next (State.Sound.of_doDebugResponse h (Field.sub_of hm rfl))

theorem State.Sound.of_doTouchRefMapWrite {p s} (h : State.Sound m o n s) (hm : Field.sub [.dict, .staged, .nvm,
    .tick, .clock, .tally, .own, .ports, .ingest, .arrs, .queues, .mem, .fabric, .host, .bin, .log, .keys, .panels,
    .plat, .power, .sent, .free] m = true) :
    State.Sound m o n (doTouchRefMapWrite p s) := by
  unfold doTouchRefMapWrite
  exact State.Sound.blockRow h (Field.sub_of hm rfl)

theorem State.Sound.of_execTouchRefMapWrite {p s} (h : State.Sound m o n s) (hm : Field.sub [.dict, .staged, .nvm,
    .tick, .clock, .tally, .own, .ports, .ingest, .arrs, .queues, .mem, .fabric, .host, .bin, .log, .keys, .panels,
    .plat, .power, .sent, .free] m = true) :
    State.SoundX m o n (execTouchRefMapWrite p s) := by
  unfold execTouchRefMapWrite
  exact State.SoundX.next (State.Sound.of_doTouchRefMapWrite h (Field.sub_of hm rfl))

theorem State.Sound.of_doSecurityVersionRaise {p s} (h : State.Sound m o n s) (hm : Field.sub [.dict, .staged, .nvm,
    .tick, .clock, .tally, .own, .ports, .ingest, .arrs, .queues, .mem, .fabric, .host, .bin, .log, .keys, .panels,
    .plat, .power, .sent, .free] m = true) :
    State.Sound m o n (doSecurityVersionRaise p s) := by
  unfold doSecurityVersionRaise
  exact State.Sound.blockRow h (Field.sub_of hm rfl)

theorem State.Sound.of_execSecurityVersionRaise {p s} (h : State.Sound m o n s) (hm : Field.sub [.dict, .staged,
    .nvm, .tick, .clock, .tally, .own, .ports, .ingest, .arrs, .queues, .mem, .fabric, .host, .bin, .log, .keys,
    .panels, .plat, .power, .sent, .free] m = true) :
    State.SoundX m o n (execSecurityVersionRaise p s) := by
  unfold execSecurityVersionRaise
  exact State.SoundX.next (State.Sound.of_doSecurityVersionRaise h (Field.sub_of hm rfl))

/-! ## Mailbox -/

theorem State.Sound.sided {s spi z3 f} (h : State.Sound m o n s) (hm : Field.sub [.dict, .host] m = true) :
    State.Sound m o n (State.sided s spi z3 f) := by
  unfold State.sided
  exact State.Sound.ite (State.Sound.setMailbox h (Field.sub_of hm rfl)) (State.Sound.bump h (Field.sub_of hm
      rfl))

theorem State.Sound.writeLen {s spi z3 value} (h : State.Sound m o n s) (hm : Field.sub [.dict, .host] m = true) :
    State.Sound m o n (State.writeLen s spi z3 value) := by
  unfold State.writeLen
  extract_lets x1 x2
  have h1 : State.Sound m o n x2 := State.Sound.sided h (Field.sub_of hm rfl)
  clear_value x2
  exact State.Sound.ite (State.Sound.bump h1 (Field.sub_of hm rfl)) h1

theorem State.Sound.of_doMailboxBufferWrite {t spi z3 offset data s} (h : State.Sound m o n s) (hm : Field.sub
    [.dict, .clock, .host] m = true) :
    State.Sound m o n (doMailboxBufferWrite t spi z3 offset data s) := by
  unfold doMailboxBufferWrite
  extract_lets x1
  have h1 : State.Sound m o n x1 := State.Sound.advance h (Field.sub_of hm rfl)
  clear_value x1
  exact State.Sound.ite (State.Sound.sided h1 (Field.sub_of hm rfl)) h1

theorem State.Sound.of_execMailboxBufferWrite {t spi z3 offset data s} (h : State.Sound m o n s) (hm : Field.sub
    [.dict, .clock, .host] m = true) :
    State.SoundX m o n (execMailboxBufferWrite t spi z3 offset data s) := by
  unfold execMailboxBufferWrite
  exact State.SoundX.next (State.Sound.of_doMailboxBufferWrite h (Field.sub_of hm rfl))

theorem State.Sound.of_doInLen {t spi z3 value s} (h : State.Sound m o n s) (hm : Field.sub [.dict, .clock, .host] m
    = true) :
    State.Sound m o n (doInLen t spi z3 value s) := by
  unfold doInLen
  extract_lets x1
  have h1 : State.Sound m o n x1 := State.Sound.advance h (Field.sub_of hm rfl)
  clear_value x1
  exact State.Sound.ite (State.Sound.writeLen h1 (Field.sub_of hm rfl)) h1

theorem State.Sound.of_execInLen {t spi z3 value s} (h : State.Sound m o n s) (hm : Field.sub [.dict, .clock, .host]
    m = true) :
    State.SoundX m o n (execInLen t spi z3 value s) := by
  unfold execInLen
  exact State.SoundX.next (State.Sound.of_doInLen h (Field.sub_of hm rfl))

theorem State.Sound.of_doOutAck {t spi z3 s} (h : State.Sound m o n s) (hm : Field.sub [.dict, .clock, .host] m =
    true) :
    State.Sound m o n (doOutAck t spi z3 s) := by
  unfold doOutAck
  extract_lets x1
  have h1 : State.Sound m o n x1 := State.Sound.advance h (Field.sub_of hm rfl)
  clear_value x1
  exact State.Sound.ite (State.Sound.sided h1 (Field.sub_of hm rfl)) h1

theorem State.Sound.of_execOutAck {t spi z3 s} (h : State.Sound m o n s) (hm : Field.sub [.dict, .clock, .host] m =
    true) :
    State.SoundX m o n (execOutAck t spi z3 s) := by
  unfold execOutAck
  exact State.SoundX.next (State.Sound.of_doOutAck h (Field.sub_of hm rfl))

theorem State.Sound.of_doOverrunClear {t spi z3 s} (h : State.Sound m o n s) (hm : Field.sub [.dict, .clock, .host] m
    = true) :
    State.Sound m o n (doOverrunClear t spi z3 s) := by
  unfold doOverrunClear
  extract_lets x1
  have h1 : State.Sound m o n x1 := State.Sound.advance h (Field.sub_of hm rfl)
  clear_value x1
  exact State.Sound.ite (State.Sound.sided h1 (Field.sub_of hm rfl)) h1

theorem State.Sound.of_execOverrunClear {t spi z3 s} (h : State.Sound m o n s) (hm : Field.sub [.dict, .clock, .host]
    m = true) :
    State.SoundX m o n (execOverrunClear t spi z3 s) := by
  unfold execOverrunClear
  exact State.SoundX.next (State.Sound.of_doOverrunClear h (Field.sub_of hm rfl))

theorem State.Sound.refuseMessage {s z2 type code} (h : State.Sound m o n s) (hm : Field.sub [.dict, .host] m = true)
    :
    State.Sound m o n (State.refuseMessage s z2 type code) := by
  unfold State.refuseMessage
  exact State.Sound.bump (State.Sound.setMailbox h (Field.sub_of hm rfl)) (Field.sub_of hm rfl)

theorem State.Sound.messageWrite {s z2 type a x} (h : State.Sound m o n s) (hm : Field.sub [.dict, .staged, .nvm,
    .tick, .tally, .own, .ports, .ingest, .arrs, .queues, .mem, .fabric, .host, .bin, .log, .keys, .panels, .plat,
    .power, .sent, .free] m = true) :
    State.Sound m o n (State.messageWrite s z2 type a x) := by
  unfold State.messageWrite
  extract_lets x1
  split
  · exact State.Sound.refuseMessage h (Field.sub_of hm rfl)
  · split
    · rename_i y1 y2 y3 y4 y5 y6
      have h1 : State.Sound m o n y5 := State.SoundP.of y6 (State.Sound.perform h (Field.sub_of hm rfl))
      exact State.Sound.refuseMessage h1 (Field.sub_of hm rfl)
    · rename_i y1 y2 y3 y4 y5
      have h1 : State.Sound m o n y4 := State.SoundP.of y5 (State.Sound.perform h (Field.sub_of hm rfl))
      exact State.Sound.touchLease h1 (Field.sub_of hm rfl)

theorem State.Sound.takeKeyAck {s z2 payload} (h : State.Sound m o n s) (hm : Field.sub [.dict, .staged, .nvm, .tick,
    .tally, .own, .ports, .ingest, .arrs, .queues, .mem, .fabric, .host, .bin, .log, .keys, .panels, .plat, .power,
    .sent, .free] m = true) :
    State.Sound m o n (State.takeKeyAck s z2 payload) := by
  unfold State.takeKeyAck
  exact State.Sound.ite (State.Sound.refuseMessage h (Field.sub_of hm rfl)) (State.Sound.messageWrite h
      (Field.sub_of hm rfl))

theorem State.Sound.takeTouchAck {s z2 payload} (h : State.Sound m o n s) (hm : Field.sub [.dict, .staged, .nvm,
    .tick, .tally, .own, .ports, .ingest, .arrs, .queues, .mem, .fabric, .host, .bin, .log, .keys, .panels, .plat,
    .power, .sent, .free] m = true) :
    State.Sound m o n (State.takeTouchAck s z2 payload) := by
  unfold State.takeTouchAck
  refine State.Sound.ite (State.Sound.refuseMessage h (Field.sub_of hm rfl)) ?_
  extract_lets x1
  exact State.Sound.ite (State.Sound.refuseMessage h (Field.sub_of hm rfl)) (State.Sound.messageWrite h
      (Field.sub_of hm rfl))

theorem State.Sound.of_doKeyAck {t z2 payload s} (h : State.Sound m o n s) (hm : Field.sub [.dict, .staged, .nvm,
    .tick, .clock, .tally, .own, .ports, .ingest, .arrs, .queues, .mem, .fabric, .host, .bin, .log, .keys, .panels,
    .plat, .power, .sent, .free] m = true) :
    State.Sound m o n (doKeyAck t z2 payload s) := by
  unfold doKeyAck
  extract_lets x1
  have h1 : State.Sound m o n x1 := State.Sound.settleOwnership (State.Sound.advanceCharged h (Field.sub_of hm
      rfl)) (Field.sub_of hm rfl)
  clear_value x1
  exact State.Sound.ite h1 (State.Sound.takeKeyAck h1 (Field.sub_of hm rfl))

theorem State.Sound.of_execKeyAck {t z2 payload s} (h : State.Sound m o n s) (hm : Field.sub [.dict, .staged, .nvm,
    .tick, .clock, .tally, .own, .ports, .ingest, .arrs, .queues, .mem, .fabric, .host, .bin, .log, .keys, .panels,
    .plat, .power, .sent, .free] m = true) :
    State.SoundX m o n (execKeyAck t z2 payload s) := by
  unfold execKeyAck
  exact State.SoundX.next (State.Sound.of_doKeyAck h (Field.sub_of hm rfl))

theorem State.Sound.of_doTouchAck {t z2 payload s} (h : State.Sound m o n s) (hm : Field.sub [.dict, .staged, .nvm,
    .tick, .clock, .tally, .own, .ports, .ingest, .arrs, .queues, .mem, .fabric, .host, .bin, .log, .keys, .panels,
    .plat, .power, .sent, .free] m = true) :
    State.Sound m o n (doTouchAck t z2 payload s) := by
  unfold doTouchAck
  extract_lets x1
  have h1 : State.Sound m o n x1 := State.Sound.settleOwnership (State.Sound.advanceCharged h (Field.sub_of hm
      rfl)) (Field.sub_of hm rfl)
  clear_value x1
  exact State.Sound.ite h1 (State.Sound.takeTouchAck h1 (Field.sub_of hm rfl))

theorem State.Sound.of_execTouchAck {t z2 payload s} (h : State.Sound m o n s) (hm : Field.sub [.dict, .staged, .nvm,
    .tick, .clock, .tally, .own, .ports, .ingest, .arrs, .queues, .mem, .fabric, .host, .bin, .log, .keys, .panels,
    .plat, .power, .sent, .free] m = true) :
    State.SoundX m o n (execTouchAck t z2 payload s) := by
  unfold execTouchAck
  exact State.SoundX.next (State.Sound.of_doTouchAck h (Field.sub_of hm rfl))

theorem State.Sound.runPdu {s p service} (h : State.Sound m o n s) (hm : Field.sub [.dict, .staged, .nvm, .tick,
    .clock, .tally, .own, .ports, .ingest, .arrs, .queues, .mem, .fabric, .host, .bin, .log, .keys, .panels, .plat,
    .power, .sent, .free] m = true) :
    State.Sound m o n (State.runPdu s p service) := by
  unfold State.runPdu
  split
  · exact State.Sound.of_doRead h (Field.sub_of hm rfl)
  · exact State.Sound.of_doWrite h (Field.sub_of hm rfl)
  · exact State.Sound.of_doReadBlock h (Field.sub_of hm rfl)
  · exact State.Sound.of_doWriteBlock h (Field.sub_of hm rfl)
  · exact State.Sound.of_doClaim h (Field.sub_of hm rfl)
  · exact State.Sound.of_doRenew h (Field.sub_of hm rfl)
  · exact State.Sound.of_doHandover h (Field.sub_of hm rfl)
  · exact State.Sound.of_doAccept h (Field.sub_of hm rfl)
  · exact State.Sound.of_doNotifyReceived h (Field.sub_of hm rfl)
  · exact State.Sound.of_doUnknownService h (Field.sub_of hm rfl)

theorem State.Sound.takePdu {s t b} (h : State.Sound m o n s) (hm : Field.sub [.dict, .staged, .nvm, .tick, .clock,
    .tally, .own, .ports, .ingest, .arrs, .queues, .mem, .fabric, .host, .bin, .log, .keys, .panels, .plat, .power,
    .sent, .free] m = true) :
    State.Sound m o n (State.takePdu s t b) := by
  unfold State.takePdu
  exact State.Sound.ite (State.Sound.bump h (Field.sub_of hm rfl)) (State.Sound.runPdu h (Field.sub_of hm rfl))

theorem State.Sound.takeMessage {s z2 b} (h : State.Sound m o n s) (hm : Field.sub [.dict, .staged, .nvm, .tick,
    .tally, .own, .ports, .ingest, .arrs, .queues, .mem, .fabric, .host, .bin, .log, .keys, .panels, .plat, .power,
    .sent, .free] m = true) :
    State.Sound m o n (State.takeMessage s z2 b) := by
  unfold State.takeMessage
  extract_lets x1 x2
  exact State.Sound.ite (State.Sound.refuseMessage h (Field.sub_of hm rfl)) (State.Sound.ite
      (State.Sound.refuseMessage h (Field.sub_of hm rfl)) (State.Sound.ite (State.Sound.takeKeyAck h (Field.sub_of
      hm rfl)) (State.Sound.takeTouchAck h (Field.sub_of hm rfl))))

theorem State.Sound.of_doMailboxTake {t k1 s} (h : State.Sound m o n s) (hm : Field.sub [.dict, .staged, .nvm,
    .tick, .clock, .tally, .own, .ports, .ingest, .arrs, .queues, .mem, .fabric, .host, .bin, .log, .keys, .panels,
    .plat, .power, .sent, .free] m = true) :
    State.Sound m o n (doMailboxTake t k1 s) := by
  unfold doMailboxTake
  extract_lets x1 x2 x3 x4
  have h1 : State.Sound m o n x1 := State.Sound.settleOwnership (State.Sound.advanceCharged h (Field.sub_of hm rfl))
      (Field.sub_of hm rfl)
  clear_value x1
  have h2 : State.Sound m o n x3 := State.Sound.sendVector (State.Sound.setMailbox h1 (Field.sub_of hm rfl))
      (Field.sub_of hm rfl)
  clear_value x3
  exact State.Sound.ite h1 (State.Sound.ite (State.Sound.takePdu h2 (Field.sub_of hm rfl)) (State.Sound.takeMessage
      h2 (Field.sub_of hm rfl)))

theorem State.Sound.of_execMailboxTake {t z2 s} (h : State.Sound m o n s) (hm : Field.sub [.dict, .staged, .nvm,
    .tick, .clock, .tally, .own, .ports, .ingest, .arrs, .queues, .mem, .fabric, .host, .bin, .log, .keys, .panels,
    .plat, .power, .sent, .free] m = true) :
    State.SoundX m o n (execMailboxTake t z2 s) := by
  unfold execMailboxTake
  exact State.SoundX.next (State.Sound.of_doMailboxTake h (Field.sub_of hm rfl))

theorem State.Sound.of_doMailboxOutWrite {t k1 s} (h : State.Sound m o n s) (hm : Field.sub [.dict, .clock, .host,
    .sent] m = true) :
    State.Sound m o n (doMailboxOutWrite t k1 s) := by
  unfold doMailboxOutWrite
  extract_lets x1
  have h1 : State.Sound m o n x1 := State.Sound.advance h (Field.sub_of hm rfl)
  clear_value x1
  refine State.Sound.ite h1 ?_
  refine State.Sound.ite ?_ ?_
  · split
    · rename_i y1 y2
      exact h1
    · rename_i y3 y4 y5 y6
      exact State.Sound.sendVector (State.Sound.bump (State.Sound.setMailbox h1 (Field.sub_of hm rfl)) (Field.sub_of
          hm rfl)) (Field.sub_of hm rfl)
  · split
    · rename_i y7 y8
      exact h1
    · rename_i y9 y10 y11
      exact State.Sound.sendVector (State.Sound.bump (State.Sound.bump (State.Sound.setMailbox h1 (Field.sub_of hm
          rfl)) (Field.sub_of hm rfl)) (Field.sub_of hm rfl)) (Field.sub_of hm rfl)

theorem State.Sound.of_execMailboxOutWrite {t k1 s} (h : State.Sound m o n s) (hm : Field.sub [.dict, .clock, .host,
    .sent] m = true) :
    State.SoundX m o n (execMailboxOutWrite t k1 s) := by
  unfold execMailboxOutWrite
  exact State.SoundX.next (State.Sound.of_doMailboxOutWrite h (Field.sub_of hm rfl))

theorem State.Sound.of_doSpiRead {t addr len s} (h : State.Sound m o n s) (hm : Field.sub [.clock, .sent] m = true) :
    State.Sound m o n (doSpiRead t addr len s) := by
  unfold doSpiRead
  extract_lets x1
  have h1 : State.Sound m o n x1 := State.Sound.advance h (Field.sub_of hm rfl)
  clear_value x1
  exact State.Sound.ite h1 (State.Sound.emit h1 (Field.sub_of hm rfl))

theorem State.Sound.of_execSpiRead {t addr len s} (h : State.Sound m o n s) (hm : Field.sub [.clock, .sent] m = true)
    :
    State.SoundX m o n (execSpiRead t addr len s) := by
  unfold execSpiRead
  exact State.SoundX.next (State.Sound.of_doSpiRead h (Field.sub_of hm rfl))

theorem State.Sound.writeRegister {s spi z3 z4 value} (h : State.Sound m o n s) (hm : Field.sub [.dict, .host] m =
    true) :
    State.Sound m o n (State.writeRegister s spi z3 z4 value) := by
  unfold State.writeRegister
  exact State.Sound.ite (State.Sound.writeLen h (Field.sub_of hm rfl)) (State.Sound.ite (State.Sound.ite
      (State.Sound.sided h (Field.sub_of hm rfl)) (State.Sound.sided h (Field.sub_of hm rfl))) (State.Sound.ite
      (State.Sound.ite (State.Sound.sided h (Field.sub_of hm rfl)) (State.Sound.sided h (Field.sub_of hm rfl)))
      h))

theorem State.Sound.spiPort {s a data z4} (h : State.Sound m o n s) (hm : Field.sub [.dict, .host] m = true) :
    State.Sound m o n (State.spiPort s a data z4) := by
  unfold State.spiPort
  extract_lets x1 x2 x3 x4
  have h1 : State.Sound m o n x4 := State.Sound.ite (State.Sound.sided h (Field.sub_of hm rfl)) h
  clear_value x4
  exact State.Sound.foldl h1 (fun s1 x5 h2 => State.Sound.ite (State.Sound.writeRegister h2 (Field.sub_of hm rfl))
      h2)

theorem State.Sound.of_doSpiWrite {t addr data s} (h : State.Sound m o n s) (hm : Field.sub [.dict, .clock, .host] m
    = true) :
    State.Sound m o n (doSpiWrite t addr data s) := by
  unfold doSpiWrite
  extract_lets x1
  have h1 : State.Sound m o n x1 := State.Sound.advance h (Field.sub_of hm rfl)
  clear_value x1
  exact State.Sound.ite h1 (State.Sound.foldl h1 (fun s1 x2 h2 => State.Sound.spiPort h2 (Field.sub_of hm rfl)))

theorem State.Sound.of_execSpiWrite {t addr data s} (h : State.Sound m o n s) (hm : Field.sub [.dict, .clock, .host]
    m = true) :
    State.SoundX m o n (execSpiWrite t addr data s) := by
  unfold execSpiWrite
  exact State.SoundX.next (State.Sound.of_doSpiWrite h (Field.sub_of hm rfl))

theorem State.Sound.of_doSpiStatus {t s} (h : State.Sound m o n s) (hm : Field.sub [.clock, .sent] m = true) :
    State.Sound m o n (doSpiStatus t s) := by
  unfold doSpiStatus
  extract_lets x1
  have h1 : State.Sound m o n x1 := State.Sound.advance h (Field.sub_of hm rfl)
  clear_value x1
  exact State.Sound.ite h1 (State.Sound.emit h1 (Field.sub_of hm rfl))

theorem State.Sound.of_execSpiStatus {t s} (h : State.Sound m o n s) (hm : Field.sub [.clock, .sent] m = true) :
    State.SoundX m o n (execSpiStatus t s) := by
  unfold execSpiStatus
  exact State.SoundX.next (State.Sound.of_doSpiStatus h (Field.sub_of hm rfl))

/-! ## WindowA -/

theorem State.Sound.readMirror {s slot high} (h : State.Sound m o n s) (hm : Field.sub [.host, .sent] m = true) :
    State.Sound m o n (State.readMirror s slot high) := by
  unfold State.readMirror
  split
  · rename_i y1 y2
    exact State.Sound.emit h (Field.sub_of hm rfl)
  · rename_i y3 y4 y5
    extract_lets x1 x2
    refine State.Sound.ite ?_ ?_
    · refine State.Sound.emit ?_ (Field.sub_of hm rfl)
      dsimp -zeta only [x2]
      exact State.Sound.setHost h ⟨rfl, rfl⟩ (Field.sub_of hm rfl)
    · refine State.Sound.emit ?_ (Field.sub_of hm rfl)
      dsimp -zeta only [x2]
      exact State.Sound.setHost h ⟨rfl, rfl⟩ (Field.sub_of hm rfl)

theorem State.Sound.of_doCounterLowRead {t offset s} (h : State.Sound m o n s) (hm : Field.sub [.clock, .host,
    .sent] m = true) :
    State.Sound m o n (doCounterLowRead t offset s) := by
  unfold doCounterLowRead
  extract_lets x1 x2
  have h1 : State.Sound m o n x1 := State.Sound.advance h (Field.sub_of hm rfl)
  clear_value x1
  exact State.Sound.ite h1 (State.Sound.ite (State.Sound.readMirror h1 (Field.sub_of hm rfl)) (State.Sound.emit h1
      (Field.sub_of hm rfl)))

theorem State.Sound.of_execCounterLowRead {t slot s} (h : State.Sound m o n s) (hm : Field.sub [.clock, .host, .sent]
    m = true) :
    State.SoundX m o n (execCounterLowRead t slot s) := by
  unfold execCounterLowRead
  exact State.SoundX.next (State.Sound.of_doCounterLowRead h (Field.sub_of hm rfl))

theorem State.Sound.writeQueue {s q k2 value} (h : State.Sound m o n s) (hm : Field.sub [.dict, .tally, .arrs,
    .queues, .mem, .host, .bin, .log, .sent] m = true) :
    State.Sound m o n (State.writeQueue s q k2 value) := by
  unfold State.writeQueue
  split
  · rename_i y1 y2
    exact State.Sound.ringRegister h (Field.sub_of hm rfl)
  · rename_i y3 y4
    exact State.Sound.ringRegister h (Field.sub_of hm rfl)
  · rename_i y5 y6
    exact State.Sound.ringRegister h (Field.sub_of hm rfl)
  · rename_i y7 y8
    exact State.Sound.ringRegister h (Field.sub_of hm rfl)
  · rename_i y9 y10
    exact State.Sound.ringRegister h (Field.sub_of hm rfl)
  · rename_i y11 y12
    exact State.Sound.setQueue h (Field.sub_of hm rfl)
  · rename_i y13 y14
    exact State.Sound.setQueue h (Field.sub_of hm rfl)
  · rename_i y15 y16
    exact State.Sound.ite (State.Sound.resume h (Field.sub_of hm rfl)) h
  · rename_i y17 y18
    exact State.Sound.ite (State.SoundO.getD (State.Sound.tfResolve h (Field.sub_of hm rfl)) h) h
  · rename_i y19 y20 y21 y22 y23 y24 y25 y26 y27 y28
    exact h

theorem State.Sound.writeMsix {s k1 value} (h : State.Sound m o n s) (hm : Field.sub [.host, .sent] m = true) :
    State.Sound m o n (State.writeMsix s k1 value) := by
  unfold State.writeMsix
  extract_lets x1
  split
  · rename_i y1 y2
    dsimp -zeta only [x1]
    exact State.Sound.setHost h ⟨rfl, rfl⟩ (Field.sub_of hm rfl)
  · rename_i y3 y4
    dsimp -zeta only [x1]
    exact State.Sound.setHost h ⟨rfl, rfl⟩ (Field.sub_of hm rfl)
  · rename_i y5 y6
    dsimp -zeta only [x1]
    exact State.Sound.setHost h ⟨rfl, rfl⟩ (Field.sub_of hm rfl)
  · rename_i y7 y8 y9 y10
    exact State.Sound.sendPending (State.Sound.setHost h ⟨rfl, rfl⟩ (Field.sub_of hm rfl)) (Field.sub_of hm rfl)

theorem State.Sound.writeRing {s k1 value} (h : State.Sound m o n s) (hm : Field.sub [.host] m = true) :
    State.Sound m o n (State.writeRing s k1 value) := by
  unfold State.writeRing
  split
  · rename_i y1 y2
    exact State.Sound.crRegister h (Field.sub_of hm rfl)
  · rename_i y3 y4
    exact State.Sound.crRegister h (Field.sub_of hm rfl)
  · rename_i y5 y6
    exact State.Sound.crRegister h (Field.sub_of hm rfl)
  · rename_i y7 y8
    exact State.Sound.crRegister h (Field.sub_of hm rfl)
  · rename_i y9 y10
    exact State.Sound.crRegister h (Field.sub_of hm rfl)
  · rename_i y11 y12
    exact State.Sound.setRing h (Field.sub_of hm rfl)
  · rename_i y13 y14
    exact State.Sound.setRing h (Field.sub_of hm rfl)
  · rename_i y15 y16 y17 y18 y19 y20 y21 y22
    exact h

theorem State.Sound.writeMailBytes {s k1 k2 value enables} (h : State.Sound m o n s) (hm : Field.sub [.dict, .host]
    m = true) :
    State.Sound m o n (State.writeMailBytes s k1 k2 value enables) := by
  unfold State.writeMailBytes
  exact State.Sound.foldl h (fun s1 x1 h1 => (State.Sound.ite (State.Sound.sided h1 (Field.sub_of hm rfl)) h1))

theorem State.Sound.windowWrite {s k1 value enables} (h : State.Sound m o n s) (hm : Field.sub [.dict, .tally,
    .arrs, .queues, .mem, .host, .bin, .log, .sent] m = true) :
    State.Sound m o n (State.windowWrite s k1 value enables) := by
  unfold State.windowWrite
  exact State.Sound.ite (State.Sound.writeMailBytes h (Field.sub_of hm rfl)) (State.Sound.ite h (State.Sound.ite
      (State.Sound.congr [.mem] h (Field.sub_of hm rfl) rfl rfl (Nat.le_refl _) rfl rfl rfl) (State.Sound.ite
      (State.Sound.invalidate h (Field.sub_of hm rfl)) (State.Sound.ite (State.Sound.writeQueue h (Field.sub_of hm
      rfl)) (State.Sound.ite (State.Sound.writeMsix h (Field.sub_of hm rfl)) (State.Sound.ite (State.Sound.writeRing
      h (Field.sub_of hm rfl)) (State.Sound.ite (State.Sound.presetMirror h (Field.sub_of hm rfl)) (State.Sound.ite
      (State.Sound.writeRegister h (Field.sub_of hm rfl)) h))))))))

theorem State.Sound.of_doMsixVectorUnmask {t offset value enables s} (h : State.Sound m o n s) (hm : Field.sub
    [.dict, .clock, .tally, .arrs, .queues, .mem, .host, .bin, .log, .sent] m = true) :
    State.Sound m o n (doMsixVectorUnmask t offset value enables s) := by
  unfold doMsixVectorUnmask
  extract_lets x1
  have h1 : State.Sound m o n x1 := State.Sound.advanceCharged h (Field.sub_of hm rfl)
  clear_value x1
  exact State.Sound.ite (State.Sound.windowWrite h1 (Field.sub_of hm rfl)) h1

theorem State.Sound.of_execMsixVectorUnmask {t w s} (h : State.Sound m o n s) (hm : Field.sub
    [.dict, .clock, .tally, .arrs, .queues, .mem, .host, .bin, .log, .sent] m = true) :
    State.SoundX m o n (execMsixVectorUnmask t w s) := by
  unfold execMsixVectorUnmask
  exact State.SoundX.next (State.Sound.of_doMsixVectorUnmask h (Field.sub_of hm rfl))

end Sys2Proof.Machine
end

