-- ==== Sys2Proof/Laws/KeepExec.lean ====
section
/-! SUPPORT. Laws/KeepExec: what every command keeps (`State.Sound`): one line for each constructor, from the lemma
of its meaning. Only a power-on reset sets device time back. -/

namespace Sys2Proof.Machine

variable {m : List Field} {o : State} {n : Nat}

/-- What every command keeps. -/
theorem State.Sound.of_exec {i : Instr} {s : State} (h : State.Sound m o n s) (hm : Field.sub (touched i) m = true)
    (hn : i = .powerOnReset → n = 0) : State.SoundX m o n (exec i s) := by
  cases i with
  | meridian _ => exact State.Sound.of_execMeridian h (Field.sub_of hm rfl)
  | pinEventQualified _ _ => exact State.Sound.of_execPinEventQualified h (Field.sub_of hm rfl)
  | gptpScheduleEvent _ => exact State.Sound.of_execGptpScheduleEvent h (Field.sub_of hm rfl)
  | captureWindowClose => exact State.Sound.of_execCaptureWindowClose h (Field.sub_of hm rfl)
  | realign _ => exact State.Sound.of_execRealign h (Field.sub_of hm rfl)
  | realignSearchTimeout => exact State.Sound.of_execRealignSearchTimeout h (Field.sub_of hm rfl)
  | housekeepingMark => exact State.Sound.of_execHousekeepingMark h (Field.sub_of hm rfl)
  | camTrigPulse _ => exact State.Sound.of_execCamTrigPulse h (Field.sub_of hm rfl)
  | tickReport _ => exact State.Sound.of_execTickReport h (Field.sub_of hm rfl)
  | syncMessage _ _ _ _ _ => exact State.Sound.of_execSyncMessage h (Field.sub_of hm rfl)
  | pdelayMessage _ _ _ _ _ _ => exact State.Sound.of_execPdelayMessage h (Field.sub_of hm rfl)
  | gptpTimeout _ => exact State.Sound.of_execGptpTimeout h (Field.sub_of hm rfl)
  | read _ => exact State.Sound.of_execRead h (Field.sub_of hm rfl)
  | write _ => exact State.Sound.of_execWrite h (Field.sub_of hm rfl)
  | readBlock _ => exact State.Sound.of_execReadBlock h (Field.sub_of hm rfl)
  | writeBlock _ => exact State.Sound.of_execWriteBlock h (Field.sub_of hm rfl)
  | claim _ => exact State.Sound.of_execClaim h (Field.sub_of hm rfl)
  | renew _ => exact State.Sound.of_execRenew h (Field.sub_of hm rfl)
  | handover _ => exact State.Sound.of_execHandover h (Field.sub_of hm rfl)
  | accept _ => exact State.Sound.of_execAccept h (Field.sub_of hm rfl)
  | notifyReceived _ => exact State.Sound.of_execNotifyReceived h (Field.sub_of hm rfl)
  | unknownService _ _ => exact State.Sound.of_execUnknownService h (Field.sub_of hm rfl)
  | malformedPdu _ _ _ => exact State.Sound.of_execMalformedPdu h (Field.sub_of hm rfl)
  | claimWindowClose => exact State.Sound.of_execClaimWindowClose h (Field.sub_of hm rfl)
  | leaseExpiry => exact State.Sound.of_execLeaseExpiry h (Field.sub_of hm rfl)
  | handoverDeadline => exact State.Sound.of_execHandoverDeadline h (Field.sub_of hm rfl)
  | segmentTimeout _ _ => exact State.Sound.of_execSegmentTimeout h (Field.sub_of hm rfl)
  | store _ => exact State.Sound.of_execStore h (Field.sub_of hm rfl)
  | storeComplete _ _ => exact State.Sound.of_execStoreComplete h (Field.sub_of hm rfl)
  | restore _ => exact State.Sound.of_execRestore h (Field.sub_of hm rfl)
  | restoreFactory _ => exact State.Sound.of_execRestoreFactory h (Field.sub_of hm rfl)
  | counterPreset _ _ _ _ => exact State.Sound.of_execCounterPreset h (Field.sub_of hm rfl)
  | wrapFlagClear _ _ _ _ => exact State.Sound.of_execWrapFlagClear h (Field.sub_of hm rfl)
  | frameStart _ _ _ _ => exact State.Sound.of_execFrameStart h (Field.sub_of hm rfl)
  | csiPacket _ => exact State.Sound.of_execCsiPacket h (Field.sub_of hm rfl)
  | frameEnd _ _ => exact State.Sound.of_execFrameEnd h (Field.sub_of hm rfl)
  | frameTimeout _ => exact State.Sound.of_execFrameTimeout h (Field.sub_of hm rfl)
  | ethernetFrame _ => exact State.Sound.of_execEthernetFrame h (Field.sub_of hm rfl)
  | bandwidthAbort _ _ => exact State.Sound.of_execBandwidthAbort h (Field.sub_of hm rfl)
  | statisticsRecord _ _ => exact State.Sound.of_execStatisticsRecord h (Field.sub_of hm rfl)
  | shapedHeader _ _ => exact State.Sound.of_execShapedHeader h (Field.sub_of hm rfl)
  | commitWindowOpen _ => exact State.Sound.of_execCommitWindowOpen h (Field.sub_of hm rfl)
  | i2cTransactionDone _ _ _ => exact State.Sound.of_execI2cTransactionDone h (Field.sub_of hm rfl)
  | fusionRecord _ _ => exact State.Sound.of_execFusionRecord h (Field.sub_of hm rfl)
  | release _ _ => exact State.Sound.of_execRelease h (Field.sub_of hm rfl)
  | acquire _ _ => exact State.Sound.of_execAcquire h (Field.sub_of hm rfl)
  | pass _ _ => exact State.Sound.of_execPass h (Field.sub_of hm rfl)
  | vectorOp _ _ => exact State.Sound.of_execVectorOp h (Field.sub_of hm rfl)
  | indexedGather _ _ => exact State.Sound.of_execIndexedGather h (Field.sub_of hm rfl)
  | segmentReduce _ _ => exact State.Sound.of_execSegmentReduce h (Field.sub_of hm rfl)
  | atomicAdd _ _ => exact State.Sound.of_execAtomicAdd h (Field.sub_of hm rfl)
  | localisation _ _ => exact State.Sound.of_execLocalisation h (Field.sub_of hm rfl)
  | localisationVerdict _ _ _ => exact State.Sound.of_execLocalisationVerdict h (Field.sub_of hm rfl)
  | job _ _ _ _ => exact State.Sound.of_execJob h (Field.sub_of hm rfl)
  | slotBoundary _ => exact State.Sound.of_execSlotBoundary h (Field.sub_of hm rfl)
  | shareExhausted _ => exact State.Sound.of_execShareExhausted h (Field.sub_of hm rfl)
  | waypoint _ _ => exact State.Sound.of_execWaypoint h (Field.sub_of hm rfl)
  | contextSaveDone _ _ => exact State.Sound.of_execContextSaveDone h (Field.sub_of hm rfl)
  | contextRestoreDone _ _ => exact State.Sound.of_execContextRestoreDone h (Field.sub_of hm rfl)
  | waypointTimeout _ => exact State.Sound.of_execWaypointTimeout h (Field.sub_of hm rfl)
  | jobEnd _ _ => exact State.Sound.of_execJobEnd h (Field.sub_of hm rfl)
  | completionRecord _ _ => exact State.Sound.of_execCompletionRecord h (Field.sub_of hm rfl)
  | carryLimit _ => exact State.Sound.of_execCarryLimit h (Field.sub_of hm rfl)
  | queueAbort _ _ => exact State.Sound.of_execQueueAbort h (Field.sub_of hm rfl)
  | checkTile _ _ => exact State.Sound.of_execCheckTile h (Field.sub_of hm rfl)
  | checkTileResult _ _ _ _ => exact State.Sound.of_execCheckTileResult h (Field.sub_of hm rfl)
  | scrubRead _ _ _ => exact State.Sound.of_execScrubRead h (Field.sub_of hm rfl)
  | tlbInvalidate _ => exact State.Sound.of_execTlbInvalidate h (Field.sub_of hm rfl)
  | tlbInvalidateDone _ => exact State.Sound.of_execTlbInvalidateDone h (Field.sub_of hm rfl)
  | tfResolveRetry _ _ => exact State.Sound.of_execTfResolveRetry h (Field.sub_of hm rfl)
  | tfResolveAbort _ _ => exact State.Sound.of_execTfResolveAbort h (Field.sub_of hm rfl)
  | tfParkTimeout _ => exact State.Sound.of_execTfParkTimeout h (Field.sub_of hm rfl)
  | fabricWrite _ _ => exact State.Sound.of_execFabricWrite h (Field.sub_of hm rfl)
  | fabricWriteAck _ _ _ _ => exact State.Sound.of_execFabricWriteAck h (Field.sub_of hm rfl)
  | fabricReadReq _ _ => exact State.Sound.of_execFabricReadReq h (Field.sub_of hm rfl)
  | fabricReadData _ _ _ _ => exact State.Sound.of_execFabricReadData h (Field.sub_of hm rfl)
  | fabricAtomicAdd _ _ _ => exact State.Sound.of_execFabricAtomicAdd h (Field.sub_of hm rfl)
  | sweep _ _ => exact State.Sound.of_execSweep h (Field.sub_of hm rfl)
  | sweepDone _ _ => exact State.Sound.of_execSweepDone h (Field.sub_of hm rfl)
  | refuse _ _ _ _ => exact State.Sound.of_execRefuse h (Field.sub_of hm rfl)
  | ackTimeout _ _ _ _ _ _ => exact State.Sound.of_execAckTimeout h (Field.sub_of hm rfl)
  | channelReset _ _ _ _ => exact State.Sound.of_execChannelReset h (Field.sub_of hm rfl)
  | resetDone _ _ _ _ => exact State.Sound.of_execResetDone h (Field.sub_of hm rfl)
  | copy _ _ => exact State.Sound.of_execCopy h (Field.sub_of hm rfl)
  | fence _ _ _ => exact State.Sound.of_execFence h (Field.sub_of hm rfl)
  | sqTail _ _ _ => exact State.Sound.of_execSqTail h (Field.sub_of hm rfl)
  | cqHead _ _ _ => exact State.Sound.of_execCqHead h (Field.sub_of hm rfl)
  | ringEnable _ _ _ _ _ => exact State.Sound.of_execRingEnable h (Field.sub_of hm rfl)
  | ringDisable _ _ => exact State.Sound.of_execRingDisable h (Field.sub_of hm rfl)
  | resume _ _ => exact State.Sound.of_execResume h (Field.sub_of hm rfl)
  | tlbInvHi _ _ => exact State.Sound.of_execTlbInvHi h (Field.sub_of hm rfl)
  | tlbInvLo _ _ => exact State.Sound.of_execTlbInvLo h (Field.sub_of hm rfl)
  | counterLowRead _ _ => exact State.Sound.of_execCounterLowRead h (Field.sub_of hm rfl)
  | mirrorPreset _ _ _ _ => exact State.Sound.of_execMirrorPreset h (Field.sub_of hm rfl)
  | placementWrite _ _ _ _ => exact State.Sound.of_execPlacementWrite h (Field.sub_of hm rfl)
  | placementSignal _ _ _ _ => exact State.Sound.of_execPlacementSignal h (Field.sub_of hm rfl)
  | windowBRead _ _ => exact State.Sound.of_execWindowBRead h (Field.sub_of hm rfl)
  | hostReadCompletion _ _ _ _ => exact State.Sound.of_execHostReadCompletion h (Field.sub_of hm rfl)
  | lossOfBusMasterEnable _ => exact State.Sound.of_execLossOfBusMasterEnable h (Field.sub_of hm rfl)
  | functionLevelReset _ => exact State.Sound.of_execFunctionLevelReset h (Field.sub_of hm rfl)
  | pcieLinkDown _ => exact State.Sound.of_execPcieLinkDown h (Field.sub_of hm rfl)
  | crReqTail _ _ => exact State.Sound.of_execCrReqTail h (Field.sub_of hm rfl)
  | crRspHead _ _ => exact State.Sound.of_execCrRspHead h (Field.sub_of hm rfl)
  | controlRingEnable _ _ _ _ => exact State.Sound.of_execControlRingEnable h (Field.sub_of hm rfl)
  | mailboxBufferWrite _ _ _ _ _ => exact State.Sound.of_execMailboxBufferWrite h (Field.sub_of hm rfl)
  | inLen _ _ _ _ => exact State.Sound.of_execInLen h (Field.sub_of hm rfl)
  | mailboxTake _ _ => exact State.Sound.of_execMailboxTake h (Field.sub_of hm rfl)
  | mailboxOutWrite _ _ => exact State.Sound.of_execMailboxOutWrite h (Field.sub_of hm rfl)
  | outAck _ _ _ => exact State.Sound.of_execOutAck h (Field.sub_of hm rfl)
  | overrunClear _ _ _ => exact State.Sound.of_execOverrunClear h (Field.sub_of hm rfl)
  | spiRead _ _ _ => exact State.Sound.of_execSpiRead h (Field.sub_of hm rfl)
  | spiWrite _ _ _ => exact State.Sound.of_execSpiWrite h (Field.sub_of hm rfl)
  | spiStatus _ => exact State.Sound.of_execSpiStatus h (Field.sub_of hm rfl)
  | keyAck _ _ _ => exact State.Sound.of_execKeyAck h (Field.sub_of hm rfl)
  | touchAck _ _ _ => exact State.Sound.of_execTouchAck h (Field.sub_of hm rfl)
  | sequencerMismatch _ _ => exact State.Sound.of_execSequencerMismatch h (Field.sub_of hm rfl)
  | dispatcherMismatch _ => exact State.Sound.of_execDispatcherMismatch h (Field.sub_of hm rfl)
  | clockFault _ _ => exact State.Sound.of_execClockFault h (Field.sub_of hm rfl)
  | voltageFault _ _ => exact State.Sound.of_execVoltageFault h (Field.sub_of hm rfl)
  | binnacleLockstepMismatch _ => exact State.Sound.of_execBinnacleLockstepMismatch h (Field.sub_of hm rfl)
  | binnacleWatchdog _ => exact State.Sound.of_execBinnacleWatchdog h (Field.sub_of hm rfl)
  | binnacleStart _ => exact State.Sound.of_execBinnacleStart h (Field.sub_of hm rfl)
  | logbookCommit _ => exact State.Sound.of_execLogbookCommit h (Field.sub_of hm rfl)
  | persistCopy _ => exact State.Sound.of_execPersistCopy h (Field.sub_of hm rfl)
  | faultAck _ => exact State.Sound.of_execFaultAck h (Field.sub_of hm rfl)
  | arrayFaultClear _ => exact State.Sound.of_execArrayFaultClear h (Field.sub_of hm rfl)
  | safetyMsgPeriodic => exact State.Sound.of_execSafetyMsgPeriodic h (Field.sub_of hm rfl)
  | safetyMsgTransmit _ => exact State.Sound.of_execSafetyMsgTransmit h (Field.sub_of hm rfl)
  | logbookClear _ => exact State.Sound.of_execLogbookClear h (Field.sub_of hm rfl)
  | readSelectorWrite _ _ => exact State.Sound.of_execReadSelectorWrite h (Field.sub_of hm rfl)
  | logbookExport _ => exact State.Sound.of_execLogbookExport h (Field.sub_of hm rfl)
  | keyActivity _ => exact State.Sound.of_execKeyActivity h (Field.sub_of hm rfl)
  | keyScan _ _ => exact State.Sound.of_execKeyScan h (Field.sub_of hm rfl)
  | buttonSample _ _ => exact State.Sound.of_execButtonSample h (Field.sub_of hm rfl)
  | encoderStep _ _ _ _ => exact State.Sound.of_execEncoderStep h (Field.sub_of hm rfl)
  | encoderReport _ => exact State.Sound.of_execEncoderReport h (Field.sub_of hm rfl)
  | eventAck _ => exact State.Sound.of_execEventAck h (Field.sub_of hm rfl)
  | keyLock _ => exact State.Sound.of_execKeyLock h (Field.sub_of hm rfl)
  | lockEntry _ => exact State.Sound.of_execLockEntry h (Field.sub_of hm rfl)
  | keyUnlock _ => exact State.Sound.of_execKeyUnlock h (Field.sub_of hm rfl)
  | unlockTimeout => exact State.Sound.of_execUnlockTimeout h (Field.sub_of hm rfl)
  | keyEnableMask _ => exact State.Sound.of_execKeyEnableMask h (Field.sub_of hm rfl)
  | panelEnable _ _ => exact State.Sound.of_execPanelEnable h (Field.sub_of hm rfl)
  | touchFrameStart _ _ => exact State.Sound.of_execTouchFrameStart h (Field.sub_of hm rfl)
  | touchFrameEnd _ _ => exact State.Sound.of_execTouchFrameEnd h (Field.sub_of hm rfl)
  | dsyncEdge _ _ _ => exact State.Sound.of_execDsyncEdge h (Field.sub_of hm rfl)
  | dsyncTimeout _ _ => exact State.Sound.of_execDsyncTimeout h (Field.sub_of hm rfl)
  | selfTest _ => exact State.Sound.of_execSelfTest h (Field.sub_of hm rfl)
  | selfTestDone _ _ _ => exact State.Sound.of_execSelfTestDone h (Field.sub_of hm rfl)
  | reportAck _ _ => exact State.Sound.of_execReportAck h (Field.sub_of hm rfl)
  | seqRun _ => exact State.Sound.of_execSeqRun h (Field.sub_of hm rfl)
  | seqAbort _ => exact State.Sound.of_execSeqAbort h (Field.sub_of hm rfl)
  | enableOn => exact State.Sound.of_execEnableOn h (Field.sub_of hm rfl)
  | enableOff => exact State.Sound.of_execEnableOff h (Field.sub_of hm rfl)
  | waitPgHigh => exact State.Sound.of_execWaitPgHigh h (Field.sub_of hm rfl)
  | waitPgLow => exact State.Sound.of_execWaitPgLow h (Field.sub_of hm rfl)
  | delay => exact State.Sound.of_execDelay h (Field.sub_of hm rfl)
  | delayExpiry => exact State.Sound.of_execDelayExpiry h (Field.sub_of hm rfl)
  | requirePgHigh => exact State.Sound.of_execRequirePgHigh h (Field.sub_of hm rfl)
  | requirePgLow => exact State.Sound.of_execRequirePgLow h (Field.sub_of hm rfl)
  | seqEnd => exact State.Sound.of_execSeqEnd h (Field.sub_of hm rfl)
  | waitTimeout => exact State.Sound.of_execWaitTimeout h (Field.sub_of hm rfl)
  | pgChange _ _ _ => exact State.Sound.of_execPgChange h (Field.sub_of hm rfl)
  | thermalSample _ _ => exact State.Sound.of_execThermalSample h (Field.sub_of hm rfl)
  | tripClear _ => exact State.Sound.of_execTripClear h (Field.sub_of hm rfl)
  | fanTachUpdate _ _ _ => exact State.Sound.of_execFanTachUpdate h (Field.sub_of hm rfl)
  | vsupSample _ _ => exact State.Sound.of_execVsupSample h (Field.sub_of hm rfl)
  | batteryPoll _ _ => exact State.Sound.of_execBatteryPoll h (Field.sub_of hm rfl)
  | platPendingClear _ => exact State.Sound.of_execPlatPendingClear h (Field.sub_of hm rfl)
  | powerCmd _ => exact State.Sound.of_execPowerCmd h (Field.sub_of hm rfl)
  | standbyToReady _ _ _ => exact State.Sound.of_execStandbyToReady h (Field.sub_of hm rfl)
  | readyToRun _ _ _ => exact State.Sound.of_execReadyToRun h (Field.sub_of hm rfl)
  | runToReady _ => exact State.Sound.of_execRunToReady h (Field.sub_of hm rfl)
  | readyToStandby _ => exact State.Sound.of_execReadyToStandby h (Field.sub_of hm rfl)
  | standbyToDormant _ => exact State.Sound.of_execStandbyToDormant h (Field.sub_of hm rfl)
  | dormantToStandby _ => exact State.Sound.of_execDormantToStandby h (Field.sub_of hm rfl)
  | wakeN _ _ => exact State.Sound.of_execWakeN h (Field.sub_of hm rfl)
  | canWakeFrame _ _ => exact State.Sound.of_execCanWakeFrame h (Field.sub_of hm rfl)
  | powerOnReset =>
    have := hn rfl
    subst this
    exact State.Sound.of_execPowerOnReset h hm
  | resetN _ _ => exact State.Sound.of_execResetN h (Field.sub_of hm rfl)
  | warmReset _ => exact State.Sound.of_execWarmReset h (Field.sub_of hm rfl)
  | ctlReset _ => exact State.Sound.of_execCtlReset h (Field.sub_of hm rfl)
  | controllerWatchdog _ => exact State.Sound.of_execControllerWatchdog h (Field.sub_of hm rfl)
  | bootComplete _ _ _ _ => exact State.Sound.of_execBootComplete h (Field.sub_of hm rfl)
  | debugResponse _ => exact State.Sound.of_execDebugResponse h (Field.sub_of hm rfl)
  | debugLock _ => exact State.Sound.of_execDebugLock h (Field.sub_of hm rfl)
  | touchRefMapWrite _ => exact State.Sound.of_execTouchRefMapWrite h (Field.sub_of hm rfl)
  | persistClear _ => exact State.Sound.of_execPersistClear h (Field.sub_of hm rfl)
  | securityVersionRaise _ => exact State.Sound.of_execSecurityVersionRaise h (Field.sub_of hm rfl)
  | pinEventUnqualified _ _ => exact State.Sound.of_execPinEventUnqualified h (Field.sub_of hm rfl)
  | audioWordClockEdge _ _ _ _ _ => exact State.Sound.of_execAudioWordClockEdge h (Field.sub_of hm rfl)
  | camTrigPulseEnd _ => exact State.Sound.of_execCamTrigPulseEnd h (Field.sub_of hm rfl)
  | pcieLinkUp _ _ _ => exact State.Sound.of_execPcieLinkUp h (Field.sub_of hm rfl)
  | memorySpaceEnable _ _ => exact State.Sound.of_execMemorySpaceEnable h (Field.sub_of hm rfl)
  | busMasterEnableSet _ => exact State.Sound.of_execBusMasterEnableSet h (Field.sub_of hm rfl)
  | msixVectorUnmask _ _ => exact State.Sound.of_execMsixVectorUnmask h (Field.sub_of hm rfl)
  | pcieFunctionReady _ => exact State.Sound.of_execPcieFunctionReady h (Field.sub_of hm rfl)
  | clockFaultCleared _ _ => exact State.Sound.of_execClockFaultCleared h (Field.sub_of hm rfl)
  | voltageFaultCleared _ _ => exact State.Sound.of_execVoltageFaultCleared h (Field.sub_of hm rfl)

end Sys2Proof.Machine
end

