-- ==== Sys2Proof/Laws/State.lean ====
section
/-! SUPPORT. Laws/State: what each update of the state leaves alone, and what it gives the part it changes: one lemma
for each update, true by rfl (simp uses it field by field); the parts that a command outside them leaves; reads of
the register file and of units after an update. -/

namespace Sys2Proof.Machine

@[simp] theorem State.setVal_frame (s : State) (a : Nat) (w : Val) :
    (s.setVal a w).part = s.part ∧ (s.setVal a w).pending = s.pending ∧ (s.setVal a w).staged = s.staged ∧
      (s.setVal a w).nvm = s.nvm ∧ (s.setVal a w).tick = s.tick ∧ (s.setVal a w).own = s.own ∧
      (s.setVal a w).ports = s.ports ∧ (s.setVal a w).ingest = s.ingest ∧ (s.setVal a w).arrs = s.arrs ∧
      (s.setVal a w).queues = s.queues ∧ (s.setVal a w).mem = s.mem ∧ (s.setVal a w).fabric = s.fabric ∧
      (s.setVal a w).host = s.host ∧ (s.setVal a w).bin = s.bin ∧ (s.setVal a w).log = s.log ∧
      (s.setVal a w).keys = s.keys ∧ (s.setVal a w).panels = s.panels ∧ (s.setVal a w).plat = s.plat ∧
      (s.setVal a w).power = s.power ∧ (s.setVal a w).sent = s.sent ∧ (s.setVal a w).free = s.free := by
  refine ⟨?_, ?_, ?_, ?_, ?_, ?_, ?_, ?_, ?_, ?_, ?_, ?_, ?_, ?_, ?_, ?_, ?_, ?_, ?_, ?_, ?_⟩ <;> rfl

@[simp] theorem State.setVal_dict (s : State) (a : Nat) (w : Val) : (s.setVal a w).dict = s.dict.set s.part.variant a w := rfl

@[simp] theorem State.setNum_frame (s : State) (a x : Nat) :
    (s.setNum a x).part = s.part ∧ (s.setNum a x).pending = s.pending ∧ (s.setNum a x).staged = s.staged ∧
      (s.setNum a x).nvm = s.nvm ∧ (s.setNum a x).tick = s.tick ∧ (s.setNum a x).own = s.own ∧
      (s.setNum a x).ports = s.ports ∧ (s.setNum a x).ingest = s.ingest ∧ (s.setNum a x).arrs = s.arrs ∧
      (s.setNum a x).queues = s.queues ∧ (s.setNum a x).mem = s.mem ∧ (s.setNum a x).fabric = s.fabric ∧
      (s.setNum a x).host = s.host ∧ (s.setNum a x).bin = s.bin ∧ (s.setNum a x).log = s.log ∧
      (s.setNum a x).keys = s.keys ∧ (s.setNum a x).panels = s.panels ∧ (s.setNum a x).plat = s.plat ∧
      (s.setNum a x).power = s.power ∧ (s.setNum a x).sent = s.sent ∧ (s.setNum a x).free = s.free := by
  refine ⟨?_, ?_, ?_, ?_, ?_, ?_, ?_, ?_, ?_, ?_, ?_, ?_, ?_, ?_, ?_, ?_, ?_, ?_, ?_, ?_, ?_⟩ <;> rfl

@[simp] theorem State.setNum_dict (s : State) (a x : Nat) : (s.setNum a x).dict = s.dict.set s.part.variant a (.num x) := rfl

@[simp] theorem State.writeMem_frame (s : State) (a : Nat) (b : Bytes) :
    (s.writeMem a b).part = s.part ∧ (s.writeMem a b).pending = s.pending ∧ (s.writeMem a b).dict = s.dict ∧
      (s.writeMem a b).staged = s.staged ∧ (s.writeMem a b).nvm = s.nvm ∧ (s.writeMem a b).tick = s.tick ∧
      (s.writeMem a b).own = s.own ∧ (s.writeMem a b).ports = s.ports ∧ (s.writeMem a b).ingest = s.ingest ∧
      (s.writeMem a b).arrs = s.arrs ∧ (s.writeMem a b).queues = s.queues ∧ (s.writeMem a b).fabric = s.fabric ∧
      (s.writeMem a b).host = s.host ∧ (s.writeMem a b).bin = s.bin ∧ (s.writeMem a b).log = s.log ∧
      (s.writeMem a b).keys = s.keys ∧ (s.writeMem a b).panels = s.panels ∧ (s.writeMem a b).plat = s.plat ∧
      (s.writeMem a b).power = s.power ∧ (s.writeMem a b).sent = s.sent ∧ (s.writeMem a b).free = s.free := by
  refine ⟨?_, ?_, ?_, ?_, ?_, ?_, ?_, ?_, ?_, ?_, ?_, ?_, ?_, ?_, ?_, ?_, ?_, ?_, ?_, ?_, ?_⟩ <;> rfl

@[simp] theorem State.writeMem_mem (s : State) (a : Nat) (b : Bytes) : (s.writeMem a b).mem = { s.mem with cells := s.mem.cells.write a b } := rfl

@[simp] theorem State.setSlot_frame (s : State) (n : Nat) (f : Slot → Slot) :
    (s.setSlot n f).part = s.part ∧ (s.setSlot n f).pending = s.pending ∧ (s.setSlot n f).dict = s.dict ∧
      (s.setSlot n f).staged = s.staged ∧ (s.setSlot n f).nvm = s.nvm ∧ (s.setSlot n f).tick = s.tick ∧
      (s.setSlot n f).own = s.own ∧ (s.setSlot n f).ports = s.ports ∧ (s.setSlot n f).arrs = s.arrs ∧
      (s.setSlot n f).queues = s.queues ∧ (s.setSlot n f).mem = s.mem ∧ (s.setSlot n f).fabric = s.fabric ∧
      (s.setSlot n f).host = s.host ∧ (s.setSlot n f).bin = s.bin ∧ (s.setSlot n f).log = s.log ∧
      (s.setSlot n f).keys = s.keys ∧ (s.setSlot n f).panels = s.panels ∧ (s.setSlot n f).plat = s.plat ∧
      (s.setSlot n f).power = s.power ∧ (s.setSlot n f).sent = s.sent ∧ (s.setSlot n f).free = s.free := by
  refine ⟨?_, ?_, ?_, ?_, ?_, ?_, ?_, ?_, ?_, ?_, ?_, ?_, ?_, ?_, ?_, ?_, ?_, ?_, ?_, ?_, ?_⟩ <;> rfl

@[simp] theorem State.setSlot_ingest (s : State) (n : Nat) (f : Slot → Slot) : (s.setSlot n f).ingest = { s.ingest with slots := modifyAt s.ingest.slots n f } := rfl

@[simp] theorem State.setArr_frame (s : State) (a : Nat) (f : Arr → Arr) :
    (s.setArr a f).part = s.part ∧ (s.setArr a f).pending = s.pending ∧ (s.setArr a f).dict = s.dict ∧
      (s.setArr a f).staged = s.staged ∧ (s.setArr a f).nvm = s.nvm ∧ (s.setArr a f).tick = s.tick ∧
      (s.setArr a f).own = s.own ∧ (s.setArr a f).ports = s.ports ∧ (s.setArr a f).ingest = s.ingest ∧
      (s.setArr a f).queues = s.queues ∧ (s.setArr a f).mem = s.mem ∧ (s.setArr a f).fabric = s.fabric ∧
      (s.setArr a f).host = s.host ∧ (s.setArr a f).bin = s.bin ∧ (s.setArr a f).log = s.log ∧
      (s.setArr a f).keys = s.keys ∧ (s.setArr a f).panels = s.panels ∧ (s.setArr a f).plat = s.plat ∧
      (s.setArr a f).power = s.power ∧ (s.setArr a f).sent = s.sent ∧ (s.setArr a f).free = s.free := by
  refine ⟨?_, ?_, ?_, ?_, ?_, ?_, ?_, ?_, ?_, ?_, ?_, ?_, ?_, ?_, ?_, ?_, ?_, ?_, ?_, ?_, ?_⟩ <;> rfl

@[simp] theorem State.setArr_arrs (s : State) (a : Nat) (f : Arr → Arr) : (s.setArr a f).arrs = modifyAt s.arrs a f := rfl

@[simp] theorem State.setQueue_frame (s : State) (q : Nat) (f : Queue → Queue) :
    (s.setQueue q f).part = s.part ∧ (s.setQueue q f).pending = s.pending ∧ (s.setQueue q f).dict = s.dict ∧
      (s.setQueue q f).staged = s.staged ∧ (s.setQueue q f).nvm = s.nvm ∧ (s.setQueue q f).tick = s.tick ∧
      (s.setQueue q f).own = s.own ∧ (s.setQueue q f).ports = s.ports ∧ (s.setQueue q f).ingest = s.ingest ∧
      (s.setQueue q f).arrs = s.arrs ∧ (s.setQueue q f).mem = s.mem ∧ (s.setQueue q f).fabric = s.fabric ∧
      (s.setQueue q f).host = s.host ∧ (s.setQueue q f).bin = s.bin ∧ (s.setQueue q f).log = s.log ∧
      (s.setQueue q f).keys = s.keys ∧ (s.setQueue q f).panels = s.panels ∧ (s.setQueue q f).plat = s.plat ∧
      (s.setQueue q f).power = s.power ∧ (s.setQueue q f).sent = s.sent ∧ (s.setQueue q f).free = s.free := by
  refine ⟨?_, ?_, ?_, ?_, ?_, ?_, ?_, ?_, ?_, ?_, ?_, ?_, ?_, ?_, ?_, ?_, ?_, ?_, ?_, ?_, ?_⟩ <;> rfl

@[simp] theorem State.setQueue_queues (s : State) (q : Nat) (f : Queue → Queue) : (s.setQueue q f).queues = modifyAt s.queues q f := rfl

@[simp] theorem State.setPanel_frame (s : State) (p : Nat) (f : Panel → Panel) :
    (s.setPanel p f).part = s.part ∧ (s.setPanel p f).pending = s.pending ∧ (s.setPanel p f).dict = s.dict ∧
      (s.setPanel p f).staged = s.staged ∧ (s.setPanel p f).nvm = s.nvm ∧ (s.setPanel p f).tick = s.tick ∧
      (s.setPanel p f).own = s.own ∧ (s.setPanel p f).ports = s.ports ∧ (s.setPanel p f).ingest = s.ingest ∧
      (s.setPanel p f).arrs = s.arrs ∧ (s.setPanel p f).queues = s.queues ∧ (s.setPanel p f).mem = s.mem ∧
      (s.setPanel p f).fabric = s.fabric ∧ (s.setPanel p f).host = s.host ∧ (s.setPanel p f).bin = s.bin ∧
      (s.setPanel p f).log = s.log ∧ (s.setPanel p f).keys = s.keys ∧ (s.setPanel p f).plat = s.plat ∧
      (s.setPanel p f).power = s.power ∧ (s.setPanel p f).sent = s.sent ∧ (s.setPanel p f).free = s.free := by
  refine ⟨?_, ?_, ?_, ?_, ?_, ?_, ?_, ?_, ?_, ?_, ?_, ?_, ?_, ?_, ?_, ?_, ?_, ?_, ?_, ?_, ?_⟩ <;> rfl

@[simp] theorem State.setPanel_panels (s : State) (p : Nat) (f : Panel → Panel) : (s.setPanel p f).panels = modifyAt s.panels p f := rfl

@[simp] theorem State.setPort_frame (s : State) (p : Port) (f : PortState → PortState) :
    (s.setPort p f).part = s.part ∧ (s.setPort p f).pending = s.pending ∧ (s.setPort p f).dict = s.dict ∧
      (s.setPort p f).staged = s.staged ∧ (s.setPort p f).nvm = s.nvm ∧ (s.setPort p f).tick = s.tick ∧
      (s.setPort p f).own = s.own ∧ (s.setPort p f).ingest = s.ingest ∧ (s.setPort p f).arrs = s.arrs ∧
      (s.setPort p f).queues = s.queues ∧ (s.setPort p f).mem = s.mem ∧ (s.setPort p f).fabric = s.fabric ∧
      (s.setPort p f).host = s.host ∧ (s.setPort p f).bin = s.bin ∧ (s.setPort p f).log = s.log ∧
      (s.setPort p f).keys = s.keys ∧ (s.setPort p f).panels = s.panels ∧ (s.setPort p f).plat = s.plat ∧
      (s.setPort p f).power = s.power ∧ (s.setPort p f).sent = s.sent ∧ (s.setPort p f).free = s.free := by
  refine ⟨?_, ?_, ?_, ?_, ?_, ?_, ?_, ?_, ?_, ?_, ?_, ?_, ?_, ?_, ?_, ?_, ?_, ?_, ?_, ?_, ?_⟩ <;> rfl

@[simp] theorem State.setPort_ports (s : State) (p : Port) (f : PortState → PortState) : (s.setPort p f).ports = modifyAt s.ports p.idx f := rfl

@[simp] theorem State.emit_frame (s : State) (x : Sent) :
    (s.emit x).part = s.part ∧ (s.emit x).pending = s.pending ∧ (s.emit x).dict = s.dict ∧
      (s.emit x).staged = s.staged ∧ (s.emit x).nvm = s.nvm ∧ (s.emit x).tick = s.tick ∧ (s.emit x).own = s.own ∧
      (s.emit x).ports = s.ports ∧ (s.emit x).ingest = s.ingest ∧ (s.emit x).arrs = s.arrs ∧
      (s.emit x).queues = s.queues ∧ (s.emit x).mem = s.mem ∧ (s.emit x).fabric = s.fabric ∧
      (s.emit x).host = s.host ∧ (s.emit x).bin = s.bin ∧ (s.emit x).log = s.log ∧ (s.emit x).keys = s.keys ∧
      (s.emit x).panels = s.panels ∧ (s.emit x).plat = s.plat ∧ (s.emit x).power = s.power ∧ (s.emit x).free = s.free := by
  refine ⟨?_, ?_, ?_, ?_, ?_, ?_, ?_, ?_, ?_, ?_, ?_, ?_, ?_, ?_, ?_, ?_, ?_, ?_, ?_, ?_, ?_⟩ <;> rfl

@[simp] theorem State.emit_sent (s : State) (x : Sent) : (s.emit x).sent = s.sent ++ [x] := rfl

@[simp] theorem State.setMailbox_frame (s : State) (i : Nat) (f : Mailbox → Mailbox) :
    (s.setMailbox i f).part = s.part ∧ (s.setMailbox i f).pending = s.pending ∧ (s.setMailbox i f).dict = s.dict ∧
      (s.setMailbox i f).staged = s.staged ∧ (s.setMailbox i f).nvm = s.nvm ∧ (s.setMailbox i f).tick = s.tick ∧
      (s.setMailbox i f).own = s.own ∧ (s.setMailbox i f).ports = s.ports ∧ (s.setMailbox i f).ingest = s.ingest ∧
      (s.setMailbox i f).arrs = s.arrs ∧ (s.setMailbox i f).queues = s.queues ∧ (s.setMailbox i f).mem = s.mem ∧
      (s.setMailbox i f).fabric = s.fabric ∧ (s.setMailbox i f).bin = s.bin ∧ (s.setMailbox i f).log = s.log ∧
      (s.setMailbox i f).keys = s.keys ∧ (s.setMailbox i f).panels = s.panels ∧ (s.setMailbox i f).plat = s.plat ∧
      (s.setMailbox i f).power = s.power ∧ (s.setMailbox i f).sent = s.sent ∧ (s.setMailbox i f).free = s.free := by
  refine ⟨?_, ?_, ?_, ?_, ?_, ?_, ?_, ?_, ?_, ?_, ?_, ?_, ?_, ?_, ?_, ?_, ?_, ?_, ?_, ?_, ?_⟩ <;> rfl

@[simp] theorem State.setMailbox_host (s : State) (i : Nat) (f : Mailbox → Mailbox) : (s.setMailbox i f).host = { s.host with mailboxes := modifyAt s.host.mailboxes i f } := rfl

@[simp] theorem State.setTick_frame (s : State) (f : Tick → Tick) :
    (s.setTick f).part = s.part ∧ (s.setTick f).pending = s.pending ∧ (s.setTick f).dict = s.dict ∧
      (s.setTick f).staged = s.staged ∧ (s.setTick f).nvm = s.nvm ∧ (s.setTick f).own = s.own ∧
      (s.setTick f).ports = s.ports ∧ (s.setTick f).ingest = s.ingest ∧ (s.setTick f).arrs = s.arrs ∧
      (s.setTick f).queues = s.queues ∧ (s.setTick f).mem = s.mem ∧ (s.setTick f).fabric = s.fabric ∧
      (s.setTick f).host = s.host ∧ (s.setTick f).bin = s.bin ∧ (s.setTick f).log = s.log ∧
      (s.setTick f).keys = s.keys ∧ (s.setTick f).panels = s.panels ∧ (s.setTick f).plat = s.plat ∧
      (s.setTick f).power = s.power ∧ (s.setTick f).sent = s.sent ∧ (s.setTick f).free = s.free := by
  refine ⟨?_, ?_, ?_, ?_, ?_, ?_, ?_, ?_, ?_, ?_, ?_, ?_, ?_, ?_, ?_, ?_, ?_, ?_, ?_, ?_, ?_⟩ <;> rfl

@[simp] theorem State.setTick_tick (s : State) (f : Tick → Tick) : (s.setTick f).tick = f s.tick := rfl

@[simp] theorem State.setOwn_frame (s : State) (f : Own → Own) :
    (s.setOwn f).part = s.part ∧ (s.setOwn f).pending = s.pending ∧ (s.setOwn f).dict = s.dict ∧
      (s.setOwn f).staged = s.staged ∧ (s.setOwn f).nvm = s.nvm ∧ (s.setOwn f).tick = s.tick ∧
      (s.setOwn f).ports = s.ports ∧ (s.setOwn f).ingest = s.ingest ∧ (s.setOwn f).arrs = s.arrs ∧
      (s.setOwn f).queues = s.queues ∧ (s.setOwn f).mem = s.mem ∧ (s.setOwn f).fabric = s.fabric ∧
      (s.setOwn f).host = s.host ∧ (s.setOwn f).bin = s.bin ∧ (s.setOwn f).log = s.log ∧ (s.setOwn f).keys = s.keys ∧
      (s.setOwn f).panels = s.panels ∧ (s.setOwn f).plat = s.plat ∧ (s.setOwn f).power = s.power ∧
      (s.setOwn f).sent = s.sent ∧ (s.setOwn f).free = s.free := by
  refine ⟨?_, ?_, ?_, ?_, ?_, ?_, ?_, ?_, ?_, ?_, ?_, ?_, ?_, ?_, ?_, ?_, ?_, ?_, ?_, ?_, ?_⟩ <;> rfl

@[simp] theorem State.setOwn_own (s : State) (f : Own → Own) : (s.setOwn f).own = f s.own := rfl

@[simp] theorem State.setLease_frame (s : State) :
    (s.setLease).part = s.part ∧ (s.setLease).pending = s.pending ∧ (s.setLease).dict = s.dict ∧
      (s.setLease).staged = s.staged ∧ (s.setLease).nvm = s.nvm ∧ (s.setLease).tick = s.tick ∧
      (s.setLease).ports = s.ports ∧ (s.setLease).ingest = s.ingest ∧ (s.setLease).arrs = s.arrs ∧
      (s.setLease).queues = s.queues ∧ (s.setLease).mem = s.mem ∧ (s.setLease).fabric = s.fabric ∧
      (s.setLease).host = s.host ∧ (s.setLease).bin = s.bin ∧ (s.setLease).log = s.log ∧ (s.setLease).keys = s.keys ∧
      (s.setLease).panels = s.panels ∧ (s.setLease).plat = s.plat ∧ (s.setLease).power = s.power ∧
      (s.setLease).sent = s.sent ∧ (s.setLease).free = s.free := by
  refine ⟨?_, ?_, ?_, ?_, ?_, ?_, ?_, ?_, ?_, ?_, ?_, ?_, ?_, ?_, ?_, ?_, ?_, ?_, ?_, ?_, ?_⟩ <;> rfl

@[simp] theorem State.setLease_own (s : State) : (s.setLease).own = { s.own with lease := s.numAt Adr.leaseTicks } := rfl

@[simp] theorem State.setHost_frame (s : State) (f : HostLink → HostLink) :
    (s.setHost f).part = s.part ∧ (s.setHost f).pending = s.pending ∧ (s.setHost f).dict = s.dict ∧
      (s.setHost f).staged = s.staged ∧ (s.setHost f).nvm = s.nvm ∧ (s.setHost f).tick = s.tick ∧
      (s.setHost f).own = s.own ∧ (s.setHost f).ports = s.ports ∧ (s.setHost f).ingest = s.ingest ∧
      (s.setHost f).arrs = s.arrs ∧ (s.setHost f).queues = s.queues ∧ (s.setHost f).mem = s.mem ∧
      (s.setHost f).fabric = s.fabric ∧ (s.setHost f).bin = s.bin ∧ (s.setHost f).log = s.log ∧
      (s.setHost f).keys = s.keys ∧ (s.setHost f).panels = s.panels ∧ (s.setHost f).plat = s.plat ∧
      (s.setHost f).power = s.power ∧ (s.setHost f).sent = s.sent ∧ (s.setHost f).free = s.free := by
  refine ⟨?_, ?_, ?_, ?_, ?_, ?_, ?_, ?_, ?_, ?_, ?_, ?_, ?_, ?_, ?_, ?_, ?_, ?_, ?_, ?_, ?_⟩ <;> rfl

@[simp] theorem State.setHost_host (s : State) (f : HostLink → HostLink) : (s.setHost f).host = f s.host := rfl

@[simp] theorem State.setRing_frame (s : State) (f : ControlRing → ControlRing) :
    (s.setRing f).part = s.part ∧ (s.setRing f).pending = s.pending ∧ (s.setRing f).dict = s.dict ∧
      (s.setRing f).staged = s.staged ∧ (s.setRing f).nvm = s.nvm ∧ (s.setRing f).tick = s.tick ∧
      (s.setRing f).own = s.own ∧ (s.setRing f).ports = s.ports ∧ (s.setRing f).ingest = s.ingest ∧
      (s.setRing f).arrs = s.arrs ∧ (s.setRing f).queues = s.queues ∧ (s.setRing f).mem = s.mem ∧
      (s.setRing f).fabric = s.fabric ∧ (s.setRing f).bin = s.bin ∧ (s.setRing f).log = s.log ∧
      (s.setRing f).keys = s.keys ∧ (s.setRing f).panels = s.panels ∧ (s.setRing f).plat = s.plat ∧
      (s.setRing f).power = s.power ∧ (s.setRing f).sent = s.sent ∧ (s.setRing f).free = s.free := by
  refine ⟨?_, ?_, ?_, ?_, ?_, ?_, ?_, ?_, ?_, ?_, ?_, ?_, ?_, ?_, ?_, ?_, ?_, ?_, ?_, ?_, ?_⟩ <;> rfl

@[simp] theorem State.setRing_host (s : State) (f : ControlRing → ControlRing) : (s.setRing f).host = { s.host with ring := f s.host.ring } := rfl

@[simp] theorem State.setKeys_frame (s : State) (f : Keys → Keys) :
    (s.setKeys f).part = s.part ∧ (s.setKeys f).pending = s.pending ∧ (s.setKeys f).dict = s.dict ∧
      (s.setKeys f).staged = s.staged ∧ (s.setKeys f).nvm = s.nvm ∧ (s.setKeys f).tick = s.tick ∧
      (s.setKeys f).own = s.own ∧ (s.setKeys f).ports = s.ports ∧ (s.setKeys f).ingest = s.ingest ∧
      (s.setKeys f).arrs = s.arrs ∧ (s.setKeys f).queues = s.queues ∧ (s.setKeys f).mem = s.mem ∧
      (s.setKeys f).fabric = s.fabric ∧ (s.setKeys f).host = s.host ∧ (s.setKeys f).bin = s.bin ∧
      (s.setKeys f).log = s.log ∧ (s.setKeys f).panels = s.panels ∧ (s.setKeys f).plat = s.plat ∧
      (s.setKeys f).power = s.power ∧ (s.setKeys f).sent = s.sent ∧ (s.setKeys f).free = s.free := by
  refine ⟨?_, ?_, ?_, ?_, ?_, ?_, ?_, ?_, ?_, ?_, ?_, ?_, ?_, ?_, ?_, ?_, ?_, ?_, ?_, ?_, ?_⟩ <;> rfl

@[simp] theorem State.setKeys_keys (s : State) (f : Keys → Keys) : (s.setKeys f).keys = f s.keys := rfl

@[simp] theorem State.setPlat_frame (s : State) (f : Platform → Platform) :
    (s.setPlat f).part = s.part ∧ (s.setPlat f).pending = s.pending ∧ (s.setPlat f).dict = s.dict ∧
      (s.setPlat f).staged = s.staged ∧ (s.setPlat f).nvm = s.nvm ∧ (s.setPlat f).tick = s.tick ∧
      (s.setPlat f).own = s.own ∧ (s.setPlat f).ports = s.ports ∧ (s.setPlat f).ingest = s.ingest ∧
      (s.setPlat f).arrs = s.arrs ∧ (s.setPlat f).queues = s.queues ∧ (s.setPlat f).mem = s.mem ∧
      (s.setPlat f).fabric = s.fabric ∧ (s.setPlat f).host = s.host ∧ (s.setPlat f).bin = s.bin ∧
      (s.setPlat f).log = s.log ∧ (s.setPlat f).keys = s.keys ∧ (s.setPlat f).panels = s.panels ∧
      (s.setPlat f).power = s.power ∧ (s.setPlat f).sent = s.sent ∧ (s.setPlat f).free = s.free := by
  refine ⟨?_, ?_, ?_, ?_, ?_, ?_, ?_, ?_, ?_, ?_, ?_, ?_, ?_, ?_, ?_, ?_, ?_, ?_, ?_, ?_, ?_⟩ <;> rfl

@[simp] theorem State.setPlat_plat (s : State) (f : Platform → Platform) : (s.setPlat f).plat = f s.plat := rfl

@[simp] theorem State.setPower_frame (s : State) (f : PowerCtl → PowerCtl) :
    (s.setPower f).part = s.part ∧ (s.setPower f).pending = s.pending ∧ (s.setPower f).dict = s.dict ∧
      (s.setPower f).staged = s.staged ∧ (s.setPower f).nvm = s.nvm ∧ (s.setPower f).tick = s.tick ∧
      (s.setPower f).own = s.own ∧ (s.setPower f).ports = s.ports ∧ (s.setPower f).ingest = s.ingest ∧
      (s.setPower f).arrs = s.arrs ∧ (s.setPower f).queues = s.queues ∧ (s.setPower f).mem = s.mem ∧
      (s.setPower f).fabric = s.fabric ∧ (s.setPower f).host = s.host ∧ (s.setPower f).bin = s.bin ∧
      (s.setPower f).log = s.log ∧ (s.setPower f).keys = s.keys ∧ (s.setPower f).panels = s.panels ∧
      (s.setPower f).plat = s.plat ∧ (s.setPower f).sent = s.sent ∧ (s.setPower f).free = s.free := by
  refine ⟨?_, ?_, ?_, ?_, ?_, ?_, ?_, ?_, ?_, ?_, ?_, ?_, ?_, ?_, ?_, ?_, ?_, ?_, ?_, ?_, ?_⟩ <;> rfl

@[simp] theorem State.setPower_power (s : State) (f : PowerCtl → PowerCtl) : (s.setPower f).power = f s.power := rfl

@[simp] theorem State.setCtx_frame (s : State) (c : Nat) (f : Ctx → Ctx) :
    (s.setCtx c f).part = s.part ∧ (s.setCtx c f).pending = s.pending ∧ (s.setCtx c f).dict = s.dict ∧
      (s.setCtx c f).staged = s.staged ∧ (s.setCtx c f).nvm = s.nvm ∧ (s.setCtx c f).tick = s.tick ∧
      (s.setCtx c f).own = s.own ∧ (s.setCtx c f).ports = s.ports ∧ (s.setCtx c f).arrs = s.arrs ∧
      (s.setCtx c f).queues = s.queues ∧ (s.setCtx c f).mem = s.mem ∧ (s.setCtx c f).fabric = s.fabric ∧
      (s.setCtx c f).host = s.host ∧ (s.setCtx c f).bin = s.bin ∧ (s.setCtx c f).log = s.log ∧
      (s.setCtx c f).keys = s.keys ∧ (s.setCtx c f).panels = s.panels ∧ (s.setCtx c f).plat = s.plat ∧
      (s.setCtx c f).power = s.power ∧ (s.setCtx c f).sent = s.sent ∧ (s.setCtx c f).free = s.free := by
  refine ⟨?_, ?_, ?_, ?_, ?_, ?_, ?_, ?_, ?_, ?_, ?_, ?_, ?_, ?_, ?_, ?_, ?_, ?_, ?_, ?_, ?_⟩ <;> rfl

@[simp] theorem State.setNumbering_frame (s : State) (n : Numbering) :
    (s.setNumbering n).part = s.part ∧ (s.setNumbering n).pending = s.pending ∧ (s.setNumbering n).dict = s.dict ∧
      (s.setNumbering n).staged = s.staged ∧ (s.setNumbering n).nvm = s.nvm ∧ (s.setNumbering n).tick = s.tick ∧
      (s.setNumbering n).own = s.own ∧ (s.setNumbering n).ports = s.ports ∧ (s.setNumbering n).ingest = s.ingest ∧
      (s.setNumbering n).arrs = s.arrs ∧ (s.setNumbering n).queues = s.queues ∧ (s.setNumbering n).mem = s.mem ∧
      (s.setNumbering n).host = s.host ∧ (s.setNumbering n).bin = s.bin ∧ (s.setNumbering n).log = s.log ∧
      (s.setNumbering n).keys = s.keys ∧ (s.setNumbering n).panels = s.panels ∧ (s.setNumbering n).plat = s.plat ∧
      (s.setNumbering n).power = s.power ∧ (s.setNumbering n).sent = s.sent ∧ (s.setNumbering n).free = s.free := by
  refine ⟨?_, ?_, ?_, ?_, ?_, ?_, ?_, ?_, ?_, ?_, ?_, ?_, ?_, ?_, ?_, ?_, ?_, ?_, ?_, ?_, ?_⟩ <;> rfl

@[simp] theorem State.setSuppress_frame (s : State) (x : Suppress) :
    (s.setSuppress x).part = s.part ∧ (s.setSuppress x).pending = s.pending ∧ (s.setSuppress x).dict = s.dict ∧
      (s.setSuppress x).staged = s.staged ∧ (s.setSuppress x).nvm = s.nvm ∧ (s.setSuppress x).tick = s.tick ∧
      (s.setSuppress x).own = s.own ∧ (s.setSuppress x).ports = s.ports ∧ (s.setSuppress x).ingest = s.ingest ∧
      (s.setSuppress x).arrs = s.arrs ∧ (s.setSuppress x).queues = s.queues ∧ (s.setSuppress x).mem = s.mem ∧
      (s.setSuppress x).fabric = s.fabric ∧ (s.setSuppress x).host = s.host ∧ (s.setSuppress x).bin = s.bin ∧
      (s.setSuppress x).keys = s.keys ∧ (s.setSuppress x).panels = s.panels ∧ (s.setSuppress x).plat = s.plat ∧
      (s.setSuppress x).power = s.power ∧ (s.setSuppress x).sent = s.sent ∧ (s.setSuppress x).free = s.free := by
  refine ⟨?_, ?_, ?_, ?_, ?_, ?_, ?_, ?_, ?_, ?_, ?_, ?_, ?_, ?_, ?_, ?_, ?_, ?_, ?_, ?_, ?_⟩ <;> rfl

@[simp] theorem State.setEngine_frame (s : State) (e : Nat) (f : Engine → Engine) :
    (s.setEngine e f).part = s.part ∧ (s.setEngine e f).pending = s.pending ∧ (s.setEngine e f).dict = s.dict ∧
      (s.setEngine e f).staged = s.staged ∧ (s.setEngine e f).nvm = s.nvm ∧ (s.setEngine e f).tick = s.tick ∧
      (s.setEngine e f).own = s.own ∧ (s.setEngine e f).ports = s.ports ∧ (s.setEngine e f).ingest = s.ingest ∧
      (s.setEngine e f).arrs = s.arrs ∧ (s.setEngine e f).queues = s.queues ∧ (s.setEngine e f).mem = s.mem ∧
      (s.setEngine e f).fabric = s.fabric ∧ (s.setEngine e f).bin = s.bin ∧ (s.setEngine e f).log = s.log ∧
      (s.setEngine e f).keys = s.keys ∧ (s.setEngine e f).panels = s.panels ∧ (s.setEngine e f).plat = s.plat ∧
      (s.setEngine e f).power = s.power ∧ (s.setEngine e f).sent = s.sent ∧ (s.setEngine e f).free = s.free := by
  refine ⟨?_, ?_, ?_, ?_, ?_, ?_, ?_, ?_, ?_, ?_, ?_, ?_, ?_, ?_, ?_, ?_, ?_, ?_, ?_, ?_, ?_⟩ <;> rfl

@[simp] theorem State.setEncoder_frame (s : State) (e : Nat) (f : Encoder → Encoder) :
    (s.setEncoder e f).part = s.part ∧ (s.setEncoder e f).pending = s.pending ∧ (s.setEncoder e f).dict = s.dict ∧
      (s.setEncoder e f).staged = s.staged ∧ (s.setEncoder e f).nvm = s.nvm ∧ (s.setEncoder e f).tick = s.tick ∧
      (s.setEncoder e f).own = s.own ∧ (s.setEncoder e f).ports = s.ports ∧ (s.setEncoder e f).ingest = s.ingest ∧
      (s.setEncoder e f).arrs = s.arrs ∧ (s.setEncoder e f).queues = s.queues ∧ (s.setEncoder e f).mem = s.mem ∧
      (s.setEncoder e f).fabric = s.fabric ∧ (s.setEncoder e f).host = s.host ∧ (s.setEncoder e f).bin = s.bin ∧
      (s.setEncoder e f).log = s.log ∧ (s.setEncoder e f).panels = s.panels ∧ (s.setEncoder e f).plat = s.plat ∧
      (s.setEncoder e f).power = s.power ∧ (s.setEncoder e f).sent = s.sent ∧ (s.setEncoder e f).free = s.free := by
  refine ⟨?_, ?_, ?_, ?_, ?_, ?_, ?_, ?_, ?_, ?_, ?_, ?_, ?_, ?_, ?_, ?_, ?_, ?_, ?_, ?_, ?_⟩ <;> rfl

@[simp] theorem State.setChannel_frame (s : State) (c : Nat) (f : Channel → Channel) :
    (s.setChannel c f).part = s.part ∧ (s.setChannel c f).pending = s.pending ∧ (s.setChannel c f).dict = s.dict ∧
      (s.setChannel c f).staged = s.staged ∧ (s.setChannel c f).nvm = s.nvm ∧ (s.setChannel c f).tick = s.tick ∧
      (s.setChannel c f).own = s.own ∧ (s.setChannel c f).ports = s.ports ∧ (s.setChannel c f).ingest = s.ingest ∧
      (s.setChannel c f).arrs = s.arrs ∧ (s.setChannel c f).queues = s.queues ∧ (s.setChannel c f).mem = s.mem ∧
      (s.setChannel c f).fabric = s.fabric ∧ (s.setChannel c f).host = s.host ∧ (s.setChannel c f).bin = s.bin ∧
      (s.setChannel c f).log = s.log ∧ (s.setChannel c f).keys = s.keys ∧ (s.setChannel c f).panels = s.panels ∧
      (s.setChannel c f).power = s.power ∧ (s.setChannel c f).sent = s.sent ∧ (s.setChannel c f).free = s.free := by
  refine ⟨?_, ?_, ?_, ?_, ?_, ?_, ?_, ?_, ?_, ?_, ?_, ?_, ?_, ?_, ?_, ?_, ?_, ?_, ?_, ?_, ?_⟩ <;> rfl

@[simp] theorem State.setJob_frame (s : State) (q n : Nat) (f : Job → Job) :
    (s.setJob q n f).part = s.part ∧ (s.setJob q n f).pending = s.pending ∧ (s.setJob q n f).dict = s.dict ∧
      (s.setJob q n f).staged = s.staged ∧ (s.setJob q n f).nvm = s.nvm ∧ (s.setJob q n f).tick = s.tick ∧
      (s.setJob q n f).own = s.own ∧ (s.setJob q n f).ports = s.ports ∧ (s.setJob q n f).ingest = s.ingest ∧
      (s.setJob q n f).arrs = s.arrs ∧ (s.setJob q n f).mem = s.mem ∧ (s.setJob q n f).fabric = s.fabric ∧
      (s.setJob q n f).host = s.host ∧ (s.setJob q n f).bin = s.bin ∧ (s.setJob q n f).log = s.log ∧
      (s.setJob q n f).keys = s.keys ∧ (s.setJob q n f).panels = s.panels ∧ (s.setJob q n f).plat = s.plat ∧
      (s.setJob q n f).power = s.power ∧ (s.setJob q n f).sent = s.sent ∧ (s.setJob q n f).free = s.free := by
  refine ⟨?_, ?_, ?_, ?_, ?_, ?_, ?_, ?_, ?_, ?_, ?_, ?_, ?_, ?_, ?_, ?_, ?_, ?_, ?_, ?_, ?_⟩ <;> rfl

@[simp] theorem State.setFusion_frame (s : State) (i : Nat) (f : FusionSet → FusionSet) :
    (s.setFusion i f).part = s.part ∧ (s.setFusion i f).pending = s.pending ∧ (s.setFusion i f).dict = s.dict ∧
      (s.setFusion i f).staged = s.staged ∧ (s.setFusion i f).nvm = s.nvm ∧ (s.setFusion i f).tick = s.tick ∧
      (s.setFusion i f).own = s.own ∧ (s.setFusion i f).ports = s.ports ∧ (s.setFusion i f).arrs = s.arrs ∧
      (s.setFusion i f).queues = s.queues ∧ (s.setFusion i f).mem = s.mem ∧ (s.setFusion i f).fabric = s.fabric ∧
      (s.setFusion i f).host = s.host ∧ (s.setFusion i f).bin = s.bin ∧ (s.setFusion i f).log = s.log ∧
      (s.setFusion i f).keys = s.keys ∧ (s.setFusion i f).panels = s.panels ∧ (s.setFusion i f).plat = s.plat ∧
      (s.setFusion i f).power = s.power ∧ (s.setFusion i f).sent = s.sent ∧ (s.setFusion i f).free = s.free := by
  refine ⟨?_, ?_, ?_, ?_, ?_, ?_, ?_, ?_, ?_, ?_, ?_, ?_, ?_, ?_, ?_, ?_, ?_, ?_, ?_, ?_, ?_⟩ <;> rfl

@[simp] theorem State.setBuffer_frame (s : State) (n i : Nat) (f : Buffer → Buffer) :
    (s.setBuffer n i f).part = s.part ∧ (s.setBuffer n i f).pending = s.pending ∧
      (s.setBuffer n i f).dict = s.dict ∧ (s.setBuffer n i f).staged = s.staged ∧ (s.setBuffer n i f).nvm = s.nvm ∧
      (s.setBuffer n i f).tick = s.tick ∧ (s.setBuffer n i f).own = s.own ∧ (s.setBuffer n i f).ports = s.ports ∧
      (s.setBuffer n i f).arrs = s.arrs ∧ (s.setBuffer n i f).queues = s.queues ∧ (s.setBuffer n i f).mem = s.mem ∧
      (s.setBuffer n i f).fabric = s.fabric ∧ (s.setBuffer n i f).host = s.host ∧ (s.setBuffer n i f).bin = s.bin ∧
      (s.setBuffer n i f).log = s.log ∧ (s.setBuffer n i f).keys = s.keys ∧ (s.setBuffer n i f).panels = s.panels ∧
      (s.setBuffer n i f).plat = s.plat ∧ (s.setBuffer n i f).power = s.power ∧ (s.setBuffer n i f).sent = s.sent ∧
      (s.setBuffer n i f).free = s.free := by
  refine ⟨?_, ?_, ?_, ?_, ?_, ?_, ?_, ?_, ?_, ?_, ?_, ?_, ?_, ?_, ?_, ?_, ?_, ?_, ?_, ?_, ?_⟩ <;> rfl

@[simp] theorem State.setGptp_frame (s : State) (f : Gptp → Gptp) :
    (s.setGptp f).part = s.part ∧ (s.setGptp f).pending = s.pending ∧ (s.setGptp f).dict = s.dict ∧
      (s.setGptp f).staged = s.staged ∧ (s.setGptp f).nvm = s.nvm ∧ (s.setGptp f).own = s.own ∧
      (s.setGptp f).ports = s.ports ∧ (s.setGptp f).ingest = s.ingest ∧ (s.setGptp f).arrs = s.arrs ∧
      (s.setGptp f).queues = s.queues ∧ (s.setGptp f).mem = s.mem ∧ (s.setGptp f).fabric = s.fabric ∧
      (s.setGptp f).host = s.host ∧ (s.setGptp f).bin = s.bin ∧ (s.setGptp f).log = s.log ∧
      (s.setGptp f).keys = s.keys ∧ (s.setGptp f).panels = s.panels ∧ (s.setGptp f).plat = s.plat ∧
      (s.setGptp f).power = s.power ∧ (s.setGptp f).sent = s.sent ∧ (s.setGptp f).free = s.free := by
  refine ⟨?_, ?_, ?_, ?_, ?_, ?_, ?_, ?_, ?_, ?_, ?_, ?_, ?_, ?_, ?_, ?_, ?_, ?_, ?_, ?_, ?_⟩ <;> rfl

@[simp] theorem State.setGptp_tick (s : State) (f : Gptp → Gptp) : (s.setGptp f).tick = { s.tick with gptp := f s.tick.gptp } := rfl

@[simp] theorem State.hostWrite_frame (s : State) (a : Nat) (b : Bytes) :
    (s.hostWrite a b).part = s.part ∧ (s.hostWrite a b).pending = s.pending ∧ (s.hostWrite a b).dict = s.dict ∧
      (s.hostWrite a b).staged = s.staged ∧ (s.hostWrite a b).nvm = s.nvm ∧ (s.hostWrite a b).tick = s.tick ∧
      (s.hostWrite a b).own = s.own ∧ (s.hostWrite a b).ports = s.ports ∧ (s.hostWrite a b).ingest = s.ingest ∧
      (s.hostWrite a b).arrs = s.arrs ∧ (s.hostWrite a b).queues = s.queues ∧ (s.hostWrite a b).mem = s.mem ∧
      (s.hostWrite a b).fabric = s.fabric ∧ (s.hostWrite a b).host = s.host ∧ (s.hostWrite a b).bin = s.bin ∧
      (s.hostWrite a b).log = s.log ∧ (s.hostWrite a b).keys = s.keys ∧ (s.hostWrite a b).panels = s.panels ∧
      (s.hostWrite a b).plat = s.plat ∧ (s.hostWrite a b).power = s.power ∧ (s.hostWrite a b).free = s.free := by
  refine ⟨?_, ?_, ?_, ?_, ?_, ?_, ?_, ?_, ?_, ?_, ?_, ?_, ?_, ?_, ?_, ?_, ?_, ?_, ?_, ?_, ?_⟩ <;> rfl

@[simp] theorem State.hostWrite_sent (s : State) (a : Nat) (b : Bytes) : (s.hostWrite a b).sent = s.sent ++ [.hostWrite a b false false] := rfl

/-- R10: device time does not run backwards. -/
theorem State.advance_now (s : State) (t : Nat) :
    (s.advance t).tick.now = if s.dormant then s.tick.now else max s.tick.now t := by
  unfold State.advance
  cases h : s.dormant
  · by_cases k : t ≤ s.tick.now
    · simp [k]
    · simp only [k, Bool.false_or, decide_false, Bool.false_eq_true, if_false]
      omega
  · simp

@[simp] theorem State.advance_frame (s : State) (t : Nat) :
    (s.advance t).part = s.part ∧ (s.advance t).pending = s.pending ∧ (s.advance t).dict = s.dict ∧
      (s.advance t).staged = s.staged ∧ (s.advance t).nvm = s.nvm ∧ (s.advance t).own = s.own ∧
      (s.advance t).ports = s.ports ∧ (s.advance t).ingest = s.ingest ∧ (s.advance t).arrs = s.arrs ∧
      (s.advance t).queues = s.queues ∧ (s.advance t).mem = s.mem ∧ (s.advance t).fabric = s.fabric ∧
      (s.advance t).host = s.host ∧ (s.advance t).bin = s.bin ∧ (s.advance t).log = s.log ∧
      (s.advance t).keys = s.keys ∧ (s.advance t).panels = s.panels ∧ (s.advance t).plat = s.plat ∧
      (s.advance t).power = s.power ∧ (s.advance t).sent = s.sent ∧ (s.advance t).free = s.free ∧
      (s.advance t).tick.frac = s.tick.frac ∧ (s.advance t).tick.gen = s.tick.gen ∧
      (s.advance t).tick.missCount = s.tick.missCount ∧ (s.advance t).tick.tick = s.tick.tick ∧
      (s.advance t).tick.nextTick = s.tick.nextTick ∧ (s.advance t).tick.started = s.tick.started ∧
      (s.advance t).tick.startAt = s.tick.startAt ∧ (s.advance t).tick.startSearch = s.tick.startSearch ∧
      (s.advance t).tick.meridian = s.tick.meridian ∧ (s.advance t).tick.history = s.tick.history ∧
      (s.advance t).tick.next = s.tick.next ∧ (s.advance t).tick.shortest = s.tick.shortest ∧
      (s.advance t).tick.longest = s.tick.longest ∧ (s.advance t).tick.slew = s.tick.slew ∧
      (s.advance t).tick.error = s.tick.error ∧ (s.advance t).tick.status = s.tick.status ∧
      (s.advance t).tick.window = s.tick.window ∧ (s.advance t).tick.realignAt = s.tick.realignAt ∧
      (s.advance t).tick.realignTick = s.tick.realignTick ∧ (s.advance t).tick.realignFound = s.tick.realignFound ∧
      (s.advance t).tick.applied = s.tick.applied ∧ (s.advance t).tick.outcomes = s.tick.outcomes ∧
      (s.advance t).tick.faults = s.tick.faults ∧ (s.advance t).tick.framesDropped = s.tick.framesDropped ∧
      (s.advance t).tick.closing = s.tick.closing ∧ (s.advance t).tick.lastReport = s.tick.lastReport ∧
      (s.advance t).tick.camActive = s.tick.camActive ∧ (s.advance t).tick.camDone = s.tick.camDone ∧
      (s.advance t).tick.gptp = s.tick.gptp := by
  unfold State.advance
  split <;> refine ⟨?_, ?_, ?_, ?_, ?_, ?_, ?_, ?_, ?_, ?_, ?_, ?_, ?_, ?_, ?_, ?_, ?_, ?_, ?_, ?_, ?_, ?_, ?_, ?_, ?_, ?_, ?_, ?_, ?_, ?_, ?_, ?_, ?_, ?_, ?_, ?_, ?_, ?_, ?_, ?_, ?_, ?_, ?_, ?_, ?_, ?_, ?_, ?_, ?_, ?_⟩ <;> rfl

@[simp] theorem State.bumpBy_frame (s : State) (a k : Nat) :
    (s.bumpBy a k).part = s.part ∧ (s.bumpBy a k).pending = s.pending ∧ (s.bumpBy a k).staged = s.staged ∧
      (s.bumpBy a k).nvm = s.nvm ∧ (s.bumpBy a k).tick = s.tick ∧ (s.bumpBy a k).own = s.own ∧
      (s.bumpBy a k).ports = s.ports ∧ (s.bumpBy a k).ingest = s.ingest ∧ (s.bumpBy a k).arrs = s.arrs ∧
      (s.bumpBy a k).queues = s.queues ∧ (s.bumpBy a k).mem = s.mem ∧ (s.bumpBy a k).fabric = s.fabric ∧
      (s.bumpBy a k).host = s.host ∧ (s.bumpBy a k).bin = s.bin ∧ (s.bumpBy a k).log = s.log ∧
      (s.bumpBy a k).keys = s.keys ∧ (s.bumpBy a k).panels = s.panels ∧ (s.bumpBy a k).plat = s.plat ∧
      (s.bumpBy a k).power = s.power ∧ (s.bumpBy a k).sent = s.sent ∧ (s.bumpBy a k).free = s.free := by
  unfold State.bumpBy
  extract_lets x
  split <;> refine ⟨?_, ?_, ?_, ?_, ?_, ?_, ?_, ?_, ?_, ?_, ?_, ?_, ?_, ?_, ?_, ?_, ?_, ?_, ?_, ?_, ?_⟩ <;> simp

@[simp] theorem State.bump_frame (s : State) (a : Nat) :
    (s.bump a).part = s.part ∧ (s.bump a).pending = s.pending ∧ (s.bump a).staged = s.staged ∧
      (s.bump a).nvm = s.nvm ∧ (s.bump a).tick = s.tick ∧ (s.bump a).own = s.own ∧ (s.bump a).ports = s.ports ∧
      (s.bump a).ingest = s.ingest ∧ (s.bump a).arrs = s.arrs ∧ (s.bump a).queues = s.queues ∧
      (s.bump a).mem = s.mem ∧ (s.bump a).fabric = s.fabric ∧ (s.bump a).host = s.host ∧ (s.bump a).bin = s.bin ∧
      (s.bump a).log = s.log ∧ (s.bump a).keys = s.keys ∧ (s.bump a).panels = s.panels ∧ (s.bump a).plat = s.plat ∧
      (s.bump a).power = s.power ∧ (s.bump a).sent = s.sent ∧ (s.bump a).free = s.free := by
  unfold State.bump
  refine ⟨?_, ?_, ?_, ?_, ?_, ?_, ?_, ?_, ?_, ?_, ?_, ?_, ?_, ?_, ?_, ?_, ?_, ?_, ?_, ?_, ?_⟩ <;> simp

/-! ## Reads after an update -/

@[simp] theorem State.arrAt_setArr (s : State) (a : Nat) (f : Arr → Arr) (h : a < s.arrs.length) :
    (s.setArr a f).arrAt a = f (s.arrAt a) := nth_modifyAt_same _ _ h

@[simp] theorem State.queueAt_setQueue (s : State) (q : Nat) (f : Queue → Queue) (h : q < s.queues.length) :
    (s.setQueue q f).queueAt q = f (s.queueAt q) := nth_modifyAt_same _ _ h

@[simp] theorem State.slotAt_setSlot (s : State) (n : Nat) (f : Slot → Slot) (h : n < s.ingest.slots.length) :
    (s.setSlot n f).slotAt n = f (s.slotAt n) := nth_modifyAt_same _ _ h

@[simp] theorem State.panelAt_setPanel (s : State) (p : Nat) (f : Panel → Panel) (h : p < s.panels.length) :
    (s.setPanel p f).panelAt p = f (s.panelAt p) := nth_modifyAt_same _ _ h

@[simp] theorem State.mailboxAt_setMailbox (s : State) (i : Nat) (f : Mailbox → Mailbox)
    (h : i < s.host.mailboxes.length) : (s.setMailbox i f).mailboxAt i = f (s.mailboxAt i) := nth_modifyAt_same _ _ h

@[simp] theorem State.portAt_setPort (s : State) (p : Port) (f : PortState → PortState)
    (h : p.idx < s.ports.length) : (s.setPort p f).portAt p = f (s.portAt p) := nth_modifyAt_same _ _ h

theorem State.portAt_setPort_other (s : State) (p q : Port) (f : PortState → PortState) (h : p.idx ≠ q.idx) :
    (s.setPort p f).portAt q = s.portAt q := nth_modifyAt_other _ _ (Ne.symm h)

/-! ## The parts outside those that a command may touch -/

theorem State.Within.part {m : List Field} {s t : State} (h : State.Within m s t)
    (hm : m.contains .part = false) : t.part = s.part := (State.within_iff.1 h .part hm).symm

theorem State.Within.pending {m : List Field} {s t : State} (h : State.Within m s t)
    (hm : m.contains .pending = false) : t.pending = s.pending := (State.within_iff.1 h .pending hm).symm

theorem State.Within.dict {m : List Field} {s t : State} (h : State.Within m s t)
    (hm : m.contains .dict = false) : t.dict = s.dict := (State.within_iff.1 h .dict hm).symm

theorem State.Within.staged {m : List Field} {s t : State} (h : State.Within m s t)
    (hm : m.contains .staged = false) : t.staged = s.staged := (State.within_iff.1 h .staged hm).symm

theorem State.Within.nvm {m : List Field} {s t : State} (h : State.Within m s t)
    (hm : m.contains .nvm = false) : t.nvm = s.nvm := (State.within_iff.1 h .nvm hm).symm

theorem State.Within.own {m : List Field} {s t : State} (h : State.Within m s t)
    (hm : m.contains .own = false) : t.own = s.own := (State.within_iff.1 h .own hm).symm

theorem State.Within.ports {m : List Field} {s t : State} (h : State.Within m s t)
    (hm : m.contains .ports = false) : t.ports = s.ports := (State.within_iff.1 h .ports hm).symm

theorem State.Within.ingest {m : List Field} {s t : State} (h : State.Within m s t)
    (hm : m.contains .ingest = false) : t.ingest = s.ingest := (State.within_iff.1 h .ingest hm).symm

theorem State.Within.arrs {m : List Field} {s t : State} (h : State.Within m s t)
    (hm : m.contains .arrs = false) : t.arrs = s.arrs := (State.within_iff.1 h .arrs hm).symm

theorem State.Within.queues {m : List Field} {s t : State} (h : State.Within m s t)
    (hm : m.contains .queues = false) : t.queues = s.queues := (State.within_iff.1 h .queues hm).symm

theorem State.Within.mem {m : List Field} {s t : State} (h : State.Within m s t)
    (hm : m.contains .mem = false) : t.mem = s.mem := (State.within_iff.1 h .mem hm).symm

theorem State.Within.fabric {m : List Field} {s t : State} (h : State.Within m s t)
    (hm : m.contains .fabric = false) : t.fabric = s.fabric := (State.within_iff.1 h .fabric hm).symm

theorem State.Within.host {m : List Field} {s t : State} (h : State.Within m s t)
    (hm : m.contains .host = false) : t.host = s.host := (State.within_iff.1 h .host hm).symm

theorem State.Within.bin {m : List Field} {s t : State} (h : State.Within m s t)
    (hm : m.contains .bin = false) : t.bin = s.bin := (State.within_iff.1 h .bin hm).symm

theorem State.Within.log {m : List Field} {s t : State} (h : State.Within m s t)
    (hm : m.contains .log = false) : t.log = s.log := (State.within_iff.1 h .log hm).symm

theorem State.Within.keys {m : List Field} {s t : State} (h : State.Within m s t)
    (hm : m.contains .keys = false) : t.keys = s.keys := (State.within_iff.1 h .keys hm).symm

theorem State.Within.panels {m : List Field} {s t : State} (h : State.Within m s t)
    (hm : m.contains .panels = false) : t.panels = s.panels := (State.within_iff.1 h .panels hm).symm

theorem State.Within.plat {m : List Field} {s t : State} (h : State.Within m s t)
    (hm : m.contains .plat = false) : t.plat = s.plat := (State.within_iff.1 h .plat hm).symm

theorem State.Within.power {m : List Field} {s t : State} (h : State.Within m s t)
    (hm : m.contains .power = false) : t.power = s.power := (State.within_iff.1 h .power hm).symm

theorem State.Within.sent {m : List Field} {s t : State} (h : State.Within m s t)
    (hm : m.contains .sent = false) : t.sent = s.sent := (State.within_iff.1 h .sent hm).symm

theorem State.Within.free {m : List Field} {s t : State} (h : State.Within m s t)
    (hm : m.contains .free = false) : t.free = s.free := (State.within_iff.1 h .free hm).symm

/-- The tick generator but for device time and the counts of the tick. -/
theorem State.Within.tick {m : List Field} {s t : State} (h : State.Within m s t) (hm : m.contains .tick = false) :
    t.tick = Tick.patch [.clock, .tally] s.tick t.tick := (State.within_iff.1 h .tick hm).symm

/-- Device time. -/
theorem State.Within.clock {m : List Field} {s t : State} (h : State.Within m s t) (hm : m.contains .clock = false) :
    t.tick.now = s.tick.now ∧ t.tick.frac = s.tick.frac :=
  ⟨(State.within_iff.1 h .clock hm).1.symm, (State.within_iff.1 h .clock hm).2.symm⟩

/-- The counts of the tick. -/
theorem State.Within.tally {m : List Field} {s t : State} (h : State.Within m s t) (hm : m.contains .tally = false) :
    t.tick.outcomes = s.tick.outcomes ∧ t.tick.faults = s.tick.faults ∧
      t.tick.framesDropped = s.tick.framesDropped ∧ t.tick.closing = s.tick.closing := by
  obtain ⟨k1, k2, k3, k4⟩ := State.within_iff.1 h .tally hm
  exact ⟨k1.symm, k2.symm, k3.symm, k4.symm⟩

/-! ## Time that passes for running jobs -/

theorem State.chargeAll_within (s : State) : State.Within [.dict, .arrs, .queues] s s.chargeAll :=
  (State.Sound.chargeAll (State.Sound.refl _ s) rfl).within

/-- R261: the guard steps that end by `t` touch device time and what a fault touches. -/
theorem State.settleGuards_within (s : State) (t k : Nat) :
    State.Within [.dict, .clock, .tally, .arrs, .queues, .mem, .bin, .log] s (State.settleGuards t k s) :=
  (State.Sound.settleGuards (State.Sound.refl _ s) rfl).within

/-- R261: a guard step that has ended leaves device time within the time reached, and no fraction of a ns. -/
theorem State.settleGuards_now (t k : Nat) (s : State) :
    (State.settleGuards t k s).tick.frac = s.tick.frac ∧ s.tick.now ≤ (State.settleGuards t k s).tick.now ∧
      (State.settleGuards t k s).tick.now ≤ if s.dormant then s.tick.now else max s.tick.now t := by
  induction k generalizing s with
  | zero => unfold State.settleGuards; split <;> simp
  | succ k ih =>
    unfold State.settleGuards
    split
    · split <;> simp
    · rename_i q j e _
      split
      · split <;> simp
      · rename_i he
        extract_lets x
        have hx : ((x.finishGuard q j).dispatch).tick.now = (s.advance e).tick.now ∧
            ((x.finishGuard q j).dispatch).tick.frac = s.tick.frac ∧
            ((x.finishGuard q j).dispatch).dormant = s.dormant := by
          have h : State.Sound [.dict, .tally, .arrs, .queues, .mem, .bin, .log] (s.advance e) (s.advance e).tick.now
              ((x.finishGuard q j).dispatch) :=
            State.Sound.dispatch (State.Sound.finishGuard (State.Sound.chargeAll (State.Sound.refl _ _) rfl) rfl) rfl
          refine ⟨(h.within.clock rfl).1, ?_, ?_⟩
          · rw [(h.within.clock rfl).2]
            simp only [State.advance_frame]
          simp only [State.dormant, h.within.power rfl, State.advance_frame]
        have hs := ih ((x.finishGuard q j).dispatch)
        rw [hx.1, hx.2.1, hx.2.2, State.advance_now] at hs
        split at hs <;> simp_all

/-- R10, R172, R261: time that passes touches device time, what running jobs are charged in, and what the end of a
guard step touches. -/
theorem State.advanceCharged_within {s : State} {t : Nat} :
    State.Within [.dict, .clock, .tally, .arrs, .queues, .mem, .bin, .log] s (s.advanceCharged t) :=
  (State.Sound.advanceCharged (State.Sound.refl _ s) rfl).within

theorem State.advanceCharged_inv {s : State} {t : Nat} (h : s.Inv) : (s.advanceCharged t).Inv :=
  (State.Sound.advanceCharged (State.Sound.refl [.dict, .clock, .tally, .arrs, .queues, .mem, .bin, .log] s) rfl).good h

theorem State.advance_inv {s : State} {t : Nat} (h : s.Inv) : (s.advance t).Inv :=
  (State.Sound.advance (State.Sound.refl [.clock] s) rfl).good h

/-- What a patch of device time and of the tick's counts keeps of the tick generator. -/
theorem Tick.patch_kept (a b : Tick) :
    (Tick.patch [.clock, .tally] a b).gen = a.gen ∧ (Tick.patch [.clock, .tally] a b).missCount = a.missCount ∧
      (Tick.patch [.clock, .tally] a b).tick = a.tick ∧
      (Tick.patch [.clock, .tally] a b).nextTick = a.nextTick ∧
      (Tick.patch [.clock, .tally] a b).started = a.started ∧
      (Tick.patch [.clock, .tally] a b).startAt = a.startAt ∧
      (Tick.patch [.clock, .tally] a b).startSearch = a.startSearch ∧
      (Tick.patch [.clock, .tally] a b).meridian = a.meridian ∧
      (Tick.patch [.clock, .tally] a b).ranAt = a.ranAt ∧
      (Tick.patch [.clock, .tally] a b).history = a.history ∧ (Tick.patch [.clock, .tally] a b).next = a.next ∧
      (Tick.patch [.clock, .tally] a b).shortest = a.shortest ∧
      (Tick.patch [.clock, .tally] a b).longest = a.longest ∧ (Tick.patch [.clock, .tally] a b).slew = a.slew ∧
      (Tick.patch [.clock, .tally] a b).error = a.error ∧ (Tick.patch [.clock, .tally] a b).status = a.status ∧
      (Tick.patch [.clock, .tally] a b).window = a.window ∧
      (Tick.patch [.clock, .tally] a b).realignAt = a.realignAt ∧
      (Tick.patch [.clock, .tally] a b).realignTick = a.realignTick ∧
      (Tick.patch [.clock, .tally] a b).realignFound = a.realignFound ∧
      (Tick.patch [.clock, .tally] a b).applied = a.applied ∧
      (Tick.patch [.clock, .tally] a b).lastReport = a.lastReport ∧
      (Tick.patch [.clock, .tally] a b).camActive = a.camActive ∧
      (Tick.patch [.clock, .tally] a b).camDone = a.camDone ∧
      (Tick.patch [.clock, .tally] a b).marked = a.marked ∧
      (Tick.patch [.clock, .tally] a b).gptp = a.gptp := by
  refine ⟨?_, ?_, ?_, ?_, ?_, ?_, ?_, ?_, ?_, ?_, ?_, ?_, ?_, ?_, ?_, ?_, ?_, ?_, ?_, ?_, ?_, ?_, ?_, ?_, ?_, ?_⟩ <;>
    rfl

@[simp] theorem State.advanceCharged_frame (s : State) (t : Nat) :
    (s.advanceCharged t).part = s.part ∧ (s.advanceCharged t).pending = s.pending ∧
      (s.advanceCharged t).staged = s.staged ∧ (s.advanceCharged t).nvm = s.nvm ∧
      (s.advanceCharged t).own = s.own ∧ (s.advanceCharged t).ports = s.ports ∧
      (s.advanceCharged t).ingest = s.ingest ∧ (s.advanceCharged t).fabric = s.fabric ∧
      (s.advanceCharged t).host = s.host ∧ (s.advanceCharged t).keys = s.keys ∧
      (s.advanceCharged t).panels = s.panels ∧ (s.advanceCharged t).plat = s.plat ∧
      (s.advanceCharged t).power = s.power ∧ (s.advanceCharged t).sent = s.sent ∧
      (s.advanceCharged t).free = s.free ∧ (s.advanceCharged t).tick.frac = s.tick.frac ∧
      (s.advanceCharged t).tick.gen = s.tick.gen ∧ (s.advanceCharged t).tick.missCount = s.tick.missCount ∧
      (s.advanceCharged t).tick.tick = s.tick.tick ∧ (s.advanceCharged t).tick.nextTick = s.tick.nextTick ∧
      (s.advanceCharged t).tick.started = s.tick.started ∧ (s.advanceCharged t).tick.startAt = s.tick.startAt ∧
      (s.advanceCharged t).tick.startSearch = s.tick.startSearch ∧
      (s.advanceCharged t).tick.meridian = s.tick.meridian ∧ (s.advanceCharged t).tick.ranAt = s.tick.ranAt ∧
      (s.advanceCharged t).tick.history = s.tick.history ∧ (s.advanceCharged t).tick.next = s.tick.next ∧
      (s.advanceCharged t).tick.shortest = s.tick.shortest ∧
      (s.advanceCharged t).tick.longest = s.tick.longest ∧ (s.advanceCharged t).tick.slew = s.tick.slew ∧
      (s.advanceCharged t).tick.error = s.tick.error ∧ (s.advanceCharged t).tick.status = s.tick.status ∧
      (s.advanceCharged t).tick.window = s.tick.window ∧
      (s.advanceCharged t).tick.realignAt = s.tick.realignAt ∧
      (s.advanceCharged t).tick.realignTick = s.tick.realignTick ∧
      (s.advanceCharged t).tick.realignFound = s.tick.realignFound ∧
      (s.advanceCharged t).tick.applied = s.tick.applied ∧
      (s.advanceCharged t).tick.lastReport = s.tick.lastReport ∧
      (s.advanceCharged t).tick.camActive = s.tick.camActive ∧
      (s.advanceCharged t).tick.camDone = s.tick.camDone ∧ (s.advanceCharged t).tick.marked = s.tick.marked ∧
      (s.advanceCharged t).tick.gptp = s.tick.gptp := by
  have h := State.advanceCharged_within (s := s) (t := t)
  have k := Tick.patch_kept s.tick (s.advanceCharged t).tick
  rw [← h.tick rfl] at k
  have f : (s.advanceCharged t).tick.frac = s.tick.frac := by
    unfold State.advanceCharged
    rw [((State.chargeAll_within _).clock rfl).2]
    simp only [State.advance_frame, (State.settleGuards_now t 64 s).1]
  exact ⟨h.part rfl, h.pending rfl, h.staged rfl, h.nvm rfl, h.own rfl, h.ports rfl, h.ingest rfl, h.fabric rfl, h.host rfl, h.keys rfl, h.panels rfl, h.plat rfl, h.power rfl, h.sent rfl, h.free rfl, f, k⟩

/-- Device time after time has passed for running jobs. -/
theorem State.advanceCharged_now (s : State) (t : Nat) :
    (s.advanceCharged t).tick.now = if s.dormant then s.tick.now else max s.tick.now t := by
  unfold State.advanceCharged
  have hd : (State.settleGuards t 64 s).dormant = s.dormant := by
    simp only [State.dormant, (s.settleGuards_within t 64).power rfl]
  have hs := (State.settleGuards_now t 64 s).2
  rw [((State.chargeAll_within _).clock rfl).1, State.advance_now, hd]
  split at hs <;> simp_all <;> omega

@[simp] theorem State.advance_dormant (s : State) (t : Nat) : (s.advance t).dormant = s.dormant := by simp [State.dormant]

@[simp] theorem State.advanceCharged_dormant (s : State) (t : Nat) : (s.advanceCharged t).dormant = s.dormant := by
  simp [State.dormant]

@[simp] theorem State.advanceCharged_genRuns (s : State) (t : Nat) : (s.advanceCharged t).genRuns = s.genRuns := by
  simp [State.genRuns]

end Sys2Proof.Machine
end

