-- ==== Sys2Proof/Laws/Requests.lean ====
section
/-! SUPPORT. Laws/Requests: what a request leads to, once for every row: one that is heard, a WRITE that passes every
check, and one that a check refuses. -/

namespace Sys2Proof.Machine

/-- A request that reaches the protocol is what `serve` makes of it, and its response. -/
theorem State.request_heard {s : State} {t sender service seq index sub : Nat} {p : Port} {serve : State → Reply}
    (h : s.hears t p sender service index) :
    s.request t p sender service seq index sub serve = (serve (s.heard t p sender)).send p
      ((s.heard t p sender).routeOf p sender) service seq (index * 256 + sub) := by
  obtain ⟨h1, h2, h3, h4⟩ := h
  unfold State.request
  simp only [State.arrival] at h1 h2 h3
  simp only [State.heard, State.arrival] at h4
  simp only [h1, h2, h3, h4, Bool.and_self, Bool.not_true, Bool.false_eq_true, if_false, State.heard, State.arrival]

theorem addr_split (a : Nat) : a / 256 * 256 + a % 256 = a := by omega

theorem firstCode_none {xs : List (Option Nat)} (h : ∀ x, x ∈ xs → x = none) : firstCode xs = none := by
  unfold firstCode
  rw [List.findSome?_eq_none_iff]
  exact h

/-- A WRITE that passes every check, of an object with no response of its own, is its effect and its response. -/
theorem State.writeRow_granted {s : State} {r : Req} {a : Nat} (h : s.grants r a) (hs : isSelector a = false)
    (ht : a ≠ Adr.tlbInvalidate) (hc : a ≠ Adr.ctlReset)
    (hp : ((s.heard r.t r.port r.sender).perform r.port a (writeValue a r.payload)).1 = none) :
    s.writeRow r a =
      ((s.heard r.t r.port r.sender).perform r.port a (writeValue a r.payload)).2.answered r.port
        ((s.heard r.t r.port r.sender).routeOf r.port r.sender) 2 r.seq a 0 [] := by
  obtain ⟨h1, h2, h3, h4, h5⟩ := h
  unfold State.writeRow
  rw [State.request_heard h1, addr_split]
  unfold State.serveWrite
  have e : firstCode [flagCheck r.flags, refuseIf (blockOnly a || tooShort a r.payload) 0x0602,
      (s.heard r.t r.port r.sender).refuses r.port a (writeValue a r.payload)] = none := by
    refine firstCode_none ?_
    simp [flagCheck, refuseIf, h2, h3, h4, h5]
  have d : (s.heard r.t r.port r.sender).perform r.port a (writeValue a r.payload) =
      (none, ((s.heard r.t r.port r.sender).perform r.port a (writeValue a r.payload)).2) := Prod.ext hp rfl
  simp only [e, beq_eq_false_iff_ne.2 ht, beq_eq_false_iff_ne.2 hc, Bool.false_eq_true, if_false]
  rw [d]
  simp only [hs, Bool.false_eq_true, if_false]
  rfl

/-- A WRITE that a check refuses ends in its abort; nothing else changes. -/
theorem State.writeRow_refused {s : State} {r : Req} {a code : Nat} (h : s.hears r.t r.port r.sender 2 (a / 256))
    (hc : firstCode [flagCheck r.flags, refuseIf (blockOnly a || tooShort a r.payload) 0x0602,
      (s.heard r.t r.port r.sender).refuses r.port a (writeValue a r.payload)] = some code) :
    s.writeRow r a = (s.heard r.t r.port r.sender).aborted r.port r.sender 2 r.seq a code := by
  unfold State.writeRow
  rw [State.request_heard h, addr_split]
  unfold State.serveWrite
  simp only [hc]
  rfl

/-- A READ that passes every check answers the value. -/
theorem State.serveRead_granted {s : State} {p : Port} {a : Nat} (h1 : blockOnly a = false)
    (h2 : s.existCheck a = none) (h3 : s.readCheck a = none) :
    s.serveRead p 0 a = .done 0 ((s.touchLease p).readPayload p a) (s.touchLease p) := by
  unfold State.serveRead
  have e : firstCode [flagCheck 0, refuseIf (blockOnly a) 0x0602, s.existCheck a, s.readCheck a] = none := by
    refine firstCode_none ?_
    simp [flagCheck, refuseIf, h1, h2, h3]
  simp only [e]

end Sys2Proof.Machine
end

