-- ==== Sys2Proof/Machine/Pins.lean ====
section
/-! DEFINITION. Machine/Pins: the levels of the output pins that a rule gives a function (R394), as they follow from the
state. `none` is high impedance, or a released open-drain output. -/

namespace Sys2Proof.Machine

/-- R327, R394: enable output `k`: its logical level under the polarity in force, in every power state and reset. -/
def State.enPin (s : State) (k : Nat) : Option Bool :=
  some (bitAt s.plat.enState k == bitAt (s.numAt Adr.enPolarityEffective) k)

/-- R268, R394: FAULT_N, open drain: low while a fault is signalled, in DORMANT and until the binnacle runs. -/
def State.faultPin (s : State) : Option Bool := if s.bin.faultN then some false else none

/-- R340, R394: THERM_TRIP_N, open drain. -/
def State.tripPin (s : State) : Option Bool := if s.plat.trip then some false else none

/-- R353, R367, R394: CTL_IRQ_N, open drain: released during boot. -/
def State.irqPin (s : State) : Option Bool := if s.ctlIrq && s.power.state != .booting then some false else none

/-- R290 to R292, R394: drive column `c` at the present time: every column in use is low while the matrix is IDLE, one
column in its slot of a scan, and none between scans. -/
def State.columnPin (s : State) (c : Nat) : Option Bool :=
  let k := s.keys
  let slot := (s.numAt Adr.settleUs + 1) * 1000
  let driven := match k.lastScan with
    | none => false
    | some t => t + c * slot ≤ s.tick.now && s.tick.now < t + (c + 1) * slot
  if s.power.state == .booting || s.numAt Adr.keyColumns ≤ c then none
  else if s.dormant || !k.scanning || driven then some false
  else none

/-- R341, R342, R394: the duty of fan output `f` in permille, 0 while the output is held low. -/
def State.fanPin (s : State) (f : Nat) : Nat := if s.ctlServes then (s.fanAt f).duty else 0

/-- R28, R394: CAM_TRIG output `n`: low until it is enabled, then at the level of its pulse; pulled down before the end of
boot. -/
def State.camPin (s : State) (n : Nat) : Option Bool :=
  if s.dormant || s.power.state == .booting then none
  else if s.flagAt (Adr.camTrigEnable n) then some (s.camLevel n (nth s.tick.camActive n none).isSome)
  else some false

end Sys2Proof.Machine
end

