-- ==== Sys2Proof/WellFormed.lean ====
section
/-! DEFINITION. WellFormed: which commands can be formed at all: field widths of a PDU (R45), the size of
a descriptor (R165), of a ring address, of CAN identifiers, and the widths of samples. A command that is
not well formed still has a meaning; it spells something no interface of the device can carry. -/

namespace Sys2Proof

/-- What a medium can say of a sender (R47): an 11-bit identifier on port C, a MAC address on port E, nothing on ports H
and S. -/
def senderFits (p : Port) (sender : Nat) : Bool :=
  match p with
  | .C => sender < 2048
  | .E => sender < 2 ^ 48
  | .H | .S => sender == 0

/-- A request fits its header (R45). -/
def Pdu.wf (p : Pdu) : Bool :=
  senderFits p.port p.sender && p.seq < 256 && p.flags < 256 && p.index < 65536 && p.sub < 256 &&
    p.payload.length ≤ 1394

/-- A request of a row of its own fits its header (R45). -/
def Req.wf (r : Req) : Bool :=
  senderFits r.port r.sender && r.seq < 256 && r.flags < 256 && r.payload.length ≤ 1394

/-- A packet's header fields fit their widths (R214, R215): channels 0 to 7, 16-bit sequence
numbers, at most 256 bytes of payload. -/
def Packet.wf (p : Packet) : Bool := p.channel < 8 && p.seq < 65536 && p.addr < 2 ^ 64 && p.payload.length ≤ 256

/-- A write of a base address register carries 32 bits (R228). -/
def ConfigAccess.wf (c : ConfigAccess) : Bool :=
  match c with
  | .bar _ _ value => value < 2 ^ 32
  | .memorySpace _ | .deviceControl _ _ | .powerState _ | .msixControl _ _ | .read _ => true

/-- What a debug response or the TAP carries (R378). -/
def DebugVia.wf (v : DebugVia) : Bool :=
  match v with
  | .request p => p.wf
  | .tapInstruction _ _ | .tapScan _ _ => true

/-- An FS short packet has one of 32 virtual channels (R86). -/
def FrameSource.wf (x : FrameSource) : Bool :=
  match x with
  | .csi _ vc _ => vc < 32
  | .slot _ => true

/-- A reading fits its converter or its register (R337). -/
def TempReading.wf (x : TempReading) : Bool :=
  match x with
  | .ntc code => code < 4096
  | .smbus b _ => b.length ≤ 2
  | .onDie _ | .smbusFail => true

/-- Well-formed commands. -/
def Instr.wf : Instr → Bool
  | .realign r | .store r | .restore r | .restoreFactory r | .tlbInvalidate r | .faultAck r
  | .arrayFaultClear r | .logbookClear r | .eventAck r | .keyLock r | .keyUnlock r | .selfTest r | .seqRun r
  | .seqAbort r | .tripClear r | .platPendingClear r | .powerCmd r | .warmReset r | .ctlReset r
  | .debugLock r | .persistClear r => r.wf
  | .release r _ | .acquire r _ => r.wf
  | .queueAbort r _ => r.wf
  | .panelEnable r _ | .reportAck r _ => r.wf
  | .readSelectorWrite r _ => r.wf
  | .counterPreset r index sub _ | .wrapFlagClear r index sub _ => r.wf && index < 65536 && sub < 256
  | .read p | .write p | .readBlock p | .writeBlock p | .claim p | .renew p | .handover p | .accept p
  | .notifyReceived p | .logbookExport p | .keyEnableMask p | .touchRefMapWrite p
  | .securityVersionRaise p => p.wf
  | .unknownService p code => p.wf && code < 256 && !([1, 2, 3, 4, 5, 6, 7, 8, 9].contains code)
  | .job _ _ desc _ => desc.length == 64
  | .copy _ op => op.desc.length == 64
  | .fence _ _ desc => desc.length == 64
  | .csiPacket p => p.vc < 32 && p.dataType < 64
  | .frameStart _ src _ _ => src.wf
  | .frameEnd _ packet => packet.vc < 32
  | .debugResponse via => via.wf
  | .malformedPdu _ port what => senderFits port what.sender
  | .ringEnable _ _ _ _ value | .controlRingEnable _ _ _ value => value < 2 ^ 32
  | .memorySpaceEnable _ c => c.wf
  | .msixVectorUnmask _ w => w.offset < 65536 && w.value < 2 ^ 32
  | .counterLowRead _ offset => offset < 65536
  | .bootComplete _ a b images =>
    a.length == 28 && b.length == 28 && images.all (fun r => r.offset + r.bytes.length ≤ 2 ^ 32)
  | .fabricWrite _ p | .fabricReadReq _ p | .fabricAtomicAdd _ p _ | .sweep _ p | .sweepDone _ p => p.wf
  | .fabricWriteAck _ p _ channel | .fabricReadData _ p _ channel | .refuse _ p _ channel
  | .channelReset _ p _ channel | .resetDone _ p _ channel => p.wf && channel < 8
  | .keyScan _ pressed => pressed.all (· < 256)
  | .buttonSample _ levels => levels < 65536
  | .vsupSample _ code => code < 4096
  | .thermalSample _ readings => readings.length == 24 && readings.all TempReading.wf
  | .canWakeFrame _ canId => canId < 2048
  | .pcieLinkUp _ speed width => 1 ≤ speed && speed ≤ 4 && [1, 2, 4].contains width
  | .mailboxBufferWrite _ _ _ offset data => offset + data.length ≤ 256
  | .hostReadCompletion _ _ tag _ => tag < 256
  | .audioWordClockEdge _ _ _ samples _ => samples.length ≤ 16
  | .tfResolveRetry _ _ | .tfResolveAbort _ _
  | .meridian _ | .pinEventQualified _ _ | .gptpScheduleEvent _ | .captureWindowClose
  | .realignSearchTimeout | .housekeepingMark | .camTrigPulse _ | .tickReport _
  | .syncMessage _ _ _ _ _ | .pdelayMessage _ _ _ _ _ _ | .gptpTimeout _ 
  | .claimWindowClose | .leaseExpiry | .handoverDeadline | .segmentTimeout _ _ | .storeComplete _ _
  | .frameTimeout _ | .ethernetFrame _ | .bandwidthAbort _ _
  | .statisticsRecord _ _ | .shapedHeader _ _ | .commitWindowOpen _ | .i2cTransactionDone _ _ _
  | .fusionRecord _ _ | .pass _ _ | .vectorOp _ _ | .indexedGather _ _ | .segmentReduce _ _
  | .atomicAdd _ _ | .localisation _ _ | .localisationVerdict _ _ _ | .slotBoundary _
  | .shareExhausted _ | .waypoint _ _ | .contextSaveDone _ _ | .contextRestoreDone _ _
  | .waypointTimeout _ | .jobEnd _ _ | .completionRecord _ _ | .carryLimit _ | .checkTile _ _
  | .checkTileResult _ _ _ _ | .scrubRead _ _ _ | .tlbInvalidateDone _ | .tfParkTimeout _
  | .ackTimeout _ _ _ _ _ _ | .sqTail _ _ _ | .cqHead _ _ _
  | .ringDisable _ _ | .resume _ _ | .tlbInvHi _ _ | .tlbInvLo _ _
  | .mirrorPreset _ _ _ _ | .placementWrite _ _ _ _ | .placementSignal _ _ _ _ | .windowBRead _ _
  | .lossOfBusMasterEnable _ | .functionLevelReset _ | .pcieLinkDown _ | .crReqTail _ _
  | .crRspHead _ _ | .inLen _ _ _ _ | .mailboxTake _ _
  | .mailboxOutWrite _ _ | .outAck _ _ _ | .overrunClear _ _ _ | .spiRead _ _ _ | .spiWrite _ _ _
  | .spiStatus _ | .keyAck _ _ _ | .touchAck _ _ _ | .sequencerMismatch _ _ | .dispatcherMismatch _
  | .clockFault _ _ | .voltageFault _ _ | .binnacleLockstepMismatch _ | .binnacleWatchdog _
  | .binnacleStart _ | .logbookCommit _ | .persistCopy _ | .safetyMsgPeriodic | .safetyMsgTransmit _
  | .keyActivity _ | .encoderStep _ _ _ _ | .encoderReport _ | .lockEntry _ | .unlockTimeout
  | .touchFrameStart _ _ | .touchFrameEnd _ _ | .dsyncEdge _ _ _ | .dsyncTimeout _ _
  | .selfTestDone _ _ _ | .enableOn | .enableOff | .waitPgHigh | .waitPgLow | .delay | .delayExpiry
  | .requirePgHigh | .requirePgLow | .seqEnd | .waitTimeout | .pgChange _ _ _ | .fanTachUpdate _ _ _
  | .batteryPoll _ _ | .standbyToReady _ _ _ | .readyToRun _ _ _ | .runToReady _ | .readyToStandby _
  | .standbyToDormant _ | .dormantToStandby _ | .wakeN _ _ | .powerOnReset | .resetN _ _
  | .controllerWatchdog _ | .pinEventUnqualified _ _ | .camTrigPulseEnd _
  | .busMasterEnableSet _ | .pcieFunctionReady _
  | .clockFaultCleared _ _ | .voltageFaultCleared _ _ => true

end Sys2Proof
end

