-- ==== Sys2Proof/Tests/Slice0.lean ====
section
/-! SUPPORT. Tests/Slice0: for every obligation with hypotheses a concrete state and operands that meet them
(theorems named witness_), a command that each well-formedness check refuses (smoke_), and effects whose
results stand in the spec's worked examples (test_). -/

namespace Sys2Proof.Tests

set_option Elab.async false

open Sys2Proof.Machine

/-! ## Small states -/

/-- What a command makes of a state (the state itself where the command answers no next state). -/
def after (i : Instr) (s : State) : State :=
  match exec i s with
  | .next x => x
  | _ => s

/-- Bytes from numbers. -/
def bytes (l : List Nat) : Bytes := l.map byteOf

/-- A device in RUN that port S owns, in tick 5, the next meridian fixed, controller and binnacle at work. -/
def base : State := { State.reset with
  power := { PowerCtl.zero with state := .run, microcodeOk := true, binnacleOk := true },
  bin := { Binnacle.zero with state := .normal, faultN := false },
  own := { Own.zero with state := .owned, owner := some .S, lease := 10 },
  tick := { Tick.zero with
    gen := .locked, started := true, tick := 5, nextTick := 6, now := 100000000, meridian := 100000000,
    history := [(5, 100000000)], next := some 133333333 } }

/-- A request on port S. -/
def req (l : List Nat) : Req := { t := 0, port := .S, sender := 0, seq := 1, flags := 0, payload := bytes l }

/-- The same, its payload the four bytes of a number. -/
def req32 (x : Nat) : Req := { t := 0, port := .S, sender := 0, seq := 1, flags := 0, payload := leBytes 4 x }

/-- A PDU on port S. -/
def pdu (flags a : Nat) (l : List Nat) : Pdu :=
  { t := 0, port := .S, sender := 0, seq := 1, flags := flags, index := a / 256, sub := a % 256, payload := bytes l }

/-- A whole value in one WRITE_BLOCK segment. -/
def block (a : Nat) (l : List Nat) : Pdu :=
  let p := leBytes 4 l.length ++ bytes l
  { t := 0, port := .S, sender := 0, seq := 1, flags := 0x70, index := a / 256, sub := a % 256, payload := p }

/-- Whether a command answers a next state with a property. -/
def gives (i : Instr) (s : State) (p : State → Bool) : Bool :=
  match exec i s with
  | .next x => p x
  | _ => false

/-! ## Witnesses: states and operands that meet the hypotheses of each statement -/

theorem witness_StepRunsFrontCommand :
    ({ base with pending := [.captureWindowClose] } : State).pending = .captureWindowClose :: [] := rfl

theorem witness_IdleStepIsOneCycle :
    (base.pending = [] ∧ base.tick.frac < 3000000000 ∧ base.dormant = false) ∧
    (let s : State := { base with power := { base.power with state := .dormant } }
     s.pending = [] ∧ s.tick.frac < 3000000000 ∧ s.dormant = true) := by decide +kernel

theorem base_inv : base.Inv := by unfold State.Inv State.Canonical State.Shaped; decide +kernel

theorem witness_EveryStepKeepsInvariant : base.Inv ∧ ∃ t, step base = .next t := ⟨base_inv, _, rfl⟩

theorem witness_DeviceTimeNeverRunsBackwards :
    base.pending.head? ≠ some .powerOnReset ∧ ∃ t, step base = .next t := ⟨by decide +kernel, _, rfl⟩

theorem witness_CommandTouchesOnlyItsParts : ∃ t, exec .captureWindowClose base = .next t := ⟨_, rfl⟩

theorem witness_StorageReadsBack :
    Memory.wf base.mem.cells = true ∧ Dict.wf base.part.variant base.dict = true := by decide +kernel

/-- Events at both ends of the window, of a pin and of the gPTP schedule, and on each side of it. -/
theorem witness_FixEventsAreJudged :
    (let on (n : Nat) : State := ({ base with tick := { base.tick with
        window := { Window.zero with center := 133333333, half := 1000000 } } }).setNum Adr.fixSource n
     let err (u : State) (t : Nat) : Int := (t : Int) + u.fixOffset - u.tick.window.center
     (∀ t ∈ [132333333, 134333333], let s := (on 1).setNum Adr.fixQual 3; let u := s.advanceCharged (t + s.minWidth)
        let w := u.tick.window
        u.genRuns = true ∧ u.tick.startSearch = false ∧ u.searching = false ∧ w.closed = false ∧ w.fix = none ∧
        -(w.half : Int) ≤ err u t ∧ err u t ≤ w.half ∧ u.fixSource = pinSource .frameSync ∧
        false = bitAt (u.numAt Adr.fixQual) 8 ∧ 299 < u.minWidth) ∧
     (∀ t ∈ [132333332, 134333334], let u := (on 1).advanceCharged (t + (on 1).minWidth); let w := u.tick.window
        u.genRuns = true ∧ u.fixSource = pinSource .frameSync ∧ (err u t < -(w.half : Int) ∨ (w.half : Int) < err u t)) ∧
     (let s := (on 1).setTick (fun k => { k with window := { k.window with closed := true } })
      let u := s.advanceCharged 133333333; let w := u.tick.window
      err u 133333333 ≤ w.half ∧ -(w.half : Int) ≤ err u 133333333 ∧ w.closed = true) ∧
     (let u := ((on 1).setNum Adr.fixQual 0).advanceCharged 133333333
      u.fixSource ≠ pinSource .dsyncA ∧ true ≠ bitAt (u.numAt Adr.fixQual) 8 ∧ u.numAt Adr.fixQual % 256 = 0) ∧
     (∀ t ∈ [132333333, 134333333], let u := ((on 2).setNum Adr.fixGptpEpoch (t % (on 2).period)).advanceCharged t
        let w := u.tick.window
        u.genRuns = true ∧ u.searching = false ∧ u.fixSource = 2 ∧
        (t : Int) + u.intAt 64 Adr.gptpOffset =
          (u.numAt Adr.fixGptpEpoch : Int) + ((t / (on 2).period : Nat) : Int) * u.period ∧
        -(w.half : Int) ≤ err u t ∧ err u t ≤ w.half ∧ w.closed = false ∧ w.fix = none)) := by decide +kernel

/-- A time that no element of the schedule meets. -/
theorem witness_FixEventsAreJudged_off :
    let u := base.advanceCharged 1
    ¬ ∃ k : Int, ((1 : Nat) : Int) + u.intAt 64 Adr.gptpOffset = (u.numAt Adr.fixGptpEpoch : Int) + k * u.period := by
  intro u
  have h1 : u.intAt 64 Adr.gptpOffset = 0 := by decide +kernel
  have h2 : u.numAt Adr.fixGptpEpoch = 0 := by decide +kernel
  have h3 : (u.period : Int) = 33333000 := by decide +kernel
  rw [h1, h2, h3]
  omega

theorem witness_SearchAndRealignment :
    (let s := ({ base with tick := { base.tick with realignTick := true, next := none } }).setNum Adr.fixSource 1
     let p : Nat := s.period
     (∀ t ∈ ([100000000 + p, 100000000 + 2 * p] : List Nat), let u := s.advanceCharged (t + s.minWidth); let et : Int := (t : Int) + u.fixOffset
        u.genRuns = true ∧ u.fixSource = pinSource .frameSync ∧ false = bitAt (u.numAt Adr.fixQual) 8 ∧
        u.tick.startSearch = false ∧ u.tick.realignTick = true ∧ u.tick.next = none ∧ (u.tick.meridian : Int) + u.period ≤ et ∧
        et ≤ (u.tick.meridian : Int) + 2 * u.period) ∧
     (let u := s.advanceCharged (99999999 + p + s.minWidth); ((99999999 + p : Nat) : Int) + u.fixOffset < (u.tick.meridian : Int) + u.period) ∧
     (s.genRuns = true ∧ s.tick.startSearch = false ∧ s.tick.realignTick = true ∧ s.tick.next = none)) ∧
    (let s : State := { base with tick := { base.tick with startSearch := true } }
     s.genRuns = true ∧ s.tick.startSearch = true) := by decide +kernel

theorem witness_RealignIsLinedUp :
    (base.setNum Adr.fixSource 1).Inv ∧ (base.setNum Adr.fixSource 1).grants (req32 1) Adr.realign := by
  unfold State.Inv State.Canonical State.Shaped State.grants State.hears; decide +kernel

theorem witness_MeridianFollowsFix :
    (let on (f : Option Int) : State := ({ base with tick := { base.tick with
        window := { Window.zero with center := 100000000, half := 1000000, fix := f } } }).setNum Adr.fixSource 1
     let ready (f : Option Int) : Bool := let s := on f; let w := s.tick.window
       s.genRuns && s.fixSource != 0 && !w.closed && !w.placed && !s.tick.startSearch && !s.searching && s.tick.started &&
         w.center == s.tick.meridian && w.fix == f
     let limit := (on none).slewLimit
     ready (some limit) = true ∧ ready (some (limit + 1)) = true ∧ ready (some (-limit)) = true ∧ ready none = true ∧
       limit.natAbs < (limit + 1).natAbs) ∧
    (let s := (({ base with tick := { base.tick with
        window := { Window.zero with center := 133333333, half := 1000000 } } } : State).setNum Adr.fixSource 1)
     s.genRuns = true ∧ s.fixSource ≠ 0 ∧ s.tick.window.closed = false ∧ s.tick.startSearch = false ∧ s.searching = false ∧
       s.tick.window.center ≠ s.tick.meridian) := by decide +kernel

theorem witness_MeridianFollowsFix_inv : (({ base with tick := { base.tick with
    window := { Window.zero with center := 100000000, half := 1000000 } } } : State).setNum Adr.fixSource 1).Inv := by
  unfold State.Inv State.Canonical State.Shaped; decide +kernel

theorem witness_MeridianOpensTick :
    (base.genRuns = true ∧ base.tick.next = some 133333333 ∧ 133333333 ≤ 133333333) ∧
    (let s : State := { base with staged := [⟨Adr.fixOffset, .num 3, 6⟩, ⟨Adr.fixSource, .num 1, 7⟩] }
     Dict.wf s.part.variant s.dict = true ∧ (s.staged.map (·.addr)).Nodup ∧ (∃ w ∈ s.staged, w.tick ≤ 6) ∧
       ∃ w ∈ s.staged, ¬ w.tick ≤ 6) := by decide +kernel

def draft : Draft :=
  { tick := 4, meridian := 66666667, length := 33333333, slew := 0, error := 0, status := .none, gen := .locked, missCount := 0,
    flags := 0, outcomes := outcomesZero, faults := 0, framesDropped := 0, gptpOffset := 0, snapshot := [] }

theorem witness_TickOutputs :
    (∀ host : Bool, let s := ({ base with tick := { base.tick with closing := some draft }, host := { HostLink.zero with
        linkUp := host, functionReady := true, bme := true } } : State).setNum Adr.tickCtrl 2
     let u := s.advance 100000000
     s.tick.closing = some draft ∧ u.dormant = false ∧ u.limitPending = false ∧ u.recordsOut draft.tick = true ∧
       (bitAt (u.numAt Adr.tickCtrl) 1 && u.hostOpen) = host) ∧
    (let s := base.setNum (Adr.camTrigEnable 7) 1
     s.camDue 7 = true ∧ s.tick.camDone.contains 7 = false) ∧
    (let s : State := { base with tick := { base.tick with camActive := List.replicate 8 (some 100500000) } }
     nth s.tick.camActive 7 none = some 100500000) := by decide +kernel

/-- A device that synchronises by Ethernet port 0. -/
def gptpOn (status syncs : Nat) : State :=
  (({ base with tick := { base.tick with
    gptp := { syncs := syncs, lastSync := 90000000, interval := 3000000, pathDelays := [0, 0] } } }).setNum Adr.timeSource 1).setNum
      Adr.gptpStatus status

theorem witness_GptpFollowsSyncs :
    (let on := gptpOn
     (let u := (on 1 2).advanceCharged 100000000; u.gptpListens 0 0 = true ∧ u.tick.gptp.syncs < 3) ∧
     (let u := (on 2 3).advanceCharged 100000000; 3 * 3333333 ≤ 100000000 - u.tick.gptp.lastSync) ∧
     (let u := (on 3 3).advanceCharged 100000000; u.numAt Adr.gptpStatus = 3) ∧
     (let u := (on 2 3).advanceCharged 100000000
      100000000 - u.tick.gptp.lastSync < 3 * 3333334 ∧ u.numAt Adr.gptpStatus ≠ 3 ∧ 3 ≤ u.tick.gptp.syncs) ∧
     (let u := (on 2 3).advanceCharged 100000000; u.dormant = false ∧ 1 < u.part.variant.ethPorts) ∧
     (let u := (on 2 3).advanceCharged 100000000
      u.numAt Adr.gptpStatus = 2 ∧ u.tick.gptp.lastSync + 3 * u.tick.gptp.interval ≤ u.tick.now)) := by decide +kernel

theorem witness_GptpFollowsSyncs_inv : ((gptpOn 2 3).advanceCharged 100000000).Inv := by
  unfold State.Inv State.Canonical State.Shaped; decide +kernel

theorem witness_ReadsAndWritesAreServed :
    (let p := pdu 0 Adr.fixSource []
     base.hears p.t p.port 0 1 p.index ∧ p.flags = 0 ∧ blockOnly Adr.fixSource = false ∧
       (base.heard p.t p.port 0).existCheck Adr.fixSource = none ∧ (base.heard p.t p.port 0).readCheck Adr.fixSource = none) ∧
    (base.grants (req [1]) Adr.fixSource ∧ accessAt Adr.fixSource = .rwm ∧ (base.heard 0 .S 0).tick.gen ≠ .halted) := by
  unfold State.grants State.hears; decide +kernel

/-- One refusal of each step of R64, a NOTIFY, an unknown service at both ends of its range, and a dropped PDU. -/
theorem witness_RefusalsChangeNothing :
    (let code (s : State) (flags a : Nat) (l : List Nat) : Option Nat :=
       let h := s.heard 0 .S 0; let v := writeValue a (bytes l)
       firstCode [flagCheck flags, refuseIf (blockOnly a || tooShort a (bytes l)) 0x0602,
         if isSelector a then none else h.ownerCheck .S, h.existCheck a, h.writeCheck a, h.stateCheck a v.toNat, h.valueCheck a v]
     base.hears 0 .S 0 2 (Adr.fixSource / 256) ∧ code base 1 Adr.fixSource [1] = some 0x0402 ∧
       code base 0 Adr.fixSource [] = some 0x0602 ∧
       code { base with own := Own.zero } 0 Adr.fixSource [1] = some 0x0301 ∧ code base 0 0x0FFF01 [1] = some 0x0201 ∧
       code base 0 Adr.deviceId [1, 1] = some 0x0102 ∧ code base 0 Adr.seqAbort [1] = some 0x0504 ∧
       code base 0 Adr.fixSource [7] = some 0x0402) ∧
    (base.hears 0 .S 0 9 1 ∧ base.hears 0 .S 0 0 1 ∧ base.hears 0 .S 0 10 1) ∧
    (let u := base.advance 0
     u.malformedOn .S .tooShort = true ∧ u.portOpen .S = true ∧ u.addressed .S 0 = true ∧ u.addressed .C 0 = false) := by
  unfold State.hears; decide +kernel

theorem witness_OwnershipIsClaimed :
    (let s : State := { base with own := Own.zero }
     let p : Pdu := { pdu 0 0 ([s.claimRank .S, 0, 0, 0, 1, 0, 0, 0]) with port := .S }
     let q : Pdu := pdu 0 0 [s.claimRank .S + 1, 0, 0, 0, 1, 0, 0, 0]
     s.hears 0 .S 0 5 0 ∧ 8 ≤ p.payload.length ∧ (s.heard 0 .S 0).own.owner = none ∧
       field p.payload 0 1 ≤ (s.heard 0 .S 0).claimRank .S ∧ (s.heard 0 .S 0).claimRank .S < field q.payload 0 1) ∧
    (base.hears 0 .S 0 5 0 ∧ (base.heard 0 .S 0).own.owner = some .S ∧ base.hears 0 .C base.canInForce.request 5 0) ∧
    (base.hears 0 .S 0 6 0 ∧ (base.heard 0 .S 0).own.state = .owned) ∧
    (base.hears 0 .S 0 7 0 ∧ Port.ofCode (field (bytes [1]) 0 1) = some .C ∧ (base.heard 0 .S 0).reachable .C = true) ∧
    (let s : State := { base with own := { base.own with state := .handoverPending, successor := some .C, deadline := 6 } }
     let id := s.canInForce.request; let h := s.heard 0 .C id
     s.hears 0 .C id 8 0 ∧ h.own.state = .handoverPending ∧ h.own.successor = some .C ∧ h.tick.tick < h.own.deadline) ∧
    (let cs : List Claim := [⟨.S, 2, 7⟩, ⟨.E, 2, 9⟩]
     let s : State := { base with own := { base.own with state := .claiming, owner := none, closeTick := 5, claims := cs } }
     s.own.state = .claiming ∧ s.reached s.own.closeTick = true ∧ s.own.claims ≠ []) ∧
    (let s : State := { base with own := { base.own with lease := 0 } }; s.own.state = .owned ∧ s.own.lease = 0) ∧
    (let s : State := { base with own := { base.own with state := .handoverPending, deadline := 5 } }
     s.own.state = .handoverPending ∧ s.reached s.own.deadline = true) := by
  unfold State.hears; decide +kernel

/-- A transfer in progress on port S, last served at device time `t`. -/
def moving (write : Bool) (a total t : Nat) (buf : Bytes) : Transfer :=
  { write := write, addr := a, total := total, buf := buf, sent := 0, seq := 0, response := [], time := t, finished := false,
    exportFirst := 0, exportLast := 0 }

def withTransfer (k : Transfer) : State := base.setPort .S (fun p => { p with transfer := some k })

theorem witness_BlockTransfersMoveValues :
    (let a := Adr.seqScript 0; let p := pdu 0x50 a (List.replicate (segmentSize .S) 0)
     let q : Pdu := { p with payload := leBytes 4 (segmentSize .S) ++ zeros (segmentSize .S - 4) }
     base.hears 0 .S 0 4 q.index ∧ (base.heard 0 .S 0).segmentCheck .S (segmentOf true 1 0x50 a q.payload) = none ∧
       q.payload.length = segmentSize .S ∧ fixedAt a = false ∧ ((base.heard 0 .S 0).portAt .S).transfer = none ∧
       field q.payload 0 4 ≤ 65536 ∧ q.payload.length < field q.payload 0 4 + 4) ∧
    (let a := Adr.seqScript 0; let k := moving true a 65536 100000000 []; let s := withTransfer k; let h := s.heard 0 .S 0
     let p := pdu 0x40 a (List.replicate (segmentSize .S) 0)
     s.hears 0 .S 0 4 p.index ∧ h.segmentCheck .S (segmentOf true 1 0x40 a p.payload) = none ∧
       (h.portAt .S).transfer = some k ∧ h.segmentLate k = false ∧ 1 = (k.seq + 1) % 256 ∧
       k.buf.length + p.payload.length < k.total) ∧
    (let a := Adr.seqScript 0; let p := pdu 0x50 a []
     base.hears 0 .S 0 3 p.index ∧ (base.heard 0 .S 0).segmentCheck .S (segmentOf false 1 0x50 a []) = none ∧
       ((base.heard 0 .S 0).portAt .S).transfer = none) ∧
    (let a := Adr.seqScript 0; let k := moving false a 8 100000000 (zeros 8); let s := withTransfer k; let h := s.heard 0 .S 0
     s.hears 0 .S 0 3 (a / 256) ∧ h.segmentCheck .S (segmentOf false 1 0x40 a []) = none ∧
       (h.portAt .S).transfer = some k ∧ h.segmentLate k = false ∧ k.finished = false ∧ k.addr = a) ∧
    (let k := moving true 0 8 100000000 []; let s := withTransfer k; let w := s.segTimeout
     ((s.advance (100000001 + w)).portAt .S).transfer = some k ∧ (s.advance (100000001 + w)).segmentLate k = true ∧
       (s.advance (100000000 + w)).segmentLate k = false) := by
  unfold State.hears; decide +kernel

theorem witness_BlockTransfers_inv :
    base.Inv ∧ (withTransfer (moving true (Adr.seqScript 0) 65536 100000000 [])).Inv ∧
      (withTransfer (moving false (Adr.seqScript 0) 8 100000000 (zeros 8))).Inv := by
  unfold State.Inv State.Canonical State.Shaped; decide +kernel

def ready : State := { base with power := { base.power with state := .ready } }

theorem witness_StoreAndRestore :
    base.Inv ∧ base.grants (req32 0x65766173) Adr.store ∧
    (let s : State := { base with nvm := { Nvm.zero with storing := some { vals := [], missing := [] } } }
     s.nvm.storing = some { vals := [], missing := [] } ∧ s.dormant = false) ∧
    ready.grants (req32 0x64616F6C) Adr.restore ∧
    (Dict.wf base.part.variant [] = true ∧ Dict.wf base.part.variant [(Adr.fanDuty 0, .num 600)] = true ∧
      nvmAt base.part.variant (Adr.fanDuty 0) = true ∧ loadedAt (Adr.fanDuty 0) = true) := by
  unfold State.Inv State.Canonical State.Shaped State.grants State.hears; decide +kernel

theorem witness_LoadReadsImage (look : Look) : valueCode base.part look (Adr.fanDuty 0) (.num 600) = none := by rfl

theorem witness_RestoreFactory : ready.grants (req32 0x746C6664) Adr.restoreFactory := by
  unfold State.grants State.hears; decide +kernel

theorem witness_StoreCommandsNeedTheirKey :
    ∀ a ∈ [Adr.store, Adr.restore, Adr.restoreFactory], let r := req32 0; let h := ready.heard 0 .S 0
      ready.hears 0 .S 0 2 (a / 256) ∧ r.flags = 0 ∧ 4 ≤ r.payload.length ∧ h.ownerCheck .S = none ∧ h.existCheck a = none ∧
        h.writeCheck a = none ∧ h.stateCheck a 0 = none ∧ (writeValue a r.payload).toNat = 0 := by
  unfold State.hears; decide +kernel

theorem witness_CountersFollowEventsAndPresets :
    (let a := Adr.keyEvents; let top := base.setNum a (2 ^ 64 - 1)
     base.numAt a + 1 < 2 ^ 64 ∧ top.numAt a + 1 = 2 ^ 64) ∧
    (let a := Adr.keyEvents; let w := wrapFlagOf a; let s := base.setNum a (2 ^ 64 - 1)
     s.grants (req [1]) w ∧ s.grants (req [0]) w ∧ kindAt w = .wrap ∧ counterOf w = some a ∧ (s.heard 0 .S 0).numAt a = 2 ^ 64 - 1) ∧
    (let a := Adr.keyEvents; base.grants (req [255, 255, 255, 255, 255, 255, 255, 255]) a ∧ kindAt a = .counter ∧
      (writeValue a (bytes [255, 255, 255, 255, 255, 255, 255, 255])).toNat + 1 = 2 ^ 64 ∧
      base.grants (req [254, 255, 255, 255, 255, 255, 255, 255]) a) := by
  unfold State.grants State.hears; decide +kernel

theorem witness_Counters_inv : (base.setNum Adr.keyEvents (2 ^ 64 - 1)).Inv := by
  unfold State.Inv State.Canonical State.Shaped; decide +kernel

/-- 64 KiB of device memory from address 0 that partition 0 may read and write. -/
def mapped : State :=
  (base.setVal (Adr.regionTable 0) (.bytes (leBytes 8 0 ++ leBytes 4 16 ++ leBytes 2 3 ++ leBytes 2 0))).setNum
    Adr.memCapacityMib 1024

/-- A frame in progress in slot 47, with a buffer or without. -/
def frame47 (kind : Nat) (buffer : Option Nat) : State :=
  let f : Frame := { Frame.zero with start := 90000000, lines := 1, width := 4, height := 2, kind := kind, dataType := 0x2A }
  let fl : Filling :=
    { buffer := buffer, frame := f, rows := [], stored := [], dropCause := 1, marker := 0, lastPacket := 95000000 }
  (mapped.setSlot 47 (fun x => { x with running := true, filling := some fl })).setNum (Adr.ringBuffers 47) 2

theorem witness_FrameStartAndAbort :
    (let s := ((mapped.setSlot 47 (fun x => { x with running := true })).setNum (Adr.ringBuffers 47) 2)
     let u := s.advance 100000000
     let fill := (50 + 5 * u.numAt (Adr.priority 47)) * 4194304 / 100
     u.receives 47 = true ∧ (u.slotAt 47).filling = none ∧ fill * 100 ≤ (50 + 5 * u.numAt (Adr.priority 47)) * 4194304 ∧
       (u.ring 47).find? (fun e => e.1.state == .free) = some (Buffer.zero, 0)) ∧
    (let s := (mapped.setSlot 47 (fun x => { x with running := true, buffers := List.replicate 16 { Buffer.zero with
        state := .held } })).setNum (Adr.ringMode 47) 0
     let u := s.advance 100000000
     u.receives 47 = true ∧ (∀ e ∈ u.ring 47, e.1.state ≠ .free) ∧ u.numAt (Adr.ringMode 47) = 0) ∧
    (let u := (frame47 0 (some 15)).advance 0
     u.ingestRuns = true ∧ 95 * 4194304 < 3984589 * 100 ∧ u.guaranteedNow 47 = false ∧
       ((u.slotAt 47).filling.bind (·.buffer)) = some 15 ∧
       ∀ k ∈ List.range 48, ((u.slotAt k).filling.bind (·.buffer)).isSome = true → k = 47) := by decide +kernel

theorem witness_FramesStartAndEnd_inv : mapped.Inv ∧ (frame47 0 (some 15)).Inv := by
  unfold State.Inv State.Canonical State.Shaped; decide +kernel

theorem witness_FrameEnds :
    (let u := (frame47 0 none).advance 0; u.slotsOf 7 31 = [] ∧
      (((frame47 0 none).setNum (Adr.sourceUnit 47) 7).setNum (Adr.vc 47) 31).slotsOf 7 31 = [47]) ∧
    (∀ b ∈ [none, some 1], let s := frame47 0 b; (s.slotAt 47).filling.isSome = true ∧ s.receives 47 = true ∧
      ((s.slotAt 47).filling.map (·.frame.kind)) = some 0) ∧
    (let s := (frame47 1 (some 1)).setNum (Adr.frameRule 47) 1
     s.receives 47 = true ∧ ((s.slotAt 47).filling.map (·.frame.kind)) = some 1 ∧ s.numAt (Adr.frameRule 47) = 1) := by
  decide +kernel

def packet47 : CsiPacket :=
  { t := 0, recv := 7, vc := 31, dataType := 0x2A, payload := bytes [1, 2, 3, 4], ecc := .clean, crcOk := true }

def eth (ok : Bool) (etherType : Nat) : EthFrame :=
  { t := 0, ethPort := 1, fcsOk := ok, etherType := etherType, vlan := none, udpPort := none, payload := zeros 9198, fill := 0 }

theorem witness_SamplesJoinFrames :
    (mapped.ingestRuns = true ∧ ∀ k ∈ List.range 48, (mapped.slotAt k).running = false) ∧
    (let s := (((frame47 0 (some 1)).setNum (Adr.sourceUnit 47) 7).setNum (Adr.vc 47) 31).setNum (Adr.dataType 47) 0x2A
     let u := s.advance 0
     (u.slotAt 47).running = true ∧ u.numAt (Adr.sourceKind 47) = 0 ∧ u.numAt (Adr.sourceUnit 47) = packet47.recv.val ∧
       u.numAt (Adr.vc 47) = packet47.vc ∧ u.numAt (Adr.dataType 47) = packet47.dataType ∧
       (∀ k ∈ List.range 47, (u.slotAt k).running = false) ∧
       ((s.slotAt 47).filling.map (fun f => decide (f.frame.lines < f.frame.height))) = some true) ∧
    (∀ ok ∈ [true, false], ∀ k ∈ List.range 48, let f := eth ok 0x0800
      f.ethPort.val < mapped.part.variant.ethPorts ∧ ethSize f ≤ 9216 ∧ f.etherType ≠ 0x88F7 ∧
        (mapped.advance 0).flowMatches k f = false) ∧
    (∀ tdm ∈ [true, false], let s := (((frame47 2 (some 1)).setNum (Adr.sourceKind 47) (if tdm then 2 else 3)).setNum
        (Adr.sourceUnit 47) 1).setNum (Adr.audioRate 47) 1
      let u := s.advance 0
      (s.slotAt 47).running = true ∧ (s.slotAt 47).filling.isSome = true ∧
        (if tdm then u.numAt (Adr.sourceKind 47) = 2 ∧ u.numAt (Adr.sourceUnit 47) = 1
          else u.numAt (Adr.sourceKind 47) = 3 ∧ u.numAt (Adr.audioRate 47) = 1)) := by decide +kernel

def shape0 : ShapeCfg :=
  { slot := 47, demosaic := 0, cfaPhase := 0, blackLevel := [], ccm := [], ccmOffset := [], mean := [], scale := [],
    zeroPoint := 0, outFormat := 0, layout := 0, channelOrder := 0, pyrLevels := 0, pyrMode := 0, pyrBaseW := 0, pyrBaseH := 0,
    roiMaxCount := 0, roiOutMaxW := 0, roiOutMaxH := 0, shapedAddr := 0, shapedBytes := 0 }

def shaping0 : Shaping :=
  { cfg := shape0, buffer := 15, regions := [], fromStatic := false, roiStatus := 0, tableFrame := 0, overrun := false,
    memError := false, frame := some Frame.zero, rows := [] }

def draft0 : FusionDraft := { tick := 5, target := 0, status := 0, missing := 0, members := [⟨0, 47, 0, 3, 9, 0⟩] }

def commit0 (entries : List Bytes) (again : Bool) : Commit :=
  { slot := 47, entries := entries, repeated := again, windowEnd := 0, tableSeq := none }

/-- A state whose I²C controller 7 has a commit in hand. -/
def committing (entries : List Bytes) (again : Bool) : State :=
  let q := List.replicate 7 [] ++ [[commit0 entries again]]
  { (mapped.setSlot 47 (fun x => { x with first := false })) with ingest := { mapped.ingest with
      i2c := q, slots := modifyAt mapped.ingest.slots 47 (fun x => { x with first := false }) } }

theorem witness_FramesAreDelivered :
    (let s := (mapped.setSlot 47 (fun x => { x with stats := [⟨Frame.zero, [], false⟩] })).setNum (Adr.partition 47) 0
     let u := s.advance 0
     mapped.ingestRuns = true ∧ (s.slotAt 47).stats ≠ [] ∧ u.closedPath 1 (u.endpointOf 0) true 0 = false ∧
       u.permitted (u.numAt (Adr.partition 47)) true (u.numAt (Adr.statsAddr 47)) 2048 = true) ∧
    (let s := mapped.setSlot 47 (fun x => { x with buffers := List.replicate 16 { Buffer.zero with
        state := .filling, shapePending := true } })
     let u : State := { s with ingest := { s.ingest with ctxs := List.replicate 16 { Ctx.zero with pending := [shaping0] } } }
     (u.ctxAt 15).pending = [shaping0] ∧ shaping0.frame = some Frame.zero ∧ shaping0.cfg.slot < 48 ∧
       15 < (u.slotAt 47).buffers.length ∧ (nth (u.slotAt 47).buffers 15 Buffer.zero).shapePending = true) ∧
    (let s : State := { mapped with ingest := { mapped.ingest with fusion := List.replicate 8 ⟨[draft0], []⟩ } }
     let s := s.setNum (Adr.partition 47) 0; let v := s.advanceCharged 0
     (s.fusionAt 7).drafts = [draft0] ∧ v.draftReady draft0 = true ∧ v.closedPath 1 (v.endpointOf 0) true 0 = false ∧
       v.permitted (v.numAt (Adr.partition 47)) true (v.numAt (Adr.recordAddr 7) + 5 % max 1 (v.numAt (Adr.recordEntries 7)) * 256)
         256 = true) ∧
    (let s := mapped.setSlot 47 (fun x => { x with running := true, settingsNew := true })
     s.tick.gen ≠ .halted ∧ s.tick.started = true ∧ s.ingest.windowTick ≠ some s.tick.tick ∧ (s.slotAt 47).running = true ∧
       s.numAt (Adr.sourceKind 47) = 0 ∧ s.numAt (Adr.settingsSource 47) = 0 ∧ (s.slotAt 47).settingsNew = true ∧
       s.numAt (Adr.i2cController 47) < s.ingest.i2c.length) ∧
    (∀ es ∈ [[zeros 8], [zeros 8, zeros 8]], ∀ again ∈ [false, true], let s := committing es again
      7 < s.ingest.i2c.length ∧ nth s.ingest.i2c 7 [] = [commit0 es again] ∧ es ≠ [] ∧ (s.slotAt 47).first = false) := by
  decide +kernel

/-- A state whose slot 47 has buffers in one state. -/
def buffers47 (b : BufState) : State :=
  (mapped.setSlot 47 (fun x => { x with buffers := List.replicate 16 { Buffer.zero with state := b } })).setNum
    (Adr.ringBuffers 47) 16

theorem witness_BuffersReleasedAndAcquired :
    (∀ b ∈ [BufState.ready, .held, .free], (buffers47 b).grants (req [15]) (Adr.release 47) ∧
      (((buffers47 b).heard 0 .S 0).slotAt 47).buffers[15]? = some { Buffer.zero with state := b } ∧
      15 < ((buffers47 b).heard 0 .S 0).numAt (Adr.ringBuffers 47)) ∧
    (buffers47 .ready).grants (req [15]) (Adr.acquire 47) := by
  unfold State.grants State.hears; decide +kernel

/-- A pass over one INT8 vector of two activations, as the first K tile of one column. -/
def passI (last combine : Bool) : ImagePass :=
  { actFmt := 0, weightFmt := 0, zeroPoint := 3, rows := 2, outCols := 1, column := 0, kTile := 0, lastTile := last,
    split := combine, combine := combine, bias := [5], descriptors := [], relBound := 0, vectors := [⟨0, 1024, 2048⟩],
    weights := 4096, padding := [], loads := [], stores := [] }

/-- That pass as it runs, with faults if told. -/
def pass0 (fs : List LaneFault) : PassOp :=
  { t := 0, passIndex := 0, shadowStart := 0, contention := [], faults := fs, order := [] }

theorem witness_IntegerChecksumFindsFaults :
    firstTile (passI true false) 1 = true ∧
    (let prev : AccVec := { out := List.replicate 128 7, c := 896, g := 0 }
     firstTile { passI true false with kTile := 1 } 1 = false ∧ prev.out.length = 128 ∧ sumNat prev.out % 2 ^ 32 = prev.c) ∧
    (∀ f ∈ [(⟨0, 0, 1⟩ : LaneFault), ⟨0, 128, 2 ^ 32 - 1⟩], (pass0 [f]).faults.filter (fun g => g.vector == 0) = [f] ∧
      f.column ≤ 128 ∧ 0 < f.mask ∧ f.mask < 2 ^ 32) := by decide +kernel

/-- A job of queue 31, partition 0, that runs on array 7. -/
def job0 : Job :=
  { kind := 0, standing := false, tag := 9, submitSeq := 3, ringIndex := 3, image := 0, param := 0, inputSet := 0xFF, due := 5,
    fixed := true, background := false, replay := false, swapFront := false, almanac := [], budget := 100, contextBytes := 64,
    arraysNeeded := 1, phase := .running, stop := .none, stopAt := 99000000, stopRef := 0, arrays := [7], used := 0,
    started := some 5, readyAt := some 100000000, carry := 0, carryCause := 0, preempts := 0, arrayTime := 0, tickTime := 0,
    borrowed := 0, guard := none, parkedFor := 0, transfer := false, copyAddr := 0, copyDev := 0, copyLen := 0, copyOut := false,
    copyNext := 0, body := default, offset := 0, ended := none }

/-- A device on whose array 7 that job is, as told. -/
def running (j : Job) : State :=
  (((mapped.setQueue 31 (fun x => { x with state := .active, jobs := [j] })).setArr 7 (fun x => { x with
    powered := true, state := .busy, job := some (31, 3), share := [5000, 0, 0, 0], lastCharge := 100000000 })).setNum
      (Adr.queuePartition 31) 0).setNum (Adr.contextAddr 31) 0

theorem running_inv : (running job0).Inv := by unfold State.Inv State.Canonical State.Shaped; decide +kernel

/-- The job with an image of one pass. -/
def jobP (last combine : Bool) : Job := { job0 with body := { passes := [passI last combine], formats := [0], training := false } }

theorem witness_PassComputesOutputs :
    (∀ last ∈ [true, false], ∀ combine ∈ [true, false], let j := jobP last combine; let u := (running j).advanceCharged 0
     let p := passI last combine
     u.passOn 7 (pass0 []) = some (31, j, p) ∧ p.loads = [] ∧ p.combine = combine ∧ isFloat p.actFmt = false ∧
       u.mem.opUe = []) ∧
    (let j := jobP true false; let u := (running j).advanceCharged 0; let p := passI true false
     ∀ v ∈ passVectors (u.profileOf j) p (tileOf p (u.arrAt 7).store) 1 (pass0 []) (u.arrAt 7).store,
       compareVector (u.profileOf j) (isFloat p.actFmt) (u.numAt Adr.checkRelBoundDefault) v ≠ .fails) := by decide +kernel

def gather0 (rows : Nat) : GatherOp := { t := 0, table := 0, rows := rows, rowBytes := 4, indices := [0, 3], dest := 65528 }

/-- A vector operation on operands in the lane registers and in the operand store. -/
def vec0 (kind : VecKind) : VecOp :=
  { t := 0, kind := kind, loadFmt := 9, storeFmt := 9, count := 2, x := .store 0, y := .lanes 63, z := .lanes 0, params := [],
    dest := .store 64, moments := [] }

/-- Two contributions to the last element of four, and one beyond them. -/
def atomic0 (base : Nat) : AtomicOp :=
  { t := 0, elem := .int32, base := base, count := 4, contributions := [⟨1, 3, 5⟩, ⟨0, 3, 2 ^ 32 - 1⟩, ⟨2, 4, 7⟩] }

/-- A state whose chart store partition 0 may use from its first page on. -/
def charted (j : Job) : State :=
  (running j).setVal (Adr.regionTable 0) (.bytes (leBytes 8 0 ++ leBytes 4 16 ++ leBytes 2 3 ++ leBytes 2 0 ++
    leBytes 8 chartBase ++ leBytes 4 1 ++ leBytes 2 3 ++ leBytes 2 0))

theorem witness_UnitsCompute :
    (let u := (running job0).advanceCharged 0
     ∀ k ∈ [VecKind.add, .mul, .fma], u.jobOn 7 = some (31, job0) ∧ vecPresent (vec0 k) u.part.variant = true ∧
       u.mem.opUe = []) ∧
    (let u := (running job0).advanceCharged 0; let p := u.partOf 31
     u.jobRunning 31 = some job0 ∧ u.mem.ue = [] ∧ (∀ d ∈ List.range 24, u.closedPath 19 d true 0 = false) ∧
       (∀ rows ∈ [3, 4], let op := gather0 rows; ∀ e ∈ op.indices.zipIdx, u.permitted p true (op.dest + e.2 * 4) 4 = true ∧
         (e.1 < op.rows → u.permitted p false (op.table + e.1 * 4) 4 = true)) ∧
       u.permitted p false 0 (4 * 8) = true ∧ u.permitted p true 65532 4 = true ∧ u.permitted p false 65532 4 = true ∧
       0 + 4 * 8 ≤ 65528) ∧
    (∀ replay ∈ [true, false], let j := { job0 with replay := replay }; let u := (charted j).advanceCharged 0; let p := u.partOf 31
     u.jobRunning 31 = some j ∧ atomicInChart (atomic0 0) u.part.variant = false ∧
       atomicInChart (atomic0 (chartBase + 4080)) u.part.variant = true ∧ u.mem.ue = [] ∧
       u.permitted p false (chartBase + 4092) 4 = true ∧ u.permitted p true (chartBase + 4092) 4 = true) := by decide +kernel

/-- A host link in use, its windows placed. -/
def linked (s : State) : State :=
  { s with host := { s.host with
      linkUp := true, functionReady := true, bme := true, mse := true, barA := 0x100000000, barB := 0x200000000 } }

/-- Queue 31 of a linked device with one descriptor to fetch, and jobs before it. -/
def fetching (s : State) (p depth : Nat) (jobs : List Job) : State :=
  ((((linked s).setQueue 31 (fun x => { x with state := .active, ringOn := true, log2 := 4, sqTail := 1, jobs := jobs })).setNum
    (Adr.queueEnable 31) 1).setNum (Adr.queueDepth 31) depth).setNum (Adr.queuePartition 31) p

theorem witness_JobIsAdmittedOrRefused :
    (fetching mapped 0 1 []).Inv ∧
    (∀ jobs ∈ [[], [job0]], let u := (fetching mapped 0 1 jobs).advanceCharged 0
      u.fetchDue 31 = true ∧ u.job? 31 0 = none ∧ field (zeros 64) 25 1 = 0 ∧ u.mem.ue = [] ∧
        (u.numAt (Adr.queueDepth 31) ≤ ((u.queueAt 31).jobs.filter (fun i => i.ended.isNone)).length ↔ jobs = [job0])) ∧
    -- an image that is not aligned, one of no region, one without a header, and a malformed descriptor
    (let d (image flag : Nat) : Bytes := zeros 8 ++ leBytes 8 image ++ zeros 8 ++ [byteOf flag] ++ zeros 39
     let u := (fetching mapped 0 1 []).advanceCharged 0
     (readDescriptor (d 1 255) 0).wellFormed = true ∧ (readDescriptor (d 1 9) 0).wellFormed = false ∧
       field (d 65536 255) 8 8 = 65536 ∧ u.permitted 0 false 65536 128 = false ∧ u.permitted 0 false 0 128 = true ∧
       parseImage (u.readMem 0 128) = none) := by unfold State.Inv State.Canonical State.Shaped; decide +kernel

/-- An image header of one array that asks for INT8 alone. -/
def header0 (flags arrays body : Nat) : Bytes :=
  let h := leBytes 4 0x4A4B5341 ++ leBytes 2 1 ++ leBytes 1 1 ++ leBytes 1 flags ++ leBytes 2 0 ++ leBytes 1 arrays ++ zeros 1 ++
    leBytes 4 100 ++ leBytes 4 64 ++ zeros 36 ++ leBytes 8 body ++ zeros 60
  h ++ leBytes 4 (crc32c h)

theorem witness_JobWithImage :
    (∀ arrays ∈ [1, 8], (parseImage (header0 0 arrays 0)).map (fun h => (h.cls, h.flags, h.arrays, h.formats)) = some (1, 0, arrays, 0)) ∧
    (let s := (fetching mapped 1 1 []).setVal (Adr.regionTable 1) (.bytes (leBytes 8 0 ++ leBytes 4 16 ++ leBytes 2 3 ++ leBytes 2 0))
     ∀ body ∈ [0, 65152], let u := (((s.writeMem 256 (header0 0 1 body)).setNum (Adr.queueArrays 31) 255).setNum
        Adr.arrayEnable 255).advanceCharged 0
      u.fetchDue 31 = true ∧ u.mem.ue = [] ∧ u.readMem 256 128 = header0 0 1 body ∧ u.permitted 1 false 256 128 = true ∧
        256 % 256 = 0 ∧ u.permitted 1 false 256 (128 + body) = true ∧ field (u.readMem 256 128) 56 8 = body ∧
        (readDescriptor (zeros 8 ++ leBytes 8 256 ++ zeros 8 ++ [byteOf 255] ++ zeros 39) 0).wellFormed = true ∧
        [passI false false].all passOk = true ∧ ([] : List ImagePass).all passOk = true ∧
        hasFormat u.part.variant 0 = true ∧ u.partOf 31 = 1 ∧
        u.budgetCause 31 { job0 with budget := 100, arraysNeeded := 1, background := true } 0 false = none) := by
  decide +kernel

/-- A translation fault of queue 31. -/
def fault31 (a : Nat) : TFault :=
  { tick := 4, offset := 7, addr := a, start := a, resolve := 0, write := false, kind := 1, level := 0, engine := 0 }

theorem witness_PreemptionSavesContext :
    (∀ stop ∈ [Stop.preempt, .park, .housekeeping, .deadline], let j := { job0 with stop := stop }
      let u := (running j).advanceCharged 0
      u.running? 31 = some j ∧ u.job? 31 3 = some j ∧ j.phase = .running ∧ j.guard = none ∧ (running j).running? 31 = some j ∧
        (running j).job? 31 3 = some j ∧ (running j).nextGuard = none) ∧
    (∀ phase ∈ [Phase.saving, .restoring], ∀ f ∈ [none, some (fault31 (hostWindow + 4096))], ∀ n ∈ [0, 1, 65536],
      let j := { job0 with phase := phase, contextBytes := n }; let s := (running j).setQueue 31 (fun x => { x with fault := f })
      let u := s.advanceCharged 0
      u.running? 31 = some j ∧ u.job? 31 3 = some j ∧ j.stop ≠ .deadline ∧ u.mem.ue = [] ∧ u.mem.opUe = [] ∧
        (u.queueAt 31).fault = f ∧ (u.queueAt 31).state ≠ .halted ∧ (∀ x ∈ u.arrs, Memory.wf x.store = true) ∧
        j.arrays = [7] ∧ j.contextBytes ≤ 2097152 ∧ u.contextAt 31 0 = 0 ∧
        u.permitted (u.partOf 31) true 0 n = true ∧ u.permitted (u.partOf 31) false 0 n = true) ∧
    (running job0).fabric.numberings = [] := by decide +kernel

theorem witness_JobsEndOnce :
    (∀ j ∈ [job0, { job0 with due := 4, carry := 1 }, { job0 with due := 4, carry := 1, started := some 4, preempts := 1 }],
      let u := (running j).advanceCharged 0
      u.running? 31 = some j ∧ u.job? 31 3 = some j ∧ (u.queueAt 31).fault = none ∧ j.phase = .running ∧ j.guard = none ∧
        j.transfer = false ∧ j.stop ≠ .deadline) ∧
    (let late := { job0 with due := 4, carry := 1 }
     let u := (running late).advanceCharged 0; ¬ (late.background = true ∨ late.due = u.tick.tick ∨ late.carry = 0)) ∧
    (∀ phase ∈ [Phase.waiting, .parked], ∀ carry ∈ [0, 1], let j := { job0 with due := 3, carry := carry, phase := phase }
      let s := running j
      (s.queueAt 31).jobs.find? s.overLimit = some j ∧ s.job? 31 3 = some j) := by decide +kernel

theorem witness_RecordsAreWritten :
    ((running job0).grants (req [1]) (Adr.queueAbort 31) ∧
      ((((running job0).heard 0 .S 0).queueAt 31).jobs.map (·.submitSeq)).Nodup) ∧
    (let e : Ended :=
       { status := 0, cause := 0, tick := 4, offset := 0, outputValid := true, isPartial := false, faultRef := 0, detail := 0 }
     ∀ standing ∈ [true, false], ∀ relaxed ∈ [true, false], ∀ shut ∈ [true, false], let j := { job0 with standing := standing, ended := some e }
     let s := ({ linked (running j) with fabric := { (running j).fabric with
       numberings := [{ Numbering.new 22 4 true 0 with closed := shut }] } } : State).setQueue
        31 (fun x => { x with ringOn := true, relaxed := relaxed })
     let u := (s.setNum (Adr.standingRecordAddr 31) 0).advance 0
     (u.queueAt 31).jobs = [j] ∧ (u.recordDue 31 j = true ∨ (standing = false ∧ shut = true)) ∧ u.closedPath 22 4 true 0 = shut ∧
       (relaxed = false → u.recordDue 31 j = true) ∧ u.job? 31 3 = some j ∧ u.mem.ue = [] ∧
       u.permitted (u.partOf 31) true (u.numAt (Adr.standingRecordAddr 31) + 3 % 16 * 64) 64 = true) := by
  unfold State.grants State.hears; decide +kernel

theorem witness_HousekeepingTestsArrays :
    (∀ p ∈ [0, 1], let s := (running job0).setNum (Adr.queuePartition 31) p
      s.hkMark.isSome = true ∧ (let u := s.advanceCharged (s.hkMark.getD 0)
        (u.arrAt 7).powered = true ∧ (u.arrAt 7).state ≠ .heldFault ∧ (u.arrAt 7).tile = .none ∧ s.bin.dispatcherRef = 0 ∧ s.tick.marked = false ∧
          (u.running? 31).isSome = true ∧ u.job? 31 3 = u.running? 31 ∧ u.partOf 31 = p)) ∧
    (∀ tile ∈ [TileState.due, .running], let s := mapped.setArr 7 (fun x => { x with
        powered := true, state := .idle, tile := tile })
      let u := s.advanceCharged 0; (u.arrAt 7).tile = tile ∧ (u.arrAt 7).job = none ∧ (u.arrAt 7).state = .idle) ∧
    (∀ on ∈ [false, true], let s := mapped.setArr 7 (fun x => { x with powered := true, state := .heldFault, localising := on })
      let u := s.advanceCharged 0
      (u.arrAt 7).state = .heldFault ∧ (u.arrAt 7).localising = on ∧ (u.arrAt 7).verdict = 0 ∧ (u.arrAt 7).powered = true) ∧
    (let s := running job0; let u := s.advanceCharged 0
     u.holder? 7 = some (31, job0) ∧ u.head? 31 = some job0 ∧ job0.active = true ∧ s.shareLeft 7 (s.partOf 31) = 5000 ∧
       s.dormant = false ∧ s.nextGuard = none ∧ job0.readyAt.isSome = true) ∧
    (let j := { job0 with phase := .waiting, arrays := [] }
     let s := (((mapped.setQueue 31 (fun x => { x with state := .active, jobs := [j] })).setArr 7 (fun x => { x with
        powered := true, state := .idle })).setNum (Adr.queueArrays 31) 128).setNum Adr.arrayEnable 128
     let s := s.setNum (Adr.queuePartition 31) 0
     let u := s.advanceCharged 0
     u.dispatchOpen = true ∧ (∀ k ∈ List.range 31, (u.queueAt k).jobs = []) ∧ u.waitingJob 31 = some j ∧ u.almanacOk j = true ∧
       u.nearMark (u.numAt Adr.dispatchGuard * 1000) = false ∧ u.queueArrays 31 = [7] ∧ u.arrayIdle 7 = true ∧
       ∀ b ∈ List.range 8, (u.arrAt b).job = none) := by decide +kernel

theorem witness_RegionsGuardMemory :
    (mapped.permitted 0 false 65532 4 = true ∧ mapped.permitted 0 true 65532 4 = true ∧ mapped.ueIn 65532 4 = [] ∧
      mapped.permitted 0 false 65533 4 = false ∧ mapped.permitted 0 true 65533 4 = false ∧ mapped.permitted 3 false 0 1 = false ∧
      Memory.wf mapped.mem.cells = true) ∧
    (base.numAt Adr.memCapacityMib = 0 ∧ ∃ r, r ∈ mapped.regions 0 ∧ r.inChart = false ∧ 0 < r.pages) := by
  exact ⟨by decide +kernel, by decide +kernel, ⟨0, 16, 3⟩, by decide +kernel⟩

theorem witness_MemoryUpkeep :
    (let s := mapped.setVal (Adr.regionTable 3) (.bytes (leBytes 8 0 ++ leBytes 4 16 ++ leBytes 2 7 ++ leBytes 2 0))
     let u := s.advanceCharged 0
     u.ingestRuns = true ∧ (∀ a ∈ [0, 61439, chartBase], u.scrubbed a = true ∧ u.mem.ue.contains (granuleBase a) = false ∧
        u.mem.ce.contains (granuleBase a) = false) ∧
       u.inAnyRegion 61439 = true ∧ u.inAnyRegion chartBase = false) ∧
    (let u := (running job0).advanceCharged 0
     u.ingestRuns = true ∧ (u.arrAt 7).powered = true ∧ u.mem.opUe.contains (7, 0) = false ∧ u.mem.opCe.contains (7, 0) = false ∧
       u.holder? 7 = some (31, job0) ∧
       u.job? 31 3 = some job0) ∧
    (let s := mapped.setArr 0 (fun x => { x with powered := true }); let u := s.advanceCharged 0
     u.ingestRuns = true ∧ (u.arrAt 0).powered = true ∧ u.holder? 0 = none) ∧
    (∀ v ∈ [0, 1, 13, 2, 4096 * 3 + 14], let r : Req := { req [] with payload := leBytes 8 v }
      mapped.grants r Adr.tlbInvalidate) ∧
    (∀ scope ∈ [0, 1, 13, 2, 3], ∀ answer ∈ [InvalidationEnd.port .S, .windowA], let s : State :=
       { mapped.setPort .S (fun k => { k with waiting := [⟨[], ⟨0, 0, 0, 0⟩, false⟩, ⟨[], ⟨0, 0, 0, 0⟩, false⟩] }) with
         mem := { mapped.mem with invalidating := [⟨scope, answer⟩] } }
     let u := s.advance 0
     u.translationsOpen scope = false ∧ (u.portAt .S).waiting.map (·.ready) = [false, false] ∧ Port.S.idx < u.ports.length) ∧
    (let s := mapped.setHost (fun h => { h with engines := modifyAt h.engines 7 (fun g => { g with
       reads := [{ tag := 0, off := 0, len := 2, partition := 1, page := 0, size := 4096 }] }) })
     (s.advance 0).translationsOpen 0 = true) := by
  unfold State.grants State.hears; decide +kernel

/-- Queue 31 with that fault, its item parked or still saving. -/
def faulted (a : Nat) (phase : Phase) : State :=
  ((running { job0 with phase := phase, parkedFor := 2 }).setQueue 31 (fun x => { x with
    state := .parked, fault := some (fault31 a) })).setNum (Adr.tfParkTimeout 31) 2

theorem witness_ParkedFaults :
    (∀ a ∈ [hostWindow, addressEnd - 1], ∀ phase ∈ [Phase.parked, .saving], ∀ v ∈ [1, 2],
      let s := faulted a phase; let r := req [v]; let h := s.heard r.t r.port r.sender
      (h.queueAt 31).fault = some (fault31 a) ∧ h.partOf 31 < 4 ∧ a < addressEnd ∧
        s.grants { r with payload := leBytes 1 v } (Adr.tfResolve 31) ∧
        (if phase = .parked then h.parked? 31 = h.job? 31 3 ∧ (h.parked? 31).isSome = true else h.parked? 31 = none)) ∧
    (let s := faulted hostWindow .parked
     (s.parked? 31).isSome = true ∧ s.parked? 31 = s.job? 31 3 ∧ s.numAt (Adr.tfParkTimeout 31) = 2) := by
  unfold State.grants State.hears; decide +kernel

theorem faulted_inv : (faulted hostWindow .parked).Inv := by unfold State.Inv State.Canonical State.Shaped; decide +kernel

/-- A packet from one endpoint to another with four bytes for the last word of the first region. -/
def fp (src dst : Fin 24) (bulk : Bool) (seq : Nat) : Packet :=
  { src := src, dst := dst, bulk := bulk, channel := 0, partition := 0, seq := seq, addr := 65532, payload := bytes [1, 2, 3, 4],
    queue := some 31, received := none }

/-- A state with a numbering in use. -/
def numbered (n : Numbering) : State := { running job0 with fabric := { numberings := [n], reads := [] } }

/-- That packet as it waits for its answer. -/
def out0 (p : Packet) (type resends : Nat) : Outstanding :=
  { type := type, packet := p, replay := false, resends := resends, sentAt := 100000000, float := false, owner := some (31, 3) }

theorem witness_FabricAppliesOnce :
    -- first sends and copies that arrive next in their numbering, of each type
    (∀ e ∈ [(0, (20 : Fin 24), false), (2, 20, false), (0, 4, true), (2, 4, false), (5, 4, true), (4, 19, true)], ∀ seq ∈ [0, 65535],
      ∀ copy ∈ [true, false], let p := fp e.2.1 18 e.2.2 seq
      let n := { Numbering.new e.2.1.val 18 e.2.2 0 with
        expected := seq, nextSeq := seq, outstanding := if copy then [out0 p e.1 0] else [] }
      let u := (numbered n).advanceCharged 0
      u.numberingOf p = n ∧ u.meshOpen p.src.val p.dst.val = true ∧ classOk e.1 p = true ∧ u.ownerOk p = true ∧
        p.received = none ∧ n.accepted p.seq = false ∧ n.closed = false ∧ (copy = false → n.maySend p.seq = true) ∧
        (n.outstanding.find? (fun x => x.packet.seq == p.seq)).isSome = copy ∧ n.ahead = [] ∧ n.held = [] ∧
        (∀ b c, (u.numbering 18 e.2.1.val b c) = Numbering.new 18 e.2.1.val b c) ∧ u.mem.ue = [] ∧ memoryEnd p.dst.val = true ∧
        (unpartitioned p.src.val = true ∨ (u.permitted 0 true p.addr 4 = true ∧ u.permitted 0 false p.addr 4 = true))) := by
  intro e he seq hs copy hc
  simp only [List.mem_cons, List.not_mem_nil, or_false] at he hs hc
  obtain rfl | rfl | rfl | rfl | rfl | rfl := he <;> obtain rfl | rfl := hs <;> obtain rfl | rfl := hc <;>
    exact ⟨by decide +kernel, by decide +kernel, by decide +kernel, by decide +kernel, by decide +kernel, by decide +kernel,
      by decide +kernel, by decide +kernel, by decide +kernel, by decide +kernel, by decide +kernel, fun _ _ => rfl,
      by decide +kernel, by decide +kernel, by decide +kernel⟩

theorem witness_FabricKeepsOrder :
    (let p := { fp 4 18 false 0 with addr := 0 }; let u := (numbered (Numbering.new 4 18 false 0)).advanceCharged 0
     ∀ k ∈ [0, 1, 255, 256], u.permitted p.partition.val false p.addr k = true) ∧
    -- an accepted SEQ, one ahead of a gap, and a packet that fails its check, of the three kinds of requests
    (∀ e ∈ [(0, (20 : Fin 24), false), (4, 19, true), (2, 20, false)], let p := fp e.2.1 18 e.2.2 65535
     let u := (numbered (Numbering.new e.2.1.val 18 e.2.2 0)).advanceCharged 0
     u.meshOpen p.src.val p.dst.val = true ∧ classOk e.1 p = true ∧ u.ownerOk p = true ∧ p.src ≠ p.dst ∧
       (u.numberingOf p).accepted p.seq = true ∧ (u.numberingOf p).outstanding = []) ∧
    (let p := fp 20 18 false 1; let u := (numbered { Numbering.new 20 18 false 0 with nextSeq := 1 }).advanceCharged 0
     let n := u.numberingOf p; n.outstanding = [] ∧ n.closed = false ∧ n.maySend p.seq = true ∧
       n.accepted p.seq = false ∧ p.seq ≠ n.expected ∧ n.held = []) ∧
    (∀ waits ∈ [true, false], let o := out0 (fp 20 18 false 0) 0 0; let bad := o.bytes.take 20 ++ [0, 0, 0, 0]
     let p := { fp 20 18 false 0 with received := some ⟨18, bad⟩ }
     let u := (numbered { Numbering.new 20 18 false 0 with outstanding := if waits then [o] else [] }).advanceCharged 0
     packetChecks o.bytes = true ∧ packetChecks bad = false ∧ field bad 0 1 = 20 ∧
       ((u.numberingOf p).outstanding.find? (fun x => x.packet.seq == p.seq)).isSome = waits ∧
       (u.numberingOf p).accepted p.seq = false ∧ (waits = false → (u.numberingOf p).maySend p.seq = true) ∧
       u.part.variant.endpoint 18 = true ∧ u.part.variant.endpoint 20 = true ∧ u.meshOpen 20 18 = true) := by
  decide +kernel

/-- The way back: the answer that names packet 9, whole or damaged on its way. -/
def ack9 (src dst : Fin 24) (good : Bool) : Packet :=
  { fp src dst false 0 with addr := 9, received := if good then none else some ⟨dst, zeros 24⟩ }

theorem witness_FabricRecovers :
    (∀ e ∈ [(0, (20 : Fin 24), false), (2, 20, false), (4, 19, true), (5, 19, true)], ∀ resends ∈ [0, 2, 3],
      let o := out0 (fp e.2.1 18 e.2.2 9) e.1 resends
      let n := { Numbering.new e.2.1.val 18 e.2.2 0 with outstanding := [o], nextSeq := 10 }
      let u := (numbered n).advanceCharged 0
      u.meshOpen 18 e.2.1.val = true ∧ u.meshOpen e.2.1.val 18 = true ∧ arrivesGood (ack9 18 e.2.1 true) = true ∧
        arrivesGood (ack9 18 e.2.1 false) = false ∧ (ack9 18 e.2.1 true).addr % 2 ^ 16 = 9 ∧ (u.numbering e.2.1.val 18 e.2.2 0) = n ∧
        n.outstanding.find? (fun x => x.packet.seq == 9) = some o ∧ (u.job? 31 3).isSome = true ∧
        ((u.job? 31 3).bind (·.ended)) = none ∧
        ((numbered n).advanceCharged 200000000).tick.now = 200000000 ∧ o.sentAt + u.numAt Adr.ackTimeout ≤ 200000000) ∧
    (∀ resends ∈ [0, 3], let p := { fp 20 18 false 9 with addr := 5, payload := [] }; let r := out0 p 8 resends
      let n := { Numbering.new 20 18 false 0 with closed := true, reset := some r }
      let u := (numbered n).advanceCharged 0
      u.numbering 20 18 false 0 = n ∧ n.outstanding = [] ∧ n.reset = some r ∧ r.packet.seq = 9 ∧ r.packet.src = p.src ∧
        r.packet.dst = p.dst ∧ p.src ≠ p.dst ∧ u.meshOpen 20 18 = true ∧ u.meshOpen 18 20 = true ∧ arrivesGood p = true) ∧
    (numbered { Numbering.new 20 18 true 0 with closed := true }).Inv := by
  unfold State.Inv State.Canonical State.Shaped; decide +kernel

/-- A COPY of queue 31 of four bytes whose host page ends after two of them. -/
def copy0 (out : Bool) : Job :=
  { job0 with
    kind := 1, phase := .waiting, arrays := [], copyAddr := hostWindow + 4094, copyDev := 65532, copyLen := 4,
    copyOut := out }

/-- Its descriptor. -/
def desc0 (kind : Nat) : Bytes := leBytes 8 9 ++ zeros 17 ++ leBytes 1 kind ++ zeros 30 ++ leBytes 4 3 ++ zeros 4

/-- Queue 31 with that COPY at its head, both host pages cached. -/
def copying (j : Job) (relaxed : Bool) : State :=
  let s := linked (mapped.setQueue 31 (fun x => { x with
    state := .active, jobs := [j], ringOn := true, log2 := 1, relaxed := relaxed }))
  let tlb := [⟨0, 4096, 4096, 1048576, 24⟩, ⟨0, 0, 4096, 1044480, 24⟩]
  (({ s with mem := { s.mem with tlb := tlb } } : State).setNum (Adr.queuePartition 31) 0).setNum (Adr.queueCopyEngine 31) 7

def copyOp (len : Nat) : CopyOp := { t := 0, fromImage := false, desc := desc0 1, hostData := zeros len }

/-- A read of an engine outstanding under a tag. -/
def read0 (tag off len : Nat) : HostRead := { tag := tag, off := off, len := len, partition := 0, page := 0, size := 4096 }

theorem copying_inv : (copying (copy0 true) true).Inv := by unfold State.Inv State.Canonical State.Shaped; decide +kernel

theorem witness_CopiesAndFences :
    (∀ out ∈ [true, false], let j := copy0 out; let s := copying j false; let op := copyOp 4; let u := s.advanceCharged op.t
      u.itemOf 31 (readDescriptor op.desc (field op.desc 56 4)) = some j ∧ u.head? 31 = some j ∧ u.job? 31 3 = some j ∧
        j.copyAddr + j.copyLen ≤ addressEnd ∧ u.ingestRuns = true ∧ (u.queueAt 31).state = .active ∧
        (u.queueAt 31).fault = none ∧ u.hostOpen = true ∧ u.numAt (Adr.queueCopyEngine 31) = 7 ∧ u.fabric.numberings = [] ∧
        (u.engineAt 7).owner = none ∧ (u.engineAt 7).held = none ∧ (u.engineAt 7).reads = [] ∧ u.mem.ue = [] ∧
        (∀ k ∈ List.range 4, (u.cached 0 (4094 + k)).any (fun c =>
          c.bus + (4094 + k - c.page) == 1048574 + k && bitAt c.leaf 3 && bitAt c.leaf 4) = true) ∧
        u.permitted 0 (!out) j.copyDev j.copyLen = true) ∧
    (let j := copy0 false; let s := copying j false
     let g : Engine := ⟨some (31, 3), [read0 255 0 2, read0 9 2 2], [read0 0 0 2], none⟩
     let s := s.setHost (fun h => { h with engines := List.replicate 8 g })
     let u := s.advanceCharged 0; let g := u.engineAt 7
     g.abandoned.any (fun r => r.tag == 0) = true ∧ g.owner = some (31, 3) ∧ u.job? 31 3 = some j ∧ u.mem.ue = [] ∧
       (∀ r ∈ [read0 255 0 2, read0 9 2 2], g.abandoned.any (fun x => x.tag == r.tag) = false ∧
         g.reads.find? (fun x => x.tag == r.tag) = some r ∧
         u.permitted (u.partOf 31) true (j.copyDev + r.off) r.len = true)) ∧
    (let r : MeshRead := { engine := 7, tag := 255, request := out0 (fp 22 4 false 9) 2 0 }
     let u := ({ copying (copy0 false) false with fabric := { numberings := [], reads := [r] } } : State).advanceCharged 0
     u.fabric.reads.find? (fun r => r.engine == 7 && r.tag == 255) = some r ∧ u.fabric.numberings = [] ∧
       (u.engineAt 7).abandoned = [] ∧ (u.engineAt 7).reads = []) := by decide +kernel

theorem witness_Fences :
    (∀ relaxed ∈ [true, false], ∀ n ∈ [[], [{ Numbering.new 22 4 true 0 with closed := true }],
        [{ Numbering.new 22 4 true 0 with outstanding := [out0 (fp 22 4 true 9) 0 0] }]],
      let j := { copy0 true with kind := 2 }; let s := { copying j relaxed with fabric := { numberings := n, reads := [] } }
      let u := s.advanceCharged 0
      u.itemOf 31 (readDescriptor (desc0 2) (field (desc0 2) 56 4)) = some j ∧ u.head? 31 = some j ∧ u.job? 31 3 = some j ∧
        u.ingestRuns = true ∧ (u.queueAt 31).state = .active ∧ (u.queueAt 31).relaxed = relaxed ∧
        u.closedPath 22 4 true 0 = n.any (·.closed) ∧ u.bulkOpen 22 4 = n.any (fun m => !m.outstanding.isEmpty)) := by
  decide +kernel

theorem witness_WindowAControlsRings :
    (∀ shut ∈ [true, false], let s := linked { mapped with fabric := { mapped.fabric with
        numberings := [{ Numbering.new 20 4 false 0 with closed := shut }] } }
     let u := s.advance 0
     s.windowsOpen = true ∧ (u.queueAt 31).ringOn = false ∧ u.numAt (Adr.queueMode 31) = 0 ∧ u.recordPathClosed = shut ∧
       (∀ log2 ∈ [1, 10], bitsAt (16 * log2 + 3) 7 4 = log2 ∧ bitAt (16 * log2 + 3) 0 = true) ∧
       ((s.setNum (Adr.queueMode 31) 1).advance 0).numAt (Adr.queueMode 31) ≠ 0 ∧
       s.host.ring.enabled = false ∧ bitsAt (16 * 8 + 1) 7 4 = 8) ∧
    (let e : Ended :=
       { status := 0, cause := 0, tick := 4, offset := 0, outputValid := true, isPartial := false, faultRef := 0, detail := 0 }
     ∀ d ∈ [none, some e], let s := copying { copy0 true with ended := d } false; let u := s.advance 0
     s.windowsOpen = true ∧ (u.queueAt 31).ringOn = true ∧ ((u.queueAt 31).jobs.map (·.ended)) = [d]) ∧
    (let e : Ended :=
       { status := 0, cause := 0, tick := 4, offset := 0, outputValid := true, isPartial := false, faultRef := 0, detail := 0 }
     ∀ n ∈ [0, 31], let s := (copying { copy0 true with ended := some e } false).setQueue n (fun x => { x with
       state := .halted, haltBme := true, ringOn := true })
     let v := s.advanceCharged 0
     let w := v.setQueue n (fun y => { y with state := v.openState n, haltBme := false })
     s.windowsOpen = true ∧ v.hostOpen = true ∧ v.recordPathClosed = false ∧ (v.queueAt n).state = .halted ∧
       (v.queueAt n).haltFabric = false ∧ (v.queueAt n).haltFlr = false ∧
       ∀ j ∈ (v.queueAt n).jobs, j.standing = false ∧ w.recordDue n j = true) ∧
    (let s := (linked mapped).setQueue 31 (fun x => { x with state := .halted, haltFlr := true })
     s.windowsOpen = true ∧ (s.advanceCharged 0).queueAt 31 ≠ (mapped.queueAt 31)) := by decide +kernel

/-- One enabled entry of requester 258, partition 1: the span 4096 to 8191, at device address 0. -/
def placing (signal : Nat) : State :=
  let b := leBytes 2 258 ++ leBytes 1 1 ++ leBytes 1 1 ++ leBytes 4 4096 ++ leBytes 4 4096 ++ zeros 4 ++ leBytes 8 0 ++
    leBytes 8 signal
  (linked (mapped.setVal (Adr.regionTable 1) (.bytes (leBytes 8 0 ++ leBytes 4 16 ++ leBytes 2 3 ++ leBytes 2 0)))).setVal
    Adr.placementTable (.bytes b)

theorem witness_WindowAReachesUnits :
    (∀ owner ∈ [Port.S, .H], ∀ k ∈ [0, 63], ∀ a ∈ [Adr.passes 0, Adr.storeCount], let s : State :=
        { (linked mapped).setNum (Adr.mirrorList k) a with own := { base.own with owner := some owner } }
      s.windowsOpen = true ∧ (s.advance 0).mirrored k = some a ∧ counterWritable a = (a == Adr.passes 0) ∧
        s.host.latches.length = 64 ∧ s.host.presets.length = 64 ∧ s.own.owner = some owner) ∧
    (∀ signal ∈ [0, 65528], ∀ waits ∈ [true, false], let s := placing signal
      let s := { s with
        host := { s.host with placed := [(258, 18)] },
        fabric := { s.fabric with numberings := if waits then
          [{ Numbering.new 4 18 true 0 with outstanding := [out0 (fp 4 18 true 9) 0 0] }] else [] } }
      let u := s.advance 0
      let e : Placement :=
        { requester := 258, enabled := true, partition := 1, offset := 4096, length := 4096, base := 0, signal := signal }
      s.ingestRuns = true ∧ s.windowBOpen = true ∧ u.placements = [(e, 0)] ∧ u.mem.ue = [] ∧
        u.fabric.numberings.any (·.closed) = false ∧ u.bulkOpen 4 18 = waits ∧ u.sweepDone 4 18 = !waits ∧ s.host.signals = [] ∧
        (∀ o ∈ [4096, 8191], o + 1 ≤ e.offset + e.length ∧ u.permitted 1 true (e.base + (o - e.offset)) 1 = true) ∧
        (signal ≠ 0 → u.permitted 1 true signal 8 = true) ∧ 0xFF000 + 8 * 0 + 8 > e.offset + e.length) := by decide +kernel

theorem witness_HostLossIsContained :
    (∀ j ∈ [copy0 true, { job0 with transfer := true }, { job0 with phase := .parked }], let s := copying j false
      let u := s.advanceCharged 0
      s.host.bme = true ∧ u.hostBound 31 (nth (u.queueAt 31).jobs 0 j) = true ∧ ((u.queueAt 31).jobs.map (·.submitSeq)).Nodup ∧
        (u.queueAt 31).jobs.length = 1 ∧ u.hostLinked 31 = true ∧ (u.queueAt 31).state = .active) ∧
    (let s := (copying (copy0 true) false).setHost (fun h => { h with
        bme := false, ring := { ControlRing.zero with enabled := true, log2 := 1, heldRsp := [zeros 64] }, msixEnable := true,
        msixMasked := List.replicate 63 true ++ [false], msixPending := List.replicate 64 true })
     s.host.linkUp = true ∧ s.host.functionReady = true ∧ s.host.bme = false ∧ s.host.d3hot = false ∧ s.dormant = false ∧
       s.windowsOpen = true ∧ s.host.msixEnable = true ∧ s.host.msixFunctionMask = false ∧
       nth s.host.msixPending 63 false = true ∧ nth s.host.msixMasked 63 true = false ∧ s.host.msixMasked.length = 64 ∧
       s.host.msixTable.length = 64 ∧ nth (s.advanceCharged 0).host.msixPending 0 false = true ∧
       nth s.host.msixMasked 0 true = true) ∧
    (∀ p ∈ [Port.S, .H], ∀ ready ∈ [true, false], let s : State :=
        { (copying (copy0 true) false).setHost (fun h => { h with functionReady := ready }) with
          own := { base.own with owner := some p } }
      s.own.owner = some p ∧ s.dormant = false ∧ s.host.linkUp = true ∧ s.host.functionReady = ready ∧
        (s.advanceCharged 0).hostLinked 31 = true) := by decide +kernel

/-- A device whose mailbox port is as told, served from the PCIe side or the SPI side. -/
def mailed (m : Nat) (spi : Bool) (f : Mailbox → Mailbox) : State :=
  ((linked base).setNum (Adr.mbxSide m) (if spi then 2 else 1)).setMailbox m f

theorem witness_MailboxSides :
    (∀ m ∈ [0, 7], ∀ spi ∈ [true, false], ∀ full ∈ [true, false], let s := mailed m spi (fun x => { x with inFull := full })
      s.dormant = false ∧ s.windowsOpen = true ∧ s.spiServes m = spi ∧ (s.mailboxAt m).inFull = full ∧
        (s.mailboxAt m).inBuf.length = 256) ∧
    (mailed 7 true id).Inv := by unfold State.Inv State.Canonical State.Shaped; decide +kernel

/-- A message in the inbound buffer of a mailbox port. -/
def message (m : Nat) (b : Bytes) : State :=
  mailed m true (fun x => { x with inBuf := b ++ zeros (256 - b.length), inLen := b.length, inFull := true })

theorem witness_MailboxMessages :
    (∀ c ∈ [1, 2, 3, 4, 5, 6, 7, 8, 9, 10, 255], let u := (message 0 (leBytes 1 c ++ zeros 5)).arrival 0
      let b := (u.mailboxAt 0).inBuf.take (u.mailboxAt 0).inLen
      (u.mailboxAt 0).inFull = true ∧ u.takesMessages 0 = true ∧ 6 ≤ b.length ∧ field b 0 1 = c) ∧
    (∀ c ∈ [0x81, 0x82, 0x83], let u := (message 7 (leBytes 1 c ++ zeros 1 ++ leBytes 2 4 ++ zeros 8)).arrival 0
      let b := (u.mailboxAt 7).inBuf.take (u.mailboxAt 7).inLen
      (u.mailboxAt 7).inFull = true ∧ u.takesMessages 7 = true ∧ 8 ≤ b.length ∧ field b 2 2 = b.length - 8 ∧ field b 0 1 = c) ∧
    (let s := mailed 0 true (fun x => { x with out := [zeros 256, []] })
     (s.advance 0).takesMessages 0 = true ∧ (s.mailboxAt 0).outFull = false ∧ (s.mailboxAt 0).out = [zeros 256, []]) ∧
    (let s := mailed 7 true (fun x => { x with out := [[1, 0, 1, 6]], msgSeq := 2 ^ 32 - 1 })
     (s.advance 0).takesMessages 7 = true ∧ (s.mailboxAt 7).outFull = false ∧ ((s.advance 0).nextMessage 7).isSome = true) ∧
    (∀ owner ∈ [Port.S, .H], let s : State := { mailed 7 true id with
        own := { base.own with owner := some owner }, keys := { Keys.zero with fifo := [⟨0, false, false, 1, 0, 1, 5, 0⟩], nextSeq := 2 },
        panels := modifyAt base.panels 3 (fun x => { x with reports := [⟨1, []⟩], nextSeq := 2 }) }
      let u := s.arrival 0; let p := u.messagePort 7
      u.takesMessages 7 = true ∧ (u.refuses p Adr.eventAck (.num 1) = none ↔ owner = .S) ∧
        (u.refuses p (Adr.reportAck 3) (.num 1) = none ↔ owner = .S) ∧ (leBytes 4 1).length = 4 ∧
        (let b := leBytes 1 3 ++ zeros 3 ++ leBytes 4 1; b.length = 8 ∧ field b 1 3 = 0 ∧ field b 0 1 = 3 ∧ field b 4 4 = 1)) := by
  decide +kernel

/-- A reaction in hand. -/
def react (cls mechanism : Nat) (wait : Option Nat) : FaultRx :=
  { seq := 7, cls := cls, mechanism := mechanism, unit := 7, unitKind := 0, verdictOf := wait, verdict := 0, t0 := 1, tick := 5,
    offset := 0, ticked := true, part := none, queue := none, tag := none, cause := 0, detail := none, address := none,
    powerState := 3, tempMax := 0, supplyMv := 0, translation := [], fabric := [], almanacSelect := 0, fixedForm := false,
    firstFault := false, microcode := 0, binnacleFw := 0,
    vector := none, suppressed := 0 }

def reacting (rs : List FaultRx) (ring : List LogRec) : State :=
  { base.setNum Adr.safetyMsgEnable 1 with
    bin := { base.bin with reactions := rs }, log := { Logbook.zero with nextSeq := 8, ring := ring } }

theorem witness_SafetyFaultsAreDetected :
    (base.bin.faultN = true ↔ base.bin.state ≠ .normal) ∧
    (let u := (running job0).advanceCharged 0
     (u.arrAt 7).powered = true ∧ u.holder? 7 = some (31, job0) ∧ u.job? 31 3 = some job0 ∧ u.ingestRuns = true ∧
       u.bin.reactions = []) ∧
    (∀ m ∈ [2, 0x13], let e := { react 1 m none with t0 := 100000000 }
     let u := ({ running job0 with bin := { base.bin with reactions := [e] } } : State).advanceCharged 100000000
     u.bin.reactions = [e] ∧ e.seq ≠ 0 ∧ e.t0 = u.tick.now) ∧
    (let u := (running job0).advance 0
     (∀ d ∈ [Domain.aon, .ctl, .sense, .bin, .host, .ingest, .fab, .array, .mem], u.domainRuns d = true ∧ d ∉ u.bin.clocks) ∧
       u.dormant = false ∧ ∀ r ∈ [Rail.array, .logic, .sram], u.railWatched r = true ∧ r ∉ u.bin.rails) ∧
    (let s : State := { base with bin := { base.bin with clocks := [.mem, .aon], rails := [.sram, .array] } }
     (∀ d ∈ [Domain.mem, .aon], d ∈ (s.advance 0).bin.clocks) ∧ ∀ r ∈ [Rail.sram, .array], r ∈ (s.advance 0).bin.rails) := by
  decide +kernel

/-- A record under the number 1. -/
def rec1 (cls : Nat) : LogRec := { seq := 1, cls := cls, signature := 0, bytes := [], damaged := false }

theorem witness_RecordsReachPersistentArea :
    (∀ cls ∈ [1, 2], ∀ wait ∈ [none, some 7], ∀ k ∈ [0, 512], let s := reacting [react cls 2 wait] (List.replicate k (rec1 2))
      let s := s.setNum Adr.logbookPolicy 1; let u := s.advance 0
      u.bin.reactions = [react cls 2 wait] ∧ u.dormant = false ∧ u.flagAt Adr.safetyMsgEnable = true ∧ u.bin.state ≠ .starting ∧
        u.log.ring.length = k ∧ u.numAt Adr.logbookPolicy = 1 ∧ u.exported 1 = false) ∧
    (∀ k ∈ [63, 64], let s : State := { base with log := { Logbook.zero with
        copying := [rec1 1], persist := List.replicate k (rec1 1) } }
      s.log.copying = [rec1 1] ∧ s.log.persist.length = k) := by decide +kernel

theorem witness_BinnacleReports :
    (∀ mask ∈ [0, 2], let s : State := { base.setNum Adr.faultLatchedMask mask with
        bin := { base.bin with state := .starting, faultN := true } }
      let u := s.advance 0
      s.dormant = false ∧ u.power.romOnly = false ∧ u.power.binnacleOk = true ∧ u.bin.state = .starting ∧
        u.numAt Adr.faultLatchedMask = mask) ∧
    (let s : State := { base.setNum Adr.safetyMsgEnable 1 with
        bin := { base.bin with
          alive := 65535, message := some [1], normalSince := true, normalAtLast := true, ends := [⟨31, 4, true⟩] },
        tick := { base.tick with history := [(5, 100000000), (4, 66666667)] } }
     let s := ((s.setNum (Adr.safetyOutput 15) 31).setNum (Adr.queueEnable 31) 1).setNum (Adr.queuePartition 31) 0
     s.dormant = false ∧ s.bin.described ≠ some 4 ∧ s.flagAt Adr.safetyMsgEnable = true ∧ s.bin.state ≠ .starting ∧
       s.bin.message = some [1] ∧ (s.advance 0).ctlRuns = true ∧ bitAt (s.outputValid 4) 15 = true) ∧
    ({ base.bin with safetyInLast := 1 }.safetyInLast ≠ 0) := by decide +kernel

theorem witness_OwnerClearsFaults :
    (let s := base.setNum Adr.faultLatchedMask 4
     s.grants (req32 0x6B636166) Adr.faultAck ∧ (s.heard 0 .S 0).bin.state ≠ .starting) ∧
    (let s := base.setArr 7 (fun x => { x with powered := true, state := .heldFault, verdict := 4 })
     s.grants (req [7]) Adr.arrayFaultClear) ∧
    base.grants (req32 0x726C636C) Adr.logbookClear ∧
    (let s : State := { base with power := { base.power with debugUnlocked := true } }
     s.grants (req32 0x726C6370) Adr.persistClear) := by
  unfold State.grants State.hears; decide +kernel

theorem witness_FaultPinFollowsSafetyState :
    (State.reset.bin.faultN = true ↔ State.reset.bin.state ≠ .normal) ∧
      (match step State.reset with | .next _ => true | _ => false) = true := by decide +kernel

theorem witness_ReadSelectors :
    (∀ k ∈ [0, 4294967295], base.grants (req32 k) Adr.logbookReadSeq) ∧
    (∀ k ∈ [0, 63], base.grants (req [k]) Adr.persistReadIndex) := by
  unfold State.grants State.hears; decide +kernel

/-- A scanning matrix of one column and two rows whose key 1 is one reading short of its press, as told. -/
def scanning (idle len : Nat) (held : List Nat) : State :=
  { (base.setNum Adr.keyColumns 1).setNum Adr.keyRows 2 with keys := { Keys.zero with
      scanning := true, activeAt := 100000000, idleScans := idle, runs := [⟨1, len, 99000000⟩], pressed := held } }

theorem witness_KeysButtonsEncoders :
    (let u := base.advance 0; u.ctlServes = true ∧ base.keys.scanning = false) ∧
    (let s : State := { base with power := { base.power with state := .dormant } }
     s.dormant = true ∧ bitAt (s.numAt Adr.wakeEnable) 2 = true) ∧
    (∀ len ∈ [1, 4], ∀ t ∈ [100000000, 100002000], let s := scanning 0 len [0]; let v := (s.advance t).applyMatrix t
      s.scanDue t = true ∧ s.numAt Adr.keyRows ≤ 16 ∧ v.keysInUse = [0, 1] ∧ v.keyEnabled 1 = true ∧
        v.keys.mute.contains 1 = false ∧ v.keys.lock = .off ∧ v.keys.fifo.length + 2 + 1 ≤ 64 ∧
        v.keys.pressed.contains 1 = false ∧ v.keys.pressed.contains 0 = true) ∧
    (∀ last ∈ [none, some 95000000], let s : State := { base.setNum Adr.btnPeriodMs 5 with keys := { Keys.zero with
        btnLast := last } }
      (s.advance 100000000).ctlServes = true ∧ last.getD 0 + s.numAt Adr.btnPeriodMs * 1000000 ≤ 100000000) ∧
    (∀ e ∈ [0, 7], let at_ (last : Option Nat) : State := { base.setNum (Adr.encEnable e) 1 with keys := { Keys.zero with
        encoders := List.replicate 8 { Encoder.zero with lastStep := last } } }
      let f := ((at_ none).numAt (Adr.encFilterUs e) + 1) * 1000
      (at_ (some (200000000 - f))).stepTooFast e 200000000 = false ∧ (at_ (some (200000001 - f))).stepTooFast e 200000000 = true ∧
        (at_ none).ctlServes = true ∧ (at_ none).stepTooFast e 200000000 = false ∧
        ((at_ none).advance 200000000).ctlServes = true ∧ (at_ none).flagAt (Adr.encEnable e) = true) ∧
    (∀ net ∈ [(0 : Int), -3, 32767], let s : State := { base with keys := { Keys.zero with
        encoders := List.replicate 8 { Encoder.zero with windowAt := some 100000000, windowEnd := 100000001, net := net },
        fifo := List.replicate 62 ⟨1, false, false, 1, 0, 1, 5, 0⟩ } }
      (s.encoderAt 7).windowAt = some 100000000 ∧ s.ctlServes = true ∧ s.keys.fifo.length + 2 = 64) := by decide +kernel

theorem witness_MatrixGoesIdle :
    (∀ idle ∈ [0, 1], ∀ held ∈ [[], [0]], let s := scanning idle 1 held
      s.scanDue 100000000 = true ∧ s.keys.idleScans = idle) ∧
    (scanning 1 1 []).Inv := by unfold State.Inv State.Canonical State.Shaped; decide +kernel

/-- A state with a key lock and with keys held, as told. -/
def locking (l : Lock) (scan : Bool) : State :=
  { base with keys := { Keys.zero with
      lock := l, scanning := scan, pressed := [3], reported := [3], btnPressed := [15], btnReported := [15], unlockAt := some 100000001, nextSeq := 2,
      fifo := List.replicate 64 ⟨1, false, false, 1, 0, 1, 5, 0⟩ } }

theorem witness_KeyEventsAndLock :
    (∀ n ∈ [0, 62, 63, 64], let s : State := { base with keys := { Keys.zero with
        fifo := List.replicate n ⟨1, false, false, 1, 0, 1, 5, 0⟩ } }
      s.keys.fifo.length = n) ∧
    (∀ v ∈ [0, 1], (locking .off false).grants (req32 v) Adr.eventAck) ∧
    (∀ scan ∈ [true, false], let s := locking .off scan
      s.grants { req [] with payload := leBytes 1 1 } Adr.keyLock ∧ (s.heard 0 .S 0).keys.lock = .off ∧
        (s.heard 0 .S 0).keys.scanning = scan) ∧
    (let s := locking .on true
     s.grants { req [] with payload := leBytes 1 0 } Adr.keyLock ∧ (s.heard 0 .S 0).keys.lock = .on ∧
       s.keys.unlockAt = some 100000001 ∧ s.keys.lock = .on ∧ s.dormant = false) ∧
    (∀ cause ∈ [0, 1], let s := locking (.requested cause) true; let u := s.advance 0
      s.keys.lock = .requested cause ∧ u.ctlServes = true ∧ s.keys.scanEnd ≤ u.tick.now) := by
  unfold State.grants State.hears; decide +kernel

theorem witness_KeyEnableMask :
    (let s := locking .off true; let v := bytes (List.replicate 32 247)
     s.grantsBlock (block Adr.keyEnableMask (List.replicate 32 247)) Adr.keyEnableMask v ∧
       (s.heard 0 .S 0).bytesAt Adr.keyEnableMask ≠ v) := by
  unfold State.grantsBlock State.hears; decide +kernel

/-- A reference map of a panel of one drive and one sense electrode. -/
def map0 : Bytes :=
  let b := leBytes 2 0x5052 ++ leBytes 2 200 ++ leBytes 1 96 ++ leBytes 1 1 ++ leBytes 1 144 ++ leBytes 1 1 ++ leBytes 2 24 ++
    zeros 6 ++ leBytes 2 1000 ++ leBytes 2 500 ++ leBytes 2 500
  b ++ leBytes 4 (crc32c b)

/-- The panel's settings of that size. -/
def cfg0 : PanelCfg :=
  { ((base.setNum (Adr.driveCount 3) 1).setNum (Adr.senseCount 3) 1).panelCfg 3 false with enabled := 1 }

/-- Panel 3 of that size, in a state, with its map or none. -/
def touching (st : PanelState) (start : Option Nat) (map : Bytes) : State :=
  let s := ((base.setNum (Adr.driveCount 3) 1).setNum (Adr.senseCount 3) 1).setNum (Adr.freqEnable 3) 1
  { s.setPanel 3 (fun x => { x with state := st, cfg := some cfg0, frameStart := start, baselines := List.replicate 9 [1000] }) with
    nvm := { base.nvm with refMaps := [[], [], [], map] } }

theorem witness_TouchPanels :
    (∀ on ∈ [0, 1], let s := (touching (if on = 1 then .off else .active) none []).setNum (Adr.panelEnable 3) (1 - on)
      let r := req [on]; let h := s.heard 0 .S 0
      s.grants r (Adr.panelEnable 3) ∧ writeValue (Adr.panelEnable 3) r.payload = .num on ∧
        h.valAt (Adr.panelEnable 3) = .num (1 - on) ∧ h.touchServes = true) ∧
    (let s := touching .calibrating none []; let u := s.advance 0
     u.touchServes = true ∧ (s.panelAt 3).frameStart = none ∧ u.nextCalibration 3 = some 0) ∧
    (∀ last ∈ [none, some 100000000], let s := (touching .active none []).setPanel 3 (fun x => { x with lastStart := last })
      let u := s.advance 100000000
      u.touchServes = true ∧ (s.panelAt 3).frameStart = none ∧ (u.frameDue 3 100000000 = true ↔ last = none)) ∧
    (∀ map ∈ [map0, []], let s := touching .active none map; let r := req [8]
      s.grants r Adr.selfTest ∧ (writeValue Adr.selfTest r.payload).toNat = 2 ^ 3 ∧
        ((s.heard 0 .S 0).mapStatusOf 3 = 0 ↔ map = map0)) ∧
    (let s := touching .selfTest (some 100000000) map0; let u := s.advance 200000000
     u.touchServes = true ∧ (s.panelAt 3).state = .selfTest ∧ (s.panelAt 3).frameStart = some 100000000 ∧
       (s.panelAt 3).cfg = some cfg0 ∧
       frameOver cfg0.drives (u.scanAt 3 cfg0 8).2 ((cfg0.drives + cfg0.senses) * 20) (u.scanAt 3 cfg0 8).1 100000000 200000000 =
         true) ∧
    (∀ v ∈ [0, 2 ^ 32 - 1], (touching .active none []).grants (req32 v) (Adr.reportAck 3)) := by
  unfold State.grants State.hears; decide +kernel

theorem witness_DisplaySync :
    (∀ last ∈ [none, some 99900000, some 100000000], let s := (touching .active none []).setPanel 3 (fun x => { x with
        lastEdge := last })
      let u := s.advance 100000000
      u.touchServes = true ∧ u.numAt (Adr.dsyncInput 3) = 3 ∧ u.numAt (Adr.dsyncPolarity 3) = b2n false ∧
        (s.panelAt 3).state ≠ .off ∧ u.numAt (Adr.dsyncInput 0) ≠ 3) ∧
    (let s := (touching .active none []).setNum (Adr.noiseMode 3) 1; let u := s.advance 500000000; let x := s.panelAt 3
     u.touchServes = true ∧ x.state = .active ∧ u.numAt (Adr.noiseMode 3) = 1 ∧ x.fallback = false ∧
       max x.waitFrom (x.lastEdge.getD 0) + u.numAt (Adr.dsyncTimeoutMs 3) * 1000000 ≤ 500000000) ∧
    (∀ p ∈ [0, 3], let s : State := { touching .active none [] with power := { base.power with debugUnlocked := true } }
      let l := [p, 0, 0, 0, 7]
      s.grantsBlock (block Adr.touchRefMapWrite l) Adr.touchRefMapWrite (bytes l) ∧ (s.heard 0 .S 0).nvm.refMaps.length = 4) := by
  unfold State.grantsBlock State.hears; decide +kernel

theorem witness_TouchFramesTrackContacts :
    (∀ n ∈ [0, 10], let ks : List Contact := (List.range n).map (fun i => ⟨i, 0, 0, 500, 1, 1, 0, false⟩)
      (ks.map (·.id)).Nodup ∧ ∀ k ∈ ks, k.id < 10) ∧
    (∀ st ∈ [PanelState.active, .calibrating], ∀ map ∈ [map0, []], let s := touching st (some 100000000) map
      let u := s.advance 200000000; let x := s.panelAt 3
      u.touchServes = true ∧ x.frameStart = some 100000000 ∧ x.cfg = some cfg0 ∧ x.state = st ∧
        frameOver cfg0.drives (u.scanAt 3 cfg0 x.scanFreq).2 (if cfg0.quiet then 0 else cfg0.listen)
          (u.scanAt 3 cfg0 x.scanFreq).1 100000000 200000000 = true ∧
        bitsOf 8 (u.numAt (Adr.freqEnable 3)) ++ (if u.mapStatusOf 3 = 0 then [8] else []) =
          (if map = map0 then [0, 8] else [0])) := by decide +kernel

/-- A quiet frame of one drive step takes one quiet interval that opened late enough. -/
theorem witness_QuietFrames :
    let c : PanelCfg := { cfg0 with quiet := true }
    let s := (touching .active (some 100000000) []).setPanel 3 (fun x => { x with cfg := some c, edges := [100500000] })
    let u := s.advance 200000000; let x := s.panelAt 3
    u.touchServes = true ∧ x.cfg = some c ∧ c.quiet = true ∧
      c.drives ≤ c.quietSteps (u.scanAt 3 c x.scanFreq).1 100000000 200000000 x.edges := by decide +kernel

/-- A device that runs sequence 7, at a step of a script whose first step is the one given. -/
def sequencing (op line arg : Nat) (begun : Bool) (levels : Nat) (steps : Nat) : State :=
  let one := leBytes 1 op ++ leBytes 1 line ++ leBytes 2 0 ++ leBytes 4 arg
  let s := base.setVal (Adr.seqScript 7) (.bytes ((List.replicate steps one).flatten))
  { s with plat := { Platform.zero with
      sequence := some ⟨7, 0, 100000000, 99000000, begun⟩, pgState := levels, enState := 5 } }

def seq7 (begun : Bool) : Sequence := ⟨7, 0, 100000000, 99000000, begun⟩

theorem witness_SequencesFollowScripts :
    (∀ n ∈ [1, 2], ∀ op ∈ [1, 2], (sequencing op 31 0 false 0 n).atStep op false = some (seq7 false, ⟨op, 31, 0⟩)) ∧
    (∀ n ∈ [1, 2], ∀ op ∈ [3, 4, 6, 7], ∀ levels ∈ [0, 2 ^ 31], let s := sequencing op 31 1000 false levels n
      s.atStep op false = some (seq7 false, ⟨op, 31, 1000⟩) ∧ bitAt s.plat.pgState 31 = (levels != 0) ∧
        (s.script 7).length = n) ∧
    (∀ begun ∈ [true, false], (sequencing 5 0 4294967 begun 0 2).atStep 5 begun = some (seq7 begun, ⟨5, 0, 4294967⟩)) ∧
    (sequencing 0 0 0 false 0 1).atStep 0 false = some (seq7 false, ⟨0, 0, 0⟩) ∧
    (∀ op ∈ [3, 4], (sequencing op 31 1000 true 0 1).atStep op true = some (seq7 true, ⟨op, 31, 1000⟩)) := by decide +kernel

theorem witness_SequenceCommands :
    (let s : State := { sequencing 4 31 1000 false 0 1 with plat := Platform.zero }
     s.grants (req [7]) Adr.seqRun ∧ (writeValue Adr.seqRun (req [7]).payload).toNat = 7 ∧
       ⟨4, 31, 1000⟩ ∈ (s.heard 0 .S 0).script 7) ∧
    (let s := sequencing 5 0 1000 true 0 1
     s.grants (req [1]) Adr.seqAbort ∧ (s.heard 0 .S 0).plat.sequence = some (seq7 true)) ∧
    (sequencing 4 31 1000 false 0 1).Inv := by
  unfold State.grants State.hears State.Inv State.Canonical State.Shaped; decide +kernel

theorem witness_PowerGoodIsWatched :
    (∀ pin ∈ [true, false], ∀ was ∈ [0, 2 ^ 31], 
      let s0 := sequencing (if pin then 3 else 4) 31 1000 true was 2
      let s := (s0.setNum Adr.pgWatchMask 2147483648).setPlat (fun x => { x with armed := 2 ^ 31, lost := 2 ^ 31 })
      let u := s.advance 0
      u.ctlServes = true ∧ (pin == bitAt (u.numAt Adr.pgPolarity) 31) = pin ∧ bitAt (u.numAt Adr.pgWatchMask) 31 = true ∧
        bitAt s.plat.armed 31 = true ∧ bitAt s.plat.lost 31 = true ∧ bitAt s.plat.pgState 31 = (was != 0) ∧
        u.atStep (if pin then 3 else 4) true = some (seq7 true, ⟨if pin then 3 else 4, 31, 1000⟩) ∧ (u.script 7).length = 2) ∧
    (∀ k ∈ [0, 1, 2], ∀ n ∈ [0, 16], let s := (base.setNum (Adr.platPortClasses 6) 31).setMailbox 7 (fun x => { x with
        plat := List.replicate n ⟨3, []⟩ })
      let s := (List.range 6).foldl (fun s i => s.setNum (Adr.platPortClasses i) 0) s
      s.carrier (k + 2) = some 7 ∧ (s.mailboxAt 7).plat.length = n ∧
        ((List.range 7).foldl (fun s i => s.setNum (Adr.platPortClasses i) 0) s).carrier (k + 2) = none) ∧
    (∀ v ∈ [0, 7], (base.setNum Adr.platPending 7).grants (req [v]) Adr.platPending) := by
  unfold State.grants State.hears; decide +kernel

theorem witness_ThresholdsCrossOnce :
    let vs : List Int := [9, 10, 11, 10, 5, 5]
    let r := vs.foldl (fun (acc : Crossing × List (Option Bool)) v =>
      let x := acc.1.up 10 5 v 2; (x.1, acc.2 ++ [x.2])) (Crossing.zero, [])
    r.2[2]? = some (some true) ∧ r.2[5]? = some (some false) ∧ (∀ v ∈ [(10 : Int), 12].drop (2 - 2), 10 ≤ v) := by decide +kernel

theorem witness_EnvironmentIsMonitored :
    (∀ ch ∈ [0, 11, 12, 19, 20, 23], ∀ on ∈ [true, false], let s := base.setNum (Adr.chEnable ch) (b2n on)
      let s := { s with plat := { Platform.zero with thermAt := some 0 } }
      let s := if 20 ≤ ch then s.setNum (Adr.smbTempAddr (ch - 20)) 72 else s
      let u := s.advance 0
      u.ctlServes = true ∧ 0 + u.numAt Adr.thermSampleMs * 1000000 ≤ 1000000000 ∧ u.flagAt (Adr.chEnable ch) = on ∧
        (20 ≤ ch → u.numAt (Adr.smbTempAddr (ch - 20)) ≠ 0) ∧ (s.channelAt ch).critical.crossed = false) ∧
    (let s : State := { base with plat := { Platform.zero with trip := true } }
     s.grants (req [1]) Adr.tripClear ∧ (s.heard 0 .S 0).tripHeld = false ∧ (s.heard 0 .S 0).plat.trip = true) ∧
    (let s : State := { base.setNum Adr.battEnable 1 with plat := { Platform.zero with
        vsupAt := some 0, battAt := some 0, battFails := 2 } }
     let u := s.advance 100000000000
     u.ctlServes = true ∧ 0 + u.numAt Adr.vsupSampleMs * 1000000 ≤ 100000000000 ∧ u.flagAt Adr.battEnable = true ∧
       0 + u.numAt Adr.battPollMs * 1000000 ≤ 100000000000 ∧ s.plat.battFails = 2) := by
  unfold State.grants State.hears; decide +kernel

theorem witness_FansAreSupervised :
    (∀ n ∈ [0, 1], ∀ fault ∈ [true, false], let s : State := { base with plat := { Platform.zero with
        fans := List.replicate 2 { Fan.zero with fault := fault, lastUpdate := some 0, lowSince := some 0, okSince := some 0, duty := 200 },
        thermAt := some 0 } }
      let u := s.advance 1000000000
      u.ctlServes = true ∧ 0 + 100 * 1000000 ≤ 1000000000 ∧ 0 + u.numAt Adr.thermSampleMs * 1000000 ≤ 1000000000 ∧
        (s.fanAt n).duty = 200 ∧ 0 < u.numAt (Adr.fanPulsesPerRev n) ∧ (s.fanAt n).fault = fault) ∧
    (∀ trip ∈ [true, false], ∀ mode ∈ [0, 1], ∀ bad ∈ [true, false], let s : State := { base with plat := { Platform.zero with
        trip := trip, channels := List.replicate 24 { Channel.zero with fault := bad } } }
      let s := (s.setNum (Adr.fanMode 1) mode).setNum (Adr.fanSourceMask 1) (2 ^ 23)
      s.plat.trip = trip ∧ s.numAt (Adr.fanMode 1) = mode ∧ bitAt (s.numAt (Adr.fanSourceMask 1)) 23 = true ∧
        (s.channelAt 23).fault = bad ∧ s.flagAt (Adr.fanTripFull 1) = true) := by decide +kernel

/-- A device in a power state, on the way to another or not. -/
def powered (st : Power) (target : Option Power) : State :=
  { base with power := { base.power with state := st, target := target, stepAt := 100000000 } }

theorem witness_ReadyAndRunCommands :
    (∀ st ∈ [Power.standby, .ready, .run], let s := powered st none
      s.grants (req [st.code]) Adr.powerCmd ∧ s.grants (req [1]) Adr.powerCmd ∧ s.power.state ≠ .booting ∧
        s.power.target = none) ∧
    ((powered .booting none).power.state = .booting ∧ (powered .ready (some .run)).power.target.isSome = true) ∧
    (let s := (powered .ready none).setQueue 31 (fun x => { x with jobs := [job0] })
     s.queues.any (fun q => q.jobs.any (fun j => j.ended.isNone && j.kind ≤ 1)) = true ∧ 2 ≤ s.power.state.code) ∧
    (let s := powered .standby none
     0 < s.power.state.code ∧ s.power.state.code < 2 ∧
       (sequencing 5 0 0 true 0 1).plat.sequence.isSome = true ∧ s.plat.sequence = none ∧ (s.setNvmState 1).nvmState = 1) ∧
    (let s := powered .ready none; bitAt s.plat.pgState (s.numAt Adr.arrayRailPg) = false ∧ s.power.state.code = 2) := by
  unfold State.grants State.hears; decide +kernel

theorem witness_ReadyAndRun :
    (let s := powered .standby (some .run); let u := s.advance 0; let m := List.replicate u.part.variant.channels 4096
     u.goesUp .standby = true ∧ m.length = u.part.variant.channels ∧ 4096 ∈ m ∧ ∀ k ∈ m, 4096 ≤ k) ∧
    (powered .ready (some .dormant) |>.advance 0).goesDown .ready = true ∧
    (let s := (powered .ready (some .run)).setNum Adr.arrayEnable 0x81
     let s := s.setArr 7 (fun x => { x with state := .heldFault }); let u := s.advanceCharged 100000000
     u.goesUp .ready = true ∧ u.tick.started = true ∧ u.tick.meridian = 100000000 ∧ u.tick.now = 100000000 ∧
       bitAt (u.numAt Adr.arrayEnable) 7 = true ∧ bitAt (u.numAt Adr.arrayEnable) 1 = false ∧ (u.arrAt 7).state = .heldFault) ∧
    (∀ n ∈ [5, 6], let s := powered .run (some .ready)
      let s : State := { s with power := { s.power with runAt := some n } }; let u := s.advanceCharged 0
      u.goesDown .run = true ∧ u.tick.started = true ∧ u.power.runAt = some n ∧ u.tick.tick = 5 ∧ ∀ a ∈ u.arrs, a.job = none) := by
  decide +kernel

theorem witness_DormantRetainsAndWakes :
    (∀ wake ∈ [0, 2], let s := powered .standby (some .dormant)
      let s : State := { s with power := { s.power with wakePending := wake } }; let u := s.advance 0
      u.goesDown .standby = true ∧ u.power.wakePending = wake) ∧
    (∀ mask ∈ [0, 7], ∀ st ∈ [Power.dormant, .standby, .run],
      let u := ((powered st (if st = .standby then some .dormant else none)).setNum Adr.wakeEnable mask).advance 0
      u.power.state = st ∧ bitAt (u.numAt Adr.wakeEnable) 0 = (mask == 7) ∧ bitAt (u.numAt Adr.wakeEnable) 1 = (mask == 7)) ∧
    (powered .dormant (some .standby)).goesUp .dormant = true ∧
    (powered .standby (some .dormant)).Inv := by unfold State.Inv State.Canonical State.Shaped; decide +kernel

theorem witness_ResetsRestart :
    (let s : State := { State.reset with plat := { Platform.zero with aborted := some (7, 3, 5) } }; let u := s.advance 0
     u.power.state = .booting ∧ u.power.romOnly = false ∧ u.plat.aborted = some (7, 3, 5) ∧
       u.bootImage (bootFlash (zeros 28) (zeros 28) []) 1 = none ∧ u.bootImage (bootFlash (zeros 28) (zeros 28) []) 2 = none) ∧
    (∀ st ∈ [Power.ready, .run], (powered st none).grants (req32 0x74737277) Adr.warmReset) ∧
    (base.grants (req32 0x74737263) Adr.ctlReset ∧ (sequencing 5 0 0 true 0 1).plat.sequence = some (seq7 true) ∧
      (sequencing 5 0 0 true 0 1).grants (req32 0x74737263) Adr.ctlReset) ∧
    (base.dormant = false ∧ base.power.romOnly = false) ∧
    ({ base.power with romOnly := true }.romOnly = true) := by unfold State.grants State.hears; decide +kernel

/-- A flash whose directory copy A names, in its first entry, a controller image of 16 bytes at offset 0x1000. -/
def flash0 (slot : Nat) : List FlashRun :=
  let d := leBytes 4 0x1000 ++ leBytes 4 272 ++ List.replicate 16 255
  let h := leBytes 4 0x49425A46 ++ leBytes 1 1 ++ leBytes 1 slot ++ leBytes 2 0 ++ leBytes 4 7 ++ leBytes 4 3 ++ leBytes 4 16 ++
    leBytes 2 7 ++ zeros 234
  bootFlash (d ++ leBytes 4 (crc32c d)) (zeros 28) [⟨0x1000, h ++ zeros 16⟩]

/-- The digests, the key and the signature are open values of Config: where they hold for the image of that flash, its
version is found, in the copy that names it. -/
theorem witness_BootImages (slot : Nat) (hs : slot ∈ [0, 3])
    (key : Config.sha256 (zeros 64) = Config.keyDigest slot) (revoked : Config.keyRevoked slot = false)
    (sig : Config.p256Verify (zeros 64) (Config.sha256 ((flashRead (flash0 slot) 0x1000 256).take 128)) (zeros 64) = true)
    (body : Config.sha256 (zeros 16) = zeros 32) : base.imageIn (flash0 slot) 0 1 = some 7 := by
  have e : directoryEntryOf (flash0 slot) 0 1 = some (0x1000, 272) := by
    simp only [List.mem_cons, List.not_mem_nil, or_false] at hs; obtain rfl | rfl := hs <;> decide +kernel
  have f : imageFormed (flashRead (flash0 slot) 0x1000 256) 1 272 = true ∧
      field (flashRead (flash0 slot) 0x1000 256) 5 1 = slot ∧ field (flashRead (flash0 slot) 0x1000 256) 8 4 = 7 ∧
      field (flashRead (flash0 slot) 0x1000 256) 12 4 = 3 ∧ field (flashRead (flash0 slot) 0x1000 256) 16 4 = 16 ∧
      field (flashRead (flash0 slot) 0x1000 256) 20 2 = 7 ∧ slice (flashRead (flash0 slot) 0x1000 256) 64 64 = zeros 64 ∧
      slice (flashRead (flash0 slot) 0x1000 256) 128 64 = zeros 64 ∧
      slice (flashRead (flash0 slot) 0x1000 256) 32 32 = zeros 32 ∧
      flashRead (flash0 slot) (0x1000 + 256) 16 = zeros 16 := by
    simp only [List.mem_cons, List.not_mem_nil, or_false] at hs; obtain rfl | rfl := hs <;> decide +kernel
  have b : bitAt 7 (deviceBit base.part.variant) = true ∧ nth base.nvm.minSecurity 0 0 ≤ 3 := by decide +kernel
  obtain ⟨f0, f1, f2, f3, f4, f5, f6, f7, f8, f9⟩ := f
  simp [State.imageIn, e, f0, State.imageValid, f1, f2, f3, f4, f5, f6, f7, f8, f9, key, revoked, sig, body, b.1, b.2]

theorem witness_DebugAccessIsGuarded :
    (∀ k ∈ [0, 2], let s : State := { base with power := { base.power with debugFailures := k } }
      s.grantsBlock (block Adr.debugResponse (List.replicate 128 7)) Adr.debugResponse (bytes (List.replicate 128 7))) ∧
    base.grants (req [1]) Adr.debugLock ∧
    (∀ open_ ∈ [true, false], ∀ k ∈ [0, 2, 3], let s : State := { base with power := { base.power with
        debugUnlocked := open_, debugFailures := k, tap := .dbgAuth } }
      s.power.debugUnlocked = open_ ∧ s.power.tap = .dbgAuth ∧ s.power.debugFailures = k ∧ (zeros 128).length = 128) ∧
    (base.power.debugUnlocked = false ∧ tapAlways (.other 9) = false ∧ base.power.tap = .idcode) ∧
    (∀ k ∈ [1, 3], let s : State := { base with power := { base.power with debugUnlocked := true } }
      let l := [k, 0, 0, 0, 255, 255, 255, 255]
      s.grantsBlock (block Adr.securityVersionRaise l) Adr.securityVersionRaise (bytes l) ∧
        (s.heard 0 .S 0).nvm.minSecurity.length = 3) := by
  unfold State.grants State.grantsBlock State.hears; decide +kernel

/-! ## Well-formed commands: for each check a command that fails it, and one at the boundary that passes -/

theorem smoke_request :
    (∀ i ∈ [Instr.store { req [] with seq := 256 }, .tlbInvalidate { req [] with flags := 256 },
      .release { req [] with payload := zeros 1395 } 0, .queueAbort { req [] with seq := 256 } 0,
      .panelEnable { req [] with seq := 256 } 0, .readSelectorWrite { req [] with seq := 256 } true,
      .counterPreset (req []) 65536 0 false, .wrapFlagClear (req []) 0 256 false], i.wf = false) ∧
    (∀ i ∈ [Instr.store { req [] with seq := 255, flags := 255, payload := zeros 1394 }, .counterPreset (req []) 65535 255 true],
      i.wf = true) := by decide +kernel

theorem smoke_pdu :
    let p : Pdu := pdu 255 0xFFFFFF []
    (∀ q ∈ [{ p with seq := 256 }, { p with flags := 256 }, { p with index := 65536 }, { p with sub := 256 },
      { p with payload := zeros 1395 }], (Instr.read q).wf = false ∧ (Instr.logbookExport q).wf = false) ∧
    (Instr.read { p with seq := 255, payload := zeros 1394 }).wf = true ∧ (Instr.unknownService p 5).wf = false ∧
    (Instr.unknownService p 256).wf = false ∧ (Instr.unknownService p 255).wf = true := by decide +kernel

theorem smoke_packet :
    let p := fp 20 18 true 65535
    (∀ q ∈ [{ p with channel := 8 }, { p with seq := 65536 }, { p with addr := 2 ^ 64 }, { p with payload := zeros 257 }],
      (Instr.fabricWrite 0 q).wf = false) ∧
    (Instr.sweep 0 { p with channel := 7, addr := 2 ^ 64 - 1, payload := zeros 256 }).wf = true ∧
    (Instr.fabricWriteAck 0 p true 8).wf = false ∧ (Instr.fabricWriteAck 0 p true 7).wf = true := by decide +kernel

theorem smoke_registers :
    (∀ i ∈ [Instr.ringEnable 0 31 (.base true) false (2 ^ 32), .controlRingEnable 0 .ctrl false (2 ^ 32),
      .memorySpaceEnable 0 (.bar true true (2 ^ 32)), .msixVectorUnmask 0 ⟨65536, 0, 15⟩, .msixVectorUnmask 0 ⟨0, 2 ^ 32, 15⟩,
      .counterLowRead 0 65536, .bootComplete 0 (zeros 28) (zeros 27) [], .bootComplete 0 (zeros 28) (zeros 28) [⟨2 ^ 32 - 1, zeros 2⟩], .frameStart 0 (.csi 7 32 .clean) 0 [],
      .frameEnd 0 ⟨7, 32, .clean⟩, .debugResponse (.request (pdu 256 0 [])), .malformedPdu 0 .C ⟨2048, .tooShort⟩,
      .malformedPdu 0 .S ⟨1, .tooShort⟩], i.wf = false) ∧
    (∀ i ∈ [Instr.ringEnable 0 31 (.base true) false (2 ^ 32 - 1), .controlRingEnable 0 .ctrl false (2 ^ 32 - 1),
      .memorySpaceEnable 0 (.bar true true (2 ^ 32 - 1)), .msixVectorUnmask 0 ⟨65535, 2 ^ 32 - 1, 15⟩,
      .counterLowRead 0 65535, .bootComplete 0 (zeros 28) (zeros 28) [⟨2 ^ 32 - 1, zeros 1⟩], .frameStart 0 (.csi 7 31 .clean) 0 [],
      .frameEnd 0 ⟨7, 31, .clean⟩, .debugResponse (.request (pdu 255 0 [])), .malformedPdu 0 .C ⟨2047, .tooShort⟩,
      .malformedPdu 0 .E ⟨2 ^ 48 - 1, .tooShort⟩], i.wf = true) := by decide +kernel

theorem smoke_descriptors :
    (Instr.job 0 0 (zeros 63) ⟨[], [], false⟩).wf = false ∧ (Instr.job 0 0 (zeros 64) ⟨[], [], false⟩).wf = true ∧
    (Instr.fence 0 0 (zeros 65)).wf = false ∧ (Instr.copy 0 { copyOp 0 with desc := zeros 65 }).wf = false ∧
    (Instr.copy 0 (copyOp 0)).wf = true := by decide +kernel

theorem smoke_samples :
    (∀ i ∈ [Instr.csiPacket { packet47 with vc := 32 }, .csiPacket { packet47 with dataType := 64 }, .keyScan 0 [0, 256],
      .buttonSample 0 65536, .vsupSample 0 4096, .thermalSample 0 (List.replicate 23 .smbusFail), .canWakeFrame 0 2048,
      .pcieLinkUp 0 5 4, .pcieLinkUp 0 0 4, .pcieLinkUp 0 4 3, .mailboxBufferWrite 0 true 0 255 (zeros 2),
      .hostReadCompletion 0 0 256 [], .audioWordClockEdge 0 true 0 (List.replicate 17 0) 0], i.wf = false) ∧
    (∀ i ∈ [Instr.csiPacket { packet47 with vc := 31, dataType := 63 }, .keyScan 0 [255], .buttonSample 0 65535,
      .vsupSample 0 4095, .thermalSample 0 (List.replicate 24 .smbusFail), .canWakeFrame 0 2047, .pcieLinkUp 0 4 4,
      .mailboxBufferWrite 0 true 0 254 (zeros 2), .hostReadCompletion 0 0 255 [],
      .audioWordClockEdge 0 true 0 (List.replicate 16 0) 0], i.wf = true) := by decide +kernel

/-- No row of the table has bits, so no word spells a command. -/
theorem test_no_word_spells_a_command (n w : Nat) : decodeTableWord n w = none ∧ State.reset.withFetchWord n w = State.reset :=
  ⟨rfl, rfl⟩

/-! ## Effects, with the results of the spec's own worked examples and cases -/

/-- R25, worked example of 01_tick.md. -/
def example1 : State :=
  ((((base.setNum Adr.tickPeriod 33333).setNum Adr.slewLimit 16).setNum Adr.fixSource 3).setNum Adr.hkMargin 400).setNum
    Adr.dispatchGuard 100

theorem test_tick_lengths :
    example1.look.slewLimit = 2083312 ∧ example1.look.pMin = 31249688 ∧ example1.look.usable = 30749688 ∧
      example1.look.slotLength = 480463 := by decide +kernel

/-- R17, R18, the ladder of 01_tick.md: the edge 5 ms after M_1000 gives M_1001 = M_1000 + 35 416 312 ns, in PULL_IN. -/
theorem test_fix_is_clamped :
    let s := example1.setTick (fun k => { k with window := { Window.zero with
      center := 100000000, half := 8333250, fix := some 5000000 } })
    gives .captureWindowClose s (fun x => x.tick.next == some (100000000 + 35416312) && x.tick.gen == .pullIn &&
      x.tick.slew == 2083312 && x.tick.status == .acceptedClamped) = true := by decide +kernel

/-- R85, worked example of 03_object_dictionary.md. -/
theorem test_frame_counters_wrap : later32 2 0xFFFFFFFE = true ∧ later32 0xFFFFFFFE 2 = false := by decide +kernel

/-- R83, worked example of 03_object_dictionary.md: a low-word read latches the high word of the same value. -/
theorem test_mirror_latches :
    let s := ((linked base).setNum (Adr.mirrorList 5) (Adr.droppedFrames 0)).setNum (Adr.droppedFrames 0) 0x1FFFFFFFF
    gives (.counterLowRead 0 0x4028) s (fun x => x.sent == [.windowRead 0xFFFFFFFF] && nth x.host.latches 5 none == some 1) = true := by
  decide +kernel

/-- R116, worked example of 05_tensor_shaping.md: −22, 103 and 125. -/
theorem test_normalisation :
    let c : ShapeCfg := { shape0 with
      mean := leBytes 4 0x47000000, scale := leBytes 4 0x3B800000, zeroPoint := -3, outFormat := 1 }
    normalised c 0 27904 = ofSigned 8 (-22) ∧ normalised c 0 60000 = 103 ∧ normalised c 0 65535 = 125 := by decide +kernel

/-- R118, worked example of 05_tensor_shaping.md. -/
theorem test_pyramid_levels :
    pyramidSizes 6 1 1280 800 1280 800 = [(1280, 800), (905, 565), (640, 400), (452, 282), (320, 200), (226, 141)] ∧
      pyramidSizes 6 0 1280 800 1280 800 = [(1280, 800), (640, 400), (320, 200), (160, 100), (80, 50), (40, 25)] := by
  decide +kernel

def rescale0 (round zero : Int) (m k : Nat) : Rescale :=
  { mode := 0, round := round.toNat, outFmt := 1, zero := zero, lo := -128, hi := 127, multipliers := [m], shifts := [k] }

/-- R134, worked example of 06_number_formats.md: the first channel gives 7, and the table of ties. -/
theorem test_integer_rescale :
    (∀ r ∈ [(0 : Int), 1], ((rescale0 r (-5) 1690499128 37).integer 940 0).raw = 7) ∧
    (((rescale0 0 0 1073741824 31).integer 5 0).raw = 3 ∧ ((rescale0 1 0 1073741824 31).integer 5 0).raw = 2) ∧
    (((rescale0 0 0 1073741824 31).integer (-5) 0).raw = 253 ∧ ((rescale0 1 0 1073741824 31).integer (-5) 0).raw = 254) ∧
    (∀ r ∈ [(0 : Int), 1], ((rescale0 r 0 1073741824 31).integer 7 0).raw = 4 ∧
      (rescale0 r 0 1073741824 31).integer 300 0 = ⟨127, true, false, false⟩) := by decide +kernel

/-- R138, worked example of 06_number_formats.md: 0x2A, 0x7E with one saturation, 0x60 and 0x02. -/
theorem test_float_rescale :
    let r (fmt : Nat) : Rescale :=
      { mode := 3, round := 0, outFmt := fmt, zero := 0, lo := 0, hi := 0, multipliers := [0x3F000000], shifts := [0] }
    ((r 5).float 0x011C 0x3F19999A 0) = ⟨0x2A, false, false, false⟩ ∧ ((r 5).float 0x011C 0x447A0000 0) = ⟨0x7E, false, true, false⟩ ∧
      ((r 6).float 0x011C 0x447A0000 0).raw = 0x60 ∧ ((r 5).float 0x011C 0x3BC49BA6 0).raw = 0x02 := by decide +kernel

/-- R139, case 7 of 06_number_formats.md: a sum of 2^−130 is written as zero on A0. -/
theorem test_subnormal_sum_is_flushed :
    (addFp32 0x011C (.num false 1 (-131)) (.num false 1 (-131))).isZero = true := by decide +kernel

/-- R155, worked example of 07_matrix_arrays.md: C = −5.25 and G = 11.25 pass; with out_1 = −8.125 the vector fails. -/
theorem test_float_checksum :
    let v (out1 : Nat) : AccVec := { out := [0x40300000, out1] ++ List.replicate 126 0, c := 0xC0A80000, g := 0x41340000 }
    compareVector 0x011C true 0x3A800000 (v 0xC1000000) = .equal ∧
      compareVector 0x011C true 0x3A800000 (v 0xC1020000) = .fails := by decide +kernel

/-- R198 to R201, worked example of 09_memory_translation.md: the entry read last leads to bus address 0x12_3450_89AB. -/
theorem test_translation :
    let v := 0x0123456789AB
    ([0, 1, 2].map (fun l => pteIndex v l false) = [2, 141, 43]) ∧ pteIndex v 3 true = 7 ∧
      nextOf 0x0000000420000002 v 2 false = .table 0x420000000 true ∧
      (match nextOf 0x0000001234500009 v 3 true with
       | .walk w => permits false w = w ∧ permits true w = .fault 2 3 ∧
           (match w with | .leaf bus page 65536 _ 3 => bus = 0x12345089AB ∧ page = 0x012345670000 | _ => False)
       | _ => False) := by
  refine ⟨by decide +kernel, by decide +kernel, by decide +kernel, ?_⟩
  exact ⟨rfl, rfl, rfl, rfl⟩

/-- R283, worked example of 13_assumptions_and_fault_records.md: the bytes that the signature covers. -/
theorem test_signature :
    signatureOf base.part 2 1 0 2 4 16 = crc32c (bytes [0x88, 0x19, 0x48, 0x60, 0x00, 0x02, 0x01, 0x00, 0x02, 0x04, 0x10]) := by
  decide +kernel

/-- R318, worked example of 15_touch.md: X 917, Y 224. -/
theorem test_touch_position :
    (12 * 256 + peakOffset 60 360, 30 * 256 + peakOffset 40 360) = (3115, 7708) ∧
      ({ cfg0 with drives := 40, senses := 64, xRes := 1920, yRes := 720, axis := 0 } : PanelCfg).place 7708 3115 = (917, 224) := by
  decide +kernel

/-- R312, worked example of 15_touch.md: T_frame = 5 080 µs at 200 kHz. -/
theorem test_touch_frame_time :
    frameOver 40 24 200 200 0 5080000 = true ∧ frameOver 40 24 200 200 0 5079999 = false := by decide +kernel

/-- R330, R331, R335, the ladder of 16_platform_management.md: DELAY 500 that starts at 1 860 µs ends at 2 360 µs, and END
there reports COMPLETED with a DURATION of 2 352 µs. -/
theorem test_sequence_ladder :
    let step (op line arg : Nat) : Bytes := leBytes 1 op ++ leBytes 1 line ++ leBytes 2 0 ++ leBytes 4 arg
    let s := base.setVal (Adr.seqScript 2) (.bytes (step 1 20 0 ++ step 3 20 5000 ++ step 5 0 500 ++ step 0 0 0))
    let at_ (k t : Nat) (begun : Bool) : State := { s with plat := { Platform.zero with
      sequence := some ⟨2, k, t, 100008000, begun⟩ } }
    gives .enableOn (at_ 0 100008000 false) (fun x => x.plat.sequence == some ⟨2, 1, 100009000, 100008000, false⟩ &&
      x.plat.enState == 2 ^ 20) = true ∧
    gives (.pgChange 101860000 20 true) (at_ 1 100009000 true) (fun x =>
      x.plat.sequence == some ⟨2, 2, 101860000, 100008000, false⟩) = true ∧
    gives .delayExpiry (at_ 2 101860000 true) (fun x => x.plat.sequence == some ⟨2, 3, 102360000, 100008000, false⟩) = true ∧
    gives .seqEnd (at_ 3 102360000 false) (fun x => x.plat.sequence.isNone &&
      (x.bytesAt (Adr.seqLastResult 2)).take 8 == leBytes 1 2 ++ leBytes 1 0 ++ leBytes 1 3 ++ leBytes 1 255 ++ leBytes 4 2352) =
      true := by decide +kernel

/-- R382, worked example of 18_mode_combinations_variants.md: TF_MODE 1 has no effect in P0. -/
theorem test_tf_mode_effective :
    ((base.setNum (Adr.tfMode 2) 1).setNum (Adr.queuePartition 2) 0).tfModeOf 2 = 2 ∧
      ((base.setNum (Adr.tfMode 2) 1).setNum (Adr.queuePartition 2) 1).tfModeOf 2 = 1 := by
  decide +kernel

end Sys2Proof.Tests
end

/-! PROOFS of the statements about the step itself: a step with no command waiting (O2), device time over a step (O5),
and which commands answer a next state (O7). -/

namespace Sys2Proof.Machine

/-! ## The two cases of a step -/

theorem step_of_idle {s : State} (h : s.pending = []) : step s = .next s.idleCycle := by
  simp only [step, h]

theorem step_of_command {s : State} {c : Instr} {rest : List Instr} (h : s.pending = c :: rest) :
    step s = exec c { s with pending := rest } := by
  simp only [step, h]

/-! ## One CTL cycle without a command -/

/-- R358: CTL is off in DORMANT. -/
theorem State.idleCycle_of_dormant {s : State} (h : s.dormant = true) : s.idleCycle = s := by
  simp only [State.idleCycle, h, if_true]

/-- Device time and its fraction as one number, in units of 1 / (3 × 10^9) ns (R10). -/
def State.cycleTime (s : State) : Nat := s.tick.now * 3000000000 + s.tick.frac

/-- R10: what one CTL cycle adds to device time, in the units of `State.cycleTime`. -/
def State.cycleLength (s : State) : Nat := (25 * (1000000000 + s.intAt 32 Adr.rateAdjust)).toNat

/-- Outside DORMANT a cycle changes device time and its fraction and nothing else. -/
theorem State.idleCycle_of_awake {s : State} (h : s.dormant = false) :
    s.idleCycle = { s with tick := { s.tick with now := s.idleCycle.tick.now, frac := s.idleCycle.tick.frac } } := by
  simp only [State.idleCycle, h, Bool.false_eq_true, if_false]

theorem State.idleCycle_frac_lt {s : State} (h : s.dormant = false) : s.idleCycle.tick.frac < 3000000000 := by
  simp only [State.idleCycle, h, Bool.false_eq_true, if_false]
  exact Nat.mod_lt _ (by decide)

/-- R10: the carry from the fraction into whole nanoseconds loses nothing. -/
theorem State.idleCycle_cycleTime {s : State} (h : s.dormant = false) :
    s.idleCycle.cycleTime = s.cycleTime + s.cycleLength := by
  simp only [State.cycleTime, State.cycleLength, State.idleCycle, h, Bool.false_eq_true, if_false]
  omega

/-- Settles O2: the whole nanoseconds and the fraction are those of `State.idleCycle`. -/
theorem idleStepIsOneCycle : Obligations.IdleStepIsOneCycle := by
  unfold Obligations.IdleStepIsOneCycle
  intro s hp _
  rw [step_of_idle hp]
  refine ⟨fun hd => by rw [State.idleCycle_of_dormant hd], fun hd => ?_⟩
  refine ⟨s.idleCycle.tick.now, s.idleCycle.tick.frac, congrArg _ (State.idleCycle_of_awake hd),
    State.idleCycle_frac_lt hd, ?_⟩
  exact_mod_cast State.idleCycle_cycleTime hd

/-! ## Device time -/

/-- Device time after a command: only a power-on reset may set it back (R10, R369). -/
theorem exec_now_le {i : Instr} {s t : State} (hi : i ≠ .powerOnReset) (h : exec i s = .next t) :
    s.tick.now ≤ t.tick.now :=
  (State.Sound.of_exec (State.Sound.refl (touched i) s) (Field.sub_refl _) (fun e => absurd e hi) t h).time

theorem State.idleCycle_now_le (s : State) : s.tick.now ≤ s.idleCycle.tick.now :=
  (State.Sound.idleCycle (State.Sound.refl [.clock] s) rfl).time

/-- Settles O5, by the two cases of a step: a cycle, and the command at the front of the queue. -/
theorem deviceTimeNeverRunsBackwards : Obligations.DeviceTimeNeverRunsBackwards := by
  unfold Obligations.DeviceTimeNeverRunsBackwards
  intro s t hc h
  cases hp : s.pending with
  | nil =>
    rw [step_of_idle hp] at h
    exact Host.Outcome.next.inj h ▸ s.idleCycle_now_le
  | cons c rest =>
    rw [step_of_command hp] at h
    have hi : c ≠ .powerOnReset := fun e => hc (by rw [hp, e]; rfl)
    exact exec_now_le (s := { s with pending := rest }) hi h

/-! ## Which commands answer a next state -/

/-- R297: an encoder step that the rated signal cannot bring stops the model; any other answers a next state. -/
theorem execEncoderStep_cases (t : Nat) (e : Fin 8) (a b : Bool) (s : State) :
    execEncoderStep t e a b s = .next (doEncoderStep t e a b s) ∨
      s.ctlServes = true ∧ s.stepTooFast e.val t = true ∧ execEncoderStep t e a b s = .fault .outsideRating := by
  unfold execEncoderStep
  split
  · rename_i hf
    obtain ⟨hs, hq⟩ := Bool.and_eq_true_iff.1 hf
    exact .inr ⟨hs, hq, rfl⟩
  · exact .inl rfl

/-- Settles O7: the meaning of every command but ENCODER_STEP is `.next` of a function of the state. -/
theorem everyCommandCompletes : Obligations.EveryCommandCompletes := by
  unfold Obligations.EveryCommandCompletes
  intro i s
  cases i
  case encoderStep t e a b =>
    obtain h | ⟨hs, hq, h⟩ := execEncoderStep_cases t e a b s
    · exact .inl ⟨_, h⟩
    · exact .inr ⟨t, e, a, b, rfl, hs, hq, h⟩
  all_goals exact .inl ⟨_, rfl⟩

end Sys2Proof.Machine

/-! PROOFS of the statements about the tick generator and gPTP: the state right after reset (O3), fix events in the
capture window (O9), search and realignment (O10), the close of the capture window (O11), and gPTP (O14). -/

namespace Sys2Proof.Machine

/-! ## Right after reset -/

theorem nth_replicate_default {α : Type} (k i : Nat) (d : α) : nth (List.replicate k d) i d = d := by
  rw [nth, List.getD_eq_getElem?_getD, List.getElem?_getD_replicate_default_eq]

theorem State.reset_arrAt (a : Nat) : State.reset.arrAt a = Arr.zero := nth_replicate_default 8 a Arr.zero

theorem State.reset_queueAt (q : Nat) : State.reset.queueAt q = Queue.zero := nth_replicate_default 32 q Queue.zero

/-- Register file and memory list nothing at reset, and the units are those of the full part. -/
theorem State.reset_inv : State.reset.Inv := ⟨⟨rfl, rfl⟩, rfl⟩

/-- Settles O3: the fields are those of the `.zero` values, and every array and queue is its kind's. -/
theorem resetStateHasInvariant : Obligations.ResetStateHasInvariant := by
  unfold Obligations.ResetStateHasInvariant
  refine ⟨⟨rfl, rfl, rfl, rfl, rfl, rfl, rfl, rfl, fun a => ?_, fun q => ?_, rfl⟩, State.reset_inv⟩
  · rw [State.reset_arrAt]
    rfl
  · rw [State.reset_queueAt]
    rfl

/-! ## Reads of the register file after an update -/

theorem State.valAt_congr {s t : State} (hp : t.part = s.part) (hd : t.dict = s.dict) (a : Nat) :
    t.valAt a = s.valAt a := by
  simp only [State.valAt, hp, hd]

theorem State.setNum_wf {s : State} (a x : Nat) (h : Dict.wf s.part.variant s.dict = true) :
    Dict.wf (s.setNum a x).part.variant (s.setNum a x).dict = true := Dict.wf_set a _ h

theorem State.valAt_setNum_other {s : State} {a b : Nat} (x : Nat) (h : Dict.wf s.part.variant s.dict = true)
    (hn : b ≠ a) : (s.setNum a x).valAt b = s.valAt b := State.valAt_setVal_other _ h hn

/-- R80: a counter that counts changes at most itself and its WRAP flag. -/
theorem State.valAt_bump_other {s : State} {a b : Nat} (h : Dict.wf s.part.variant s.dict = true) (hn : b ≠ a)
    (hw : b ≠ wrapFlagOf a) : (s.bump a).valAt b = s.valAt b := by
  unfold State.bump State.bumpBy
  extract_lets x
  split
  · exact State.valAt_setNum_other _ h hn
  · rw [State.valAt_setNum_other _ (State.setNum_wf _ _ h) hw, State.valAt_setNum_other _ h hn]

theorem State.bump_wf {s : State} (a : Nat) (h : Dict.wf s.part.variant s.dict = true) :
    Dict.wf (s.bump a).part.variant (s.bump a).dict = true := by
  unfold State.bump State.bumpBy
  extract_lets x
  split
  · exact State.setNum_wf _ _ h
  · exact State.setNum_wf _ _ (State.setNum_wf _ _ h)

/-- P is a function of TICK_PERIOD alone. -/
theorem State.period_congr {s t : State} (h : t.valAt Adr.tickPeriod = s.valAt Adr.tickPeriod) : t.period = s.period := by
  simp only [State.period, Look.period, Look.num, h]

theorem State.slewLimit_nonneg (s : State) : 0 ≤ s.slewLimit := Int.natCast_nonneg _

/-! ## Two's complement -/

theorem toSigned_ofSigned {w : Nat} {x : Int} (hw : 0 < w) (hl : -(2 ^ (w - 1) : Nat) ≤ x) (hu : x < (2 ^ (w - 1) : Nat)) :
    toSigned w (ofSigned w x) = x := by
  have hp : 2 ^ w = 2 * 2 ^ (w - 1) := by rw [← Nat.pow_succ', Nat.succ_eq_add_one, Nat.sub_add_cancel hw]
  unfold toSigned ofSigned
  rw [hp]
  generalize 2 ^ (w - 1) = p at hl hu ⊢
  have hm : x % ((2 * p : Nat) : Int) = if x < 0 then x + 2 * p else x := by
    split
    · rw [← Int.add_emod_right, Int.emod_eq_of_lt (by omega) (by omega)]
      omega
    · exact Int.emod_eq_of_lt (by omega) (by omega)
  rw [hm, Nat.mod_eq_of_lt (by split <;> omega)]
  extract_lets m
  have hx : (m : Int) = if x < 0 then x + 2 * p else x := Int.toNat_of_nonneg (by split <;> omega)
  split at hx <;> split <;> omega

/-! ## Fix events (R16, R17) -/

section
variable {s u : State} {t width : Nat} {pin : FixPin} {falling : Bool}

/-- R13, R16: the generator runs, and the edge is the active one of the selected pin. -/
theorem exec_pinEventQualified (hu : u = s.advanceCharged (t + s.minWidth)) :
    exec (.pinEventQualified t ⟨pin, falling⟩) s =
      .next (if u.genRuns = true ∧ u.fixSource = pinSource pin ∧ falling = bitAt (u.numAt Adr.fixQual) 8 then
        u.fixEvent t true else u) := by
  show Host.Outcome.next (doPinEventQualified t pin falling s) = _
  simp only [doPinEventQualified, ← hu, State.activeEdge, Bool.and_eq_true, beq_iff_eq, and_assoc]

/-- R16: the same for a pulse, which is judged only where MIN_WIDTH asks for more. -/
theorem exec_pinEventUnqualified (hu : u = s.advanceCharged (t + width)) :
    exec (.pinEventUnqualified t ⟨pin, falling, width⟩) s =
      .next (if u.genRuns = true ∧ u.fixSource = pinSource pin ∧ falling = bitAt (u.numAt Adr.fixQual) 8 ∧
        width < u.minWidth then u.fixEvent t false else u) := by
  show Host.Outcome.next (doPinEventUnqualified t pin falling width s) = _
  simp only [doPinEventUnqualified, ← hu, State.activeEdge, Bool.and_eq_true, beq_iff_eq, decide_eq_true_eq, and_assoc]

/-- R16: the schedule holds the times at which gPTP time is FIX_GPTP_EPOCH and a whole number of periods. -/
theorem State.onSchedule_iff : u.onSchedule t = true ↔
    ∃ k : Int, (t : Int) + u.intAt 64 Adr.gptpOffset = (u.numAt Adr.fixGptpEpoch : Int) + k * u.period := by
  unfold State.onSchedule
  rw [beq_iff_eq, ← Int.dvd_iff_emod_eq_zero, dvd_iff_exists_eq_mul_left]
  exact exists_congr fun k => by omega

theorem exec_gptpScheduleEvent (hu : u = s.advanceCharged t) :
    exec (.gptpScheduleEvent t) s =
      .next (if u.genRuns = true ∧ u.fixSource = 2 ∧ u.onSchedule t = true then
        u.fixEvent t (u.numAt Adr.gptpStatus == 2) else u) := by
  show Host.Outcome.next (doGptpScheduleEvent t s) = _
  simp only [doGptpScheduleEvent, ← hu, Bool.and_eq_true, beq_iff_eq, and_assoc]

end

/-! ## The event in the window of a predicted meridian (R17) -/

section
variable {s : State} {t : Nat} {et : Int} {ok : Bool}

theorem State.fixEvent_predicted (h : s.tick.startSearch = false) (hs : s.searching = false) :
    s.fixEvent t ok = s.windowEvent (t + s.fixOffset) ok := by
  simp only [State.fixEvent, h, hs, Bool.false_eq_true, if_false]

theorem State.windowEvent_first (hl : -(s.tick.window.half : Int) ≤ et - s.tick.window.center)
    (hu : et - s.tick.window.center ≤ s.tick.window.half) (hc : s.tick.window.closed = false)
    (hn : s.tick.window.fix = none) :
    s.windowEvent et ok = s.setTick (fun k => { k with
      window := if ok then { s.tick.window with fix := some (et - s.tick.window.center) }
        else { s.tick.window with failed := true } }) := by
  unfold State.windowEvent
  extract_lets w e inside
  have hi : inside = true := by simp only [inside, e, w, hl, hu, decide_true, Bool.and_self]
  exact if_pos (by simp only [hi, w, hc, hn, Option.isNone_none, Bool.not_false, Bool.and_self])

theorem State.windowEvent_late (hl : -(s.tick.window.half : Int) ≤ et - s.tick.window.center)
    (hu : et - s.tick.window.center ≤ s.tick.window.half)
    (h : s.tick.window.closed = true ∨ s.tick.window.fix.isSome = true) :
    s.windowEvent et ok = s.bump Adr.fixIgnored := by
  unfold State.windowEvent
  extract_lets w e inside
  have hi : inside = true := by simp only [inside, e, w, hl, hu, decide_true, Bool.and_self]
  have hx : (inside && !w.closed && w.fix.isNone) = false := by
    obtain h | h := h
    · simp [w, h]
    · obtain ⟨e', he⟩ := Option.isSome_iff_exists.1 h
      simp [w, he]
  rw [if_neg (by simp [hx]), hi]
  rfl

theorem State.windowEvent_outside
    (h : et - s.tick.window.center < -(s.tick.window.half : Int) ∨ (s.tick.window.half : Int) < et - s.tick.window.center) :
    s.windowEvent et ok = (s.setTick (fun k => { k with
      window := if s.tick.window.closed then { s.tick.window with later := true }
        else { s.tick.window with outside := true } })).bump Adr.fixIgnored := by
  unfold State.windowEvent
  extract_lets w e inside
  have hi : inside = false := by
    simp only [inside, e, w, Bool.and_eq_false_iff, decide_eq_false_iff_not]
    omega
  rw [if_neg (by simp [hi]), hi]
  rfl

end

/-- Settles O9: an event that is heard goes to the window of the predicted meridian, where it is the first one, too
late, or outside. -/
theorem fixEventsAreJudged : Obligations.FixEventsAreJudged := by
  unfold Obligations.FixEventsAreJudged
  refine ⟨fun s t pin falling => ?_, fun s t width pin falling => ?_, fun s t => ?_⟩
  · intro u w e
    rw [exec_pinEventQualified (u := u) rfl]
    refine ⟨fun hg hss hsr hs hf => ?_, fun h => congrArg _ (if_neg (by grind))⟩
    rw [if_pos ⟨hg, hs, hf⟩, State.fixEvent_predicted hss hsr]
    exact ⟨fun hl hu hc hn => congrArg _ (State.windowEvent_first hl hu hc hn),
      fun hl hu h => congrArg _ (State.windowEvent_late hl hu h), fun h => congrArg _ (State.windowEvent_outside h)⟩
  · intro u w e
    rw [exec_pinEventUnqualified (u := u) rfl]
    refine ⟨fun hg hss hsr hs hf hw hl hu hc hn => ?_, fun h => congrArg _ (if_neg ?_)⟩
    · rw [if_pos ⟨hg, hs, hf, hw⟩, State.fixEvent_predicted hss hsr]
      exact congrArg _ (State.windowEvent_first hl hu hc hn)
    · have hz : u.numAt Adr.fixQual % 256 = 0 → u.minWidth = 0 := fun h0 => by rw [State.minWidth, h0]
      grind
  · intro u w e
    rw [exec_gptpScheduleEvent (u := u) rfl, ← State.onSchedule_iff]
    refine ⟨fun hg hss hsr hs hk hl hu hc hn => ?_, fun h => congrArg _ (if_neg (by grind))⟩
    rw [if_pos ⟨hg, hs, hk⟩, State.fixEvent_predicted hss hsr, State.windowEvent_first hl hu hc hn]
    by_cases hy : u.numAt Adr.gptpStatus = 2
    · rw [if_pos hy, beq_iff_eq.2 hy]
      rfl
    · rw [if_neg hy, beq_eq_false_iff_ne.2 hy]
      rfl

/-! ## Misses (R19) -/

/-- R52: a NOTIFY leaves the tick generator alone. -/
@[simp] theorem State.notify_tick (s : State) (event addr : Nat) (data : Bytes) :
    (s.notify event addr data).tick = s.tick := by
  have h : State.Within [.ports, .host, .sent] s (s.notify event addr data) :=
    (State.Sound.notify (State.Sound.refl _ s) rfl).within
  have k := State.within_iff.1 h
  exact (Tick.eq_of_same (k .tick rfl) (k .clock rfl) (k .tally rfl)).symm

@[simp] theorem State.valAt_notify (s : State) (event addr : Nat) (data : Bytes) (a : Nat) :
    (s.notify event addr data).valAt a = s.valAt a := by
  have h : State.Within [.ports, .host, .sent] s (s.notify event addr data) :=
    (State.Sound.notify (State.Sound.refl _ s) rfl).within
  exact State.valAt_congr (h.part rfl) (h.dict rfl) a

@[simp] theorem State.enterDeadReckoning_tick (s : State) :
    s.enterDeadReckoning.tick = { s.tick with gen := .deadReckoning } := by
  simp [State.enterDeadReckoning]

/-- R19: the third miss in a row, and every further one, has the generator in DEAD_RECKONING. -/
theorem State.miss_tick (s : State) : s.miss.tick = { s.tick with
    missCount := min (s.tick.missCount + 1) 255,
    gen := if s.tick.gen = .deadReckoning ∨ 3 ≤ s.tick.missCount + 1 then .deadReckoning else .holdover } := by
  unfold State.miss
  by_cases hd : s.tick.gen = .deadReckoning
  · simp [hd]
  · have hn : 3 ≤ min (s.tick.missCount + 1) 255 ↔ 3 ≤ s.tick.missCount + 1 := by omega
    by_cases h3 : 3 ≤ s.tick.missCount + 1 <;> simp [hd, hn, h3]

/-- A miss changes no object but DR_ENTRIES and its WRAP flag. -/
theorem State.valAt_miss_other {s : State} {a : Nat} (h : Dict.wf s.part.variant s.dict = true) (hn : a ≠ Adr.drEntries)
    (hw : a ≠ wrapFlagOf Adr.drEntries) : s.miss.valAt a = s.valAt a := by
  unfold State.miss State.enterDeadReckoning
  extract_lets n s' s''
  split
  · rfl
  split
  · rw [State.valAt_notify]
    exact State.valAt_bump_other h hn hw
  · rfl

/-! ## Search and realignment (R21) -/

theorem State.fixEvent_searching {s : State} {t : Nat} {ok : Bool} (hn : s.tick.startSearch = false)
    (hs : s.searching = true) : s.fixEvent t ok = s.realignEvent (t + s.fixOffset) ok := by
  simp only [State.fixEvent, hn, hs, Bool.false_eq_true, if_false, if_true]

theorem State.realignEvent_before {s : State} {et : Int} (h : et < s.tick.meridian + s.period) :
    s.realignEvent et true = s.bump Adr.fixIgnored := by
  simp only [State.realignEvent, h, Bool.not_true, Bool.false_eq_true, if_false, if_true]

/-- R21: the first event of the second period places the meridian that ends the search, and closes its window. -/
theorem State.realignEvent_found {s : State} {et : Int} (hl : (s.tick.meridian : Int) + s.period ≤ et)
    (hu : et ≤ s.tick.meridian + 2 * s.period) : (s.realignEvent et true).tick = { s.tick with
      next := some et.toNat, missCount := 0, realignFound := true,
      window := { s.newWindow et.toNat false with fix := some 0, closed := true, placed := true } } := by
  simp [State.realignEvent, State.placeMeridian, Int.not_lt.2 hl, hu]

theorem State.searching_iff {s : State} : s.searching = true ↔ s.tick.realignTick = true ∧ s.tick.next = none := by
  simp [State.searching]

section
variable {s u : State} {m : Nat}

/-- R21: at start-up. -/
theorem exec_realignSearchTimeout_start (hg : s.genRuns = true) (hs : s.tick.startSearch = true)
    (hm : m = s.tick.startAt + 2 * s.period) (hu : u = s.advanceCharged ((m : Int) - s.fixOffset).toNat) :
    exec .realignSearchTimeout s = .next (u.setTick (fun k => { k with
      startSearch := false, next := some m, window := u.windowAfterSearch m })) := by
  show Host.Outcome.next (doRealignSearchTimeout s) = _
  simp only [doRealignSearchTimeout, hg, hs, ← hm, ← hu, Bool.not_true, Bool.false_eq_true, if_false, if_true]

/-- R21: in a realignment tick. -/
theorem exec_realignSearchTimeout_realign (hg : s.genRuns = true) (hn : s.tick.startSearch = false)
    (hs : s.searching = true) (hm : m = s.tick.meridian + 2 * s.period)
    (hu : u = s.advanceCharged ((m : Int) - s.fixOffset).toNat) :
    exec .realignSearchTimeout s = .next ((u.bump Adr.fixMissed).miss.setTick (fun k => { k with
      next := some m, status := .missed, window := (u.bump Adr.fixMissed).windowAfterSearch m })) := by
  show Host.Outcome.next (doRealignSearchTimeout s) = _
  simp only [doRealignSearchTimeout, hg, hn, hs, ← hm, ← hu, Bool.not_true, Bool.false_eq_true, if_false]

end

theorem State.requestRealign_eq (s : State) : s.requestRealign = { s with tick := { s.tick with
    realignAt := if s.tick.realignAt.contains s.reachedTick then s.tick.realignAt
      else s.tick.realignAt ++ [s.reachedTick] } } := by
  unfold State.requestRealign
  extract_lets n
  split <;> rfl

theorem kindAt_realign : kindAt Adr.realign = .plain := by decide +kernel

theorem State.perform_realign (s : State) (p : Port) (v : Val) : s.perform p Adr.realign v = (none, s.requestRealign) := by
  unfold State.perform
  rw [kindAt_realign]
  rfl

theorem firstCode_eq_none {xs : List (Option Nat)} (h : firstCode xs = none) {x : Option Nat} (hx : x ∈ xs) : x = none :=
  List.findSome?_eq_none_iff.1 h x hx

/-- R21, R64: REALIGN is refused with 0x0404 where no fix source is set. -/
theorem State.fixSource_of_realign_granted {s : State} {p : Port} {v : Val} (h : s.refuses p Adr.realign v = none) :
    s.fixSource ≠ 0 := by
  have hv : s.valueCheck Adr.realign v = none := firstCode_eq_none h (by simp)
  have hc : s.commandValueCheck Adr.realign v.toNat = none := firstCode_eq_none hv (by simp)
  have he : s.commandValueCheck Adr.realign v.toNat = refuseIf (s.fixSource == 0) 0x0404 := rfl
  intro h0
  rw [he, h0] at hc
  exact Option.some_ne_none _ hc

/-- Settles O10: the three outcomes of a search, and REALIGN as a WRITE that passes every check. -/
theorem searchAndRealignment : Obligations.SearchAndRealignment := by
  unfold Obligations.SearchAndRealignment
  refine ⟨fun s t pin falling => ?_, fun s hg => ⟨fun hs => ?_, fun hn hr hx => ?_⟩, fun s r _ => ?_⟩
  · intro u et hg hs hf hn hr hx
    have hsr : u.searching = true := State.searching_iff.2 ⟨hr, hx⟩
    rw [exec_pinEventQualified (u := u) rfl, if_pos ⟨hg, hs, hf⟩, State.fixEvent_searching hn hsr]
    refine ⟨fun hl hu => ⟨_, rfl, ?_⟩, fun h => congrArg _ (State.realignEvent_before h)⟩
    simp only [State.realignEvent_found hl hu, State.newWindow, et, true_and]
  · exact ⟨_, exec_realignSearchTimeout_start hg hs rfl rfl, by simp⟩
  · exact ⟨_, exec_realignSearchTimeout_realign hg hn (State.searching_iff.2 ⟨hr, hx⟩) rfl rfl, by simp [State.miss_tick]⟩
  · intro h hgr
    obtain ⟨_, _, _, _, href⟩ := id hgr
    refine ⟨State.fixSource_of_realign_granted href, ?_⟩
    have hp := h.perform_realign r.port (writeValue Adr.realign r.payload)
    show Host.Outcome.next (s.writeRow r Adr.realign) = _
    rw [State.writeRow_granted hgr (by decide) (by decide) (by decide) (congrArg Prod.fst hp), congrArg Prod.snd hp,
      State.requestRealign_eq]

/-! ## The capture window closes (R17 to R19) -/

theorem exec_captureWindowClose {s u : State} (hg : s.genRuns = true) (hf : s.fixSource ≠ 0)
    (hc : s.tick.window.closed = false) (hn : s.tick.startSearch = false) (hs : s.searching = false)
    (hu : u = s.advanceCharged ((s.tick.window.center : Int) + s.tick.window.half - s.fixOffset).toNat) :
    exec .captureWindowClose s = .next (if s.tick.started = true ∧ s.tick.window.center = s.tick.meridian then u.closeWindow
      else u.setTick (fun k => { k with window := { s.tick.window with closed := true } })) := by
  show Host.Outcome.next (doCaptureWindowClose s) = _
  simp [doCaptureWindowClose, hg, hf, hc, hn, hs, hu]

theorem clampInt_of_natAbs_le {e l : Int} (hl : 0 ≤ l) (h : e.natAbs ≤ l.natAbs) : clampInt e (-l) l = e := by
  unfold clampInt
  rw [if_neg (by omega), if_neg (by omega)]

/-- The counters that a window's close counts in are not TICK_PERIOD. -/
theorem State.period_bump {s : State} {a : Nat} (h : Dict.wf s.part.variant s.dict = true)
    (ha : a ∈ [Adr.fixAccepted, Adr.fixClamped, Adr.fixMissed, Adr.fixRejected]) : (s.bump a).period = s.period := by
  have hn : ∀ a ∈ [Adr.fixAccepted, Adr.fixClamped, Adr.fixMissed, Adr.fixRejected],
      Adr.tickPeriod ≠ a ∧ Adr.tickPeriod ≠ wrapFlagOf a := by decide
  obtain ⟨h1, h2⟩ := hn a ha
  exact State.period_congr (State.valAt_bump_other h h1 h2)

theorem State.period_miss {s : State} (h : Dict.wf s.part.variant s.dict = true) : s.miss.period = s.period :=
  State.period_congr (State.valAt_miss_other h (by decide) (by decide))

/-- R18: a window with a fix of its own. -/
theorem State.classify_of_fix {s : State} {e : Int} (h : Dict.wf s.part.variant s.dict = true)
    (hf : s.tick.window.fix = some e) (hp : s.tick.window.placed = false) :
    ∃ x, s.classify = (clampInt e (-s.slewLimit) s.slewLimit, e,
        if e.natAbs ≤ s.slewLimit.natAbs then .accepted else .acceptedClamped, x) ∧
      x.period = s.period ∧ x.tick = { s.tick with
        missCount := 0, gen := if e.natAbs ≤ s.slewLimit.natAbs then .locked else .pullIn } := by
  unfold State.classify
  simp only [hf, hp, Bool.false_eq_true, if_false]
  by_cases hl : e.natAbs ≤ s.slewLimit.natAbs
  · simp only [hl, if_true, clampInt_of_natAbs_le s.slewLimit_nonneg hl]
    exact ⟨_, rfl, State.period_bump h (by decide), by simp⟩
  · simp only [hl, if_false]
    exact ⟨_, rfl, State.period_bump h (by decide), by simp⟩

/-- R19: a window without a fix is a miss. -/
theorem State.classify_of_no_fix {s : State} (h : Dict.wf s.part.variant s.dict = true) (hf : s.tick.window.fix = none) :
    ∃ x, s.classify = (0, 0, if s.tick.window.failed || s.tick.window.outside then .rejected else .missed, x) ∧
      x.period = s.period ∧ x.tick = s.miss.tick := by
  unfold State.classify
  simp only [hf]
  have hper : ∀ a ∈ [Adr.fixAccepted, Adr.fixClamped, Adr.fixMissed, Adr.fixRejected], (s.bump a).miss.period = s.period :=
    fun a ha => (State.period_miss (State.bump_wf a h)).trans (State.period_bump h ha)
  split
  · exact ⟨_, rfl, hper _ (by decide), by simp [State.miss_tick]⟩
  · exact ⟨_, rfl, hper _ (by decide), by simp [State.miss_tick]⟩

/-- R18: what the close of a window gives the tick, by the slew, error and status found in it. -/
theorem State.closeWindow_tick {s x : State} {slew error : Int} {status : FixStatus}
    (h : s.classify = (slew, error, status, x)) :
    s.closeWindow.tick = { x.tick with
      slew := slew, error := error, status := status, next := some ((x.tick.meridian : Int) + x.period + slew).toNat,
      window := x.newWindow ((x.tick.meridian : Int) + x.period + slew).toNat s.tick.window.later } := by
  simp only [State.closeWindow, h]
  rfl

theorem State.closeWindow_of_fix {s : State} {e : Int} (h : Dict.wf s.part.variant s.dict = true)
    (hf : s.tick.window.fix = some e) (hp : s.tick.window.placed = false) :
    s.closeWindow.tick.error = e ∧ s.closeWindow.tick.missCount = 0 ∧
      s.closeWindow.tick.slew = clampInt e (-s.slewLimit) s.slewLimit ∧
      s.closeWindow.tick.next =
        some ((s.tick.meridian : Int) + s.period + clampInt e (-s.slewLimit) s.slewLimit).toNat ∧
      s.closeWindow.tick.gen = (if e.natAbs ≤ s.slewLimit.natAbs then .locked else .pullIn) ∧
      s.closeWindow.tick.status = (if e.natAbs ≤ s.slewLimit.natAbs then .accepted else .acceptedClamped) := by
  obtain ⟨x, hx, hper, ht⟩ := State.classify_of_fix h hf hp
  simp only [State.closeWindow_tick hx, hper, ht, true_and]

theorem State.closeWindow_of_no_fix {s : State} (h : Dict.wf s.part.variant s.dict = true)
    (hf : s.tick.window.fix = none) :
    s.closeWindow.tick.slew = 0 ∧ s.closeWindow.tick.error = 0 ∧
      s.closeWindow.tick.next = some (s.tick.meridian + s.period) ∧
      s.closeWindow.tick.missCount = min (s.tick.missCount + 1) 255 ∧
      s.closeWindow.tick.gen =
        (if s.tick.gen = .deadReckoning ∨ 3 ≤ s.tick.missCount + 1 then .deadReckoning else .holdover) ∧
      s.closeWindow.tick.status =
        (if s.tick.window.failed || s.tick.window.outside then .rejected else .missed) := by
  obtain ⟨x, hx, hper, ht⟩ := State.classify_of_no_fix h hf
  have hm : ((s.tick.meridian : Int) + s.period + 0).toNat = s.tick.meridian + s.period := by omega
  simp only [State.closeWindow_tick hx, hper, ht, State.miss_tick, hm, true_and]

/-- Settles O11: the window at its end, with a fix, without one, and before its meridian. -/
theorem meridianFollowsFix : Obligations.MeridianFollowsFix := by
  unfold Obligations.MeridianFollowsFix
  refine ⟨fun s e => ?_, fun s => ?_, fun s => ?_⟩
  · intro w u hi hg hf hc hp hn hs hst hm hx
    obtain ⟨⟨hwf, -⟩, -⟩ : u.Inv := State.advanceCharged_inv hi
    have hw : u.tick.window = w := by simp [u, w]
    have hmer : u.tick.meridian = s.tick.meridian := by simp [u]
    obtain ⟨herr, hmc, hsl, hne, hgen, hst'⟩ := State.closeWindow_of_fix (s := u) hwf (hw ▸ hx) (hw ▸ hp)
    refine ⟨u.closeWindow, ?_, herr, hmc, hsl, hmer ▸ hne, fun h => ?_, fun h => ?_⟩
    · rw [exec_captureWindowClose hg hf hc hn hs rfl, if_pos ⟨hst, hm⟩]
    · exact ⟨hgen.trans (if_pos h), hst'.trans (if_pos h)⟩
    · exact ⟨hgen.trans (if_neg (Nat.not_le.2 h)), hst'.trans (if_neg (Nat.not_le.2 h))⟩
  · intro w u hi hg hf hc hn hs hst hm hx
    obtain ⟨⟨hwf, -⟩, -⟩ : u.Inv := State.advanceCharged_inv hi
    have hw : u.tick.window = w := by simp [u, w]
    have hmer : u.tick.meridian = s.tick.meridian := by simp [u]
    have hmc : u.tick.missCount = s.tick.missCount := by simp [u]
    have hgen : u.tick.gen = s.tick.gen := by simp [u]
    have h := State.closeWindow_of_no_fix (s := u) hwf (hw ▸ hx)
    rw [hw, hmer, hmc, hgen] at h
    refine ⟨u.closeWindow, ?_, h⟩
    rw [exec_captureWindowClose hg hf hc hn hs rfl, if_pos ⟨hst, hm⟩]
  · intro w u hg hf hc hn hs h
    rw [exec_captureWindowClose hg hf hc hn hs rfl, if_neg]
    rintro ⟨h1, h2⟩
    exact h.elim (fun h => by simp [h1] at h) (fun h => h h2)

/-! ## gPTP (R10 to R12) -/

section
variable {s u : State} {t domain origin interval : Nat} {p : Fin 2}

/-- R11: what is kept of the `n`th Sync in a row, received at `t`. -/
def Gptp.synced (g : Gptp) (n t interval : Nat) : Gptp := { g with syncs := n, lastSync := t, interval := interval }

/-- R11: a Sync that starts a new row, or is not yet the fourth in its row. -/
theorem exec_syncMessage_acquiring (hu : u = s.advanceCharged t) (hl : u.gptpListens p.val domain = true)
    (h : 3 * interval ≤ t - u.tick.gptp.lastSync ∨ u.numAt Adr.gptpStatus = 3 ∨ u.tick.gptp.syncs < 3) :
    ∃ n, exec (.syncMessage t p domain origin interval) s =
      .next ((u.setGptp (·.synced n t interval)).setNum Adr.gptpStatus 1) := by
  refine ⟨if 3 * interval ≤ t - u.tick.gptp.lastSync || u.numAt Adr.gptpStatus == 3 || u.tick.gptp.syncs == 0 then 1
    else u.tick.gptp.syncs + 1, ?_⟩
  show Host.Outcome.next (doSyncMessage t p domain origin interval s) = _
  unfold doSyncMessage
  rw [← hu]
  extract_lets y g gap lost n x
  rw [hl, if_neg (by simp), if_pos]
  · rfl
  simp only [n, gap, lost, g, y]
  split
  · decide
  · rename_i hn
    simp only [Bool.or_eq_true, decide_eq_true_eq, beq_iff_eq] at hn
    omega

/-- R11, R12: the fourth Sync in a row and every further one. -/
theorem exec_syncMessage_synced (hu : u = s.advanceCharged t) (hl : u.gptpListens p.val domain = true)
    (hg : t - u.tick.gptp.lastSync < 3 * interval) (hs : u.numAt Adr.gptpStatus ≠ 3) (hn : 3 ≤ u.tick.gptp.syncs) :
    ∃ (v : Nat) (x : State), v < 1000001 ∧ x.part = u.part ∧ x.dict = u.dict ∧
      x.tick.gptp = u.tick.gptp.synced (u.tick.gptp.syncs + 1) t interval ∧
      exec (.syncMessage t p domain origin interval) s =
        .next (((x.setNum Adr.gptpStatus 2).setNum Adr.gptpOffset
          (ofSigned 64 ((origin : Int) + nth u.tick.gptp.pathDelays p.val 0 - t))).setNum Adr.rateAdjust
            (ofSigned 32 ((v : Int) - 500000))) := by
  let y := u.setGptp (·.synced (u.tick.gptp.syncs + 1) t interval)
  refine ⟨(y.takeFree 1000001).1, (y.takeFree 1000001).2, Nat.mod_lt _ (by decide), rfl, rfl, rfl, ?_⟩
  show Host.Outcome.next (doSyncMessage t p domain origin interval s) = _
  unfold doSyncMessage
  rw [← hu]
  extract_lets x g gap lost n z offset
  have hcount : n = u.tick.gptp.syncs + 1 := if_neg (by
    simp only [gap, lost, g, x, Bool.or_eq_true, decide_eq_true_eq, beq_iff_eq]
    omega)
  rw [hl, if_neg (by simp), if_neg (by omega)]
  simp only [z, hcount, offset, g, x]
  rfl

theorem State.sync_published {s : State} {status offset rate : Nat} (h : Dict.wf s.part.variant s.dict = true) :
    let x := ((s.setNum Adr.gptpStatus status).setNum Adr.gptpOffset offset).setNum Adr.rateAdjust rate
    x.numAt Adr.gptpStatus = status ∧ x.numAt Adr.gptpOffset = offset ∧ x.numAt Adr.rateAdjust = rate := by
  have h1 := State.setNum_wf Adr.gptpStatus status h
  have h2 := State.setNum_wf Adr.gptpOffset offset h1
  refine ⟨?_, ?_, State.numAt_setNum_same _ _ h2⟩
  · rw [State.numAt_setNum_other _ h2 (by decide), State.numAt_setNum_other _ h1 (by decide),
      State.numAt_setNum_same _ _ h]
  · rw [State.numAt_setNum_other _ h2 (by decide), State.numAt_setNum_same _ _ h1]

theorem exec_pdelayMessage {t1 t2 t3 t4 : Nat} (hu : u = s.advanceCharged t) (hd : u.dormant = false)
    (hp : p.val < u.part.variant.ethPorts) :
    exec (.pdelayMessage t p t1 t2 t3 t4) s = .next (u.setGptp (fun y => { y with
      pathDelays := modifyAt y.pathDelays p.val (fun _ => ((t4 - t1) - (t3 - t2)) / 2) })) := by
  show Host.Outcome.next (doPdelayMessage t p t1 t2 t3 t4 s) = _
  unfold doPdelayMessage
  rw [← hu]
  exact congrArg _ (if_neg (by simp [hd, hp]))

theorem exec_gptpTimeout (hu : u = s.advanceCharged t) (hs : u.numAt Adr.gptpStatus = 2)
    (h : u.tick.gptp.lastSync + 3 * u.tick.gptp.interval ≤ u.tick.now) :
    exec (.gptpTimeout t) s = .next ((u.setNum Adr.gptpStatus 3).setGptp (fun y => { y with syncs := 0 })) := by
  show Host.Outcome.next (doGptpTimeout t s) = _
  unfold doGptpTimeout
  rw [← hu]
  exact congrArg _ (if_pos (by simp [hs, h]))

end

/-- Settles O14: the status, the offset and the adjustment as the register file holds them after a Sync. -/
theorem gptpFollowsSyncs : Obligations.GptpFollowsSyncs := by
  unfold Obligations.GptpFollowsSyncs
  refine ⟨fun s t domain origin interval p => ?_, fun s t t1 t2 t3 t4 p => exec_pdelayMessage rfl,
    fun s t => exec_gptpTimeout rfl⟩
  intro u g ⟨⟨hwf, _⟩, _⟩ hl
  have hu : u = s.advanceCharged t := rfl
  clear_value u
  refine ⟨fun h => ?_, fun hg hs hn => ?_⟩
  · obtain ⟨n, he⟩ := exec_syncMessage_acquiring (origin := origin) hu hl h
    refine ⟨_, he, State.numAt_setNum_same _ _ hwf, ?_, ?_, rfl, rfl⟩
    · exact State.valAt_setNum_other _ hwf (by decide)
    · exact State.valAt_setNum_other _ hwf (by decide)
  · obtain ⟨v, x, hv, hp, hd, ht, he⟩ := exec_syncMessage_synced (origin := origin) hu hl hg hs hn
    obtain ⟨hst, ho, hr⟩ := State.sync_published (s := x) (by rw [hp, hd]; exact hwf)
    refine ⟨_, he, hst, ho, ?_, ?_, congrArg Gptp.lastSync ht, congrArg Gptp.interval ht⟩
    · rw [State.intAt, hr, toSigned_ofSigned (by decide) (by norm_num; omega) (by norm_num; omega)]
      omega
    · rw [State.intAt, hr, toSigned_ofSigned (by decide) (by norm_num; omega) (by norm_num; omega)]
      omega

end Sys2Proof.Machine

/-! PROOFS of the statements about READ, WRITE and refused requests: values served and staged (O15), and what a refusal
leaves unchanged (O16). -/

namespace Sys2Proof.Machine

/-! ## The services as requests -/

section
variable {s : State} {p : Pdu}

/-- READ, once it is heard. -/
theorem exec_read (h : s.hears p.t p.port p.sender 1 p.index) : exec (.read p) s = .next
    (((s.heard p.t p.port p.sender).serveRead p.port p.flags (p.index * 256 + p.sub)).send p.port
      ((s.heard p.t p.port p.sender).routeOf p.port p.sender) 1 p.seq (p.index * 256 + p.sub)) := by
  show Host.Outcome.next (doRead p s) = _
  rw [doRead, State.servePdu, State.request_heard h]

/-- WRITE, once it is heard. -/
theorem exec_write (h : s.hears p.t p.port p.sender 2 p.index) : exec (.write p) s = .next
    (((s.heard p.t p.port p.sender).serveWrite p.port p.sender p.seq p.flags (p.index * 256 + p.sub) p.payload).send p.port
      ((s.heard p.t p.port p.sender).routeOf p.port p.sender) 2 p.seq (p.index * 256 + p.sub)) := by
  show Host.Outcome.next (doWrite p s) = _
  rw [doWrite, State.servePdu, State.request_heard h]

/-- A request that its service refuses outright ends in its abort. -/
theorem State.servePdu_refused {service code : Nat} (h : s.hears p.t p.port p.sender service p.index) :
    s.servePdu p service (fun s => .refused 0 code s) =
      (s.heard p.t p.port p.sender).aborted p.port p.sender service p.seq (p.index * 256 + p.sub) code :=
  State.request_heard h

/-- A code that is no service names no row of its own. -/
theorem doUnknownService_of_no_service {code : Nat} (hc : code = 0 ∨ 8 < code) :
    doUnknownService p code s = s.servePdu p code (fun s => .refused 0 0x0601 s) :=
  if_neg (by simp only [Bool.and_eq_true, decide_eq_true_eq]; omega)

end

/-! ## A WRITE that passes its checks, and one that a check refuses -/

theorem firstCode_cons (x : Option Nat) (xs : List (Option Nat)) :
    firstCode (x :: xs) = x.or (firstCode xs) := by
  cases x <;> rfl

/-- Checks that stand as one in a list of checks. -/
theorem firstCode_nested (x y : Option Nat) (zs : List (Option Nat)) :
    firstCode [x, y, firstCode zs] = firstCode (x :: y :: zs) := by
  simp only [firstCode_cons, show firstCode [] = none from rfl, Option.or_none]

theorem State.serveWrite_refused {s : State} {p : Port} {sender seq flags a code : Nat} {payload : Bytes}
    (h : firstCode [flagCheck flags, refuseIf (blockOnly a || tooShort a payload) 0x0602,
      s.refuses p a (writeValue a payload)] = some code) :
    s.serveWrite p sender seq flags a payload = .refused 0 code s := by
  unfold State.serveWrite
  simp only [h]

/-- A WRITE of an object with no response of its own, once every check has passed. -/
theorem State.serveWrite_granted {s x : State} {p : Port} {sender seq flags a : Nat} {payload : Bytes}
    (h : firstCode [flagCheck flags, refuseIf (blockOnly a || tooShort a payload) 0x0602,
      s.refuses p a (writeValue a payload)] = none) (hs : isSelector a = false) (ht : a ≠ Adr.tlbInvalidate)
    (hc : a ≠ Adr.ctlReset) (hp : s.perform p a (writeValue a payload) = (none, x)) :
    s.serveWrite p sender seq flags a payload = .done 0 [] (x.touchLease p) := by
  unfold State.serveWrite
  simp only [h, hp, hs, beq_eq_false_iff_ne.2 ht, beq_eq_false_iff_ne.2 hc, Bool.false_eq_true, if_false]

/-! ## Settings that take effect at the meridian -/

/-- A table in which the rows whose values wait for the meridian hold neither counters nor WRAP flags. -/
def plainWhereRwm (os : List Obj) : Bool := os.all (fun o => o.acc != .rwm || o.kind == .plain)

theorem plainWhereRwm_ite {c : Prop} [Decidable c] {x y : List Obj} (hx : plainWhereRwm x = true)
    (hy : plainWhereRwm y = true) : plainWhereRwm (if c then x else y) = true := by
  split <;> assumption

theorem plainWhereRwm_rowsOf (index : Nat) : plainWhereRwm (rowsOf index) = true := by
  have h : [identityObjs, portObjs, tickObjs, powerObjs, ingestObjs, shapingObjs, arrayObjs, formatObjs, jobObjs,
      memoryObjs, fabricObjs, hostObjs, safetyObjs, logbookObjs, keyObjs, touchObjs, platformObjs].all plainWhereRwm =
      true := by decide +kernel
  simp only [List.all_cons, List.all_nil, Bool.and_true, Bool.and_eq_true] at h
  obtain ⟨identity, port, tick, power, ingest, shaping, array, format, job, memory, fabric, host, safety, logbook, key,
    touch, platform⟩ := h
  unfold rowsOf
  repeat' apply plainWhereRwm_ite
  all_goals assumption

theorem kindAt_of_rwm {a : Nat} (h : accessAt a = .rwm) : kindAt a = .plain := by
  unfold accessAt objAt findObj at h
  unfold kindAt objAt findObj
  cases hf : (rowsOf (a / 256)).find? (fun o => o.covers (a / 256) && o.lo ≤ a % 256 && a % 256 ≤ o.hi) with
  | none => rfl
  | some o =>
    rw [hf] at h
    have := List.all_eq_true.1 (plainWhereRwm_rowsOf (a / 256)) o (List.mem_of_find?_eq_some hf)
    simpa [show o.acc = .rwm from h] using this

/-- Addresses of single commands and of the objects with an effect of their own. -/
def commandAddresses : List Nat :=
  [Adr.realign, Adr.store, Adr.restore, Adr.restoreFactory, Adr.faultAck, Adr.arrayFaultClear, Adr.logbookClear,
    Adr.eventAck, Adr.keyLock, Adr.selfTest, Adr.seqRun, Adr.seqAbort, Adr.tripClear, Adr.platPending, Adr.powerCmd,
    Adr.warmReset, Adr.debugLock, Adr.touchRefMapWrite, Adr.persistClear, Adr.securityVersionRaise, Adr.debugResponse,
    Adr.tlbInvalidate, Adr.ctlReset, Adr.logbookReadSeq, Adr.persistReadIndex]

theorem ne_of_rwm {a b : Nat} (h : accessAt a = .rwm) (hb : accessAt b ≠ .rwm) : (a == b) = false :=
  beq_eq_false_iff_ne.2 (fun e => hb (e ▸ h))

theorem command_not_rwm : ∀ b ∈ commandAddresses, accessAt b ≠ .rwm := by decide +kernel

theorem release_not_rwm : ∀ n < 48, accessAt (Adr.release n) ≠ .rwm := by decide +kernel

theorem acquire_not_rwm : ∀ n < 48, accessAt (Adr.acquire n) ≠ .rwm := by decide +kernel

theorem queueAbort_not_rwm : ∀ n < 32, accessAt (Adr.queueAbort n) ≠ .rwm := by decide +kernel

theorem tfResolve_not_rwm : ∀ n < 32, accessAt (Adr.tfResolve n) ≠ .rwm := by decide +kernel

theorem reportAck_not_rwm : ∀ n < 4, accessAt (Adr.reportAck n) ≠ .rwm := by decide +kernel

/-- An index between two bounds names a member of a family of addresses, and `a` is none of them. -/
theorem outside_family {a i lo hi stride k : Nat} {f : Nat → Nat} (hs : hi - lo ≤ stride * k)
    (hf : ∀ n < k, (a == f n) = false) : (lo ≤ i && i < hi && a == f ((i - lo) / stride)) = false := by
  by_cases hi' : lo ≤ i ∧ i < hi
  · rw [hf _ (Nat.div_lt_of_lt_mul (by omega)), Bool.and_false]
  · rw [← Bool.decide_and, decide_eq_false hi', Bool.false_and]

section
variable {s : State} {a : Nat}

theorem isSelector_of_rwm (h : accessAt a = .rwm) : isSelector a = false := by
  simp only [isSelector, ne_of_rwm h (command_not_rwm Adr.logbookReadSeq (by decide)),
    ne_of_rwm h (command_not_rwm Adr.persistReadIndex (by decide)), Bool.or_self]

theorem State.command_of_rwm {v : Val} (h : accessAt a = .rwm) : s.command a v = none := by
  have hn : ∀ b ∈ commandAddresses, (a == b) = false := fun b hb => ne_of_rwm h (command_not_rwm b hb)
  simp only [commandAddresses, List.forall_mem_cons] at hn
  simp only [State.command, hn, Bool.false_eq_true, if_false]

theorem State.unitCommand_of_rwm {x : Nat} (h : accessAt a = .rwm) : s.unitCommand a x = none := by
  have hr : ∀ n < 48, (a == Adr.release n) = false := fun n hn => ne_of_rwm h (release_not_rwm n hn)
  have ha : ∀ n < 48, (a == Adr.acquire n) = false := fun n hn => ne_of_rwm h (acquire_not_rwm n hn)
  have hq : ∀ n < 32, (a == Adr.queueAbort n) = false := fun n hn => ne_of_rwm h (queueAbort_not_rwm n hn)
  have ht : ∀ n < 32, (a == Adr.tfResolve n) = false := fun n hn => ne_of_rwm h (tfResolve_not_rwm n hn)
  have hp : ∀ n < 4, (a == Adr.reportAck n) = false := fun n hn => ne_of_rwm h (reportAck_not_rwm n hn)
  unfold State.unitCommand
  extract_lets index
  have ht1 : (0x2840 ≤ index && index < 0x2860 && a == Adr.tfResolve (index - 0x2840)) = false := by
    simpa only [Nat.div_one] using outside_family (lo := 0x2840) (hi := 0x2860) (stride := 1) (i := index) (by decide) ht
  simp only [outside_family (lo := 0x1000) (hi := 0x1180) (stride := 8) (i := index) (by decide) hr,
    outside_family (lo := 0x1000) (hi := 0x1180) (stride := 8) (i := index) (by decide) ha,
    outside_family (lo := 0x2420) (hi := 0x2460) (stride := 2) (i := index) (by decide) hq, ht1,
    outside_family (lo := 0x5400) (hi := 0x5440) (stride := 16) (i := index) (by decide) hp, Bool.false_eq_true, if_false]

/-- R60, R61: an accepted write of such a setting is staged while the generator runs. -/
theorem State.perform_of_rwm {p : Port} {v : Val} (h : accessAt a = .rwm) (hg : s.tick.gen ≠ .halted) :
    s.perform p a v = (none, s.stage a v) := by
  have hd : (a == Adr.debugResponse) = false := ne_of_rwm h (command_not_rwm _ (by decide))
  have hput : s.putSetting a v = s.stage a v := by
    unfold State.putSetting
    exact if_pos (by simp [h, hg])
  simp [State.perform, isSelector_of_rwm h, kindAt_of_rwm h, hd, State.unitCommand_of_rwm h, State.command_of_rwm h, hput]

end

theorem State.touchLease_within {s : State} {p : Port} : State.Within [.own] s (s.touchLease p) :=
  (State.Sound.touchLease (State.Sound.refl _ s) rfl).within

theorem State.respond_within {s : State} {p : Port} {r : Route} {pdu : Bytes} :
    State.Within [.ports, .host, .sent] s (s.respond p r pdu) :=
  (State.Sound.respond (State.Sound.refl _ s) rfl).within

/-- The end of a served request leaves settings and staged values alone. -/
theorem State.answered_frame (s : State) (p : Port) (r : Route) (service seq a flags : Nat) (payload : Bytes) :
    (s.answered p r service seq a flags payload).dict = s.dict ∧
      (s.answered p r service seq a flags payload).staged = s.staged :=
  ⟨(State.respond_within.dict rfl).trans (State.touchLease_within.dict rfl),
    (State.respond_within.staged rfl).trans (State.touchLease_within.staged rfl)⟩

/-- Settles O15: READ is `State.serveRead_granted`, and WRITE of such a setting stages it. -/
theorem readsAndWritesAreServed : Obligations.ReadsAndWritesAreServed := by
  unfold Obligations.ReadsAndWritesAreServed
  refine ⟨fun s p => ?_, fun s p => ?_⟩
  · intro a h hh hf hb he hr
    rw [exec_read hh, hf, State.serveRead_granted hb he hr]
    rfl
  · intro a h hg hsub hrwm hgen
    obtain ⟨hh, hf, hb, hs, href⟩ := hg
    have hidx : a / 256 = p.index := by omega
    have hchecks : firstCode [flagCheck p.flags, refuseIf (blockOnly a || tooShort a p.payload) 0x0602,
        h.refuses p.port a (writeValue a p.payload)] = none :=
      firstCode_none (by simp [flagCheck, refuseIf, show p.flags = 0 from hf, hb, show tooShort a p.payload = false from hs,
        show h.refuses p.port a (writeValue a p.payload) = none from href])
    have hserve := State.serveWrite_granted (sender := p.sender) (seq := p.seq) hchecks (isSelector_of_rwm hrwm)
      (beq_eq_false_iff_ne.1 (ne_of_rwm hrwm (command_not_rwm _ (by decide))))
      (beq_eq_false_iff_ne.1 (ne_of_rwm hrwm (command_not_rwm _ (by decide)))) (State.perform_of_rwm hrwm hgen)
    obtain ⟨hd, hst⟩ := (h.stage a (writeValue a p.payload)).answered_frame p.port (h.routeOf p.port p.sender) 2 p.seq a 0 []
    refine ⟨(h.stage a (writeValue a p.payload)).answered p.port (h.routeOf p.port p.sender) 2 p.seq a 0 [], ?_, hd, hst, ?_⟩
    · rw [exec_write (hidx ▸ hh), hserve]
      rfl
    · rw [hst]
      rfl

/-- Settles O16: each of the four ways out of a request that is not served. -/
theorem refusalsChangeNothing : Obligations.RefusalsChangeNothing := by
  unfold Obligations.RefusalsChangeNothing
  refine ⟨fun s p code => ?_, fun s p => ⟨fun hh => ?_, fun code hc hh => ?_⟩, fun s t port sender why =>
    ⟨fun hm ho ha => ?_, fun hn => ?_⟩⟩
  · intro a h v hh hc
    rw [exec_write hh, State.serveWrite_refused ((firstCode_nested _ _ _).trans hc)]
    rfl
  · exact congrArg Host.Outcome.next (State.servePdu_refused hh)
  · exact congrArg Host.Outcome.next ((doUnknownService_of_no_service hc).trans (State.servePdu_refused hh))
  · show Host.Outcome.next (doMalformedPdu t port sender why s) = _
    unfold doMalformedPdu
    simp [hm, ho, ha, State.dropPdu]
  · show Host.Outcome.next (doMalformedPdu t port sender why s) = _
    unfold doMalformedPdu
    exact congrArg _ (if_pos (by rcases hn with hn | hn <;> simp [hn]))

end Sys2Proof.Machine

/-! PROOFS of the statement about block transfers (O18): segments of READ_BLOCK and WRITE_BLOCK, SEG_TIMEOUT, and the
rows that name one object. -/

namespace Sys2Proof.Machine

/-! ## The block services as requests -/

section
variable {s : State} {p : Pdu}

theorem exec_readBlock (h : s.hears p.t p.port p.sender 3 p.index) : exec (.readBlock p) s = .next
    (((s.heard p.t p.port p.sender).serveBlock p.port false p.seq p.flags (p.index * 256 + p.sub) p.payload).send p.port
      ((s.heard p.t p.port p.sender).routeOf p.port p.sender) 3 p.seq (p.index * 256 + p.sub)) := by
  show Host.Outcome.next (doReadBlock p s) = _
  rw [doReadBlock, State.servePdu, State.request_heard h]

theorem exec_writeBlock (h : s.hears p.t p.port p.sender 4 p.index) : exec (.writeBlock p) s = .next
    (((s.heard p.t p.port p.sender).serveBlock p.port true p.seq p.flags (p.index * 256 + p.sub) p.payload).send p.port
      ((s.heard p.t p.port p.sender).routeOf p.port p.sender) 4 p.seq (p.index * 256 + p.sub)) := by
  show Host.Outcome.next (doWriteBlock p s) = _
  rw [doWriteBlock, State.servePdu, State.request_heard h]

/-- A row that names one object is the block service on that object. -/
theorem State.blockRow_readBlock (a : Nat) :
    s.blockRow p false a = doReadBlock { p with index := a / 256, sub := a % 256 } s := by
  unfold State.blockRow doReadBlock State.servePdu
  simp only [addr_split, Bool.false_eq_true, if_false]

theorem State.blockRow_writeBlock (a : Nat) :
    s.blockRow p true a = doWriteBlock { p with index := a / 256, sub := a % 256 } s := by
  unfold State.blockRow doWriteBlock State.servePdu
  simp only [addr_split, if_true]

end

theorem State.arrival_inv {s : State} {t : Nat} (h : s.Inv) : (s.arrival t).Inv :=
  (State.Sound.settleOwnership (State.Sound.advanceCharged (State.Sound.refl [.dict, .clock, .tally, .arrs, .queues, .mem,
    .bin, .log, .own, .ports, .host, .sent] s) rfl) rfl).good h

theorem State.heard_inv {s : State} {t sender : Nat} {p : Port} (h : s.Inv) : (s.heard t p sender).Inv :=
  (State.Sound.notePeer (State.Sound.acceptOn (State.Sound.refl [.dict, .host, .sent, .ports] (s.arrival t)) rfl)
    rfl).good (State.arrival_inv h)

/-- The four ports of the part. -/
theorem State.Inv.port_lt {s : State} (h : s.Inv) (p : Port) : p.idx < s.ports.length := by
  rw [((State.shaped_iff s).1 h.2).1]
  cases p <;> decide

/-! ## What stays of a port whose transfer changes -/

/-- A value of a port that an update of a port keeps. -/
theorem State.portAt_setPort_kept {β : Type} {f : PortState → PortState} (g : PortState → β) (hf : ∀ z, g (f z) = g z)
    (s : State) (p q : Port) : g ((s.setPort p f).portAt q) = g (s.portAt q) := by
  by_cases hq : p.idx = q.idx
  · by_cases hl : p.idx < s.ports.length
    · rw [State.portAt, ← hq, State.setPort_ports, nth_modifyAt_same _ _ hl, hf]
      exact congrArg g (congrArg (nth s.ports · PortState.zero) hq)
    · rw [State.portAt, State.portAt, State.setPort_ports, nth, nth, List.getD_eq_default _ _ (by simp; omega),
        List.getD_eq_default _ _ (by omega)]
  · rw [State.portAt_setPort_other s p q f hq]

theorem State.respond_transfer (s : State) (p q : Port) (r : Route) (pdu : Bytes) :
    ((s.respond p r pdu).portAt q).transfer = (s.portAt q).transfer := by
  unfold State.respond
  split
  · have h : State.Within [.host, .sent] s (s.sendResponse p r pdu) :=
      (State.Sound.sendResponse (State.Sound.refl _ s) rfl).within
    rw [State.portAt, h.ports rfl, State.portAt]
  · exact State.portAt_setPort_kept PortState.transfer (by intro; rfl) s p q

/-- The end of a served request leaves the block transfers of the ports alone. -/
theorem State.answered_transfer (s : State) (p q : Port) (r : Route) (service seq a flags : Nat) (payload : Bytes) :
    ((s.answered p r service seq a flags payload).portAt q).transfer = (s.portAt q).transfer := by
  rw [State.answered, State.respond_transfer, State.portAt, State.touchLease_within.ports rfl, State.portAt]

theorem map_modifyAt_of_fixed {α β : Type} {xs : List α} {i : Nat} {f : α → α} {g : α → β} {d : α}
    (h : g (f (nth xs i d)) = g (nth xs i d)) : (modifyAt xs i f).map g = xs.map g := by
  induction xs generalizing i with
  | nil => rfl
  | cons x xs ih =>
    cases i with
    | zero => exact congrArg (· :: xs.map g) h
    | succ i => exact congrArg (g x :: ·) (ih h)

section
variable {s : State} {p : Port} {f : PortState → PortState}

/-- R287: the logbook is read out by a transfer of a port, and nothing else of the port matters to it. -/
theorem State.exporting_setPort (h : (f (s.portAt p)).transfer = (s.portAt p).transfer) :
    (s.setPort p f).exporting = s.exporting := by
  have hm : ∀ x : State, x.exporting = (x.ports.map PortState.transfer).any (fun
      | none => false
      | some x => !x.write && x.addr == Adr.logbookExport && !x.finished) := by
    intro x
    rw [State.exporting, List.any_map]
    rfl
  rw [hm, hm, State.setPort_ports, map_modifyAt_of_fixed h]

theorem State.stateCheck_setPort (h : (f (s.portAt p)).transfer = (s.portAt p).transfer) (a x : Nat) :
    (s.setPort p f).stateCheck a x = s.stateCheck a x := by
  have hs : (s.setPort p f).safetyCheck a x = s.safetyCheck a x := by
    unfold State.safetyCheck
    rw [State.exporting_setPort h]
    rfl
  unfold State.stateCheck
  rw [hs]
  rfl

/-- Steps 2 to 5 of R64 do not look at what is kept of a finished transfer. -/
theorem State.segmentCheck_setPort (h : (f (s.portAt p)).transfer = (s.portAt p).transfer) (q : Port) (g : Segment) :
    (s.setPort p f).segmentCheck q g = s.segmentCheck q g := by
  unfold State.segmentCheck
  rw [State.stateCheck_setPort h]
  rfl

/-- The selectors of a port are all that a read sees of it (R285). -/
theorem State.readVal_setPort (h1 : ∀ z, (f z).readSeq = z.readSeq) (h2 : ∀ z, (f z).persistIndex = z.persistIndex)
    (q : Port) (a : Nat) : (s.setPort p f).readVal q a = s.readVal q a := by
  have hh : (s.setPort p f).viewHost q a = s.viewHost q a := by
    unfold State.viewHost
    rw [State.portAt_setPort_kept PortState.readSeq h1, State.portAt_setPort_kept PortState.persistIndex h2]
    rfl
  unfold State.readVal State.view
  rw [hh]
  rfl

/-- R80: a count and, where it wraps, its flag. -/
theorem State.bumpBy_dict (s : State) (a k : Nat) : (s.bumpBy a k).dict =
    if s.numAt a + k < 2 ^ 64 then s.dict.set s.part.variant a (.num (s.numAt a + k))
    else (s.dict.set s.part.variant a (.num ((s.numAt a + k) % 2 ^ 64))).set s.part.variant (wrapFlagOf a) (.num 1) := by
  unfold State.bumpBy
  extract_lets x
  split <;> rfl

theorem State.bumpBy_dict_congr {s t : State} (hp : t.part = s.part) (hd : t.dict = s.dict) (a k : Nat) :
    (t.bumpBy a k).dict = (s.bumpBy a k).dict := by
  have hn : t.numAt a = s.numAt a := congrArg Val.toNat (State.valAt_congr hp hd a)
  rw [State.bumpBy_dict, State.bumpBy_dict, hn, hp, hd]

theorem State.readRecords_dict_setPort (h1 : ∀ z, (f z).readSeq = z.readSeq)
    (h2 : ∀ z, (f z).persistIndex = z.persistIndex) (q : Port) (a : Nat) :
    ((s.setPort p f).readRecords q a).dict = (s.readRecords q a).dict := by
  unfold State.readRecords
  simp only [State.portAt_setPort_kept PortState.readSeq h1, State.portAt_setPort_kept PortState.persistIndex h2]
  have hb (k : Nat) : ((s.setPort p f).bumpBy Adr.recordsDamaged k).dict = (s.bumpBy Adr.recordsDamaged k).dict :=
    State.bumpBy_dict_congr (s := s) (t := s.setPort p f) rfl rfl _ _
  simp only [apply_ite State.dict, hb]
  rfl

end

/-! ## A segment that is no repeat -/

section
variable {s : State} {p : Port} {g : Segment} {k : Transfer}

/-- R49: a transfer whose latest segment is not late stays. -/
theorem State.expireTransfer_of_current (h : ∀ k, (s.portAt p).transfer = some k → s.segmentLate k = false) :
    s.expireTransfer p = s := by
  unfold State.expireTransfer
  split
  · rfl
  · rename_i k hk
    simp only [h k hk, Bool.not_false, if_true]

/-- R49: a late transfer in progress is discarded. -/
theorem State.expireTransfer_of_late (ht : (s.portAt p).transfer = some k) (hl : s.segmentLate k = true)
    (hf : k.finished = false) : s.expireTransfer p = s.discardTransfer p 0x0604 := by
  unfold State.expireTransfer
  simp only [ht, hl, hf, Bool.not_true, Bool.false_eq_true, if_false]

theorem State.discardTransfer_idle (h : (s.portAt p).busy = false) (code : Nat) : s.discardTransfer p code = s :=
  if_neg (by simp [h])

theorem State.discardTransfer_busy (h : (s.portAt p).busy = true) (code : Nat) : s.discardTransfer p code =
    (s.setPort p (fun x => { x with transfer := none, discarded := some code })).bump (Adr.transfersDiscarded p.idx) :=
  if_pos h

/-- A segment with the next SEQUENCE repeats nothing. -/
theorem Transfer.repeats_of_next (h : g.seq = (k.seq + 1) % 256) : k.repeats g = false := by
  have hn : (k.seq == g.seq) = false := beq_eq_false_iff_ne.2 (by omega)
  simp [Transfer.repeats, hn]

/-- Without a transfer on its port, a segment with SEG and good flags is judged as a fresh one. -/
theorem State.serveBlock_idle {write : Bool} {seq flags a : Nat} {payload : Bytes} (hf : bitAt flags 7 = false)
    (hr : flags % 16 = 0) (ht : (s.portAt p).transfer = none) :
    s.serveBlock p write seq flags a payload = s.freshSegment p (segmentOf write seq flags a payload) := by
  unfold State.serveBlock
  rw [State.expireTransfer_of_current (fun k hk => by simp [ht] at hk)]
  simp [hf, hr, ht]

/-- A segment of the transfer in progress with the next SEQUENCE. -/
theorem State.serveBlock_next {write : Bool} {seq flags a : Nat} {payload : Bytes} (hf : bitAt flags 7 = false)
    (hr : flags % 16 = 0) (ht : (s.portAt p).transfer = some k) (hl : s.segmentLate k = false)
    (hs : seq = (k.seq + 1) % 256) :
    s.serveBlock p write seq flags a payload = s.freshSegment p (segmentOf write seq flags a payload) := by
  unfold State.serveBlock
  rw [State.expireTransfer_of_current (fun j hj => by rw [ht] at hj; exact Option.some.inj hj ▸ hl)]
  simp [hf, hr, ht, Transfer.repeats_of_next (k := k) (g := segmentOf write seq flags a payload) hs]

theorem State.freshSegment_init (hs : g.seg = true) (hf : g.first = true) : s.freshSegment p g = s.initSegment p g := by
  simp [State.freshSegment, hs, hf]

theorem State.freshSegment_next (hs : g.seg = true) (hf : g.first = false) (ht : (s.portAt p).transfer = some k)
    (hk : k.finished = false) : s.freshSegment p g = s.nextSegment p g k := by
  simp [State.freshSegment, hs, hf, ht, hk]

/-- A port with nothing kept of an earlier transfer. -/
def State.clearTransfer (s : State) (p : Port) : State :=
  s.setPort p (fun y => { y with transfer := none, discarded := none })

theorem State.segmentCheck_clearTransfer (ht : (s.portAt p).transfer = none) (q : Port) (g : Segment) :
    (s.clearTransfer p).segmentCheck q g = s.segmentCheck q g :=
  State.segmentCheck_setPort (by simpa using ht.symm) q g

theorem State.clearTransfer_of_idle (ht : (s.portAt p).transfer = none) :
    (s.discardTransfer p 0x0605).setPort p (fun y => { y with
      transfer := none, discarded := if (s.portAt p).busy then some 0x0605 else none }) = s.clearTransfer p := by
  have hb : (s.portAt p).busy = false := by rw [PortState.busy, ht]
  rw [State.discardTransfer_idle hb, hb]
  rfl

/-- R50: an INIT segment of a WRITE_BLOCK that passes every check. -/
theorem State.initSegment_write (ht : (s.portAt p).transfer = none) (hw : g.write = true) (hfix : fixedAt g.addr = false)
    (hlen : 4 ≤ g.payload.length) (htotal : field g.payload 0 4 ≤ 65536)
    (hok : lengthOk p g 0 (field g.payload 0 4) (g.payload.length - 4) = true) (hc : s.segmentCheck p g = none) :
    s.initSegment p g = (s.clearTransfer p).takeSegment p g
      (Transfer.open_ g (field g.payload 0 4) [] (s.clearTransfer p).tick.now) (g.payload.drop 4) := by
  unfold State.initSegment
  simp only [State.clearTransfer_of_idle ht, State.segmentCheck_clearTransfer ht, hw, hfix, hok, hc, Bool.true_and,
    Bool.false_or, Bool.not_true, Bool.false_eq_true, if_false, if_true, decide_eq_true_eq, Nat.not_lt.2 hlen,
    Nat.not_lt.2 htotal]

/-- R49, R285: an INIT segment of a READ_BLOCK that passes its checks. -/
theorem State.initSegment_read (ht : (s.portAt p).transfer = none) (hw : g.write = false) (hfix : fixedAt g.addr = false)
    (hc : s.segmentCheck p g = none) : s.initSegment p g =
      ((s.clearTransfer p).readRecords p g.addr).sendSegment p g ((s.clearTransfer p).openRead p g) := by
  unfold State.initSegment
  simp only [State.clearTransfer_of_idle ht, State.segmentCheck_clearTransfer ht, hw, hfix, hc, Bool.false_and,
    Bool.or_self, Bool.false_eq_true, if_false]

/-- R50: a later segment of a WRITE_BLOCK that passes every check. -/
theorem State.nextSegment_write (hw : g.write = true) (hkw : k.write = true) (ha : k.addr = g.addr)
    (hs : g.seq = (k.seq + 1) % 256) (hok : lengthOk p g k.buf.length k.total g.payload.length = true)
    (hc : s.segmentCheck p g = none) : s.nextSegment p g k = s.takeSegment p g k g.payload := by
  unfold State.nextSegment
  simp only [hkw, hw, ha, hs, hok, hc, bne_self_eq_false, Bool.or_self, Bool.not_true, Bool.and_false,
    Bool.false_eq_true, if_false, if_true]

/-- R49: a later segment of a READ_BLOCK. -/
theorem State.nextSegment_read (hw : g.write = false) (hkw : k.write = false) (ha : k.addr = g.addr)
    (hs : g.seq = (k.seq + 1) % 256) (hc : s.segmentCheck p g = none) : s.nextSegment p g k = s.sendSegment p g k := by
  unfold State.nextSegment
  simp only [hkw, hw, ha, hs, hc, bne_self_eq_false, Bool.or_self, Bool.false_and, Bool.false_eq_true, if_false]

/-- What a transfer keeps when `data` have come. -/
def Transfer.with_ (k : Transfer) (data : Bytes) : Transfer := { k with buf := (k.buf ++ data).take k.total }

/-- R50: a port while the data of a segment are in its transfer and the segment is not yet answered. -/
def State.holdData (s : State) (p : Port) (k : Transfer) (data : Bytes) : State :=
  s.setPort p (fun y => { y with transfer := some { k.with_ data with finished := false }, discarded := none })

/-- R50: a segment that is not the last is kept and answered. -/
theorem State.takeSegment_middle (hl : g.last = false) (data : Bytes) : s.takeSegment p g k data =
    .done (g.flags false) [] (((s.holdData p k data).setPort p (fun y => { y with
      transfer := some ((k.with_ data).answered g (g.flags false) [] (s.holdData p k data).tick.now false) })).touchLease p) := by
  unfold State.takeSegment
  simp only [hl, Bool.not_false, if_true]
  rfl

/-- R50: the last segment writes the whole value. -/
theorem State.takeSegment_last {x : State} (hl : g.last = true) {data : Bytes}
    (hv : (s.holdData p k data).valueCheck g.addr (.bytes (k.with_ data).buf) = none)
    (hp : (s.holdData p k data).perform p g.addr (.bytes (k.with_ data).buf) = (none, x)) :
    s.takeSegment p g k data = .done (g.flags true) [] ((x.setPort p (fun y => { y with
      transfer := some ((k.with_ data).answered g (g.flags true) [] s.tick.now true) })).touchLease p) := by
  unfold State.takeSegment
  extract_lets y kept s' keep
  have hv : s'.valueCheck g.addr (.bytes y.buf) = none := hv
  have hp : s'.perform p g.addr (.bytes y.buf) = (none, x) := hp
  simp only [hl, hv, hp, Bool.not_true, Bool.false_eq_true, if_false, keep, kept]
  rfl

/-- R285: the value of a READ_BLOCK is the object's as its port reads it. -/
theorem State.openRead_value : (s.openRead p g).buf = encodeVal (typeAt g.addr) (s.readVal p g.addr) ∧
    (s.openRead p g).total = (encodeVal (typeAt g.addr) (s.readVal p g.addr)).length ∧ (s.openRead p g).sent = 0 := by
  unfold State.openRead
  extract_lets value x rs
  clear_value rs
  cases rs <;> exact ⟨rfl, rfl, rfl⟩

end

/-! ## The end of a segment -/

section
variable {s : State} {p : Port} {g : Segment}

/-- R49: what a transfer keeps when its next segment has been sent. -/
def Transfer.advanced (k : Transfer) (p : Port) (g : Segment) (now : Nat) : Transfer :=
  let data := slice k.buf k.sent (if g.first then segmentSize p - 4 else segmentSize p)
  let last := decide (k.total ≤ k.sent + data.length)
  ({ k with sent := k.sent + data.length } : Transfer).answered g (g.flags last)
    ((if g.first then leBytes 4 k.total else []) ++ data) now last

theorem State.sendSegment_eq (k : Transfer) : s.sendSegment p g k =
    .done (g.flags (k.advanced p g s.tick.now).finished)
      ((if g.first then leBytes 4 k.total else []) ++
        slice k.buf k.sent (if g.first then segmentSize p - 4 else segmentSize p))
      ((s.setPort p (fun y => { y with transfer := some (k.advanced p g s.tick.now), discarded := none })).touchLease p) :=
  rfl

/-- A served segment leaves its transfer at its port, and settings and staged values alone. -/
theorem State.answered_setPort {f : PortState → PortState} {k : Transfer} (h : s.Inv) (hf : ∀ z, (f z).transfer = some k)
    (r : Route) (service seq a flags : Nat) (payload : Bytes) :
    let x := (s.setPort p f).answered p r service seq a flags payload
    (x.portAt p).transfer = some k ∧ x.dict = s.dict ∧ x.staged = s.staged := by
  intro x
  obtain ⟨hd, hst⟩ := (s.setPort p f).answered_frame p r service seq a flags payload
  refine ⟨?_, hd, hst⟩
  rw [State.answered_transfer, State.portAt_setPort _ _ _ (h.port_lt p), hf]

end

theorem four_le_segmentSize (p : Port) : 4 ≤ segmentSize p := by
  cases p <;> decide

/-! ## What each segment comes to -/

/-- R285: the value that an INIT segment fixes, and nothing of it sent. -/
theorem State.openRead_clearTransfer (s : State) (p : Port) (g : Segment) : let k := (s.clearTransfer p).openRead p g
    let value := encodeVal (typeAt g.addr) (s.readVal p g.addr)
    k.buf = value ∧ k.total = value.length ∧ k.sent = 0 := by
  intro k value
  have h := (s.clearTransfer p).openRead_value (p := p) (g := g)
  rwa [State.clearTransfer, State.readVal_setPort (by intro; rfl) (by intro; rfl)] at h

/-- R49: what the first segment of a value leaves to be sent. -/
theorem State.openRead_advanced (s : State) {p : Port} {g : Segment} {now : Nat} (hf : g.first = true) :
    let y := ((s.clearTransfer p).openRead p g).advanced p g now
    let value := encodeVal (typeAt g.addr) (s.readVal p g.addr); let data := slice value 0 (segmentSize p - 4)
    y.buf = value ∧ y.total = value.length ∧ y.sent = data.length ∧ y.finished = decide (value.length ≤ data.length) ∧
      y.response = responsePdu (if g.write then 4 else 3) g.seq g.addr (g.flags y.finished)
        (leBytes 4 value.length ++ data) := by
  obtain ⟨hbuf, htotal, hsent⟩ := s.openRead_clearTransfer p g
  simp [Transfer.advanced, Transfer.answered, hf, hbuf, htotal, hsent]

theorem State.clearTransfer_inv {s : State} {p : Port} (h : s.Inv) : (s.clearTransfer p).Inv :=
  (State.Sound.setPort (State.Sound.refl [.ports] s) rfl).good h

theorem modifyAt_modifyAt {α : Type} (xs : List α) (i : Nat) (f g : α → α) :
    modifyAt (modifyAt xs i f) i g = modifyAt xs i (fun x => g (f x)) := by
  induction xs generalizing i with
  | nil => rfl
  | cons x xs ih =>
    cases i with
    | zero => rfl
    | succ i => exact congrArg (x :: ·) (ih i)

theorem State.setPort_setPort (s : State) (p : Port) (f g : PortState → PortState) :
    (s.setPort p f).setPort p g = s.setPort p (fun x => g (f x)) := by
  simp only [State.setPort, modifyAt_modifyAt]

/-- R49: a served segment: its transfer stands at its port as `k`, and the owner's lease is set. -/
def State.segmentReply (s : State) (p : Port) (g : Segment) (k : Transfer) (payload : Bytes) : Reply :=
  .done (g.flags k.finished) payload
    ((s.setPort p (fun y => { y with transfer := some k, discarded := none })).touchLease p)

theorem State.segmentReply_send {s : State} (h : s.Inv) (p : Port) (g : Segment) (k : Transfer) (payload : Bytes)
    (r : Route) (service seq a : Nat) : let x := (s.segmentReply p g k payload).send p r service seq a
    (x.portAt p).transfer = some k ∧ x.dict = s.dict ∧ x.staged = s.staged :=
  State.answered_setPort h (by intro; rfl) r service seq a (g.flags k.finished) payload

theorem lengthOk_of_more {p : Port} {g : Segment} {had total data : Nat} (hl : g.last = false)
    (hlen : g.payload.length = segmentSize p) (h : had + data < total) : lengthOk p g had total data = true := by
  simp [lengthOk, hl, hlen, h]

theorem lengthOk_of_last {p : Port} {g : Segment} {had total data : Nat} (hl : g.last = true) (h : total ≤ had + data) :
    lengthOk p g had total data = true := by
  simp [lengthOk, hl, h]

section
variable {s : State} {p : Port} {seq a : Nat} {payload : Bytes} {k : Transfer}

/-- R50: the first segment of a value opens a transfer of the total it states. -/
theorem State.serveBlock_write_first (ht : (s.portAt p).transfer = none) (hfix : fixedAt a = false)
    (hlen : payload.length = segmentSize p) (htotal : field payload 0 4 ≤ 65536)
    (hless : payload.length < field payload 0 4 + 4)
    (hc : s.segmentCheck p (segmentOf true seq 0x50 a payload) = none) :
    let g := segmentOf true seq 0x50 a payload
    s.serveBlock p true seq 0x50 a payload = s.segmentReply p g
      (((Transfer.open_ g (field payload 0 4) [] s.tick.now).with_ (payload.drop 4)).answered g (g.flags false) []
        s.tick.now false) [] := by
  intro g
  have hsize := four_le_segmentSize p
  have hok : lengthOk p g 0 (field payload 0 4) (payload.length - 4) = true := lengthOk_of_more rfl hlen (by omega)
  rw [State.serveBlock_idle (by decide) rfl ht, State.freshSegment_init rfl rfl,
    State.initSegment_write ht rfl hfix (hlen ▸ hsize) htotal hok hc, State.takeSegment_middle rfl, State.holdData,
    State.setPort_setPort, State.clearTransfer, State.setPort_setPort]
  rfl

/-- R49, R50: a middle segment appends its data. -/
theorem State.serveBlock_write_middle (ht : (s.portAt p).transfer = some k) (hl : s.segmentLate k = false)
    (hk : k.finished = false) (hw : k.write = true) (ha : k.addr = a) (hs : seq = (k.seq + 1) % 256)
    (hlen : payload.length = segmentSize p) (hless : k.buf.length + payload.length < k.total)
    (hc : s.segmentCheck p (segmentOf true seq 0x40 a payload) = none) :
    let g := segmentOf true seq 0x40 a payload
    s.serveBlock p true seq 0x40 a payload = s.segmentReply p g
      ((k.with_ payload).answered g (g.flags false) [] s.tick.now false) [] := by
  intro g
  have hok : lengthOk p g k.buf.length k.total payload.length = true := lengthOk_of_more rfl hlen hless
  rw [State.serveBlock_next (by decide) rfl ht hl hs, State.freshSegment_next rfl rfl ht hk,
    State.nextSegment_write rfl hw ha hs hok hc, State.takeSegment_middle rfl, State.holdData, State.setPort_setPort]
  rfl

/-- R50: the last segment writes the whole value. -/
theorem State.serveBlock_write_last {x : State} (ht : (s.portAt p).transfer = some k) (hl : s.segmentLate k = false)
    (hk : k.finished = false) (hw : k.write = true) (ha : k.addr = a) (hs : seq = (k.seq + 1) % 256)
    (hmore : k.total ≤ k.buf.length + payload.length)
    (hc : s.segmentCheck p (segmentOf true seq 0x60 a payload) = none)
    (hv : (s.holdData p k payload).valueCheck a (.bytes (k.with_ payload).buf) = none)
    (hp : (s.holdData p k payload).perform p a (.bytes (k.with_ payload).buf) = (none, x)) :
    let g := segmentOf true seq 0x60 a payload
    s.serveBlock p true seq 0x60 a payload = .done 0x60 [] ((x.setPort p (fun y => { y with
      transfer := some ((k.with_ payload).answered g 0x60 [] s.tick.now true) })).touchLease p) := by
  intro g
  have hok : lengthOk p g k.buf.length k.total payload.length = true := lengthOk_of_last rfl hmore
  rw [State.serveBlock_next (by decide) rfl ht hl hs, State.freshSegment_next rfl rfl ht hk,
    State.nextSegment_write rfl hw ha hs hok hc]
  exact State.takeSegment_last (g := g) rfl hv hp

/-- R49, R285: the first segment of a value that is read. -/
theorem State.serveBlock_read_first (ht : (s.portAt p).transfer = none) (hfix : fixedAt a = false)
    (hc : s.segmentCheck p (segmentOf false seq 0x50 a payload) = none) :
    let g := segmentOf false seq 0x50 a payload; let k := (s.clearTransfer p).openRead p g
    let o := (s.clearTransfer p).readRecords p a
    s.serveBlock p false seq 0x50 a payload = o.segmentReply p g (k.advanced p g o.tick.now)
      (leBytes 4 k.total ++ slice k.buf k.sent (segmentSize p - 4)) := by
  intro g k o
  rw [State.serveBlock_idle (by decide) rfl ht, State.freshSegment_init rfl rfl,
    State.initSegment_read ht rfl hfix hc, State.sendSegment_eq]
  rfl

/-- R49: a further segment of a value that is read. -/
theorem State.serveBlock_read_next (ht : (s.portAt p).transfer = some k) (hl : s.segmentLate k = false)
    (hk : k.finished = false) (hw : k.write = false) (ha : k.addr = a) (hs : seq = (k.seq + 1) % 256)
    (hc : s.segmentCheck p (segmentOf false seq 0x40 a payload) = none) :
    let g := segmentOf false seq 0x40 a payload
    s.serveBlock p false seq 0x40 a payload = s.segmentReply p g (k.advanced p g s.tick.now)
      (slice k.buf k.sent (segmentSize p)) := by
  intro g
  rw [State.serveBlock_next (by decide) rfl ht hl hs, State.freshSegment_next rfl rfl ht hk,
    State.nextSegment_read rfl hw ha hs hc, State.sendSegment_eq]
  rfl

end

theorem State.readRecords_inv {s : State} {p : Port} {a : Nat} (h : s.Inv) : (s.readRecords p a).Inv :=
  (State.Sound.readRecords (State.Sound.refl [.dict] s) rfl).good h

section
variable {s : State} {p : Pdu} {flags : Nat} {y : Reply}

theorem exec_readBlock_of (h : s.hears p.t p.port p.sender 3 p.index) (hf : p.flags = flags)
    (hs : (s.heard p.t p.port p.sender).serveBlock p.port false p.seq flags (p.index * 256 + p.sub) p.payload = y) :
    exec (.readBlock p) s = .next (y.send p.port ((s.heard p.t p.port p.sender).routeOf p.port p.sender) 3 p.seq
      (p.index * 256 + p.sub)) := by
  rw [exec_readBlock h, hf, hs]

theorem exec_writeBlock_of (h : s.hears p.t p.port p.sender 4 p.index) (hf : p.flags = flags)
    (hs : (s.heard p.t p.port p.sender).serveBlock p.port true p.seq flags (p.index * 256 + p.sub) p.payload = y) :
    exec (.writeBlock p) s = .next (y.send p.port ((s.heard p.t p.port p.sender).routeOf p.port p.sender) 4 p.seq
      (p.index * 256 + p.sub)) := by
  rw [exec_writeBlock h, hf, hs]

end

/-! ## SEG_TIMEOUT (R49) -/

theorem State.valAt_bump_congr {s t : State} (hp : t.part = s.part) (hd : t.dict = s.dict) (a b : Nat) :
    (t.bump a).valAt b = (s.bump a).valAt b :=
  State.valAt_congr ((State.bump_frame t a).1.trans (hp.trans (State.bump_frame s a).1.symm))
    (State.bumpBy_dict_congr hp hd a 1) b

theorem State.discardTransfer_of_open {s : State} {p : Port} {k : Transfer} (h : s.Inv)
    (ht : (s.portAt p).transfer = some k) (hk : k.finished = false) (code : Nat) :
    let x := s.discardTransfer p code
    (x.portAt p).transfer = none ∧ (x.portAt p).discarded = some code ∧
      ∀ a, x.valAt a = (s.bump (Adr.transfersDiscarded p.idx)).valAt a := by
  intro x
  have hx : x = _ := State.discardTransfer_busy (by simp only [PortState.busy, ht, hk, Bool.not_false]) code
  have hport : x.portAt p = { s.portAt p with transfer := none, discarded := some code } := by
    rw [hx, State.portAt, (State.bump_frame _ _).2.2.2.2.2.2.1]
    exact State.portAt_setPort _ _ _ (h.port_lt p)
  rw [hport]
  exact ⟨rfl, rfl, fun a => by rw [hx]; exact State.valAt_bump_congr (s := s) (t := s.setPort p _) rfl rfl _ a⟩

/-- Settles O18: a WRITE_BLOCK and a READ_BLOCK segment by segment, SEG_TIMEOUT, and the rows that name one object. -/
theorem blockTransfersMoveValues : Obligations.BlockTransfersMoveValues := by
  unfold Obligations.BlockTransfersMoveValues
  refine ⟨fun s p => ?_, fun s p => ?_, fun s t port k => ?_, fun s p => ?_⟩
  · intro a h g total hi hh hc
    have hinv : h.Inv := State.heard_inv hi
    refine ⟨fun hf hlen hfix ht htotal hless => ?_, fun k hf hlen ht hl hk hw ha hs hless => ?_,
      fun k hf ht hl hk hw ha hs hmore => ?_⟩
    · have hserve := State.serveBlock_write_first ht hfix hlen htotal hless (by simpa only [g, hf] using hc)
      obtain ⟨hkept, hframe⟩ := State.segmentReply_send hinv _ _ _ _ _ _ _ _
      refine ⟨_, _, exec_writeBlock_of hh hf hserve, hkept, ?_, rfl, rfl, rfl, rfl, rfl, hframe⟩
      exact List.take_of_length_le (show (p.payload.drop 4).length ≤ total by rw [List.length_drop]; omega)
    · have hserve := State.serveBlock_write_middle ht hl hk hw ha hs hlen hless (by simpa only [g, hf] using hc)
      obtain ⟨hkept, hframe⟩ := State.segmentReply_send hinv _ _ _ _ _ _ _ _
      refine ⟨_, _, exec_writeBlock_of hh hf hserve, hkept, ?_, rfl, ha, rfl, rfl, hframe⟩
      exact List.take_of_length_le (by simp; omega)
    · intro v o hv hp
      have hserve := State.serveBlock_write_last ht hl hk hw ha hs hmore (by simpa only [g, hf] using hc) hv
        (Prod.ext hp rfl)
      exact ⟨_, _, exec_writeBlock_of hh hf hserve, rfl, rfl⟩
  · intro a h g value hi hh hc
    have hinv : h.Inv := State.heard_inv hi
    refine ⟨fun hf hfix ht => ?_, fun k hf ht hl hk hw ha hs => ?_⟩
    · have hserve := State.serveBlock_read_first ht hfix (by simpa only [g, hf] using hc)
      obtain ⟨hkept, hdict, -⟩ := State.segmentReply_send (State.readRecords_inv (State.clearTransfer_inv hinv)) _ _ _ _ _ _ _ _
      obtain ⟨hbuf, htotal, hsent, hfin, hresp⟩ := h.openRead_advanced (p := p.port)
        (g := segmentOf false p.seq 0x50 a p.payload) rfl
      refine ⟨_, _, exec_readBlock_of hh hf hserve, hkept, hbuf, htotal, hsent, hfin, ?_, ?_⟩
      · simp only [g, hf]
        exact hresp
      · exact hdict.trans (State.readRecords_dict_setPort (by intro; rfl) (by intro; rfl) _ _)
    · have hserve := State.serveBlock_read_next ht hl hk hw ha hs (by simpa only [g, hf] using hc)
      obtain ⟨hkept, hdict, -⟩ := State.segmentReply_send hinv _ _ _ _ _ _ _ _
      exact ⟨_, _, exec_readBlock_of hh hf hserve, hkept, rfl, rfl, by simp only [g, hf]; rfl, hdict⟩
  · intro u hi ht hk
    have hu : u.Inv := State.advance_inv hi
    refine ⟨fun hl => ?_, fun hl => ?_⟩
    · obtain ⟨h1, h2, h3⟩ := State.discardTransfer_of_open hu ht hk 0x0604
      exact ⟨_, congrArg Host.Outcome.next (State.expireTransfer_of_late ht hl hk), h1, h2, h3 _⟩
    · exact congrArg Host.Outcome.next (State.expireTransfer_of_current (fun j hj =>
        Option.some.inj (hj.symm.trans ht) ▸ hl))
  · intro at'
    exact ⟨⟨_, congrArg Host.Outcome.next (State.blockRow_readBlock _), rfl⟩,
      ⟨_, congrArg Host.Outcome.next (State.blockRow_writeBlock _), rfl⟩,
      ⟨_, congrArg Host.Outcome.next (State.blockRow_writeBlock _), rfl⟩,
      ⟨_, congrArg Host.Outcome.next (State.blockRow_writeBlock _), rfl⟩,
      ⟨_, congrArg Host.Outcome.next (State.blockRow_writeBlock _), rfl⟩⟩

end Sys2Proof.Machine

/-! PROOFS of the statement about mailbox messages (O41): messages taken from a mailbox port and written to one, and the
acknowledgements KEY_ACK and TOUCH_ACK. -/

namespace Sys2Proof.Machine

/-! ## Little-endian fields -/

theorem length_leBytes (k n : Nat) : (leBytes k n).length = k := by
  induction k generalizing n with
  | zero => rfl
  | succ k ih => exact congrArg Nat.succ (ih _)

theorem leNat_leBytes (k n : Nat) : leNat (leBytes k n) = n % 256 ^ k := by
  induction k generalizing n with
  | zero => simp [leBytes, leNat, Nat.mod_one]
  | succ k ih =>
    rw [leBytes, leNat, ih, Nat.pow_succ', Nat.mod_mul]
    simp [byteOf]

/-- A field that begins behind `front` and is as long as what stands there, in the first `n` bytes. -/
theorem field_take_append {front middle rest : Bytes} {off k n : Nat} (hf : front.length = off)
    (hm : middle.length = k) (hn : off + k ≤ n) : field ((front ++ (middle ++ rest)).take n) off k = leNat middle := by
  subst hf hm
  rw [field, slice, List.drop_take, List.drop_left, List.take_take, Nat.min_eq_left (by omega), List.take_left]

/-! ## Counts and mailboxes -/

/-- R80: a counter that counts. -/
theorem State.numAt_bump_same {s : State} {a : Nat} (h : Dict.wf s.part.variant s.dict = true) (hw : a ≠ wrapFlagOf a) :
    (s.bump a).numAt a = (s.numAt a + 1) % 2 ^ 64 := by
  unfold State.bump State.bumpBy
  extract_lets x
  split
  · rename_i hx
    rw [State.numAt_setNum_same _ _ h, Nat.mod_eq_of_lt hx]
  · rw [State.numAt_setNum_other _ (State.setNum_wf _ _ h) hw, State.numAt_setNum_same _ _ h]

theorem State.numAt_congr {s t : State} (hp : t.part = s.part) (hd : t.dict = s.dict) (a : Nat) : t.numAt a = s.numAt a :=
  congrArg Val.toNat (State.valAt_congr hp hd a)

theorem State.Inv.mailbox_lt {s : State} (h : s.Inv) (m : Fin 8) : m.val < s.host.mailboxes.length := by
  obtain ⟨-, -, -, -, -, -, -, hm, -⟩ := (State.shaped_iff s).1 h.2
  rw [hm]
  exact m.isLt

theorem State.sendVector_within {s : State} {v : Nat} : State.Within [.host, .sent] s (s.sendVector v) :=
  (State.Sound.sendVector (State.Sound.refl _ s) rfl).within

/-- R233: a message of a vector leaves the mailboxes alone. -/
theorem State.mailboxAt_sendVector (s : State) (v m : Nat) : (s.sendVector v).mailboxAt m = s.mailboxAt m := by
  unfold State.sendVector
  split <;> rfl

theorem State.mailboxAt_bump (s : State) (a m : Nat) : (s.bump a).mailboxAt m = s.mailboxAt m := by
  simp only [State.mailboxAt, State.bump_frame]

theorem State.mailboxAt_advance (s : State) (t m : Nat) : (s.advance t).mailboxAt m = s.mailboxAt m := by
  simp only [State.mailboxAt, State.advance_frame]

/-! ## A message is taken (R245) -/

/-- R245: the state in which the message of port `m` is executed: IN is EMPTY, and the port's vector has been sent. -/
def State.emptied (s : State) (m : Nat) : State := (s.setMailbox m (fun y => { y with inFull := false })).sendVector (38 + m)

theorem State.mailboxAt_emptied {s : State} (h : s.Inv) (m : Fin 8) :
    (s.emptied m).mailboxAt m = { s.mailboxAt m with inFull := false } := by
  rw [State.emptied, State.mailboxAt_sendVector, State.mailboxAt_setMailbox _ _ _ (h.mailbox_lt m)]

theorem State.emptied_within (s : State) (m : Nat) : State.Within [.host, .sent] s (s.emptied m) :=
  (State.Sound.sendVector (State.Sound.setMailbox (State.Sound.refl _ s) rfl) rfl).within

theorem State.emptied_inv {s : State} (h : s.Inv) (m : Nat) : (s.emptied m).Inv :=
  (State.Sound.sendVector (State.Sound.setMailbox (State.Sound.refl [.host, .sent] s) rfl) rfl).good h

section
variable {s : State} {t : Nat} {m : Fin 8}

theorem exec_mailboxTake (hin : ((s.arrival t).mailboxAt m).inFull = true) (ht : (s.arrival t).takesMessages m = true) :
    let u := s.arrival t; let b := (u.mailboxAt m).inBuf.take (u.mailboxAt m).inLen
    exec (.mailboxTake t m) s = .next (if m.val == 0 then (u.emptied m).takePdu t b else (u.emptied m).takeMessage m b) := by
  intro u b
  have hc : (!(u.mailboxAt m).inFull || !u.takesMessages m) = false := by rw [hin, ht]; rfl
  show Host.Outcome.next (doMailboxTake t m s) = _
  unfold doMailboxTake
  exact congrArg _ (if_neg (Bool.eq_false_iff.1 hc))

end

theorem State.takePdu_of_header {s : State} {t : Nat} {b : Bytes} (h : 6 ≤ b.length) :
    s.takePdu t b = s.runPdu (pduOf t .S b) (field b 0 1) := if_neg (Nat.not_lt.2 h)

/-- R46: a code beyond the table is no service. -/
theorem State.runPdu_unknown {s : State} {p : Pdu} {n : Nat} (h : 9 < n) : s.runPdu p n = doUnknownService p n s := by
  obtain ⟨k, rfl⟩ := Nat.exists_eq_add_of_lt h
  rw [show 9 + k + 1 = k + 10 by omega]
  rfl

section
variable {s : State} {m : Nat} {b : Bytes}

/-- R350: a message of a platform port whose header gives its payload's length. -/
theorem State.takeMessage_cases (hb : 8 ≤ b.length) (hl : field b 2 2 = b.length - 8) :
    (field b 0 1 = 0x81 → s.takeMessage m b = s.takeKeyAck m (b.drop 8)) ∧
      (field b 0 1 = 0x82 → s.takeMessage m b = s.takeTouchAck m (b.drop 8)) ∧
      (field b 0 1 ≠ 0x81 → field b 0 1 ≠ 0x82 → s.takeMessage m b = s.refuseMessage m (field b 0 1) 0x0601) := by
  have hlen : (field b 2 2 != (b.drop 8).length) = false := by simp [hl]
  have hshort : decide (b.length < 8) = false := decide_eq_false (Nat.not_lt.2 hb)
  unfold State.takeMessage
  refine ⟨fun h => ?_, fun h => ?_, fun h1 h2 => ?_⟩
  · simp only [h, hlen, hshort]
    rfl
  · simp only [h, hlen, hshort]
    rfl
  · simp [h1, h2]

end

/-- R352: a refused message: its REFUSED reply waits at its port, and the refusal is counted. -/
theorem State.refuseMessage_effect {s : State} (h : s.Inv) (m : Fin 8) (type code : Nat) :
    let x := s.refuseMessage m type code
    (x.mailboxAt m).inFull = (s.mailboxAt m).inFull ∧
      (x.mailboxAt m).out = (s.mailboxAt m).out ++ [leBytes 1 type ++ [0] ++ leBytes 2 code] ∧
      x.numAt Adr.platMsgRefused = (s.numAt Adr.platMsgRefused + 1) % 2 ^ 64 ∧ x.keys = s.keys ∧ x.panels = s.panels := by
  intro x
  have hbox : x.mailboxAt m = (fun y : Mailbox => { y with
      out := y.out ++ [leBytes 1 type ++ [0] ++ leBytes 2 code] }) (s.mailboxAt m) :=
    (State.mailboxAt_bump _ _ _).trans (State.mailboxAt_setMailbox _ _ _ (h.mailbox_lt m))
  refine ⟨by rw [hbox], by rw [hbox], State.numAt_bump_same h.1.1 (by decide), ?_, ?_⟩
  · simp only [x, State.refuseMessage, State.bump_frame, State.setMailbox_frame]
  · simp only [x, State.refuseMessage, State.bump_frame, State.setMailbox_frame]

/-! ## A message is written (R245, R350) -/

theorem Mailbox.putOut_take {x : Mailbox} {b : Bytes} (h : b.length ≤ 256) : (x.putOut b).outBuf.take b.length = b := by
  rw [Mailbox.putOut, List.take_take, Nat.min_eq_left h, List.take_left]

theorem Mailbox.putMessage_frame (x : Mailbox) (g : Outgoing) : (x.putMessage g).outFull = true ∧
    (x.putMessage g).outLen = 8 + g.payload.length ∧ field (x.putMessage g).outBuf 4 4 = (x.msgSeq + 1) % 2 ^ 32 := by
  refine ⟨rfl, ?_, ?_⟩
  · simp [Mailbox.putMessage, Mailbox.putOut, length_leBytes]
    omega
  · have h : leNat (leBytes 4 ((x.msgSeq + 1) % 2 ^ 32)) = (x.msgSeq + 1) % 2 ^ 32 := by rw [leNat_leBytes]; omega
    rw [← h, Mailbox.putMessage, Mailbox.putOut]
    simp only [List.append_assoc]
    rw [← List.append_assoc, ← List.append_assoc]
    exact field_take_append (by simp [length_leBytes]) (length_leBytes _ _) (by decide)

section
variable {s : State} {t : Nat} {m : Fin 8}

theorem exec_mailboxOutWrite_port0 (hm : m.val = 0) (ht : (s.advance t).takesMessages 0 = true)
    (ho : (s.mailboxAt 0).outFull = false) {b : Bytes} {rest : List Bytes} (hb : (s.mailboxAt 0).out = b :: rest) :
    exec (.mailboxOutWrite t m) s = .next (((((s.advance t).setMailbox 0 (fun x =>
      { x with out := x.out.drop 1 }.putOut b)).bump (Adr.mbxOutMessages 0)).sendVector 38)) := by
  show Host.Outcome.next (doMailboxOutWrite t m s) = _
  unfold doMailboxOutWrite
  simp [State.mailboxAt_advance, ho, ht, hm, hb]

theorem exec_mailboxOutWrite_platform (hm : m.val ≠ 0) (ht : (s.advance t).takesMessages m = true)
    (ho : (s.mailboxAt m).outFull = false) {g : Outgoing} (hg : (s.advance t).nextMessage m = some g) :
    exec (.mailboxOutWrite t m) s = .next (((((s.advance t).setMailbox m (fun x => x.putMessage g)).bump
      (Adr.mbxOutMessages m)).bump Adr.platMsgSent).sendVector (38 + m)) := by
  show Host.Outcome.next (doMailboxOutWrite t m s) = _
  unfold doMailboxOutWrite
  simp [State.mailboxAt_advance, ho, ht, hm, hg]

end

/-- The vector that follows a message, and what is counted with it, leave its port as the message made it. -/
theorem State.mailboxAt_outbound {s : State} {m : Nat} (h : m < s.host.mailboxes.length) (f : Mailbox → Mailbox) (a b v : Nat) :
    (((s.setMailbox m f).bump a).sendVector v).mailboxAt m = f (s.mailboxAt m) ∧
      ((((s.setMailbox m f).bump a).bump b).sendVector v).mailboxAt m = f (s.mailboxAt m) := by
  simp only [State.mailboxAt_sendVector, State.mailboxAt_bump, State.mailboxAt_setMailbox _ _ _ h, and_self]

theorem platMsgSent_ne : ∀ m : Fin 8, Adr.platMsgSent ≠ Adr.mbxOutMessages m ∧
    Adr.platMsgSent ≠ wrapFlagOf (Adr.mbxOutMessages m) := by decide

/-- R351: a platform message that is sent is counted. -/
theorem State.platMsgSent_counted {s : State} (h : s.Inv) (m : Fin 8) (f : Mailbox → Mailbox) (v : Nat) :
    ((((s.setMailbox m f).bump (Adr.mbxOutMessages m)).bump Adr.platMsgSent).sendVector v).numAt Adr.platMsgSent =
      (s.numAt Adr.platMsgSent + 1) % 2 ^ 64 := by
  have hwf : Dict.wf (s.setMailbox m f).part.variant (s.setMailbox m f).dict = true := h.1.1
  obtain ⟨h1, h2⟩ := platMsgSent_ne m
  rw [State.numAt_congr (State.sendVector_within.part rfl) (State.sendVector_within.dict rfl),
    State.numAt_bump_same (State.bump_wf _ hwf) (by decide), State.numAt, State.valAt_bump_other hwf h1 h2]
  rfl

/-! ## Acknowledgements (R302, R321, R352) -/

theorem kindAt_eventAck : kindAt Adr.eventAck = .plain := by decide +kernel

theorem State.perform_eventAck (s : State) (p : Port) (x : Nat) :
    s.perform p Adr.eventAck (.num x) = (none, s.ackEvents x) := by
  unfold State.perform
  rw [kindAt_eventAck]
  rfl

theorem kindAt_reportAck : ∀ k < 4, kindAt (Adr.reportAck k) = .plain := by decide +kernel

theorem State.perform_reportAck (s : State) (p : Port) {k : Nat} (hk : k < 4) (x : Nat) :
    s.perform p (Adr.reportAck k) (.num x) = (none, s.ackReports k x) := by
  unfold State.perform
  rw [kindAt_reportAck k hk]
  interval_cases k <;> rfl

section
variable {s x : State} {m type a v : Nat}

theorem State.messageWrite_accepted (h : s.refuses (s.messagePort m) a (.num v) = none)
    (hp : s.perform (s.messagePort m) a (.num v) = (none, x)) :
    s.messageWrite m type a v = x.touchLease (s.messagePort m) := by
  simp only [State.messageWrite, h, hp]

theorem State.messageWrite_refused {c : Nat} (h : s.refuses (s.messagePort m) a (.num v) = some c) :
    s.messageWrite m type a v = s.refuseMessage m type c := by
  simp only [State.messageWrite, h]

end

section
variable {s u : State} {t : Nat} {m : Fin 8} {payload : Bytes}

theorem exec_keyAck (hu : u = s.arrival t) (hm : m.val ≠ 0) (ht : u.takesMessages m = true) (hl : payload.length = 4) :
    exec (.keyAck t m payload) s = .next (u.messageWrite m 0x81 Adr.eventAck (leNat payload)) := by
  have hc : (m.val == 0 || !u.takesMessages m) = false := by simp [hm, ht]
  show Host.Outcome.next (doKeyAck t m payload s) = _
  unfold doKeyAck
  rw [show (s.advanceCharged t).settleOwnership = u from hu.symm]
  refine congrArg _ ((if_neg (Bool.eq_false_iff.1 hc)).trans ?_)
  exact if_neg (by simp [hl])

theorem exec_touchAck (hu : u = s.arrival t) (hm : m.val ≠ 0) (ht : u.takesMessages m = true)
    (hl : payload.length = 8) (hr : field payload 1 3 = 0) : exec (.touchAck t m payload) s =
      .next (u.messageWrite m 0x82 (Adr.reportAck (field payload 0 1)) (field payload 4 4)) := by
  have hc : (m.val == 0 || !u.takesMessages m) = false := by simp [hm, ht]
  show Host.Outcome.next (doTouchAck t m payload s) = _
  unfold doTouchAck
  rw [show (s.advanceCharged t).settleOwnership = u from hu.symm]
  refine congrArg _ ((if_neg (Bool.eq_false_iff.1 hc)).trans ?_)
  simp only [State.takeTouchAck, hl, hr, bne_self_eq_false, Bool.false_and, Bool.false_eq_true, if_false]

end

/-- R352: KEY_ACK is a WRITE of EVENT_ACK. -/
theorem State.messageWrite_eventAck {s : State} {m type v : Nat}
    (h : s.refuses (s.messagePort m) Adr.eventAck (.num v) = none) :
    s.messageWrite m type Adr.eventAck v = (s.ackEvents v).touchLease (s.messagePort m) :=
  State.messageWrite_accepted h (s.perform_eventAck _ v)

/-- R352: TOUCH_ACK is a WRITE of the panel's REPORT_ACK. -/
theorem State.messageWrite_reportAck {s : State} {m type k v : Nat} (hk : k < 4)
    (h : s.refuses (s.messagePort m) (Adr.reportAck k) (.num v) = none) :
    s.messageWrite m type (Adr.reportAck k) v = (s.ackReports k v).touchLease (s.messagePort m) :=
  State.messageWrite_accepted h (s.perform_reportAck _ hk v)

theorem State.Inv.panel_lt {s : State} (h : s.Inv) {k : Nat} (hk : k < 4) : k < s.panels.length := by
  obtain ⟨-, -, -, hp, -⟩ := (State.shaped_iff s).1 h.2
  exact hp ▸ hk

/-- R302: an accepted KEY_ACK frees the events it names and changes nothing of the host link. -/
theorem State.ackEvents_effect (s : State) (p : Port) (v : Nat) : let x := (s.ackEvents v).touchLease p
    x.keys.fifo = s.keys.fifo.filter (fun e => later32 e.seq v) ∧ x.host = s.host := by
  have h : State.Within [.own] (s.ackEvents v) ((s.ackEvents v).touchLease p) := State.touchLease_within
  exact ⟨congrArg Keys.fifo (h.keys rfl), h.host rfl⟩

/-- R321: an accepted TOUCH_ACK frees the reports that it names of its panel, and none of the others. -/
theorem State.ackReports_effect {s : State} (hs : s.Inv) (p : Port) {k : Nat} (hk : k < 4) (v : Nat) :
    let x := (s.ackReports k v).touchLease p
    (x.panelAt k).reports = (s.panelAt k).reports.filter (fun r => later32 r.seq v) ∧
      (∀ i, i ≠ k → x.panelAt i = s.panelAt i) ∧ x.host = s.host := by
  intro x
  have h : State.Within [.own] (s.ackReports k v) x := State.touchLease_within
  have hp (i : Nat) : x.panelAt i = (s.ackReports k v).panelAt i := congrArg (nth · i Panel.zero) (h.panels rfl)
  refine ⟨(congrArg Panel.reports (hp k)).trans ?_, fun i hne => (hp i).trans (nth_modifyAt_other _ _ hne), h.host rfl⟩
  rw [State.ackReports, State.panelAt_setPanel _ _ _ (hs.panel_lt hk)]

/-- Settles O41: a message that is taken, one that is written, and the two acknowledgements. -/
theorem mailboxMessages : Obligations.MailboxMessages := by
  unfold Obligations.MailboxMessages
  refine ⟨fun s t m hi => ?_, fun s t m payload hi => ?_⟩
  · intro n u taken b
    have hu : u.Inv := State.arrival_inv hi
    have hadv : (s.advance t).Inv := State.advance_inv hi
    refine ⟨fun hin ht => ⟨fun hn hb => ?_, fun hn hb hl => ?_⟩, fun ht ho => ⟨fun hn r rest hr => ?_, fun hn g hg => ?_⟩⟩
    · have he : exec (.mailboxTake t m) s = .next (taken.runPdu (pduOf t .S b) (field b 0 1)) := by
        rw [exec_mailboxTake hin ht, if_pos (beq_iff_eq.2 hn), State.takePdu_of_header hb]
        rfl
      refine ⟨_, he, ?_, ?_, ?_, ?_, ?_, ?_, ?_, ?_, ?_, fun h => by rw [State.runPdu_unknown h]; rfl⟩
      all_goals
        intro h
        rw [h]
        rfl
    · have he : exec (.mailboxTake t m) s = .next (taken.takeMessage n b) := by
        rw [exec_mailboxTake hin ht, if_neg (fun h => hn (beq_iff_eq.1 h))]
        rfl
      obtain ⟨hkey, htouch, hother⟩ := State.takeMessage_cases (s := taken) (m := n) hb hl
      refine ⟨_, he, hkey, htouch, fun h1 h2 => ?_⟩
      obtain ⟨hfull, hout, hcount, -⟩ := State.refuseMessage_effect (State.emptied_inv hu m) m (field b 0 1) 0x0601
      rw [hother h1 h2]
      refine ⟨hfull.trans ?_, hout.trans ?_, hcount.trans ?_⟩
      · rw [State.mailboxAt_emptied hu]
      · rw [State.mailboxAt_emptied hu]
      · rw [State.numAt_congr ((u.emptied_within m).part rfl) ((u.emptied_within m).dict rfl)]
    · rw [hn] at ht ho
      obtain ⟨hbox, -⟩ := State.mailboxAt_outbound (m := 0) (hadv.mailbox_lt 0) (fun x => { x with out := x.out.drop 1 }.putOut r)
        (Adr.mbxOutMessages 0) 0 38
      rw [State.mailboxAt_advance] at hbox
      refine ⟨_, exec_mailboxOutWrite_port0 hn ht ho hr, ?_⟩
      rw [hbox]
      exact ⟨rfl, rfl, congrArg (List.drop 1) hr, fun hlen => Mailbox.putOut_take hlen⟩
    · obtain ⟨-, hbox⟩ := State.mailboxAt_outbound (hadv.mailbox_lt m) (fun x => x.putMessage g) (Adr.mbxOutMessages m)
        Adr.platMsgSent (38 + m)
      rw [State.mailboxAt_advance] at hbox
      refine ⟨_, exec_mailboxOutWrite_platform hn ht ho hg, ?_⟩
      obtain ⟨hfull, hlen, hseq⟩ := (s.mailboxAt m).putMessage_frame g
      rw [hbox]
      refine ⟨hfull, hlen, hseq, ?_⟩
      rw [State.platMsgSent_counted hadv, State.numAt_congr (State.advance_frame s t).1 (State.advance_frame s t).2.2.1]
  · intro n u p hm ht
    have hu : u.Inv := State.arrival_inv hi
    have hdef : u = s.arrival t := rfl
    clear_value u
    refine ⟨fun hl => ⟨fun hc => ?_, fun c hc => ?_⟩, fun hl hr hk => ?_⟩
    · exact ⟨_, (exec_keyAck hdef hm ht hl).trans (congrArg Host.Outcome.next (State.messageWrite_eventAck hc)),
        u.ackEvents_effect p (leNat payload)⟩
    · refine ⟨_, (exec_keyAck hdef hm ht hl).trans (congrArg Host.Outcome.next (State.messageWrite_refused hc)), ?_⟩
      obtain ⟨-, hout, -, hkeys, -⟩ := State.refuseMessage_effect hu m 0x81 c
      exact ⟨hkeys, hout⟩
    · intro k v
      refine ⟨fun hc => ?_, fun c hc => ?_⟩
      · exact ⟨_, (exec_touchAck hdef hm ht hl hr).trans (congrArg Host.Outcome.next (State.messageWrite_reportAck hk hc)),
          State.ackReports_effect hu p hk v⟩
      · refine ⟨_, (exec_touchAck hdef hm ht hl hr).trans (congrArg Host.Outcome.next (State.messageWrite_refused hc)), ?_⟩
        obtain ⟨-, hout, -, -, hpanels⟩ := State.refuseMessage_effect hu m 0x82 c
        exact ⟨hpanels, hout⟩

end Sys2Proof.Machine

/-! PROOFS about items that end and about queues that are halted or reset (towards O39): what the ending of an item
changes of its queue, of the other queues and of the arrays. -/

namespace Sys2Proof.Machine

/-! ## Folds -/

/-- A fold over distinct elements: what one element's step brings about stays, where the other steps keep the condition
for it before and the result after. -/
theorem foldl_reaches {σ α : Type} {f : σ → α → σ} {before after : σ → Prop} {xs : List α} (hn : xs.Nodup) {x : α}
    (hx : x ∈ xs) (hb : ∀ s, ∀ y ∈ xs, y ≠ x → before s → before (f s y)) (hs : ∀ s, before s → after (f s x))
    (ha : ∀ s, ∀ y ∈ xs, y ≠ x → after s → after (f s y)) {s : σ} (h : before s) : after (xs.foldl f s) := by
  induction xs generalizing s with
  | nil => exact absurd hx List.not_mem_nil
  | cons y ys ih =>
    obtain ⟨hy, hn⟩ := List.nodup_cons.1 hn
    have hb' : ∀ s, ∀ z ∈ ys, z ≠ x → before s → before (f s z) := fun s z hz => hb s z (List.mem_cons_of_mem _ hz)
    have ha' : ∀ s, ∀ z ∈ ys, z ≠ x → after s → after (f s z) := fun s z hz => ha s z (List.mem_cons_of_mem _ hz)
    by_cases e : y = x
    · subst e
      exact List.foldlRecOn ys f (hs s h) (fun s h z hz => ha' s z hz (fun e => hy (e ▸ hz)) h)
    · exact ih hn ((List.mem_cons.1 hx).resolve_left (Ne.symm e)) hb' ha' (hb s y List.mem_cons_self e h)

/-! ## Queues and their items -/

theorem State.queueAt_setQueue_other (s : State) {q i : Nat} (f : Queue → Queue) (h : i ≠ q) :
    (s.setQueue q f).queueAt i = s.queueAt i := nth_modifyAt_other _ _ h

/-- What an update of a queue keeps of it, it keeps of every queue. -/
theorem State.queueAt_setQueue_kept {β : Type} {f : Queue → Queue} (g : Queue → β) (hf : ∀ x, g (f x) = g x) (s : State)
    (q i : Nat) : g ((s.setQueue q f).queueAt i) = g (s.queueAt i) := by
  by_cases h : i = q
  · subst h
    by_cases hl : i < s.queues.length
    · rw [State.queueAt_setQueue _ _ _ hl, hf]
    · rw [State.queueAt, State.queueAt, State.setQueue_queues, nth, nth, List.getD_eq_default _ _ (by simp; omega),
        List.getD_eq_default _ _ (by omega)]
  · rw [State.queueAt_setQueue_other s f h]

theorem State.queueAt_congr {s t : State} (h : t.queues = s.queues) (q : Nat) : t.queueAt q = s.queueAt q := by
  rw [State.queueAt, h, State.queueAt]

/-- Items changed under their own numbers are found as before. -/
theorem State.job?_of_map {s t : State} {q : Nat} {g : Job → Job} (hg : ∀ k, (g k).submitSeq = k.submitSeq)
    (h : (t.queueAt q).jobs = (s.queueAt q).jobs.map g) (seq : Nat) : t.job? q seq = (s.job? q seq).map g := by
  rw [State.job?, h, List.find?_map, State.job?]
  congr 2
  funext k
  simp [hg]

/-- The change of one item of a queue: the items of that number change, in their places; the ring stays as it is, and an
array is at most given up. -/
structure State.Amends (q seq : Nat) (s t : State) : Prop where
  other : ∀ i, i ≠ q → t.queueAt i = s.queueAt i
  items : ∃ g : Job → Job, (∀ k, (g k).submitSeq = k.submitSeq) ∧ (∀ k, k.submitSeq ≠ seq → g k = k) ∧
    (t.queueAt q).jobs = (s.queueAt q).jobs.map g
  ring : (t.queueAt q).ringOn = (s.queueAt q).ringOn
  arrs : ∀ x ∈ t.arrs, x ∈ s.arrs ∨ x.job = none

section
variable {q seq : Nat} {s t u : State}

theorem State.Amends.of_same (hq : t.queues = s.queues) (ha : t.arrs = s.arrs) : State.Amends q seq s t where
  other i _ := State.queueAt_congr hq i
  items := ⟨id, fun _ => rfl, fun _ _ => rfl, by rw [State.queueAt_congr hq, List.map_id]⟩
  ring := by rw [State.queueAt_congr hq]
  arrs x hx := .inl (ha ▸ hx)

theorem State.Amends.trans (h : State.Amends q seq s t) (k : State.Amends q seq t u) : State.Amends q seq s u where
  other i hi := (k.other i hi).trans (h.other i hi)
  items := by
    obtain ⟨g, hg, hne, hj⟩ := h.items
    obtain ⟨f, hf, hfe, hk⟩ := k.items
    exact ⟨f ∘ g, fun k => (hf _).trans (hg k), fun k hk => (congrArg f (hne k hk)).trans (hfe k hk),
      by rw [hk, hj, List.map_map]⟩
  ring := k.ring.trans h.ring
  arrs x hx := (k.arrs x hx).elim (h.arrs x) .inr

theorem State.Amends.setJob (s : State) (q seq : Nat) {f : Job → Job} (hf : ∀ k, (f k).submitSeq = k.submitSeq) :
    State.Amends q seq s (s.setJob q seq f) where
  other i hi := State.queueAt_setQueue_other s _ hi
  items := by
    by_cases hl : q < s.queues.length
    · refine ⟨fun j => if j.submitSeq == seq then f j else j, fun k => ?_, fun k hk => ?_, ?_⟩
      · show (if (k.submitSeq == seq) = true then f k else k).submitSeq = _
        split
        · exact hf k
        · rfl
      · exact if_neg (by simpa using hk)
      · rw [State.setJob, State.queueAt_setQueue _ _ _ hl]
    · have h0 : s.queueAt q = Queue.zero := List.getD_eq_default _ _ (by omega)
      have h1 : (s.setJob q seq f).queueAt q = Queue.zero := List.getD_eq_default _ _ (by simp [State.setJob]; omega)
      exact ⟨id, fun _ => rfl, fun _ _ => rfl, by rw [h0, h1]; rfl⟩
  ring := State.queueAt_setQueue_kept Queue.ringOn (by intro; rfl) s q q
  arrs x hx := .inl hx

theorem State.Amends.clearFault (s : State) (q seq : Nat) : State.Amends q seq s (s.clearFault q) where
  other i hi := State.queueAt_setQueue_other s _ hi
  items := ⟨id, fun _ => rfl, fun _ _ => rfl, by
    rw [List.map_id]
    exact State.queueAt_setQueue_kept Queue.jobs (by intro; rfl) s q q⟩
  ring := State.queueAt_setQueue_kept Queue.ringOn (by intro; rfl) s q q
  arrs x hx := .inl hx

theorem State.vacateArrays_mem {x : Arr} (h : x ∈ (s.vacateArrays q seq).arrs) :
    x.job ≠ some (q, seq) ∧ (x ∈ s.arrs ∨ x.job = none) := by
  obtain ⟨y, hy, rfl⟩ := List.mem_map.1 h
  split
  · exact ⟨Option.some_ne_none _ |>.symm, .inr rfl⟩
  · rename_i hne
    exact ⟨fun e => hne (beq_iff_eq.2 e), .inl hy⟩

theorem State.Amends.vacateArrays (s : State) (q seq : Nat) : State.Amends q seq s (s.vacateArrays q seq) :=
  { State.Amends.of_same (s := s) (t := { s.vacateArrays q seq with arrs := s.arrs }) rfl rfl with
    arrs := fun _ hx => (State.vacateArrays_mem hx).2 }

theorem State.countOutcome_queues (s : State) (p status tick : Nat) :
    (s.countOutcome p status tick).queues = s.queues ∧ (s.countOutcome p status tick).arrs = s.arrs := by
  have h : State.Within [.tally] s (s.countOutcome p status tick) :=
    (State.Sound.countOutcome (State.Sound.refl _ s) rfl).within
  exact ⟨h.queues rfl, h.arrs rfl⟩

theorem State.bump_queues (s : State) (a : Nat) : (s.bump a).queues = s.queues ∧ (s.bump a).arrs = s.arrs := by
  simp only [State.bump_frame, and_self]

/-- R181 to R184: the ending of an item changes that item and no other. -/
theorem State.Amends.endItemAt (s : State) (q seq status cause ref detail tick offset : Nat) :
    State.Amends q seq s (s.endItemAt q seq status cause ref detail tick offset) := by
  unfold State.endItemAt
  split
  · exact State.Amends.of_same rfl rfl
  · split
    · split
      · exact State.Amends.setJob s q seq (by intro; rfl)
      · exact State.Amends.of_same rfl rfl
    · extract_lets p ok e x1 x2 x3 x4
      have h1 : State.Amends q seq s x1 := by
        simp only [x1]
        split
        · exact State.Amends.clearFault s q seq
        · exact State.Amends.of_same rfl rfl
      have h3 : State.Amends q seq s x3 :=
        (h1.trans (State.Amends.vacateArrays x1 q seq)).trans (State.Amends.setJob x2 q seq (by intro; rfl))
      have h4 : State.Amends q seq s x4 :=
        (h3.trans (State.Amends.of_same (x3.countOutcome_queues p status tick).1 (x3.countOutcome_queues p status tick).2)).trans
          (State.Amends.of_same (State.bump_queues _ _).1 (State.bump_queues _ _).2)
      split
      · exact h4.trans (State.Amends.of_same rfl rfl)
      · exact h4

theorem State.Amends.endItem (s : State) (q seq status cause ref detail : Nat) :
    State.Amends q seq s (s.endItem q seq status cause ref detail) := State.Amends.endItemAt s q seq _ _ _ _ _ _

theorem State.Amends.job?_other (h : State.Amends q seq s t) {n : Nat} (hn : n ≠ seq) : t.job? q n = s.job? q n := by
  obtain ⟨g, hg, hne, hj⟩ := h.items
  rw [State.job?_of_map hg hj]
  cases hs : s.job? q n with
  | none => rfl
  | some j =>
    have hseq : j.submitSeq = n := by simpa using List.find?_some hs
    rw [Option.map_some, hne j (hseq ▸ hn)]

/-! ## Items that have ended -/

variable {status cause : Nat}

/-- An item stays ended while the items of its queue keep their numbers and endings, and no array takes it up. -/
theorem State.endedAs_of_map {g : Job → Job} (hg : ∀ k, (g k).submitSeq = k.submitSeq ∧ (g k).ended = k.ended)
    (hj : (t.queueAt q).jobs = (s.queueAt q).jobs.map g) (ha : t.arrs = s.arrs) (h : s.endedAs q seq status cause) :
    t.endedAs q seq status cause := by
  obtain ⟨⟨j, e, hjob, he, hs, hc⟩, harr⟩ := h
  refine ⟨⟨g j, e, ?_, (hg j).2.trans he, hs, hc⟩, ha ▸ harr⟩
  rw [State.job?_of_map (fun k => (hg k).1) hj, hjob, Option.map_some]

theorem State.endedAs_congr (hq : t.queues = s.queues) (ha : t.arrs = s.arrs) (h : s.endedAs q seq status cause) :
    t.endedAs q seq status cause :=
  State.endedAs_of_map (g := id) (fun _ => ⟨rfl, rfl⟩) (by rw [State.queueAt_congr hq, List.map_id]) ha h

/-- The ending of another item leaves an item ended. -/
theorem State.Amends.endedAs {q' seq' : Nat} (h : State.Amends q' seq' s t) (hne : q' ≠ q ∨ seq' ≠ seq)
    (he : s.endedAs q seq status cause) : t.endedAs q seq status cause := by
  obtain ⟨⟨j, e, hjob, hend⟩, harr⟩ := he
  refine ⟨⟨j, e, ?_, hend⟩, fun x hx => (h.arrs x hx).elim (harr x) (fun hn => by rw [hn]; exact Option.some_ne_none _ |>.symm)⟩
  rw [← hjob]
  by_cases hq : q = q'
  · subst hq
    exact h.job?_other (hne.resolve_left (fun h => h rfl)).symm
  · rw [State.job?, h.other q hq, State.job?]

theorem State.endItemAt_open {j : Job} (hj : s.job? q seq = some j) (he : j.ended = none) (ref detail tick offset : Nat) :
    s.endItemAt q seq status cause ref detail tick offset =
      let p := s.partOf q
      let ok := servedStatus status
      let e : Ended := 
        { status := status, cause := cause, tick := tick, offset := offset, outputValid := ok && j.kind == 0,
          isPartial := !ok && j.workStarted cause, faultRef := ref, detail := detail }
      let s := if j.active || j.phase == .parked || j.phase == .saved then s.clearFault q else s
      let s := s.vacateArrays q seq
      let s := s.setJob q seq (fun k => { k with ended := some e, stop := .none })
      let s := (s.countOutcome p status tick).bump (Adr.jobsEnded p)
      if p == 0 && j.kind == 0 then
        { s with bin := { s.bin with ends := s.bin.ends ++ [{ queue := q, due := j.due, valid := ok }] } }
      else s := by
  unfold State.endItemAt
  rw [hj]
  dsimp only
  rw [he]

/-- R181 to R184: an item that has not ended ends as it is told, and its arrays are given up. -/
theorem State.endItem_ends {j : Job} (hq : q < s.queues.length) (hj : s.job? q seq = some j) (he : j.ended = none)
    (ref detail : Nat) : (s.endItem q seq status cause ref detail).endedAs q seq status cause := by
  rw [State.endItem, State.endItemAt_open hj he]
  extract_lets p ok e x1 x2 x3 x4
  have h1 : State.Amends q (seq + 1) s x1 := by
    simp only [x1]
    split
    · exact State.Amends.clearFault s q _
    · exact State.Amends.of_same rfl rfl
  have h3 : x3.endedAs q seq status cause := by
    have hl : q < x2.queues.length := by
      simp only [x2, x1, State.vacateArrays]
      split
      · simpa [State.clearFault] using hq
      · exact hq
    have hj2 : x2.job? q seq = some j := (h1.job?_other (by omega)).trans hj
    refine ⟨⟨{ j with ended := some e, stop := .none }, e, ?_, rfl, rfl, rfl⟩, fun x hx => (State.vacateArrays_mem hx).1⟩
    have hseq : j.submitSeq = seq := by simpa using List.find?_some hj
    rw [State.job?_of_map (s := x2) (g := fun k => if k.submitSeq == seq then { k with ended := some e, stop := .none } else k)
      (fun k => by split <;> rfl) (by rw [show x3 = x2.setJob q seq _ from rfl, State.setJob, State.queueAt_setQueue _ _ _ hl]),
      hj2, Option.map_some, if_pos (beq_iff_eq.2 hseq)]
  have h4 : x4.endedAs q seq status cause :=
    State.endedAs_congr ((State.bump_queues _ _).1.trans (x3.countOutcome_queues p status _).1)
      ((State.bump_queues _ _).2.trans (x3.countOutcome_queues p status _).2) h3
  split
  · exact State.endedAs_congr rfl rfl h4
  · exact h4

end

end Sys2Proof.Machine

/-! PROOFS about the loss of bus-master enable (towards O39): what ends, which queues halt, what becomes of the reads. -/

namespace Sys2Proof.Machine

/-! ## Host-linked queues stay host-linked -/

/-- The state meets the invariant, and its host-linked queues are those of `f`. -/
def State.Links (f : Nat → Bool) (s : State) : Prop := s.Inv ∧ ∀ q, s.hostLinked q = f q

section
variable {f : Nat → Bool} {s t : State}

/-- Queues stay linked where their rings and the object that holds their mode do. -/
theorem State.Links.congr (h : s.Links f) (ht : t.Inv) (hn : ∀ q, t.numAt (Adr.queueMode q) = s.numAt (Adr.queueMode q))
    (hr : ∀ q, (t.queueAt q).ringOn = (s.queueAt q).ringOn) : t.Links f :=
  ⟨ht, fun q => by rw [State.hostLinked, hn, hr, ← h.2 q, State.hostLinked]⟩

theorem State.Links.setHost {g : HostLink → HostLink} (h : s.Links f) (hi : (s.setHost g).Inv) : (s.setHost g).Links f :=
  h.congr hi (fun _ => rfl) (fun _ => rfl)

theorem State.Links.setQueue {g : Queue → Queue} (h : s.Links f) (hg : ∀ x, (g x).ringOn = x.ringOn) (q : Nat) :
    (s.setQueue q g).Links f :=
  h.congr ((State.Sound.setQueue (State.Sound.refl [.queues] s) rfl).good h.1) (fun _ => rfl)
    (fun i => State.queueAt_setQueue_kept Queue.ringOn hg s q i)

theorem State.Links.sendVector (h : s.Links f) (v : Nat) : (s.sendVector v).Links f :=
  h.congr ((State.Sound.sendVector (State.Sound.refl [.host, .sent] s) rfl).good h.1)
    (fun _ => State.numAt_congr (State.sendVector_within.part rfl) (State.sendVector_within.dict rfl) _)
    (fun q => congrArg Queue.ringOn (State.queueAt_congr (State.sendVector_within.queues rfl) q))

/-- R181 to R184: the ending of an item counts it in its partition and changes no other object. -/
theorem State.endItemAt_dict (s : State) (q seq status cause ref detail tick offset : Nat) :
    (s.endItemAt q seq status cause ref detail tick offset).part = s.part ∧
      ((s.endItemAt q seq status cause ref detail tick offset).dict = s.dict ∨
        ∃ p, (s.endItemAt q seq status cause ref detail tick offset).dict = (s.bump (Adr.jobsEnded p)).dict) := by
  refine ⟨(State.Sound.endItemAt (State.Sound.refl [.dict, .tally, .arrs, .queues, .bin] s) rfl).within.part rfl, ?_⟩
  cases hj : s.job? q seq with
  | none => exact .inl (by rw [State.endItemAt, hj])
  | some j =>
    cases he : j.ended with
    | some e =>
      refine .inl ?_
      rw [State.endItemAt, hj]
      dsimp only
      rw [he]
      dsimp only
      split <;> rfl
    | none =>
      refine .inr ⟨s.partOf q, ?_⟩
      rw [State.endItemAt_open hj he]
      extract_lets p ok e x1 x2 x3 x4
      have h1 : x1.part = s.part ∧ x1.dict = s.dict := by
        simp only [x1]
        split <;> exact ⟨rfl, rfl⟩
      have hc : State.Within [.tally] x3 (x3.countOutcome p status tick) :=
        (State.Sound.countOutcome (State.Sound.refl _ x3) rfl).within
      have h4 : x4.dict = (s.bump (Adr.jobsEnded p)).dict :=
        State.bumpBy_dict_congr ((hc.part rfl).trans h1.1) ((hc.dict rfl).trans h1.2) _ 1
      split
      · exact h4
      · exact h4

/-- The counter of the items ended is not the object of a queue's mode, and nor is its flag. -/
theorem Adr.queueMode_ne_jobsEnded (q p : Nat) :
    Adr.queueMode q ≠ Adr.jobsEnded p ∧ Adr.queueMode q ≠ wrapFlagOf (Adr.jobsEnded p) := by
  unfold wrapFlagOf Adr.queueMode Adr.jobsEnded
  constructor
  · omega
  · split <;> omega

theorem State.Links.endItem (h : s.Links f) (q seq status cause ref detail : Nat) :
    (s.endItem q seq status cause ref detail).Links f := by
  refine h.congr ((State.Sound.endItem (State.Sound.refl [.dict, .tally, .arrs, .queues, .bin] s) rfl).good h.1)
    (fun i => ?_) (fun i => ?_)
  · obtain ⟨hp, hd | ⟨p, hd⟩⟩ := s.endItemAt_dict q seq status cause ref detail s.tick.tick (s.tick.now - s.tick.meridian)
    · exact State.numAt_congr hp hd _
    · obtain ⟨hn, hw⟩ := Adr.queueMode_ne_jobsEnded i p
      exact (State.numAt_congr (s := s.bump (Adr.jobsEnded p)) (hp.trans (s.bump_frame _).1.symm) hd _).trans
        (congrArg Val.toNat (State.valAt_bump_other h.1.1.1 hn hw))
  · by_cases e : i = q
    · subst e
      exact (State.Amends.endItem s i seq status cause ref detail).ring
    · rw [(State.Amends.endItem s q seq status cause ref detail).other i e]

end

/-! ## Items that end together -/

/-- The items of one queue that satisfy a test end. -/
def State.endQueueWhere (test : Nat → Job → Bool) (status cause : Nat) (s : State) (q : Nat) : State :=
  ((s.queueAt q).jobs.filter (test q)).foldl (fun s j => s.endItem q j.submitSeq status cause 0 0) s

theorem State.endWhere_eq (s : State) (test : Nat → Job → Bool) (status cause : Nat) :
    s.endWhere test status cause = (List.range 32).foldl (State.endQueueWhere test status cause) s := rfl

/-- What the ending of every item of a queue keeps, the ending of those that satisfy a test keeps. -/
theorem State.endQueueWhere_keeps {P : State → Prop} {test : Nat → Job → Bool} {status cause q : Nat}
    (hP : ∀ s, P s → ∀ seq, P (s.endItem q seq status cause 0 0)) {s : State} (h : P s) :
    P (s.endQueueWhere test status cause q) :=
  List.foldlRecOn _ _ h (fun s h j _ => hP s h j.submitSeq)

theorem State.Links.endWhere {f : Nat → Bool} {s : State} (h : s.Links f) (test : Nat → Job → Bool) (status cause : Nat) :
    (s.endWhere test status cause).Links f :=
  List.foldlRecOn _ _ h (fun _ h q _ => State.endQueueWhere_keeps (P := State.Links f) (fun _ h seq => h.endItem q seq _ _ _ _) h)

/-- Where the items of a queue have numbers of their own, an item is found by its number. -/
theorem State.job?_of_mem {s : State} {q : Nat} {j : Job} (hn : ((s.queueAt q).jobs.map (·.submitSeq)).Nodup)
    (hj : j ∈ (s.queueAt q).jobs) : s.job? q j.submitSeq = some j := by
  obtain ⟨k, hk⟩ := Option.isSome_iff_exists.1 (List.find?_isSome (p := fun k => k.submitSeq == j.submitSeq).2
    ⟨j, hj, beq_self_eq_true j.submitSeq⟩)
  have hseq : k.submitSeq = j.submitSeq := by simpa using List.find?_some hk
  rw [State.job?, hk, List.inj_on_of_nodup_map hn (List.mem_of_find?_eq_some hk) hj hseq]

/-- R181 to R184: every item of a queue that has not ended and satisfies the test ends. -/
theorem State.endQueueWhere_ends {s : State} {test : Nat → Job → Bool} {status cause q : Nat} {j : Job} (h : s.Inv) (hq : q < 32)
    (hn : ((s.queueAt q).jobs.map (·.submitSeq)).Nodup) (hj : j ∈ (s.queueAt q).jobs) (he : j.ended = none)
    (ht : test q j = true) : (s.endQueueWhere test status cause q).endedAs q j.submitSeq status cause := by
  have hlen : ∀ {s : State}, s.Inv → q < s.queues.length := fun h => by
    obtain ⟨-, hl, -⟩ := (State.shaped_iff _).1 h.2
    omega
  have hother : ∀ k ∈ (s.queueAt q).jobs.filter (test q), k ≠ j → j.submitSeq ≠ k.submitSeq := fun k hk hne e =>
    hne (List.inj_on_of_nodup_map hn (List.mem_of_mem_filter hk) hj e.symm)
  rw [State.endQueueWhere]
  refine foldl_reaches (before := fun (s : State) => s.Inv ∧ s.job? q j.submitSeq = some j)
    (after := fun (s : State) => s.endedAs q j.submitSeq status cause) ((List.Nodup.of_map _ hn).filter _)
    (List.mem_filter.2 ⟨hj, ht⟩) ?_ ?_ ?_ ⟨h, State.job?_of_mem hn hj⟩
  · rintro s k hk hne ⟨hi, hjob⟩
    exact ⟨(State.Sound.endItem (State.Sound.refl [.dict, .tally, .arrs, .queues, .bin] s) rfl).good hi,
      ((State.Amends.endItem s q _ _ _ _ _).job?_other (hother k hk hne)).trans hjob⟩
  · rintro s ⟨hi, hjob⟩
    exact State.endItem_ends (hlen hi) hjob he 0 0
  · rintro s k hk hne hend
    exact (State.Amends.endItem s q _ _ _ _ _).endedAs (.inr (hother k hk hne).symm) hend

/-- R181 to R184: every item that has not ended and satisfies the test ends. -/
theorem State.endWhere_ends {s : State} {test : Nat → Job → Bool} (status cause : Nat) {q : Nat} {j : Job} (h : s.Inv)
    (hq : q < 32) (hn : ((s.queueAt q).jobs.map (·.submitSeq)).Nodup) (hj : j ∈ (s.queueAt q).jobs) (he : j.ended = none)
    (ht : test q j = true) : (s.endWhere test status cause).endedAs q j.submitSeq status cause := by
  rw [State.endWhere_eq]
  refine foldl_reaches (before := fun (t : State) => t.Inv ∧ t.queueAt q = s.queueAt q)
    (after := fun (t : State) => t.endedAs q j.submitSeq status cause) List.nodup_range (List.mem_range.2 hq)
    ?_ ?_ ?_ ⟨h, rfl⟩
  · intro t i _ hne ht
    refine State.endQueueWhere_keeps (P := fun t => t.Inv ∧ t.queueAt q = s.queueAt q) (fun t ht seq => ?_) ht
    exact ⟨(State.Sound.endItem (State.Sound.refl [.dict, .tally, .arrs, .queues, .bin] t) rfl).good ht.1,
      ((State.Amends.endItem t i seq _ _ _ _).other q hne.symm).trans ht.2⟩
  · rintro t ⟨hi, hsame⟩
    exact State.endQueueWhere_ends hi hq (hsame ▸ hn) (hsame ▸ hj) he ht
  · intro t i _ hne hend
    exact State.endQueueWhere_keeps (P := fun t => t.endedAs q j.submitSeq status cause)
      (fun t ht seq => (State.Amends.endItem t i seq _ _ _ _).endedAs (.inl hne) ht) hend

/-! ## Messages change the pending bits alone -/

/-- The host link is as it was, but for the pending bits of the vectors. -/
def State.PendsOnly (s t : State) : Prop := ∃ p, t.host = { s.host with msixPending := p }

theorem State.PendsOnly.of_same {s t : State} (h : t.host = s.host) : State.PendsOnly s t := ⟨s.host.msixPending, h⟩

theorem State.PendsOnly.trans {s t u : State} (h : State.PendsOnly s t) (k : State.PendsOnly t u) : State.PendsOnly s u := by
  obtain ⟨p, hp⟩ := h
  obtain ⟨r, hr⟩ := k
  exact ⟨r, by rw [hr, hp]⟩

theorem State.sendVector_pendsOnly (s : State) (v : Nat) : State.PendsOnly s (s.sendVector v) := by
  unfold State.sendVector
  split
  · exact .of_same rfl
  · exact ⟨_, rfl⟩

/-! ## Host-linked queues halt -/

/-- R248 step 4: a host-linked queue halts with HALT_BME, with vector 46 where it was not halted. -/
def State.haltLinked (s : State) (q : Nat) : State :=
  if s.hostLinked q then
    let new := (s.queueAt q).state != .halted
    let s := s.setQueue q (fun x => { x with state := .halted, haltBme := true })
    if new then s.sendVector 46 else s
  else s

section
variable {s : State} {q : Nat}

/-- What the halting of a queue keeps: an update of the queue and a message. -/
theorem State.haltLinked_keeps {P : State → Prop}
    (hq : P (s.setQueue q (fun x => { x with state := .halted, haltBme := true }))) (hv : ∀ t, P t → P (t.sendVector 46))
    (h : P s) : P (s.haltLinked q) := by
  unfold State.haltLinked
  split
  · extract_lets new x
    split
    · exact hv _ hq
    · exact hq
  · exact h

theorem State.Links.haltLinked {f : Nat → Bool} (h : s.Links f) (q : Nat) : (s.haltLinked q).Links f :=
  State.haltLinked_keeps (h.setQueue (by intro; rfl) q) (fun _ ht => ht.sendVector 46) h

theorem State.haltLinked_pendsOnly (s : State) (q : Nat) : State.PendsOnly s (s.haltLinked q) :=
  State.haltLinked_keeps (.of_same rfl) (fun t ht => ht.trans (t.sendVector_pendsOnly 46)) (.of_same rfl)

theorem State.haltLinked_within (s : State) (q : Nat) : State.Within [.queues, .host, .sent] s (s.haltLinked q) :=
  State.haltLinked_keeps (State.Sound.setQueue (State.Sound.refl _ s) rfl).within
    (fun _ ht => ht.trans State.sendVector_within rfl) (State.Sound.refl _ s).within

theorem State.haltLinked_endedAs {i seq status cause : Nat} (h : s.endedAs i seq status cause) (q : Nat) :
    (s.haltLinked q).endedAs i seq status cause := by
  refine State.haltLinked_keeps (P := fun t => t.endedAs i seq status cause) ?_ (fun t ht => ?_) h
  · refine State.endedAs_of_map (s := s) (g := id) (fun _ => ⟨rfl, rfl⟩) ?_ rfl h
    rw [List.map_id]
    exact State.queueAt_setQueue_kept Queue.jobs (by intro; rfl) s q i
  · exact State.endedAs_congr (State.sendVector_within.queues rfl) (State.sendVector_within.arrs rfl) ht

/-- Whether a queue reads HALTED with HALT_BME. -/
def Queue.haltedBme (x : Queue) : Prop := x.state = .halted ∧ x.haltBme = true

theorem Queue.haltedBme.of_jobs {x : Queue} (h : x.haltedBme) (js : List Job) : Queue.haltedBme { x with jobs := js } := h

theorem State.haltLinked_same (h : s.Inv) (hq : q < 32) (hl : s.hostLinked q = true) :
    ((s.haltLinked q).queueAt q).haltedBme := by
  obtain ⟨-, hlen, -⟩ := (State.shaped_iff s).1 h.2
  rw [State.haltLinked, if_pos hl]
  extract_lets new x
  have hx : (x.queueAt q).haltedBme := by
    rw [State.queueAt_setQueue _ _ _ (by omega)]
    exact ⟨rfl, rfl⟩
  split
  · rw [State.queueAt_congr (State.sendVector_within.queues rfl)]
    exact hx
  · exact hx

theorem State.haltLinked_other {i : Nat} (hne : i ≠ q) : (s.haltLinked q).queueAt i = s.queueAt i :=
  State.haltLinked_keeps (P := fun t => t.queueAt i = s.queueAt i) (State.queueAt_setQueue_other s _ hne)
    (fun _ ht => (State.queueAt_congr (State.sendVector_within.queues rfl) i).trans ht) rfl

end

/-- Every host-linked queue halts. -/
def State.haltAll (s : State) : State := (List.range 32).foldl State.haltLinked s

/-- R248: the loss of bus-master enable, step by step. -/
theorem State.bmeLost_eq {s : State} (h : s.host.bme = true) : s.bmeLost =
    ((s.setHost (fun h => { h with bme := false })).endWhere s.hostBound 0x22 0x20).haltAll.abandonReads.dispatch := by
  unfold State.bmeLost
  rw [if_neg (by simp [h])]
  extract_lets a b c
  exact congrArg (fun x => (State.abandonReads x).dispatch) (show c = b.haltAll from rfl)

theorem State.haltAll_halts {f : Nat → Bool} {s : State} (h : s.Links f) {q : Nat} (hq : q < 32) (hf : f q = true) :
    (s.haltAll.queueAt q).haltedBme :=
  foldl_reaches (before := State.Links f) (after := fun t => (t.queueAt q).haltedBme) List.nodup_range (List.mem_range.2 hq)
    (fun _ i _ _ ht => ht.haltLinked i) (fun _ ht => State.haltLinked_same ht.1 hq ((ht.2 q).trans hf))
    (fun _ _ _ hne ht => (State.haltLinked_other hne.symm).symm ▸ ht) h

theorem State.haltAll_pendsOnly (s : State) : State.PendsOnly s s.haltAll :=
  List.foldlRecOn (motive := State.PendsOnly s) _ _ (.of_same rfl) (fun t h q _ => h.trans (t.haltLinked_pendsOnly q))

theorem State.haltAll_within (s : State) : State.Within [.queues, .host, .sent] s s.haltAll :=
  List.foldlRecOn (motive := State.Within _ s) _ _ (State.Sound.refl _ s).within
    (fun t h q _ => h.trans (t.haltLinked_within q) rfl)

theorem State.haltAll_endedAs {s : State} {q seq status cause : Nat} (h : s.endedAs q seq status cause) :
    s.haltAll.endedAs q seq status cause :=
  List.foldlRecOn (motive := fun t => State.endedAs t q seq status cause) _ _ h (fun _ h i _ => State.haltLinked_endedAs h i)

/-! ## The reads that are abandoned -/

/-- Reads are given up: items of the queues change, but for their numbers and endings; of memory no byte changes, and of
the host link the pending bits alone. -/
structure State.Rewinds (s t : State) : Prop where
  queue : ∀ q, ∃ g : Job → Job, (∀ k, (g k).submitSeq = k.submitSeq ∧ (g k).ended = k.ended) ∧
    t.queueAt q = { s.queueAt q with jobs := (s.queueAt q).jobs.map g }
  arrs : t.arrs = s.arrs
  cells : t.mem.cells = s.mem.cells
  fabric : t.fabric = s.fabric
  pends : State.PendsOnly s t

section
variable {s t u : State}

theorem State.Rewinds.of_same (hq : t.queues = s.queues) (ha : t.arrs = s.arrs) (hc : t.mem.cells = s.mem.cells)
    (hf : t.fabric = s.fabric) (hp : State.PendsOnly s t) : State.Rewinds s t where
  queue q := ⟨id, fun _ => ⟨rfl, rfl⟩, by rw [State.queueAt_congr hq, List.map_id]⟩
  arrs := ha
  cells := hc
  fabric := hf
  pends := hp

theorem State.Rewinds.trans (h : State.Rewinds s t) (k : State.Rewinds t u) : State.Rewinds s u where
  queue q := by
    obtain ⟨f, hf, hq⟩ := h.queue q
    obtain ⟨g, hg, hr⟩ := k.queue q
    exact ⟨g ∘ f, fun j => ⟨(hg _).1.trans (hf j).1, (hg _).2.trans (hf j).2⟩, by rw [hr, hq, List.map_map]⟩
  arrs := k.arrs.trans h.arrs
  cells := k.cells.trans h.cells
  fabric := k.fabric.trans h.fabric
  pends := h.pends.trans k.pends

theorem State.Rewinds.setJob (s : State) (q seq : Nat) {f : Job → Job}
    (hf : ∀ k, (f k).submitSeq = k.submitSeq ∧ (f k).ended = k.ended) : State.Rewinds s (s.setJob q seq f) where
  queue i := by
    by_cases h : i = q ∧ q < s.queues.length
    · obtain ⟨rfl, hl⟩ := h
      refine ⟨fun j => if j.submitSeq == seq then f j else j, fun k => ?_, State.queueAt_setQueue _ _ _ hl⟩
      show (if (k.submitSeq == seq) = true then f k else k).submitSeq = _ ∧
        (if (k.submitSeq == seq) = true then f k else k).ended = _
      split
      · exact hf k
      · exact ⟨rfl, rfl⟩
    · refine ⟨id, fun _ => ⟨rfl, rfl⟩, ?_⟩
      rw [List.map_id]
      by_cases e : i = q
      · have hl : s.queues.length ≤ i := by omega
        rw [State.queueAt, nth, List.getD_eq_default _ _ (by simpa [State.setJob, State.setQueue] using hl), State.queueAt, nth,
          List.getD_eq_default _ _ hl]
      · exact State.queueAt_setQueue_other s _ e
  arrs := rfl
  cells := rfl
  fabric := rfl
  pends := .of_same rfl

theorem State.recordTf_pendsOnly (s : State) (q : Nat) (f : TFault) (disposition context : Nat) :
    (s.recordTf q f disposition context).mem.cells = s.mem.cells ∧
      State.PendsOnly s (s.recordTf q f disposition context) := by
  unfold State.recordTf
  extract_lets p seq bytes x y z
  have hx : x.mem = s.mem ∧ x.host = s.host := by simp [x]
  have hy : z.mem.cells = s.mem.cells ∧ State.PendsOnly s z := ⟨(congrArg Mem.cells hx.1 : x.mem.cells = s.mem.cells), .of_same hx.2⟩
  split
  · exact ⟨(congrArg Mem.cells (State.sendVector_within.mem rfl)).trans hy.1,
      (hy.2.trans (.of_same rfl)).trans (State.sendVector_pendsOnly _ _)⟩
  · exact hy

/-- R207: a translation fault that is recorded changes no item. -/
theorem State.Rewinds.recordHeld (s : State) (e : Nat) : State.Rewinds s (s.recordHeld e) := by
  have hw : State.Within [.dict, .mem, .host, .sent] s (s.recordHeld e) :=
    (State.Sound.recordHeld (State.Sound.refl _ s) rfl).within
  have hp : (s.recordHeld e).mem.cells = s.mem.cells ∧ State.PendsOnly s (s.recordHeld e) := by
    unfold State.recordHeld
    split
    · exact State.recordTf_pendsOnly _ _ _ _ _
    · exact ⟨rfl, .of_same rfl⟩
  exact .of_same (hw.queues rfl) (hw.arrs rfl) hp.1 (hw.fabric rfl) hp.2

theorem State.Rewinds.rewind (s : State) (e : Nat) : State.Rewinds s (s.rewind e) := by
  unfold State.rewind
  extract_lets x
  split
  · exact State.Rewinds.setJob s _ _ (by intro; exact ⟨rfl, rfl⟩)
  · exact .of_same rfl rfl rfl rfl (.of_same rfl)

/-- An item stays ended where reads are given up. -/
theorem State.Rewinds.endedAs {q seq status cause : Nat} (h : State.Rewinds s t) (he : s.endedAs q seq status cause) :
    t.endedAs q seq status cause := by
  obtain ⟨g, hg, hq⟩ := h.queue q
  exact State.endedAs_of_map hg (congrArg Queue.jobs hq) h.arrs he

end

/-- The reads that HOST makes for an engine. -/
def State.meshReads (s : State) (e : Nat) : List HostRead :=
  (s.fabric.reads.filter (fun r => r.engine == e)).map (fun r =>
    { tag := r.tag, off := 0, len := 0, partition := r.request.packet.partition.val, page := 0, size := 0 })

/-- R248 step 5: the engines when their reads are abandoned. -/
def State.abandonedEngines (s : State) : List Engine :=
  s.host.engines.zipIdx.map (fun (x : Engine × Nat) =>
    { owner := none, reads := [], abandoned := x.1.abandoned ++ x.1.reads ++ s.meshReads x.2, held := none })

/-- R248 step 5: the reads that are abandoned, as one step after the transfers have been wound back. -/
theorem State.abandonReads_eq (s : State) : ∃ x, State.Rewinds s x ∧ s.abandonReads =
    { x.setHost (fun h => { h with engines := x.abandonedEngines }) with fabric := { x.fabric with reads := [] } } := by
  unfold State.abandonReads
  extract_lets x mesh y
  have hx : State.Rewinds s x := List.foldlRecOn (motive := State.Rewinds s) _ _ (.of_same rfl rfl rfl rfl (.of_same rfl))
    (fun t h e _ => h.trans ((State.Rewinds.recordHeld t e).trans (State.Rewinds.rewind _ e)))
  clear_value x
  exact ⟨x, hx, rfl⟩

theorem State.abandonedEngines_nth {s : State} {e : Nat} (he : e < s.host.engines.length) (d : Engine) :
    nth s.abandonedEngines e d = ⟨none, [], (s.engineAt e).abandoned ++ (s.engineAt e).reads ++ s.meshReads e, none⟩ := by
  rw [State.engineAt, nth, nth, State.abandonedEngines, List.getD_eq_getElem _ _ (by simpa using he),
    List.getD_eq_getElem _ _ he]
  simp

/-- R248: what the loss of bus-master enable brings about, but for what starts to run then. -/
theorem State.bmeLost_spec {u : State} (h : u.Inv) (hb : u.host.bme = true) : ∃ y : State, u.bmeLost = y.dispatch ∧
    y.host.bme = false ∧
    (∀ q j, q < 32 → ((u.queueAt q).jobs.map (·.submitSeq)).Nodup → j ∈ (u.queueAt q).jobs → u.hostBound q j = true →
      y.endedAs q j.submitSeq 0x22 0x20) ∧
    (∀ q, q < 32 → u.hostLinked q = true → (y.queueAt q).haltedBme) ∧
    (∀ e, e < 8 → y.engineAt e =
      ⟨none, [], (u.engineAt e).abandoned ++ (u.engineAt e).reads ++ u.meshReads e, none⟩) ∧
    y.fabric.reads = [] ∧ y.mem.cells = u.mem.cells := by
  rw [State.bmeLost_eq hb]
  set s := u.setHost (fun h => { h with bme := false })
  have hi : s.Inv := (State.Sound.setHost (State.Sound.refl [.host] u) ⟨rfl, rfl⟩ rfl).good h
  have hls : s.Links u.hostLinked := ⟨hi, fun _ => rfl⟩
  set a := s.endWhere u.hostBound 0x22 0x20
  have hla : a.Links u.hostLinked := hls.endWhere _ _ _
  have hwa : State.Within [.dict, .tally, .arrs, .queues, .bin] s a := (State.Sound.endWhere (State.Sound.refl _ s) rfl).within
  obtain ⟨x, hx, he⟩ := a.haltAll.abandonReads_eq
  obtain ⟨p, hp⟩ := a.haltAll_pendsOnly.trans hx.pends
  have hhost : x.host = { s.host with msixPending := p } := by rw [hp, hwa.host rfl]
  have hfab : x.fabric = u.fabric := (hx.fabric.trans (a.haltAll_within.fabric rfl)).trans (hwa.fabric rfl)
  have heng : x.host.engines = u.host.engines := by rw [hhost]; rfl
  refine ⟨_, rfl, ?_, ?_, ?_, ?_, ?_, ?_⟩
  all_goals rw [he]
  · exact congrArg HostLink.bme hhost
  · intro q j hq hn hj ht
    have hj0 : j.ended = none := by simpa using (Bool.and_eq_true_iff.1 ht).1
    have h1 : a.endedAs q j.submitSeq 0x22 0x20 := State.endWhere_ends _ _ hi hq hn hj hj0 ht
    exact State.endedAs_congr (s := x) rfl rfl (hx.endedAs (State.haltAll_endedAs h1))
  · intro q hq hl
    obtain ⟨g, -, hg⟩ := hx.queue q
    show (x.queueAt q).haltedBme
    rw [hg]
    have hh : (a.haltAll.queueAt q).haltedBme := State.haltAll_halts hla hq hl
    exact hh.of_jobs _
  · intro e hlt
    obtain ⟨-, -, -, -, -, -, -, -, hl, -⟩ := (State.shaped_iff u).1 h.2
    refine (State.abandonedEngines_nth (by rw [heng, hl]; exact hlt) _).trans ?_
    rw [State.meshReads, hfab, State.engineAt, heng, ← State.engineAt, ← State.meshReads]
  · exact (hx.cells.trans (congrArg Mem.cells (a.haltAll_within.mem rfl))).trans (congrArg Mem.cells (hwa.mem rfl))

end Sys2Proof.Machine

/-! PROOFS about the resets of the function and its link (towards O39): the host-linked queues, configuration space and
the ownership of port H. -/

namespace Sys2Proof.Machine

/-! ## The host-linked queues are reset -/

theorem State.resetLinked_queueAt {s : State} (h : s.Inv) {q : Nat} (hq : q < 32) (hl : s.hostLinked q = true) :
    s.resetLinked.queueAt q = (s.queueAt q).resetBlock := by
  obtain ⟨-, hlen, -⟩ := (State.shaped_iff s).1 h.2
  have hq' : q < s.queues.length := hlen ▸ hq
  rw [State.queueAt, nth, State.resetLinked, List.getD_eq_getElem _ _ (by simpa using hq'), State.queueAt, nth,
    List.getD_eq_getElem _ _ hq']
  simp [hl]

/-- Whether a queue's block reads as after a function-level reset. -/
def Queue.haltedFlr (x : Queue) : Prop := x.jobs = [] ∧ x.state = .halted ∧ x.haltFlr = true ∧ x.ringOn = false

/-- A queue without items has none whose reads could be given up. -/
theorem Queue.haltedFlr.of_map {x : Queue} (h : x.haltedFlr) (g : Job → Job) :
    Queue.haltedFlr { x with jobs := x.jobs.map g } := by
  obtain ⟨hj, hs, hf, hr⟩ := h
  exact ⟨by rw [hj, List.map_nil], hs, hf, hr⟩

/-! ## The ownership of port H -/

section
variable {s t u : State}

/-- The host link is as it was, but for its mailboxes. -/
def State.MailsOnly (s t : State) : Prop := ∃ m, t.host = { s.host with mailboxes := m }

theorem State.MailsOnly.of_same (h : t.host = s.host) : State.MailsOnly s t := ⟨s.host.mailboxes, h⟩

theorem State.MailsOnly.trans (h : State.MailsOnly s t) (k : State.MailsOnly t u) : State.MailsOnly s u := by
  obtain ⟨p, hp⟩ := h
  obtain ⟨r, hr⟩ := k
  exact ⟨r, by rw [hr, hp]⟩

/-- R53: a NOTIFY on a port other than H writes no ring. -/
theorem State.MailsOnly.notifyOn {p : Port} (hp : p ∈ portsNotH) (s : State) (event addr : Nat) (st : Stamp) (data : Bytes) :
    State.MailsOnly s (s.notifyOn p event addr st data) := by
  unfold State.notifyOn
  split
  · exact .of_same rfl
  · extract_lets seq x pdu
    cases p with
    | C => exact .of_same rfl
    | E => exact .of_same rfl
    | S => exact ⟨_, rfl⟩
    | H => exact absurd hp (by decide)

theorem State.MailsOnly.notifyPorts (s : State) (event addr : Nat) (st : Stamp) (data : Bytes) :
    State.MailsOnly s (s.notifyPorts portsNotH event addr st data) :=
  List.foldlRecOn (motive := State.MailsOnly s) _ _ (.of_same rfl)
    (fun t h _ hp => h.trans (State.MailsOnly.notifyOn hp t event addr st data))

theorem State.notifyPorts_own (s : State) (ps : List Port) (event addr : Nat) (st : Stamp) (data : Bytes) :
    (s.notifyPorts ps event addr st data).own = s.own :=
  (State.Sound.notifyPorts (State.Sound.refl [.ports, .host, .sent] s) rfl).within.own rfl

theorem State.dropOwner_own (s : State) (cause : Nat) : (s.dropOwner cause).own.owner = none ∧
    (s.dropOwner cause).own.state = .vacant ∧ (s.dropOwner cause).own.vacancyCause = cause := ⟨rfl, rfl, rfl⟩

theorem State.dropOwner_host (s : State) (cause : Nat) : (s.dropOwner cause).host = s.host :=
  (State.Sound.dropOwner (State.Sound.refl [.dict, .own, .ports] s) rfl).within.host rfl

/-- R43: port H's ownership falls vacant with the cause. -/
theorem State.portHLost_vacates (h : s.own.owner = some .H) (cause : Nat) : (s.portHLost cause).own.owner = none ∧
    (s.portHLost cause).own.state = .vacant ∧ (s.portHLost cause).own.vacancyCause = cause := by
  rw [State.portHLost, if_pos (beq_iff_eq.2 h), State.vacate, State.notifyPorts_own]
  exact State.dropOwner_own s cause

theorem State.failHandover_owner (s : State) (ps : List Port) : (s.failHandover ps).own.owner = s.own.owner :=
  (congrArg Own.owner (State.notifyPorts_own (State.setLease _) ps _ _ _ _)).trans rfl

/-- R43: an owner at another port stays the owner. -/
theorem State.portHLost_keeps (h : s.own.owner ≠ some .H) (cause : Nat) : (s.portHLost cause).own.owner = s.own.owner := by
  rw [State.portHLost, if_neg (by simpa using h)]
  split
  · exact s.failHandover_owner _
  · dsimp only
    split <;> rfl

theorem State.MailsOnly.portHLost (s : State) (cause : Nat) : State.MailsOnly s (s.portHLost cause) := by
  unfold State.portHLost
  split
  · exact .trans (.of_same (s.dropOwner_host cause)) (State.MailsOnly.notifyPorts _ _ _ _ _)
  · split
    · unfold State.failHandover
      extract_lets code x
      exact .trans (t := x.setLease) (.of_same rfl) (State.MailsOnly.notifyPorts _ _ _ _ _)
    · dsimp only
      split <;> exact .of_same rfl

theorem State.portHLost_within (s : State) (cause : Nat) :
    State.Within [.dict, .own, .ports, .host, .sent] s (s.portHLost cause) :=
  (State.Sound.portHLost (State.Sound.refl _ s) rfl).within

/-- What port H had in progress is gone; no byte of memory changes. -/
theorem State.resetPortH_cells (s : State) : s.resetPortH.mem.cells = s.mem.cells :=
  (congrArg Mem.cells ((State.Sound.discardTransfer (State.Sound.refl [.dict, .ports] s) rfl).within.mem rfl) :
    (s.discardTransfer .H 0x0605).mem.cells = s.mem.cells)

/-! ## The function-level reset -/

/-- Configuration space and the control ring after a function-level reset, before the function is ready again. -/
def HostLink.wasReset (h : HostLink) : Prop :=
  h.bme = false ∧ h.mse = false ∧ h.functionReady = false ∧ h.ring = ControlRing.zero

theorem State.MailsOnly.wasReset (h : State.MailsOnly s t) (hr : s.host.wasReset) : t.host.wasReset := by
  obtain ⟨m, hm⟩ := h
  rw [hm]
  exact hr

/-- R251: the blocks of the host-linked queues and the function are reset, before the reset is recorded and port H is
given up. -/
def State.clearFunction (a : State) : State :=
  a.resetLinked.abandonReads.resetFunction.setHost (fun h => { h with functionReady := false })

theorem State.resetFunction_frame (s : State) : s.resetFunction.mem.cells = s.mem.cells ∧ s.resetFunction.queues = s.queues ∧
    s.resetFunction.own = s.own := ⟨rfl, rfl, rfl⟩

theorem State.resetFunction_host (s : State) : s.resetFunction.host.bme = false ∧ s.resetFunction.host.mse = false ∧
    s.resetFunction.host.ring = ControlRing.zero := ⟨rfl, rfl, rfl⟩

theorem State.clearFunction_spec {f : Nat → Bool} {a : State} (h : a.Links f) : a.clearFunction.host.wasReset ∧
    a.clearFunction.mem.cells = a.mem.cells ∧ a.clearFunction.own = a.own ∧
    ∀ q, q < 32 → f q = true → (a.clearFunction.queueAt q).haltedFlr := by
  have hj : ∀ q, q < 32 → f q = true → (a.resetLinked.queueAt q).haltedFlr := fun q hq hl => by
    rw [State.resetLinked_queueAt h.1 hq ((h.2 q).trans hl)]
    exact ⟨rfl, rfl, rfl, rfl⟩
  have hown : a.resetLinked.abandonReads.own = a.resetLinked.own :=
    (State.Sound.abandonReads (State.Sound.refl [.dict, .queues, .mem, .fabric, .host, .sent] _) rfl).within.own rfl
  obtain ⟨x, hx, he⟩ := a.resetLinked.abandonReads_eq
  have hcells : a.resetLinked.abandonReads.mem.cells = x.mem.cells := by
    rw [he]
    rfl
  have hqueues : a.resetLinked.abandonReads.queues = x.queues := by
    rw [he]
    rfl
  rw [State.clearFunction]
  generalize a.resetLinked.abandonReads = b at hown hcells hqueues
  obtain ⟨hfc, hfq, hfo⟩ := b.resetFunction_frame
  obtain ⟨hbme, hmse, hring⟩ := b.resetFunction_host
  generalize b.resetFunction = c at hfc hfq hfo hbme hmse hring
  refine ⟨⟨hbme, hmse, rfl, hring⟩, ?_, hfo.trans hown, fun q hq hl => ?_⟩
  · exact (hfc.trans hcells).trans hx.cells
  · obtain ⟨g, -, hg⟩ := hx.queue q
    rw [State.queueAt_congr (t := c.setHost _) (hfq.trans hqueues), hg]
    exact (hj q hq hl).of_map g

/-- R43, R52, R251: port H when the function has been reset. -/
def State.clearPortH (b : State) : State := (b.portHLost 2).resetPortH.restartNotifies

theorem State.clearPortH_spec (b : State) : State.MailsOnly b b.clearPortH ∧ b.clearPortH.mem.cells = b.mem.cells ∧
    b.clearPortH.queues = b.queues ∧ b.clearPortH.own = (b.portHLost 2).own := by
  have hp := b.portHLost_within 2
  have hr : State.Within [.dict, .ports, .mem] (b.portHLost 2) b.clearPortH :=
    (State.Sound.restartNotifies (State.Sound.resetPortH (State.Sound.refl _ _) rfl) rfl).within
  exact ⟨(State.MailsOnly.portHLost b 2).trans (.of_same (hr.host rfl)),
    (b.portHLost 2).resetPortH_cells.trans (congrArg Mem.cells (hp.mem rfl)), (hr.queues rfl).trans (hp.queues rfl),
    hr.own rfl⟩

/-- R251: what a function-level reset brings about, but for what starts to run then. -/
theorem doFunctionLevelReset_spec {s u : State} {t : Nat} (hu : s.advanceCharged t = u) (h : u.Inv) (hd : u.dormant = false) :
    ∃ y : State, doFunctionLevelReset t s = y.dispatch ∧ y.host.wasReset ∧ y.mem.cells = u.mem.cells ∧
      (∀ q, q < 32 → u.hostLinked q = true → (y.queueAt q).haltedFlr) ∧
      (u.own.owner = some .H → y.own.owner = none ∧ y.own.state = .vacant ∧ y.own.vacancyCause = 2) ∧
      (u.own.owner ≠ some .H → y.own.owner = u.own.owner) := by
  have hdo : doFunctionLevelReset t s =
      (((u.endWhere u.endsWithFlr 0x22 0x21).clearFunction.setNum Adr.resetCause 3).bump Adr.resetsFlr).clearPortH.dispatch := by
    unfold doFunctionLevelReset
    rw [hu]
    dsimp only
    rw [if_neg (by simp [hd])]
    rfl
  have hl : (u.endWhere u.endsWithFlr 0x22 0x21).Links u.hostLinked := State.Links.endWhere ⟨h, fun _ => rfl⟩ _ _ _
  have hwa : State.Within [.dict, .tally, .arrs, .queues, .bin] u (u.endWhere u.endsWithFlr 0x22 0x21) :=
    (State.Sound.endWhere (State.Sound.refl _ u) rfl).within
  generalize u.endWhere u.endsWithFlr 0x22 0x21 = a at hdo hl hwa
  obtain ⟨hhost, hcells, hown, hqueue⟩ := State.clearFunction_spec hl
  have hwb : State.Within [.dict] a.clearFunction ((a.clearFunction.setNum Adr.resetCause 3).bump Adr.resetsFlr) :=
    (State.Sound.bump (State.Sound.setNum (State.Sound.refl _ _) rfl) rfl).within
  generalize (a.clearFunction.setNum Adr.resetCause 3).bump Adr.resetsFlr = b at hdo hwb
  have hob : b.own = u.own := ((hwb.own rfl).trans hown).trans (hwa.own rfl)
  obtain ⟨hmails, hpcells, hpqueues, hpown⟩ := b.clearPortH_spec
  refine ⟨b.clearPortH, hdo, ?_, ?_, ?_, ?_, ?_⟩
  · exact hmails.wasReset (by rw [hwb.host rfl]; exact hhost)
  · rw [hpcells, hwb.mem rfl, hcells, hwa.mem rfl]
  · intro q hq hf
    rw [State.queueAt_congr (hpqueues.trans (hwb.queues rfl))]
    exact hqueue q hq hf
  · intro ho
    rw [hpown]
    exact State.portHLost_vacates (by rw [hob]; exact ho) 2
  · intro ho
    rw [hpown, State.portHLost_keeps (by rw [hob]; exact ho), hob]

/-! ## The link goes down -/

/-- R43, R246: what a link-down brings about. -/
theorem State.linkLost_spec (u : State) : u.linkLost.host.linkUp = false ∧ u.linkLost.host.bme = false ∧
    u.linkLost.host.mse = false ∧ (u.own.owner = some .H → u.linkLost.own.owner = none ∧ u.linkLost.own.vacancyCause = 3) ∧
    (u.own.owner ≠ some .H → u.linkLost.own.owner = u.own.owner) := by
  set b := u.bmeLost.setHost (fun h => { h.resetConfig with linkUp := false, speed := 0, width := 0 })
  have hob : b.own = u.own :=
    (State.Sound.bmeLost (State.Sound.refl [.dict, .tally, .arrs, .queues, .mem, .fabric, .host, .bin, .log, .sent] u)
      rfl).within.own rfl
  obtain ⟨m, hm⟩ := State.MailsOnly.portHLost b 3
  have hhost : u.linkLost.host = { b.host with mailboxes := m } := hm
  refine ⟨by rw [hhost]; rfl, by rw [hhost]; rfl, by rw [hhost]; rfl, fun ho => ?_, fun ho => ?_⟩
  · obtain ⟨h1, -, h3⟩ := State.portHLost_vacates (s := b) (by rw [hob]; exact ho) 3
    exact ⟨h1, h3⟩
  · exact (State.portHLost_keeps (s := b) (by rw [hob]; exact ho) 3).trans (congrArg Own.owner hob)

end

end Sys2Proof.Machine

/-! PROOFS about messages, the MSI-X table and configuration space (O39). -/

namespace Sys2Proof.Machine

/-! ## Pending messages -/

theorem nth_modifyAt_default {α : Type} (xs : List α) (i : Nat) (d : α) : nth (modifyAt xs i (fun _ => d)) i d = d := by
  by_cases h : i < xs.length
  · exact nth_modifyAt_same _ d h
  · exact List.getD_eq_default _ _ (by rw [length_modifyAt]; omega)

/-- R233: the message of one vector is sent where it is pending and can be. -/
def State.sendIfPending (s : State) (v : Nat) : State :=
  if nth s.host.msixPending v false && s.vectorOpen v then
    (s.setHost (fun h => { h with msixPending := modifyAt h.msixPending v (fun _ => false) })).emitVector v
  else s

theorem State.sendPending_eq (s : State) : s.sendPending = (List.range 64).foldl State.sendIfPending s := rfl

theorem State.sendIfPending_pendsOnly (s : State) (v : Nat) : State.PendsOnly s (s.sendIfPending v) := by
  unfold State.sendIfPending
  split
  · exact ⟨_, rfl⟩
  · exact .of_same rfl

theorem State.sendPending_pendsOnly (s : State) : State.PendsOnly s s.sendPending :=
  List.foldlRecOn (motive := State.PendsOnly s) _ _ (.of_same rfl) (fun t h v _ => h.trans (t.sendIfPending_pendsOnly v))

/-- A message leaves the other vectors pending. -/
theorem State.sendIfPending_other {v w : Nat} (h : w ≠ v) (s : State) :
    nth (s.sendIfPending v).host.msixPending w false = nth s.host.msixPending w false := by
  unfold State.sendIfPending
  split
  · exact nth_modifyAt_other _ _ h
  · rfl

theorem State.sendIfPending_sent {x : Sent} {s : State} (h : x ∈ s.sent) (v : Nat) : x ∈ (s.sendIfPending v).sent := by
  unfold State.sendIfPending
  split
  · exact List.mem_append_left _ h
  · exact h

/-- Whether a vector can be sent depends on the pending bits of none. -/
theorem State.PendsOnly.vectorOpen {s t : State} (h : State.PendsOnly s t) (v : Nat) :
    t.vectorOpen v = s.vectorOpen v ∧ t.host.msixTable = s.host.msixTable := by
  obtain ⟨p, hp⟩ := h
  rw [State.vectorOpen, State.hostOpen, hp]
  exact ⟨rfl, rfl⟩

/-- R233, R249: a pending vector that can be sent is sent, with its address and data. -/
theorem State.sendPending_sends {s : State} {v : Nat} (hv : v < 64) (hp : nth s.host.msixPending v false = true)
    (ho : s.vectorOpen v = true) :
    .msix v (nth s.host.msixTable v (0, 0)).1 (nth s.host.msixTable v (0, 0)).2 ∈ s.sendPending.sent ∧
      nth s.sendPending.host.msixPending v false = false := by
  rw [State.sendPending_eq]
  refine foldl_reaches
    (before := fun (t : State) => State.PendsOnly s t ∧ nth t.host.msixPending v false = true)
    (after := fun (t : State) => .msix v (nth s.host.msixTable v (0, 0)).1 (nth s.host.msixTable v (0, 0)).2 ∈ t.sent ∧
      nth t.host.msixPending v false = false) List.nodup_range (List.mem_range.2 hv) ?_ ?_ ?_ ⟨.of_same rfl, hp⟩
  · rintro t w - hne ⟨ht, hpend⟩
    exact ⟨ht.trans (t.sendIfPending_pendsOnly w), (t.sendIfPending_other hne.symm).trans hpend⟩
  · rintro t ⟨ht, hpend⟩
    obtain ⟨hopen, htable⟩ := ht.vectorOpen v
    rw [State.sendIfPending, if_pos (by rw [hpend, hopen, ho]; rfl)]
    exact ⟨List.mem_append_right _ (List.mem_singleton.2 (by rw [← htable]; rfl)), nth_modifyAt_default _ _ _⟩
  · rintro t w - hne ⟨hsent, hpend⟩
    exact ⟨State.sendIfPending_sent hsent w, (t.sendIfPending_other hne.symm).trans hpend⟩

/-! ## The responses that port H holds -/

/-- `n` response entries have been written: of the host link the ring and the pending bits change, and no vector that was
pending is sent. -/
structure State.RingFills (n : Nat) (s t : State) : Prop where
  host : ∃ r p, t.host = { s.host with ring := r, msixPending := p }
  held : t.host.ring.heldRsp = s.host.ring.heldRsp
  enabled : t.host.ring.enabled = s.host.ring.enabled
  written : s.host.ring.enabled = true → t.host.ring.written = (s.host.ring.written + n) % 2 ^ 32 ∨ n = 0 ∧ t = s
  pending : ∀ v, nth s.host.msixPending v false = true → nth t.host.msixPending v false = true
  mem : t.mem = s.mem

/-- A message that is not of a pending vector leaves every pending vector pending. -/
theorem State.sendVector_pending {s : State} {v : Nat} (w : Nat) (h : nth s.host.msixPending v false = true) :
    nth (s.sendVector w).host.msixPending v false = true := by
  unfold State.sendVector
  split
  · exact h
  · by_cases e : v = w
    · subst e
      refine nth_modifyAt_same _ _ ?_
      by_contra hl
      rw [nth, List.getD_eq_default _ _ (by omega)] at h
      exact absurd h (by decide)
    · exact (nth_modifyAt_other _ _ e).trans h

theorem State.ringWrite_fills (s : State) (pdu : Bytes) :
    (s.ringWrite pdu).host.ring = { s.host.ring with written := (s.host.ring.written + 1) % 2 ^ 32 } ∧
      (∃ p, (s.ringWrite pdu).host = { s.host with ring := (s.ringWrite pdu).host.ring, msixPending := p }) ∧
      (∀ v, nth s.host.msixPending v false = true → nth (s.ringWrite pdu).host.msixPending v false = true) ∧
      (s.ringWrite pdu).mem = s.mem := by
  unfold State.ringWrite
  extract_lets r x host y
  obtain ⟨p, hp⟩ := y.sendVector_pendsOnly 36
  refine ⟨?_, ⟨p, ?_⟩, fun v hv => State.sendVector_pending 36 hv, State.sendVector_within.mem rfl⟩
  · rw [hp]
  · rw [hp]
    rfl

/-- R244, R249: a response written to port H's ring where requests to host memory are possible. -/
theorem State.RingFills.sendResponse {s : State} (ho : s.hostOpen = true) (r : Route) (pdu : Bytes) :
    State.RingFills 1 s (s.sendResponse .H r pdu) := by
  unfold State.sendResponse
  dsimp only
  split
  · rename_i h
    have hl : s.host.linkUp = true := by
      simp only [State.hostOpen, Bool.and_eq_true] at ho
      exact ho.1.1.1
    have he : s.host.ring.enabled = false := by simpa [hl] using h
    exact ⟨⟨_, _, rfl⟩, rfl, rfl, fun hen => absurd (he.symm.trans hen) (by decide), fun _ h => h, rfl⟩
  · obtain ⟨hring, ⟨p, hhost⟩, hpend, hmem⟩ := s.ringWrite_fills pdu
    exact ⟨⟨_, p, by rw [hhost]⟩, by rw [hring], by rw [hring], fun _ => .inl (by rw [hring]), hpend, hmem⟩

theorem State.RingFills.trans {n k : Nat} {s t u : State} (h : State.RingFills n s t) (g : State.RingFills k t u) :
    State.RingFills (n + k) s u where
  host := by
    obtain ⟨r, p, hr⟩ := h.host
    obtain ⟨r', p', hr'⟩ := g.host
    exact ⟨r', p', by rw [hr', hr]⟩
  held := g.held.trans h.held
  enabled := g.enabled.trans h.enabled
  written he := by
    obtain hw | ⟨rfl, rfl⟩ := h.written he
    · obtain hk | ⟨rfl, rfl⟩ := g.written (h.enabled.trans he)
      · exact .inl (by rw [hk, hw]; omega)
      · exact .inl hw
    · rw [Nat.zero_add]
      obtain hk | ⟨rfl, rfl⟩ := g.written he
      · exact .inl hk
      · exact .inr ⟨rfl, rfl⟩
  pending v hv := g.pending v (h.pending v hv)
  mem := g.mem.trans h.mem

theorem State.RingFills.keepsOpen {n : Nat} {s t : State} (h : State.RingFills n s t) (v : Nat) :
    t.hostOpen = s.hostOpen ∧ t.vectorOpen v = s.vectorOpen v ∧ t.host.msixTable = s.host.msixTable := by
  obtain ⟨r, p, hr⟩ := h.host
  rw [State.vectorOpen, State.hostOpen, hr]
  exact ⟨rfl, rfl, rfl⟩

/-- R249: the held responses are written one after the other. -/
theorem State.RingFills.foldl (held : List Bytes) {s : State} (ho : s.hostOpen = true) :
    State.RingFills held.length s (held.foldl (fun s pdu => s.sendResponse .H (macRoute 0) pdu) s) := by
  induction held generalizing s with
  | nil => exact ⟨⟨_, _, rfl⟩, rfl, rfl, fun _ => .inr ⟨rfl, rfl⟩, fun _ h => h, rfl⟩
  | cons pdu rest ih =>
    have h1 := State.RingFills.sendResponse ho (macRoute 0) pdu
    rw [List.length_cons, Nat.add_comm]
    exact h1.trans (ih ((h1.keepsOpen 0).1.trans ho))

/-- R233, R249: of the host link the ring and the pending bits change. -/
theorem State.hostReopened_host (s : State) : ∃ r p, s.hostReopened.host = { s.host with ring := r, msixPending := p } := by
  unfold State.hostReopened
  split
  · exact ⟨_, _, rfl⟩
  · rename_i ho
    extract_lets held a
    have hf : State.RingFills held.length a (held.foldl (fun s pdu => s.sendResponse .H (macRoute 0) pdu) a) :=
      State.RingFills.foldl held (show s.hostOpen = true by simpa using ho)
    generalize List.foldl _ a held = b at hf
    obtain ⟨r, p, hr⟩ := hf.host
    obtain ⟨p', hp'⟩ := b.sendPending_pendsOnly
    exact ⟨r, p', by rw [hp', hr]; rfl⟩

/-- R233, R249: what follows when requests to host memory are possible again. -/
theorem State.hostReopened_spec {s : State} (ho : s.hostOpen = true) :
    s.hostReopened.host.ring.heldRsp = [] ∧ s.hostReopened.mem = s.mem ∧
    (s.host.ring.enabled = true → s.hostReopened.host.ring.written =
      (s.host.ring.written + s.host.ring.heldRsp.length) % 2 ^ 32 ∨ s.host.ring.heldRsp = []) ∧
    ∀ v, v < 64 → nth s.host.msixPending v false = true → s.vectorOpen v = true →
      .msix v (nth s.host.msixTable v (0, 0)).1 (nth s.host.msixTable v (0, 0)).2 ∈ s.hostReopened.sent ∧
        nth s.hostReopened.host.msixPending v false = false := by
  unfold State.hostReopened
  rw [if_neg (by rw [ho]; decide)]
  extract_lets held a
  have hf : State.RingFills held.length a (held.foldl (fun s pdu => s.sendResponse .H (macRoute 0) pdu) a) :=
    State.RingFills.foldl held ho
  generalize List.foldl _ a held = b at hf
  obtain ⟨p, hp⟩ := b.sendPending_pendsOnly
  have hmem : b.sendPending.mem = b.mem := (State.Sound.sendPending (State.Sound.refl [.host, .sent] b) rfl).within.mem rfl
  refine ⟨?_, hmem.trans hf.mem, fun he => ?_, fun v hv hpend hopen => ?_⟩
  · rw [hp]
    exact hf.held
  · rw [hp]
    obtain hw | ⟨hn, -⟩ := hf.written he
    · exact .inl hw
    · exact .inr (List.length_eq_zero_iff.1 hn)
  · obtain ⟨-, hvo, htable⟩ := hf.keepsOpen v
    have h := State.sendPending_sends hv (hf.pending v hpend) (hvo.trans hopen)
    rw [htable] at h
    exact h

/-! ## The MSI-X table -/

/-- R230: a write of a DWORD of Window A that is whole and in the MSI-X table. -/
theorem State.windowWrite_msix {s : State} {o value : Nat} (h : o < 0x400) :
    s.windowWrite (0x2000 + o) value 15 = s.writeMsix o value := by
  unfold State.windowWrite
  rw [if_neg (by simp; omega), if_neg (by decide), if_neg (by simp; omega), if_neg (by simp; omega),
    if_neg (by simp; omega), if_pos (by simp; omega), Nat.add_sub_cancel_left]

/-- R230: a write with partial byte enables changes nothing outside the mailboxes. -/
theorem State.windowWrite_partial {s : State} {o value : Nat} {enables : Fin 16} (he : enables.val ≠ 15)
    (ho : o < 0x8000 ∨ 0xA000 ≤ o) : s.windowWrite o value enables = s := by
  unfold State.windowWrite
  rw [if_neg (by simp; omega), if_pos (by simpa using he)]

theorem withWord_mod (x : Nat) (high : Bool) (value : Nat) : withWord x high (value % 2 ^ 32) = withWord x high value := by
  simp only [withWord, Nat.mod_mod]

theorem bitAt_zero_mod (value : Nat) : bitAt (value % 2 ^ 32) 0 = bitAt value 0 := by
  have h : value % 2 ^ 32 / 2 ^ 0 % 2 = value / 2 ^ 0 % 2 := by omega
  simp only [bitAt, h]

/-- R230, R233: a write of a whole DWORD of the MSI-X table. -/
theorem exec_msixWrite {s u : State} {t : Nat} (hu : u = s.advanceCharged t) (hw : u.windowsOpen = true) {k : Nat}
    (hk : k < 0x100) (value : Nat) :
    exec (.msixVectorUnmask t ⟨0x2000 + 4 * k, value, 15⟩) s = .next (u.writeMsix (4 * k) (value % 2 ^ 32)) := by
  show Host.Outcome.next (doMsixVectorUnmask t (0x2000 + 4 * k) value 15 s) = _
  unfold doMsixVectorUnmask
  rw [← hu]
  dsimp only
  rw [if_pos hw, show (0x2000 + 4 * k) / 4 * 4 = 0x2000 + 4 * k by omega, State.windowWrite_msix (by omega)]

/-- R233: the DWORDs of a vector's entry. -/
theorem State.writeMsix_table {s : State} {v value : Nat} (hv : v < s.host.msixTable.length) :
    nth (s.writeMsix (4 * (4 * v)) value).host.msixTable v (0, 0) =
        (withWord (nth s.host.msixTable v (0, 0)).1 false value, (nth s.host.msixTable v (0, 0)).2) ∧
      nth (s.writeMsix (4 * (4 * v + 1)) value).host.msixTable v (0, 0) =
        (withWord (nth s.host.msixTable v (0, 0)).1 true value, (nth s.host.msixTable v (0, 0)).2) ∧
      nth (s.writeMsix (4 * (4 * v + 2)) value).host.msixTable v (0, 0) =
        ((nth s.host.msixTable v (0, 0)).1, value % 2 ^ 32) := by
  unfold State.writeMsix
  simp only [show 4 * (4 * v) / 4 % 4 = 0 by omega, show 4 * (4 * v + 1) / 4 % 4 = 1 by omega,
    show 4 * (4 * v + 2) / 4 % 4 = 2 by omega, show 4 * (4 * v) / 16 = v by omega,
    show 4 * (4 * v + 1) / 16 = v by omega, show 4 * (4 * v + 2) / 16 = v by omega]
  exact ⟨nth_modifyAt_same _ _ hv, nth_modifyAt_same _ _ hv, nth_modifyAt_same _ _ hv⟩

/-- R233: the mask of a vector, and the message that its unmasking sends. -/
theorem State.writeMsix_mask {s : State} {v value : Nat} (hv : v < s.host.msixMasked.length) (h64 : v < 64) :
    nth (s.writeMsix (4 * (4 * v + 3)) value).host.msixMasked v true = bitAt value 0 ∧
      (bitAt value 0 = false → s.hostOpen = true → s.host.msixEnable = true → s.host.msixFunctionMask = false →
        nth s.host.msixPending v false = true →
        .msix v (nth s.host.msixTable v (0, 0)).1 (nth s.host.msixTable v (0, 0)).2 ∈
          (s.writeMsix (4 * (4 * v + 3)) value).sent) := by
  have he : s.writeMsix (4 * (4 * v + 3)) value =
      (s.setHost (fun h => { h with msixMasked := modifyAt h.msixMasked v (fun _ => bitAt value 0) })).sendPending := by
    unfold State.writeMsix
    simp only [show 4 * (4 * v + 3) / 4 % 4 = 3 by omega, show 4 * (4 * v + 3) / 16 = v by omega]
  have hm : nth (modifyAt s.host.msixMasked v (fun _ => bitAt value 0)) v true = bitAt value 0 := nth_modifyAt_same _ _ hv
  obtain ⟨t, ht⟩ : ∃ t, t = s.setHost (fun h => { h with msixMasked := modifyAt h.msixMasked v (fun _ => bitAt value 0) }) :=
    ⟨_, rfl⟩
  have hhost : t.host = { s.host with msixMasked := modifyAt s.host.msixMasked v (fun _ => bitAt value 0) } := by rw [ht]; rfl
  rw [he, ← ht]
  obtain ⟨p, hp⟩ := t.sendPending_pendsOnly
  refine ⟨?_, fun hb ho hen hfm hpend => ?_⟩
  · rw [hp, hhost]
    exact hm
  · have hopen : t.vectorOpen v = (s.hostOpen && s.host.msixEnable && !s.host.msixFunctionMask &&
        !(nth (modifyAt s.host.msixMasked v (fun _ => bitAt value 0)) v true)) := by
      rw [State.vectorOpen, State.hostOpen, hhost]
      rfl
    have hsent := State.sendPending_sends (s := t) h64 (by rw [hhost]; exact hpend) (by rw [hopen, hm, hb, ho, hen, hfm]; rfl)
    rw [hhost] at hsent
    exact hsent.1

/-! ## The commands -/

section
variable {s u : State} {t : Nat}

theorem State.windowsOpen_iff (s : State) : s.windowsOpen = true ↔ s.host.linkUp = true ∧ s.host.functionReady = true ∧
    s.host.mse = true ∧ s.host.d3hot = false ∧ s.host.barA ≠ 0 := by
  simp [State.windowsOpen, and_assoc]

theorem State.hostOpen_iff (s : State) : s.hostOpen = true ↔ s.host.linkUp = true ∧ s.host.functionReady = true ∧
    s.host.bme = true ∧ s.host.d3hot = false := by
  simp [State.hostOpen, and_assoc]

/-- R249: bus-master enable is set where it was clear. -/
theorem exec_busMasterEnableSet (hu : u = s.advance t) (hl : u.host.linkUp = true) (hr : u.host.functionReady = true)
    (hb : u.host.bme = false) :
    exec (.busMasterEnableSet t) s = .next (u.setHost (fun h => { h with bme := true })).hostReopened := by
  show Host.Outcome.next (doBusMasterEnableSet t s) = _
  unfold doBusMasterEnableSet
  rw [← hu]
  dsimp only
  rw [if_neg (by simp [hl, hr, hb])]

/-- R230: a write with partial byte enables that is not to the mailboxes changes nothing. -/
theorem exec_msixPartial (hu : u = s.advanceCharged t) {o value : Nat} {enables : Fin 16} (he : enables.val ≠ 15)
    (ho : o < 0x8000 ∨ 0xA000 ≤ o) : exec (.msixVectorUnmask t ⟨o, value, enables⟩) s = .next u := by
  show Host.Outcome.next (doMsixVectorUnmask t o value enables s) = _
  unfold doMsixVectorUnmask
  rw [← hu]
  dsimp only
  rw [State.windowWrite_partial he (by omega), ite_self]

/-- R228, R377: an access to configuration space. -/
theorem exec_memorySpaceEnable (hu : u = s.advance t) (hl : u.host.linkUp = true) (c : ConfigAccess) :
    exec (.memorySpaceEnable t c) s = .next (if u.host.functionReady then u.configAccess c else u.emit .configRetry) := by
  show Host.Outcome.next (doMemorySpaceEnable t c s) = _
  unfold doMemorySpaceEnable
  rw [← hu]
  dsimp only
  rw [if_neg (by simp [hl])]

theorem exec_pcieFunctionReady (hu : u = s.advance t) (hd : u.dormant = false) :
    exec (.pcieFunctionReady t) s = .next (u.setHost (fun h => { h with functionReady := true })) := by
  show Host.Outcome.next (doPcieFunctionReady t s) = _
  unfold doPcieFunctionReady
  rw [← hu]
  dsimp only
  rw [if_neg (by simp [hd])]

theorem exec_pcieLinkUp (hu : u = s.advance t) (hd : u.dormant = false) (speed width : Nat) :
    exec (.pcieLinkUp t speed width) s = .next ((u.setHost (fun h =>
      { h with linkUp := true, speed := speed, width := width })).setPort .H (fun p => { p with linkUp := true })) := by
  show Host.Outcome.next (doPcieLinkUp t speed width s) = _
  unfold doPcieLinkUp
  rw [← hu]
  dsimp only
  rw [if_neg (by simp [hd])]

theorem exec_pcieLinkDown (hu : u = s.advanceCharged t) (hl : u.host.linkUp = true) :
    exec (.pcieLinkDown t) s = .next u.linkLost := by
  show Host.Outcome.next (doPcieLinkDown t s) = _
  unfold doPcieLinkDown
  rw [← hu]
  dsimp only
  rw [if_pos hl]

end

/-- R233, R249: what the setting of bus-master enable brings about. -/
theorem busMasterEnableSet_effect (s : State) (t : Nat) (hl : s.host.linkUp = true) (hr : s.host.functionReady = true)
    (hb : s.host.bme = false) (hd : s.host.d3hot = false) : ∃ x, exec (.busMasterEnableSet t) s = .next x ∧
      x.host.bme = true ∧ x.host.ring.heldRsp = [] ∧ x.mem = s.mem ∧
      (s.host.ring.enabled = true → x.host.ring.written =
        (s.host.ring.written + s.host.ring.heldRsp.length) % 2 ^ 32 ∨ s.host.ring.heldRsp = []) ∧
      ∀ v, v < 64 → nth s.host.msixPending v false = true → s.host.msixEnable = true →
        s.host.msixFunctionMask = false → nth s.host.msixMasked v true = false →
        .msix v (nth s.host.msixTable v (0, 0)).1 (nth s.host.msixTable v (0, 0)).2 ∈ x.sent ∧
          nth x.host.msixPending v false = false := by
  obtain ⟨u, hu⟩ : ∃ u, u = s.advance t := ⟨_, rfl⟩
  have hhost : u.host = s.host := by simp [hu]
  have hmem : u.mem = s.mem := by simp [hu]
  have he := exec_busMasterEnableSet hu (hhost ▸ hl) (hhost ▸ hr) (hhost ▸ hb)
  obtain ⟨a, ha⟩ : ∃ a, a = u.setHost (fun h => { h with bme := true }) := ⟨_, rfl⟩
  have hah : a.host = { s.host with bme := true } := by
    rw [ha, State.setHost_host, hhost]
  have ham : a.mem = s.mem := by
    rw [ha]
    exact hmem
  rw [← ha] at he
  have ho : a.hostOpen = true := a.hostOpen_iff.2 (by rw [hah]; exact ⟨hl, hr, rfl, hd⟩)
  obtain ⟨r, p, hx⟩ := a.hostReopened_host
  obtain ⟨hheld, hm, hw, hv⟩ := State.hostReopened_spec ho
  refine ⟨_, he, by rw [hx, hah], hheld, hm.trans ham, fun hen => ?_, fun v h64 hp hen hfm hmask => ?_⟩
  · rw [hah] at hw
    exact hw hen
  · have hopen : a.vectorOpen v = true := by
      rw [State.vectorOpen, ho, hah]
      simp [hen, hfm, hmask]
    rw [hah] at hv
    exact hv v h64 hp hopen

/-- R230, R233: what a write of the MSI-X table brings about. -/
theorem msixVectorUnmask_effect (s : State) (t : Nat) (v : Fin 64) (value : Nat) (hw : s.windowsOpen = true)
    (hm : s.host.msixMasked.length = 64) (ht : s.host.msixTable.length = 64) :
    (∃ x, exec (.msixVectorUnmask t ⟨0x2000 + 16 * v.val + 12, value, 15⟩) s = .next x ∧
      nth x.host.msixMasked v.val true = bitAt value 0 ∧
      (bitAt value 0 = false → s.host.bme = true → s.host.msixEnable = true → s.host.msixFunctionMask = false →
        nth (s.advanceCharged t).host.msixPending v.val false = true →
        .msix v.val (nth s.host.msixTable v.val (0, 0)).1 (nth s.host.msixTable v.val (0, 0)).2 ∈ x.sent)) ∧
    (∃ x, exec (.msixVectorUnmask t ⟨0x2000 + 16 * v.val, value, 15⟩) s = .next x ∧
      nth x.host.msixTable v.val (0, 0) =
        (withWord (nth s.host.msixTable v.val (0, 0)).1 false value, (nth s.host.msixTable v.val (0, 0)).2)) ∧
    (∃ x, exec (.msixVectorUnmask t ⟨0x2000 + 16 * v.val + 4, value, 15⟩) s = .next x ∧
      nth x.host.msixTable v.val (0, 0) =
        (withWord (nth s.host.msixTable v.val (0, 0)).1 true value, (nth s.host.msixTable v.val (0, 0)).2)) ∧
    (∃ x, exec (.msixVectorUnmask t ⟨0x2000 + 16 * v.val + 8, value, 15⟩) s = .next x ∧
      nth x.host.msixTable v.val (0, 0) = ((nth s.host.msixTable v.val (0, 0)).1, value % 2 ^ 32)) := by
  obtain ⟨u, hu⟩ : ∃ u, u = s.advanceCharged t := ⟨_, rfl⟩
  have hhost : u.host = s.host := by rw [hu]; exact State.advanceCharged_within.host rfl
  rw [← hu]
  obtain ⟨hlink, hready, -, hd3, -⟩ := s.windowsOpen_iff.1 hw
  have hwu : u.windowsOpen = true := by rw [State.windowsOpen, hhost]; exact hw
  have hexec : ∀ k, k < 4 → exec (.msixVectorUnmask t ⟨0x2000 + 16 * v.val + 4 * k, value, 15⟩) s =
      .next (u.writeMsix (4 * (4 * v.val + k)) (value % 2 ^ 32)) := fun k hk => by
    rw [← exec_msixWrite hu hwu (k := 4 * v.val + k) (by omega), show 0x2000 + 16 * v.val + 4 * k = 0x2000 + 4 * (4 * v.val + k) by omega]
  obtain ⟨h0, h1, h2⟩ := State.writeMsix_table (s := u) (v := v.val) (value := value % 2 ^ 32) (by rw [hhost, ht]; exact v.isLt)
  obtain ⟨hmask, hsent⟩ := State.writeMsix_mask (s := u) (v := v.val) (value := value % 2 ^ 32)
    (by rw [hhost, hm]; exact v.isLt) v.isLt
  rw [hhost, withWord_mod] at h0 h1
  rw [hhost, Nat.mod_mod] at h2
  rw [bitAt_zero_mod] at hmask hsent
  refine ⟨⟨_, hexec 3 (by omega), hmask, fun hb hbme hen hfm hp => ?_⟩, ⟨_, hexec 0 (by omega), h0⟩,
    ⟨_, hexec 1 (by omega), h1⟩, ⟨_, hexec 2 (by omega), h2⟩⟩
  have h := hsent hb (u.hostOpen_iff.2 (by rw [hhost]; exact ⟨hlink, hready, hbme, hd3⟩)) (by rw [hhost]; exact hen)
    (by rw [hhost]; exact hfm) hp
  rw [hhost] at h
  exact h

/-- What an access of host software makes of the host link, sending nothing. -/
def State.accessed (s : State) (t : Nat) (c : ConfigAccess) (h : HostLink) : Prop :=
  ∃ x, exec (.memorySpaceEnable t c) s = .next x ∧ x.host = h ∧ x.sent = s.sent

/-- R228, R246, R251: what host software's accesses to configuration space bring about. -/
theorem memorySpaceEnable_effect (s : State) (t : Nat) (hl : s.host.linkUp = true) (hr : s.host.functionReady = true) :
    (∀ on, s.accessed t (.memorySpace on) { s.host with mse := on }) ∧
    (∀ high v, s.accessed t (.bar false high v) { s.host with barA := withWord s.host.barA high v / 0x10000 * 0x10000 } ∧
      s.accessed t (.bar true high v) { s.host with barB := withWord s.host.barB high v / 0x100000 * 0x100000 }) ∧
    (∀ p r, s.accessed t (.deviceControl p r) { s.host with maxPayload := p, maxRead := r }) ∧
    s.accessed t (.powerState true) { s.host with d3hot := true } ∧
    (∃ x, exec (.memorySpaceEnable t (.powerState false)) s = .next x ∧ x.host.d3hot = false) ∧
    (∀ on mask, ∃ x, exec (.memorySpaceEnable t (.msixControl on mask)) s = .next x ∧ x.host.msixEnable = on ∧
      x.host.msixFunctionMask = mask) ∧
    ∀ f, exec (.memorySpaceEnable t (.read f)) s =
      .next ((s.advance t).emit (.configRead ((s.advance t).configValue f))) := by
  obtain ⟨u, hu⟩ : ∃ u, u = s.advance t := ⟨_, rfl⟩
  have hhost : u.host = s.host := by simp [hu]
  have hsent : u.sent = s.sent := by simp [hu]
  have he : ∀ c, exec (.memorySpaceEnable t c) s = .next (u.configAccess c) := fun c => by
    rw [exec_memorySpaceEnable hu (hhost ▸ hl), if_pos (hhost ▸ hr)]
  have hset : ∀ c f, u.configAccess c = u.setHost f → s.accessed t c (f s.host) := fun c f hc =>
    ⟨_, (he c).trans (congrArg Host.Outcome.next hc), congrArg f hhost, hsent⟩
  rw [← hu]
  refine ⟨fun on => hset _ (fun h => { h with mse := on }) rfl,
    fun high v => ⟨hset _ (fun h => { h with barA := withWord h.barA high v / 0x10000 * 0x10000 }) rfl,
      hset _ (fun h => { h with barB := withWord h.barB high v / 0x100000 * 0x100000 }) rfl⟩,
    fun p r => hset _ (fun h => { h with maxPayload := p, maxRead := r }) rfl,
    hset _ (fun h => { h with d3hot := true }) ?_, ?_, fun on mask => ?_, fun f => he _⟩
  · show (u.setHost (fun h => { h with d3hot := true })).hostReopened = _
    rw [State.hostReopened, if_pos (by simp [State.hostOpen])]
  · obtain ⟨r, p, hx⟩ := (u.setHost (fun h => { h with d3hot := false })).hostReopened_host
    exact ⟨_, he _, congrArg HostLink.d3hot hx⟩
  · obtain ⟨a, ha⟩ : ∃ a, a = u.setHost (fun h => { h with msixEnable := on, msixFunctionMask := mask }) := ⟨_, rfl⟩
    have hc : u.configAccess (.msixControl on mask) = a.sendPending := by rw [ha]; rfl
    have hah : a.host.msixEnable = on ∧ a.host.msixFunctionMask = mask := by rw [ha]; exact ⟨rfl, rfl⟩
    obtain ⟨p, hx⟩ := a.sendPending_pendsOnly
    refine ⟨_, (he _).trans (congrArg Host.Outcome.next hc), ?_⟩
    rw [hx]
    exact hah

/-- Settles O39: every part by the step that it speaks of. The items that the loss of bus-master enable or a function-level
reset ends are ended one by one, and no later ending, halt or abandoned read takes an ending back. -/
theorem hostLossIsContained : Obligations.HostLossIsContained := by
  unfold Obligations.HostLossIsContained
  refine ⟨fun s t hi => ⟨?_, ?_, fun v value => ?_⟩, fun s t hi hd => ⟨?_, ?_, fun speed width => ?_, fun hl => ?_,
    fun hl => ⟨fun hr c => ?_, fun hr => ?_⟩⟩⟩
  · intro u hb
    have hu : u.Inv := State.advanceCharged_inv hi
    have hhost : u.host = s.host := State.advanceCharged_within.host rfl
    have he : exec (.lossOfBusMasterEnable t) s = .next u.bmeLost := rfl
    clear_value u
    obtain ⟨y, hy, hbme, hends, hhalt, heng, hreads, hcells⟩ := State.bmeLost_spec hu (hhost ▸ hb)
    refine ⟨y, he.trans (congrArg Host.Outcome.next hy), hbme, hends, hhalt, fun e hlt => ?_, hreads, hcells⟩
    rw [heng e hlt]
    refine ⟨rfl, rfl, ?_⟩
    simp [State.meshReads, Function.comp_def]
  · exact busMasterEnableSet_effect s t
  · dsimp only
    intro hw hm ht
    obtain ⟨hmask, hlow, hhigh, hdata⟩ := msixVectorUnmask_effect s t v value hw hm ht
    exact ⟨hmask, hlow, hhigh, hdata, fun o enables he ho => exec_msixPartial rfl he ho⟩
  · intro u
    have hu : u.Inv := State.advanceCharged_inv hi
    have hw : State.Within _ s u := State.advanceCharged_within
    have hown : u.own = s.own := hw.own rfl
    have hdo : u.dormant = false := by rw [State.dormant, hw.power rfl]; exact hd
    have hdef : s.advanceCharged t = u := rfl
    clear_value u
    obtain ⟨y, hy, ⟨hbme, hmse, hready, hring⟩, hcells, hqueues, howner, hother⟩ := doFunctionLevelReset_spec hdef hu hdo
    rw [hown] at howner hother
    exact ⟨y, congrArg Host.Outcome.next hy, hbme, hmse, hready, hring, hcells, hqueues, howner, hother⟩
  · have hhost : (s.advance t).host = s.host := by simp
    have hdo : (s.advance t).dormant = false := by simpa [State.dormant] using hd
    exact ⟨_, exec_pcieFunctionReady rfl hdo, by rw [State.setHost_host, hhost]⟩
  · have hhost : (s.advance t).host = s.host := by simp
    have hdo : (s.advance t).dormant = false := by simpa [State.dormant] using hd
    exact ⟨_, exec_pcieLinkUp rfl hdo speed width,
      congrArg (fun h => { h with linkUp := true, speed := speed, width := width }) hhost⟩
  · have hw : State.Within _ s (s.advanceCharged t) := State.advanceCharged_within
    obtain ⟨hlink, hbme, hmse, howner, hother⟩ := (s.advanceCharged t).linkLost_spec
    rw [hw.own rfl] at howner hother
    exact ⟨_, exec_pcieLinkDown rfl (by rw [hw.host rfl]; exact hl), hlink, hbme, hmse, howner, hother⟩
  · have hhost : (s.advance t).host = s.host := by simp
    rw [exec_memorySpaceEnable rfl (by rw [hhost]; exact hl), hhost, hr]
    rfl
  · exact memorySpaceEnable_effect s t hl hr

end Sys2Proof.Machine

/-! PROOFS of the statements about the step and its storage: the invariant (O4), the parts that a command touches (O6), the
command at the front of the queue (O1), and values that read back (O8). -/

namespace Sys2Proof.Machine

/-! ## What every command keeps -/

/-- What `State.Sound` says of a command, whatever it does to device time. -/
theorem exec_sound {i : Instr} {s t : State} (h : exec i s = .next t) : State.Sound (touched i) s 0 t :=
  State.Sound.of_exec ((State.Sound.refl (touched i) s).mono (Nat.zero_le _)) (Field.sub_refl _) (fun _ => rfl) t h

theorem State.idleCycle_inv {s : State} (h : s.Inv) : s.idleCycle.Inv :=
  (State.Sound.idleCycle (State.Sound.refl [.clock] s) rfl).good h

/-- Settles O4, by the two cases of a step; the queue of commands is no part of the invariant. -/
theorem everyStepKeepsInvariant : Obligations.EveryStepKeepsInvariant := by
  unfold Obligations.EveryStepKeepsInvariant
  intro s t hs h
  cases hp : s.pending with
  | nil =>
    rw [step_of_idle hp] at h
    exact Host.Outcome.next.inj h ▸ State.idleCycle_inv hs
  | cons c rest =>
    rw [step_of_command hp] at h
    exact (exec_sound h).good hs

/-- Settles O6: it is the part of `exec_sound` that speaks of the parts of a state. -/
theorem commandTouchesOnlyItsParts : Obligations.CommandTouchesOnlyItsParts := by
  unfold Obligations.CommandTouchesOnlyItsParts
  exact fun i s t h => (exec_sound h).within

/-- Settles O1: the queue's rest is what is left when its front has been taken. -/
theorem stepRunsFrontCommand : Obligations.StepRunsFrontCommand := by
  unfold Obligations.StepRunsFrontCommand
  exact fun s c rest h => step_of_command h

/-! ## Device memory and the register file -/

theorem Memory.read_write_same {m : Memory} (a : Nat) (bs : Bytes) (h : Memory.wf m = true) :
    (m.write a bs).read a bs.length = bs := by
  refine List.ext_getElem (by simp [Memory.read]) fun i hi hb => ?_
  simpa [Memory.read] using Memory.byte_write_same h hb

/-- Settles O8: memory byte by byte, the register file address by address. -/
theorem storageReadsBack : Obligations.StorageReadsBack := by
  unfold Obligations.StorageReadsBack
  refine ⟨fun s a bs h => ⟨?_, fun x hx => ?_, ?_⟩, fun s a b v h => ⟨?_, fun hn => ?_, ?_⟩⟩
  · exact Memory.read_write_same a bs h
  · exact Memory.byte_write_other h hx
  · exact Memory.wf_write a bs h
  · exact State.valAt_setVal_same a v h
  · exact State.valAt_setVal_other v h hn
  · exact Dict.wf_set a v h

end Sys2Proof.Machine

/-! PROOFS of the statement about the keys of STORE, RESTORE and RESTORE_FACTORY (O20). -/

namespace Sys2Proof.Machine

/-! ## Objects that take one value (R68) -/

/-- The objects of R68, each with its key. -/
def storageKeys : List (Nat × Nat) :=
  [(Adr.store, 0x65766173), (Adr.restore, 0x64616F6C), (Adr.restoreFactory, 0x746C6664)]

/-- R68: the rows of the three objects hold their keys, and no value of theirs has a layout. -/
theorem storageKeys_rows : ∀ e ∈ storageKeys,
    (objAt e.1).map (fun o => (o.1.ty, o.1.check)) = some (.u32, .oneOf [e.2]) ∧ layoutReserved e.1 [] = false := by
  decide +kernel

theorem storageKeys_row {a key : Nat} (h : (a, key) ∈ storageKeys) :
    ∃ o i, objAt a = some (o, i) ∧ o.ty = .u32 ∧ o.check = .oneOf [key] ∧ layoutReserved a [] = false := by
  obtain ⟨hm, hl⟩ := storageKeys_rows _ h
  obtain ⟨⟨o, i⟩, ho, he⟩ := Option.map_eq_some_iff.1 hm
  obtain ⟨ht, hc⟩ := Prod.ext_iff.1 he
  exact ⟨o, i, ho, ht, hc, hl⟩

/-- R46: a WRITE carries a number. -/
theorem writeValue_num (a : Nat) (payload : Bytes) : writeValue a payload = .num (writeValue a payload).toNat := by
  unfold writeValue decodeFixed
  split <;> rfl

section
variable {a key x : Nat}

/-- R59: the check of the value alone tells every other value from the key. -/
theorem valueCode_of_wrong_key (h : (a, key) ∈ storageKeys) (hx : x ≠ key) (part : Part) (look : Look) :
    valueCode part look a (.num x) = some 0x0401 := by
  obtain ⟨o, i, ho, -, hc, hl⟩ := storageKeys_row h
  have hk : checkAlone o.ty o.check (.num x) = some 0x0401 := by simp [hc, checkAlone, hx]
  simp [valueCode, ho, Val.toBytes, hl, hk]

theorem blockOnly_of_key (h : (a, key) ∈ storageKeys) : blockOnly a = false := by
  obtain ⟨o, i, ho, ht, -, -⟩ := storageKeys_row h
  simp [blockOnly, ho, ht, Ty.fixed, Ty.size]

theorem tooShort_of_key (h : (a, key) ∈ storageKeys) {payload : Bytes} (hp : 4 ≤ payload.length) :
    tooShort a payload = false := by
  obtain ⟨o, i, ho, ht, -, -⟩ := storageKeys_row h
  simp [tooShort, ho, ht, Ty.size, hp]

/-- R64: what passes every check carries the key. -/
theorem State.key_of_grants {s : State} {r : Req} (h : (a, key) ∈ storageKeys) (hg : s.grants r a) :
    (writeValue a r.payload).toNat = key := by
  obtain ⟨-, -, -, -, href⟩ := hg
  have hv : (s.heard r.t r.port r.sender).valueCheck a (writeValue a r.payload) = none :=
    firstCode_eq_none href (by simp)
  have hc : valueCode _ _ a (writeValue a r.payload) = none := firstCode_eq_none hv (List.mem_cons_self ..)
  by_contra hx
  rw [writeValue_num, valueCode_of_wrong_key h hx] at hc
  exact Option.some_ne_none _ hc

/-- R64: the value is the last thing looked at, and without the key the refusal is its code. -/
theorem State.refuses_of_wrong_key {s : State} {p : Port} (h : (a, key) ∈ storageKeys) (hx : x ≠ key)
    (ho : s.ownerCheck p = none) (he : s.existCheck a = none) (hw : s.writeCheck a = none) (hs : s.stateCheck a x = none) :
    s.refuses p a (.num x) = some 0x0401 := by
  have hv : s.valueCheck a (.num x) = some 0x0401 := by
    rw [State.valueCheck, valueCode_of_wrong_key h hx, firstCode_cons, Option.some_or]
  simp [State.refuses, firstCode_cons, ho, he, hw, hs, hv, Val.toNat]

end

/-- Settles O20: the three rows are WRITEs of the three objects. -/
theorem storeCommandsNeedTheirKey : Obligations.StoreCommandsNeedTheirKey := by
  unfold Obligations.StoreCommandsNeedTheirKey
  intro s r a key c hrow h v
  have hkey : (a, key) ∈ storageKeys := by
    rcases hrow with ⟨rfl, rfl, -⟩ | ⟨rfl, rfl, -⟩ | ⟨rfl, rfl, -⟩ <;> decide
  have hexec : exec (c r) s = .next (s.writeRow r a) := by
    rcases hrow with ⟨rfl, -, rfl⟩ | ⟨rfl, -, rfl⟩ | ⟨rfl, -, rfl⟩ <;> rfl
  refine ⟨State.key_of_grants hkey, fun hh hf hl ho he hw hs hv => ?_⟩
  have href : h.refuses r.port a (writeValue a r.payload) = some 0x0401 := by
    rw [writeValue_num]
    exact State.refuses_of_wrong_key hkey hv ho he hw hs
  have hchecks : firstCode [flagCheck r.flags, refuseIf (blockOnly a || tooShort a r.payload) 0x0602,
      h.refuses r.port a (writeValue a r.payload)] = some 0x0401 := by
    rw [hf, blockOnly_of_key hkey, tooShort_of_key hkey hl, href]
    rfl
  exact hexec.trans (congrArg _ (State.writeRow_refused hh hchecks))

end Sys2Proof.Machine

/-! PROOFS of the statement about STORE, RESTORE and RESTORE_FACTORY, and about what a load makes of the settings (O19). -/

namespace Sys2Proof.Machine

/-! ## A register file looked up after a filter or a write -/

/-- A filter by address keeps the values of the addresses that pass it. -/
theorem Dict.find_filter {d : Dict} (q : Nat → Bool) (h : d.Pairwise (fun a b => a.1 < b.1)) (x : Nat) :
    Dict.find (d.filter (fun e => q e.1)) x = if q x then d.find x else none := by
  induction d with
  | nil => simp [Dict.find]
  | cons e d ih =>
    obtain ⟨hlt, hd⟩ := List.pairwise_cons.1 h
    have hbelow : x ≤ e.1 → Dict.find d x = none := fun hx => Dict.find_below fun f hf => lt_of_le_of_lt hx (hlt f hf)
    have ih := ih hd
    rw [List.filter_cons, Dict.find]
    split
    · rename_i hq
      rw [Dict.find, ih]
      by_cases hx : x = e.1
      · simp [hx, hq]
      · split <;> simp [hx]
    · rename_i hq
      rw [ih]
      obtain hx | hx | hx := lt_trichotomy x e.1
      · simp [hx, hbelow hx.le]
      · simp [hx, hq]
      · simp [hx.not_gt, hx.ne']

theorem Dict.mem_of_find {d : Dict} {x : Nat} {w : Val} (h : d.find x = some w) : (x, w) ∈ d := by
  induction d with
  | nil => simp [Dict.find] at h
  | cons e d ih =>
    rw [Dict.find] at h
    split at h
    · exact absurd h (by simp)
    · split at h
      · rename_i hx
        obtain rfl := Option.some.inj h
        rw [beq_iff_eq] at hx
        exact List.mem_cons.2 (.inl (by rw [hx]))
      · exact List.mem_cons_of_mem _ (ih h)

/-- Storing what another canonical register file reads at an address makes the two agree there. -/
theorem Dict.find_set_read {v : Variant} {d e : Dict} (x : Nat) (hd : Dict.wf v d = true) (he : Dict.wf v e = true) :
    (d.set v x ((e.find x).getD (defaultAt v x))).find x = e.find x := by
  unfold Dict.set
  cases hx : e.find x with
  | none =>
    rw [Option.getD_none, if_pos (beq_self_eq_true _)]
    exact Dict.find_erase_same x ((Dict.wf_iff v d).1 hd).1
  | some w =>
    have hw : w ≠ defaultAt v x := ((Dict.wf_iff v e).1 he).2 _ (Dict.mem_of_find hx)
    rw [Option.getD_some, if_neg (by simpa using hw)]
    exact Dict.find_insert_same d x w

/-! ## Loads (R65 to R67, R388) -/

section
variable {part : Part} {i : Image} {l : Loaded} {a b : Nat} {xs : List Nat}

/-- R67: an object is marked as defaulted, or it is given its stored value. -/
theorem loadOne_cases (part : Part) (i : Image) (l : Loaded) (a : Nat) :
    loadOne part i l a = { l with defaulted := l.defaulted ++ [a] } ∨
      loadOne part i l a = { l with
        dict := l.dict.set part.variant a ((i.vals.find a).getD (defaultAt part.variant a)) } := by
  unfold loadOne
  extract_lets look value
  split
  · exact .inl rfl
  · split
    · exact .inr rfl
    · exact .inl rfl

theorem loadOne_wf (h : Dict.wf part.variant l.dict = true) : Dict.wf part.variant (loadOne part i l a).dict = true := by
  obtain e | e := loadOne_cases part i l a <;> rw [e]
  · exact h
  · exact Dict.wf_set _ _ h

theorem loadOne_other (h : Dict.wf part.variant l.dict = true) (hn : b ≠ a) :
    (loadOne part i l a).dict.find b = l.dict.find b := by
  obtain e | e := loadOne_cases part i l a <;> rw [e]
  exact Dict.find_set_other _ h hn

theorem loadOne_same (h : Dict.wf part.variant l.dict = true) (hi : Dict.wf part.variant i.vals = true)
    (hd : (loadOne part i l a).defaulted = []) : (loadOne part i l a).dict.find a = i.vals.find a := by
  obtain e | e := loadOne_cases part i l a <;> rw [e] at hd ⊢
  · simp at hd
  · exact Dict.find_set_read a h hi

theorem mem_loadOne_defaulted (h : b ∈ (loadOne part i l a).defaulted) : b ∈ l.defaulted ∨ b = a := by
  obtain e | e := loadOne_cases part i l a <;> rw [e] at h
  · simpa using h
  · exact .inl h

theorem loadOne_defaulted_nil (h : (loadOne part i l a).defaulted = []) : l.defaulted = [] := by
  obtain e | e := loadOne_cases part i l a <;> rw [e] at h
  · simp at h
  · exact h

theorem loadAll_defaulted_nil (h : (xs.foldl (loadOne part i) l).defaulted = []) : l.defaulted = [] := by
  induction xs generalizing l with
  | nil => exact h
  | cons x xs ih => exact loadOne_defaulted_nil (ih h)

theorem mem_loadAll_defaulted (h : b ∈ (xs.foldl (loadOne part i) l).defaulted) : b ∈ l.defaulted ∨ b ∈ xs := by
  induction xs generalizing l with
  | nil => exact .inl h
  | cons x xs ih =>
    obtain hb | hb := ih h
    · exact (mem_loadOne_defaulted hb).imp_right fun (e : b = x) => e ▸ List.mem_cons_self
    · exact .inr (List.mem_cons_of_mem _ hb)

/-- Addresses that are not loaded keep what they list. -/
theorem loadAll_other (h : Dict.wf part.variant l.dict = true) (hb : b ∉ xs) :
    (xs.foldl (loadOne part i) l).dict.find b = l.dict.find b := by
  induction xs generalizing l with
  | nil => rfl
  | cons x xs ih =>
    rw [List.foldl_cons, ih (loadOne_wf h) (fun hm => hb (List.mem_cons_of_mem _ hm))]
    exact loadOne_other h (fun e => hb (e ▸ List.mem_cons_self))

/-- Where nothing is defaulted, every address that is loaded reads what the image holds: the last load of the address
wrote it. -/
theorem loadAll_same (h : Dict.wf part.variant l.dict = true) (hi : Dict.wf part.variant i.vals = true)
    (hd : (xs.foldl (loadOne part i) l).defaulted = []) (hb : b ∈ xs) :
    (xs.foldl (loadOne part i) l).dict.find b = i.vals.find b := by
  induction xs generalizing l with
  | nil => exact absurd hb List.not_mem_nil
  | cons x xs ih =>
    by_cases hm : b ∈ xs
    · exact ih (loadOne_wf h) hd hm
    · obtain rfl : b = x := (List.mem_cons.1 hb).resolve_right hm
      rw [List.foldl_cons, loadAll_other (loadOne_wf h) hm]
      exact loadOne_same h hi (loadAll_defaulted_nil hd)

end

/-- R65: what a load leaves before it reads the image: nothing of the objects that it replaces. -/
def keptOnLoad (d : Dict) : Dict := d.filter (fun e => !(loadedAt e.1))

theorem loadImage_some (p : Part) (d : Dict) (i : Image) :
    loadImage p d (some i) = (nvmAddresses p.variant).foldl (loadOne p i) { dict := keptOnLoad d, defaulted := [] } := rfl

theorem keptOnLoad_wf {v : Variant} {d : Dict} (h : Dict.wf v d = true) : Dict.wf v (keptOnLoad d) = true :=
  Dict.wf_filter _ h

theorem find_keptOnLoad {v : Variant} {d : Dict} (h : Dict.wf v d = true) (a : Nat) :
    (keptOnLoad d).find a = if loadedAt a then none else d.find a := by
  rw [keptOnLoad, Dict.find_filter (fun a => !(loadedAt a)) ((Dict.wf_iff v d).1 h).1]
  cases loadedAt a <;> rfl

/-- R65 to R67: what a load of the addresses `xs` makes. -/
theorem loadAll_spec {p : Part} {d : Dict} {i : Image} {l : Loaded} {xs : List Nat}
    (hl : l = xs.foldl (loadOne p i) { dict := keptOnLoad d, defaulted := [] }) (hd : Dict.wf p.variant d = true)
    (hi : Dict.wf p.variant i.vals = true) :
    (l.defaulted = [] → ∀ a, a ∈ xs → l.dict.find a = i.vals.find a) ∧ (∀ a, a ∈ l.defaulted → a ∈ xs) ∧
      ∀ a, ¬ a ∈ xs → l.dict.find a = (if loadedAt a then none else d.find a) := by
  subst hl
  have hkept := keptOnLoad_wf hd
  refine ⟨fun hn a ha => loadAll_same hkept hi hn ha, fun a ha => ?_, fun a ha => ?_⟩
  · exact (mem_loadAll_defaulted ha).resolve_left List.not_mem_nil
  · exact (loadAll_other hkept ha).trans (find_keptOnLoad hd a)

/-! ## The three rows as WRITEs (R68 to R70) -/

theorem kindAt_storage : ∀ a ∈ [Adr.store, Adr.restore, Adr.restoreFactory], kindAt a = .plain := by decide +kernel

theorem State.perform_store (s : State) (p : Port) (v : Val) : s.perform p Adr.store v = (none, s.startStore) := by
  unfold State.perform
  rw [kindAt_storage _ (by decide)]
  rfl

theorem State.perform_restore (s : State) (p : Port) (v : Val) : s.perform p Adr.restore v = (none, s.restoreImage) := by
  unfold State.perform
  rw [kindAt_storage _ (by decide)]
  rfl

theorem State.perform_restoreFactory (s : State) (p : Port) (v : Val) :
    s.perform p Adr.restoreFactory v = (none, s.restoreDefaults) := by
  unfold State.perform
  rw [kindAt_storage _ (by decide)]
  rfl

section
variable {s : State} {r : Req}

theorem exec_store (h : s.grants r Adr.store) : exec (.store r) s = .next ((s.heard r.t r.port r.sender).startStore.answered
    r.port ((s.heard r.t r.port r.sender).routeOf r.port r.sender) 2 r.seq Adr.store 0 []) := by
  show Host.Outcome.next (s.writeRow r Adr.store) = _
  rw [State.writeRow_granted h rfl (by decide) (by decide) (by rw [State.perform_store]), State.perform_store]

theorem exec_restore (h : s.grants r Adr.restore) :
    exec (.restore r) s = .next ((s.heard r.t r.port r.sender).restoreImage.answered r.port
      ((s.heard r.t r.port r.sender).routeOf r.port r.sender) 2 r.seq Adr.restore 0 []) := by
  show Host.Outcome.next (s.writeRow r Adr.restore) = _
  rw [State.writeRow_granted h rfl (by decide) (by decide) (by rw [State.perform_restore]), State.perform_restore]

theorem exec_restoreFactory (h : s.grants r Adr.restoreFactory) :
    exec (.restoreFactory r) s = .next ((s.heard r.t r.port r.sender).restoreDefaults.answered r.port
      ((s.heard r.t r.port r.sender).routeOf r.port r.sender) 2 r.seq Adr.restoreFactory 0 []) := by
  show Host.Outcome.next (s.writeRow r Adr.restoreFactory) = _
  rw [State.writeRow_granted h rfl (by decide) (by decide) (by rw [State.perform_restoreFactory]),
    State.perform_restoreFactory]

end

theorem State.answered_within {s : State} {p : Port} {r : Route} {service seq a flags : Nat} {payload : Bytes} :
    State.Within [.own, .ports, .host, .sent] s (s.answered p r service seq a flags payload) :=
  (State.Sound.respond (State.Sound.touchLease (State.Sound.refl _ s) rfl) rfl).within

/-! ## STORE and its end (R66, R69) -/

/-- R66: the bank that a STORE writes, and the bank that it leaves. -/
theorem Nvm.write_banks (n : Nvm) (i : Option Image) : (n.write i).currentIsB = n.currentIsB ∧
    if n.currentIsB then (n.write i).bankA = i ∧ (n.write i).bankB = n.bankB
      else (n.write i).bankB = i ∧ (n.write i).bankA = n.bankA := by
  unfold Nvm.write
  split <;> simp [*]

section
variable {s : State}

theorem State.nvmState_setNvmState {k : Nat} (h : Dict.wf s.part.variant s.dict = true) (hk : k < 4) :
    (s.setNvmState k).nvmState = k := by
  rw [State.nvmState, State.setNvmState, State.numAt_setNum_same _ _ h]
  omega

theorem State.startStore_nvm (s : State) : s.startStore.nvm = { s.nvm.write none with storing := some s.snapImage } := rfl

theorem State.startStore_nvmState (h : Dict.wf s.part.variant s.dict = true) : s.startStore.nvmState = 1 :=
  State.nvmState_setNvmState (s := { s with nvm := _ }) h (by decide)

/-- R80: a U32 counter below its maximum. -/
theorem State.numAt_bumpWord_below {a : Nat} (h : Dict.wf s.part.variant s.dict = true) (hm : s.numAt a + 1 < 2 ^ 32) :
    (s.bumpWord a).numAt a = s.numAt a + 1 := by
  unfold State.bumpWord
  extract_lets x
  rw [if_pos hm, State.numAt_setNum_same _ _ h]

theorem State.numAt_bumpWord_wraps {a : Nat} (h : Dict.wf s.part.variant s.dict = true) (hw : a ≠ wrapFlagOf a)
    (hm : 2 ^ 32 ≤ s.numAt a + 1) : (s.bumpWord a).numAt a = 0 ∧ (s.bumpWord a).numAt (wrapFlagOf a) = 1 := by
  unfold State.bumpWord
  extract_lets x
  rw [if_neg (by omega), State.numAt_setNum_other _ (State.setNum_wf _ _ h) hw, State.numAt_setNum_same _ _ h,
    State.numAt_setNum_same _ _ (State.setNum_wf _ _ h)]
  exact ⟨rfl, rfl⟩

theorem State.numAt_bumpWord_other {a b : Nat} (h : Dict.wf s.part.variant s.dict = true) (hn : b ≠ a)
    (hw : b ≠ wrapFlagOf a) : (s.bumpWord a).numAt b = s.numAt b := by
  unfold State.bumpWord
  extract_lets x
  split
  · exact State.numAt_setNum_other _ h hn
  · rw [State.numAt_setNum_other _ (State.setNum_wf _ _ h) hw, State.numAt_setNum_other _ h hn]

theorem State.bumpWord_nvm (s : State) (a : Nat) : (s.bumpWord a).nvm = s.nvm := by
  unfold State.bumpWord
  extract_lets x
  split <;> rfl

/-- R66: the bank written by a STORE holds its image and becomes the current one. -/
def State.bankStored (s : State) (i : Image) : State :=
  { s with nvm := { s.nvm.write (some i) with storing := none, currentIsB := !s.nvm.currentIsB } }

/-- R69: what a STORE that ends verified leaves. -/
def State.stored (s : State) (i : Image) : State :=
  ((s.bankStored i).setNum Adr.nvmStatus 2).bumpWord Adr.storeCount

/-- R69: what a STORE that fails leaves. -/
def State.storeFailed (s : State) : State := { s with nvm := { s.nvm with storing := none } }.setNvmState 3

theorem exec_storeComplete {u : State} {t : Nat} {i : Image} (hu : u = s.advance t) (hs : u.nvm.storing = some i)
    (hd : u.dormant = false) (verified : Bool) :
    exec (.storeComplete t verified) s = .next (if verified then u.stored i else u.storeFailed) := by
  show Host.Outcome.next (doStoreComplete t verified s) = _
  simp only [doStoreComplete, ← hu, hs, hd, Bool.false_eq_true, if_false, State.stored, State.bankStored,
    State.storeFailed, (u.nvm.write_banks (some i)).1]

theorem State.stored_nvm (s : State) (i : Image) : (s.stored i).nvm = (s.bankStored i).nvm := State.bumpWord_nvm _ _

theorem State.stored_nvmState (i : Image) (h : Dict.wf s.part.variant s.dict = true) : (s.stored i).nvmState = 2 := by
  have hwf : Dict.wf (s.bankStored i).part.variant (s.bankStored i).dict = true := h
  rw [State.nvmState, State.stored, State.numAt_bumpWord_other (State.setNum_wf _ _ hwf) (by decide) (by decide),
    State.numAt_setNum_same _ _ hwf]

theorem State.stored_count (i : Image) (h : Dict.wf s.part.variant s.dict = true) :
    (s.numAt Adr.storeCount + 1 < 2 ^ 32 → (s.stored i).numAt Adr.storeCount = s.numAt Adr.storeCount + 1) ∧
      (2 ^ 32 ≤ s.numAt Adr.storeCount + 1 →
        (s.stored i).numAt Adr.storeCount = 0 ∧ (s.stored i).numAt (wrapFlagOf Adr.storeCount) = 1) := by
  have hwf : Dict.wf (s.bankStored i).part.variant (s.bankStored i).dict = true := h
  have hc : ((s.bankStored i).setNum Adr.nvmStatus 2).numAt Adr.storeCount = s.numAt Adr.storeCount :=
    State.numAt_setNum_other _ hwf (by decide)
  rw [State.stored, ← hc]
  exact ⟨State.numAt_bumpWord_below (State.setNum_wf _ _ hwf),
    State.numAt_bumpWord_wraps (State.setNum_wf _ _ hwf) (by decide)⟩

theorem State.storeFailed_spec (h : Dict.wf s.part.variant s.dict = true) :
    s.storeFailed.nvm = { s.nvm with storing := none } ∧ s.storeFailed.nvmState = 3 ∧
      s.storeFailed.valAt Adr.storeCount = s.valAt Adr.storeCount :=
  ⟨rfl, State.nvmState_setNvmState (s := { s with nvm := _ }) h (by decide),
    State.valAt_setNum_other (s := { s with nvm := _ }) _ h (by decide)⟩

/-! ## RESTORE and RESTORE_FACTORY (R65 to R67, R70) -/

theorem State.settleNow_within (s old : State) : State.Within [.dict, .tick, .tally, .ports, .ingest, .arrs, .queues, .mem,
    .host, .bin, .log, .keys, .panels, .plat, .sent] s (s.settleNow old) :=
  (State.Sound.settleNow (State.Sound.refl _ s) rfl).within

theorem State.loadOthers_within (s : State) : State.Within [.dict, .ports, .keys] s s.loadOthers :=
  (State.Sound.loadOthers (State.Sound.refl _ s) rfl).within

theorem State.loadStored_frame (s : State) : s.loadStored.staged = [] ∧ s.loadStored.nvm = s.nvm := by
  unfold State.loadStored
  extract_lets image l x status
  split <;> exact ⟨rfl, rfl⟩

theorem State.restoreImage_frame (s : State) : s.restoreImage.staged = [] ∧ s.restoreImage.nvm = s.nvm := by
  obtain ⟨hs, hn⟩ := s.loadStored_frame
  unfold State.restoreImage
  rw [(State.loadOthers_within _).staged rfl, (State.settleNow_within _ _).staged rfl, (State.loadOthers_within _).nvm rfl,
    (State.settleNow_within _ _).nvm rfl]
  exact ⟨hs, hn⟩

theorem State.restoreDefaults_frame (s : State) : s.restoreDefaults.staged = [] ∧ s.restoreDefaults.nvm = s.nvm :=
  ⟨(State.settleNow_within _ _).staged rfl, (State.settleNow_within _ _).nvm rfl⟩

end

/-- Settles O19: the rows as WRITEs, the end of a STORE by its outcome, and a load as a fold over the addresses that it
loads. -/
theorem storeAndRestore : Obligations.StoreAndRestore := by
  unfold Obligations.StoreAndRestore
  refine ⟨fun s hi => ⟨fun r => ?_, fun t i hs hd => ?_⟩, fun s r => ?_, fun p d i hd hv => ?_⟩
  · intro h hg
    have hwf : Dict.wf h.part.variant h.dict = true := (State.heard_inv hi).1.1
    obtain ⟨hcur, hbanks⟩ := h.nvm.write_banks none
    refine ⟨_, exec_store hg, ?_⟩
    rw [State.nvmState, State.numAt_congr (State.answered_within.part rfl) (State.answered_within.dict rfl),
      State.answered_within.nvm rfl, State.startStore_nvm]
    exact ⟨rfl, hcur, hbanks, State.startStore_nvmState hwf⟩
  · obtain ⟨u, hu⟩ : ∃ u, u = s.advance t := ⟨_, rfl⟩
    have hwf : Dict.wf u.part.variant u.dict = true := hu ▸ (State.advance_inv hi).1.1
    have hnvm : u.nvm = s.nvm := by simp [hu]
    have hval (a : Nat) : u.valAt a = s.valAt a := State.valAt_congr (by simp [hu]) (by simp [hu]) a
    have hexec := exec_storeComplete hu (by rw [hnvm, hs]) (by simp [hu, hd])
    refine ⟨⟨u.stored i, hexec true, ?_⟩, ⟨u.storeFailed, hexec false, ?_⟩⟩
    · have hcount := State.stored_count i hwf
      rw [State.numAt, hval Adr.storeCount] at hcount
      rw [State.stored_nvm, State.bankStored, hnvm]
      exact ⟨rfl, rfl, (s.nvm.write_banks (some i)).2, State.stored_nvmState i hwf, hcount⟩
    · rw [← hnvm, ← hval]
      exact State.storeFailed_spec hwf
  · intro h
    obtain ⟨hs, hn⟩ := h.restoreImage_frame
    obtain ⟨hfs, hfn⟩ := h.restoreDefaults_frame
    exact ⟨fun hg => ⟨_, exec_restore hg, (State.answered_within.staged rfl).trans hs,
        (State.answered_within.nvm rfl).trans hn, rfl⟩,
      fun hg => ⟨_, exec_restoreFactory hg, (State.answered_within.staged rfl).trans hfs,
        (State.answered_within.nvm rfl).trans hfn, rfl⟩⟩
  · exact ⟨loadImage_wf hd, loadAll_spec (loadImage_some p d i) hd hv⟩

end Sys2Proof.Machine

/-! PROOFS of the statement about event counters, their WRAP flags and their presets (O21). -/

namespace Sys2Proof.Machine

/-! ## A counter and its WRAP flag (R80) -/

theorem wrapFlagOf_ne (a : Nat) : a ≠ wrapFlagOf a := by
  unfold wrapFlagOf
  split <;> omega

theorem not_wrap_of_index_0830 : ∀ sub < 256, kindAt (0x0830 * 256 + sub) ≠ .wrap := by decide +kernel

/-- The counter that the model finds for a WRAP flag is the one whose flag it is. -/
theorem wrapFlagOf_counterOf {a c : Nat} (hk : kindAt a = .wrap) (hc : counterOf a = some c) : wrapFlagOf c = a := by
  unfold counterOf at hc
  split at hc
  · rename_i hi
    obtain rfl := Option.some.inj hc
    rw [beq_iff_eq] at hi
    rw [wrapFlagOf, if_pos (by rw [beq_iff_eq]; omega)]
    omega
  · rename_i hi
    split at hc
    · rename_i hcounter
      obtain rfl := Option.some.inj hc
      rw [beq_iff_eq] at hi hcounter
      have h16 : 0x10 ≤ a := by
        by_contra hlt
        rw [Nat.sub_eq_zero_of_le (by omega)] at hcounter
        exact absurd hcounter (by decide +kernel)
      have h830 : a / 256 ≠ 0x0830 := by
        intro e
        refine not_wrap_of_index_0830 (a % 256) (Nat.mod_lt _ (by decide)) ?_
        rwa [← e, addr_split]
      rw [wrapFlagOf, if_neg (by rw [beq_iff_eq]; omega)]
      omega
    · exact absurd hc (by simp)

section
variable {s t : State} {a : Nat}

/-- R80: an event at the maximum. -/
theorem State.numAt_bump_wraps (h : Dict.wf s.part.variant s.dict = true) (hm : s.numAt a + 1 = 2 ^ 64) :
    (s.bump a).numAt a = 0 ∧ (s.bump a).numAt (wrapFlagOf a) = 1 := by
  refine ⟨by rw [State.numAt_bump_same h (wrapFlagOf_ne a), hm, Nat.mod_self], ?_⟩
  unfold State.bump State.bumpBy
  extract_lets x
  rw [if_neg (by omega), State.numAt_setNum_same _ _ (State.setNum_wf _ _ h)]

theorem State.numAt_bump_below (h : Dict.wf s.part.variant s.dict = true) (hm : s.numAt a + 1 < 2 ^ 64) :
    (s.bump a).numAt a = s.numAt a + 1 := by
  rw [State.bump_below hm, State.numAt_setNum_same _ _ h]

theorem State.valAt_bump_below {b : Nat} (h : Dict.wf s.part.variant s.dict = true) (hm : s.numAt a + 1 < 2 ^ 64)
    (hn : b ≠ a) : (s.bump a).valAt b = s.valAt b := by
  rw [State.bump_below hm, State.valAt_setNum_other _ h hn]

theorem State.numAt_bump_congr (hp : t.part = s.part) (hd : t.dict = s.dict) (a b : Nat) :
    (t.bump a).numAt b = (s.bump a).numAt b :=
  State.numAt_congr (by simp [hp]) (State.bumpBy_dict_congr hp hd a 1) b

/-! ## Writes of counters and WRAP flags (R81) -/

theorem isSelector_of_kind (h : kindAt a ≠ .plain) : isSelector a = false := by
  have hs : kindAt Adr.logbookReadSeq = .plain ∧ kindAt Adr.persistReadIndex = .plain := by decide +kernel
  have h1 : a ≠ Adr.logbookReadSeq := fun e => h (e ▸ hs.1)
  have h2 : a ≠ Adr.persistReadIndex := fun e => h (e ▸ hs.2)
  simp [isSelector, h1, h2]

theorem State.perform_wrap (hk : kindAt a = .wrap) (p : Port) (v : Val) :
    s.perform p a v = (none, if v.toNat = 1 then s.setNum a 0 else s) := by
  simp [State.perform, isSelector_of_kind (a := a) (by simp [hk]), hk]

theorem State.perform_counter (hk : kindAt a = .counter) (p : Port) (v : Val) :
    s.perform p a v = (none, s.presetCounter a v) := by
  simp [State.perform, isSelector_of_kind (a := a) (by simp [hk]), hk]

theorem State.presetCounter_within (s : State) (a : Nat) (v : Val) : State.Within [.dict, .arrs] s (s.presetCounter a v) :=
  (State.Sound.presetCounter (State.Sound.refl _ s) rfl).within

/-- R81: the counter takes the written value. -/
theorem State.presetCounter_dict (s : State) (a : Nat) (v : Val) :
    (s.presetCounter a v).dict = s.dict.set s.part.variant a v := by
  unfold State.presetCounter
  extract_lets x
  split <;> rfl

/-- A granted WRITE of a counter or a WRAP flag is what `perform` makes of it. -/
theorem State.serveWrite_of_kind {x : State} {r : Req} (hg : s.grants r a) (hk : kindAt a ≠ .plain)
    (hp : (s.heard r.t r.port r.sender).perform r.port a (writeValue a r.payload) = (none, x)) :
    (s.heard r.t r.port r.sender).serveWrite r.port r.sender r.seq r.flags a r.payload =
      .done 0 [] (x.touchLease r.port) := by
  obtain ⟨-, hf, hb, hs, href⟩ := hg
  have hplain : kindAt Adr.tlbInvalidate = .plain ∧ kindAt Adr.ctlReset = .plain := by decide +kernel
  refine State.serveWrite_granted ?_ (isSelector_of_kind hk) (fun e => hk (e ▸ hplain.1)) (fun e => hk (e ▸ hplain.2)) hp
  exact firstCode_none (by simp [flagCheck, refuseIf, hf, hb, hs, href])

end

/-- What an event that would make the counter of the WRAP flag at `a` wrap does in the cycle of a write of the flag. -/
def State.eventAtFlag (s : State) (a : Nat) (wraps : Bool) : State :=
  match counterOf a with
  | some c => if wraps && s.numAt c == 2 ^ 64 - 1 then s.bump c else s
  | none => s

section
variable {s x : State} {r : Req} {a index sub : Nat}

theorem State.eventAtFlag_none {wraps : Bool} (h : wraps = false ∨ ∀ c, counterOf a = some c → s.numAt c ≠ 2 ^ 64 - 1) :
    s.eventAtFlag a wraps = s := by
  unfold State.eventAtFlag
  split
  · rename_i c hc
    refine if_neg ?_
    rw [Bool.and_eq_true, beq_iff_eq]
    rintro ⟨hw, hm⟩
    exact h.elim (by simp [hw]) (fun h => h c hc hm)
  · rfl

theorem State.eventAtFlag_wraps {c : Nat} (hc : counterOf a = some c) (hm : s.numAt c = 2 ^ 64 - 1) :
    s.eventAtFlag a true = s.bump c := by
  unfold State.eventAtFlag
  simp only [hc, hm, beq_self_eq_true, Bool.and_self, if_true]

/-- WRAP_FLAG_CLEAR: the WRITE, then the event, then the response. -/
theorem exec_wrapFlagClear (wraps : Bool) (ha : index * 256 + sub = a) (hsub : sub < 256) (hg : s.grants r a)
    (hk : kindAt a = .wrap)
    (hp : (s.heard r.t r.port r.sender).perform r.port a (writeValue a r.payload) = (none, x)) :
    exec (.wrapFlagClear r index sub wraps) s = .next (((x.touchLease r.port).eventAtFlag a wraps).respond r.port
      ((s.heard r.t r.port r.sender).routeOf r.port r.sender) (responsePdu 2 r.seq a 0 [])) := by
  have hh : s.hears r.t r.port r.sender 2 index := by
    rw [show index = a / 256 by omega]
    exact hg.1
  show Host.Outcome.next (doWrapFlagClear r index sub wraps s) = _
  unfold doWrapFlagClear
  extract_lets b
  obtain rfl : b = a := ha
  rw [if_neg (by simp [rowNames, hk]), State.request_heard hh,
    State.serveWrite_of_kind hg (by simp [hk]) hp]
  rfl

/-- COUNTER_PRESET: the WRITE, then the event of the same cycle, then the response. -/
theorem exec_counterPreset (event : Bool) (ha : index * 256 + sub = a) (hsub : sub < 256) (hg : s.grants r a)
    (hk : kindAt a = .counter)
    (hp : (s.heard r.t r.port r.sender).perform r.port a (writeValue a r.payload) = (none, x)) :
    exec (.counterPreset r index sub event) s =
      .next ((if event then (x.touchLease r.port).bump a else x.touchLease r.port).respond r.port
        ((s.heard r.t r.port r.sender).routeOf r.port r.sender) (responsePdu 2 r.seq a 0 [])) := by
  have hh : s.hears r.t r.port r.sender 2 index := by
    rw [show index = a / 256 by omega]
    exact hg.1
  show Host.Outcome.next (doCounterPreset r index sub event s) = _
  unfold doCounterPreset
  extract_lets b
  obtain rfl : b = a := ha
  rw [if_neg (by simp [rowNames, hk]), State.request_heard hh,
    State.serveWrite_of_kind hg (by simp [hk]) hp]
  rfl

/-- The lease and the response leave the settings alone. -/
theorem State.numAt_respond (p : Port) (route : Route) (pdu : Bytes) (b : Nat) :
    (s.respond p route pdu).numAt b = s.numAt b :=
  State.numAt_congr (State.respond_within.part rfl) (State.respond_within.dict rfl) b

theorem State.numAt_touchLease (p : Port) (b : Nat) : (s.touchLease p).numAt b = s.numAt b :=
  State.numAt_congr (State.touchLease_within.part rfl) (State.touchLease_within.dict rfl) b

theorem State.numAt_bump_touchLease (p : Port) (b c : Nat) : ((s.touchLease p).bump b).numAt c = (s.bump b).numAt c :=
  State.numAt_bump_congr (State.touchLease_within.part rfl) (State.touchLease_within.dict rfl) b c

/-! ## The flag and the counter after the write -/

/-- No event, or one that does not make the counter wrap: the flag stays clear. -/
theorem State.numAt_cleared_quiet {wraps : Bool} (p : Port) (h : Dict.wf s.part.variant s.dict = true) (hk : kindAt a = .wrap)
    (hq : wraps = false ∨ ∀ c, counterOf a = some c → s.numAt c ≠ 2 ^ 64 - 1) :
    (((s.setNum a 0).touchLease p).eventAtFlag a wraps).numAt a = 0 := by
  have hq' : wraps = false ∨ ∀ c, counterOf a = some c → ((s.setNum a 0).touchLease p).numAt c ≠ 2 ^ 64 - 1 := by
    refine hq.imp_right fun hq c hc => ?_
    have hn : c ≠ a := fun e => wrapFlagOf_ne c ((wrapFlagOf_counterOf hk hc).trans e.symm).symm
    rw [State.numAt_touchLease, State.numAt_setNum_other _ h hn]
    exact hq c hc
  rw [State.eventAtFlag_none hq', State.numAt_touchLease, State.numAt_setNum_same _ _ h]

/-- An event that makes the counter wrap sets the flag again. -/
theorem State.numAt_cleared_wraps {c : Nat} (p : Port) (h : Dict.wf s.part.variant s.dict = true) (hk : kindAt a = .wrap)
    (hc : counterOf a = some c) (hm : s.numAt c = 2 ^ 64 - 1) :
    (((s.setNum a 0).touchLease p).eventAtFlag a true).numAt a = 1 ∧
      (((s.setNum a 0).touchLease p).eventAtFlag a true).numAt c = 0 := by
  obtain rfl := wrapFlagOf_counterOf hk hc
  have hn : (s.setNum (wrapFlagOf c) 0).numAt c = 2 ^ 64 - 1 := by
    rw [State.numAt_setNum_other _ h (wrapFlagOf_ne c), hm]
  obtain ⟨hzero, hflag⟩ := State.numAt_bump_wraps (a := c) (State.setNum_wf (wrapFlagOf c) 0 h) (by omega)
  rw [State.eventAtFlag_wraps hc (by rw [State.numAt_touchLease, hn]), State.numAt_bump_touchLease,
    State.numAt_bump_touchLease]
  exact ⟨hflag, hzero⟩

theorem State.presetCounter_wf (v : Val) (h : Dict.wf s.part.variant s.dict = true) :
    Dict.wf (s.presetCounter a v).part.variant (s.presetCounter a v).dict = true := by
  rw [State.presetCounter_dict, (State.presetCounter_within s a v).part rfl]
  exact Dict.wf_set a v h

theorem State.numAt_presetCounter (v : Val) (h : Dict.wf s.part.variant s.dict = true) :
    (s.presetCounter a v).numAt a = v.toNat :=
  (State.numAt_congr (s := s.setVal a v) ((State.presetCounter_within s a v).part rfl) (s.presetCounter_dict a v) a).trans
    (congrArg Val.toNat (State.valAt_setVal_same a v h))

end

/-- Settles O21: the counts of one event, and the two rows as a WRITE followed by its event. -/
theorem countersFollowEventsAndPresets : Obligations.CountersFollowEventsAndPresets := by
  unfold Obligations.CountersFollowEventsAndPresets
  refine ⟨fun s hi => ⟨fun a hm => ?_, fun a hm => ?_, fun r index sub wraps => ?_⟩, fun s r index sub event => ?_⟩
  · exact ⟨State.numAt_bump_below hi.1.1 hm, fun b hn => State.valAt_bump_below hi.1.1 hm hn⟩
  · obtain ⟨hzero, hflag⟩ := State.numAt_bump_wraps hi.1.1 hm
    exact ⟨hzero, hflag, fun b hn hw => State.valAt_bump_other hi.1.1 hn hw⟩
  · intro a h v hg hsub hk
    have hwf : Dict.wf h.part.variant h.dict = true := (State.heard_inv hi).1.1
    refine ⟨_, exec_wrapFlagClear wraps rfl hsub hg hk (State.perform_wrap hk _ _), fun hv hw => ?_, fun hv hq => ?_,
      fun c hv hw hc hm => ?_⟩
    · rw [if_neg hv, State.eventAtFlag_none (.inl hw), State.respond_within.dict rfl, State.touchLease_within.dict rfl]
    · rw [if_pos hv, State.numAt_respond]
      exact State.numAt_cleared_quiet r.port hwf hk hq
    · rw [if_pos hv, State.numAt_respond, State.numAt_respond, hw]
      exact State.numAt_cleared_wraps r.port hwf hk hc hm
  · intro a n hi hg hsub hk
    have hwf : Dict.wf (s.heard r.t r.port r.sender).part.variant (s.heard r.t r.port r.sender).dict = true :=
      (State.heard_inv hi).1.1
    have hn := State.numAt_presetCounter (a := a) (writeValue a r.payload) hwf
    have hpre := State.presetCounter_wf (a := a) (writeValue a r.payload) hwf
    refine ⟨_, exec_counterPreset event rfl hsub hg hk (State.perform_counter hk _ _), fun he => ?_, fun he hm => ?_,
      fun he hm => ?_⟩
    · rw [he, if_neg Bool.false_ne_true, State.numAt_respond, State.numAt_touchLease, hn]
    · rw [he, if_pos rfl, State.numAt_respond, State.numAt_bump_touchLease,
        State.numAt_bump_below hpre (by rw [hn]; exact hm), hn]
    · rw [he, if_pos rfl, State.numAt_respond, State.numAt_respond, State.numAt_bump_touchLease,
        State.numAt_bump_touchLease]
      exact State.numAt_bump_wraps hpre (by rw [hn]; exact hm)

end Sys2Proof.Machine

/-! PROOFS about what ingest leaves alone (towards O22 and O23): the settings of slots, the frame in progress of a slot
and the bytes of memory outside a write, over the reports of a write, drops and the start of a frame. -/

namespace Sys2Proof.Machine

/-! ## Addresses -/

/-- The slot objects that ingest counts nothing in, and TRUNCATED_FRAMES, which only the end of a frame counts in (R108). -/
def ingestKept (a : Nat) : Prop := a < 0x140000 ∧ (a / 256 % 8 = 6 → a % 256 = 8)

/-- Where ingest counts (R80, R108, R109, R189, R195): the counters of a slot but TRUNCATED_FRAMES, and objects behind those
of slots. -/
def ingestCounts (c : Nat) : Prop := 0x140000 ≤ c ∨ c / 256 % 8 = 6 ∧ c % 256 ≠ 8 ∧ c % 256 < 0xF0

theorem ingestKept.ne {a c : Nat} (h : ingestKept a) (hc : ingestCounts c) : a ≠ c ∧ a ≠ wrapFlagOf c := by
  unfold ingestKept at h
  unfold ingestCounts at hc
  unfold wrapFlagOf
  simp only [beq_iff_eq]
  split <;> omega

/-- A counter of a slot other than TRUNCATED_FRAMES. -/
theorem ingestCounts_slot {n k : Nat} (hk : k ≠ 8) (hl : k < 0xF0) : ingestCounts ((0x1006 + 8 * n) * 256 + k) := by
  unfold ingestCounts
  omega

/-- A setting of a slot, `b` indices behind the slot's first. -/
theorem ingestKept_slot {n b k : Nat} (hn : n < 48) (hb : b < 6) (hk : k < 256) :
    ingestKept ((0x1000 + b + 8 * n) * 256 + k) := by
  unfold ingestKept
  omega

theorem ingestKept_truncatedFrames {n : Nat} (hn : n < 48) : ingestKept (Adr.truncatedFrames n) := by
  unfold ingestKept Adr.truncatedFrames
  omega

theorem ingestCounts_dropCause (n cause : Nat) : ingestCounts (match cause with
    | 1 => Adr.dropNoBuffer n | 2 => Adr.dropBandwidth n | 3 => Adr.dropOverwritten n | _ => Adr.dropMemoryError n) := by
  split <;> exact ingestCounts_slot (by decide) (by decide)

theorem ingestCounts_mechanism {k : Nat} (h : mechanismCounter k ≠ 0) : ingestCounts (mechanismCounter k) := by
  unfold mechanismCounter at h ⊢
  split
  case h_7 => simp at h
  all_goals exact .inl (by decide)

/-! ## What ingest leaves alone -/

/-- On the way from `o` to `s` the addresses in `ingestKept` keep their values, the bytes of memory in `r` and what `q` tells
of the slots; and `s` has the invariant. -/
structure State.Steady {β : Type} (q : List Slot → β) (r : Nat → Prop) (o s : State) : Prop where
  inv : s.Inv
  vals : ∀ a, ingestKept a → s.valAt a = o.valAt a
  slots : q s.ingest.slots = q o.ingest.slots
  cells : ∀ a, r a → s.mem.cells.byte a = o.mem.cells.byte a

/-- `q` tells nothing of slot `k`. -/
def ignoresSlot {β : Type} (q : List Slot → β) (k : Nat) : Prop := ∀ xs f, q (modifyAt xs k f) = q xs

/-- `q` tells at most the frame in progress of slot `k`. -/
def seesFrame {β : Type} (q : List Slot → β) (k : Nat) : Prop :=
  ∀ xs f, (∀ x : Slot, (f x).filling = x.filling) → q (modifyAt xs k f) = q xs

/-- The frame in progress of a slot. -/
def frameIn (n : Nat) (xs : List Slot) : Option Filling := (nth xs n Slot.zero).filling

/-- A slot. -/
def slotIn (n : Nat) (xs : List Slot) : Slot := nth xs n Slot.zero

theorem ignoresSlot.sees {β : Type} {q : List Slot → β} {k : Nat} (h : ignoresSlot q k) : seesFrame q k :=
  fun xs f _ => h xs f

theorem slotIn_ignores {n k : Nat} (h : n ≠ k) : ignoresSlot (slotIn n) k := fun _ _ => nth_modifyAt_other _ _ h

theorem unit_ignores (k : Nat) : ignoresSlot (fun _ => ()) k := fun _ _ => rfl

theorem frameIn_sees (n k : Nat) : seesFrame (frameIn n) k := by
  intro xs f hf
  unfold frameIn
  by_cases h : n = k
  · subst h
    by_cases hl : n < xs.length
    · rw [nth_modifyAt_same _ _ hl, hf]
    · rw [nth, nth, List.getD_eq_default _ _ (by simp; omega), List.getD_eq_default _ _ (by omega)]
  · rw [nth_modifyAt_other _ _ h]

theorem State.Within.framesDropped {m : List Field} {s x : State} (h : State.Within m s x)
    (hm : m.contains .tally = false) : x.tick.framesDropped = s.tick.framesDropped := by
  obtain ⟨-, -, hd, -⟩ := h.tally hm
  exact hd

section
variable {β : Type} {q : List Slot → β} {r : Nat → Prop} {o s : State}

theorem State.Steady.refl (h : s.Inv) : State.Steady q r s s := ⟨h, fun _ _ => rfl, rfl, fun _ _ => rfl⟩

theorem State.Steady.trans {x : State} (h : State.Steady q r o s) (k : State.Steady q r s x) : State.Steady q r o x where
  inv := k.inv
  vals a ha := (k.vals a ha).trans (h.vals a ha)
  slots := k.slots.trans h.slots
  cells a ha := (k.cells a ha).trans (h.cells a ha)

/-- What is told of the slots less closely. -/
theorem State.Steady.tells {γ : Type} (g : β → γ) (h : State.Steady q r o s) : State.Steady (fun xs => g (q xs)) r o s :=
  ⟨h.inv, h.vals, congrArg g h.slots, h.cells⟩

theorem State.Steady.numAt {a : Nat} (h : State.Steady q r o s) (ha : ingestKept a) : s.numAt a = o.numAt a :=
  congrArg Val.toNat (h.vals a ha)

/-- The settings of a slot that the statements read. -/
theorem State.Steady.settings {n : Nat} (h : State.Steady q r o s) (hn : n < 48) :
    s.numAt (Adr.sourceKind n) = o.numAt (Adr.sourceKind n) ∧ s.numAt (Adr.sourceUnit n) = o.numAt (Adr.sourceUnit n) ∧
      s.numAt (Adr.vc n) = o.numAt (Adr.vc n) ∧ s.numAt (Adr.dataType n) = o.numAt (Adr.dataType n) ∧
      s.numAt (Adr.priority n) = o.numAt (Adr.priority n) ∧ s.numAt (Adr.guaranteed n) = o.numAt (Adr.guaranteed n) ∧
      s.numAt (Adr.tsAdjust n) = o.numAt (Adr.tsAdjust n) ∧ s.numAt (Adr.ringAddr n) = o.numAt (Adr.ringAddr n) ∧
      s.numAt (Adr.ringBuffers n) = o.numAt (Adr.ringBuffers n) ∧ s.numAt (Adr.bufferBytes n) = o.numAt (Adr.bufferBytes n) ∧
      s.numAt (Adr.ringMode n) = o.numAt (Adr.ringMode n) ∧ s.numAt (Adr.audioRate n) = o.numAt (Adr.audioRate n) ∧
      s.numAt (Adr.audioChannelMask n) = o.numAt (Adr.audioChannelMask n) := by
  have hk : ∀ b < 6, ∀ k < 256, s.numAt ((0x1000 + b + 8 * n) * 256 + k) = o.numAt ((0x1000 + b + 8 * n) * 256 + k) :=
    fun b hb k hk => h.numAt (ingestKept_slot hn hb hk)
  exact ⟨hk 0 (by decide) 2 (by decide), hk 0 (by decide) 3 (by decide), hk 0 (by decide) 4 (by decide),
    hk 0 (by decide) 5 (by decide), hk 0 (by decide) 8 (by decide), hk 0 (by decide) 9 (by decide),
    hk 0 (by decide) 12 (by decide), hk 1 (by decide) 1 (by decide), hk 1 (by decide) 2 (by decide),
    hk 1 (by decide) 3 (by decide), hk 1 (by decide) 5 (by decide), hk 2 (by decide) 8 (by decide),
    hk 2 (by decide) 7 (by decide)⟩

theorem State.Steady.ite {c : Prop} [Decidable c] {x y : State} (hx : State.Steady q r o x) (hy : State.Steady q r o y) :
    State.Steady q r o (if c then x else y) := by
  split
  · exact hx
  · exact hy

theorem State.Steady.foldl {α : Type} {f : State → α → State} {xs : List α} (h : State.Steady q r o s)
    (hf : ∀ t x, State.Steady q r o t → State.Steady q r o (f t x)) : State.Steady q r o (xs.foldl f s) :=
  List.foldlRecOn xs f h (fun t ht x _ => hf t x ht)

theorem State.Inv.slot_lt {n : Nat} (h : s.Inv) (hn : n < 48) : n < s.ingest.slots.length := by
  obtain ⟨-, -, -, -, hs, -⟩ := (State.shaped_iff s).1 h.2
  omega

/-- A change outside the register file, the slots and the bytes of memory. -/
theorem State.Steady.outside {x : State} (m : List Field) {k : Nat} (h : State.Steady q r o s) (hx : State.Sound m s k x)
    (hp : m.contains .part = false) (hd : m.contains .dict = false) (hi : m.contains .ingest = false)
    (hc : x.mem.cells = s.mem.cells) : State.Steady q r o x where
  inv := hx.good h.inv
  vals a ha := (State.valAt_congr (hx.within.part hp) (hx.within.dict hd) a).trans (h.vals a ha)
  slots := by rw [hx.within.ingest hi, h.slots]
  cells a ha := by rw [hc, h.cells a ha]

/-- A change outside the register file, the slots and memory. -/
theorem State.Steady.elsewhere {x : State} (m : List Field) {k : Nat} (h : State.Steady q r o s) (hx : State.Sound m s k x)
    (hp : m.contains .part = false) (hd : m.contains .dict = false) (hi : m.contains .ingest = false)
    (hm : m.contains .mem = false) : State.Steady q r o x :=
  h.outside m hx hp hd hi (congrArg _ (hx.within.mem hm))

theorem State.Steady.setNum {c : Nat} (x : Nat) (h : State.Steady q r o s) (hc : ∀ a, ingestKept a → a ≠ c) :
    State.Steady q r o (s.setNum c x) where
  inv := (State.Sound.setNum (State.Sound.refl [.dict] s) rfl).good h.inv
  vals a ha := (State.valAt_setNum_other _ h.inv.1.1 (hc a ha)).trans (h.vals a ha)
  slots := h.slots
  cells := h.cells

theorem State.Steady.bump {c : Nat} (h : State.Steady q r o s) (hc : ingestCounts c) : State.Steady q r o (s.bump c) where
  inv := (State.Sound.bump (State.Sound.refl [.dict] s) rfl).good h.inv
  vals a ha := (State.valAt_bump_other h.inv.1.1 (ha.ne hc).1 (ha.ne hc).2).trans (h.vals a ha)
  slots := by simp only [State.bump_frame, h.slots]
  cells a ha := by simp only [State.bump_frame, h.cells a ha]

theorem State.Steady.setSlot {k : Nat} {f : Slot → Slot} (h : State.Steady q r o s)
    (hq : q (modifyAt s.ingest.slots k f) = q s.ingest.slots) : State.Steady q r o (s.setSlot k f) where
  inv := (State.Sound.setSlot (State.Sound.refl [.ingest] s) rfl).good h.inv
  vals := h.vals
  slots := by rw [State.setSlot_ingest, hq, h.slots]
  cells := h.cells

/-- A change of a slot that leaves its frame in progress. -/
theorem State.Steady.setBeside {k : Nat} {f : Slot → Slot} (h : State.Steady q r o s) (hq : seesFrame q k)
    (hf : ∀ x, (f x).filling = x.filling) : State.Steady q r o (s.setSlot k f) := h.setSlot (hq _ _ hf)

theorem State.Steady.setBuffer {k i : Nat} {f : Buffer → Buffer} (h : State.Steady q r o s) (hq : seesFrame q k) :
    State.Steady q r o (s.setBuffer k i f) := h.setBeside hq fun _ => rfl

/-! ## Faults and reports (R189, R193, R195, R254) -/

theorem State.Steady.latchSafety (mechanism : Nat) (h : State.Steady q r o s) : State.Steady q r o (s.latchSafety mechanism) := by
  unfold State.latchSafety
  extract_lets x
  have hx : State.Steady q r o x := (h.setNum _ fun a ha => (ha.ne (.inl (by decide))).1).bump (.inl (by decide))
  clear_value x
  exact hx.elsewhere [.bin] (State.Sound.congr [.bin] (State.Sound.refl _ x) rfl rfl rfl (Nat.le_refl _) rfl rfl rfl)
    rfl rfl rfl rfl

theorem State.Steady.assignSeq (y : FaultRx) (h : State.Steady q r o s) : State.Steady q r o (s.assignSeq y).2 :=
  h.elsewhere [.queues, .bin, .log] (State.Sound.assignSeq (State.Sound.refl _ s) rfl).snd rfl rfl rfl rfl

theorem State.Steady.setSuppress (y : Suppress) (h : State.Steady q r o s) : State.Steady q r o (s.setSuppress y) :=
  h.elsewhere [.log] (State.Sound.setSuppress (State.Sound.refl _ s) rfl) rfl rfl rfl rfl

theorem State.Steady.countLogged (signature tick : Nat) (h : State.Steady q r o s) :
    State.Steady q r o (s.countLogged signature tick).2 := by
  unfold State.countLogged
  extract_lets x
  split
  · split
    · exact (h.setSuppress _).bump (.inl (by decide))
    · exact h.setSuppress _
  · exact h.setSuppress _

theorem State.Steady.detect (d : Detection) (h : State.Steady q r o s) : State.Steady q r o (s.detect d).2 := by
  unfold State.detect
  extract_lets x1 x2 x3 x4 x5 x6
  have h1 : State.Steady q r o x1 := by
    unfold x1 State.countMechanism
    split
    · exact h
    · rename_i hc
      exact h.bump (ingestCounts_mechanism (by simpa using hc))
  clear_value x1
  have h3 : State.Steady q r o x3 := h1.elsewhere [.tally]
    (State.Sound.congr [.tally] (State.Sound.refl _ x1) rfl rfl rfl (Nat.le_refl _) rfl rfl rfl) rfl rfl rfl rfl
  clear_value x3
  split
  · exact (h3.latchSafety _).assignSeq _
  · have h6 : State.Steady q r o x6 := h3.bump (.inl (by decide))
    clear_value x6
    split
    rename_i y carried z e
    have hz : State.Steady q r o z := by
      have hc := h6.countLogged (x4.loggedSignature x6.part) x4.tick
      rwa [e] at hc
    split
    · exact hz.elsewhere [.bin] (State.Sound.congr [.bin] (State.Sound.refl _ z) rfl rfl rfl (Nat.le_refl _) rfl rfl rfl)
        rfl rfl rfl rfl
    · exact hz.assignSeq _

theorem State.Steady.violate (w : Actor) (cause a : Nat) (h : State.Steady q r o s) :
    State.Steady q r o (s.violate w cause a).2 :=
  (h.bump (.inl (by unfold Adr.regionViolations; omega))).detect _

theorem State.Steady.uncorrectable (scrub : Bool) (part queue tag : Option Nat) (cause a : Nat) (h : State.Steady q r o s) :
    State.Steady q r o (s.uncorrectable scrub part queue tag cause a).2 := by
  unfold State.uncorrectable
  extract_lets x unit kind
  have hx : State.Steady q r o x :=
    .ite (h.bump (.inl (by decide))) (h.bump (.inl (by unfold Adr.channelUeDetected; omega)))
  clear_value x
  split
  · exact hx
  · exact hx.detect _

theorem State.Steady.uncorrectables (part queue tag : Option Nat) (cause : Nat) (us : List Nat) (h : State.Steady q r o s) :
    State.Steady q r o (State.uncorrectables part queue tag cause us s).2 := by
  induction us generalizing s with
  | nil => exact h
  | cons u us ih => exact ih (h.uncorrectable false part queue tag cause u)

theorem State.Steady.correct (m : Met) (h : State.Steady q r o s) : State.Steady q r o (s.correct m) := by
  unfold State.correct
  extract_lets x
  have hx : State.Steady q r o x := h.foldl fun t a ht =>
    .ite (ht.bump (.inl (by decide))) (ht.bump (.inl (by unfold Adr.channelCeCorrected; omega)))
  clear_value x
  exact hx.outside [.mem] (State.Sound.congr [.mem] (State.Sound.refl _ x) rfl rfl rfl (Nat.le_refl _) rfl rfl rfl)
    rfl rfl rfl rfl

theorem State.Steady.reportIngest (w : Actor) (a : Nat) (m : Met) (h : State.Steady q r o s) :
    State.Steady q r o (s.reportIngest w a m).2 := by
  unfold State.reportIngest
  split
  · exact (h.correct m).violate _ _ _
  · exact (h.correct m).uncorrectables _ _ _ _ _

/-! ## Writes of a slot -/

theorem State.rawStore_cells (s : State) (a : Nat) (bs : Bytes) : (s.rawStore a bs).1.mem.cells = s.mem.cells.write a bs := rfl

theorem State.Steady.store (p a : Nat) (bs : Bytes) (h : State.Steady q r o s)
    (hr : ∀ y, r y → y < a ∨ a + bs.length ≤ y) : State.Steady q r o (s.store p a bs).1 := by
  have hs : State.Sound [.mem] s s.tick.now (s.store p a bs).1 := (State.Sound.store (State.Sound.refl _ s) rfl).fst
  refine ⟨hs.good h.inv, fun b hb => (State.valAt_congr (hs.within.part rfl) (hs.within.dict rfl) b).trans (h.vals b hb),
    by rw [hs.within.ingest rfl, h.slots], fun y hy => ?_⟩
  rw [← h.cells y hy]
  unfold State.store
  split
  · rw [State.rawStore_cells, Memory.byte_write_other h.inv.1.2 (hr y hy)]
  · rfl

theorem State.Steady.countSlotBytes {n : Nat} (k : Nat) (h : State.Steady q r o s) (hq : seesFrame q n) :
    State.Steady q r o (s.countSlotBytes n k) := by
  unfold State.countSlotBytes
  extract_lets total x
  have hx : State.Steady q r o x := h.setBeside hq fun _ => rfl
  clear_value x
  refine .ite (.bump (hx.setBeside hq fun _ => rfl) ?_) hx
  exact ingestCounts_slot (by decide) (by decide)

theorem State.Steady.ingestWrite {n a : Nat} {bs : Bytes} (h : State.Steady q r o s) (hq : seesFrame q n)
    (hr : ∀ y, r y → y < a ∨ a + bs.length ≤ y) : State.Steady q r o (s.ingestWrite n a bs).2 := by
  unfold State.ingestWrite
  split
  · exact h
  · exact ((h.countSlotBytes _ hq).store _ _ _ hr).reportIngest _ _ _

theorem State.Steady.ingestWrites {n : Nat} {pieces : List (Nat × Bytes)} (h : State.Steady q r o s) (hq : seesFrame q n)
    (hr : ∀ p ∈ pieces, ∀ y, r y → y < p.1 ∨ p.1 + p.2.length ≤ y) : State.Steady q r o (s.ingestWrites n pieces).2 :=
  List.foldlRecOn (motive := fun acc : Bool × State => State.Steady q r o acc.2) pieces _ h
    (fun _ hacc p hp => hacc.ingestWrite hq (hr p hp))

/-! ## Drops (R99, R100, R121) -/

theorem State.Steady.accountDrop {n : Nat} (cause : Nat) (f : Frame) (h : State.Steady q r o s) (hq : seesFrame q n) :
    State.Steady q r o (s.accountDrop n cause f) := by
  unfold State.accountDrop
  extract_lets x1 x2 x3 x4
  have h2 : State.Steady q r o x2 :=
    (h.bump (ingestCounts_slot (by decide) (by decide))).bump (ingestCounts_dropCause n cause)
  clear_value x2
  have h4 : State.Steady q r o x4 := h2.elsewhere [.tally]
    (State.Sound.congr [.tally] (State.Sound.refl _ x2) rfl rfl rfl (Nat.le_refl _) rfl rfl rfl) rfl rfl rfl rfl
  clear_value x4
  exact h4.setBeside hq fun _ => rfl

theorem State.Steady.unshape (n i : Nat) (h : State.Steady q r o s) : State.Steady q r o (s.unshape n i) :=
  ⟨(State.Sound.unshape (State.Sound.refl [.ingest] s) rfl).good h.inv, h.vals, h.slots, h.cells⟩

theorem State.Steady.freeBuffer {n : Nat} (i : Nat) (h : State.Steady q r o s) (hq : seesFrame q n) :
    State.Steady q r o (s.freeBuffer n i) := (h.unshape n i).setBuffer hq

theorem State.Steady.dropFilling {n : Nat} (cause : Nat) (h : State.Steady q r o s) (hq : ignoresSlot q n) :
    State.Steady q r o (s.dropFilling n cause) := by
  unfold State.dropFilling
  split
  · exact h
  · split
    · exact h
    · exact ((h.accountDrop _ _ hq.sees).freeBuffer _ hq.sees).setSlot (hq _ _)

theorem State.Steady.setCtx {c : Nat} {f : Ctx → Ctx} (h : State.Steady q r o s) : State.Steady q r o (s.setCtx c f) :=
  ⟨(State.Sound.setCtx (State.Sound.refl [.ingest] s) rfl).good h.inv, h.vals, h.slots, h.cells⟩

/-! ## Delivery (R95, R121) -/

theorem State.Steady.deliver {n : Nat} (i : Nat) (header : Bytes) (h : State.Steady q r o s) (hq : seesFrame q n) :
    State.Steady q r o (s.deliver n i header) := by
  unfold State.deliver
  refine .bump (.setBeside (h.setBuffer hq) hq fun _ => rfl) ?_
  exact ingestCounts_slot (by decide) (by decide)

theorem State.Steady.shapeEnded {n i : Nat} {f : Frame} {rows : List (List Nat)} {x : State} (h : State.Steady q r o s)
    (hq : seesFrame q n) (hx : s.shapeEnded n i f rows = some x) : State.Steady q r o x := by
  unfold State.shapeEnded at hx
  split at hx
  · exact absurd hx (Option.some_ne_none x).symm
  · split at hx
    · exact absurd hx (Option.some_ne_none x).symm
    · obtain rfl := Option.some.inj hx
      exact h.setCtx.setBuffer hq

/-! ## The start of a frame (R96) -/

theorem State.Steady.takeBuffer {n : Nat} (fill : Nat) (h : State.Steady q r o s) (hq : seesFrame q n) :
    State.Steady q r o (s.takeBuffer n fill).2 := by
  unfold State.takeBuffer
  extract_lets p
  split
  · exact h
  · split
    · exact h
    · split
      · exact h
      · split
        · exact h
        · exact (h.accountDrop _ _ hq).freeBuffer _ hq

end

end Sys2Proof.Machine

/-! PROOFS of the statement about the start, the abort and the end of frames (O22). -/

namespace Sys2Proof.Machine

/-! ## Settings read on the way -/

section
variable {β : Type} {q : List Slot → β} {r : Nat → Prop} {o s : State}

theorem State.slotAt_advance (s : State) (t n : Nat) : (s.advance t).slotAt n = s.slotAt n := by
  simp only [State.slotAt, State.advance_frame]

theorem State.advance_within (s : State) (t : Nat) : State.Within [.clock] s (s.advance t) :=
  (State.Sound.advance (State.Sound.refl _ s) rfl).within

theorem State.ingestRuns_advance (s : State) (t : Nat) : (s.advance t).ingestRuns = s.ingestRuns := by
  rw [State.ingestRuns, (s.advance_within t).power rfl, State.ingestRuns]

/-- The slots all the same. -/
theorem State.Steady.slotAt (h : State.Steady id r o s) (n : Nat) : s.slotAt n = o.slotAt n :=
  congrArg (fun xs => nth xs n Slot.zero) h.slots

theorem State.Steady.bufferBase {n : Nat} (h : State.Steady q r o s) (hn : n < 48) (i : Nat) :
    s.bufferBase n i = o.bufferBase n i := by
  simp only [State.bufferBase, h.settings hn]

theorem State.Steady.slotsOf (h : State.Steady id r o s) (recv vc : Nat) : s.slotsOf recv vc = o.slotsOf recv vc := by
  unfold State.slotsOf
  refine List.filter_congr fun n hn => ?_
  simp only [h.slotAt, h.settings (List.mem_range.1 hn)]

theorem State.Steady.guaranteedNow (h : State.Steady id r o s) {n : Nat} (hn : n < 48) :
    s.guaranteedNow n = o.guaranteedNow n := by
  simp only [State.guaranteedNow, State.flagAt, h.slotAt, h.settings hn]

theorem State.Steady.ring (h : State.Steady id r o s) {n : Nat} (hn : n < 48) : s.ring n = o.ring n := by
  simp only [State.ring, h.slotAt, h.settings hn]

/-! ## Packet headers (R86) -/

/-- A frame in progress whose packet was bad, or was not. -/
def Filling.marked (bad : Bool) (fl : Filling) : Filling :=
  if bad then { fl with frame := fl.frame.flag flLink } else fl

/-- A mark leaves the buffer, the number and the times of a frame, and its data. -/
theorem Filling.marked_kept (bad : Bool) (fl : Filling) : (fl.marked bad).buffer = fl.buffer ∧
    (fl.marked bad).dropCause = fl.dropCause ∧ (fl.marked bad).rows = fl.rows ∧ (fl.marked bad).stored = fl.stored ∧
    (fl.marked bad).frame.counter = fl.frame.counter ∧ (fl.marked bad).frame.capture = fl.frame.capture ∧
    (fl.marked bad).frame.kind = fl.frame.kind := by
  cases bad <;> exact ⟨rfl, rfl, rfl, rfl, rfl, rfl, rfl⟩

theorem State.Steady.notePacket (recv : Nat) (ecc : CsiEcc) (crcOk : Bool) (h : State.Steady q r o s) :
    State.Steady q r o (s.notePacket recv ecc crcOk) := by
  unfold State.notePacket
  extract_lets x
  have hx : State.Steady q r o x := .ite (h.bump (.inl (by unfold Adr.eccCorrected; omega))) h
  clear_value x
  exact .ite (hx.bump (.inl (by unfold Adr.packetErrors; omega))) hx

theorem State.notePacket_within (s : State) (recv : Nat) (ecc : CsiEcc) (crcOk : Bool) :
    State.Within [.dict] s (s.notePacket recv ecc crcOk) :=
  (State.Sound.notePacket (State.Sound.refl _ s) rfl).within

theorem State.notePacket_clean (s : State) (recv : Nat) : s.notePacket recv .clean true = s := rfl

theorem State.linkError_within (s : State) (n : Nat) (bad : Bool) : State.Within [.ingest] s (s.linkError n bad) :=
  (State.Sound.linkError (State.Sound.refl _ s) rfl).within

/-- A packet that is bad marks the frame in progress. -/
theorem State.linkError_slot {n : Nat} (hl : n < s.ingest.slots.length) (bad : Bool) :
    (s.linkError n bad).slotAt n = { s.slotAt n with filling := (s.slotAt n).filling.map (Filling.marked bad) } := by
  unfold State.linkError
  cases bad with
  | true => exact State.slotAt_setSlot s n _ hl
  | false =>
    have hid : Filling.marked false = id := rfl
    rw [hid, Option.map_id]
    rfl

theorem State.Steady.linkError {n : Nat} (bad : Bool) (h : State.Steady q r o s) (hq : ignoresSlot q n) :
    State.Steady q r o (s.linkError n bad) := by
  unfold State.linkError
  split
  · exact h.setSlot (hq _ _)
  · exact h

end

/-! ## The end of a frame (R90, R94, R95) -/

/-- The bytes under the checksum are 60, whatever they spell: the checksum itself is not evaluated. -/
theorem length_frameHeader (n : Nat) (f : Frame) : (frameHeader n f).length = 64 := by
  have h : ∀ body : Bytes, body.length = 60 → (body ++ leBytes 4 (crc32c body)).length = 64 := by
    intro body hb
    rw [List.length_append, hb, length_leBytes]
  refine h _ ?_
  simp only [List.length_append, List.length_cons, List.length_nil, List.length_replicate, length_leBytes]

/-- The guard blocks of a frame are those of its data, whatever its flags and times. -/
theorem Filling.length_guardBlocks_congr {fl gl : Filling} (hk : gl.frame.kind = fl.frame.kind) (hr : gl.rows = fl.rows)
    (hs : gl.stored = fl.stored) : gl.guardBlocks.length = fl.guardBlocks.length := by
  unfold Filling.guardBlocks
  rw [hk, hr, hs]
  split
  · rw [List.length_map, List.length_map]
  · rfl

/-- The frame in progress as it ends at time `t`. -/
def Filling.closed (fl : Filling) (t : Nat) (truncated : Bool) : Filling :=
  let f := { fl.frame with endTime := t }
  { fl with frame := if truncated then f.flag flTruncated else f }

/-- TRUNCATED_FRAMES counts a frame that ends with the flag. -/
def State.countTruncated (s : State) (n : Nat) (f : Frame) : State :=
  if bitAt f.flags flTruncated then s.bump (Adr.truncatedFrames n) else s

/-- What the end of frame `fl` brings about behind the count of truncated frames. -/
def State.finishFrame (s : State) (n t : Nat) (fl : Filling) : State :=
  let f := fl.frame
  let s := if bitAt f.flags flLink then s.bump (Adr.linkErrors n) else s
  let s := match fl.buffer with
    | some i => s.completeFrame n i fl
    | none => s.setSlot n (fun x => { x with
        filling := none, drops := x.drops.map (fun d => if d.counter == f.counter then { d with endTime := t } else d) })
  let gone := !((s.slotAt n).buffers.any (fun b => b.frame.counter == f.counter && b.frame.start == f.start && b.state != .free))
  if f.kind == 0 && s.flagAt (Adr.statsEnable n) then
    s.setSlot n (fun x => { x with stats := x.stats ++ [{ frame := f, rows := fl.rows, dropped := gone }] })
  else s

theorem State.endFrame_none {s : State} {n : Nat} (h : (s.slotAt n).filling = none) (t : Nat) (truncated : Bool) :
    s.endFrame n t truncated = s := by
  rw [State.endFrame, h]

theorem State.endFrame_some {s : State} {n : Nat} {fl : Filling} (h : (s.slotAt n).filling = some fl) (t : Nat)
    (truncated : Bool) : s.endFrame n t truncated =
      (s.countTruncated n (fl.closed t truncated).frame).finishFrame n t (fl.closed t truncated) := by
  rw [State.endFrame, h]
  rfl

theorem Filling.closed_kept (fl : Filling) (t : Nat) (truncated : Bool) : (fl.closed t truncated).buffer = fl.buffer ∧
    (fl.closed t truncated).guardBlocks.length = fl.guardBlocks.length :=
  ⟨rfl, Filling.length_guardBlocks_congr (by cases truncated <;> rfl) rfl rfl⟩

theorem bitAt_setBit (m k : Nat) : bitAt (setBit m k true) k = true := by
  unfold setBit
  split
  · rename_i h
    simpa using h
  · rename_i h
    rw [if_pos rfl]
    simp only [bitAt, beq_iff_eq] at h ⊢
    rw [Nat.add_div_right _ (Nat.two_pow_pos k)]
    omega

theorem Filling.closed_truncated (fl : Filling) (t : Nat) : bitAt (fl.closed t true).frame.flags flTruncated = true :=
  bitAt_setBit _ _

section
variable {s : State} {n : Nat}

/-- The bytes outside the header and the guard words of frame `fl` in buffer `i`. -/
def State.besideFrame (s : State) (n i : Nat) (fl : Filling) (a : Nat) : Prop :=
  a < s.bufferBase n i ∨ s.bufferBase n i + 64 + 4 * fl.guardBlocks.length ≤ a

/-- R95: guard words and header stay in the first bytes of the buffer, and the slot has no frame in progress then. -/
theorem State.completeFrame_spec (hs : s.Inv) (hn : n < 48) (i : Nat) (fl : Filling) :
    State.Steady (fun _ => ()) (s.besideFrame n i fl) s (s.completeFrame n i fl) ∧
      ((s.completeFrame n i fl).slotAt n).filling = none := by
  unfold State.completeFrame
  extract_lets base words
  split
  rename_i bad1 s1 e1
  have h1 : State.Steady (fun _ => ()) (s.besideFrame n i fl) s s1 := by
    have hw := (State.Steady.refl (q := fun _ => ()) (r := s.besideFrame n i fl) hs).ingestWrites (n := n) (pieces := words)
      (unit_ignores n).sees fun p hp y hy => ?_
    · rwa [e1] at hw
    · obtain ⟨⟨b, k⟩, hb, rfl⟩ := List.mem_map.1 hp
      have hk : k < fl.guardBlocks.length := by
        have := List.snd_lt_of_mem_zipIdx hb
        omega
      unfold State.besideFrame at hy
      simp only [length_leBytes]
      omega
  extract_lets x f header
  split
  rename_i bad2 s2 e2
  have h2 : State.Steady (fun _ => ()) (s.besideFrame n i fl) s s2 := by
    have hw := h1.ingestWrite (n := n) (a := base) (bs := header) (unit_ignores n).sees fun y hy => ?_
    · rwa [e2] at hw
    · unfold State.besideFrame at hy
      have hl : header.length = 64 := length_frameHeader n f
      omega
  extract_lets s3 s4 s5
  have h3 : State.Steady (fun _ => ()) (s.besideFrame n i fl) s s3 := h2.setSlot rfl
  have hf : frameIn n s3.ingest.slots = none :=
    congrArg Slot.filling (State.slotAt_setSlot s2 n _ (h2.inv.slot_lt hn))
  clear_value s3
  suffices h : ∀ x, State.Steady (frameIn n) (s.besideFrame n i fl) s3 x →
      State.Steady (fun _ => ()) (s.besideFrame n i fl) s x ∧ (x.slotAt n).filling = none by
    have hq := frameIn_sees n n
    have r3 : State.Steady (frameIn n) (s.besideFrame n i fl) s3 s3 := .refl h3.inv
    have r4 : State.Steady (frameIn n) (s.besideFrame n i fl) s3 s4 := r3.setBeside hq fun _ => rfl
    have r5 : State.Steady (frameIn n) (s.besideFrame n i fl) s3 s5 := r4.setBuffer hq
    clear_value s5
    split
    · exact h _ ((r3.accountDrop _ _ hq).freeBuffer _ hq)
    · split
      · rename_i x hx
        exact h _ (r5.shapeEnded hq hx)
      · exact h _ (r5.deliver _ _ hq)
  intro x hx
  exact ⟨h3.trans (hx.tells fun _ => ()), hx.slots.trans hf⟩

theorem State.finishFrame_spec (hs : s.Inv) (hn : n < 48) (t : Nat) (fl : Filling) {r : Nat → Prop}
    (hr : ∀ i, fl.buffer = some i → ∀ a, r a → s.besideFrame n i fl a) :
    State.Steady (fun _ => ()) r s (s.finishFrame n t fl) ∧ ((s.finishFrame n t fl).slotAt n).filling = none := by
  unfold State.finishFrame
  extract_lets f s1 s2 gone
  have h1 : State.Steady (fun _ => ()) r s s1 :=
    .ite (.bump (.refl hs) (ingestCounts_slot (by decide) (by decide))) (.refl hs)
  clear_value s1
  have h2 : State.Steady (fun _ => ()) r s s2 ∧ frameIn n s2.ingest.slots = none := by
    unfold s2
    split
    · rename_i i hi
      obtain ⟨hc, hf⟩ := State.completeFrame_spec h1.inv hn i fl
      refine ⟨⟨hc.inv, fun a ha => (hc.vals a ha).trans (h1.vals a ha), rfl, fun a ha => ?_⟩, hf⟩
      refine (hc.cells a ?_).trans (h1.cells a ha)
      have := hr i hi a ha
      unfold State.besideFrame at this ⊢
      rwa [h1.bufferBase hn]
    · exact ⟨h1.setSlot rfl, congrArg Slot.filling (State.slotAt_setSlot s1 n _ (h1.inv.slot_lt hn))⟩
  clear_value s2
  obtain ⟨h2, hf⟩ := h2
  split
  · refine ⟨h2.setSlot rfl, Eq.trans ?_ hf⟩
    exact frameIn_sees n n _ _ fun _ => rfl
  · exact ⟨h2, hf⟩

theorem State.finishFrame_mem {fl : Filling} (h : fl.buffer = none) (t : Nat) : (s.finishFrame n t fl).mem = s.mem := by
  unfold State.finishFrame
  rw [h]
  extract_lets f s1 s2 gone
  have h1 : s1.mem = s.mem := by
    unfold s1
    split <;> simp
  split <;> exact h1

theorem State.countTruncated_steady (hs : s.Inv) (n : Nat) (f : Frame) :
    (s.countTruncated n f).Inv ∧ State.Within [.dict] s (s.countTruncated n f) := by
  unfold State.countTruncated
  split
  · have h : State.Sound [.dict] s s.tick.now (s.bump (Adr.truncatedFrames n)) := .bump (.refl _ s) rfl
    exact ⟨h.good hs, h.within⟩
  · exact ⟨hs, .refl _ _⟩

/-- The addresses of the slot's objects of the ring are none that the count of truncated frames writes. -/
theorem State.bufferBase_countTruncated (hs : s.Inv) (n i : Nat) (f : Frame) :
    (s.countTruncated n f).bufferBase n i = s.bufferBase n i := by
  have hv : ∀ k < 0xF0, (s.bump (Adr.truncatedFrames n)).valAt ((0x1001 + 8 * n) * 256 + k) =
      s.valAt ((0x1001 + 8 * n) * 256 + k) := by
    intro k hk
    refine State.valAt_bump_other hs.1.1 ?_ ?_
    · unfold Adr.truncatedFrames
      omega
    · unfold wrapFlagOf Adr.truncatedFrames
      simp only [beq_iff_eq]
      split <;> omega
  unfold State.countTruncated
  split
  · simp only [State.bufferBase, State.numAt, Adr.ringAddr, Adr.bufferBytes, hv 1 (by decide), hv 3 (by decide)]
  · rfl

/-- R90, R95: the end of a frame in progress, as far as its count, its slot and memory go. -/
theorem State.endFrame_spec {fl : Filling} (hs : s.Inv) (hn : n < 48) (hf : (s.slotAt n).filling = some fl) (t : Nat)
    (truncated : Bool) : let x := s.endFrame n t truncated
    (x.slotAt n).filling = none ∧ (fl.buffer = none → x.mem = s.mem) ∧
      (∀ i, fl.buffer = some i → ∀ a, s.besideFrame n i fl a → x.mem.cells.byte a = s.mem.cells.byte a) ∧
      (truncated = true → x.numAt (Adr.truncatedFrames n) =
        (s.bump (Adr.truncatedFrames n)).numAt (Adr.truncatedFrames n)) := by
  rw [State.endFrame_some hf]
  obtain ⟨hb, hg⟩ := fl.closed_kept t truncated
  have htrunc : truncated = true →
      s.countTruncated n (fl.closed t truncated).frame = s.bump (Adr.truncatedFrames n) := by
    rintro rfl
    exact if_pos (fl.closed_truncated t)
  generalize fl.closed t truncated = gl at hb hg htrunc ⊢
  obtain ⟨hu, hw⟩ := State.countTruncated_steady hs n gl.frame
  have hbase := fun i => State.bufferBase_countTruncated hs n i gl.frame
  have hmem := hw.mem rfl
  generalize s.countTruncated n gl.frame = u at hu hbase hmem htrunc ⊢
  obtain ⟨hx, hnone⟩ := State.finishFrame_spec (r := fun a => ∀ i, gl.buffer = some i → u.besideFrame n i gl a) hu hn t gl
    fun i hi a ha => ha i hi
  refine ⟨hnone, fun h => (State.finishFrame_mem (hb.trans h) t).trans hmem, fun i hi a ha => ?_, fun htr => ?_⟩
  · refine (hx.cells a fun j hj => ?_).trans (by rw [hmem])
    obtain rfl : i = j := Option.some.inj (hi.symm.trans (hb.symm.trans hj))
    unfold State.besideFrame at ha ⊢
    rwa [hbase, hg]
  · rw [hx.numAt (ingestKept_truncatedFrames hn), htrunc htr]

end

/-! ## The start of a frame (R90 to R96) -/

/-- A frame that starts is given its buffer, or dropped for want of one. -/
def State.placeFrame (s : State) (n cause : Nat) (buffer : Option Nat) (f : Frame) (camera torn : Bool) : State :=
  match buffer with
  | none => s.accountDrop n cause f
  | some i =>
    let s := s.setBuffer n i (fun _ => { Buffer.zero with state := .filling, frame := f })
    match s.contextOf n with
    | some c => if camera then s.startShaping c i f torn else s
    | none => s

/-- The frame in progress right after its start. -/
def Filling.fresh (f : Frame) (cause : Nat) (buffer : Option Nat) (t : Nat) : Filling :=
  { buffer := buffer, frame := f, rows := [], stored := [], dropCause := cause, marker := 65536, lastPacket := t }

/-- A slot that a drop is noted in (R100). -/
def Slot.noteDrop (cause : Nat) (f : Frame) (x : Slot) : Slot :=
  { x with
    dropsBefore := min (x.dropsBefore + 1) 65535, lastDrop := cause,
    drops := x.drops ++ [{ counter := f.counter, capture := f.capture, endTime := f.endTime }] }

/-- A slot whose buffer `i` is filled with frame `f`. -/
def Slot.fillBuffer (x : Slot) (i : Nat) (f : Frame) : Slot :=
  { x with buffers := modifyAt x.buffers i fun _ => { Buffer.zero with state := .filling, frame := f } }

/-- What the start of a frame makes of its slot. -/
structure Slot.Opens (x : Slot) (fl : Filling) (y : Slot) : Prop where
  filling : y.filling = some fl
  counter : y.nextCounter = (x.nextCounter + 1) % 2 ^ 32
  buffers : y.buffers = x.buffers

/-- R90 to R96: the frame that starts, in the buffer that is taken for it. -/
theorem State.beginFrame_eq {s v : State} {n fill cause : Nat} {buffer : Option Nat}
    (hb : s.takeBuffer n fill = ((cause, buffer), v)) (t : Nat) (torn : Bool) : ∃ (f : Frame) (g : Slot → Slot),
      f.counter = (s.slotAt n).nextCounter ∧ f.capture = t - s.numAt (Adr.tsAdjust n) ∧
      (∀ x : Slot, x.nextCounter = (s.slotAt n).nextCounter → x.Opens (Filling.fresh f cause buffer t) (g x)) ∧
      s.beginFrame n fill t torn = (v.setSlot n g).placeFrame n cause buffer f (s.numAt (Adr.sourceKind n) == 0) torn := by
  unfold State.beginFrame
  extract_lets x kind camera counter capture st
  split
  extract_lets uncertain flags f
  rw [hb]
  refine ⟨f, _, rfl, rfl, ?_, rfl⟩
  exact fun y hy => ⟨rfl, congrArg (fun k => (k + 1) % 2 ^ 32) hy.symm, rfl⟩

theorem State.reportIngest_slots (s : State) (w : Actor) (a : Nat) (m : Met) :
    (s.reportIngest w a m).2.ingest.slots = s.ingest.slots :=
  congrArg Ingest.slots ((State.Sound.reportIngest (State.Sound.refl [.dict, .tally, .queues, .mem, .bin, .log] s) rfl
    ).snd.within.ingest rfl)

/-- R117: the regions of a frame are read beside the slots. -/
theorem State.startShaping_slots (s : State) (c buffer : Nat) (f : Frame) (torn : Bool) :
    (s.startShaping c buffer f torn).ingest.slots = s.ingest.slots := by
  unfold State.startShaping
  extract_lets cfg base static w a
  split
  rename_i p g s1 e
  suffices h : s1.ingest.slots = s.ingest.slots by
    simp only [State.setCtx, State.bumpBy_frame, h]
  replace e := congrArg (fun y : Shaping × State => y.2.ingest.slots) e
  refine Eq.trans e.symm ?_
  dsimp only
  clear e
  split
  · rfl
  · split <;> split
    case' isTrue.isFalse | isFalse.isFalse => split
    all_goals simp only [State.bump_frame, State.reportIngest_slots]

section
variable {s : State} {n : Nat}

/-- The slot of a frame that got buffer `i`: the shaping that starts with it stands beside the slots. -/
theorem State.placeFrame_slot (cause i : Nat) (f : Frame) (camera torn : Bool) (hl : n < s.ingest.slots.length) :
    (s.placeFrame n cause (some i) f camera torn).slotAt n = (s.slotAt n).fillBuffer i f := by
  have hb : (s.setBuffer n i fun _ => { Buffer.zero with state := .filling, frame := f }).slotAt n =
    (s.slotAt n).fillBuffer i f := State.slotAt_setSlot s n _ hl
  simp only [State.placeFrame]
  split
  · split
    · rw [State.slotAt, State.startShaping_slots]
      exact hb
    · exact hb
  · exact hb

/-- R100: the slot of a frame that is dropped. -/
theorem State.accountDrop_slots (s : State) (n cause : Nat) (f : Frame) :
    (s.accountDrop n cause f).ingest.slots = modifyAt s.ingest.slots n (Slot.noteDrop cause f) := by
  unfold State.accountDrop
  extract_lets x1 x2 x3 x4
  have hx : x4.ingest = s.ingest := by simp only [x4, x2, x1, State.bump_frame]
  rw [State.setSlot_ingest, hx]
  rfl

theorem State.accountDrop_counts (cause : Nat) (f : Frame) :
    (s.accountDrop n cause f).tick.framesDropped = s.tick.framesDropped + 1 ∧ (s.accountDrop n cause f).mem = s.mem := by
  unfold State.accountDrop
  extract_lets x1 x2 x3 x4
  simp only [State.setSlot_frame, x4, x2, x1, State.bump_frame]
  exact ⟨trivial, trivial⟩

/-- R99: within the level of a slot the buffer is looked for in the ring. -/
theorem State.takeBuffer_within {fill : Nat} (h : s.guaranteedNow n = true ∨
    fill * 100 ≤ (50 + 5 * s.numAt (Adr.priority n)) * 4194304) :
    (∀ b i, (s.ring n).find? (fun e => e.1.state == .free) = some (b, i) → s.takeBuffer n fill = ((0, some i), s)) ∧
      ((∀ e ∈ s.ring n, e.1.state ≠ .free) → s.numAt (Adr.ringMode n) = 0 → s.takeBuffer n fill = ((1, none), s)) := by
  have hc : ¬ (!(s.guaranteedNow n) && (50 + 5 * s.numAt (Adr.priority n)) * 4194304 < fill * 100) = true := by
    obtain h | h := h
    · simp [h]
    · simp only [Bool.and_eq_true, decide_eq_true_eq, not_and]
      omega
  unfold State.takeBuffer
  extract_lets p
  rw [if_neg hc]
  refine ⟨fun b i hf => by rw [hf], fun hf hm => ?_⟩
  rw [List.find?_eq_none.2 fun e he => by simpa using hf e he, hm]
  rfl

theorem State.ring_lt {b : Buffer} {i : Nat} (h : (b, i) ∈ s.ring n) : i < (s.slotAt n).buffers.length := by
  have := List.snd_lt_of_mem_zipIdx (List.mem_of_mem_filter h)
  omega

/-- R96: a frame that starts where a FREE buffer is found takes it. -/
theorem State.beginFrame_takes {fill i : Nat} (hl : n < s.ingest.slots.length) (hb : s.takeBuffer n fill = ((0, some i), s))
    (hi : i < (s.slotAt n).buffers.length) (t : Nat) (torn : Bool) :
    let x := (s.beginFrame n fill t torn).slotAt n
    (∃ f : Frame, f.counter = (s.slotAt n).nextCounter ∧ f.capture = t - s.numAt (Adr.tsAdjust n) ∧
      x.filling = some (Filling.fresh f 0 (some i) t)) ∧
      x.nextCounter = ((s.slotAt n).nextCounter + 1) % 2 ^ 32 ∧ (nth x.buffers i Buffer.zero).state = .filling := by
  obtain ⟨f, g, hcount, hcap, hg, he⟩ := State.beginFrame_eq hb t torn
  obtain ⟨hfill, hnext, hbufs⟩ := hg _ rfl
  have hl' : n < (s.setSlot n g).ingest.slots.length := by simpa using hl
  rw [he, State.placeFrame_slot _ _ _ _ _ hl', State.slotAt_setSlot s n g hl]
  refine ⟨⟨f, hcount, hcap, hfill⟩, hnext, ?_⟩
  rw [Slot.fillBuffer, hbufs, nth_modifyAt_same _ _ hi]

/-- R96, R100: a frame that starts where no buffer is taken is dropped. -/
theorem State.beginFrame_drops {fill : Nat} (hl : n < s.ingest.slots.length) (hb : s.takeBuffer n fill = ((1, none), s))
    (t : Nat) (torn : Bool) :
    let x := s.beginFrame n fill t torn
    (∃ f : Frame, f.counter = (s.slotAt n).nextCounter ∧ (x.slotAt n).filling = some (Filling.fresh f 1 none t)) ∧
      (x.slotAt n).buffers = (s.slotAt n).buffers ∧ x.tick.framesDropped = s.tick.framesDropped + 1 ∧ x.mem = s.mem := by
  obtain ⟨f, g, hcount, -, hg, he⟩ := State.beginFrame_eq hb t torn
  obtain ⟨hfill, -, hbufs⟩ := hg _ rfl
  obtain ⟨hd, hm⟩ := State.accountDrop_counts (s := s.setSlot n g) (n := n) 1 f
  have hx : (s.beginFrame n fill t torn).slotAt n = Slot.noteDrop 1 f (g (s.slotAt n)) := by
    rw [he, State.slotAt, State.placeFrame, State.accountDrop_slots, nth_modifyAt_same _ _ (by simpa using hl)]
    exact congrArg _ (State.slotAt_setSlot s n g hl)
  intro x
  rw [show x.slotAt n = _ from hx, show x = _ from he]
  exact ⟨⟨f, hcount, hfill⟩, hbufs, hd, hm⟩

end

/-- The frame of slot `n` starts by packet or first data `src` (R90): the FS of its receiver and virtual channel, or, for a
slot that is no camera's, what its own source brings. -/
def State.startedBy (u : State) (slot : Fin 48) (src : FrameSource) : Prop :=
  (∃ recv vc ecc, src = .csi recv vc ecc ∧ u.slotsOf recv.val vc = [slot.val]) ∨
    (src = .slot slot ∧ u.numAt (Adr.sourceKind slot.val) ≠ 0)

/-- A command that starts a frame in a slot without one begins the frame; an FS counts its header's outcome before, and a bad
one marks the frame. -/
theorem exec_frameStart {s u : State} {t : Nat} (hu : s.advance t = u) (hi : u.Inv) {slot : Fin 48} {src : FrameSource}
    (hsrc : u.startedBy slot src) (hr : u.receives slot.val = true) (hf : (u.slotAt slot.val).filling = none) (fill : Nat)
    (torn : List (Fin 16)) : ∃ (v : State) (tornNow bad : Bool),
      State.Steady id (fun _ => True) u v ∧ State.Within [.dict] u v ∧
        exec (.frameStart t src fill torn) s = .next ((v.beginFrame slot.val fill t tornNow).linkError slot.val bad) := by
  have hruns : u.ingestRuns = true := (Bool.and_eq_true_iff.1 hr).2
  obtain ⟨recv, vc, ecc, rfl, hs⟩ | ⟨rfl, hk⟩ := hsrc
  · have hv : State.Steady id (fun _ => True) u (u.notePacket recv.val ecc true) := (State.Steady.refl hi).notePacket _ _ _
    refine ⟨u.notePacket recv.val ecc true, (u.notePacket recv.val ecc true).tornAt slot.val torn, ecc == .uncorrectable, hv,
      u.notePacket_within _ _ _, ?_⟩
    show Host.Outcome.next (doFrameStart t (.csi recv vc ecc) fill torn s) = _
    rw [doFrameStart, hu]
    simp only [hruns, if_true, State.frameStartPacket, hv.slotsOf, hs, List.foldl_cons, List.foldl_nil, State.startCamera]
    rw [State.endFrame_none (by rw [hv.slotAt, hf])]
  · refine ⟨u, false, false, .refl hi, .refl _ _, ?_⟩
    show Host.Outcome.next (doFrameStart t (.slot slot) fill torn s) = _
    rw [doFrameStart, hu]
    simp [hr, hk, hf, State.linkError]

/-! ## The bandwidth abort (R99) -/

section
variable {s : State} {n : Nat}

/-- R99: an abort takes the frame of slot `m` no later than that of slot `k`. -/
def State.abortsBefore (s : State) (m k : Nat) : Prop :=
  s.numAt (Adr.priority m) < s.numAt (Adr.priority k) ∨ s.numAt (Adr.priority m) = s.numAt (Adr.priority k) ∧ k ≤ m

/-- Of two slots the one of lower PRIORITY, or the second. -/
def State.lower (s : State) (m k : Nat) : Nat := if s.numAt (Adr.priority k) ≤ s.numAt (Adr.priority m) then k else m

/-- Of slots in rising order, the fold takes one that comes before all. -/
theorem State.abortsBefore_foldl (ns : List Nat) (h : (n :: ns).Pairwise (· < ·)) :
    ns.foldl s.lower n ∈ n :: ns ∧ ∀ k ∈ n :: ns, s.abortsBefore (ns.foldl s.lower n) k := by
  induction ns generalizing n with
  | nil => exact ⟨List.mem_cons_self, List.forall_mem_singleton.2 (.inr ⟨rfl, Nat.le_refl n⟩)⟩
  | cons k ks ih =>
    obtain ⟨hn, hks⟩ := List.pairwise_cons.1 h
    obtain ⟨-, hks'⟩ := List.pairwise_cons.1 hks
    have hnk : n < k := hn k List.mem_cons_self
    rw [List.foldl_cons, State.lower]
    split
    · obtain ⟨hmem, hall⟩ := ih hks
      refine ⟨List.mem_cons_of_mem _ hmem, List.forall_mem_cons.2 ⟨?_, hall⟩⟩
      have := hall k List.mem_cons_self
      unfold State.abortsBefore at this ⊢
      omega
    · obtain ⟨hmem, hall⟩ := ih (List.pairwise_cons.2 ⟨fun j hj => hn j (List.mem_cons_of_mem _ hj), hks'⟩)
      obtain ⟨hfirst, hrest⟩ := List.forall_mem_cons.1 hall
      refine ⟨?_, List.forall_mem_cons.2 ⟨hfirst, List.forall_mem_cons.2 ⟨?_, hrest⟩⟩⟩
      · exact List.mem_cons.2 ((List.mem_cons.1 hmem).imp_right (List.mem_cons_of_mem _))
      · unfold State.abortsBefore at hfirst ⊢
        omega

/-- A slot that has a frame to abort: not guaranteed, with a buffer. -/
def State.abortable (s : State) (n : Nat) : Prop :=
  s.guaranteedNow n = false ∧ ∃ fl, (s.slotAt n).filling = some fl ∧ fl.buffer.isSome = true

/-- R99: of the slots with a frame to abort, one that comes before all others is the one. -/
theorem State.abortVictim_eq (hn : n < 48) (ha : s.abortable n) (hall : ∀ k < 48, s.abortable k → s.abortsBefore n k) :
    s.abortVictim = some n := by
  have habortable : ∀ k, (!(s.guaranteedNow k) && (match (s.slotAt k).filling with
      | some fl => fl.buffer.isSome | none => false)) = true ↔ s.abortable k := by
    intro k
    unfold State.abortable
    cases (s.slotAt k).filling <;> simp
  unfold State.abortVictim
  extract_lets open_
  have hmem : ∀ k, k ∈ open_ ↔ k < 48 ∧ s.abortable k := fun k => by
    rw [List.mem_filter, List.mem_range]
    exact and_congr_right fun _ => habortable k
  have hsorted : open_.Pairwise (· < ·) := List.pairwise_lt_range.filter _
  clear_value open_
  cases open_ with
  | nil => exact absurd ((hmem n).2 ⟨hn, ha⟩) List.not_mem_nil
  | cons k ks =>
    obtain ⟨hm, hbefore⟩ := State.abortsBefore_foldl (s := s) ks hsorted
    have h1 := hbefore n ((hmem n).2 ⟨hn, ha⟩)
    have h2 := hall _ ((hmem _).1 hm).1 ((hmem _).1 hm).2
    unfold State.abortsBefore at h1 h2
    exact congrArg some (show ks.foldl s.lower k = n by omega)

/-- R99: the frame in progress that is dropped loses its buffer, which is FREE again, and no other slot changes. -/
theorem State.dropFilling_spec {fl : Filling} {i : Nat} (hl : n < s.ingest.slots.length)
    (hf : (s.slotAt n).filling = some fl) (hb : fl.buffer = some i) (cause : Nat) :
    let x := s.dropFilling n cause
    (x.slotAt n).filling = some { fl with buffer := none, dropCause := cause } ∧
      (i < (s.slotAt n).buffers.length → (nth (x.slotAt n).buffers i Buffer.zero).state = .free) ∧
      (∀ k, k ≠ n → x.slotAt k = s.slotAt k) ∧ x.tick.framesDropped = s.tick.framesDropped + 1 ∧ x.mem = s.mem := by
  have hdrop : s.dropFilling n cause = ((s.accountDrop n cause fl.frame).freeBuffer n i).setSlot n fun x =>
      { x with filling := some { fl with buffer := none, dropCause := cause } } := by
    unfold State.dropFilling
    simp only [hf, hb]
  obtain ⟨hcount, hmem⟩ := State.accountDrop_counts (s := s) (n := n) cause fl.frame
  have hg := s.accountDrop_slots n cause fl.frame
  generalize s.accountDrop n cause fl.frame = v at hdrop hcount hmem hg
  have hbufs : (v.slotAt n).buffers = (s.slotAt n).buffers := by
    rw [State.slotAt, hg, nth_modifyAt_same _ _ hl]
    rfl
  have hv : n < v.ingest.slots.length := by rw [hg]; simpa using hl
  have hfree : (v.freeBuffer n i).slotAt n = { v.slotAt n with buffers := modifyAt (v.slotAt n).buffers i fun b =>
      { b with state := .free, holder := .nobody, shapePending := false } } := State.slotAt_setSlot (v.unshape n i) n _ hv
  have hlen : n < (v.freeBuffer n i).ingest.slots.length :=
    Nat.lt_of_lt_of_eq hv (length_modifyAt v.ingest.slots n _).symm
  intro x
  have hx : x.slotAt n = _ := (congrArg (State.slotAt · n) hdrop).trans (State.slotAt_setSlot _ n _ hlen)
  refine ⟨by rw [hx], fun hi => ?_, fun k hk => ?_, ?_⟩
  · rw [hx, hfree]
    dsimp only
    rw [nth_modifyAt_same _ _ (by rw [hbufs]; exact hi)]
  · refine (congrArg (State.slotAt · k) hdrop).trans ?_
    calc nth (modifyAt (v.freeBuffer n i).ingest.slots n _) k Slot.zero
      _ = nth (modifyAt v.ingest.slots n _) k Slot.zero := nth_modifyAt_other _ _ hk
      _ = nth v.ingest.slots k Slot.zero := nth_modifyAt_other _ _ hk
      _ = s.slotAt k := by rw [hg, nth_modifyAt_other _ _ hk, State.slotAt]
  · have ht : x.tick = v.tick ∧ x.mem = v.mem := by
      rw [show x = _ from hdrop]
      exact ⟨rfl, rfl⟩
    rw [ht.1, ht.2]
    exact ⟨hcount, hmem⟩

end

/-! ## The commands -/

section
variable {s u : State} {t : Nat}

/-- R86: an FS or FE that no running slot selects. -/
theorem exec_frame_unmatched (hu : s.advance t = u) (hr : u.ingestRuns = true) (recv : Fin 8) (vc fill : Nat)
    (torn : List (Fin 16)) (hs : u.slotsOf recv.val vc = []) :
    exec (.frameStart t (.csi recv vc .clean) fill torn) s = .next (u.bump (Adr.csiUnmatched recv.val)) ∧
      exec (.frameEnd t ⟨recv, vc, .clean⟩) s = .next (u.bump (Adr.csiUnmatched recv.val)) := by
  constructor
  · show Host.Outcome.next (doFrameStart t (.csi recv vc .clean) fill torn s) = _
    simp only [doFrameStart, hu, hr, if_true, State.frameStartPacket, State.notePacket_clean, hs]
  · show Host.Outcome.next (doFrameEnd t recv vc .clean s) = _
    simp only [doFrameEnd, hu, hr, if_true, State.frameEndPacket, State.notePacket_clean, hs]

theorem exec_bandwidthAbort {n fill : Nat} (hu : s.advance t = u) (hr : u.ingestRuns = true)
    (hfill : 95 * 4194304 < fill * 100) (hn : u.abortVictim = some n) :
    exec (.bandwidthAbort t fill) s = .next (u.dropFilling n 2) := by
  show Host.Outcome.next (doBandwidthAbort t fill s) = _
  rw [doBandwidthAbort, hu]
  simp only [hr, hn, Bool.not_true, Bool.false_or, decide_eq_true_eq]
  rw [if_neg (by omega)]

/-- R90, R95: an FE ends the frame in progress of the one slot that its receiver and virtual channel select. -/
theorem exec_frameEnd {n : Nat} {fl : Filling} (hu : s.advance t = u) (hi : u.Inv) (hr : u.ingestRuns = true) (hn : n < 48)
    (hf : (u.slotAt n).filling = some fl) {recv : Fin 8} {vc : Nat} (hs : u.slotsOf recv.val vc = [n]) (ecc : CsiEcc) :
    ∃ (v : State) (gl : Filling), State.Steady (fun _ => ()) (fun _ => True) u v ∧ v.mem = u.mem ∧
      (v.slotAt n).filling = some gl ∧ gl.buffer = fl.buffer ∧ gl.guardBlocks.length = fl.guardBlocks.length ∧
      exec (.frameEnd t ⟨recv, vc, ecc⟩) s = .next (v.endFrame n t false) := by
  have hp : State.Steady id (fun _ => True) u (u.notePacket recv.val ecc true) := (State.Steady.refl hi).notePacket _ _ _
  have hm := (u.notePacket_within recv.val ecc true).mem rfl
  have he : exec (.frameEnd t ⟨recv, vc, ecc⟩) s =
      .next (((u.notePacket recv.val ecc true).linkError n (ecc == .uncorrectable)).endFrame n t false) := by
    show Host.Outcome.next (doFrameEnd t recv vc ecc s) = _
    simp only [doFrameEnd, hu, hr, if_true, State.frameEndPacket, hp.slotsOf, hs, List.foldl_cons, List.foldl_nil,
      State.endCamera]
  generalize u.notePacket recv.val ecc true = p at hp hm he
  have hl := State.linkError_slot (hp.inv.slot_lt hn) (ecc == .uncorrectable)
  rw [hp.slotAt, hf] at hl
  refine ⟨_, if ecc == .uncorrectable then { fl with frame := fl.frame.flag flLink } else fl,
    (hp.tells fun _ => ()).linkError _ (unit_ignores n), ((p.linkError_within n _).mem rfl).trans hm, ?_, ?_, ?_, he⟩
  · rw [hl]
    rfl
  · split <;> rfl
  · split
    · exact Filling.length_guardBlocks_congr rfl rfl rfl
    · rfl

/-- R90: a camera frame, and one of FRAME_RULE 1, end FRAME_TIMEOUT after their start and after their last packet. -/
theorem exec_frameTimeout {slot : Fin 48} {fl : Filling} (hf : (s.slotAt slot.val).filling = some fl)
    (hr : s.receives slot.val = true) : let limit := s.numAt (Adr.frameTimeout slot.val) * 1000
    (fl.frame.kind = 0 → exec (.frameTimeout slot) s =
      .next ((s.advance (fl.frame.start + limit)).endFrame slot.val (fl.frame.start + limit) true)) ∧
    (fl.frame.kind = 1 → s.numAt (Adr.frameRule slot.val) = 1 → exec (.frameTimeout slot) s =
      .next ((s.advance (fl.lastPacket + limit)).endFrame slot.val (fl.lastPacket + limit) false)) := by
  have he : exec (.frameTimeout slot) s = .next (doFrameTimeout slot s) := rfl
  rw [he]
  unfold doFrameTimeout
  constructor
  · intro hk
    simp [hf, hr, hk]
  · intro hk hrule
    simp [hf, hr, hk, hrule]

theorem State.endFrame_now (s : State) (n t : Nat) (truncated : Bool) :
    (s.endFrame n t truncated).tick.now = s.tick.now :=
  ((State.Sound.endFrame (State.Sound.refl [.dict, .tally, .ingest, .queues, .mem, .bin, .log] s) rfl).within.clock rfl).1

end

section
variable {s u : State} {t : Nat} {slot : Fin 48} {src : FrameSource} {fill : Nat}

theorem State.beginFrame_inv (hi : s.Inv) (n fill t : Nat) (torn : Bool) : (s.beginFrame n fill t torn).Inv :=
  (State.Sound.beginFrame (State.Sound.refl [.dict, .tally, .ingest, .queues, .mem, .bin, .log] s) rfl).good hi

/-- R96: a frame that starts within its slot's level takes the first FREE buffer of the ring. -/
theorem frameStart_takes (hu : s.advance t = u) (hi : u.Inv) (hsrc : u.startedBy slot src)
    (hr : u.receives slot.val = true) (hf : (u.slotAt slot.val).filling = none)
    (hlevel : u.guaranteedNow slot.val = true ∨ fill * 100 ≤ (50 + 5 * u.numAt (Adr.priority slot.val)) * 4194304)
    (torn : List (Fin 16)) {b : Buffer} {i : Nat}
    (hfree : (u.ring slot.val).find? (fun e => e.1.state == .free) = some (b, i)) :
    ∃ (x : State) (y : Filling), exec (.frameStart t src fill torn) s = .next x ∧
      (x.slotAt slot.val).filling = some y ∧ y.buffer = some i ∧
      y.frame.counter = (u.slotAt slot.val).nextCounter ∧
      y.frame.capture = t - u.numAt (Adr.tsAdjust slot.val) ∧ y.rows = [] ∧ y.stored = [] ∧
      (x.slotAt slot.val).nextCounter = ((u.slotAt slot.val).nextCounter + 1) % 2 ^ 32 ∧
      (nth (x.slotAt slot.val).buffers i Buffer.zero).state = .filling := by
  have hn := slot.isLt
  obtain ⟨v, tornNow, bad, hv, -, he⟩ := exec_frameStart hu hi hsrc hr hf fill torn
  have hset := hv.settings hn
  have hi : i < (v.slotAt slot.val).buffers.length := State.ring_lt (b := b) (by
    rw [hv.ring hn]
    exact List.mem_of_find?_eq_some hfree)
  have htake := (State.takeBuffer_within (s := v) (n := slot.val) (fill := fill)
    (by simpa only [hv.guaranteedNow hn, hset] using hlevel)).1 b i (by rwa [hv.ring hn])
  obtain ⟨⟨f, hcount, hcap, hfill⟩, hnext, hstate⟩ := State.beginFrame_takes (hv.inv.slot_lt hn) htake hi t tornNow
  have hx := State.linkError_slot ((State.beginFrame_inv hv.inv slot.val fill t tornNow).slot_lt hn) bad
  obtain ⟨kb, -, kr, ks, kc, kt, -⟩ := (Filling.fresh f 0 (some i) t).marked_kept bad
  rw [hv.slotAt] at hcount hnext
  simp only [hset] at hcap
  refine ⟨_, _, he, ?_, kb, kc.trans hcount, kt.trans hcap, kr, ks, ?_, ?_⟩
  · rw [hx, hfill, Option.map_some]
  · rw [hx, hnext]
  · rw [hx]
    exact hstate

/-- R96, R100: a frame that starts within its slot's level with no FREE buffer in a DROP_NEW ring is dropped. -/
theorem frameStart_drops (hu : s.advance t = u) (hi : u.Inv) (hsrc : u.startedBy slot src)
    (hr : u.receives slot.val = true) (hf : (u.slotAt slot.val).filling = none)
    (hlevel : u.guaranteedNow slot.val = true ∨ fill * 100 ≤ (50 + 5 * u.numAt (Adr.priority slot.val)) * 4194304)
    (torn : List (Fin 16)) (hfree : ∀ e ∈ u.ring slot.val, e.1.state ≠ .free)
    (hmode : u.numAt (Adr.ringMode slot.val) = 0) :
    ∃ (x : State) (y : Filling), exec (.frameStart t src fill torn) s = .next x ∧
      (x.slotAt slot.val).filling = some y ∧ y.buffer = none ∧ y.dropCause = 1 ∧
      y.frame.counter = (u.slotAt slot.val).nextCounter ∧ (x.slotAt slot.val).buffers = (u.slotAt slot.val).buffers ∧
      x.tick.framesDropped = s.tick.framesDropped + 1 ∧ x.mem = s.mem := by
  have hn := slot.isLt
  obtain ⟨v, tornNow, bad, hv, hw, he⟩ := exec_frameStart hu hi hsrc hr hf fill torn
  have hset := hv.settings hn
  have htake := (State.takeBuffer_within (s := v) (n := slot.val) (fill := fill)
    (by simpa only [hv.guaranteedNow hn, hset] using hlevel)).2 (by rwa [hv.ring hn]) (by simpa only [hset] using hmode)
  obtain ⟨⟨f, hcount, hfill⟩, hbufs, hdrops, hmem⟩ := State.beginFrame_drops (hv.inv.slot_lt hn) htake t tornNow
  have hx := State.linkError_slot ((State.beginFrame_inv hv.inv slot.val fill t tornNow).slot_lt hn) bad
  have hl := (v.beginFrame slot.val fill t tornNow).linkError_within slot.val bad
  obtain ⟨kb, kd, -, -, kc, -⟩ := (Filling.fresh f 1 none t).marked_kept bad
  rw [hv.slotAt] at hcount hbufs
  refine ⟨_, _, he, ?_, kb, kd, kc.trans hcount, ?_, ?_, ?_⟩
  · rw [hx, hfill, Option.map_some]
  · rw [hx]
    exact hbufs
  · rw [hl.framesDropped rfl, hdrops, hw.framesDropped rfl, ← hu, (s.advance_within t).framesDropped rfl]
  · rw [hl.mem rfl, hmem, hw.mem rfl, ← hu, (s.advance_within t).mem rfl]

end

/-- Settles O22: a frame starts as `beginFrame` does, in the slot that its packet or first data selects; one that ends leaves
its slot without a frame and writes header and guard words alone. -/
theorem framesStartAndEnd : Obligations.FramesStartAndEnd := by
  unfold Obligations.FramesStartAndEnd
  refine ⟨fun s t fill hs => ?_, fun s slot fl hs => ?_⟩
  · intro u
    have hu : u.Inv := State.advance_inv hs
    refine ⟨fun slot torn src => ?_, fun hr hfill n i fl hn hg hf hb hall => ?_,
      fun recv vc torn hr hnil => exec_frame_unmatched rfl hr recv vc fill torn hnil⟩
    · intro n hsrc hr hnone hlevel
      exact ⟨fun b i hfree => frameStart_takes rfl hu hsrc hr hnone hlevel torn hfree,
        fun hfree hmode => frameStart_drops rfl hu hsrc hr hnone hlevel torn hfree hmode⟩
    · have hvictim : u.abortVictim = some n := State.abortVictim_eq hn ⟨hg, fl, hf, by rw [hb]; rfl⟩
        fun k hk ⟨hgk, fk, hfk, hbk⟩ => hall k fk hk hgk hfk hbk
      obtain ⟨hx, hfree, hother, hcount, hmem⟩ := State.dropFilling_spec (hu.slot_lt hn) hf hb 2
      refine ⟨_, exec_bandwidthAbort rfl hr hfill hvictim, hx, hfree, hother, ?_, ?_⟩
      · rw [hcount, (s.advance_within t).framesDropped rfl]
      · rw [hmem, (s.advance_within t).mem rfl]
  · intro n hf hr limit ended
    have hruns : s.ingestRuns = true := (Bool.and_eq_true_iff.1 hr).2
    have hadv : ∀ t, (s.advance t).Inv ∧ ((s.advance t).slotAt n).filling = some fl ∧ (s.advance t).mem = s.mem :=
      fun t => ⟨State.advance_inv hs, by rw [State.slotAt_advance, hf], (s.advance_within t).mem rfl⟩
    have htimeout : ∀ (t : Nat) (truncated : Bool), let x := (s.advance t).endFrame n t truncated
        (x.slotAt n).filling = none ∧ x.tick.now = (s.advance t).tick.now ∧ (fl.buffer = none → x.mem = s.mem) ∧
        (∀ i, fl.buffer = some i → ended (s.advance t) x i) ∧
        (truncated = true → x.numAt (Adr.truncatedFrames n) =
          (s.bump (Adr.truncatedFrames n)).numAt (Adr.truncatedFrames n)) := by
      intro t truncated
      obtain ⟨hi, hfill, hm⟩ := hadv t
      obtain ⟨hnone, hmem, hcells, hcount⟩ := State.endFrame_spec hi slot.isLt hfill t truncated
      rw [hm] at hmem hcells
      refine ⟨hnone, State.endFrame_now _ _ _ _, hmem, hcells, fun htr => (hcount htr).trans ?_⟩
      exact State.numAt_bump_congr (by simp) (by simp) _ _
    obtain ⟨hcamera, hrule⟩ := exec_frameTimeout hf hr
    refine ⟨fun t recv vc ecc hk hsel => ?_, fun hk => ?_, fun hk hone => ?_⟩
    · obtain ⟨hi, hfill, hm⟩ := hadv t
      obtain ⟨v, gl, hv, hvm, hgl, hgb, hgg, he⟩ :=
        exec_frameEnd rfl hi (by rw [State.ingestRuns_advance, hruns]) slot.isLt hfill hsel ecc
      obtain ⟨hnone, hmem, hcells, -⟩ := State.endFrame_spec hv.inv slot.isLt hgl t false
      rw [hvm, hm, hgb] at hmem
      rw [hvm, hm, hgb] at hcells
      refine ⟨_, he, hnone, hmem, fun i hb a ha => hcells i hb a ?_⟩
      unfold State.besideFrame
      rwa [hgg, hv.bufferBase slot.isLt]
    · obtain ⟨hnone, hnow, hmem, hcells, hcount⟩ := htimeout (fl.frame.start + limit) true
      exact ⟨_, hcamera hk, hnone, hnow, hcount rfl, hmem, hcells⟩
    · obtain ⟨hnone, hnow, hmem, hcells, -⟩ := htimeout (fl.lastPacket + limit) false
      exact ⟨_, hrule hk hone, hnone, hnow, hmem, hcells⟩

end Sys2Proof.Machine

/-! PROOFS of the statement about the samples that join a frame in progress (O23): lines of a camera, Ethernet frames of a
point cloud and audio samples. -/

namespace Sys2Proof.Machine

/-! ## Pieces of a frame (R93) -/

section
variable {β : Type} {q : List Slot → β} {r : Nat → Prop} {o s : State} {n : Nat}

/-- A frame in progress whose buffer and drop cause may be others. -/
def Filling.rehoused (fl : Filling) (buffer : Option Nat) (cause : Nat) : Filling :=
  { fl with buffer := buffer, dropCause := cause }

/-- R99, R195: a drop takes at most the buffer of a frame in progress. -/
theorem State.dropFilling_filling {fl : Filling} (hl : n < s.ingest.slots.length) (hf : (s.slotAt n).filling = some fl)
    (cause : Nat) : ∃ b c, ((s.dropFilling n cause).slotAt n).filling = some (fl.rehoused b c) := by
  cases hb : fl.buffer with
  | none =>
    have hs : s.dropFilling n cause = s := by
      unfold State.dropFilling
      simp only [hf, hb]
    exact ⟨fl.buffer, fl.dropCause, by rw [hs]; exact hf⟩
  | some i => exact ⟨none, cause, (State.dropFilling_spec hl hf hb cause).1⟩

/-- R93, R195: where a piece of a frame has been written, the frame in progress has at most lost its buffer. -/
theorem State.storePiece_filling {fl : Filling} (hs : s.Inv) (hn : n < 48) (hf : (s.slotAt n).filling = some fl)
    (a : Nat) (bs : Bytes) {g : State → State} (hg : ∀ x, (g x).ingest.slots = x.ingest.slots) :
    let w := s.ingestWrite n a bs
    ∃ b c, ((if w.1 then w.2.dropFilling n 4 else g w.2).slotAt n).filling = some (fl.rehoused b c) := by
  intro w
  have hw : State.Steady (frameIn n) (fun _ => False) s w.2 :=
    (State.Steady.refl hs).ingestWrite (frameIn_sees n n) fun _ h => h.elim
  have hwf : (w.2.slotAt n).filling = some fl := hw.slots.trans hf
  split
  · exact State.dropFilling_filling (hw.inv.slot_lt hn) hwf 4
  · exact ⟨fl.buffer, fl.dropCause, by rw [State.slotAt, hg]; exact hwf⟩

/-! ## Lines of a camera (R86, R93) -/

theorem State.servePool_slots (s : State) (t : Nat) : (s.servePool t).ingest.slots = s.ingest.slots := by
  unfold State.servePool
  exact List.foldlRecOn (motive := fun acc : Nat × State => acc.2.ingest.slots = s.ingest.slots) s.poolOrder _ rfl
    fun acc h c _ => h

/-- R122: a line reaches its shaping context beside the slots. -/
theorem State.shapeLine_slots (s : State) (n i k t : Nat) (f : Frame) :
    (s.shapeLine n i k t f).ingest.slots = s.ingest.slots := by
  unfold State.shapeLine
  extract_lets x
  refine List.foldlRecOn (motive := fun y : State => y.ingest.slots = s.ingest.slots) (List.range 16) _
    (s.servePool_slots t) fun y hy c _ => ?_
  extract_lets ctx
  split
  · exact hy
  · split
    · exact hy
    · split <;> exact hy

/-- R93: a line below HEIGHT joins its frame, padded or cut to the frame's width. -/
theorem State.addLine_joins {fl : Filling} (hs : s.Inv) (hn : n < 48) (hh : fl.frame.lines < fl.frame.height)
    (samples : List Nat) (bad : Bool) (t : Nat) :
    ∃ y, ((s.addLine n fl samples bad t).slotAt n).filling = some y ∧ y.frame.lines = fl.frame.lines + 1 ∧
      y.rows = fl.rows ++ [padTo samples (lineValues fl.frame.dataType fl.frame.width) 0] := by
  unfold State.addLine
  extract_lets f want f1 f2 k f3 row gl x
  have hk : k = fl.frame.lines ∧ f3.height = fl.frame.height := by
    unfold k f3 f2 f1
    split <;> split <;> exact ⟨rfl, rfl⟩
  have hgl : f3.lines = fl.frame.lines + 1 := congrArg (· + 1) hk.1
  rw [if_neg (by omega)]
  have hx : State.Steady (fun _ => ()) (fun _ => False) s x := (State.Steady.refl hs).setSlot rfl
  have hf : (x.slotAt n).filling = some gl := congrArg Slot.filling (State.slotAt_setSlot s n _ (hs.slot_lt hn))
  clear_value x
  split
  · exact ⟨gl, hf, hgl, rfl⟩
  · rename_i i hi
    obtain ⟨b, c, hy⟩ := State.storePiece_filling hx.inv hn hf (x.bufferBase n i + x.metaOf n f3 + k * f3.stride)
      (storedLine f3 row) (fun y => State.shapeLine_slots y n i k t f3)
    exact ⟨gl.rehoused b c, hy, hgl, rfl⟩

/-! ## Bytes of a point cloud or of audio (R87, R88, R93) -/

/-- In state `x` bytes `bs` have joined frame `fl` of slot `n` at time `t`, as far as its buffer in state `s` has room. -/
def State.joined (s : State) (n t : Nat) (fl : Filling) (bs : Bytes) (x : State) : Prop :=
  ∃ y, (x.slotAt n).filling = some y ∧
    y.stored = fl.stored ++ bs.take (s.numAt (Adr.bufferBytes n) - s.metaOf n fl.frame - fl.stored.length) ∧ y.lastPacket = t

theorem State.addBytes_inv (hs : s.Inv) (n : Nat) (bs : Bytes) (t : Nat) : (s.addBytes n bs t).Inv :=
  (State.Sound.addBytes (State.Sound.refl [.dict, .tally, .ingest, .queues, .mem, .bin, .log] s) rfl).good hs

theorem State.addBytes_joins {fl : Filling} (hs : s.Inv) (hn : n < 48) (hf : (s.slotAt n).filling = some fl) (bs : Bytes)
    (t : Nat) : s.joined n t fl bs (s.addBytes n bs t) := by
  unfold State.addBytes
  split
  · rename_i hnone
    exact absurd (hnone.symm.trans hf) (Option.some_ne_none fl).symm
  · rename_i fl' hf'
    obtain rfl : fl' = fl := Option.some.inj (hf'.symm.trans hf)
    extract_lets space have_ kept f gl x
    have hx : State.Steady (fun _ => ()) (fun _ => False) s x := (State.Steady.refl hs).setSlot rfl
    have hg : (x.slotAt n).filling = some gl := congrArg Slot.filling (State.slotAt_setSlot s n _ (hs.slot_lt hn))
    clear_value x
    split
    · exact ⟨gl, hg, rfl, rfl⟩
    · rename_i i hi
      obtain ⟨b, c, hy⟩ := State.storePiece_filling hx.inv hn hg (x.bufferBase n i + x.metaOf n f + have_) kept
        (g := id) (fun _ => rfl)
      exact ⟨gl.rehoused b c, hy, rfl, rfl⟩

/-- Bytes that join a frame leave what does not tell of its slot. -/
theorem State.Steady.addBytes (h : State.Steady q (fun _ => False) o s) (hq : ignoresSlot q n) (bs : Bytes) (t : Nat) :
    State.Steady q (fun _ => False) o (s.addBytes n bs t) := by
  unfold State.addBytes
  split
  · exact h
  · extract_lets space have_ kept f gl x
    have hx : State.Steady q (fun _ => False) o x := h.setSlot (hq _ _)
    clear_value x
    split
    · exact hx
    · have hw := fun a => hx.ingestWrite (n := n) (a := a) (bs := kept) hq.sees fun _ h => h.elim
      exact .ite ((hw _).dropFilling 4 hq) (hw _)

/-- The start of a frame that is no camera's leaves what does not tell of its slot. -/
theorem State.Steady.beginFrame (h : State.Steady q (fun _ => False) o s) (hq : ignoresSlot q n)
    (hk : s.numAt (Adr.sourceKind n) ≠ 0) (fill t : Nat) (torn : Bool) :
    State.Steady q (fun _ => False) o (s.beginFrame n fill t torn) := by
  obtain ⟨⟨⟨cause, buffer⟩, v⟩, hb⟩ : ∃ b, s.takeBuffer n fill = b := ⟨_, rfl⟩
  obtain ⟨f, g, -, -, -, he⟩ := State.beginFrame_eq hb t torn
  have hv : State.Steady q (fun _ => False) o (v.setSlot n g) := by
    have := h.takeBuffer fill hq.sees (n := n)
    rw [hb] at this
    exact this.setSlot (hq _ _)
  rw [he, beq_eq_false_iff_ne.2 hk]
  cases buffer with
  | none => exact hv.accountDrop _ _ hq.sees
  | some i =>
    simp only [State.placeFrame]
    split <;> exact hv.setBuffer hq.sees

/-! ## Audio (R88) -/

/-- Whether a slot takes the samples of an edge. -/
def State.takesEdge (s : State) (tdm : Bool) (unit : Fin 2) (n : Nat) : Bool :=
  (s.slotAt n).running && (if tdm then s.numAt (Adr.sourceKind n) == 2 && s.numAt (Adr.sourceUnit n) == unit.val
    else s.numAt (Adr.sourceKind n) == 3 && s.numAt (Adr.audioRate n) == unit.val)

/-- What an edge brings to one slot. -/
def State.audioEdge (t : Nat) (tdm : Bool) (unit : Fin 2) (samples : List Nat) (fill : Nat) (s : State) (n : Nat) : State :=
  if !(s.takesEdge tdm unit n) then s
  else
    let s := if (s.slotAt n).filling.isSome then s else s.beginFrame n fill t false
    s.addBytes n (audioBytes (s.numAt (Adr.audioChannelMask n)) tdm samples) t

theorem exec_audioWordClockEdge {u : State} {t : Nat} (hu : s.advance t = u) (hr : u.ingestRuns = true) (tdm : Bool)
    (unit : Fin 2) (samples : List Nat) (fill : Nat) : exec (.audioWordClockEdge t tdm unit samples fill) s =
      .next ((List.range 48).foldl (State.audioEdge t tdm unit samples fill) u) := by
  show Host.Outcome.next (doAudioWordClockEdge t tdm unit samples fill s) = _
  rw [doAudioWordClockEdge, hu]
  simp only [hr, Bool.not_true, Bool.false_eq_true, if_false]
  rfl

/-- An edge leaves what does not tell of the slot that it comes to. -/
theorem State.Steady.audioEdge (h : State.Steady q (fun _ => False) o s) (hq : ignoresSlot q n) (t : Nat) (tdm : Bool)
    (unit : Fin 2) (samples : List Nat) (fill : Nat) :
    State.Steady q (fun _ => False) o (State.audioEdge t tdm unit samples fill s n) := by
  unfold State.audioEdge
  split
  · exact h
  · rename_i hm
    have hk : s.numAt (Adr.sourceKind n) ≠ 0 := by
      intro hk
      simp [State.takesEdge, hk] at hm
    exact State.Steady.addBytes (.ite h (h.beginFrame hq hk _ _ _)) hq _ _

end

/-- R88: the samples of an edge join the frame in progress of a slot that takes them, whatever it brings to the others. -/
theorem audioEdge_joins {u : State} {n : Nat} {fl : Filling} {tdm : Bool} {unit : Fin 2} (hu : u.Inv) (hn : n < 48)
    (hm : u.takesEdge tdm unit n = true) (hf : (u.slotAt n).filling = some fl) (t : Nat) (samples : List Nat) (fill : Nat) :
    u.joined n t fl (audioBytes (u.numAt (Adr.audioChannelMask n)) tdm samples)
      ((List.range 48).foldl (State.audioEdge t tdm unit samples fill) u) := by
  refine foldl_reaches (x := n) (before := State.Steady (slotIn n) (fun _ => False) u)
    (after := fun v => v.Inv ∧ u.joined n t fl (audioBytes (u.numAt (Adr.audioChannelMask n)) tdm samples) v)
    List.nodup_range (List.mem_range.2 hn) (fun v k _ hk hv => hv.audioEdge (slotIn_ignores (Ne.symm hk)) _ _ _ _ _)
    (fun v hv => ?_) (fun v k _ hk hv => ?_) (.refl hu) |>.2
  · have hslot : v.slotAt n = u.slotAt n := hv.slots
    have hset := hv.settings hn
    have hmine : v.takesEdge tdm unit n = true := by
      rw [← hm]
      simp only [State.takesEdge, hslot, hset]
    have hfv : (v.slotAt n).filling = some fl := by rw [hslot, hf]
    have he : State.audioEdge t tdm unit samples fill v n =
        v.addBytes n (audioBytes (u.numAt (Adr.audioChannelMask n)) tdm samples) t := by
      unfold State.audioEdge
      simp only [hmine, hfv, hset, Bool.not_true, Bool.false_eq_true, if_false, Option.isSome_some, if_true]
    have hj := State.addBytes_joins hv.inv hn hfv (audioBytes (u.numAt (Adr.audioChannelMask n)) tdm samples) t
    rw [he]
    exact ⟨State.addBytes_inv hv.inv _ _ _, by simpa only [State.joined, State.metaOf, hset] using hj⟩
  · obtain ⟨hi, y, hy, hrest⟩ := hv
    have hx := (State.Steady.refl (q := slotIn n) (r := fun _ => False) hi).audioEdge (slotIn_ignores (Ne.symm hk)) t tdm unit
      samples fill
    exact ⟨hx.inv, y, (congrArg Slot.filling hx.slots).trans hy, hrest⟩

/-! ## Packets (R86, R87) -/

section
variable {s u : State}

/-- Whether a running slot selects the packets of a receiver with a virtual channel and a data type. -/
def State.takesPacket (s : State) (p : CsiPacket) (k : Nat) : Bool :=
  (s.slotAt k).running && s.numAt (Adr.sourceKind k) == 0 && s.numAt (Adr.sourceUnit k) == p.recv.val &&
    s.numAt (Adr.vc k) == p.vc && s.numAt (Adr.dataType k) == p.dataType

/-- The slot that a packet goes to. -/
def State.slotFor (s : State) (p : CsiPacket) : Option Nat :=
  (s.slotsOf p.recv.val p.vc).find? (fun k => s.numAt (Adr.dataType k) == p.dataType)

theorem State.slotFor_eq (s : State) (p : CsiPacket) : s.slotFor p = (List.range 48).find? (s.takesPacket p) := by
  rw [State.slotFor, State.slotsOf, List.find?_filter]
  congr 1
  funext k
  simp only [State.takesPacket, Bool.decide_and, Bool.decide_eq_true]

theorem State.takesPacket_congr {r : Nat → Prop} {x : State} (h : State.Steady id r s x) (p : CsiPacket) {k : Nat}
    (hk : k < 48) : x.takesPacket p k = s.takesPacket p k := by
  simp only [State.takesPacket, h.slotAt, h.settings hk]

/-- The first of the slots that a test selects. -/
theorem find?_slot {test : Nat → Bool} {n : Nat} (hn : n < 48) (ht : test n = true) (hb : ∀ k < n, test k = false) :
    (List.range 48).find? test = some n := by
  rw [List.find?_range_eq_some]
  exact ⟨ht, List.mem_range.2 hn, fun k hk => by simp [hb k hk]⟩

theorem find?_no_slot {test : Nat → Bool} (h : ∀ k < 48, test k = false) : (List.range 48).find? test = none :=
  List.find?_eq_none.2 fun k hk => by simp [h k (List.mem_range.1 hk)]

/-- A long packet with its header's and CRC's outcome counted. -/
theorem exec_csiPacket {p : CsiPacket} (hu : s.advance p.t = u) (hr : u.ingestRuns = true) :
    let v := u.notePacket p.recv.val p.ecc p.crcOk
    (p.dataType < 4 → exec (.csiPacket p) s = .next v) ∧
      (4 ≤ p.dataType → v.slotFor p = none → exec (.csiPacket p) s = .next (v.bump (Adr.csiUnmatched p.recv.val))) ∧
      (∀ n fl, 4 ≤ p.dataType → v.slotFor p = some n → (v.slotAt n).filling = some fl → exec (.csiPacket p) s =
        .next (v.addLine n fl (csiSamples p.dataType p.payload) (p.ecc == .uncorrectable || !p.crcOk) p.t)) := by
  intro v
  have he : exec (.csiPacket p) s = .next (doCsiPacket p s) := rfl
  have hd : doCsiPacket p s = if p.dataType < 4 then v else
      match v.slotFor p with
      | none => v.bump (Adr.csiUnmatched p.recv.val)
      | some n => match (v.slotAt n).filling with
        | none => v
        | some fl => v.addLine n fl (csiSamples p.dataType p.payload) (p.ecc == .uncorrectable || !p.crcOk) p.t := by
    unfold doCsiPacket
    rw [hu]
    simp only [hr, Bool.not_true, Bool.false_eq_true, if_false]
    rfl
  rw [he, hd]
  refine ⟨fun h => by rw [if_pos h], fun h hf => ?_, fun n fl h hf hfl => ?_⟩
  · rw [if_neg (by omega), hf]
  · rw [if_neg (by omega), hf]
    simp only [hfl]

/-- R87: an Ethernet frame with a wrong FCS, one that no flow matches, and one that joins a slot of FRAME_RULE 0. -/
theorem exec_ethernetFrame {f : EthFrame} (hu : s.advance f.t = u) (hr : u.ingestRuns = true)
    (hp : f.ethPort.val < u.part.variant.ethPorts) (hsize : ethSize f ≤ 9216) :
    (f.fcsOk = false → exec (.ethernetFrame f) s = .next (u.bump (Adr.fcsErrors f.ethPort.val))) ∧
      (f.fcsOk = true → f.etherType ≠ 0x88F7 → (List.range 48).find? (fun n => u.flowMatches n f) = none →
        exec (.ethernetFrame f) s = .next (u.bump (Adr.ethUnmatched f.ethPort.val))) ∧
      (∀ n fl, f.fcsOk = true → f.etherType ≠ 0x88F7 → (List.range 48).find? (fun n => u.flowMatches n f) = some n →
        u.numAt (Adr.frameRule n) ≠ 1 → (u.slotAt n).filling = some fl → exec (.ethernetFrame f) s =
          .next (u.addBytes n (f.payload.drop (u.numAt (Adr.payloadSkip n))) f.t)) := by
  have he : exec (.ethernetFrame f) s = .next (doEthernetFrame f s) := rfl
  have hin : (!u.ingestRuns || u.part.variant.ethPorts ≤ f.ethPort.val || 9216 < ethSize f) = false := by
    simp only [hr, Bool.not_true, Bool.false_or, Bool.or_eq_false_iff, decide_eq_false_iff_not]
    omega
  rw [he]
  unfold doEthernetFrame
  rw [hu]
  simp only [hin, Bool.false_eq_true, if_false]
  refine ⟨fun hfcs => by rw [hfcs]; rfl, fun hfcs ht hnone => ?_, fun n fl hfcs ht hsome hrule hfl => ?_⟩
  · simp [hfcs, ht, hnone]
  · simp [hfcs, ht, hsome, State.openCloud, hrule, hfl]

end

/-- Settles O23: a packet, an Ethernet frame and an audio edge as far as the slot that they go to. -/
theorem samplesJoinFrames : Obligations.SamplesJoinFrames := by
  unfold Obligations.SamplesJoinFrames
  intro s hs hruns
  have hadv : ∀ t, (s.advance t).Inv ∧ (s.advance t).ingestRuns = true ∧ ∀ n, (s.advance t).slotAt n = s.slotAt n :=
    fun t => ⟨State.advance_inv hs, (s.ingestRuns_advance t).trans hruns, s.slotAt_advance t⟩
  refine ⟨fun p => ?_, fun f => ?_, fun t tdm unit samples fill n fl => ?_⟩
  · intro u r takes
    obtain ⟨hu, hr, hslot⟩ := hadv p.t
    obtain ⟨hshort, hnone, hline⟩ := exec_csiPacket (s := s) (p := p) rfl hr
    have hv : State.Steady id (fun _ => False) u (u.notePacket p.recv.val p.ecc p.crcOk) :=
      (State.Steady.refl hu).notePacket _ _ _
    have hclean : p.ecc = .clean → p.crcOk = true → u.notePacket p.recv.val p.ecc p.crcOk = u := fun he hc => by
      rw [he, hc, State.notePacket_clean]
    refine ⟨fun he hc ht hno => ?_, fun he hc ht => ?_, fun n fl ht hn htake hfirst hf hh => ?_⟩
    · rw [hnone ht, hclean he hc]
      rw [State.slotFor_eq]
      exact find?_no_slot fun k hk => (State.takesPacket_congr hv p hk).trans (hno k hk)
    · rw [hshort ht, hclean he hc]
    · have hfind := find?_slot (test := (u.notePacket p.recv.val p.ecc p.crcOk).takesPacket p) hn
        ((State.takesPacket_congr hv p hn).trans htake)
        fun k hk => (State.takesPacket_congr hv p (by omega)).trans (hfirst k hk)
      rw [← State.slotFor_eq] at hfind
      have he := hline n fl ht hfind (by rw [hv.slotAt, hslot, hf])
      obtain ⟨y, hy, hl, hrows⟩ := State.addLine_joins hv.inv hn hh (csiSamples p.dataType p.payload)
        (p.ecc == .uncorrectable || !p.crcOk) p.t
      exact ⟨_, y, he, hy, hl, hrows⟩
  · intro u hp hsize
    obtain ⟨hu, hr, hslot⟩ := hadv f.t
    obtain ⟨hfcs, hnone, hjoin⟩ := exec_ethernetFrame (s := s) (f := f) rfl hr
      (by rwa [(s.advance_within f.t).part rfl]) hsize
    refine ⟨hfcs, fun hok ht hno => hnone hok ht (find?_no_slot hno), fun n fl hok ht hn htake hfirst hrule hf => ?_⟩
    have hfu : (u.slotAt n).filling = some fl := by rw [hslot, hf]
    obtain ⟨y, hy, hstored, htime⟩ := State.addBytes_joins hu hn hfu (f.payload.drop (u.numAt (Adr.payloadSkip n))) f.t
    exact ⟨_, y, hjoin n fl hok ht (find?_slot hn htake hfirst) hrule hfu, hy, hstored, htime⟩
  · intro u hn hrun hf hmine
    obtain ⟨hu, hr, hslot⟩ := hadv t
    have htakes : u.takesEdge tdm unit n = true := by
      unfold State.takesEdge
      rw [hslot, hrun]
      cases tdm <;> simpa using hmine
    obtain ⟨y, hy, hstored, htime⟩ := audioEdge_joins hu hn htakes (by rw [hslot, hf]) t samples fill
    exact ⟨_, y, exec_audioWordClockEdge rfl hr tdm unit samples fill, hy, hstored, htime⟩

end Sys2Proof.Machine

/-! PROOFS of the statement about a pass of an array (O26). -/

namespace Sys2Proof.Machine

/-! ## Counters (R80) -/

/-- R80: a counter that counts `k` events. -/
theorem State.numAt_bumpBy_same {s : State} {a : Nat} (k : Nat) (h : Dict.wf s.part.variant s.dict = true)
    (hw : a ≠ wrapFlagOf a) : (s.bumpBy a k).numAt a = (s.numAt a + k) % 2 ^ 64 := by
  unfold State.bumpBy
  extract_lets x
  split
  · rename_i hx
    rw [State.numAt_setNum_same _ _ h, Nat.mod_eq_of_lt hx]
  · rw [State.numAt_setNum_other _ (State.setNum_wf _ _ h) hw, State.numAt_setNum_same _ _ h]

/-- R80: a counter that counts changes at most itself and its WRAP flag. -/
theorem State.numAt_bumpBy_other {s : State} {a b : Nat} (k : Nat) (h : Dict.wf s.part.variant s.dict = true) (hn : b ≠ a)
    (hw : b ≠ wrapFlagOf a) : (s.bumpBy a k).numAt b = s.numAt b := by
  unfold State.bumpBy
  extract_lets x
  split
  · exact State.numAt_setNum_other _ h hn
  · rw [State.numAt_setNum_other _ (State.setNum_wf _ _ h) hw, State.numAt_setNum_other _ h hn]

/-- Counter `k` of array `n` (R163). -/
def arrayCounter (n k : Nat) : Nat := (0x2010 + n) * 256 + k

theorem arrayCounter_ne_wrapFlagOf (n : Nat) {k l : Nat} (hk : k < 16) (hl : l < 16) :
    arrayCounter n k ≠ wrapFlagOf (arrayCounter n l) := by
  unfold arrayCounter wrapFlagOf
  simp only [beq_iff_eq]
  split <;> omega

theorem State.arrayCounter_same {s : State} {n k i : Nat} (hs : s.Inv) (hk : k < 16) :
    (s.bumpBy (arrayCounter n k) i).numAt (arrayCounter n k) = (s.numAt (arrayCounter n k) + i) % 2 ^ 64 :=
  State.numAt_bumpBy_same i hs.1.1 (arrayCounter_ne_wrapFlagOf n hk hk)

theorem State.arrayCounter_other {s : State} {n k l i : Nat} (hs : s.Inv) (hne : k ≠ l) (hk : k < 16) (hl : l < 16) :
    (s.bumpBy (arrayCounter n l) i).numAt (arrayCounter n k) = s.numAt (arrayCounter n k) :=
  State.numAt_bumpBy_other i hs.1.1 (by unfold arrayCounter; omega) (arrayCounter_ne_wrapFlagOf n hk hl)

/-- The objects that a pass on array `n` reads before it counts: settings, in front of every array's counters, and
PASSES, VECTORS and ACTIVE_CELL_CYCLES of the array itself (R163). -/
def passKept (n a : Nat) : Prop := a / 256 < 0x2010 ∨ a / 256 = 0x2010 + n ∧ a % 256 < 4

/-- Where a pass on array `n` counts beside those three (R140, R163, R174, R193). -/
def passCounts (n c : Nat) : Prop := 0x2010 ≤ c / 256 ∧ c % 256 < 0xF0 ∧ (c / 256 = 0x2010 + n → 4 ≤ c % 256)

theorem passKept.ne {n a c : Nat} (h : passKept n a) (hc : passCounts n c) : a ≠ c ∧ a ≠ wrapFlagOf c := by
  unfold passKept at h
  unfold passCounts at hc
  unfold wrapFlagOf
  simp only [beq_iff_eq]
  split <;> omega

/-- A counter of the array's own that is none of the three. -/
theorem passCounts_array (n : Nat) {k : Nat} (hk : 4 ≤ k) (hl : k < 0xF0) : passCounts n (arrayCounter n k) := by
  unfold passCounts arrayCounter
  omega

/-- A counter behind those of the arrays. -/
theorem passCounts_behind {n c : Nat} (hn : n < 8) (hc : 0x2018 ≤ c / 256 ∧ c % 256 < 0xF0) : passCounts n c := by
  unfold passCounts
  omega

/-! ## What the work of one array leaves alone -/

/-- On the way from `o` to `s` only array `n` has worked: the addresses in `r` keep their values, and the array what `q`
tells of it; beside the register file, the array, and the credits and bit errors of memory nothing has changed. -/
structure State.Worked {β : Type} (n : Nat) (r : Nat → Prop) (q : Arr → β) (o s : State) : Prop where
  inv : s.Inv
  within : State.Within [.dict, .arrs, .mem] o s
  cells : s.mem.cells = o.mem.cells
  vals : ∀ a, r a → s.numAt a = o.numAt a
  others : ∀ b, b ≠ n → s.arrAt b = o.arrAt b
  held : q (s.arrAt n) = q (o.arrAt n)

section
variable {β : Type} {n : Nat} {r : Nat → Prop} {q : Arr → β} {o s : State}

theorem State.Inv.arr_lt (h : s.Inv) (hn : n < 8) : n < s.arrs.length := by
  obtain ⟨-, -, ha, -⟩ := (State.shaped_iff s).1 h.2
  omega

theorem State.Worked.refl (h : o.Inv) : State.Worked n r q o o :=
  ⟨h, State.Within.refl _ o, rfl, fun _ _ => rfl, fun _ _ => rfl, rfl⟩

theorem State.Worked.trans {x : State} (h : State.Worked n r q o s) (k : State.Worked n r q s x) :
    State.Worked n r q o x where
  inv := k.inv
  within := h.within.trans k.within rfl
  cells := k.cells.trans h.cells
  vals a ha := (k.vals a ha).trans (h.vals a ha)
  others b hb := (k.others b hb).trans (h.others b hb)
  held := k.held.trans h.held

/-- What is told of the array less closely. -/
theorem State.Worked.tells {γ : Type} (g : β → γ) (h : State.Worked n r q o s) : State.Worked n r (fun x => g (q x)) o s :=
  ⟨h.inv, h.within, h.cells, h.vals, h.others, congrArg g h.held⟩

/-- What is told of neither counters nor the array. -/
theorem State.Worked.untold (h : State.Worked n r q o s) : State.Worked n (fun _ => False) (fun _ => ()) o s :=
  ⟨h.inv, h.within, h.cells, fun _ ha => ha.elim, h.others, rfl⟩

theorem State.Worked.ite {c : Prop} [Decidable c] {x y : State} (hx : State.Worked n r q o x) (hy : State.Worked n r q o y) :
    State.Worked n r q o (if c then x else y) := by
  split
  · exact hx
  · exact hy

theorem State.Worked.foldl {α : Type} {f : State → α → State} {xs : List α} (h : State.Worked n r q o s)
    (hf : ∀ t x, State.Worked n r q o t → State.Worked n r q o (f t x)) : State.Worked n r q o (xs.foldl f s) :=
  List.foldlRecOn xs f h (fun t ht x _ => hf t x ht)

theorem State.Worked.bumpBy {c : Nat} (k : Nat) (h : State.Worked n r q o s)
    (hc : ∀ a, r a → a ≠ c ∧ a ≠ wrapFlagOf c) : State.Worked n r q o (s.bumpBy c k) where
  inv := (State.Sound.bumpBy (State.Sound.refl [.dict] s) rfl).good h.inv
  within := h.within.trans (State.Sound.bumpBy (State.Sound.refl [.dict] s) rfl).within rfl
  cells := by simp only [State.bumpBy_frame, h.cells]
  vals a ha := (State.numAt_bumpBy_other k h.inv.1.1 (hc a ha).1 (hc a ha).2).trans (h.vals a ha)
  others b hb := by simpa only [State.arrAt, State.bumpBy_frame] using h.others b hb
  held := by simpa only [State.arrAt, State.bumpBy_frame] using h.held

/-- A count that the pass makes beside its own three. -/
theorem State.Worked.count {c : Nat} (k : Nat) (h : State.Worked n (passKept n) q o s) (hc : passCounts n c) :
    State.Worked n (passKept n) q o (s.bumpBy c k) := h.bumpBy k fun _ ha => ha.ne hc

theorem State.Worked.countUnlessZero {c : Nat} (k : Nat) (h : State.Worked n (passKept n) q o s) (hc : passCounts n c) :
    State.Worked n (passKept n) q o (if k == 0 then s else s.bumpBy c k) := .ite h (h.count k hc)

/-- A change of memory that leaves its bytes. -/
theorem State.Worked.setMem {m : Mem} (h : State.Worked n r q o s) (hm : m.cells = s.mem.cells) :
    State.Worked n r q o { s with mem := m } where
  inv := ⟨⟨h.inv.1.1, (congrArg Memory.wf hm).trans h.inv.1.2⟩, h.inv.2⟩
  within := h.within.trans (d := [.mem]) rfl rfl
  cells := hm.trans h.cells
  vals := h.vals
  others := h.others
  held := h.held

theorem State.Worked.setArr {f : Arr → Arr} (h : State.Worked n r q o s) (hn : n < 8) (hq : ∀ x, q (f x) = q x) :
    State.Worked n r q o (s.setArr n f) where
  inv := (State.Sound.setArr (State.Sound.refl [.arrs] s) rfl).good h.inv
  within := h.within.trans (State.Sound.setArr (State.Sound.refl [.arrs] s) rfl).within rfl
  cells := h.cells
  vals := h.vals
  others b hb := (nth_modifyAt_other _ _ hb).trans (h.others b hb)
  held := by rw [State.arrAt_setArr _ _ _ (h.inv.arr_lt hn), hq, h.held]

end

/-! ## Accesses of the array (R142, R174, R189, R193, R195) -/

section
variable {β : Type} {n : Nat} {q : Arr → β} {o s : State}

theorem State.Worked.writeStore {r : Nat → Prop} (h : State.Worked n r q o s) (hn : n < 8)
    (hq : ∀ (x : Arr) m, q { x with store := m } = q x) (a : Nat) (b : Bytes) :
    State.Worked n r q o (s.writeStore n a b) := by
  unfold State.writeStore
  extract_lets x stays
  have hx : State.Worked n r q o x := h.setArr hn fun y => hq y _
  clear_value x
  exact hx.setMem rfl

theorem State.writeStore_store (hs : s.Inv) (hn : n < 8) (a : Nat) (b : Bytes) :
    ((s.writeStore n a b).arrAt n).store = ((s.arrAt n).store.write a b).keep (fun k => k < storeBytes) :=
  congrArg Arr.store (State.arrAt_setArr s n _ (hs.arr_lt hn))

theorem State.Worked.chargeAccess (h : State.Worked n (passKept n) q o s) (hn : n < 8) (p : Nat) (write : Bool) (a k : Nat) :
    State.Worked n (passKept n) q o (s.chargeAccess p write a k) := by
  unfold State.chargeAccess State.chargeBytes
  refine .ite h ?_
  extract_lets left already m x
  have hx : State.Worked n (passKept n) q o x := h.setMem rfl
  clear_value x
  exact .ite (hx.count 1 (passCounts_behind hn (by unfold Adr.bwExhaustedTicks; omega))) hx

theorem State.Worked.correct (h : State.Worked n (passKept n) q o s) (hn : n < 8) (m : Met) :
    State.Worked n (passKept n) q o (s.correct m) := by
  unfold State.correct
  extract_lets x
  have hx : State.Worked n (passKept n) q o x := h.foldl fun t a ht =>
    .ite (ht.count 1 (passCounts_behind hn (by decide)))
      (ht.count 1 (passCounts_behind hn (by unfold Adr.channelCeCorrected; omega)))
  clear_value x
  exact hx.setMem rfl

/-- An access of a job that goes on has met at most correctable errors. -/
theorem State.gwMet_ok {qn a : Nat} {j : Job} {m : Met} (h : (s.gwMet qn j a m).ok = true) :
    (s.gwMet qn j a m).state = s.correct m := by
  unfold State.gwMet State.report at h ⊢
  by_cases hv : m.violation = true
  · simp [hv] at h
  · by_cases hb : m.bad.isEmpty = true
    · simp [hv, hb]
    · simp [hv, hb] at h

/-- R142: a transfer into the operand store that goes on is work of its array. -/
theorem State.Worked.moveIn (h : State.Worked n (passKept n) q o s) (hn : n < 8)
    (hq : ∀ (x : Arr) m, q { x with store := m } = q x) {qn : Nat} {j : Job} {m : StoreMove}
    (hok : (s.moveIn n qn j m).ok = true) : State.Worked n (passKept n) q o (s.moveIn n qn j m).state := by
  unfold State.moveIn at hok ⊢
  have hread : (s.gwRead (arrayEndpoint n) qn j m.dev m.len).2.ok = true := by
    by_contra hf
    simp [hf] at hok
  simp only [hread, if_true]
  refine .writeStore ?_ hn hq _ _
  unfold State.gwRead at hread ⊢
  split at hread
  · exact absurd hread (by simp [State.gwClosed])
  · rename_i hopen
    rw [if_neg hopen]
    rw [State.gwMet_ok hread]
    exact (h.chargeAccess hn _ _ _ _).correct hn _

/-- What transfers that go on keep step by step they keep together. -/
theorem State.moves_ok {P : State → Prop} {step : State → StoreMove → Gw} {ms : List StoreMove}
    (hstep : ∀ t m, P t → (step t m).ok = true → P (step t m).state) (hs : P s) :
    (State.moves step s ms).ok = true → P (State.moves step s ms).state := by
  unfold State.moves
  refine List.foldlRecOn (motive := fun g : Gw => g.ok = true → P g.state) ms _ (fun _ => hs) fun g hg m _ => ?_
  split
  · rename_i hok
    exact hstep _ m (hg hok)
  · exact hg

/-- R193, R195: reads of an operand store that meet no uncorrectable error. -/
theorem State.Worked.readStoreMet (h : State.Worked n (passKept n) q o s) (hn : n < 8) {reads : List (Nat × Nat)}
    (hr : ∀ e ∈ reads, wordsIn s.mem.opUe n e.1 e.2 = []) :
    (s.readStoreMet n reads).ok = true ∧ State.Worked n (passKept n) q o (s.readStoreMet n reads).state := by
  unfold State.readStoreMet
  extract_lets ces ues x y
  have hues : ues = [] := by
    unfold ues
    rw [List.flatMap_eq_nil_iff.2 hr, List.dedup_nil]
  have hx : State.Worked n (passKept n) q o x := h.foldl fun t _ ht =>
    ht.count 1 (passCounts_behind hn (by unfold Adr.operandCeCorrected; omega))
  clear_value x
  rw [hues]
  exact ⟨rfl, hx.setMem rfl⟩

end

/-! ## What a pass reads of the settings -/

/-- The rounding profile of a job hangs on settings alone (R77, R140). -/
theorem State.Worked.profileOf {β : Type} {n : Nat} {q : Arr → β} {o s : State} (h : State.Worked n (passKept n) q o s)
    (j : Job) : s.profileOf j = o.profileOf j := by
  have hset : ∀ a < 0x201000, s.numAt a = o.numAt a := fun a ha => h.vals a (.inl (by omega))
  have ha : s.arraysEnabled = o.arraysEnabled := by
    unfold State.arraysEnabled
    rw [hset Adr.arrayEnable (by decide)]
  simp only [State.profileOf, State.roundingEffective, State.almanacEffective, State.almanacEntry, State.ownAlmanac, ha,
    h.within.part rfl, hset Adr.almanacSelect (by decide), hset Adr.microcodeVersion (by decide)]

/-! ## The south edge (R146) -/

section
variable {β : Type} {n : Nat} {q : Arr → β} {o s : State}

/-- An operand store with the outputs of vectors written at their places (R146). -/
def writtenAt (profile : Nat) (p : ImagePass) (store : Memory) (vs : List AccVec) : Memory :=
  (p.vectors.zip vs).foldl (fun (m : Memory) e =>
    (m.write e.1.out (southBytes profile p e.2)).keep (fun k => k < storeBytes)) store

theorem State.Worked.countRescaled (h : State.Worked n (passKept n) q o s) (hn : n < 8) (rs : List Rescaled) :
    State.Worked n (passKept n) q o (s.countRescaled n rs) := by
  have hc : ∀ k < 4, passCounts n ((0x20C1 + n) * 256 + k) := fun k _ => passCounts_behind hn (by omega)
  exact ((h.countUnlessZero _ (hc 1 (by decide))).countUnlessZero _ (hc 2 (by decide))).countUnlessZero _ (hc 3 (by decide))

/-- R142: writes of vectors at their places, one after the other, are work of their array. -/
theorem State.writeVectors_spec (hn : n < 8) (hq : ∀ (x : Arr) m, q { x with store := m } = q x) (profile : Nat)
    (p : ImagePass) (es : List (VectorAt × AccVec)) {t : State} (ht : t.Inv) :
    let x := es.foldl (fun s e => s.writeStore n e.1.out (southBytes profile p e.2)) t
    State.Worked n (passKept n) q t x ∧ (x.arrAt n).store = es.foldl (fun (m : Memory) e =>
      (m.write e.1.out (southBytes profile p e.2)).keep (fun k => k < storeBytes)) (t.arrAt n).store := by
  induction es generalizing t with
  | nil => exact ⟨.refl ht, rfl⟩
  | cons e es ih =>
    have hw : State.Worked n (passKept n) q t (t.writeStore n e.1.out (southBytes profile p e.2)) :=
      (State.Worked.refl ht).writeStore hn hq _ _
    obtain ⟨hrest, hstore⟩ := ih hw.inv
    rw [State.writeStore_store ht hn] at hstore
    exact ⟨hw.trans hrest, hstore⟩

/-- R146: the south edge writes each vector at its place, and is work of its array. -/
theorem State.southEdge_spec (hs : s.Inv) (hn : n < 8) (hq : ∀ (x : Arr) m, q { x with store := m } = q x) (profile : Nat)
    (p : ImagePass) (vs : List AccVec) : State.Worked n (passKept n) q s (s.southEdge n profile p vs) ∧
      ((s.southEdge n profile p vs).arrAt n).store = writtenAt profile p (s.arrAt n).store vs := by
  obtain ⟨hw, hstore⟩ := State.writeVectors_spec hn hq profile p (p.vectors.zip vs) hs
  unfold State.southEdge
  split
  · exact ⟨hw.countRescaled hn _,
      (congrArg Arr.store ((State.Worked.refl (q := id) hw.inv).countRescaled hn _).held).trans hstore⟩
  · exact ⟨hw, hstore⟩

end

/-! ## The array work of a pass (R144 to R156) -/

section
variable {s : State} {n : Nat}

/-- R148 to R150: the cells hold the tile of the pass. -/
theorem State.loadTile_spec (hs : s.Inv) (hn : n < 8) (j : Job) (p : ImagePass) (op : PassOp) :
    let x := ((s.countSwap n j p op).loadShadow n p).copyShadow n
    State.Worked n (passKept n) Arr.store s x ∧ (x.arrAt n).working = some (tileOf p (s.arrAt n).store) := by
  have hswap : State.Worked n (passKept n) id s (s.countSwap n j p op) := by
    unfold State.countSwap
    extract_lets a last stall x
    have hx : State.Worked n (passKept n) id s x := (State.Worked.refl hs).count 1 (passCounts_array n (by decide) (by decide))
    clear_value x
    exact .ite ((State.Worked.refl hs).count 1 (passCounts_array n (by decide) (by decide)))
      (.ite hx (hx.count _ (passCounts_array n (by decide) (by decide))))
  have hshadow : State.Worked n (passKept n) Arr.store s ((s.countSwap n j p op).loadShadow n p) :=
    (hswap.tells Arr.store).setArr hn fun _ => rfl
  refine ⟨hshadow.setArr hn fun _ => rfl, ?_⟩
  unfold State.copyShadow
  rw [State.arrAt_setArr _ _ _ (hshadow.inv.arr_lt hn)]
  unfold State.loadShadow
  rw [State.arrAt_setArr _ _ _ (hswap.inv.arr_lt hn)]
  exact congrArg (fun x : Arr => some (tileOf p x.store)) hswap.held

/-- R153: gated cell-cycles are counted in the array's own counter. -/
theorem State.Worked.countGated {β : Type} {q : Arr → β} {o : State} (h : State.Worked n (passKept n) q o s) (hn : n < 8)
    (hq : ∀ (x : Arr) u, q { x with gatingUnit := u } = q x) (int4 : Bool) (k : Nat) :
    State.Worked n (passKept n) q o (s.countGated n int4 k) := by
  have hcount : ∀ {t : State} i, State.Worked n (passKept n) q o t →
      State.Worked n (passKept n) q o (t.bumpBy (Adr.gatedCellCycles n) i) :=
    fun i ht => ht.count i (passCounts_array n (k := 4) (by decide) (by decide))
  exact .ite h (.ite (hcount _ (.ite h ((hcount _ h).setArr hn fun x => hq x 1))) (hcount _ h))

/-- R163: state `x` counts one pass with `m` vectors on array `n` more than state `s`. -/
def State.passCounted (s x : State) (n m : Nat) : Prop :=
  x.numAt (Adr.passes n) = (s.numAt (Adr.passes n) + 1) % 2 ^ 64 ∧
    x.numAt (Adr.vectors n) = (s.numAt (Adr.vectors n) + m) % 2 ^ 64 ∧
    x.numAt (Adr.activeCellCycles n) = (s.numAt (Adr.activeCellCycles n) + 16384 * m) % 2 ^ 64

/-- What keeps the three counters before and after a pass has counted does not change what it counts. -/
theorem State.passCounted.congr {t x y : State} {m : Nat} (h : State.passCounted t x n m)
    (ht : ∀ a, passKept n a → t.numAt a = s.numAt a) (hy : ∀ a, passKept n a → y.numAt a = x.numAt a) :
    s.passCounted y n m := by
  have hkept : ∀ k < 4, passKept n (arrayCounter n k) := fun k hk => .inr (by unfold arrayCounter; omega)
  have hadr : passKept n (Adr.passes n) ∧ passKept n (Adr.vectors n) ∧ passKept n (Adr.activeCellCycles n) :=
    ⟨hkept 1 (by decide), hkept 2 (by decide), hkept 3 (by decide)⟩
  obtain ⟨hp, hv, hc⟩ := hadr
  unfold State.passCounted at h ⊢
  rwa [hy _ hp, hy _ hv, hy _ hc, ← ht _ hp, ← ht _ hv, ← ht _ hc]

/-- R163: the three counters of a pass with `m` vectors. -/
def State.countPass (s : State) (n m : Nat) : State :=
  ((s.bump (Adr.passes n)).bumpBy (Adr.vectors n) m).bumpBy (Adr.activeCellCycles n) (16384 * m)

theorem State.countPass_spec (hs : s.Inv) (n m : Nat) :
    State.Worked n (fun _ => False) id s (s.countPass n m) ∧ s.passCounted (s.countPass n m) n m := by
  have h1 : State.Worked n (fun _ => False) id s (s.bump (Adr.passes n)) := (State.Worked.refl hs).bumpBy 1 fun _ h => h.elim
  have h2 := h1.bumpBy (c := Adr.vectors n) m fun _ h => h.elim
  refine ⟨h2.bumpBy _ fun _ h => h.elim, ?_, ?_, ?_⟩
  · calc _ = _ := State.arrayCounter_other (k := 1) (l := 3) h2.inv (by decide) (by decide) (by decide)
      _ = _ := State.arrayCounter_other (k := 1) (l := 2) h1.inv (by decide) (by decide) (by decide)
      _ = _ := State.arrayCounter_same (k := 1) hs (by decide)
  · calc _ = _ := State.arrayCounter_other (k := 2) (l := 3) h2.inv (by decide) (by decide) (by decide)
      _ = _ := State.arrayCounter_same (k := 2) h1.inv (by decide)
      _ = _ := congrArg (fun c => (c + m) % 2 ^ 64)
        (State.arrayCounter_other (k := 2) (l := 1) hs (by decide) (by decide) (by decide))
  · calc _ = _ := State.arrayCounter_same (k := 3) h2.inv (by decide)
      _ = _ := congrArg (fun c => (c + 16384 * m) % 2 ^ 64)
        ((State.arrayCounter_other (k := 3) (l := 2) h1.inv (by decide) (by decide) (by decide)).trans
          (State.arrayCounter_other (k := 3) (l := 1) hs (by decide) (by decide) (by decide)))

/-- R144 to R156: what a pass without a failing comparison has made of state `s`: its array has worked, and holds the pass's
tile and the outputs of its vectors. -/
structure State.Multiplied (s : State) (n : Nat) (p : ImagePass) (profile : Nat) (vs : List AccVec) (x : State) : Prop where
  worked : State.Worked n (fun _ => False) (fun _ => ()) s x
  counted : s.passCounted x n p.vectors.length
  valid : (x.arrAt n).valid = true
  working : (x.arrAt n).working = some (tileOf p (s.arrAt n).store)
  store : (x.arrAt n).store = writtenAt profile p (s.arrAt n).store vs

/-- R154 to R156: a pass none of whose comparisons fails. -/
theorem State.multiply_clean (hs : s.Inv) (hn : n < 8) {j : Job} {p : ImagePass} {op : PassOp} {profile bound : Nat}
    {vs : List AccVec} (hprofile : s.profileOf j = profile)
    (hbound : (if p.relBound == 0 then s.numAt Adr.checkRelBoundDefault else p.relBound) = bound)
    (hvs : passVectors profile p (tileOf p (s.arrAt n).store) j.arrays.length op (s.arrAt n).store = vs)
    (hclean : ∀ v ∈ vs, compareVector profile (isFloat p.actFmt) bound v ≠ .fails) :
    ∃ x, s.multiply n j p op = (none, x) ∧ State.Multiplied s n p profile vs x := by
  obtain ⟨hload, hworking⟩ := State.loadTile_spec hs hn j p op
  subst hprofile hbound
  unfold State.multiply
  extract_lets profile float bound x1 a w all results first m results' x2 x3 gated x4 stalls x5 skipped failed x6 x7 x8
  change State.Worked n (passKept n) Arr.store s x1 at hload
  have hall : all = vs := by
    unfold all w a
    rw [← hvs, show (x1.arrAt n).store = (s.arrAt n).store from hload.held]
  have hfirst : first = none := by
    unfold first results
    rw [hall, List.findIdx?_eq_none_iff]
    intro c hc
    obtain ⟨v, hv, rfl⟩ := List.mem_map.1 hc
    exact beq_eq_false_iff_ne.2 (hclean v hv)
  have hm : m = p.vectors.length := by
    unfold m
    rw [hfirst]
  have htake : all.take m = vs := by
    rw [hall]
    exact List.take_of_length_le (by rw [hm, ← hvs, passVectors, List.length_map, List.length_zipIdx])
  obtain ⟨hcount, hcounted⟩ := State.countPass_spec hload.inv n m
  change State.Worked n (fun _ => False) id x1 x3 at hcount
  have hcounters : State.Worked n (passKept n) (fun y => (y.store, y.working)) x3 x7 := by
    have hown : ∀ k, 4 ≤ k → k < 0xF0 → passCounts n (arrayCounter n k) := fun k => passCounts_array n
    have hgated := (State.Worked.refl (q := fun y => (y.store, y.working)) hcount.inv).countGated hn (fun _ _ => rfl)
      (p.actFmt == 0) (sumNat gated)
    exact ((hgated.countUnlessZero stalls (hown 8 (by decide) (by decide))).countUnlessZero skipped
      (hown 10 (by decide) (by decide))).countUnlessZero failed (hown 9 (by decide) (by decide))
  obtain ⟨hsouth, hwritten⟩ :=
    State.southEdge_spec (q := Arr.working) hcounters.inv hn (fun _ _ => rfl) profile p (all.take m)
  change State.Worked n (passKept n) Arr.working x7 x8 at hsouth
  obtain ⟨hstore7, hworking7⟩ := Prod.mk.inj (hcounters.held.trans (congrArg (fun y => (y.store, y.working)) hcount.held))
  refine ⟨_, by rw [hfirst], ?_, ?_, ?_, ?_, ?_⟩
  · exact (hload.untold.trans (hcount.untold.trans (hcounters.untold.trans hsouth.untold))).setArr hn fun _ => rfl
  · rw [← hm]
    exact hcounted.congr hload.vals fun a ha => (hsouth.vals a ha).trans (hcounters.vals a ha)
  all_goals rw [State.arrAt_setArr _ _ _ (hsouth.inv.arr_lt hn)]
  · rfl
  · exact hsouth.held.trans (hworking7.trans hworking)
  · exact hwritten.trans (by rw [htake, hstore7, show (id (x1.arrAt n)).store = (s.arrAt n).store from hload.held])

end

/-! ## A combining pass (R222) -/

theorem sumNat_perm {xs ys : List Nat} (h : xs.Perm ys) : sumNat xs = sumNat ys :=
  h.foldl_eq' (fun x _ y _ z => Nat.add_right_comm z x y) 0

/-- R222: the partial sums of vector `v` that the arrays of a gang hold, summed modulo 2^32. -/
def State.gangSum (s : State) (arrays : List Nat) (get : AccVec → Nat) (v : VectorAt) : Nat :=
  sumNat (arrays.map (fun b => get (readAcc ((s.arrAt b).store.read v.acc 576)))) % 2 ^ 32

/-- R222: a combining pass of integers, whatever order the arrays of the gang complete in. -/
theorem State.combine_integers (s : State) (n : Nat) (j : Job) {p : ImagePass} (op : PassOp) (hf : isFloat p.actFmt = false) :
    s.combine n j p op = s.southEdge n (s.profileOf j) p (p.vectors.map (fun v =>
      { out := (List.range 128).map (fun i => s.gangSum j.arrays (fun w => nth w.out i 0) v), c := s.gangSum j.arrays (·.c) v,
        g := s.gangSum j.arrays (·.g) v })) := by
  unfold State.combine
  extract_lets profile order arrays column vs
  have hperm : arrays.Perm j.arrays := by
    unfold arrays
    split
    · rename_i ho
      exact List.isPerm_iff.1 (Bool.and_eq_true_iff.1 ho).2
    · exact .refl _
  have hcolumn : column = s.gangSum j.arrays := by
    funext get v
    unfold column combineColumn State.gangSum
    rw [hf]
    exact congrArg (· % 2 ^ 32) (sumNat_perm (hperm.map _))
  unfold vs
  rw [hcolumn]

/-! ## The pass (R142, R144, R175) -/

/-- A pass whose transfers in and array work go on. -/
theorem exec_pass {s u y : State} {a : Fin 8} {op : PassOp} {q : Nat} {j : Job} {p : ImagePass} {g : Gw}
    (hu : s.advanceCharged op.t = u) (hp : u.passOn a.val op = some (q, j, p))
    (hg : State.moves (fun s m => s.moveIn a.val q j m) u p.loads = g) (hok : g.ok = true)
    (hw : g.state.arrayWork a.val q j p op = { state := y, ok := true }) :
    exec (.pass a op) s = .next (((State.moves (fun s m => s.moveOut a.val q j m) y p.stores).state.setJob q j.submitSeq
      (fun k => { k with offset := max k.offset (op.passIndex + 1) })).dispatch) := by
  have he : exec (.pass a op) s = .next (doPass a op s) := rfl
  have hd : doPass a op s = u.runPass a.val q j p op := by
    unfold doPass
    rw [hu]
    simp only [hp]
  rw [he, hd]
  unfold State.runPass
  rw [hg]
  simp only [hok, hw, if_true]

/-- R154 to R156: the array work of a pass that multiplies, where its reads and its comparisons go on. -/
theorem State.arrayWork_multiplies {g : State} {n q : Nat} {j : Job} {p : ImagePass} {op : PassOp} {profile bound : Nat}
    {vs : List AccVec} (hg : g.Inv) (hn : n < 8) (hc : p.combine = false)
    (hreads : ∀ r ∈ passReads p j.arrays.length, wordsIn g.mem.opUe n r.1 r.2 = []) (hprofile : g.profileOf j = profile)
    (hbound : (if p.relBound = 0 then g.numAt Adr.checkRelBoundDefault else p.relBound) = bound)
    (hvs : passVectors profile p (tileOf p (g.arrAt n).store) j.arrays.length op (g.arrAt n).store = vs)
    (hclean : ∀ v ∈ vs, compareVector profile (isFloat p.actFmt) bound v ≠ .fails) :
    ∃ x, g.arrayWork n q j p op = { state := x, ok := true } ∧ State.Multiplied g n p profile vs x := by
  obtain ⟨hok, hread⟩ := (State.Worked.refl (q := id) hg).readStoreMet hn hreads
  have hstore : ((g.readStoreMet n (passReads p j.arrays.length)).state.arrAt n).store = (g.arrAt n).store :=
    congrArg Arr.store hread.held
  obtain ⟨x, hx, hdone⟩ := State.multiply_clean (op := op) (bound := bound) (vs := vs) hread.inv hn
    ((hread.profileOf j).trans hprofile)
    (by rw [hread.vals Adr.checkRelBoundDefault (.inl (by decide)), ← hbound]; simp only [beq_iff_eq])
    (by rw [hstore, hvs]) hclean
  refine ⟨x, ?_, hread.untold.trans hdone.worked, hdone.counted.congr hread.vals fun _ _ => rfl, hdone.valid, ?_, ?_⟩
  · unfold State.arrayWork
    simp only [hc, hok, hx, Bool.false_eq_true, if_false, Bool.not_true]
  · rw [hdone.working, hstore]
  · rw [hdone.store, hstore]

/-- What an array's work leaves alone beside the arrays, as the statement names it. -/
theorem State.Worked.untouched {β : Type} {n : Nat} {r : Nat → Prop} {q : Arr → β} {o s : State}
    (h : State.Worked n r q o s) :
    s.queues = o.queues ∧ s.mem.cells = o.mem.cells ∧ s.fabric = o.fabric ∧ s.bin = o.bin ∧ s.log = o.log :=
  ⟨h.within.queues rfl, h.cells, h.within.fabric rfl, h.within.bin rfl, h.within.log rfl⟩

/-- Settles O26: the transfers in leave what the array work reads, and the array work is the multiplication or the
combination of the vectors and their writing at the south edge. -/
theorem passComputesOutputs : Obligations.PassComputesOutputs := by
  unfold Obligations.PassComputesOutputs
  intro s a op q j p hs u n profile gang loaded g store w all bound written ends hp hok
  have hload : State.Worked n (passKept n) (fun _ => ()) u g :=
    State.moves_ok (fun _ _ ht hm => ht.moveIn a.isLt (fun _ _ => rfl) hm) (.refl (State.advanceCharged_inv hs)) hok
  have hprofile : g.profileOf j = profile := hload.profileOf j
  refine ⟨fun hc hreads hclean => ?_, fun hc hf => ?_⟩
  · obtain ⟨x, hx, hdone⟩ := State.arrayWork_multiplies (q := q) hload.inv a.isLt hc hreads hprofile rfl rfl hclean
    obtain ⟨hpasses, hvectors, hcells⟩ := hdone.counted
    exact ⟨x, exec_pass rfl hp rfl hok hx, hpasses, hvectors, hcells, hdone.valid, hdone.working, hdone.store,
      hdone.worked.others, hdone.worked.untouched⟩
  · intro sum
    obtain ⟨hsouth, hstore⟩ := State.southEdge_spec (q := fun _ => ()) hload.inv a.isLt (fun _ _ => rfl) profile p
      (p.vectors.map (fun v =>
        { out := (List.range 128).map (fun i => sum (fun w => nth w.out i 0) v), c := sum (·.c) v, g := sum (·.g) v }))
    refine ⟨_, exec_pass rfl hp rfl hok ?_, hstore, hsouth.untouched⟩
    unfold State.arrayWork
    rw [if_pos hc, State.combine_integers _ _ _ _ hf, hprofile]
    rfl

end Sys2Proof.Machine

/-! PROOFS of the statement about the checksum lane of an integer pass (O25). -/

namespace Sys2Proof.Machine

/-! ## Sums of words (R154) -/

theorem foldl_add_range (f : Nat → Int) (x : Int) (n : Nat) :
    (List.range n).foldl (fun acc k => acc + f k) x = x + ∑ k ∈ Finset.range n, f k := by
  induction n with
  | zero => simp
  | succ n ih => rw [List.range_succ, List.foldl_append, ih, Finset.sum_range_succ, ← add_assoc]; rfl

theorem sumNat_eq_sum (xs : List Nat) : sumNat xs = xs.sum := List.sum_eq_foldl.symm

theorem sumNat_range (f : Nat → Nat) (n : Nat) : sumNat ((List.range n).map f) = ∑ k ∈ Finset.range n, f k := by
  rw [sumNat_eq_sum]
  rfl

theorem ofSigned_word (x : Int) : ((ofSigned 32 x : Nat) : Int) = x % 2 ^ 32 :=
  Int.toNat_of_nonneg (Int.emod_nonneg _ (by decide))

theorem ofSigned_lt (x : Int) : ofSigned 32 x < 2 ^ 32 := by
  have h := ofSigned_word x
  have hlt := Int.emod_lt_of_pos x (b := 2 ^ 32) (by decide)
  omega

theorem ofSigned_congr {x y : Int} (h : x ≡ y [ZMOD 2 ^ 32]) : ofSigned 32 x = ofSigned 32 y := congrArg Int.toNat h

/-- The sum of words that hold integers is the word of the integers' sum. -/
theorem sum_ofSigned (f : Nat → Int) (n : Nat) :
    sumNat ((List.range n).map (fun k => ofSigned 32 (f k))) % 2 ^ 32 = ofSigned 32 (∑ k ∈ Finset.range n, f k) := by
  zify
  rw [sumNat_range, ofSigned_word, Nat.cast_sum]
  simp only [ofSigned_word]
  exact (Finset.sum_int_mod _ _ _).symm

/-! ## The lane of a vector without a fault (R154) -/

/-- An element of a list of words, read as an integer before or after it is picked. -/
theorem nth_lift (xs : List Nat) (k : Nat) : (nth xs k 0 : Int) = ((nth xs k 0 : Nat) : Int) := by
  simp only [nth, List.pure_def, List.bind_eq_flatMap, ← List.map_eq_flatMap, List.getD_eq_getElem?_getD,
    List.getElem?_map]
  cases xs[k]? <;> rfl

/-- The bias that enters column `k` in K tile 0. -/
def biasInt (p : ImagePass) (k : Nat) : Int := if p.kTile == 0 then ((nth p.bias k 0 : Nat) : Int) else 0

/-- What enters column `k` of a vector from the north: the bias in a first tile, the previous accumulator later. -/
def northInt (p : ImagePass) (gang : Nat) (prev : AccVec) (k : Nat) : Int :=
  if firstTile p gang then biasInt p k else ((nth prev.out k 0 : Nat) : Int)

/-- What enters the checksum lane from the north: the sum of the biases, or the previous C word. -/
def northLane (p : ImagePass) (gang : Nat) (prev : AccVec) : Int :=
  if firstTile p gang then ∑ k ∈ Finset.range 128, biasInt p k else prev.c

theorem northLane_congr {p : ImagePass} {gang : Nat} {prev : AccVec}
    (h : firstTile p gang = true ∨ (prev.out.length = 128 ∧ sumNat prev.out % 2 ^ 32 = prev.c)) :
    ∑ k ∈ Finset.range 128, northInt p gang prev k ≡ northLane p gang prev [ZMOD 2 ^ 32] := by
  unfold northInt northLane
  by_cases hf : firstTile p gang = true
  · simp only [hf, if_true]
    rfl
  · obtain ⟨hlen, hsum⟩ := h.resolve_left hf
    simp only [hf, Bool.false_eq_true, if_false]
    have hout : prev.out = (List.range 128).map (fun k => nth prev.out k 0) :=
      List.ext_getElem (by simp [hlen]) fun i h1 h2 => by simp [nth, h1]
    rw [← hsum, ← Nat.cast_sum, ← sumNat_range, ← hout, Int.natCast_mod]
    exact (Int.mod_modEq _ _).symm

/-- The columns and the lane of a vector as sums over the rows of the tile. -/
theorem intVector_eq (p : ImagePass) (w : Tile) (gang m : Nat) (prev : AccVec) (vec : List Nat) :
    intVector p w gang m prev vec =
      { out := (List.range 128).map (fun j => ofSigned 32
          (northInt p gang prev j + ∑ k ∈ Finset.range (tileDepth w.actFmt), actInt p m vec k * w.weightInt k j)),
        c := ofSigned 32 (northLane p gang prev + ∑ k ∈ Finset.range (tileDepth w.actFmt),
          actInt p m vec k * ∑ j ∈ Finset.range 128, w.weightInt k j),
        g := 0 } := by
  unfold intVector Tile.rows
  simp only [nth_lift, foldl_add_range, zero_add]
  rfl

theorem intVector_sum {p : ImagePass} {gang : Nat} {prev : AccVec} (w : Tile) (m : Nat) (vec : List Nat)
    (h : firstTile p gang = true ∨ (prev.out.length = 128 ∧ sumNat prev.out % 2 ^ 32 = prev.c)) :
    sumNat (intVector p w gang m prev vec).out % 2 ^ 32 = (intVector p w gang m prev vec).c := by
  rw [intVector_eq]
  simp only [sum_ofSigned]
  refine ofSigned_congr ?_
  rw [Finset.sum_add_distrib, Finset.sum_comm]
  simp only [Finset.mul_sum]
  exact (northLane_congr h).add_right _

/-! ## Lane faults (R156) -/

theorem faultMask_filter (op : PassOp) (m column : Nat) :
    faultMask op m column = (op.faults.filter (fun g => g.vector == m)).foldl
      (fun x f => if f.column == column then Nat.xor x f.mask else x) 0 := by
  unfold faultMask
  rw [List.foldl_filter]
  congr 1
  funext x f
  cases f.vector == m <;> simp

theorem faultMask_none {op : PassOp} {m : Nat} (h : ∀ f, f ∈ op.faults → f.vector ≠ m) (column : Nat) :
    faultMask op m column = 0 := by
  rw [faultMask_filter, List.filter_eq_nil_iff.2 fun f hf => by simpa using h f hf]
  rfl

theorem faultMask_single {op : PassOp} {m : Nat} {f : LaneFault}
    (h : op.faults.filter (fun g => g.vector == m) = [f]) (column : Nat) :
    faultMask op m column = if column = f.column then f.mask else 0 := by
  rw [faultMask_filter, h]
  simp only [List.foldl_cons, List.foldl_nil, beq_iff_eq, eq_comm (a := column)]
  congr 1
  exact Nat.zero_xor _

theorem withFaults_none {op : PassOp} {m : Nat} (h : ∀ f, f ∈ op.faults → f.vector ≠ m) (v : AccVec) :
    withFaults op m v = v := by
  have hx (x : Nat) : Nat.xor x 0 = x := Nat.xor_zero x
  unfold withFaults
  simp only [faultMask_none h, hx, List.zipIdx_map_fst]

/-- A vector with one fault: the column or the lane word that it names has the mask's bits inverted. -/
theorem withFaults_single {op : PassOp} {m : Nat} {f : LaneFault} {v : AccVec}
    (h : op.faults.filter (fun g => g.vector == m) = [f]) :
    (withFaults op m v).out = v.out.modify f.column (· ^^^ f.mask) ∧
      (withFaults op m v).c = v.c ^^^ (if 128 = f.column then f.mask else 0) := by
  unfold withFaults
  simp only [faultMask_single h]
  refine ⟨List.ext_getElem (by simp) fun i h1 h2 => ?_, rfl⟩
  simp only [List.getElem_map, List.getElem_zipIdx, List.getElem_modify, zero_add, eq_comm (a := f.column)]
  split
  · rfl
  · exact Nat.xor_zero _

theorem xor_ne_self {x mask : Nat} (h : 0 < mask) : x ^^^ mask ≠ x := fun he =>
  h.ne' (Nat.xor_right_injective (he.trans (Nat.xor_zero x).symm))

/-- One word of a list replaced by another: the sum modulo 2^32 changes. -/
theorem sumNat_modify_ne {xs : List Nat} {i mask : Nat} (hi : i < xs.length) (hlt : xs[i] < 2 ^ 32) (hm : 0 < mask)
    (hb : mask < 2 ^ 32) : sumNat (xs.modify i (· ^^^ mask)) % 2 ^ 32 ≠ sumNat xs % 2 ^ 32 := by
  have hsum (y : Nat) : sumNat (xs.set i y) = (xs.take i).sum + y + (xs.drop (i + 1)).sum := by
    rw [sumNat_eq_sum, List.sum_set, if_pos hi]
  have hself := hsum xs[i]
  rw [List.set_getElem_self] at hself
  have hne : xs[i] ^^^ mask ≠ xs[i] := xor_ne_self hm
  have hlt' : xs[i] ^^^ mask < 2 ^ 32 := Nat.xor_lt_two_pow hlt hb
  have hset : xs.modify i (· ^^^ mask) = xs.set i (xs[i] ^^^ mask) := List.modify_eq_set_get _ hi
  rw [hset, hsum, hself]
  omega

/-- R154: the comparison of an integer pass. -/
theorem compareVector_integer (profile bound : Nat) (v : AccVec) :
    compareVector profile false bound v = if sumNat v.out % 2 ^ 32 = v.c then .equal else .fails := by
  unfold compareVector
  simp only [Bool.not_false, if_true, beq_iff_eq]

/-- A vector whose sum is its C word fails its comparison after one fault on a column or on the checksum lane. -/
theorem compareVector_fault {op : PassOp} {m : Nat} {f : LaneFault} {v : AccVec} (profile bound : Nat)
    (h : op.faults.filter (fun g => g.vector == m) = [f]) (hlen : v.out.length = 128)
    (hword : ∀ x ∈ v.out, x < 2 ^ 32) (hsum : sumNat v.out % 2 ^ 32 = v.c) (hcol : f.column ≤ 128) (hpos : 0 < f.mask)
    (hmask : f.mask < 2 ^ 32) : compareVector profile false bound (withFaults op m v) = .fails := by
  obtain ⟨hout, hc⟩ := withFaults_single (v := v) h
  suffices hne : sumNat (withFaults op m v).out % 2 ^ 32 ≠ (withFaults op m v).c by
    rw [compareVector_integer, if_neg hne]
  rw [hout, hc]
  by_cases hlane : f.column = 128
  · rw [hlane, if_pos rfl, List.modify_eq_self (by omega), hsum]
    exact (xor_ne_self hpos).symm
  · have hi : f.column < v.out.length := by omega
    rw [if_neg (Ne.symm hlane), Nat.xor_zero, ← hsum]
    exact sumNat_modify_ne hi (hword _ (List.getElem_mem hi)) hpos hmask

/-- Settles O25: the lane is the sum of the columns by exchanging the two sums, and one changed word changes one side. -/
theorem integerChecksumFindsFaults : Obligations.IntegerChecksumFindsFaults := by
  unfold Obligations.IntegerChecksumFindsFaults
  intro profile bound gang m p w op prev vec h v
  have hlen : v.out.length = 128 := by simp [v, intVector_eq]
  have hsum : sumNat v.out % 2 ^ 32 = v.c := intVector_sum w m vec h
  have hword : ∀ x ∈ v.out, x < 2 ^ 32 := by
    intro x hx
    rw [show v = _ from intVector_eq p w gang m prev vec] at hx
    obtain ⟨j, -, rfl⟩ := List.mem_map.1 hx
    exact ofSigned_lt _
  exact ⟨hlen, hsum, (compareVector_integer _ _ v).trans (if_pos hsum), fun hf => withFaults_none hf v,
    fun f hf hcol hpos hmask => compareVector_fault profile bound hf hlen hword hsum hcol hpos hmask⟩

end Sys2Proof.Machine

/-! PROOFS about the statements of the vector units (O27) and of the housekeeping and the capacity procedure (O31): a
concrete state that each of them lets in, and on which the model does otherwise. -/

namespace Sys2Proof.Machine

/-- An item of a queue that runs: that of an empty descriptor. -/
def runningItem (seq : Nat) : Job := { (readDescriptor [] 0).job seq with phase := .running }

/-! ## A vector operation over a register file out of order (R77, R80, R157, R193) -/

/-- A running replay job: its rounding profile is that of the selected almanac (R226). -/
def replayItem : Job := { runningItem 0 with replay := true }

/-- One FP32 element of the operand store plus one of lane register 0, into lane register 1. -/
def addOfOne : VecOp :=
  { t := 0, kind := .add, loadFmt := 9, storeFmt := 9, count := 1, x := .store 0, y := .lanes 0, z := .lanes 0, params := [],
    dest := .lanes 1, moments := [] }

/-- A state outside `State.Inv`: its register file lists ALMANAC_SELECT behind a counter of a higher address, where
`Dict.find` does not reach it. The counter, of corrected errors of array 0's operand store, stands at its maximum, and the
store's first word has a correctable error. The almanac selected, of an earlier part, has FP32_SUBNORMALS 1; the part's
own has 0. -/
def disorderedRegisters : State :=
  { State.reset with
    part := { State.reset.part with earlierAlmanacs := [zeros 8 ++ leBytes 2 0x011E] },
    dict := [(Adr.operandCeCorrected 0, .num (2 ^ 64 - 1)), (Adr.almanacSelect, .num 1)],
    queues := [{ Queue.zero with jobs := [replayItem] }],
    arrs := [{ Arr.zero with job := some (0, 0), store := [(0, 1)] }],
    mem := { Mem.zero with opCe := [(0, 0)] } }

/-- Refutes O27: its clause on vector operations does not ask for `s.Inv`. Over a register file out of order the read of
the operands counts a corrected error, the counter wraps to its default and loses its entry, and the one behind it comes
into force: the profile goes from 0x011C to 0x011E. The sum 2^-149 + 0 is kept in the lane, where the profile before the
operation flushes it to 0. -/
theorem not_unitsCompute : ¬ Obligations.UnitsCompute := by
  unfold Obligations.UnitsCompute
  rintro ⟨hvector, -⟩
  obtain ⟨x, hx, -, -, -, -, -, -, hadd, -⟩ := hvector disorderedRegisters 0 addOfOne 0 replayItem
    (by decide +kernel) (by decide +kernel) (by decide +kernel)
  obtain rfl : doVectorOp 0 addOfOne disorderedRegisters = x := Host.Outcome.next.inj hx
  have hkept : ((doVectorOp 0 addOfOne disorderedRegisters).arrAt 0).lanes = [(512, 1)] := by decide +kernel
  have hflushed := congrArg Arr.lanes (hadd rfl)
  exact absurd (hflushed.symm.trans hkept) (by decide +kernel)

/-! ## A share that does not run out (R179, R261) -/

/-- A running item whose guard step ended with a failed check at time 0: its array time has run up to there. -/
def guardedItem : Job := { runningItem 1 with guard := some { ends := 0, fails := true } }

/-- Array 0, with 5 ns of every share left, is held by the second of two running items of queue 0. The first, which has no
guard step, is the one that `State.running?` finds, and `State.nextGuard` sees no guard step at all. -/
def twoRunning : State :=
  (State.reset.setQueue 0 (fun x => { x with jobs := [runningItem 0, guardedItem] })).setArr 0 (fun x => { x with
    job := some (0, 1), share := [5, 5, 5, 5] })

theorem twoRunning_inv : twoRunning.Inv := by unfold State.Inv State.Canonical State.Shaped; decide +kernel

/-- Refutes O31: its clause on a share that runs out does not ask that the holder of the array be the item of its queue that
`State.running?` finds. In `twoRunning` the holder's guard step has failed at time 0, so no time is charged (R261), and
the share still reads 5. -/
theorem not_housekeepingTestsArrays : ¬ Obligations.HousekeepingTestsArrays := by
  unfold Obligations.HousekeepingTestsArrays
  rintro ⟨-, -, -, hcapacity⟩
  obtain ⟨-, hshare, -⟩ := hcapacity twoRunning twoRunning_inv
  obtain ⟨x, hx, hleft, -⟩ := hshare 0 0 guardedItem (by decide +kernel) (by decide +kernel) rfl rfl (by decide +kernel)
    rfl (by decide +kernel)
  obtain rfl : doShareExhausted 0 twoRunning = x := Host.Outcome.next.inj hx
  have hstays : (doShareExhausted 0 twoRunning).shareLeft 0 (twoRunning.partOf 0) = 5 := by decide +kernel
  exact absurd (hleft.symm.trans hstays) (by decide)

end Sys2Proof.Machine

/-! PROOFS about the statements of admission (O28) and of pre-emption (O29): for each a concrete state that it lets in, and
on which the model does otherwise. Neither statement, and no part of `State.Inv`, holds QUEUE_PARTITION below 4 (R185). The
region table that a partition 20 or 24 would have lies at the address of a counter of corrected errors (R188, R193): an
access that corrects an error overwrites the table that permitted it, and the next access is a violation. -/

namespace Sys2Proof.Machine

/-! ## The capacity procedure before the first meridian (R179) -/

/-- R169: no item becomes ready before the first meridian. -/
theorem State.noteHead_of_not_started {s : State} (h : s.tick.started = false) (q : Nat) : s.noteHead q = s := by
  unfold State.noteHead
  cases s.head? q with
  | none => rfl
  | some j => simp [h]

theorem State.noteQueue_of_not_started {s : State} (h : s.tick.started = false) (q fuel : Nat) :
    State.noteQueue fuel q s = s := by
  induction fuel with
  | zero => rfl
  | succ fuel ih => rw [State.noteQueue, State.noteHead_of_not_started h, ih]

theorem State.noteReady_of_not_started {s : State} (h : s.tick.started = false) : s.noteReady = s :=
  List.foldlRecOn (motive := (· = s)) _ _ rfl fun t ht q _ => by
    subst ht
    exact State.noteQueue_of_not_started h q _

/-- R179: no array starts or stops a job before the first meridian. -/
theorem State.dispatchOne_of_not_started {s : State} (h : s.tick.started = false) (a : Nat) :
    s.dispatchOne a = (false, s) := by
  simp [State.dispatchOne, State.dispatchOpen, h]

theorem State.dispatchRound_of_not_started {s : State} (h : s.tick.started = false) : s.dispatchRound = (false, s) := by
  unfold State.dispatchRound
  rw [State.noteReady_of_not_started h]
  refine List.foldlRecOn (motive := (· = (false, s))) _ _ rfl fun acc hacc a _ => ?_
  subst hacc
  simp only [State.dispatchOne_of_not_started h, Bool.or_self]

theorem State.dispatch_of_not_started {s : State} (h : s.tick.started = false) : s.dispatch = s := by
  simp [State.dispatch, State.dispatchLoop, State.dispatchRound_of_not_started h]

/-- Whether the first meridian has been is a matter of the tick generator alone (R13). -/
theorem State.Within.started {m : List Field} {s t : State} (h : State.Within m s t) (hm : m.contains .tick = false) :
    t.tick.started = s.tick.started := by
  obtain ⟨-, -, -, -, hstarted, -⟩ := Tick.patch_kept s.tick t.tick
  rw [h.tick hm, hstarted]

theorem State.dispatch_started (s : State) : s.dispatch.tick.started = s.tick.started :=
  (State.Sound.dispatch (State.Sound.refl [.dict, .tally, .arrs, .queues, .bin, .log] s) rfl).within.started rfl

/-- Before the first meridian the capacity procedure loses nothing of the state that it is given. -/
theorem State.eq_of_dispatch {x y : State} (hx : x.tick.started = false) (h : x.dispatch = y.dispatch) : y = x := by
  have hy : y.tick.started = false := by rw [← State.dispatch_started, ← h, State.dispatch_started, hx]
  rw [← State.dispatch_of_not_started hy, ← h, State.dispatch_of_not_started hx]

/-! ## The commands -/

/-- R177: the end of a context save. -/
theorem exec_contextSaveDone {s u : State} {t : Nat} {q : Fin 32} {j : Job} (hu : s.advanceCharged t = u)
    (hj : u.running? q.val = some j) (hp : j.phase = .saving) (hs : j.stop ≠ .deadline) :
    exec (.contextSaveDone t q) s = .next (u.contextSaved q.val j).dispatch := by
  have he : exec (.contextSaveDone t q) s = .next (doContextSaveDone t q s) := rfl
  rw [he]
  unfold doContextSaveDone
  simp only [hu, hj, hp]
  rw [if_neg (by decide), if_neg (by simpa using hs)]

/-! ## An image whose region table is a counter (R165, R169, R188, R193) -/

/-- The value of a REGION_TABLE with one entry: the first page of the chart store, readable and writable (R188). -/
def chartPage : Val := .bytes (leBytes 8 chartBase ++ leBytes 4 1 ++ leBytes 2 3 ++ leBytes 2 0)

/-- The header of a tick-bound image without a body that asks for eight arrays (R165). -/
def headerOfEightArrays : Bytes :=
  let h := leBytes 4 0x4A4B5341 ++ leBytes 2 1 ++ zeros 4 ++ leBytes 1 8 ++ zeros 113
  h ++ leBytes 4 (crc32c h)

/-- A JOB descriptor that names the image at the start of the chart store (R168). -/
def chartDescriptor : Bytes := zeros 8 ++ leBytes 8 chartBase ++ zeros 8 ++ leBytes 1 255 ++ zeros 39

/-- A part of two arrays whose queue 0 has one descriptor to fetch. The queue's partition is 20, whose region table would be
at the address of the chart store's counter of corrected errors, 0x281C01. It permits the first page of the chart store.
The image is there, and its first word has a correctable error. -/
def imageUnderCounter : State :=
  (((({ State.reset with
    part := Part.a0 .z4820,
    power := { PowerCtl.zero with state := .run },
    host := { HostLink.zero with linkUp := true, functionReady := true, bme := true },
    mem := { Mem.zero with ce := [chartBase], cells := Memory.write [] chartBase headerOfEightArrays } } : State).setQueue 0
      (fun x => { x with state := .active, ringOn := true, log2 := 4, sqTail := 1 })).setNum (Adr.queueEnable 0) 1).setNum
      (Adr.queuePartition 0) 20).setVal (Adr.regionTable 20) chartPage

theorem imageUnderCounter_inv : imageUnderCounter.Inv := by
  unfold State.Inv State.Canonical State.Shaped
  decide +kernel

/-- What the fetch of the descriptor makes of it. -/
def imageRefused : State :=
  (imageUnderCounter.advanceCharged 0).fetch 0 chartDescriptor { passes := [], formats := [], training := false }

theorem imageRefused_not_started : imageRefused.tick.started = false := by
  have hw : State.Within [.dict, .clock, .tally, .arrs, .queues, .mem, .bin, .log, .sent] imageUnderCounter imageRefused :=
    (State.Sound.fetch (State.Sound.advanceCharged (State.Sound.refl _ imageUnderCounter) rfl) rfl).within
  rw [hw.started rfl]
  rfl

theorem exec_imageRefused : exec (.job 0 0 chartDescriptor { passes := [], formats := [], training := false })
    imageUnderCounter = .next imageRefused.dispatch := rfl

/-- Refutes O28: in `imageUnderCounter` the header is read and its correctable error counted, which overwrites the region
table, so that the read of the whole image is a violation. The job ends with REFUSED_IMAGE, where the statement has
REFUSED_ABSENT for the eight arrays. -/
theorem not_jobIsAdmittedOrRefused : ¬ Obligations.JobIsAdmittedOrRefused := by
  unfold Obligations.JobIsAdmittedOrRefused
  intro h
  obtain ⟨-, hread⟩ := h imageUnderCounter 0 0 chartDescriptor { passes := [], formats := [], training := false }
    imageUnderCounter_inv (by decide +kernel) (by decide +kernel) (by decide +kernel) (by decide +kernel)
  obtain ⟨y, j, hy, -, -, -, -, -, -, -, -, -, himage⟩ := hread (.inr (.inr (.inr (by decide +kernel))))
  have hreal : y = imageRefused := State.eq_of_dispatch imageRefused_not_started
    (Host.Outcome.next.inj (exec_imageRefused.symm.trans hy))
  obtain ⟨habsent, -⟩ := himage
    { cls := 0, flags := 0, formats := 0, arrays := 8, budget := 0, context := 0, almanac := zeros 32 }
    (by decide +kernel) (by decide +kernel) (by decide +kernel) (by decide +kernel) (by decide +kernel) (by decide +kernel)
  obtain ⟨⟨i, e, hi, he, hstatus, -⟩, -⟩ := habsent (by decide +kernel)
  have hmodel : (imageRefused.job? 0 0).bind (fun i => i.ended.map Ended.status) = some 0x14 := by decide +kernel
  have hseq : ((imageUnderCounter.advanceCharged 0).queueAt (0 : Fin 32).val).submitted = 0 := by decide +kernel
  rw [hreal, hseq] at hi
  rw [show imageRefused.job? 0 0 = some i from hi, Option.bind_some, he, Option.map_some, hstatus] at hmodel
  exact absurd hmodel (by decide)

/-! ## A context area whose region table is a counter (R177, R188, R193) -/

/-- An item that saves one byte of context from array 0. -/
def savingItem : Job := { runningItem 0 with phase := .saving, arrays := [0], contextBytes := 1 }

/-- Array 0 is held by an item of queue 0 that saves its context into the chart store. The queue's partition is 24, whose
region table would be at the address of the array's counter of corrected operand-store errors, 0x282001. It permits the
first page of the chart store. The first word of the array's operand store has a correctable error. -/
def contextUnderCounter : State :=
  ((({ State.reset with
    queues := { Queue.zero with state := .active, jobs := [savingItem] } :: List.replicate 31 Queue.zero,
    arrs := { Arr.zero with powered := true, state := .busy, job := some (0, 0) } :: List.replicate 7 Arr.zero,
    mem := { Mem.zero with opCe := [(0, 0)] } } : State).setNum (Adr.queuePartition 0) 24).setNum
      (Adr.contextAddr 0) chartBase).setVal (Adr.regionTable 24) chartPage

theorem contextUnderCounter_inv : contextUnderCounter.Inv := by
  unfold State.Inv State.Canonical State.Shaped
  decide +kernel

/-- What the end of the context save makes of it. -/
def saveRefused : State := (contextUnderCounter.advanceCharged 0).contextSaved 0 savingItem

theorem saveRefused_not_started : saveRefused.tick.started = false := by
  have hw : State.Within [.dict, .clock, .tally, .arrs, .queues, .mem, .bin, .log, .free] contextUnderCounter saveRefused :=
    (State.Sound.contextSaved (State.Sound.advanceCharged (State.Sound.refl _ contextUnderCounter) rfl) rfl).within
  rw [hw.started rfl]
  rfl

theorem contextUnderCounter_running : (contextUnderCounter.advanceCharged 0).running? 0 = some savingItem := by
  decide +kernel

theorem exec_saveRefused : exec (.contextSaveDone 0 0) contextUnderCounter = .next saveRefused.dispatch :=
  exec_contextSaveDone (u := contextUnderCounter.advanceCharged 0) rfl contextUnderCounter_running rfl (by decide)

/-- No numbering of the fabric is closed in `contextUnderCounter`. -/
theorem contextUnderCounter_open (e d : Nat) : (contextUnderCounter.advanceCharged 0).closedPath e d true 0 = false := by
  rw [State.closedPath, (State.advanceCharged_within (s := contextUnderCounter) (t := 0)).fabric rfl]
  rfl

/-- Refutes O29: in `contextUnderCounter` the read of the operand store corrects its error and counts it, which overwrites
the region table, so that the write of the context area is a violation. The job ends with ABORTED_FAULT, where the statement
has it SAVED and not ended. -/
theorem not_preemptionSavesContext : ¬ Obligations.PreemptionSavesContext := by
  unfold Obligations.PreemptionSavesContext
  rintro ⟨-, hcontext, -⟩
  obtain ⟨hsave, -⟩ := hcontext contextUnderCounter 0 0 savingItem contextUnderCounter_inv contextUnderCounter_running
    (by decide +kernel) (by decide +kernel) (by decide +kernel) contextUnderCounter_open (by decide +kernel) (by decide +kernel)
    (by decide +kernel) (by decide +kernel) (by decide +kernel) (by decide +kernel)
  obtain ⟨y, k, hy, hk, -, -, -, -, hsaved, -⟩ := hsave rfl (by decide)
  have hreal : y = saveRefused := State.eq_of_dispatch saveRefused_not_started
    (Host.Outcome.next.inj (exec_saveRefused.symm.trans hy))
  obtain ⟨-, hopen⟩ := hsaved (by decide +kernel)
  have hmodel : (saveRefused.job? 0 0).bind (fun i => i.ended.map Ended.status) = some 0x20 := by decide +kernel
  rw [hreal] at hk
  rw [show saveRefused.job? 0 0 = some k from hk, Option.bind_some, hopen] at hmodel
  exact absurd hmodel (by decide)

end Sys2Proof.Machine

/-! PROOFS of the statement about the regions that guard memory (O32). -/

namespace Sys2Proof.Machine

/-! ## Accesses under the region check (R189, R191, R195) -/

/-- R191: the data of an entry ends within it. -/
theorem Region.dataLimit_le (r : Region) : r.dataLimit ≤ r.limit := by
  unfold Region.dataLimit
  split
  · exact Nat.add_le_add_left (Nat.mul_le_mul_right _ (Nat.sub_le ..)) _
  · exact le_rfl

section
variable {s : State} {p a k : Nat} {bs : Bytes}

/-- R189: one entry in force covers the whole of a permitted access. -/
theorem State.permitted_entry {write : Bool} (h : s.permitted p write a k = true) :
    ∃ r, r ∈ s.regionsInForce p ∧ r.base ≤ a ∧ a + k ≤ r.limit ∧ (if write then r.writable else r.readable) = true := by
  unfold State.permitted coveredBy at h
  simp only [Bool.and_eq_true, List.any_eq_true, decide_eq_true_eq] at h
  obtain ⟨⟨r, hr, ⟨hbase, hend⟩, hright⟩, -⟩ := h
  exact ⟨r, hr, hbase, hend.trans r.dataLimit_le, hright⟩

theorem State.load_of_denied (h : s.permitted p false a k = false) : s.load p a k = (zeros k, Met.refused) := by
  unfold State.load
  rw [h]
  rfl

theorem State.load_of_permitted (h : s.permitted p false a k = true) : s.load p a k = s.rawLoad a k := if_pos h

theorem State.store_of_denied (h : s.permitted p true a bs.length = false) : s.store p a bs = (s, Met.refused) := by
  unfold State.store
  rw [h]
  rfl

theorem State.store_of_permitted (h : s.permitted p true a bs.length = true) : s.store p a bs = s.rawStore a bs := if_pos h

/-- R195: only an uncorrectable error hides what memory holds. -/
theorem State.seen_of_no_error (h : s.ueIn a k = []) : s.seen a k = s.readMem a k := by
  simp [State.seen, h]

/-- R195: the whole of an ECC block lies in the bytes written, or its error stays. -/
theorem State.mem_rawStore_ue (s : State) (a : Nat) (bs : Bytes) (e : Nat) :
    e ∈ (s.rawStore a bs).1.mem.ue ↔ e ∈ s.mem.ue ∧ ¬ (a ≤ e ∧ e + granule e ≤ a + bs.length) := by
  have hue : (s.rawStore a bs).1.mem.ue = s.mem.ue.filter (fun u => !(replaces a bs.length u)) := rfl
  rw [hue, List.mem_filter]
  simp only [replaces, Bool.not_eq_true', Bool.and_eq_false_iff, decide_eq_false_iff_not, not_and_or]

end

/-! ## The entries in force as bits (R190) -/

/-- The number whose bit `k` says whether element `k` of a list satisfies a test. -/
def flagMask {α : Type} (p : α → Bool) (xs : List α) : Nat :=
  sumNat (xs.zipIdx.map (fun e => if p e.1 then 2 ^ e.2 else 0))

theorem State.regionEffective_eq (s : State) (p : Nat) : s.regionEffective p = flagMask s.regionInForce (s.regions p) := rfl

/-- An element in front moves every other bit up by one place. -/
theorem flagMask_cons {α : Type} (p : α → Bool) (x : α) (xs : List α) :
    flagMask p (x :: xs) = b2n (p x) + 2 * flagMask p xs := by
  unfold flagMask
  rw [sumNat_eq_sum, sumNat_eq_sum, List.zipIdx_cons', List.map_cons, List.sum_cons, List.map_map, ← List.sum_map_mul_left]
  congr 1
  refine congrArg List.sum (List.map_congr_left fun e _ => ?_)
  by_cases he : p e.1 = true <;> simp [he, Nat.pow_succ']

theorem bitAt_b2n_zero (b : Bool) (m : Nat) : bitAt (b2n b + 2 * m) 0 = b := by
  cases b <;> simp [bitAt, b2n, Nat.add_mod]

theorem bitAt_b2n_succ (b : Bool) (m k : Nat) : bitAt (b2n b + 2 * m) (k + 1) = bitAt m k := by
  have hbit : b2n b < 2 := by cases b <;> decide
  have hhalf : (b2n b + 2 * m) / 2 = m := by omega
  simp only [bitAt]
  rw [Nat.pow_succ', ← Nat.div_div_eq_div_mul, hhalf]

theorem bitAt_flagMask {α : Type} (p : α → Bool) (xs : List α) (k : Nat) :
    bitAt (flagMask p xs) k = xs[k]?.any p := by
  induction xs generalizing k with
  | nil => simp [flagMask, sumNat, bitAt]
  | cons x xs ih =>
    rw [flagMask_cons]
    cases k with
    | zero => rw [bitAt_b2n_zero]; rfl
    | succ k => rw [bitAt_b2n_succ, ih]; rfl

/-- R190: an entry that is in force while no memory is trained lies in the chart store's range. -/
theorem State.inChart_of_untrained {s : State} {r : Region} (h : s.numAt Adr.memCapacityMib = 0)
    (hr : s.regionInForce r = true) (hp : 0 < r.pages) : r.inChart = true := by
  by_contra hc
  simp only [State.regionInForce, hc, if_false, h, decide_eq_true_eq, Region.limit, Region.size] at hr
  omega

/-- Settles O32: the accesses are `State.rawLoad` and `State.rawStore` where they are permitted, and REGION_EFFECTIVE is a
mask of the entries in force. -/
theorem regionsGuardMemory : Obligations.RegionsGuardMemory := by
  unfold Obligations.RegionsGuardMemory
  refine ⟨fun s p a bs => ⟨fun _ _ => State.permitted_entry, fun _ => State.load_of_denied, fun k hp hue => ?_,
    State.store_of_denied, fun hp => ?_⟩, fun s p => ⟨fun r hr => ?_, fun r hr => ?_, fun k r hk => ?_, fun k hk => ?_,
    fun hcap r hr hpages => State.inChart_of_untrained hcap (List.mem_filter.1 hr).2 hpages⟩⟩
  · rw [State.load_of_permitted hp, State.rawLoad, State.seen_of_no_error hue, hue]
  · rw [State.store_of_permitted hp]
    exact ⟨fun hwf => ⟨Memory.read_write_same a bs hwf, fun x => Memory.byte_write_other hwf⟩, s.mem_rawStore_ue a bs⟩
  · simp [State.regionInForce, hr]
  · simp [State.regionInForce, hr]
  · rw [State.regionEffective_eq, bitAt_flagMask, hk]
    rfl
  · rw [State.regionEffective_eq, bitAt_flagMask, List.getElem?_eq_none hk]
    rfl

end Sys2Proof.Machine

/-! PROOF about the statement on the upkeep of memory (O33): its clause on an accepted TLB_INVALIDATE does not ask for
`State.Inv`, so that a state without ports meets its hypotheses. -/

namespace Sys2Proof.Machine

/-- A state outside `State.Inv`: port S owns, but the list of ports is empty. A port that is not listed reads as
`PortState.zero`, whose link is up and whose buffer is empty, and what is put there is lost. -/
def withoutPorts : State :=
  { State.reset with ports := [], own := { Own.zero with state := .owned, owner := some .S, lease := 1 } }

/-- TLB_INVALIDATE of all translations, on port S (R200). -/
def invalidateAll : Req := { t := 0, port := .S, sender := 0, seq := 1, flags := 0, payload := zeros 8 }

theorem withoutPorts_grants : withoutPorts.grants invalidateAll Adr.tlbInvalidate := by
  unfold State.grants State.hears
  decide +kernel

/-- Refutes O33: its clause on TLB_INVALIDATE does not ask for `s.Inv`. In `withoutPorts` the invalidation is accepted, and no
response waits on the port, where the statement has it wait as the last one. -/
theorem not_memoryUpkeep : ¬ Obligations.MemoryUpkeep := by
  unfold Obligations.MemoryUpkeep
  rintro ⟨-, hinvalidate, -⟩
  obtain ⟨haccepted, -⟩ := hinvalidate withoutPorts
  obtain ⟨x, hx, -, -, -, -, hwaits⟩ := haccepted invalidateAll withoutPorts_grants
  obtain rfl : doTlbInvalidate invalidateAll withoutPorts = x := Host.Outcome.next.inj hx
  have hnone : ((doTlbInvalidate invalidateAll withoutPorts).portAt .S).waiting = [] := by decide +kernel
  exact List.append_ne_nil_of_right_ne_nil _ (List.cons_ne_nil _ _) (hwaits.symm.trans hnone)

end Sys2Proof.Machine

/-! PROOF about the statement of copies and fences (O36): as in those of O28 and O29, nothing holds QUEUE_PARTITION below 4
(R185), and the counter of the chart store's corrected errors lies where the region table of partition 20 would
(R188, R193). -/

namespace Sys2Proof.Machine

/-- The descriptor of a COPY of 129 bytes from the start of the chart store to the start of the host window (R240). -/
def copyDescriptorOfChart : Bytes :=
  zeros 8 ++ leBytes 8 hostWindow ++ leBytes 8 chartBase ++ [1, 1] ++ zeros 2 ++ leBytes 4 129 ++ zeros 32

/-- Its item, admitted as the first of its queue. -/
def chartCopy : Job := (readDescriptor copyDescriptorOfChart 0).job 0

/-- Its service: a transfer from device to host takes no data from host memory. -/
def chartCopyOp : CopyOp := { t := 0, fromImage := false, desc := copyDescriptorOfChart, hostData := [] }

/-- Queue 0 has that item at its head, on engine 0, and a cached translation of the first page of the host window. The
queue's partition is 20, whose region table would be at the address of the chart store's counter of corrected errors,
0x281C01. It permits the first page of the chart store. The first word there has a correctable error. -/
def copyUnderCounter : State :=
  (({ State.reset with
    power := { PowerCtl.zero with state := .run },
    host := { HostLink.zero with linkUp := true, functionReady := true, bme := true },
    queues := { Queue.zero with state := .active, jobs := [chartCopy] } :: List.replicate 31 Queue.zero,
    mem := { Mem.zero with
      ce := [chartBase], tlb := [{ partition := 20, page := 0, size := 4096, bus := 0, leaf := 24 }] } } : State).setNum
      (Adr.queuePartition 0) 20).setVal (Adr.regionTable 20) chartPage

theorem copyUnderCounter_inv : copyUnderCounter.Inv := by
  unfold State.Inv State.Canonical State.Shaped
  decide +kernel

/-- What the service of the item makes of it. -/
def copyRefused : State := (copyUnderCounter.advanceCharged 0).copyDescriptor 0 chartCopyOp

theorem copyRefused_not_started : copyRefused.tick.started = false := by
  have hw : State.Within [.dict, .clock, .tally, .arrs, .queues, .mem, .host, .bin, .log, .sent] copyUnderCounter
      copyRefused :=
    (State.Sound.copyDescriptor (State.Sound.advanceCharged (State.Sound.refl _ copyUnderCounter) rfl) rfl).within
  rw [hw.started rfl]
  rfl

theorem exec_copyRefused : exec (.copy 0 chartCopyOp) copyUnderCounter = .next copyRefused.dispatch := rfl

/-- No numbering of the fabric is closed in `copyUnderCounter`. -/
theorem copyUnderCounter_open (d : Nat) : (copyUnderCounter.advanceCharged 0).closedPath 22 d true 0 = false := by
  rw [State.closedPath, (State.advanceCharged_within (s := copyUnderCounter) (t := 0)).fabric rfl]
  rfl

/-- Every byte of the transfer is translated by the one cached page, which may be read and written. -/
theorem copyUnderCounter_cached {k : Nat} (hk : k < chartCopy.copyLen) :
    ∃ c, (copyUnderCounter.advanceCharged 0).cached 20 (chartCopy.copyAddr - hostWindow + k) = some c ∧
      c.bus + (chartCopy.copyAddr - hostWindow + k - c.page) = 0 + k ∧
      bitAt c.leaf (if chartCopy.copyOut then 4 else 3) = true := by
  have hlen : chartCopy.copyLen = 129 := by decide +kernel
  have hoff : chartCopy.copyAddr - hostWindow = 0 := by decide +kernel
  have htlb : (copyUnderCounter.advanceCharged 0).mem.tlb =
      [{ partition := 20, page := 0, size := 4096, bus := 0, leaf := 24 }] := by decide +kernel
  refine ⟨{ partition := 20, page := 0, size := 4096, bus := 0, leaf := 24 }, ?_, ?_, by decide +kernel⟩
  · rw [State.cached, htlb, hoff, List.find?_cons_of_pos]
    simp
    omega
  · simp [hoff]

/-- Refutes O36: in `copyUnderCounter` the first request of the COPY, of 128 bytes, corrects an error and counts it, which
overwrites the region table, so that the read of the last byte is a violation. The item ends with ABORTED_FAULT, where the
statement has it SERVED. -/
theorem not_copiesAndFences : ¬ Obligations.CopiesAndFences := by
  unfold Obligations.CopiesAndFences
  rintro ⟨hcopies, -⟩
  obtain ⟨hcopy, -⟩ := hcopies copyUnderCounter copyUnderCounter_inv
  have hp : (copyUnderCounter.advanceCharged chartCopyOp.t).partOf (0 : Fin 32).val = 20 := by decide +kernel
  obtain ⟨y, hy, hout, -⟩ := hcopy 0 chartCopyOp chartCopy 0 rfl (by decide +kernel) (by decide +kernel) (by decide +kernel)
    (by decide +kernel) (by decide +kernel) rfl (by decide +kernel) (by decide +kernel) (by decide +kernel) (by decide +kernel)
    (by decide +kernel) (by decide +kernel) (by decide +kernel) copyUnderCounter_open (by decide +kernel) (by decide +kernel)
    (by decide +kernel) (by decide +kernel) (fun _ hk => hp ▸ copyUnderCounter_cached hk) (by decide +kernel)
  obtain rfl : copyRefused = y := (State.eq_of_dispatch copyRefused_not_started
    (Host.Outcome.next.inj (exec_copyRefused.symm.trans hy))).symm
  obtain ⟨⟨⟨j, e, hj, he, hserved, -⟩, -⟩, -⟩ := hout (by decide +kernel)
  have hmodel : (copyRefused.job? 0 0).bind (fun i => i.ended.map Ended.status) = some 0x20 := by decide +kernel
  have hseq : chartCopy.submitSeq = 0 := rfl
  rw [hseq] at hj
  rw [show copyRefused.job? 0 0 = some j from hj, Option.bind_some, he, Option.map_some, hserved] at hmodel
  exact absurd hmodel (by decide)

end Sys2Proof.Machine

/-! PROOFS about the numberings of the fabric and about what a source or a destination sends (towards O34). -/

namespace Sys2Proof.Machine

/-! ## Numberings (R215) -/

section
variable {n : Numbering} {src dst channel : Nat} {bulk : Bool}

theorem Numbering.is_iff : n.is src dst bulk channel = true ↔
    n.src = src ∧ n.dst = dst ∧ n.bulk = bulk ∧ (bulk = true ∨ n.channel = channel) := by
  simp [Numbering.is, and_assoc]

theorem State.numbering_is (s : State) (src dst : Nat) (bulk : Bool) (channel : Nat) :
    (s.numbering src dst bulk channel).is src dst bulk channel = true := by
  unfold State.numbering
  cases h : s.fabric.numberings.find? (fun n => n.is src dst bulk channel) with
  | none => cases bulk <;> simp [Numbering.is, Numbering.new]
  | some n => exact List.find?_some (p := fun n : Numbering => n.is src dst bulk channel) h

theorem State.numbering_congr {s t : State} (h : t.fabric.numberings = s.fabric.numberings) (src dst : Nat) (bulk : Bool)
    (channel : Nat) : t.numbering src dst bulk channel = s.numbering src dst bulk channel := by
  rw [State.numbering, h, State.numbering]

theorem State.numbering_bump (s : State) (a src dst : Nat) (bulk : Bool) (channel : Nat) :
    (s.bump a).numbering src dst bulk channel = s.numbering src dst bulk channel :=
  State.numbering_congr (by simp only [State.bump_frame]) ..

/-- A numbering's own key names the numberings that any key of it names. -/
theorem Numbering.is_own (h : n.is src dst bulk channel = true) (m : Numbering) :
    m.is n.src n.dst n.bulk n.channel = m.is src dst bulk channel := by
  obtain ⟨rfl, rfl, rfl, hc⟩ := Numbering.is_iff.1 h
  obtain hb | rfl := hc
  · simp [Numbering.is, hb]
  · rfl

/-- R215: a source and a destination have one numbering for the bulk packets of all channels. -/
theorem State.numbering_own (s : State) (h : n.is src dst bulk channel = true) :
    s.numbering n.src n.dst n.bulk n.channel = s.numbering src dst bulk channel := by
  unfold State.numbering
  simp only [Numbering.is_own h]
  obtain ⟨rfl, rfl, rfl, hc⟩ := Numbering.is_iff.1 h
  obtain hb | rfl := hc
  · simp [Numbering.new, hb]
  · rfl

theorem State.numbering_setNumbering_same (s : State) (h : n.is src dst bulk channel = true) :
    (s.setNumbering n).numbering src dst bulk channel = n := by
  unfold State.numbering State.setNumbering
  simp only [Numbering.is_own h]
  cases hf : s.fabric.numberings.find? (fun m => m.is src dst bulk channel) with
  | none =>
    have hany : s.fabric.numberings.any (fun m => m.is src dst bulk channel) = false := by
      simpa [List.any_eq_false] using hf
    simp [hany, hf, h]
  | some m =>
    have hm : m.is src dst bulk channel = true := List.find?_some (p := fun m : Numbering => m.is src dst bulk channel) hf
    have hany : s.fabric.numberings.any (fun m => m.is src dst bulk channel) = true :=
      List.any_eq_true.2 ⟨m, List.mem_of_find?_eq_some hf, hm⟩
    have hkey : (fun m : Numbering => m.is src dst bulk channel) ∘
        (fun m => if m.is src dst bulk channel = true then n else m) = fun m => m.is src dst bulk channel := by
      funext k
      simp only [Function.comp_apply]
      split <;> simp_all
    rw [if_pos hany, List.find?_map, hkey, hf]
    simp [hm]

theorem State.numbering_setNumbering_other (s : State) (h : n.is src dst bulk channel = false) :
    (s.setNumbering n).numbering src dst bulk channel = s.numbering src dst bulk channel := by
  have hother : ∀ m : Numbering, m.is n.src n.dst n.bulk n.channel = true → m.is src dst bulk channel = false := by
    intro m hm
    by_contra hk
    obtain ⟨hs, hd, hb, hc⟩ := Numbering.is_iff.1 hm
    obtain ⟨rfl, rfl, rfl, hk⟩ := Numbering.is_iff.1 (Bool.eq_true_of_not_eq_false hk)
    refine absurd (Numbering.is_iff.2 ⟨hs.symm, hd.symm, hb.symm, ?_⟩) (Bool.eq_false_iff.1 h)
    rw [hb]
    exact hc.elim .inl fun hc => hk.elim (fun hk => .inl (hb ▸ hk)) fun hk => .inr (hc.symm.trans hk)
  have hkey : (fun m : Numbering => m.is src dst bulk channel) ∘
      (fun m => if m.is n.src n.dst n.bulk n.channel = true then n else m) = fun m => m.is src dst bulk channel := by
    funext m
    simp only [Function.comp_apply]
    split
    · rename_i hm
      rw [h, hother m hm]
    · rfl
  unfold State.numbering State.setNumbering
  dsimp only
  split
  · rw [List.find?_map, hkey]
    cases hf : s.fabric.numberings.find? (fun m => m.is src dst bulk channel) with
    | none => rfl
    | some m =>
      have hm : m.is src dst bulk channel = true := List.find?_some (p := fun m : Numbering => m.is src dst bulk channel) hf
      have hn : ¬ m.is n.src n.dst n.bulk n.channel = true := fun hk => absurd ((hother m hk).symm.trans hm) Bool.false_ne_true
      simp [hn]
  · simp [List.find?_append, h]

theorem Numbering.accept_is (n : Numbering) (seq : Nat) :
    (n.accept seq).is src dst bulk channel = n.is src dst bulk channel := by
  unfold Numbering.accept
  split <;> rfl

theorem Numbering.accept_closed (n : Numbering) (seq : Nat) : (n.accept seq).closed = n.closed := by
  unfold Numbering.accept
  split <;> rfl

/-- R216: the SEQ that is next is accepted, and no SEQ waits behind it. -/
theorem Numbering.accept_next {seq : Nat} (he : seq = n.expected) (ha : n.ahead = []) :
    n.accept seq = { n with expected := (seq + 1) % 2 ^ 16 } := by
  subst he
  obtain ⟨_, _, _, _, _, _, _, _, _, _, _, _⟩ := n
  subst ha
  simp [Numbering.accept, advanceExpected]

/-- R216: the SEQ that is next has not been accepted. -/
theorem Numbering.not_accepted_next {seq : Nat} (he : seq = n.expected) (hl : seq < 2 ^ 16) (ha : n.ahead = []) :
    n.accepted seq = false := by
  subst he
  have hd : seqAfter n.expected n.expected = 0 := by unfold seqAfter; omega
  simp [Numbering.accepted, hd, ha]

end

/-! ## What a sending leaves alone -/

/-- The addresses of which no sending counts: it counts in PACKETS_SENT and SWEEPS of an endpoint (R227). -/
def sendKept (a : Nat) : Prop := a / 256 < 0x2C10 ∨ a % 16 ≠ 1 ∧ a % 16 ≠ 7

/-- The counters of sendings. -/
def sendCounts (c : Nat) : Prop := 0x2C10 ≤ c / 256 ∧ c % 256 < 0xF0 ∧ (c % 16 = 1 ∨ c % 16 = 7)

theorem sendKept.ne {a c : Nat} (h : sendKept a) (hc : sendCounts c) : a ≠ c ∧ a ≠ wrapFlagOf c := by
  unfold sendKept at h
  unfold sendCounts at hc
  unfold wrapFlagOf
  simp only [beq_iff_eq]
  split <;> omega

theorem sendCounts_packetsSent (e : Nat) : sendCounts (Adr.packetsSent e) := by
  unfold sendCounts Adr.packetsSent
  omega

theorem sendCounts_sweeps (e : Nat) : sendCounts (Adr.sweeps e) := by
  unfold sendCounts Adr.sweeps
  omega

/-- On the way from `o` to `s` the packets `ws` have left, and beside numberings, none of them closed or opened, and the
counters of what is sent nothing has changed. -/
structure State.Sends (ws : List Sent) (o s : State) : Prop where
  inv : s.Inv
  within : State.Within [.dict, .fabric, .sent] o s
  sent : s.sent = o.sent ++ ws
  vals : ∀ a, sendKept a → s.valAt a = o.valAt a
  closed : ∀ src dst bulk channel, (s.numbering src dst bulk channel).closed = (o.numbering src dst bulk channel).closed

section
variable {ws : List Sent} {o s : State}

theorem State.Sends.refl (h : s.Inv) : State.Sends [] s s :=
  ⟨h, State.Within.refl _ s, (List.append_nil _).symm, fun _ _ => rfl, fun _ _ _ _ => rfl⟩

theorem State.Sends.trans {xs : List Sent} {x : State} (h : State.Sends ws o s) (k : State.Sends xs s x) :
    State.Sends (ws ++ xs) o x where
  inv := k.inv
  within := h.within.trans k.within rfl
  sent := by rw [k.sent, h.sent, List.append_assoc]
  vals a ha := (k.vals a ha).trans (h.vals a ha)
  closed src dst bulk channel := (k.closed src dst bulk channel).trans (h.closed src dst bulk channel)

theorem State.Sends.numAt {a : Nat} (h : State.Sends ws o s) (ha : sendKept a) : s.numAt a = o.numAt a :=
  congrArg Val.toNat (h.vals a ha)

theorem State.Sends.ite {c : Prop} [Decidable c] {x y : State} (hx : State.Sends ws o x) (hy : State.Sends ws o y) :
    State.Sends ws o (if c then x else y) := by
  split
  · exact hx
  · exact hy

theorem State.Sends.emit (h : State.Sends ws o s) (x : Sent) : State.Sends (ws ++ [x]) o (s.emit x) where
  inv := h.inv
  within := h.within.trans (State.Sound.emit (State.Sound.refl [.sent] s) rfl).within rfl
  sent := by rw [State.emit_sent, h.sent, List.append_assoc]
  vals := h.vals
  closed := h.closed

theorem State.Sends.bump {c : Nat} (h : State.Sends ws o s) (hc : sendCounts c) : State.Sends ws o (s.bump c) where
  inv := (State.Sound.bump (State.Sound.refl [.dict] s) rfl).good h.inv
  within := h.within.trans (State.Sound.bump (State.Sound.refl [.dict] s) rfl).within rfl
  sent := by simp only [State.bump_frame, h.sent]
  vals a ha := (State.valAt_bump_other h.inv.1.1 (ha.ne hc).1 (ha.ne hc).2).trans (h.vals a ha)
  closed src dst bulk channel := (congrArg _ (s.numbering_bump c src dst bulk channel)).trans (h.closed src dst bulk channel)

/-- A numbering that is neither closed nor opened. -/
theorem State.Sends.setNumbering {n : Numbering} {src dst channel : Nat} {bulk : Bool} (h : State.Sends ws o s)
    (hn : n.is src dst bulk channel = true) (hc : n.closed = (s.numbering src dst bulk channel).closed) :
    State.Sends ws o (s.setNumbering n) where
  inv := (State.Sound.setNumbering (State.Sound.refl [.fabric] s) rfl).good h.inv
  within := h.within.trans (State.Sound.setNumbering (State.Sound.refl [.fabric] s) rfl).within rfl
  sent := h.sent
  vals := h.vals
  closed src' dst' bulk' channel' := by
    rw [← h.closed]
    by_cases hk : n.is src' dst' bulk' channel' = true
    · rw [State.numbering_setNumbering_same s hk, hc, ← s.numbering_own hn, s.numbering_own hk]
    · rw [State.numbering_setNumbering_other s (Bool.eq_false_of_not_eq_true hk)]

end

/-! ## Answers (R214, R216) -/

section
variable {s : State} {type src dst channel partition seq : Nat} {bulk : Bool} {payload : Bytes}

/-- In a closed numbering only RESET_DONE is sent. -/
theorem State.answer_of_closed (hc : (s.numbering src dst bulk (sourceChannel src channel)).closed = true) (ht : type ≠ 9) :
    s.answer type src dst bulk channel partition seq payload = s := by
  unfold State.answer
  simp [hc, ht]

/-- An answer in a numbering that is not closed: one packet leaves, under a number of its own. -/
theorem State.Sends.answer (hs : s.Inv) (hc : (s.numbering src dst bulk (sourceChannel src channel)).closed = false)
    (type partition seq : Nat) (payload : Bytes) :
    ∃ own, State.Sends [.packet (packetBytes src dst type bulk (sourceChannel src channel) false
      (if unpartitioned src then 0 else partition) own seq payload)] s
      (s.answer type src dst bulk channel partition seq payload) := by
  unfold State.answer
  extract_lets c n own x
  have hn : n.closed = false := hc
  have hx : State.Sends [] s x :=
    State.Sends.ite (.refl hs) ((State.Sends.refl hs).setNumbering
      ((Numbering.accept_is _ _).trans (s.numbering_is _ _ _ _)) (Numbering.accept_closed _ _))
  clear_value x
  rw [if_neg (c := (n.closed && type != 9) = true) (by simp [hn])]
  exact ⟨own, (hx.bump (sendCounts_packetsSent src)).emit _⟩

/-- An answer keeps the invariant, and what does not count sendings. -/
theorem State.answer_kept (hs : s.Inv) (ht : type ≠ 9) :
    ∃ ws, State.Sends ws s (s.answer type src dst bulk channel partition seq payload) := by
  cases hc : (s.numbering src dst bulk (sourceChannel src channel)).closed with
  | true =>
    rw [State.answer_of_closed hc ht]
    exact ⟨[], .refl hs⟩
  | false =>
    obtain ⟨own, h⟩ := State.Sends.answer hs hc type partition seq payload
    exact ⟨_, h⟩

/-- An answer takes a number of its own numbering; those of another source or class stay as they are. -/
theorem State.numbering_answer {src' dst' channel' : Nat} {bulk' : Bool} (h : src ≠ src' ∨ bulk ≠ bulk') :
    (s.answer type src dst bulk channel partition seq payload).numbering src' dst' bulk' channel' =
      s.numbering src' dst' bulk' channel' := by
  unfold State.answer
  extract_lets c n own x
  have hn : (({ n with nextSeq := (own + 1) % 2 ^ 16 } : Numbering).accept own).is src' dst' bulk' channel' = false := by
    rw [Numbering.accept_is, Bool.eq_false_iff]
    intro hk
    obtain ⟨hs, hd, hb, -⟩ := Numbering.is_iff.1 hk
    obtain ⟨hs', hd', hb', -⟩ := Numbering.is_iff.1 (s.numbering_is src dst bulk c)
    exact h.elim (fun h => h (hs'.symm.trans hs)) fun h => h (hb'.symm.trans hb)
  have hx : x.numbering src' dst' bulk' channel' = s.numbering src' dst' bulk' channel' := by
    simp only [x]
    split
    · rfl
    · exact State.numbering_setNumbering_other s hn
  clear_value x
  split
  · rfl
  · exact (x.numbering_bump (Adr.packetsSent src) ..).trans hx

end

/-! ## First sends (R215, R217) -/

theorem State.Sends.sendPacket {s : State} (hs : s.Inv) (o : Outstanding) :
    State.Sends [.packet o.bytes] s (s.sendPacket (s.numberingOf o.packet) o) := by
  unfold State.sendPacket
  extract_lets p x y
  have hx : State.Sends [] s x :=
    (State.Sends.refl hs).setNumbering (s.numbering_is p.src.val p.dst.val p.bulk p.channel) rfl
  clear_value x
  have hy : State.Sends [.packet o.bytes] s y := (hx.bump (sendCounts_packetsSent _)).emit _
  clear_value y
  split
  · exact hy.bump (sendCounts_sweeps _)
  · exact hy

/-- A packet that leaves for the first time enters the retry buffer of its numbering. -/
theorem State.numberingOf_sendPacket (s : State) (o : Outstanding) :
    (s.sendPacket (s.numberingOf o.packet) o).numberingOf o.packet =
      let n := s.numberingOf o.packet
      { n with outstanding := n.outstanding ++ [o], p0 := n.p0 || packetPartition o.packet == 0,
               nextSeq := (o.packet.seq + 1) % 2 ^ 16 } := by
  unfold State.sendPacket
  extract_lets p x y n
  have hx : x.numberingOf p = { n with
      outstanding := n.outstanding ++ [o], p0 := n.p0 || packetPartition p == 0, nextSeq := (p.seq + 1) % 2 ^ 16 } :=
    State.numbering_setNumbering_same s (s.numbering_is p.src.val p.dst.val p.bulk p.channel)
  clear_value x
  have hy : y.numberingOf p = x.numberingOf p := x.numbering_bump (Adr.packetsSent p.src.val) ..
  clear_value y
  rw [← hx, ← hy]
  split
  · exact y.numbering_bump ..
  · rfl

end Sys2Proof.Machine

/-! PROOFS about the accesses that packets make to memory (towards O34). -/

namespace Sys2Proof.Machine

/-! ## What an access leaves alone -/

/-- The addresses of which no permitted access of a packet counts: it counts in the objects of the partitions (R174) and in
those behind the region tables (R193). -/
def accessKept (a : Nat) : Prop := a / 256 < 0x2460 ∨ 0x2464 ≤ a / 256 ∧ a / 256 < 0x2818

/-- The counters of accesses. -/
def accessCounts (c : Nat) : Prop := c % 256 < 0xF0 ∧ (0x2460 ≤ c / 256 ∧ c / 256 < 0x2464 ∨ 0x2818 ≤ c / 256)

theorem accessKept.ne {a c : Nat} (h : accessKept a) (hc : accessCounts c) : a ≠ c ∧ a ≠ wrapFlagOf c := by
  unfold accessKept at h
  unfold accessCounts at hc
  unfold wrapFlagOf
  simp only [beq_iff_eq]
  split <;> omega

theorem accessKept.sendKept {a : Nat} (h : accessKept a) : sendKept a := by
  unfold accessKept at h
  unfold Machine.sendKept
  omega

/-- On the way from `o` to `s` accesses have been made: memory holds the bytes `c`, no uncorrectable error has come up, and
beside the counters of accesses, the credits of partitions and free values nothing has changed. -/
structure State.Accessed (c : Memory) (o s : State) : Prop where
  inv : s.Inv
  within : State.Within [.dict, .mem, .free] o s
  cells : s.mem.cells = c
  ue : o.mem.ue = [] → s.mem.ue = []
  vals : ∀ a, accessKept a → s.valAt a = o.valAt a

section
variable {c : Memory} {o s : State}

theorem State.Accessed.refl (h : s.Inv) : State.Accessed s.mem.cells s s :=
  ⟨h, State.Within.refl _ s, rfl, id, fun _ _ => rfl⟩

theorem State.Accessed.ite {p : Prop} [Decidable p] {x y : State} (hx : State.Accessed c o x) (hy : State.Accessed c o y) :
    State.Accessed c o (if p then x else y) := by
  split
  · exact hx
  · exact hy

theorem State.Accessed.foldl {α : Type} {f : State → α → State} {xs : List α} (h : State.Accessed c o s)
    (hf : ∀ t x, State.Accessed c o t → State.Accessed c o (f t x)) : State.Accessed c o (xs.foldl f s) :=
  List.foldlRecOn xs f h (fun t ht x _ => hf t x ht)

theorem State.Accessed.bump {a : Nat} (h : State.Accessed c o s) (ha : accessCounts a) : State.Accessed c o (s.bump a) where
  inv := (State.Sound.bump (State.Sound.refl [.dict] s) rfl).good h.inv
  within := h.within.trans (State.Sound.bump (State.Sound.refl [.dict] s) rfl).within rfl
  cells := by simp only [State.bump_frame, h.cells]
  ue := by simpa only [State.bump_frame] using h.ue
  vals b hb := (State.valAt_bump_other h.inv.1.1 (hb.ne ha).1 (hb.ne ha).2).trans (h.vals b hb)

/-- A change of memory that leaves its bytes and brings no uncorrectable error. -/
theorem State.Accessed.setMem {m : Mem} (h : State.Accessed c o s) (hm : m.cells = s.mem.cells)
    (hu : s.mem.ue = [] → m.ue = []) : State.Accessed c o { s with mem := m } where
  inv := ⟨⟨h.inv.1.1, (congrArg Memory.wf hm).trans h.inv.1.2⟩, h.inv.2⟩
  within := h.within.trans (d := [.mem]) rfl rfl
  cells := hm.trans h.cells
  ue ho := hu (h.ue ho)
  vals := h.vals

theorem State.Accessed.takeFree (h : State.Accessed c o s) (bound : Nat) : State.Accessed c o (s.takeFree bound).2 where
  inv := (State.Sound.takeFree (bound := bound) (State.Sound.refl [.free] s) rfl).snd.good h.inv
  within := h.within.trans (State.Sound.takeFree (bound := bound) (State.Sound.refl [.free] s) rfl).snd.within rfl
  cells := h.cells
  ue := h.ue
  vals := h.vals

/-- R174: the credits of a partition. -/
theorem State.Accessed.chargeAccess {p : Nat} (h : State.Accessed c o s) (hp : p < 4) (write : Bool) (a k : Nat) :
    State.Accessed c o (s.chargeAccess p write a k) := by
  unfold State.chargeAccess State.chargeBytes
  refine .ite h ?_
  extract_lets left already m x
  have hx : State.Accessed c o x := h.setMem rfl id
  clear_value x
  exact .ite (hx.bump (by unfold accessCounts Adr.bwExhaustedTicks; omega)) hx

/-- R193: correctable errors met. -/
theorem State.Accessed.correct (h : State.Accessed c o s) (m : Met) : State.Accessed c o (s.correct m) := by
  unfold State.correct
  extract_lets x
  have hx : State.Accessed c o x := h.foldl fun t a ht =>
    .ite (ht.bump (by unfold accessCounts Adr.chartCeCorrected; omega))
      (ht.bump (by unfold accessCounts Adr.channelCeCorrected; omega))
  clear_value x
  exact hx.setMem rfl id

theorem State.Accessed.rawStore (h : State.Accessed c o s) (a : Nat) (b : Bytes) :
    State.Accessed (c.write a b) o (s.rawStore a b).1 where
  inv := (State.Sound.rawStore (State.Sound.refl [.mem] s) rfl).fst.good h.inv
  within := h.within.trans (State.Sound.rawStore (State.Sound.refl [.mem] s) rfl).fst.within rfl
  cells := by rw [State.rawStore_cells, h.cells]
  ue ho := by
    have hue : (s.rawStore a b).1.mem.ue = s.mem.ue.filter (fun u => !(replaces a b.length u)) := rfl
    rw [hue, h.ue ho, List.filter_nil]
  vals := h.vals

end

/-! ## What is permitted hangs on settings alone (R189 to R191) -/

section
variable {s t : State} (hpart : t.part = s.part) (hvals : ∀ a, accessKept a → t.valAt a = s.valAt a)
include hpart hvals

theorem State.regionsInForce_congr {p : Nat} (hp : p < 4) : t.regionsInForce p = s.regionsInForce p := by
  have htable : t.regions p = s.regions p := by
    unfold State.regions State.bytesAt
    rw [hvals _ (by unfold accessKept Adr.regionTable; omega)]
  have hforce : t.regionInForce = s.regionInForce := by
    funext r
    unfold State.regionInForce State.numAt
    rw [hpart, hvals _ (by unfold accessKept; decide)]
  rw [State.regionsInForce, State.regionsInForce, htable, hforce]

theorem State.permitted_congr {p : Nat} (hp : p < 4) (write : Bool) (a k : Nat) :
    t.permitted p write a k = s.permitted p write a k := by
  have hcheck : t.inCheckArea a k = s.inCheckArea a k := by
    unfold State.inCheckArea
    rw [Bool.eq_iff_iff, List.any_eq_true, List.any_eq_true]
    refine exists_congr fun q => and_congr_right fun hq => ?_
    rw [State.regionsInForce_congr hpart hvals (List.mem_range.1 hq)]
  rw [State.permitted, State.permitted, State.regionsInForce_congr hpart hvals hp, hcheck]

/-- The rounding profile of a job (R77, R140). -/
theorem State.profileOf_congr (j : Job) : t.profileOf j = s.profileOf j := by
  have hset : ∀ a < 0x201000, t.numAt a = s.numAt a := fun a ha => congrArg Val.toNat (hvals a (.inl (by omega)))
  have harrays : t.arraysEnabled = s.arraysEnabled := by
    unfold State.arraysEnabled
    rw [hset Adr.arrayEnable (by decide)]
  simp only [State.profileOf, State.roundingEffective, State.almanacEffective, State.almanacEntry, State.ownAlmanac, harrays,
    hpart, hset Adr.almanacSelect (by decide), hset Adr.microcodeVersion (by decide)]

end

/-! ## Accesses that packets may make (R189, R195) -/

/-- A packet may make an access where it carries no partition, or its partition has the right. -/
def State.letsPacket (s : State) (p : Packet) (write : Bool) (k : Nat) : Prop :=
  unpartitioned p.src.val = true ∨ s.permitted p.partition.val write p.addr k = true

theorem State.letsPacket_congr {s t : State} {p : Packet} {write : Bool} {k : Nat} (hpart : t.part = s.part)
    (hvals : ∀ a, accessKept a → t.valAt a = s.valAt a) (h : s.letsPacket p write k) : t.letsPacket p write k :=
  h.imp_right fun h => (State.permitted_congr hpart hvals p.partition.isLt write p.addr k).trans h

/-- An access that met at most correctable errors is told of those alone. -/
theorem State.packetMet_clean (s : State) (o : Outstanding) {m : Met} (hv : m.violation = false) (hb : m.bad = []) :
    s.packetMet o m = s.correct m := by
  unfold State.packetMet State.report
  rw [hv, hb]
  split <;> rfl

section
variable {c : Memory} {o s : State} {x : Outstanding}

theorem State.Accessed.lets {p : Packet} {write : Bool} {k : Nat} (h : State.Accessed c o s) (hl : o.letsPacket p write k) :
    s.letsPacket p write k := State.letsPacket_congr (h.within.part rfl) h.vals hl

theorem State.Accessed.chargePacket (h : State.Accessed c o s) (x : Outstanding) (write : Bool) (k : Nat) :
    State.Accessed c o (s.chargePacket x write k) := .ite (h.chargeAccess x.packet.partition.isLt write _ k) h

/-- A write that a packet may make replaces its bytes. -/
theorem State.Accessed.packetStore (h : State.Accessed c o s) (hue : o.mem.ue = []) {b : Bytes}
    (hl : o.letsPacket x.packet true b.length) : State.Accessed (c.write x.packet.addr b) o (s.packetStore x b) := by
  unfold State.packetStore
  extract_lets y
  have hy : State.Accessed c o y := h.chargePacket x true b.length
  clear_value y
  have hraw : (if unpartitioned x.packet.src.val then y.rawStore x.packet.addr b
      else y.store x.packet.partition.val x.packet.addr b) = y.rawStore x.packet.addr b := by
    split
    · rfl
    · rename_i hsrc
      exact State.store_of_permitted ((hy.lets hl).resolve_left hsrc)
  have hbad : (y.rawStore x.packet.addr b).2.bad = [] := by
    show (granulesIn y.mem.ue _ _).filter _ = []
    rw [hy.ue hue]
    rfl
  rw [hraw]
  dsimp only
  rw [State.packetMet_clean _ _ rfl hbad]
  exact (hy.rawStore _ _).correct _

/-- A read that a packet may make gives what memory holds. -/
theorem State.Accessed.packetLoad (h : State.Accessed c o s) (hue : o.mem.ue = []) {k : Nat}
    (hl : o.letsPacket x.packet false k) :
    (s.packetLoad x k).1 = c.read x.packet.addr k ∧ State.Accessed c o (s.packetLoad x k).2 := by
  unfold State.packetLoad
  extract_lets y
  have hy : State.Accessed c o y := h.chargePacket x false k
  clear_value y
  have hraw : (if unpartitioned x.packet.src.val then y.rawLoad x.packet.addr k
      else y.load x.packet.partition.val x.packet.addr k) = y.rawLoad x.packet.addr k := by
    split
    · rfl
    · rename_i hsrc
      exact State.load_of_permitted ((hy.lets hl).resolve_left hsrc)
  have hbad : y.ueIn x.packet.addr k = [] := by
    rw [State.ueIn, hy.ue hue]
    rfl
  rw [hraw]
  dsimp only [State.rawLoad]
  rw [State.packetMet_clean _ _ rfl hbad, State.seen_of_no_error hbad, State.readMem, hy.cells]
  exact ⟨rfl, hy.correct _⟩

/-- The rounding profile that an ATOMIC_ADD adds under: that of the job it is sent for (R222, R226). -/
def State.addProfile (s : State) (x : Outstanding) : Nat :=
  match s.itemFor x.owner with
  | some (_, j) => s.profileOf j
  | none => s.part.roundingProfile

theorem State.addProfile_congr {s t : State} (hpart : t.part = s.part) (hqueues : t.queues = s.queues)
    (hvals : ∀ a, accessKept a → t.valAt a = s.valAt a) (x : Outstanding) : t.addProfile x = s.addProfile x := by
  have hitem : t.itemFor x.owner = s.itemFor x.owner := by
    unfold State.itemFor State.job?
    simp only [State.queueAt_congr hqueues]
  unfold State.addProfile
  rw [hitem]
  split
  · exact State.profileOf_congr hpart hvals _
  · rw [hpart]

/-- R160: an ATOMIC_ADD replaces its element by the sum. -/
theorem State.Accessed.packetAdd (h : State.Accessed c o s) (hue : o.mem.ue = []) (hw : o.letsPacket x.packet true 4)
    (hr : o.letsPacket x.packet false 4) :
    State.Accessed (c.write x.packet.addr (leBytes 4 (addElem (s.addProfile x) (if x.float then .fp32 else .int32)
      (leNat (c.read x.packet.addr 4)) (leNat (x.packet.payload.take 4))))) o (s.packetAdd x) := by
  obtain ⟨hread, hload⟩ := h.packetLoad hue hr
  unfold State.packetAdd
  dsimp only
  rw [hread]
  refine hload.packetStore hue ?_
  rw [length_leBytes]
  exact hw

end

end Sys2Proof.Machine

/-! PROOFS about what leaves the bytes of memory alone: time that passes, and an acknowledgement (towards O34). -/

namespace Sys2Proof.Machine

/-! ## Accesses that write nothing (R174, R189, R193, R195) -/

theorem State.chargeAccess_cells (s : State) (p : Nat) (write : Bool) (a k : Nat) :
    (s.chargeAccess p write a k).mem.cells = s.mem.cells := by
  unfold State.chargeAccess State.chargeBytes
  split
  · rfl
  · extract_lets left already m x
    have hx : x.mem.cells = s.mem.cells := rfl
    clear_value x
    split
    · simp only [State.bump_frame, hx]
    · exact hx

theorem State.correct_cells (s : State) (m : Met) : (s.correct m).mem.cells = s.mem.cells := by
  have hcount : State.Sound [.dict] s s.tick.now (m.corrected.foldl State.countCe s) :=
    (State.Sound.refl _ s).foldl fun _ _ h => State.Sound.countCe h rfl
  show (m.corrected.foldl State.countCe s).mem.cells = s.mem.cells
  rw [hcount.within.mem rfl]

/-- A fault that is detected touches no memory. -/
theorem State.violate_mem (s : State) (w : Actor) (cause a : Nat) : (s.violate w cause a).2.mem = s.mem :=
  (State.Sound.violate (State.Sound.refl [.dict, .tally, .queues, .bin, .log] s) rfl).snd.within.mem rfl

theorem State.uncorrectables_mem (part queue tag : Option Nat) (cause : Nat) (us : List Nat) (s : State) :
    (State.uncorrectables part queue tag cause us s).2.mem = s.mem :=
  (State.Sound.uncorrectables (State.Sound.refl [.dict, .tally, .queues, .bin, .log] s) rfl).snd.within.mem rfl

theorem State.report_cells (s : State) (w : Actor) (a : Nat) (m : Met) : (s.report w a m).2.mem.cells = s.mem.cells := by
  unfold State.report
  extract_lets x
  have hx : x.mem.cells = s.mem.cells := s.correct_cells m
  clear_value x
  split
  · exact (congrArg Mem.cells (x.violate_mem w 0x16 a)).trans hx
  · split
    · exact hx
    · exact (congrArg Mem.cells (State.uncorrectables_mem ..)).trans hx

theorem State.endItem_cells (s : State) (q seq status cause ref detail : Nat) :
    (s.endItem q seq status cause ref detail).mem.cells = s.mem.cells :=
  congrArg Mem.cells ((State.Sound.endItem (State.Sound.refl [.dict, .tally, .arrs, .queues, .bin] s) rfl).within.mem rfl)

/-! ## Time that passes (R172, R261) -/

theorem State.guardReads_cells (s : State) (q : Nat) (j : Job) (reads : List (Nat × Nat)) (k : Nat) :
    (s.guardReads q j reads k).state.mem.cells = s.mem.cells := by
  induction reads generalizing s k with
  | nil => rfl
  | cons e reads ih =>
    obtain ⟨a, n⟩ := e
    unfold State.guardReads
    extract_lets port w
    split
    · rfl
    · have hcells := ((s.chargeAccess w.partition false a n).report_cells w a (s.load w.partition a n).2).trans
        (s.chargeAccess_cells w.partition false a n)
      split
      · rename_i x hx
        rw [hx] at hcells
        exact (ih x (k + n)).trans hcells
      · rename_i x hx
        rw [hx] at hcells
        exact hcells

theorem guardChecks_cells (q : Nat) (j : Job) (checks : List GuardCheck) (g : GuardRun) :
    (guardChecks q j checks g).state.mem.cells = g.state.mem.cells := by
  induction checks generalizing g with
  | nil => rfl
  | cons c cs ih =>
    unfold guardChecks
    extract_lets r
    have hr : r.state.mem.cells = g.state.mem.cells := State.guardReads_cells _ q j c.reads g.bytes
    clear_value r
    split
    · exact hr
    · split
      · exact (ih r).trans hr
      · exact (congrArg Mem.cells ((State.Sound.jobFault (State.Sound.refl [.dict, .tally, .queues, .bin, .log] r.state)
          rfl).snd.within.mem rfl)).trans hr

theorem guardMembers_cells (q : Nat) (j : Job) (members : List Member) (g : GuardRun) :
    (guardMembers q j members g).state.mem.cells = g.state.mem.cells := by
  induction members generalizing g with
  | nil => rfl
  | cons m ms ih =>
    unfold guardMembers
    extract_lets s key seen checks x r
    have hr : r.state.mem.cells = g.state.mem.cells := guardChecks_cells q j checks { g with state := x }
    clear_value r
    split
    · exact hr
    · exact (ih r).trans hr

theorem State.finishGuard_cells (s : State) (q : Nat) (j : Job) : (s.finishGuard q j).mem.cells = s.mem.cells := by
  unfold State.finishGuard
  extract_lets g x
  have hx : x.mem.cells = s.mem.cells := by
    show g.state.mem.cells = _
    simp only [g]
    unfold State.guardStep
    extract_lets y
    split
    · rfl
    · exact guardMembers_cells q j _ y
  clear_value x
  split
  · exact hx
  · exact (State.endItem_cells ..).trans hx

theorem State.settleGuards_cells (t fuel : Nat) (s : State) : (State.settleGuards t fuel s).mem.cells = s.mem.cells := by
  induction fuel generalizing s with
  | zero => rfl
  | succ fuel ih =>
    unfold State.settleGuards
    split
    · rfl
    · rename_i q j e _
      split
      · rfl
      · extract_lets x
        have hx : x.mem = s.mem := by
          simp only [x, (State.chargeAll_within _).mem rfl, State.advance_frame]
        clear_value x
        have hdispatch : State.Sound [.dict, .tally, .arrs, .queues, .bin, .log] (x.finishGuard q j)
            (x.finishGuard q j).tick.now (x.finishGuard q j).dispatch := State.Sound.dispatch (State.Sound.refl _ _) rfl
        rw [ih, hdispatch.within.mem rfl, State.finishGuard_cells, hx]

theorem State.advanceCharged_cells (s : State) (t : Nat) : (s.advanceCharged t).mem.cells = s.mem.cells := by
  simp only [State.advanceCharged, (State.chargeAll_within _).mem rfl, State.advance_frame, State.settleGuards_cells]

/-! ## Acknowledgements (R216) -/

theorem State.answer_mem (s : State) (type src dst : Nat) (bulk : Bool) (channel partition seq : Nat) (payload : Bytes) :
    (s.answer type src dst bulk channel partition seq payload).mem = s.mem :=
  (State.Sound.answer (State.Sound.refl [.dict, .fabric, .sent] s) rfl).within.mem rfl

theorem State.packetMet_cells (s : State) (o : Outstanding) (m : Met) : (s.packetMet o m).mem.cells = s.mem.cells := by
  unfold State.packetMet
  split
  · exact (congrArg Mem.cells (State.uncorrectables_mem ..)).trans (s.correct_cells m)
  · have hreport := s.report_cells (s.packetActor o) o.packet.addr m
    split
    · rename_i x hx
      rw [hx] at hreport
      exact hreport
    · rename_i x hx
      rw [hx] at hreport
      split
      · exact hreport
      · exact (State.endItem_cells ..).trans hreport

theorem State.packetLoad_cells (s : State) (o : Outstanding) (k : Nat) : (s.packetLoad o k).2.mem.cells = s.mem.cells := by
  have hcharge : (s.chargePacket o false k).mem.cells = s.mem.cells := by
    unfold State.chargePacket
    split
    · exact s.chargeAccess_cells _ _ _ _
    · rfl
  exact (State.packetMet_cells ..).trans hcharge

/-- A read that HOST makes for a READ_REQ is no matter of memory or numberings. -/
theorem State.packetFromHost_kept (s : State) (o : Outstanding) :
    (s.packetFromHost o).mem = s.mem ∧ (s.packetFromHost o).fabric.numberings = s.fabric.numberings := by
  refine ⟨(State.Sound.packetFromHost (State.Sound.refl [.fabric, .sent, .free] s) rfl).within.mem rfl, ?_⟩
  have hsnoop : ((s.takeFree 257).2.packetNoSnoop o.packet).2.fabric.numberings = s.fabric.numberings :=
    congrArg Fabric.numberings
      ((State.Sound.packetNoSnoop (State.Sound.refl [.free] (s.takeFree 257).2) rfl).snd.within.fabric rfl)
  unfold State.packetFromHost
  extract_lets p
  split
  · rfl
  · exact hsnoop

/-- R216: the acknowledgement of a packet writes no memory. -/
theorem State.acknowledge_cells (s : State) (o : Outstanding) : (s.acknowledge o).mem.cells = s.mem.cells := by
  unfold State.acknowledge State.answerTo
  extract_lets p
  split
  · rw [State.answer_mem]
  · rw [State.answer_mem]
  · split
    · rw [(s.packetFromHost_kept o).1]
    · dsimp only
      rw [State.answer_mem]
      split
      · exact State.packetLoad_cells ..
      · rfl
  · rw [State.answer_mem]
  · rfl

theorem State.numberingOf_answerTo (s : State) {o : Outstanding} {type : Nat} {bulk : Bool} {payload : Bytes}
    (h : o.packet.src ≠ o.packet.dst ∨ bulk ≠ o.packet.bulk) :
    (s.answerTo o type bulk payload).numberingOf o.packet = s.numberingOf o.packet :=
  State.numbering_answer (h.imp_left fun h e => h (Fin.ext e.symm))

/-- R216: the acknowledgement of a packet to another endpoint leaves the packet's own numbering alone. -/
theorem State.numberingOf_acknowledge (s : State) {o : Outstanding} (h : o.packet.src ≠ o.packet.dst) :
    (s.acknowledge o).numberingOf o.packet = s.numberingOf o.packet := by
  unfold State.acknowledge
  extract_lets p
  split
  · exact s.numberingOf_answerTo (.inl h)
  · exact s.numberingOf_answerTo (.inl h)
  · split
    · exact State.numbering_congr (s.packetFromHost_kept o).2 ..
    · have hdata : ∀ k, (if memoryEnd p.dst.val then (s.takeFree 257).2.packetLoad o k
          else (s.takeFree 257).2.takeFreeBytes k).2.fabric = s.fabric := by
        intro k
        split
        · exact (State.Sound.packetLoad (State.Sound.refl [.dict, .tally, .arrs, .queues, .mem, .bin, .log]
            (s.takeFree 257).2) rfl).snd.within.fabric rfl
        · rfl
      exact (State.numberingOf_answerTo _ (.inl h)).trans (State.numbering_congr (congrArg Fabric.numberings (hdata _)) ..)
  · exact s.numberingOf_answerTo (.inl h)
  · rfl

end Sys2Proof.Machine

/-! PROOFS of the statement that packets are applied once and in order (O34). -/

namespace Sys2Proof.Machine

/-! ## The arrival of a packet (R215 to R217) -/

/-- A packet as its source sends it for the first time. -/
def State.firstSend (s : State) (type : Nat) (float : Bool) (p : Packet) : Outstanding :=
  { type := type, packet := { p with received := none }, replay := s.replayBit p, resends := 0, sentAt := s.tick.now,
    float := float, owner := s.packetOwner p }

theorem State.firstSend_packet (u : State) (type : Nat) (float : Bool) {p : Packet} (hr : p.received = none) :
    (u.firstSend type float p).packet = p := by
  obtain ⟨_, _, _, _, _, _, _, _, _, _⟩ := p
  subst hr
  rfl

/-- The unacknowledged packet under the SEQ of a packet. -/
def State.storedCopy (s : State) (p : Packet) : Option Outstanding :=
  (s.numberingOf p).outstanding.find? (fun x => x.packet.seq == p.seq)

/-- Whether a packet's source sends it now for the first time. -/
def State.sendsNow (s : State) (p : Packet) : Prop :=
  s.storedCopy p = none ∧ (s.numberingOf p).accepted p.seq = false ∧ (s.numberingOf p).closed = false ∧
    (s.numberingOf p).maySend p.seq = true

/-- A packet that its source may send, and that the mesh carries (R212, R213). -/
structure State.Carries (s : State) (type : Nat) (p : Packet) : Prop where
  mesh : s.meshOpen p.src.val p.dst.val = true
  cls : classOk type p = true
  owner : s.ownerOk p = true

section
variable {u : State} {type : Nat} {float : Bool} {p : Packet} (hc : u.Carries type p)
include hc

theorem State.packetArrives_of_stored {o : Outstanding} (h : u.storedCopy p = some o) :
    u.packetArrives type float p = u.packetAt p o := by
  unfold State.packetArrives
  rw [hc.mesh, hc.cls, hc.owner, if_neg (by decide)]
  dsimp only
  rw [show (u.numberingOf p).outstanding.find? (fun x => x.packet.seq == p.seq) = some o from h]

theorem State.packetArrives_of_accepted (h : u.storedCopy p = none) (ha : (u.numberingOf p).accepted p.seq = true) :
    u.packetArrives type float p = u.packetAt p (u.firstSend type float p) := by
  unfold State.packetArrives
  rw [hc.mesh, hc.cls, hc.owner, if_neg (by decide)]
  dsimp only
  rw [show (u.numberingOf p).outstanding.find? (fun x => x.packet.seq == p.seq) = none from h]
  exact if_pos ha

theorem State.packetArrives_of_sends (h : u.sendsNow p) : u.packetArrives type float p =
    (u.sendPacket (u.numberingOf p) (u.firstSend type float p)).packetAt p (u.firstSend type float p) := by
  obtain ⟨hstored, hfresh, hopen, hmay⟩ := h
  unfold State.packetArrives
  rw [hc.mesh, hc.cls, hc.owner, if_neg (by decide)]
  dsimp only
  rw [show (u.numberingOf p).outstanding.find? (fun x => x.packet.seq == p.seq) = none from hstored]
  dsimp only
  rw [if_neg (by simp [hfresh]), if_neg (by simp [hopen]), if_pos hmay]
  rfl

end

/-- A first send joins its numbering's retry buffer and leaves; what the destination keeps of the numbering stays. -/
theorem State.sendPacket_firstSend {u : State} (hu : u.Inv) (type : Nat) (float : Bool) (p : Packet) :
    let o := u.firstSend type float p
    let v := u.sendPacket (u.numberingOf p) o
    State.Sends [.packet o.bytes] u v ∧ v.mem = u.mem ∧ (v.numberingOf p).expected = (u.numberingOf p).expected ∧
      (v.numberingOf p).ahead = (u.numberingOf p).ahead ∧ (v.numberingOf p).held = (u.numberingOf p).held := by
  intro o v
  have hsends : State.Sends [.packet o.bytes] u v := .sendPacket hu o
  have hn : v.numberingOf p = _ := u.numberingOf_sendPacket o
  refine ⟨hsends, hsends.within.mem rfl, ?_⟩
  rw [hn]
  exact ⟨rfl, rfl, rfl⟩

/-! ## Acceptance in order (R216) -/

/-- A packet that is next in its numbering, and whose arrival has sent `pre`, has been accepted in state `w`, and is now
applied and acknowledged. -/
structure State.AcceptsNext (u : State) (type : Nat) (float : Bool) (p : Packet) (o : Outstanding) (pre : List Sent)
    (w : State) :
    Prop where
  gives : u.packetArrives type float p = (w.applyPacket o).acknowledge o
  sends : State.Sends pre u w
  next : (w.numberingOf p).expected = (p.seq + 1) % 2 ^ 16

theorem State.packetAt_next {v : State} {p : Packet} {o : Outstanding} (hr : p.received = none) (hp : o.packet = p)
    (he : p.seq = (v.numberingOf p).expected) (hl : p.seq < 2 ^ 16) (ha : (v.numberingOf p).ahead = [])
    (hh : (v.numberingOf p).held = []) :
    v.packetAt p o = ((v.setNumbering ((v.numberingOf p).accept p.seq)).applyPacket o).acknowledge o := by
  subst hp
  have hgood : arrivesGood o.packet = true := by rw [arrivesGood, hr]
  rw [State.packetAt, if_pos hgood, State.deliverPacket]
  dsimp only
  rw [if_neg (by simp [Numbering.not_accepted_next he hl ha]), if_neg (by simp [he]), hh]
  rfl

/-- The acceptance of the next packet neither closes nor opens a numbering. -/
theorem State.setNumbering_accept {pre : List Sent} {u v : State} {p : Packet} (hv : State.Sends pre u v)
    (he : p.seq = (v.numberingOf p).expected) (ha : (v.numberingOf p).ahead = []) :
    let w := v.setNumbering ((v.numberingOf p).accept p.seq)
    State.Sends pre u w ∧ (w.numberingOf p).expected = (p.seq + 1) % 2 ^ 16 := by
  have his := (Numbering.accept_is (v.numberingOf p) p.seq).trans (v.numbering_is p.src.val p.dst.val p.bulk p.channel)
  refine ⟨hv.setNumbering his (Numbering.accept_closed _ _), ?_⟩
  have hn : (v.setNumbering ((v.numberingOf p).accept p.seq)).numberingOf p = _ := v.numbering_setNumbering_same his
  rw [hn, Numbering.accept_next he ha]

/-- A packet next in its numbering, sent now or a copy of an unacknowledged one. -/
theorem State.acceptsNext {u : State} {type : Nat} {float : Bool} {p : Packet} {o : Outstanding} {pre : List Sent}
    (hu : u.Inv) (hc : u.Carries type p) (hr : p.received = none) (hp : o.packet = p)
    (harrives : u.storedCopy p = some o ∧ pre = [] ∨
      u.sendsNow p ∧ o = u.firstSend type float p ∧ pre = [.packet (u.firstSend type float p).bytes])
    (he : p.seq = (u.numberingOf p).expected) (hl : p.seq < 2 ^ 16) (ha : (u.numberingOf p).ahead = [])
    (hh : (u.numberingOf p).held = []) : ∃ w, State.AcceptsNext u type float p o pre w := by
  obtain ⟨hstored, rfl⟩ | ⟨hsends, rfl, rfl⟩ := harrives
  · obtain ⟨hw, hnext⟩ := State.setNumbering_accept (.refl hu) he ha
    have hgives := (State.packetArrives_of_stored (float := float) hc hstored).trans (State.packetAt_next hr hp he hl ha hh)
    exact ⟨_, hgives, hw, hnext⟩
  · obtain ⟨hv, -, hexpected, hahead, hheld⟩ := State.sendPacket_firstSend hu type float p
    rw [← hexpected] at he
    rw [← hahead] at ha
    rw [← hheld] at hh
    obtain ⟨hw, hnext⟩ := State.setNumbering_accept hv he ha
    exact ⟨_, (State.packetArrives_of_sends hc hsends).trans (State.packetAt_next hr hp he hl ha hh), hw, hnext⟩

/-! ## The answer -/

/-- The answer to a packet: from its destination to its source, naming its SEQ (R214). -/
def packetAnswer (p : Packet) (kind : Nat) (bulk : Bool) (own : Nat) (payload : Bytes) : Sent :=
  .packet (packetBytes p.dst.val p.src.val kind bulk (sourceChannel p.dst.val p.channel) false
    (if unpartitioned p.dst.val then 0 else packetPartition p) own p.seq payload)

section
variable {u w x : State} {type kind : Nat} {float bulk : Bool} {p : Packet} {o : Outstanding} {pre : List Sent}
  {c : Memory} {payload : Bytes}

/-- What follows an acceptance: the numbering expects the next SEQ, and one answer has left. -/
def State.answeredNext (u x : State) (p : Packet) (pre : List Sent) (kind : Nat) (bulk : Bool) (payload : Bytes) : Prop :=
  (x.numberingOf p).expected = (p.seq + 1) % 2 ^ 16 ∧
    ∃ own, x.sent = u.sent ++ pre ++ [packetAnswer p kind bulk own payload]

/-- After the accesses of the packet its answer leaves, in a numbering that is not closed. -/
theorem State.AcceptsNext.answered (h : State.AcceptsNext u type float p o pre w) (hx : State.Accessed c w x)
    (hp : o.packet = p) (hopen : ∀ b c, (u.numbering p.dst.val p.src.val b c).closed = false)
    (hne : p.src ≠ p.dst ∨ bulk ≠ p.bulk) (hgives : (w.applyPacket o).acknowledge o = x.answerTo o kind bulk payload) :
    let y := u.packetArrives type float p
    u.answeredNext y p pre kind bulk payload ∧ y.mem = x.mem := by
  subst hp
  intro y
  have hy : y = x.answerTo o kind bulk payload := h.gives.trans hgives
  have hfabric : ∀ src dst b c, x.numbering src dst b c = w.numbering src dst b c :=
    State.numbering_congr (congrArg Fabric.numberings (hx.within.fabric rfl))
  have hclosed := (congrArg Numbering.closed (hfabric o.packet.dst.val o.packet.src.val bulk
    (sourceChannel o.packet.dst.val o.packet.channel))).trans ((h.sends.closed _ _ _ _).trans (hopen _ _))
  obtain ⟨own, hsends⟩ := State.Sends.answer hx.inv hclosed kind (packetPartition o.packet) o.packet.seq payload
  rw [hy]
  refine ⟨⟨?_, own, ?_⟩, hsends.within.mem rfl⟩
  · rw [x.numberingOf_answerTo hne]
    exact (congrArg Numbering.expected (hfabric _ _ _ _)).trans h.next
  · rw [← h.sends.sent, ← hx.within.sent rfl]
    exact hsends.sent

/-! ## What each request does where it is accepted (R216) -/

/-- R212: HOST is no memory. -/
theorem not_host_of_memoryEnd {e : Nat} (h : memoryEnd e = true) : (e == 4) = false := by
  by_contra hc
  obtain rfl : e = 4 := by simpa using hc
  exact absurd h (by decide)

theorem State.applyPacket_write (s : State) (ht : o.type = 0) (hm : memoryEnd o.packet.dst.val = true) :
    s.applyPacket o = s.packetStore o o.packet.payload := by
  unfold State.applyPacket
  simp only [ht, not_host_of_memoryEnd hm, hm, if_true, Bool.false_eq_true, if_false]

theorem State.applyPacket_add (s : State) (ht : o.type = 4) (hm : memoryEnd o.packet.dst.val = true) :
    s.applyPacket o = s.packetAdd o := by
  unfold State.applyPacket
  simp only [ht, hm, if_true]

theorem State.applyPacket_of_read_or_sweep (s : State) (ht : o.type = 2 ∨ o.type = 5) : s.applyPacket o = s := by
  unfold State.applyPacket
  rcases ht with ht | ht <;> simp only [ht]

theorem State.acknowledge_write (s : State) (ht : o.type = 0 ∨ o.type = 4) : s.acknowledge o = s.answerTo o 1 false [] := by
  unfold State.acknowledge
  rcases ht with ht | ht <;> simp only [ht]

theorem State.acknowledge_sweep (s : State) (ht : o.type = 5) : s.acknowledge o = s.answerTo o 6 false [] := by
  unfold State.acknowledge
  simp only [ht]

/-- READ_DATA carries a free number of bytes, up to 256 (log 37). -/
theorem State.acknowledge_read (s : State) (ht : o.type = 2) (hm : memoryEnd o.packet.dst.val = true) :
    s.acknowledge o =
      let r := (s.takeFree 257).2.packetLoad o (s.takeFree 257).1
      r.2.answerTo o 3 o.packet.bulk r.1 := by
  unfold State.acknowledge
  rw [ht]
  simp only [not_host_of_memoryEnd hm, hm, if_true, Bool.false_eq_true, if_false]

/-- R213: memory makes no requests, so a request to memory comes from another endpoint. -/
theorem src_ne_of_memoryEnd (hc : classOk type p = true) (hm : memoryEnd p.dst.val = true) : p.src ≠ p.dst := by
  intro e
  simp [classOk, e, hm] at hc

/-- R213: a SWEEP travels bulk. -/
theorem bulk_of_sweep (hc : classOk 5 p = true) : p.bulk = true := by
  simp [classOk] at hc
  tauto

theorem State.AcceptsNext.lets {write : Bool} {k : Nat} (h : State.AcceptsNext u type float p o pre w) (hp : o.packet = p)
    (hl : u.letsPacket p write k) : w.letsPacket o.packet write k :=
  hp ▸ State.letsPacket_congr (h.sends.within.part rfl) (fun a ha => h.sends.vals a ha.sendKept) hl

/-- No sending brings an uncorrectable error. -/
theorem State.AcceptsNext.ue (h : State.AcceptsNext u type float p o pre w) (hue : u.mem.ue = []) : w.mem.ue = [] := by
  rw [h.sends.within.mem rfl, hue]

theorem State.AcceptsNext.cells (h : State.AcceptsNext u type float p o pre w) : w.mem.cells = u.mem.cells :=
  congrArg Mem.cells (h.sends.within.mem rfl)

/-- R216: a WRITE replaces its bytes of memory and is acknowledged. -/
theorem State.AcceptsNext.writes (h : State.AcceptsNext u 0 float p o pre w) (hu : u.Inv) (hp : o.packet = p) (ht : o.type = 0)
    (hclass : classOk 0 p = true) (hopen : ∀ b c, (u.numbering p.dst.val p.src.val b c).closed = false)
    (hue : u.mem.ue = []) (hm : memoryEnd p.dst.val = true) (hl : u.letsPacket p true p.payload.length) :
    let x := u.packetArrives 0 float p
    u.answeredNext x p pre 1 false [] ∧ x.readMem p.addr p.payload.length = p.payload ∧
      ∀ y, y < p.addr ∨ p.addr + p.payload.length ≤ y → x.mem.cells.byte y = u.mem.cells.byte y := by
  subst hp
  have hx := (State.Accessed.refl h.sends.inv).packetStore (h.ue hue) (h.lets rfl hl)
  obtain ⟨hnext, hmem⟩ := h.answered hx rfl hopen (.inl (src_ne_of_memoryEnd hclass hm))
    (by rw [State.applyPacket_write _ ht hm, State.acknowledge_write _ (.inl ht)])
  have hcells := (congrArg Mem.cells hmem).trans hx.cells
  rw [h.cells] at hcells
  refine ⟨hnext, ?_, fun y hy => ?_⟩
  · rw [State.readMem, hcells]
    exact Memory.read_write_same _ _ hu.1.2
  · rw [hcells]
    exact Memory.byte_write_other hu.1.2 hy

/-- R160, R216: an ATOMIC_ADD adds to its element and is acknowledged. -/
theorem State.AcceptsNext.adds (h : State.AcceptsNext u 4 float p o pre w) (hu : u.Inv) (hp : o.packet = p) (ht : o.type = 4)
    (hclass : classOk 4 p = true) (hopen : ∀ b c, (u.numbering p.dst.val p.src.val b c).closed = false)
    (hue : u.mem.ue = []) (hm : memoryEnd p.dst.val = true) (hl : u.letsPacket p true 4) (hr : u.letsPacket p false 4) :
    let x := u.packetArrives 4 float p
    u.answeredNext x p pre 1 false [] ∧
      x.readNum p.addr 4 = addElem (u.addProfile o) (if o.float then .fp32 else .int32) (u.readNum p.addr 4)
        (leNat (p.payload.take 4)) % 2 ^ 32 ∧
      ∀ y, y < p.addr ∨ p.addr + 4 ≤ y → x.mem.cells.byte y = u.mem.cells.byte y := by
  subst hp
  have hx := (State.Accessed.refl h.sends.inv).packetAdd (h.ue hue) (h.lets rfl hl) (h.lets rfl hr)
  obtain ⟨hnext, hmem⟩ := h.answered hx rfl hopen (.inl (src_ne_of_memoryEnd hclass hm))
    (by rw [State.applyPacket_add _ ht hm, State.acknowledge_write _ (.inr ht)])
  have hcells := (congrArg Mem.cells hmem).trans hx.cells
  rw [h.cells, State.addProfile_congr (h.sends.within.part rfl) (h.sends.within.queues rfl)
    (fun a ha => h.sends.vals a ha.sendKept)] at hcells
  refine ⟨hnext, ?_, fun y hy => ?_⟩
  · rw [State.readNum, State.readMem, hcells]
    exact (congrArg leNat (Memory.read_write_same _ (leBytes 4 _) hu.1.2)).trans (leNat_leBytes 4 _)
  · rw [hcells]
    exact Memory.byte_write_other hu.1.2 (by rwa [length_leBytes])

/-- R216: a READ_REQ is answered with what memory holds. -/
theorem State.AcceptsNext.reads (h : State.AcceptsNext u 2 float p o pre w) (hp : o.packet = p) (ht : o.type = 2)
    (hclass : classOk 2 p = true) (hopen : ∀ b c, (u.numbering p.dst.val p.src.val b c).closed = false)
    (hue : u.mem.ue = []) (hm : memoryEnd p.dst.val = true) (hl : ∀ k, k ≤ 256 → u.letsPacket p false k) :
    let x := u.packetArrives 2 float p
    ∃ k, k ≤ 256 ∧ u.answeredNext x p pre 3 p.bulk (u.readMem p.addr k) ∧ x.mem.cells = u.mem.cells := by
  subst hp
  have hk : (w.takeFree 257).1 ≤ 256 := Nat.le_of_lt_succ (Nat.mod_lt _ (by decide))
  obtain ⟨hread, hx⟩ := ((State.Accessed.refl h.sends.inv).takeFree 257).packetLoad (h.ue hue) (h.lets rfl (hl _ hk))
  obtain ⟨hnext, hmem⟩ := h.answered hx rfl hopen (.inl (src_ne_of_memoryEnd hclass hm))
    (by rw [State.applyPacket_of_read_or_sweep _ (.inl ht), State.acknowledge_read _ ht hm])
  rw [h.cells] at hread hx
  rw [hread] at hnext
  exact ⟨_, hk, hnext, (congrArg Mem.cells hmem).trans hx.cells⟩

/-- R216: a SWEEP changes nothing and is answered. -/
theorem State.AcceptsNext.sweeps (h : State.AcceptsNext u 5 float p o pre w) (hp : o.packet = p) (ht : o.type = 5)
    (hclass : classOk 5 p = true) (hopen : ∀ b c, (u.numbering p.dst.val p.src.val b c).closed = false) :
    let x := u.packetArrives 5 float p
    u.answeredNext x p pre 6 false [] ∧ x.mem = u.mem := by
  have hstrict : false ≠ p.bulk := by
    rw [bulk_of_sweep hclass]
    decide
  obtain ⟨hnext, hmem⟩ := h.answered (State.Accessed.refl h.sends.inv) hp hopen (.inr hstrict)
    (by rw [State.applyPacket_of_read_or_sweep _ (.inr ht), State.acknowledge_sweep _ ht])
  exact ⟨hnext, hmem.trans (h.sends.within.mem rfl)⟩

end

/-! ## Duplicates, packets ahead of a gap, and refusals (R216) -/

section
variable {u : State} {type : Nat} {float : Bool} {p : Packet} {o : Outstanding}

/-- R216: a packet whose SEQ has been accepted. -/
theorem State.packetAt_duplicate (hr : p.received = none) (hp : o.packet = p) (ha : (u.numberingOf p).accepted p.seq = true) :
    u.packetAt p o = u.duplicate o := by
  subst hp
  have hgood : arrivesGood o.packet = true := by rw [arrivesGood, hr]
  rw [State.packetAt, if_pos hgood, State.deliverPacket]
  exact if_pos ha

/-- R216: a packet ahead of a gap, of a class that is accepted in order, and not held yet. -/
theorem State.packetAt_ahead (hr : p.received = none) (hp : o.packet = p) (ha : (u.numberingOf p).accepted p.seq = false)
    (ho : o.inOrder = true) (hne : p.seq ≠ (u.numberingOf p).expected)
    (hh : (u.numberingOf p).held.any (fun x => x.packet.seq == p.seq) = false) :
    u.packetAt p o = u.setNumbering { u.numberingOf p with held := (u.numberingOf p).held ++ [o] } := by
  subst hp
  have hgood : arrivesGood o.packet = true := by rw [arrivesGood, hr]
  rw [State.packetAt, if_pos hgood, State.deliverPacket]
  dsimp only
  rw [if_neg (by simp [ha]), if_pos (by simp [ho, hne]), if_neg (by simp [hh])]

/-- R216: a packet that fails its check. -/
theorem State.packetAt_bad {r : Received} (hr : p.received = some r) (hb : packetChecks r.bytes = false) :
    u.packetAt p o = u.refusePacket p := by
  rw [State.packetAt, arrivesGood, hr]
  exact if_neg (by simp [hb])

end

/-! ## Counters of endpoints (R80, R227) -/

theorem sendKept_duplicates (e : Nat) : sendKept (Adr.duplicates e) := by
  unfold sendKept Adr.duplicates
  omega

theorem sendKept_crcRefused (e : Nat) : sendKept (Adr.crcRefused e) := by
  unfold sendKept Adr.crcRefused
  omega

theorem Adr.duplicates_ne_wrapFlagOf (e : Nat) : Adr.duplicates e ≠ wrapFlagOf (Adr.duplicates e) := by
  unfold wrapFlagOf
  split <;> omega

theorem Adr.crcRefused_ne_wrapFlagOf (e : Nat) : Adr.crcRefused e ≠ wrapFlagOf (Adr.crcRefused e) := by
  unfold wrapFlagOf
  split <;> omega

section
variable {u : State} {type : Nat} {float : Bool} {p : Packet} {o : Outstanding}

/-- R216: a duplicate is not applied, and its numbering stays as it is. -/
theorem State.duplicate_kept (hne : o.packet.src ≠ o.packet.dst) :
    (u.duplicate o).mem.cells = u.mem.cells ∧ (u.duplicate o).numberingOf o.packet = u.numberingOf o.packet := by
  refine ⟨?_, (State.numberingOf_acknowledge _ hne).trans (u.numbering_bump ..)⟩
  rw [State.duplicate, State.acknowledge_cells]
  simp only [State.bump_frame]

/-- R216: a duplicate WRITE or ATOMIC_ADD is counted and acknowledged again. -/
theorem State.duplicate_counted (hu : u.Inv) (ht : o.type = 0 ∨ o.type = 4) :
    (u.duplicate o).numAt (Adr.duplicates o.packet.dst.val) = (u.numAt (Adr.duplicates o.packet.dst.val) + 1) % 2 ^ 64 ∧
      ((∀ c, (u.numbering o.packet.dst.val o.packet.src.val false c).closed = false) →
        ∃ own, (u.duplicate o).sent = u.sent ++ [packetAnswer o.packet 1 false own []]) := by
  have hv : (u.bump (Adr.duplicates o.packet.dst.val)).Inv := (State.Sound.bump (State.Sound.refl [.dict] u) rfl).good hu
  have hcount : (u.bump (Adr.duplicates o.packet.dst.val)).numAt (Adr.duplicates o.packet.dst.val) =
      (u.numAt (Adr.duplicates o.packet.dst.val) + 1) % 2 ^ 64 :=
    State.numAt_bumpBy_same 1 hu.1.1 (Adr.duplicates_ne_wrapFlagOf _)
  rw [State.duplicate, State.acknowledge_write _ ht]
  refine ⟨?_, fun hopen => ?_⟩
  · obtain ⟨ws, hsends⟩ := State.answer_kept (src := o.packet.dst.val) (dst := o.packet.src.val) (bulk := false)
      (channel := o.packet.channel) (partition := packetPartition o.packet) (seq := o.packet.seq) (payload := []) hv
      (show 1 ≠ 9 by decide)
    exact (hsends.numAt (sendKept_duplicates _)).trans hcount
  · obtain ⟨own, hsends⟩ := State.Sends.answer hv
      ((congrArg Numbering.closed (u.numbering_bump ..)).trans (hopen (sourceChannel o.packet.dst.val o.packet.channel)))
      1 (packetPartition o.packet) o.packet.seq []
    refine ⟨own, hsends.sent.trans ?_⟩
    simp only [State.bump_frame]
    rfl

/-- R216: a packet that fails its check at an endpoint of the part is counted there, and refused to the endpoint that it
names. -/
theorem State.refusePacket_eq {r : Received} (hr : p.received = some r) (hend : u.part.variant.endpoint r.atEnd.val = true) :
    u.refusePacket p =
      let v := u.bump (Adr.crcRefused r.atEnd.val)
      if u.part.variant.endpoint (field r.bytes 0 1) then
        v.answer 7 r.atEnd.val (field r.bytes 0 1) false (bitsAt (field r.bytes 3 1) 6 4) (field r.bytes 3 1 % 4)
          (field r.bytes 4 2) []
      else v := by
  have hpart : (u.bump (Adr.crcRefused r.atEnd.val)).part = u.part := by simp only [State.bump_frame]
  unfold State.refusePacket State.countRefused
  simp only [hr, hend, hpart, Bool.not_true, Bool.false_eq_true, if_false, if_true]

theorem State.refusePacket_counted {r : Received} (hu : u.Inv) (hr : p.received = some r)
    (hend : u.part.variant.endpoint r.atEnd.val = true) :
    (u.refusePacket p).mem = u.mem ∧
      (u.refusePacket p).numAt (Adr.crcRefused r.atEnd.val) = (u.numAt (Adr.crcRefused r.atEnd.val) + 1) % 2 ^ 64 := by
  have hv : (u.bump (Adr.crcRefused r.atEnd.val)).Inv := (State.Sound.bump (State.Sound.refl [.dict] u) rfl).good hu
  have hmem : (u.bump (Adr.crcRefused r.atEnd.val)).mem = u.mem := by simp only [State.bump_frame]
  have hcount : (u.bump (Adr.crcRefused r.atEnd.val)).numAt (Adr.crcRefused r.atEnd.val) =
      (u.numAt (Adr.crcRefused r.atEnd.val) + 1) % 2 ^ 64 :=
    State.numAt_bumpBy_same 1 hu.1.1 (Adr.crcRefused_ne_wrapFlagOf _)
  rw [State.refusePacket_eq hr hend]
  dsimp only
  split
  · obtain ⟨ws, hsends⟩ := State.answer_kept (src := r.atEnd.val) (dst := field r.bytes 0 1) (bulk := false)
      (channel := bitsAt (field r.bytes 3 1) 6 4) (partition := field r.bytes 3 1 % 4) (seq := field r.bytes 4 2)
      (payload := []) hv (show 7 ≠ 9 by decide)
    exact ⟨(hsends.within.mem rfl).trans hmem, (hsends.numAt (sendKept_crcRefused _)).trans hcount⟩
  · exact ⟨hmem, hcount⟩

theorem State.refusePacket_sent {r : Received} (hu : u.Inv) (hr : p.received = some r)
    (hend : u.part.variant.endpoint r.atEnd.val = true) (hnamed : u.part.variant.endpoint (field r.bytes 0 1) = true)
    (hopen : ∀ c, (u.numbering r.atEnd.val (field r.bytes 0 1) false c).closed = false) :
    ∃ c part own, (u.refusePacket p).sent = u.sent ++ [.packet
      (packetBytes r.atEnd.val (field r.bytes 0 1) 7 false c false part own (field r.bytes 4 2) [])] := by
  have hv : (u.bump (Adr.crcRefused r.atEnd.val)).Inv := (State.Sound.bump (State.Sound.refl [.dict] u) rfl).good hu
  have hsent : (u.bump (Adr.crcRefused r.atEnd.val)).sent = u.sent := by simp only [State.bump_frame]
  obtain ⟨own, hsends⟩ := State.Sends.answer hv ((congrArg Numbering.closed (u.numbering_bump ..)).trans
    (hopen (sourceChannel r.atEnd.val (bitsAt (field r.bytes 3 1) 6 4)))) 7 (field r.bytes 3 1 % 4) (field r.bytes 4 2) []
  rw [State.refusePacket_eq hr hend]
  dsimp only
  rw [if_pos hnamed, hsends.sent, hsent]
  exact ⟨_, _, _, rfl⟩

/-- Where a packet fails its check, at most its first send stands before the refusal. -/
theorem State.packetArrives_bad {r : Received} {pre : List Sent} (hu : u.Inv) (hc : u.Carries type p) (hr : p.received = some r)
    (hb : packetChecks r.bytes = false)
    (hpre : (u.storedCopy p).isSome = true ∧ pre = [] ∨
      (u.storedCopy p = none ∧ (u.numberingOf p).accepted p.seq = true ∧ pre = []) ∨
        (u.sendsNow p ∧ pre = [.packet (u.firstSend type float p).bytes])) :
    ∃ v, State.Sends pre u v ∧ u.packetArrives type float p = v.refusePacket p := by
  obtain ⟨hstored, rfl⟩ | ⟨hnone, haccepted, rfl⟩ | ⟨hsends, rfl⟩ := hpre
  · obtain ⟨o, ho⟩ := Option.isSome_iff_exists.1 hstored
    exact ⟨u, .refl hu, (State.packetArrives_of_stored hc ho).trans (State.packetAt_bad hr hb)⟩
  · exact ⟨u, .refl hu, (State.packetArrives_of_accepted hc hnone haccepted).trans (State.packetAt_bad hr hb)⟩
  · obtain ⟨hv, -⟩ := State.sendPacket_firstSend hu type float p
    exact ⟨_, hv, (State.packetArrives_of_sends hc hsends).trans (State.packetAt_bad hr hb)⟩

/-- A packet whose SEQ has been accepted is a duplicate, of the unacknowledged one or of one that is acknowledged. -/
theorem State.packetArrives_duplicate (hc : u.Carries type p) (hr : p.received = none)
    (ha : (u.numberingOf p).accepted p.seq = true)
    (hstored : u.storedCopy p = none ∨ ∃ o, u.storedCopy p = some o ∧ o.type = type ∧ o.packet = p) :
    ∃ o, o.type = type ∧ o.packet = p ∧ u.packetArrives type float p = u.duplicate o := by
  obtain hnone | ⟨o, ho, ht, hp⟩ := hstored
  · have hp := u.firstSend_packet type float hr
    exact ⟨u.firstSend type float p, rfl, hp,
      (State.packetArrives_of_accepted hc hnone ha).trans (State.packetAt_duplicate hr hp ha)⟩
  · exact ⟨o, ht, hp, (State.packetArrives_of_stored hc ho).trans (State.packetAt_duplicate hr hp ha)⟩

/-- R216: a strict packet, or a replay packet, that is sent ahead of a gap is held: nothing is applied or answered. -/
theorem State.packetArrives_ahead (hu : u.Inv) (hc : u.Carries type p) (hr : p.received = none) (hsends : u.sendsNow p)
    (horder : p.bulk = false ∨ u.replayBit p = true) (hne : p.seq ≠ (u.numberingOf p).expected)
    (hheld : (u.numberingOf p).held.any (fun x => x.packet.seq == p.seq) = false) :
    let o := u.firstSend type float p
    let x := u.packetArrives type float p
    x.mem = u.mem ∧ x.sent = u.sent ++ [.packet o.bytes] ∧ (x.numberingOf p).held = (u.numberingOf p).held ++ [o] ∧
      (x.numberingOf p).expected = (u.numberingOf p).expected := by
  intro o x
  obtain ⟨hv, hmem, hexpected, hahead, hkept⟩ := State.sendPacket_firstSend hu type float p
  have ⟨_, hfresh, _⟩ := hsends
  have hp := u.firstSend_packet type float hr
  have hx : x = _ := (State.packetArrives_of_sends hc hsends).trans
    (State.packetAt_ahead hr hp (by rwa [Numbering.accepted, hexpected, hahead])
      (by rcases horder with hb | hb <;> simp [Outstanding.inOrder, State.firstSend, hb]) (by rwa [hexpected]) (by rwa [hkept]))
  generalize u.sendPacket (u.numberingOf p) (u.firstSend type float p) = v at *
  have hn : x.numberingOf p = { v.numberingOf p with held := (v.numberingOf p).held ++ [o] } := by
    rw [hx]
    exact v.numbering_setNumbering_same (v.numbering_is p.src.val p.dst.val p.bulk p.channel)
  rw [hn, ← hkept]
  refine ⟨?_, ?_, rfl, hexpected⟩
  · rw [hx]
    exact hmem
  · rw [hx]
    exact hv.sent

end

/-! ## The statement -/

/-- A packet command is the arrival of its packet, once time has passed. -/
theorem exec_packet (s : State) (t : Nat) (p : Packet) :
    exec (.fabricWrite t p) s = .next ((s.advanceCharged t).packetArrives 0 false p) ∧
      (∀ elem, exec (.fabricAtomicAdd t p elem) s = .next ((s.advanceCharged t).packetArrives 4 (isFloatElem elem) p)) ∧
      exec (.fabricReadReq t p) s = .next ((s.advanceCharged t).packetArrives 2 false p) ∧
      exec (.sweep t p) s = .next ((s.advanceCharged t).packetArrives 5 false p) :=
  ⟨rfl, fun _ => rfl, rfl, rfl⟩

/-- Settles O34: an arrival is a first send, a copy or a duplicate; what is accepted is applied by accesses that meet no
uncorrectable error, and its answer leaves in another numbering than its own. -/
theorem fabricAppliesOnce : Obligations.FabricAppliesOnce := by
  unfold Obligations.FabricAppliesOnce
  intro s t p type float hs
  obtain ⟨hwrite, hadd, hread, hsweep⟩ := exec_packet s t p
  have hu : (s.advanceCharged t).Inv := State.advanceCharged_inv hs
  have htime := s.advanceCharged_cells t
  generalize s.advanceCharged t = u at *
  intro _ n fresh stored copied sends arrives may answer hmesh hclass howner
  have hc : u.Carries type p := ⟨hmesh, hclass, howner⟩
  refine ⟨fun o pre hr harrives he hl ha hh hopen hue => ?_, fun i hi => ?_⟩
  · intro next
    have hpacket : o.packet = p ∧ o.type = type ∧ o.float = float := by
      obtain ⟨⟨-, ht, hf, hp⟩, -⟩ | ⟨-, ho, -⟩ := harrives
      · exact ⟨hp.trans (u.firstSend_packet type float hr), ht, hf⟩
      · rw [ho]
        exact ⟨u.firstSend_packet type float hr, rfl, rfl⟩
    obtain ⟨hp, ht, hf⟩ := hpacket
    obtain ⟨w, hw⟩ := State.acceptsNext (float := float) hu hc hr hp
      (harrives.imp_left fun ⟨⟨hstored, _⟩, hpre⟩ => ⟨hstored, hpre⟩) he hl ha hh
    refine ⟨?_, ?_, ?_, ?_⟩
    · rintro rfl rfl hm hlets
      obtain ⟨hnext, hbytes, hothers⟩ := hw.writes hu hp ht hclass hopen hue hm hlets
      exact ⟨_, hwrite, hnext, hbytes, fun y hy => htime ▸ hothers y hy⟩
    · rintro elem rfl rfl hm hlets hreads
      obtain ⟨hnext, hsum, hothers⟩ := hw.adds hu hp ht hclass hopen hue hm hlets hreads
      refine ⟨_, hadd elem, hnext, ?_, fun y hy => htime ▸ hothers y hy⟩
      rw [hf] at hsum
      cases elem <;> exact hsum
    · rintro rfl rfl hm hlets
      obtain ⟨k, hk, hnext, hcells⟩ := hw.reads hp ht hclass hopen hue hm hlets
      exact ⟨_, k, hread, hk, hnext, hcells⟩
    · rintro rfl rfl
      obtain ⟨hnext, hmem⟩ := hw.sweeps hp ht hclass hopen
      exact ⟨_, hsweep, hnext, hmem⟩
  · have hexec : exec i s = .next (u.packetArrives type float p) ∧ (type ≠ 2 → type = 0 ∨ type = 4) := by
      simp only [List.mem_cons, List.not_mem_nil, or_false, Prod.mk.injEq] at hi
      obtain ⟨rfl, rfl, rfl⟩ | ⟨rfl, rfl, rfl⟩ | ⟨rfl, rfl, rfl⟩ | ⟨rfl, rfl, rfl⟩ := hi
      · exact ⟨hwrite, by decide⟩
      · exact ⟨hadd .int32, by decide⟩
      · exact ⟨hadd .fp32, by decide⟩
      · exact ⟨hread, by decide⟩
    obtain ⟨hexec, hkind⟩ := hexec
    refine ⟨fun hr hne ha hstored => ?_, fun hr hsends horder hne hheld => ?_, fun r pre hr hb hpre hend => ?_⟩
    · obtain ⟨o, ht, hp, hx⟩ := State.packetArrives_duplicate (float := float) hc hr ha
        (hstored.imp_right fun ⟨o, ho, ht, _, hp⟩ => ⟨o, ho, ht, hp.trans (u.firstSend_packet type float hr)⟩)
      subst hp
      obtain ⟨hcells, hnumbering⟩ := u.duplicate_kept hne
      refine ⟨_, hexec.trans (congrArg _ hx), hcells.trans htime, hnumbering, fun h2 => ?_, fun h2 hopen => ?_⟩
      · obtain ⟨hcount, -⟩ := State.duplicate_counted hu (ht ▸ hkind h2)
        exact hcount
      · obtain ⟨-, hsent⟩ := State.duplicate_counted hu (ht ▸ hkind h2)
        exact hsent hopen
    · exact ⟨_, hexec, State.packetArrives_ahead hu hc hr hsends horder hne hheld⟩
    · obtain ⟨v, hv, hx⟩ := State.packetArrives_bad hu hc hr hb hpre
      have hpart : v.part = u.part := hv.within.part rfl
      obtain ⟨hmem, hcount⟩ := State.refusePacket_counted hv.inv hr (by rwa [hpart])
      refine ⟨_, hexec.trans (congrArg _ hx), hmem.trans (hv.within.mem rfl), ?_, fun hnamed hopen => ?_⟩
      · rw [hcount, hv.numAt (sendKept_crcRefused _)]
      · obtain ⟨c, part, own, hsent⟩ := State.refusePacket_sent hv.inv hr (by rwa [hpart]) (by rwa [hpart])
          fun c => (hv.closed ..).trans (hopen c)
        exact ⟨c, part, own, by rw [hsent, hv.sent]⟩

end Sys2Proof.Machine

/-! PROOFS of the statement about the mailbox registers and the SPI side (O40). -/

namespace Sys2Proof.Machine

/-! ## A port and its sides (R245, R246) -/

theorem State.mailboxAt_setMailbox_other (s : State) {m k : Nat} (f : Mailbox → Mailbox) (h : k ≠ m) :
    (s.setMailbox m f).mailboxAt k = s.mailboxAt k := nth_modifyAt_other _ _ h

theorem State.numAt_advance (s : State) (t a : Nat) : (s.advance t).numAt a = s.numAt a :=
  State.numAt_congr ((s.advance_within t).part rfl) ((s.advance_within t).dict rfl) a

theorem State.spiServes_advance (s : State) (t m : Nat) : (s.advance t).spiServes m = s.spiServes m := by
  simp only [State.spiServes, State.numAt_advance, State.advance_frame]

theorem State.windowsOpen_advance (s : State) (t : Nat) : (s.advance t).windowsOpen = s.windowsOpen := by
  simp only [State.windowsOpen, State.advance_frame]

/-- R247: the SPI target reaches the mailbox space while HOST runs. -/
theorem State.sideOpen_spi {s : State} (hd : s.dormant = false) : s.sideOpen true = true := by
  simp only [State.sideOpen, hd, if_true, Bool.not_false]

/-- R228, R247: both sides reach the mailbox space while HOST runs and the windows decode. -/
theorem State.sideOpen_of {s : State} (hd : s.dormant = false) (hw : s.windowsOpen = true) (spi : Bool) :
    s.sideOpen spi = true := by
  cases spi with
  | false => exact hw
  | true => exact State.sideOpen_spi hd

section
variable {s : State} {spi : Bool} {m : Nat}

theorem State.sided_served (h : s.spiServes m = spi) (f : Mailbox → Mailbox) : s.sided spi m f = s.setMailbox m f :=
  if_pos (beq_iff_eq.2 h)

theorem State.sided_other (h : s.spiServes m ≠ spi) (f : Mailbox → Mailbox) :
    s.sided spi m f = s.bump (Adr.mbxWrongSide m) := if_neg (fun e => h (beq_iff_eq.1 e))

/-- R245: IN_LEN that completes no message: IN was FULL before it, or is not FULL after it. -/
theorem State.writeLen_served (h : s.spiServes m = spi) (hm : m < s.host.mailboxes.length) {value : Nat}
    (hv : (s.mailboxAt m).inFull = true ∨ ((s.mailboxAt m).putLen value).inFull = false) :
    s.writeLen spi m value = s.setMailbox m (fun x => x.putLen value) := by
  rw [State.writeLen, State.sided_served h]
  refine if_neg ?_
  rw [State.mailboxAt_setMailbox _ _ _ hm]
  obtain hf | hf := hv <;> simp [hf]

/-- R245: IN_LEN that completes a message. -/
theorem State.writeLen_completes (h : s.spiServes m = spi) (hm : m < s.host.mailboxes.length) {value : Nat}
    (hb : (s.mailboxAt m).inFull = false) (hf : ((s.mailboxAt m).putLen value).inFull = true) :
    s.writeLen spi m value = (s.setMailbox m (fun x => x.putLen value)).bump (Adr.mbxInMessages m) := by
  rw [State.writeLen, State.sided_served h]
  refine if_pos ?_
  rw [State.mailboxAt_setMailbox _ _ _ hm, hb, hf]
  rfl

/-- R246: IN_LEN from the side that does not serve the port completes nothing. -/
theorem State.writeLen_other (h : s.spiServes m ≠ spi) (value : Nat) :
    s.writeLen spi m value = s.bump (Adr.mbxWrongSide m) := by
  rw [State.writeLen, State.sided_other h, State.mailboxAt_bump]
  exact if_neg (by simp)

end

/-! ## What the registers do to a port (R245) -/

section
variable {x : Mailbox}

theorem Mailbox.putIn_full (h : x.inFull = true) (offset : Nat) (data : Bytes) :
    x.putIn offset data = { x with overrun := true } := if_pos h

theorem Mailbox.putLen_full (h : x.inFull = true) (value : Nat) : x.putLen value = { x with overrun := true } := if_pos h

theorem Mailbox.putLen_message (h : x.inFull = false) {value : Nat} (h1 : 1 ≤ value) (h2 : value ≤ 256) :
    x.putLen value = { x with inLen := value, inFull := true } := by
  simp [Mailbox.putLen, h, h1, h2]

theorem Mailbox.putLen_outside (h : x.inFull = false) {value : Nat} (hv : value = 0 ∨ 256 < value) :
    x.putLen value = x := by
  have hc : (decide (1 ≤ value) && decide (value ≤ 256)) = false := by
    obtain hv | hv := hv
    · simp [hv]
    · simp [Nat.not_le.2 hv]
  simp only [Mailbox.putLen, h, hc, Bool.false_eq_true, if_false]

/-- Bytes with a run of them replaced, within their length. -/
def overlaid (xs : Bytes) (offset : Nat) (data : Bytes) : Bytes :=
  xs.take offset ++ data ++ xs.drop (offset + data.length)

theorem length_overlaid {xs data : Bytes} {offset : Nat} (h : offset + data.length ≤ xs.length) :
    (overlaid xs offset data).length = xs.length := by
  simp only [overlaid, List.length_append, List.length_take, List.length_drop]
  omega

theorem slice_overlaid {xs data : Bytes} {offset : Nat} (h : offset + data.length ≤ xs.length) :
    slice (overlaid xs offset data) offset data.length = data := by
  have hl : (xs.take offset).length = offset := List.length_take_of_le (by omega)
  rw [slice, overlaid, List.append_assoc, List.drop_left' hl, List.take_left]

theorem nth_overlaid_outside {xs data : Bytes} {offset i : Nat} (h : offset + data.length ≤ xs.length)
    (hi : i < offset ∨ offset + data.length ≤ i) (d : Byte) : nth (overlaid xs offset data) i d = nth xs i d := by
  have hl : (xs.take offset).length = offset := List.length_take_of_le (by omega)
  simp only [nth, List.getD_eq_getElem?_getD, overlaid]
  congr 1
  obtain hi | hi := hi
  · rw [List.append_assoc, List.getElem?_append_left (by omega), List.getElem?_take_of_lt hi]
  · rw [List.getElem?_append_right (by rw [List.length_append, hl]; exact hi), List.getElem?_drop, List.length_append, hl,
      Nat.add_sub_cancel' hi]

theorem Mailbox.putIn_empty (h : x.inFull = false) (hl : x.inBuf.length = 256) {offset : Nat} {data : Bytes}
    (hd : offset + data.length ≤ 256) : x.putIn offset data = { x with inBuf := overlaid x.inBuf offset data } := by
  have ht : (overlaid x.inBuf offset data).take 256 = overlaid x.inBuf offset data :=
    List.take_of_length_le (by rw [length_overlaid (hl ▸ hd), hl])
  rw [Mailbox.putIn, if_neg (by simp [h])]
  exact congrArg (fun b => { x with inBuf := b }) ht

end

/-! ## The commands of a port -/

/-- The command answers a state in which port `m` is `y` and the other ports are as they were. -/
def State.portBecomes (s : State) (i : Instr) (m : Nat) (y : Mailbox) : Prop :=
  ∃ x, exec i s = .next x ∧ x.mailboxAt m = y ∧ ∀ k, k ≠ m → x.mailboxAt k = s.mailboxAt k

section
variable {s u : State} {t : Nat} {spi : Bool} {m : Fin 8}

theorem exec_mailboxBufferWrite (hu : u = s.advance t) (ho : u.sideOpen spi = true) (offset : Nat) (data : Bytes) :
    exec (.mailboxBufferWrite t spi m offset data) s = .next (u.sided spi m (fun x => x.putIn offset data)) := by
  subst hu
  exact congrArg _ (if_pos ho)

theorem exec_inLen (hu : u = s.advance t) (ho : u.sideOpen spi = true) (value : Nat) :
    exec (.inLen t spi m value) s = .next (u.writeLen spi m value) := by
  subst hu
  exact congrArg _ (if_pos ho)

theorem exec_outAck (hu : u = s.advance t) (ho : u.sideOpen spi = true) :
    exec (.outAck t spi m) s = .next (u.sided spi m Mailbox.ackOut) := by
  subst hu
  exact congrArg _ (if_pos ho)

theorem exec_overrunClear (hu : u = s.advance t) (ho : u.sideOpen spi = true) :
    exec (.overrunClear t spi m) s = .next (u.sided spi m Mailbox.clearOverrun) := by
  subst hu
  exact congrArg _ (if_pos ho)

/-- A command that updates port `m` after time has passed. -/
theorem State.portBecomes_of_setMailbox {i : Instr} {f : Mailbox → Mailbox} (hs : s.Inv)
    (h : exec i s = .next ((s.advance t).setMailbox m f)) : s.portBecomes i m (f (s.mailboxAt m)) := by
  refine ⟨_, h, ?_, fun k hk => ?_⟩
  · rw [State.mailboxAt_setMailbox _ _ _ ((State.advance_inv hs).mailbox_lt m), State.mailboxAt_advance]
  · rw [State.mailboxAt_setMailbox_other _ _ hk, State.mailboxAt_advance]

/-- R245: the side that serves a port writes its registers and its inbound buffer. -/
theorem State.servedSide_effect (hs : s.Inv) (hv : s.spiServes m = spi) (ho : (s.advance t).sideOpen spi = true) :
    let b := s.mailboxAt m
    (∀ offset data, b.inFull = true → s.portBecomes (.mailboxBufferWrite t spi m offset data) m { b with overrun := true }) ∧
      (∀ offset data, b.inFull = false → b.inBuf.length = 256 → offset + data.length ≤ 256 →
        s.portBecomes (.mailboxBufferWrite t spi m offset data) m { b with inBuf := overlaid b.inBuf offset data }) ∧
      (∀ v, b.inFull = false → (v = 0 ∨ 256 < v) → s.portBecomes (.inLen t spi m v) m b) ∧
      (∀ v, b.inFull = true → s.portBecomes (.inLen t spi m v) m { b with overrun := true }) ∧
      s.portBecomes (.outAck t spi m) m { b with outFull := false } ∧
      s.portBecomes (.overrunClear t spi m) m { b with overrun := false } := by
  intro b
  have hserves : (s.advance t).spiServes m = spi := (s.spiServes_advance t m).trans hv
  have hbox : (s.advance t).mailboxAt m = b := s.mailboxAt_advance t m
  have hlt : m.val < (s.advance t).host.mailboxes.length := (State.advance_inv hs).mailbox_lt m
  have hbuffer (offset : Nat) (data : Bytes) :
      s.portBecomes (.mailboxBufferWrite t spi m offset data) m (b.putIn offset data) :=
    State.portBecomes_of_setMailbox hs ((exec_mailboxBufferWrite rfl ho offset data).trans
      (congrArg _ (State.sided_served hserves _)))
  have hlen (v : Nat) (h : b.inFull = true ∨ (b.putLen v).inFull = false) :
      s.portBecomes (.inLen t spi m v) m (b.putLen v) :=
    State.portBecomes_of_setMailbox hs ((exec_inLen rfl ho v).trans
      (congrArg _ (State.writeLen_served hserves hlt (by rwa [hbox]))))
  refine ⟨fun offset data hf => ?_, fun offset data hf hl hd => ?_, fun v hf hv => ?_, fun v hf => ?_, ?_, ?_⟩
  · rw [← Mailbox.putIn_full hf offset data]
    exact hbuffer offset data
  · rw [← Mailbox.putIn_empty hf hl hd]
    exact hbuffer offset data
  · have h := hlen v
    rw [Mailbox.putLen_outside hf hv] at h
    exact h (.inr hf)
  · rw [← Mailbox.putLen_full hf v]
    exact hlen v (.inl hf)
  · exact State.portBecomes_of_setMailbox hs ((exec_outAck rfl ho).trans (congrArg _ (State.sided_served hserves _)))
  · exact State.portBecomes_of_setMailbox hs ((exec_overrunClear rfl ho).trans (congrArg _ (State.sided_served hserves _)))

/-- R245: IN_LEN completes the message of an EMPTY port and counts it. -/
theorem State.inLen_completes (hs : s.Inv) (hv : s.spiServes m = spi) (ho : (s.advance t).sideOpen spi = true)
    (hb : (s.mailboxAt m).inFull = false) {v : Nat} (h1 : 1 ≤ v) (h2 : v ≤ 256) :
    ∃ x, exec (.inLen t spi m v) s = .next x ∧ x.mailboxAt m = { s.mailboxAt m with inLen := v, inFull := true } ∧
      (∀ k : Nat, k ≠ m → x.mailboxAt k = s.mailboxAt k) ∧
      x.numAt (Adr.mbxInMessages m) = (s.numAt (Adr.mbxInMessages m) + 1) % 2 ^ 64 := by
  have hi : (s.advance t).Inv := State.advance_inv hs
  have hserves : (s.advance t).spiServes m = spi := (s.spiServes_advance t m).trans hv
  have hput : ((s.advance t).mailboxAt m).putLen v = { s.mailboxAt m with inLen := v, inFull := true } := by
    rw [State.mailboxAt_advance, Mailbox.putLen_message hb h1 h2]
  refine ⟨_, (exec_inLen rfl ho v).trans (congrArg _ (State.writeLen_completes hserves (hi.mailbox_lt m)
    ((congrArg Mailbox.inFull (s.mailboxAt_advance t m)).trans hb) (by rw [hput]))), ?_, fun k hk => ?_, ?_⟩
  · rw [State.mailboxAt_bump, State.mailboxAt_setMailbox _ _ _ (hi.mailbox_lt m), hput]
  · rw [State.mailboxAt_bump, State.mailboxAt_setMailbox_other _ _ hk, State.mailboxAt_advance]
  · rw [State.numAt_bump_same (s := (s.advance t).setMailbox m _) hi.1.1 (wrapFlagOf_ne _)]
    exact congrArg (fun x => (x + 1) % 2 ^ 64) (s.numAt_advance t _)

end

/-! ## The SPI target (R247) -/

theorem State.spiByte_advance (s : State) (t a : Nat) : (s.advance t).spiByte a = s.spiByte a := by
  simp only [State.spiByte, State.mailboxByte, State.mailboxRegs, State.mailboxAt_advance, State.spiServes_advance]

/-- R230, R245: the buffers of a port in the mailbox space. -/
theorem State.spiByte_buffer (s : State) (m : Fin 8) {o : Nat} (h : o < 256) :
    s.spiByte (m * 1024 + o) = nth (s.mailboxAt m).inBuf o 0 ∧
      s.spiByte (m * 1024 + 256 + o) = nth (s.mailboxAt m).outBuf o 0 := by
  have hm := m.isLt
  constructor
  · rw [State.spiByte, if_pos (by omega), show (m * 1024 + o) / 0x400 = m.val by omega,
      show (m * 1024 + o) % 0x400 = o by omega, State.mailboxByte, if_pos h]
  · rw [State.spiByte, if_pos (by omega), show (m * 1024 + 256 + o) / 0x400 = m.val by omega,
      show (m * 1024 + 256 + o) % 0x400 = 256 + o by omega, State.mailboxByte, if_neg (by omega), if_pos (by omega),
      Nat.add_sub_cancel_left]

theorem State.spiWaiting_iff (s : State) :
    s.spiWaiting = true ↔ ∃ m, m < 8 ∧ s.spiServes m = true ∧ (s.mailboxAt m).outFull = true := by
  simp only [State.spiWaiting, List.any_eq_true, List.mem_range, Bool.and_eq_true]

theorem State.spiWaiting_advance (s : State) (t : Nat) : (s.advance t).spiWaiting = s.spiWaiting := by
  simp only [State.spiWaiting, State.mailboxAt_advance, State.spiServes_advance]

/-- R246, R247: the two bits of the status byte. -/
theorem spiStatusByte_bits (a b : Bool) :
    b2n a + 2 * b2n b < 4 ∧ bitAt (b2n a + 2 * b2n b) 0 = a ∧ bitAt (b2n a + 2 * b2n b) 1 = b := by
  cases a <;> cases b <;> decide

/-- What a run of bytes that starts at SPI address `a` does to the register at offset `o` of port `m`. -/
def State.spiRegister (a : Nat) (data : Bytes) (m : Nat) (s : State) (o : Nat) : State :=
  if a ≤ m * 0x400 + o && m * 0x400 + o + 4 ≤ a + data.length then
    s.writeRegister true m o (field data (m * 0x400 + o - a) 4) else s

/-- What a run of bytes that starts at SPI address `a` does to the inbound buffer of port `m`. -/
def State.spiBuffer (s : State) (a : Nat) (data : Bytes) (m : Nat) : State :=
  let lo := max a (m * 0x400)
  let hi := min (a + data.length) (m * 0x400 + 0x100)
  if lo < hi then s.sided true m (fun x => x.putIn (lo - m * 0x400) (slice data (lo - a) (hi - lo))) else s

section
variable {s : State} {a m : Nat} {data : Bytes}

theorem State.spiPort_eq (s : State) (a : Nat) (data : Bytes) (m : Nat) : s.spiPort a data m =
    [0x200, 0x204, 0x208, 0x20C].foldl (State.spiRegister a data m) (s.spiBuffer a data m) := rfl

/-- A register whose four bytes are not all there. -/
theorem State.spiRegister_outside {o : Nat} (h : m * 0x400 + o < a ∨ a + data.length < m * 0x400 + o + 4) :
    State.spiRegister a data m s o = s :=
  if_neg (by simp only [Bool.and_eq_true, decide_eq_true_eq]; omega)

theorem State.spiBuffer_outside (h : a + data.length ≤ m * 0x400 ∨ m * 0x400 + 0x100 ≤ a) : s.spiBuffer a data m = s :=
  if_neg (by omega)

theorem State.spiBuffer_inside {offset : Nat} (hd : data ≠ []) (h : offset + data.length ≤ 256) :
    s.spiBuffer (m * 0x400 + offset) data m = s.sided true m (fun x => x.putIn offset data) := by
  have hpos : 0 < data.length := List.length_pos_iff.2 hd
  unfold State.spiBuffer
  extract_lets lo hi
  have hlo : lo = m * 0x400 + offset := Nat.max_eq_left (by omega)
  have hhi : hi = m * 0x400 + offset + data.length := Nat.min_eq_left (by omega)
  rw [if_pos (by omega), hlo, hhi, Nat.add_sub_cancel_left, Nat.add_sub_cancel_left, Nat.sub_self, slice, List.drop_zero,
    List.take_length]

/-- A run of bytes that meets none of a port's registers. -/
theorem State.spiPort_of_buffer (h : a + data.length ≤ m * 0x400 + 0x200 ∨ m * 0x400 + 0x210 ≤ a) :
    s.spiPort a data m = s.spiBuffer a data m := by
  simp only [State.spiPort_eq, List.foldl_cons, List.foldl_nil]
  rw [State.spiRegister_outside (o := 0x20C) (by omega), State.spiRegister_outside (o := 0x208) (by omega),
    State.spiRegister_outside (o := 0x204) (by omega), State.spiRegister_outside (o := 0x200) (by omega)]

/-- A run of bytes before or behind a port's inbound buffer and registers does nothing to the port. -/
theorem State.spiPort_outside (h : a + data.length ≤ m * 0x400 ∨ m * 0x400 + 0x210 ≤ a) : s.spiPort a data m = s := by
  rw [State.spiPort_of_buffer (h.imp (by omega) (by omega)), State.spiBuffer_outside (h.imp_right (by omega))]

/-- A run of bytes inside a port's inbound buffer. -/
theorem State.spiPort_buffer {offset : Nat} (hd : data ≠ []) (h : offset + data.length ≤ 256) :
    s.spiPort (m * 0x400 + offset) data m = s.sided true m (fun x => x.putIn offset data) := by
  exact (State.spiPort_of_buffer (by omega)).trans (State.spiBuffer_inside hd h)

/-- The four bytes of IN_LEN. -/
theorem State.spiPort_inLen (h : data.length = 4) :
    s.spiPort (m * 0x400 + 0x200) data m = s.writeLen true m (leNat data) := by
  have hlen : State.spiRegister (m * 0x400 + 0x200) data m s 0x200 = s.writeLen true m (leNat data) := by
    rw [State.spiRegister, if_pos (by simp [h]), Nat.sub_self, field, slice, List.drop_zero,
      List.take_of_length_le (Nat.le_of_eq h)]
    rfl
  simp only [State.spiPort_eq, List.foldl_cons, List.foldl_nil]
  rw [State.spiBuffer_outside (by omega), State.spiRegister_outside (o := 0x20C) (by omega),
    State.spiRegister_outside (o := 0x208) (by omega), State.spiRegister_outside (o := 0x204) (by omega), hlen]

end

section
variable {s u : State} {t : Nat}

/-- A run of bytes within the 1 KiB of one port. -/
theorem exec_spiWrite_port (hu : u = s.advance t) (hd : u.dormant = false) (m : Fin 8) {o : Nat} {data : Bytes}
    (h : o + data.length ≤ 0x400) (ho : o < 0x400) :
    exec (.spiWrite t (m * 0x400 + o) data) s = .next (u.spiPort (m * 0x400 + o) data m) := by
  subst hu
  have hm := m.isLt
  have hother (k : Nat) (hk : k ≠ m) (x : State) : x.spiPort (m * 0x400 + o) data k = x :=
    State.spiPort_outside (by omega)
  have hfold : (List.range 8).foldl (fun x k => x.spiPort (m * 0x400 + o) data k) (s.advance t) =
      (s.advance t).spiPort (m * 0x400 + o) data m :=
    foldl_reaches (before := fun x => x = s.advance t) (after := fun x => x = (s.advance t).spiPort (m * 0x400 + o) data m)
      List.nodup_range (List.mem_range.2 hm) (fun x k _ hk hx => (hother k hk x).trans hx) (fun x hx => by rw [hx])
      (fun x k _ hk hx => (hother k hk x).trans hx) rfl
  show Host.Outcome.next (doSpiWrite t (m * 0x400 + o) data s) = _
  unfold doSpiWrite
  dsimp only
  rw [if_neg (by simp [hd]), Nat.mod_eq_of_lt (by omega), hfold]

theorem exec_spiRead (hu : u = s.advance t) (hd : u.dormant = false) (a len : Nat) :
    exec (.spiRead t a len) s = .next (u.emit (.spi ((List.range len).map (fun i => u.spiByte (a % 65536 + i))))) := by
  subst hu
  exact congrArg _ (if_neg (by simp [hd]))

theorem exec_spiStatus (hu : u = s.advance t) (hd : u.dormant = false) :
    exec (.spiStatus t) s = .next (u.emit (.spi (leBytes 1 (b2n u.spiWaiting + 2 * b2n u.host.linkUp)))) := by
  subst hu
  exact congrArg _ (if_neg (by simp [hd]))

end

/-- R246: a write from the side that does not serve a port is counted, whichever register it names. -/
theorem exec_mailbox_wrongSide {s : State} {t : Nat} {spi : Bool} {m : Fin 8} (hv : s.spiServes m ≠ spi)
    (ho : (s.advance t).sideOpen spi = true) {i : Instr}
    (hi : (∃ offset data, i = .mailboxBufferWrite t spi m offset data) ∨ (∃ v, i = .inLen t spi m v) ∨
      i = .outAck t spi m ∨ i = .overrunClear t spi m) : exec i s = .next ((s.advance t).bump (Adr.mbxWrongSide m)) := by
  have hother : (s.advance t).spiServes m ≠ spi := (s.spiServes_advance t m).symm ▸ hv
  obtain ⟨offset, data, rfl⟩ | ⟨v, rfl⟩ | rfl | rfl := hi
  · exact (exec_mailboxBufferWrite rfl ho offset data).trans (congrArg _ (State.sided_other hother _))
  · exact (exec_inLen rfl ho v).trans (congrArg _ (State.writeLen_other hother v))
  · exact (exec_outAck rfl ho).trans (congrArg _ (State.sided_other hother _))
  · exact (exec_overrunClear rfl ho).trans (congrArg _ (State.sided_other hother _))

/-- Settles O40: the two sides of a port, and what the SPI target reads and writes. -/
theorem mailboxSides : Obligations.MailboxSides := by
  unfold Obligations.MailboxSides
  refine ⟨fun s t spi m hs hd hw => ?_, fun s t hd => ?_⟩
  · intro u n b becomes
    have ho : (s.advance t).sideOpen spi = true :=
      State.sideOpen_of ((s.advance_dormant t).trans hd) ((s.windowsOpen_advance t).trans hw) spi
    refine ⟨fun hv => ?_, fun hv i hi => exec_mailbox_wrongSide hv ho hi⟩
    obtain ⟨hfull, hbuf, hshort, hover, hack, hclear⟩ := State.servedSide_effect hs hv ho
    refine ⟨hfull, fun offset data hf hl hd => ?_, fun v hf h1 h2 => ?_, hshort, hover, hack, hclear⟩
    · have hd' : offset + data.length ≤ b.inBuf.length := hl ▸ hd
      exact ⟨overlaid b.inBuf offset data, hbuf offset data hf hl hd, (length_overlaid hd').trans hl, slice_overlaid hd',
        fun i hi => nth_overlaid_outside hd' hi 0⟩
    · obtain ⟨x, hx, hbox, hothers, hcount⟩ := State.inLen_completes hs hv ho hf h1 h2
      exact ⟨⟨x, hx, hbox, hothers⟩, x, hx, hcount⟩
  · intro u
    have hu : u.dormant = false := (s.advance_dormant t).trans hd
    have hhost : u.host.linkUp = s.host.linkUp := by simp only [u, State.advance_frame]
    refine ⟨fun a len => ?_, fun m o h => s.spiByte_buffer m h, ?_, fun m data hdata => ⟨fun offset h => ?_, fun h => ?_⟩⟩
    · have he := exec_spiRead (s := s) (t := t) rfl hu a len
      simp only [State.spiByte_advance] at he
      exact he
    · obtain ⟨hlt, hwaits, hlink⟩ := spiStatusByte_bits u.spiWaiting u.host.linkUp
      refine ⟨_, exec_spiStatus rfl hu, hlt, ?_, hlink.trans hhost⟩
      rw [hwaits, State.spiWaiting_advance, State.spiWaiting_iff]
    · have hpos : 0 < data.length := List.length_pos_iff.2 hdata
      exact ⟨_, (exec_spiWrite_port rfl hu m (by omega) (by omega)).trans (congrArg _ (State.spiPort_buffer hdata h)),
        exec_mailboxBufferWrite rfl (State.sideOpen_spi hu) offset data⟩
    · exact ⟨_, (exec_spiWrite_port rfl hu m (by omega) (by decide)).trans (congrArg _ (State.spiPort_inLen h)),
        exec_inLen rfl (State.sideOpen_spi hu) (leNat data)⟩

end Sys2Proof.Machine

/-! PROOFS about what changes the items of queues alone, and about the records that go out when a queue is resumed
(towards O37). -/

namespace Sys2Proof.Machine

/-! ## What changes the items of queues alone -/

/-- A queue without its items. -/
def Queue.shell (x : Queue) : Queue := { x with jobs := [] }

/-- Of the queues at most the items have changed. -/
def State.ItemsOnly (s t : State) : Prop := ∀ q, (t.queueAt q).shell = (s.queueAt q).shell

section
variable {s t u : State}

theorem State.ItemsOnly.of_queues (h : t.queues = s.queues) : State.ItemsOnly s t :=
  fun q => congrArg Queue.shell (State.queueAt_congr h q)

theorem State.ItemsOnly.trans (h : State.ItemsOnly s t) (k : State.ItemsOnly t u) : State.ItemsOnly s u :=
  fun q => (k q).trans (h q)

theorem State.ItemsOnly.setQueue (s : State) (q : Nat) {f : Queue → Queue} (hf : ∀ x, (f x).shell = x.shell) :
    State.ItemsOnly s (s.setQueue q f) := State.queueAt_setQueue_kept Queue.shell hf s q

theorem State.ItemsOnly.bump (s : State) (a : Nat) : State.ItemsOnly s (s.bump a) := .of_queues (State.bump_queues s a).1

/-- R277: a renumbering of faults reaches the items of the queues. -/
theorem State.ItemsOnly.renumberRefs (s : State) (moves : List (Nat × Nat)) : State.ItemsOnly s (s.renumberRefs moves) := by
  intro q
  simp only [State.renumberRefs, State.queueAt, nth, List.getD_eq_getElem?_getD, List.getElem?_map]
  cases s.queues[q]? <;> rfl

theorem State.ItemsOnly.assignSeq (s : State) (r : FaultRx) : State.ItemsOnly s (s.assignSeq r).2 := by
  unfold State.assignSeq
  extract_lets after own moves x old
  have hx : State.ItemsOnly s x := by
    unfold x
    split
    · exact .of_queues rfl
    · exact .renumberRefs s moves
  exact hx.trans (.of_queues rfl)

/-- R254, R277: a fault that is detected changes no queue but for the fault numbers of its items. -/
theorem State.ItemsOnly.detect (s : State) (d : Detection) : State.ItemsOnly s (s.detect d).2 := by
  unfold State.detect
  extract_lets x1 x2 x3 x4 x5 x6
  have h3 : x3.queues = s.queues := (State.Sound.countMechanism (State.Sound.refl [.dict] s) rfl).within.queues rfl
  split
  · have h5 : x5.queues = x3.queues := (State.Sound.latchSafety (State.Sound.refl [.dict, .bin] x3) rfl).within.queues rfl
    exact (ItemsOnly.of_queues (h5.trans h3)).trans (.assignSeq _ _)
  · split
    rename_i y carried z e
    have hz : z.queues = x6.queues :=
      (State.SoundP.of e (State.Sound.countLogged (State.Sound.refl [.dict, .log] x6) rfl)).within.queues rfl
    have h6 : State.ItemsOnly s z := .of_queues (hz.trans ((State.bump_queues x3 _).1.trans h3))
    split
    · exact h6.trans (.of_queues rfl)
    · exact h6.trans (.assignSeq _ _)

theorem State.ItemsOnly.violate (s : State) (w : Actor) (cause a : Nat) : State.ItemsOnly s (s.violate w cause a).2 := by
  unfold State.violate
  exact (ItemsOnly.bump s _).trans (.detect _ _)

theorem State.ItemsOnly.uncorrectable (s : State) (scrub : Bool) (part queue tag : Option Nat) (cause a : Nat) :
    State.ItemsOnly s (s.uncorrectable scrub part queue tag cause a).2 := by
  unfold State.uncorrectable
  extract_lets x unit kind
  have hx : State.ItemsOnly s x :=
    .of_queues ((State.Sound.countUe (State.Sound.refl [.dict] s) rfl).within.queues rfl)
  split
  · exact hx
  · exact hx.trans (.detect _ _)

theorem State.ItemsOnly.uncorrectables (part queue tag : Option Nat) (cause : Nat) (us : List Nat) (s : State) :
    State.ItemsOnly s (State.uncorrectables part queue tag cause us s).2 := by
  induction us generalizing s with
  | nil => exact .of_queues rfl
  | cons u us ih =>
    unfold State.uncorrectables
    split
    rename_i y ref x hx
    have h : State.ItemsOnly s x := by
      have h := ItemsOnly.uncorrectable s false part queue tag cause u
      rwa [hx] at h
    exact h.trans (ih x)

theorem State.ItemsOnly.report (s : State) (w : Actor) (a : Nat) (m : Met) : State.ItemsOnly s (s.report w a m).2 := by
  unfold State.report
  extract_lets x
  have hx : State.ItemsOnly s x :=
    .of_queues ((State.Sound.correct (State.Sound.refl [.dict, .mem] s) rfl).within.queues rfl)
  clear_value x
  split
  · dsimp only
    exact hx.trans (.violate x w 0x16 a)
  · split
    · exact hx
    · dsimp only
      exact hx.trans (.uncorrectables _ _ _ _ m.bad x)

/-! ## The records of a queue (R184, R242) -/

/-- R167: the record of a standing queue is an access to device memory, whatever it meets there. -/
theorem State.ItemsOnly.putStanding (s : State) (q : Nat) (j : Job) (e : Ended) :
    State.ItemsOnly s (s.putStanding q j e) := by
  unfold State.putStanding
  extract_lets a w
  split
  rename_i y x met hx
  have h : x.queues = s.queues := (State.SoundF.of hx (State.Sound.store (State.Sound.chargeAccess
    (State.Sound.refl [.dict, .mem] s) rfl) rfl)).within.queues rfl
  exact (ItemsOnly.of_queues h).trans (.report _ _ _ _)

theorem State.uncountOutcome_queues (s : State) (p status tick : Nat) : (s.uncountOutcome p status tick).queues = s.queues :=
  (State.Sound.uncountOutcome (State.Sound.refl [.tally] s) rfl).within.queues rfl

/-- The queues are as they were, or the items of one number in one queue have changed under their number and ended. -/
def State.AmendsOne (q seq : Nat) (s t : State) : Prop := t.queues = s.queues ∨
  ∃ f : Job → Job, (∀ k, (f k).submitSeq = k.submitSeq ∧ (f k).standing = k.standing ∧ (f k).ended.isSome = true) ∧
    t.queues = (s.setJob q seq f).queues

/-- R221: the ending of an item whose outputs no sweep could cover. -/
def Ended.uncovered (e : Ended) (j : Job) : Ended :=
  { e with status := 0x20, cause := 0x15, outputValid := false, isPartial := j.workStarted 0x15 }

theorem State.AmendsOne.amendItem (s : State) (q seq : Nat) : State.AmendsOne q seq s (s.amendItem q seq) := by
  unfold State.amendItem
  split
  · exact .inl rfl
  · rename_i j hj
    split
    · exact .inl rfl
    · rename_i e he
      split
      · exact .inl rfl
      · extract_lets p x y
        have hx : x.queues = s.queues := (State.countOutcome_queues _ _ _ _).1.trans (s.uncountOutcome_queues _ _ _)
        have hy : y.queues = (s.setJob q seq (fun k => { k with ended := some (e.uncovered j) })).queues :=
          congrArg (fun qs => modifyAt qs q _) hx
        refine .inr ⟨fun k => { k with ended := some (e.uncovered j) }, fun k => ⟨rfl, rfl, rfl⟩, ?_⟩
        split
        · exact hy
        · exact hy

/-- R220, R221: the sweep before a record changes at most the item whose record it precedes. -/
theorem State.AmendsOne.sweepRecord (s : State) (q seq : Nat) : State.AmendsOne q seq s (s.sweepRecord q seq) := by
  unfold State.sweepRecord
  split
  · exact .inl rfl
  · split
    · exact .amendItem s q seq
    · exact .inl (State.bump_queues _ _).1

theorem State.ItemsOnly.sweepRecord (s : State) (q seq : Nat) : State.ItemsOnly s (s.sweepRecord q seq) := by
  obtain h | ⟨f, -, h⟩ := AmendsOne.sweepRecord s q seq
  · exact .of_queues h
  · exact (ItemsOnly.setQueue s q (by intro; rfl)).trans (.of_queues h)

theorem State.ItemsOnly.putRecord (s : State) (q : Nat) : State.ItemsOnly s (s.putRecord q).2 := by
  unfold State.putRecord
  split
  · exact .of_queues rfl
  · split
    · exact .of_queues rfl
    · rename_i j rest hj hdue
      extract_lets x k y z a
      have hx : State.ItemsOnly s x := by
        unfold x
        split
        · exact .of_queues rfl
        · exact .sweepRecord _ _ _
      clear_value x
      have hy : State.ItemsOnly s y := hx.trans (.setQueue x q (by intro; rfl))
      clear_value y
      split
      · exact hx
      · split
        · dsimp only
          exact hy.trans (.putStanding y q k _)
        · exact hy.trans (.of_queues rfl)

theorem State.ItemsOnly.putRecords (n q : Nat) (s : State) : State.ItemsOnly s (State.putRecords n q s) := by
  induction n generalizing s with
  | zero => exact .of_queues rfl
  | succ n ih => exact (ItemsOnly.putRecord s q).trans (ih _)

end

/-! ## Records that are due -/

theorem State.Inv.queue_lt {s : State} (h : s.Inv) {q : Nat} (hq : q < 32) : q < s.queues.length := by
  obtain ⟨-, hl, -⟩ := (State.shaped_iff s).1 h.2
  omega

theorem State.putRecord_within (s : State) (q : Nat) :
    State.Within [.dict, .tally, .queues, .mem, .bin, .log, .sent] s (s.putRecord q).2 :=
  (State.SoundP.snd (State.Sound.putRecord (State.Sound.refl _ s) rfl)).within

theorem State.putRecord_inv {s : State} (h : s.Inv) (q : Nat) : (s.putRecord q).2.Inv :=
  (State.SoundP.snd (State.Sound.putRecord
    (State.Sound.refl [.dict, .tally, .queues, .mem, .bin, .log, .sent] s) rfl)).good h

section
variable {s t : State} {q : Nat}

/-- R242, R243, R249: whether a record is due depends on the host link, the fabric, and its queue but for the items. -/
theorem State.recordDue_congr (hh : t.host = s.host) (hf : t.fabric = s.fabric) (hq : (t.queueAt q).shell = (s.queueAt q).shell)
    (j : Job) : t.recordDue q j = s.recordDue q j := by
  have hring : (t.queueAt q).ringOn = (s.queueAt q).ringOn := congrArg (fun x => x.ringOn) hq
  have hstate : (t.queueAt q).state = (s.queueAt q).state := congrArg (fun x => x.state) hq
  have hrelaxed : (t.queueAt q).relaxed = (s.queueAt q).relaxed := congrArg (fun x => x.relaxed) hq
  simp only [State.recordDue, State.readsOpen, State.hostOpen, State.recordPathClosed, State.sweepDone, State.closedPath,
    State.bulkOpen, hh, hf, hring, hstate, hrelaxed]

variable {j : Job} {rest : List Job}

theorem State.job?_head (hj : (s.queueAt q).jobs = j :: rest) : s.job? q j.submitSeq = some j := by
  rw [State.job?, hj, List.find?_cons_of_pos (by simp)]

theorem State.job?_setJob (hq : q < s.queues.length) {seq : Nat} {f : Job → Job} (hf : ∀ k, (f k).submitSeq = k.submitSeq)
    (hj : s.job? q seq = some j) : (s.setJob q seq f).job? q seq = some (f j) := by
  have hseq : j.submitSeq = seq := by simpa using List.find?_some hj
  rw [State.job?_of_map (s := s) (g := fun k => if k.submitSeq == seq then f k else k)
    (fun k => by split <;> simp [hf]) (by rw [State.setJob, State.queueAt_setQueue _ _ _ hq]), hj, Option.map_some,
    if_pos (beq_iff_eq.2 hseq)]

/-- R221: the first item of a queue has ended before and after the sweep that precedes its record. -/
theorem State.sweepRecord_head (hq : q < s.queues.length) (hj : (s.queueAt q).jobs = j :: rest) (he : j.ended.isSome = true) :
    ∃ k, (s.sweepRecord q j.submitSeq).job? q j.submitSeq = some k ∧ k.standing = j.standing ∧ k.ended.isSome = true := by
  obtain h | ⟨f, hf, h⟩ := AmendsOne.sweepRecord s q j.submitSeq
  · exact ⟨j, by rw [State.job?, State.queueAt_congr h, ← State.job?, State.job?_head hj], rfl, he⟩
  · obtain ⟨-, hstand, hend⟩ := hf j
    exact ⟨f j, by rw [State.job?, State.queueAt_congr h, ← State.job?,
      State.job?_setJob hq (fun k => (hf k).1) (State.job?_head hj)], hstand, hend⟩

/-- R184, R242: the first record of a queue, where it is due, goes out to host memory, and its item leaves the queue. -/
theorem State.putRecord_due (hq : q < s.queues.length) (hj : (s.queueAt q).jobs = j :: rest) (hs : j.standing = false)
    (hd : s.recordDue q j = true) :
    ((s.putRecord q).2.queueAt q).jobs = rest ∧ (s.putRecord q).2.sent.length = s.sent.length + 1 := by
  have he : j.ended.isSome = true := by
    simp only [State.recordDue, Bool.and_eq_true] at hd
    exact hd.1.1
  obtain ⟨k, hk, hstand, hend⟩ := State.sweepRecord_head hq hj he
  obtain ⟨e, hended⟩ := Option.isSome_iff_exists.1 hend
  have hx : State.Sound [.dict, .tally, .queues, .bin] s s.tick.now (s.sweepRecord q j.submitSeq) :=
    State.Sound.sweepRecord (State.Sound.refl _ s) rfl
  have hlen : (s.sweepRecord q j.submitSeq).queues.length = s.queues.length := by
    obtain h | ⟨f, -, h⟩ := AmendsOne.sweepRecord s q j.submitSeq
    · rw [h]
    · simp only [h, State.setJob, State.setQueue_queues, length_modifyAt]
  unfold State.putRecord
  rw [hj]
  dsimp only
  rw [if_neg (by simp [hd]), hs]
  simp only [Bool.false_eq_true, if_false, hk, Option.getD_some, hended, hstand, hs]
  refine ⟨?_, ?_⟩
  · show ((State.setQueue _ q _).queueAt q).jobs = rest
    rw [State.queueAt_setQueue _ _ _ (hlen ▸ hq)]
  · show ((s.sweepRecord q j.submitSeq).sent ++ [_]).length = _
    rw [hx.within.sent rfl, List.length_append, List.length_singleton]

/-- R250: the records of a queue, where all are due, go out in order. -/
theorem State.putRecords_due (h : s.Inv) (hq : q < 32) {js : List Job} (hj : (s.queueAt q).jobs = js)
    (hd : ∀ j ∈ js, j.standing = false ∧ s.recordDue q j = true) :
    ((State.putRecords js.length q s).queueAt q).jobs = [] ∧
      (State.putRecords js.length q s).sent.length = s.sent.length + js.length := by
  induction js generalizing s with
  | nil => exact ⟨hj, rfl⟩
  | cons j rest ih =>
    obtain ⟨hs, hdue⟩ := hd j List.mem_cons_self
    obtain ⟨hrest, hsent⟩ := State.putRecord_due (h.queue_lt hq) hj hs hdue
    have hw := s.putRecord_within q
    obtain ⟨hjobs, hall⟩ := ih (State.putRecord_inv h q) hrest fun k hk => by
      obtain ⟨hstand, hk⟩ := hd k (List.mem_cons_of_mem _ hk)
      exact ⟨hstand, (State.recordDue_congr (hw.host rfl) (hw.fabric rfl) (ItemsOnly.putRecord s q q) k).trans hk⟩
    refine ⟨hjobs, hall.trans ?_⟩
    rw [hsent, List.length_cons]
    omega

end

/-! ## RESUME (R250) -/

section
variable {s : State} {q : Nat}

/-- R250: the queue that is resumed, before its records go out. -/
def State.reopened (s : State) (q : Nat) : State :=
  s.setQueue q (fun y => { y with state := s.openState q, haltBme := false })

theorem State.reopened_queueAt (h : s.Inv) (hq : q < 32) :
    (s.reopened q).queueAt q = { s.queueAt q with state := s.openState q, haltBme := false } :=
  State.queueAt_setQueue _ _ _ (h.queue_lt hq)

theorem State.reopened_inv (h : s.Inv) (q : Nat) : (s.reopened q).Inv :=
  (State.Sound.setQueue (State.Sound.refl [.queues] s) rfl).good h

theorem State.resume_halted (hstate : (s.queueAt q).state = .halted) (ho : s.hostOpen = true)
    (hf : (s.queueAt q).haltFabric = false) (hp : s.recordPathClosed = false) (hr : (s.queueAt q).haltFlr = false) :
    s.resume q = ((State.putRecords (s.queueAt q).jobs.length q (s.reopened q)).sendVector q).dispatch :=
  if_neg (by simp [hstate, ho, hf, hp, hr])

/-- R243, R250, R251: RESUME is ignored while requests to host memory are impossible, while a closed numbering or a reset
of the function holds the queue, and of a queue that is not halted. -/
theorem State.resume_ignored (h : s.hostOpen = false ∨ (s.queueAt q).haltFabric = true ∨ s.recordPathClosed = true ∨
    (s.queueAt q).haltFlr = true ∨ (s.queueAt q).state ≠ .halted) : s.resume q = s :=
  if_pos (by obtain h | h | h | h | h := h <;> simp [h])

/-- R250: what the records that go out leave of the resumed queue. -/
theorem State.resumed_effect (h : s.Inv) (hq : q < 32) :
    let y := State.putRecords (s.queueAt q).jobs.length q (s.reopened q)
    (y.queueAt q).state = s.openState q ∧ (y.queueAt q).haltBme = false ∧
      ((∀ j ∈ (s.queueAt q).jobs, j.standing = false ∧ (s.reopened q).recordDue q j = true) →
        (y.queueAt q).jobs = [] ∧ y.sent.length = s.sent.length + (s.queueAt q).jobs.length) := by
  intro y
  have hw := State.reopened_queueAt h hq
  have hy : (y.queueAt q).shell = ((s.reopened q).queueAt q).shell := ItemsOnly.putRecords _ q _ q
  rw [hw] at hy
  refine ⟨congrArg (fun x => x.state) hy, congrArg (fun x => x.haltBme) hy, fun hd => ?_⟩
  exact State.putRecords_due (State.reopened_inv h q) hq (by rw [hw]) hd

end

end Sys2Proof.Machine

/-! PROOFS about the registers of a queue block (O37): the doorbells, the bases and the control register. -/

namespace Sys2Proof.Machine

/-! ## A closed record path (R243) -/

/-- R243: a host-linked queue halts with HALT_FABRIC, with vector 46 where it was not halted. -/
def State.haltClosed (s : State) (q : Nat) : State :=
  if !(s.hostLinked q) then s
  else
    let halted := (s.queueAt q).state == .halted
    let s := s.setQueue q (fun y => { y with state := .halted, haltFabric := true })
    if halted then s else s.sendVector 46

theorem State.haltForFabric_closed {s : State} (h : s.recordPathClosed = true) :
    s.haltForFabric = (List.range 32).foldl State.haltClosed s := if_neg (by simp [h])

theorem State.haltForFabric_open {s : State} (h : s.recordPathClosed = false) : s.haltForFabric = s := if_pos (by simp [h])

/-- Whether a queue with a ring reads HALTED with HALT_FABRIC. -/
def Queue.haltedFabric (x : Queue) : Prop := x.ringOn = true ∧ x.state = .halted ∧ x.haltFabric = true

section
variable {s : State} {q : Nat}

/-- What the halting of a queue keeps: an update of the queue and a message. -/
theorem State.haltClosed_keeps {P : State → Prop}
    (hq : P (s.setQueue q (fun x => { x with state := .halted, haltFabric := true }))) (hv : ∀ t, P t → P (t.sendVector 46))
    (h : P s) : P (s.haltClosed q) := by
  unfold State.haltClosed
  split
  · exact h
  · extract_lets halted x
    split
    · exact hq
    · exact hv _ hq

theorem State.Links.haltClosed {f : Nat → Bool} (h : s.Links f) (q : Nat) : (s.haltClosed q).Links f :=
  State.haltClosed_keeps (h.setQueue (by intro; rfl) q) (fun _ ht => ht.sendVector 46) h

theorem State.haltClosed_other {i : Nat} (hne : i ≠ q) : (s.haltClosed q).queueAt i = s.queueAt i :=
  State.haltClosed_keeps (P := fun t => t.queueAt i = s.queueAt i) (State.queueAt_setQueue_other s _ hne)
    (fun _ ht => (State.queueAt_congr (State.sendVector_within.queues rfl) i).trans ht) rfl

theorem State.haltClosed_same (h : s.Inv) (hq : q < 32) (hl : s.hostLinked q = true) :
    ((s.haltClosed q).queueAt q).haltedFabric := by
  obtain ⟨-, hring⟩ := Bool.and_eq_true_iff.1 hl
  rw [State.haltClosed, if_neg (by simp [hl])]
  extract_lets halted x
  have hx : (x.queueAt q).haltedFabric := by
    rw [State.queueAt_setQueue _ _ _ (h.queue_lt hq)]
    exact ⟨hring, rfl, rfl⟩
  split
  · exact hx
  · rw [State.queueAt_congr (State.sendVector_within.queues rfl)]
    exact hx

/-- R243: while the path of the records is closed, a queue that is host-linked is halted. -/
theorem State.haltForFabric_halts (h : s.Inv) (hq : q < 32) (hl : s.hostLinked q = true) (hp : s.recordPathClosed = true) :
    (s.haltForFabric.queueAt q).haltedFabric := by
  rw [State.haltForFabric_closed hp]
  exact foldl_reaches (before := State.Links s.hostLinked) (after := fun t => (t.queueAt q).haltedFabric) List.nodup_range
    (List.mem_range.2 hq) (fun _ i _ _ ht => ht.haltClosed i) (fun _ ht => State.haltClosed_same ht.1 hq ((ht.2 q).trans hl))
    (fun _ _ _ hne ht => (State.haltClosed_other hne.symm).symm ▸ ht) ⟨h, fun _ => rfl⟩

end

/-! ## The control register (R230, R231) -/

/-- RING_CTRL with RING_ENABLE clear: the record class and the size. -/
def Queue.sized (y : Queue) (value : Nat) : Queue := { y with relaxed := bitAt value 1, log2 := bitsAt value 7 4 }

/-- R231, R237, R251: a queue whose RING_ENABLE is set; `opened` is the state of one that nothing halts. -/
def Queue.started (y : Queue) (opened : QState) : Queue :=
  { y with
    ringOn := true, fetched := 0, haltFlr := false,
    state := if y.state == .halted && !y.haltBme && !y.haltFabric then opened else y.state }

theorem State.setQueue_setQueue (s : State) (q : Nat) (f g : Queue → Queue) :
    (s.setQueue q f).setQueue q g = s.setQueue q (fun x => g (f x)) := by
  simp only [State.setQueue, modifyAt_modifyAt]

section
variable {s : State} {q value : Nat}

theorem State.ringControl_set (h : (s.queueAt q).ringOn = true) (hb : bitAt value 0 = true) : s.ringControl q value = s := by
  simp only [State.ringControl, h, hb, if_true]

theorem State.ringControl_clear (h : (s.queueAt q).ringOn = true) (hb : bitAt value 0 = false) :
    s.ringControl q value = s.ringOff q := by
  simp only [State.ringControl, h, hb, if_true, Bool.false_eq_true, if_false]

/-- R230, R231: RING_CTRL with RING_ENABLE clear and an entry count that names a ring. -/
theorem State.ringControl_sized (h : (s.queueAt q).ringOn = false) (h1 : 1 ≤ bitsAt value 7 4) (h2 : bitsAt value 7 4 ≤ 10) :
    s.ringControl q value =
      if bitAt value 0 = true ∧ s.numAt (Adr.queueMode q) = 0 then (s.setQueue q (fun y => y.sized value)).ringOn q
      else s.setQueue q (fun y => y.sized value) := by
  have hl : (bitsAt value 7 4 == 0 || decide (10 < bitsAt value 7 4)) = false := by simp; omega
  have hm : (s.setQueue q (fun y => y.sized value)).numAt (Adr.queueMode q) = s.numAt (Adr.queueMode q) := rfl
  unfold State.ringControl
  dsimp only
  rw [if_neg (by simp [h]), if_neg (by rw [hl]; decide), ← hm]
  exact if_congr (by simp [Queue.sized]) rfl rfl

theorem State.openState_setQueue (s : State) (i q : Nat) (f : Queue → Queue) : (s.setQueue i f).openState q = s.openState q := rfl

theorem State.ringOn_eq (s : State) (q : Nat) :
    s.ringOn q = (s.setQueue q (fun y => y.started (s.openState q))).haltForFabric := rfl

theorem State.ringOn_sized (s : State) (q value : Nat) : (s.setQueue q (fun y => y.sized value)).ringOn q =
    (s.setQueue q (fun y => (y.sized value).started (s.openState q))).haltForFabric := by
  rw [State.ringOn_eq, State.openState_setQueue, State.setQueue_setQueue]

/-- R231, R243: RING_ENABLE is set while the path of the records is open. -/
theorem State.ringOn_open (hp : s.recordPathClosed = false) : (s.setQueue q (fun y => y.sized value)).ringOn q =
    s.setQueue q (fun y => (y.sized value).started (s.openState q)) :=
  (s.ringOn_sized q value).trans (State.haltForFabric_open hp)

/-- R231, R243: RING_ENABLE is set while the path of the records is closed. -/
theorem State.ringOn_closed (h : s.Inv) (hq : q < 32) (hm : s.numAt (Adr.queueMode q) = 0) (hp : s.recordPathClosed = true) :
    (((s.setQueue q (fun y => y.sized value)).ringOn q).queueAt q).haltedFabric := by
  have hi : (s.setQueue q (fun y => (y.sized value).started (s.openState q))).Inv :=
    (State.Sound.setQueue (State.Sound.refl [.queues] s) rfl).good h
  have hl : (s.setQueue q (fun y => (y.sized value).started (s.openState q))).hostLinked q = true := by
    rw [State.hostLinked, State.queueAt_setQueue _ _ _ (h.queue_lt hq)]
    exact Bool.and_eq_true_iff.2 ⟨beq_iff_eq.2 hm, rfl⟩
  rw [State.ringOn_sized]
  exact State.haltForFabric_halts hi hq hl hp

/-- R231: RING_ENABLE stays set while the queue holds an item that has not ended. -/
theorem State.ringOff_ignored (h : ∃ j, j ∈ (s.queueAt q).jobs ∧ j.ended = none) : s.ringOff q = s := by
  obtain ⟨j, hj, he⟩ := h
  have ha : (s.queueAt q).jobs.any (fun j => j.ended.isNone) = true := List.any_eq_true.2 ⟨j, hj, by rw [he]; rfl⟩
  exact if_pos (by rw [ha, Bool.or_true])

theorem State.ringOff_clears (h : s.Inv) (hq : q < 32) (hr : (s.queueAt q).ringOn = true)
    (he : ∀ j, j ∈ (s.queueAt q).jobs → j.ended.isSome) : ((s.ringOff q).queueAt q).ringOn = false := by
  have ha : (s.queueAt q).jobs.any (fun j => j.ended.isNone) = false := by
    rw [List.any_eq_false]
    intro j hj
    simp [Option.isSome_iff_ne_none.1 (he j hj)]
  have hi : (State.writeRecords (s.queueAt q).jobs.length q s).Inv := (State.Sound.writeRecords
    (State.Sound.refl [.dict, .tally, .queues, .mem, .host, .bin, .log, .sent] s) rfl).good h
  unfold State.ringOff
  dsimp only
  rw [if_neg (by rw [hr, ha]; decide), State.queueAt_setQueue _ _ _ (hi.queue_lt hq)]

end

/-! ## The commands of a queue block -/

/-- The command answers a state in which queue `q` is `y`, the other queues are as they were and nothing is sent. -/
def State.queueBecomes (s : State) (i : Instr) (q : Nat) (y : Queue) : Prop :=
  ∃ w, exec i s = .next w ∧ w.queueAt q = y ∧ (∀ m, m ≠ q → w.queueAt m = s.queueAt m) ∧ w.sent = s.sent

section
variable {s u : State} {t : Nat} {q : Fin 32}

theorem exec_sqTail (hu : u = s.advance t) (hw : u.windowsOpen = true) (v : Nat) :
    exec (.sqTail t q v) s = .next (u.setQueue q (fun x => { x with sqTail := v % 2 ^ 32 })) := by
  subst hu
  exact congrArg _ (if_pos hw)

theorem exec_cqHead (hu : u = s.advance t) (hw : u.windowsOpen = true) (v : Nat) :
    exec (.cqHead t q v) s = .next (u.setQueue q (fun x => { x with cqHead := v % 2 ^ 32 })) := by
  subst hu
  exact congrArg _ (if_pos hw)

theorem exec_ringEnable (hu : u = s.advance t) (hw : u.windowsOpen = true) (register : RingRegister) (high : Bool) (v : Nat) :
    exec (.ringEnable t q register high v) s = .next (u.ringRegister q (register.write high v)) := by
  subst hu
  exact congrArg _ (if_pos hw)

theorem exec_ringDisable (hu : u = s.advance t) (hw : u.windowsOpen = true) :
    exec (.ringDisable t q) s = .next (u.ringOff q) := by
  subst hu
  exact congrArg _ (if_pos hw)

theorem exec_resume (hu : u = s.advanceCharged t) (hw : u.windowsOpen = true) :
    exec (.resume t q) s = .next (u.resume q) := by
  show Host.Outcome.next (doResume t q s) = _
  unfold doResume
  rw [← hu]
  dsimp only
  rw [if_pos hw]

/-- A command that updates queue `q` after time has passed. -/
theorem State.queueBecomes_of_setQueue {i : Instr} {f : Queue → Queue} (hs : s.Inv)
    (h : exec i s = .next ((s.advance t).setQueue q f)) : s.queueBecomes i q (f ((s.advance t).queueAt q)) := by
  refine ⟨_, h, State.queueAt_setQueue _ _ _ ((State.advance_inv hs).queue_lt q.isLt), fun m hm => ?_, ?_⟩
  · rw [State.queueAt_setQueue_other _ _ hm, State.queueAt, State.queueAt]
    simp only [State.advance_frame]
  · simp only [State.setQueue_frame, State.advance_frame]

/-- R230, R231: a write of a base address. -/
theorem State.ringBase_clear (hr : (u.queueAt q).ringOn = false) (second high : Bool) (v : Nat) :
    u.ringRegister q (.base second high v) = u.setQueue q (fun y =>
      if second then { y with cqBase := withWord y.cqBase high v / 4096 * 4096 }
      else { y with sqBase := withWord y.sqBase high v / 4096 * 4096 }) := by
  unfold State.ringRegister
  dsimp only
  rw [if_neg (by simp [hr])]
  cases second <;> rfl

theorem State.ringBase_set (hr : (u.queueAt q).ringOn = true) (second high : Bool) (v : Nat) :
    u.ringRegister q (.base second high v) = u := if_pos hr

/-- R230, R231, R243: the writes of RING_CTRL with RING_ENABLE clear: without enabling a ring, and enabling one while the
record path is open and while it is closed. -/
theorem ringCtrl_effect (hs : s.Inv) (hu : u = s.advance t) (hw : u.windowsOpen = true) (high : Bool) {v : Nat}
    (hr : (u.queueAt q).ringOn = false) (h1 : 1 ≤ bitsAt v 7 4) (h2 : bitsAt v 7 4 ≤ 10) :
    (bitAt v 0 = false ∨ u.numAt (Adr.queueMode q) ≠ 0 →
      s.queueBecomes (.ringEnable t q .ctrl high v) q ((u.queueAt q).sized v)) ∧
    (bitAt v 0 = true → u.numAt (Adr.queueMode q) = 0 → u.recordPathClosed = false →
      s.queueBecomes (.ringEnable t q .ctrl high v) q (((u.queueAt q).sized v).started (u.openState q))) ∧
    (bitAt v 0 = true → u.numAt (Adr.queueMode q) = 0 → u.recordPathClosed = true →
      ∃ w, exec (.ringEnable t q .ctrl high v) s = .next w ∧ (w.queueAt q).haltedFabric) := by
  have he : exec (.ringEnable t q .ctrl high v) s = .next (u.ringControl q v) := exec_ringEnable hu hw .ctrl high v
  rw [State.ringControl_sized hr h1 h2] at he
  refine ⟨fun h => ?_, fun hb hm hp => ?_, fun hb hm hp => ?_⟩
  · rw [if_neg (by obtain h | h := h <;> simp [h])] at he
    subst hu
    exact State.queueBecomes_of_setQueue hs he
  · rw [if_pos ⟨hb, hm⟩, State.ringOn_open hp] at he
    subst hu
    exact State.queueBecomes_of_setQueue hs he
  · rw [if_pos ⟨hb, hm⟩] at he
    exact ⟨_, he, State.ringOn_closed (hu ▸ State.advance_inv hs) q.isLt hm hp⟩

end

/-! ## The commands of the control ring (R244) -/

/-- The command answers a state whose host link differs in the control ring alone, and nothing is sent. -/
def State.ringBecomes (s : State) (i : Instr) (r : ControlRing) : Prop :=
  ∃ x, exec i s = .next x ∧ x.host = { s.host with ring := r } ∧ x.sent = s.sent

section
variable {s : State} {t : Nat}

/-- A command that updates the control ring after time has passed. -/
theorem State.ringBecomes_of_setRing {i : Instr} {f : ControlRing → ControlRing}
    (h : exec i s = .next ((s.advance t).setRing f)) : s.ringBecomes i (f s.host.ring) := by
  refine ⟨_, h, ?_, ?_⟩
  · simp only [State.setRing, State.setHost, State.advance_frame]
  · simp only [State.setRing, State.setHost, State.advance_frame]

theorem State.ringBecomes_of_advance {i : Instr} (h : exec i s = .next (s.advance t)) : s.ringBecomes i s.host.ring := by
  refine ⟨_, h, ?_, ?_⟩
  · simp only [State.advance_frame]
  · simp only [State.advance_frame]

theorem exec_crReqTail (hw : (s.advance t).windowsOpen = true) (v : Nat) :
    exec (.crReqTail t v) s = .next ((s.advance t).setRing (fun r => { r with reqTail := v % 2 ^ 32 })) :=
  congrArg _ (if_pos hw)

theorem exec_crRspHead (hw : (s.advance t).windowsOpen = true) (v : Nat) :
    exec (.crRspHead t v) s = .next ((s.advance t).setRing (fun r => { r with rspHead := v % 2 ^ 32 })) :=
  congrArg _ (if_pos hw)

theorem exec_controlRingEnable (hw : (s.advance t).windowsOpen = true) (register : RingRegister) (high : Bool) (v : Nat) :
    exec (.controlRingEnable t register high v) s = .next ((s.advance t).crRegister (register.write high v)) :=
  congrArg _ (if_pos hw)

/-- R244: a base address is written while the control ring is disabled. -/
theorem controlRing_base (hw : (s.advance t).windowsOpen = true) (second high : Bool) (v : Nat) :
    let r := s.host.ring
    s.ringBecomes (.controlRingEnable t (.base second) high v)
      (if r.enabled then r else if second then { r with rspBase := withWord r.rspBase high v }
       else { r with reqBase := withWord r.reqBase high v }) := by
  intro r
  have he := exec_controlRingEnable hw (.base second) high v
  have hring : (s.advance t).host.ring.enabled = r.enabled := by simp only [r, State.advance_frame]
  unfold State.crRegister RingRegister.write at he
  dsimp only at he
  rw [hring] at he
  split
  · rename_i hr
    rw [if_pos hr] at he
    exact State.ringBecomes_of_advance he
  · rename_i hr
    rw [if_neg hr] at he
    split
    · exact State.ringBecomes_of_setRing (he.trans (congrArg _ (if_pos ‹_›)))
    · exact State.ringBecomes_of_setRing (he.trans (congrArg _ (if_neg ‹_›)))

/-- R244: CR_CTRL. -/
theorem controlRing_ctrl (hw : (s.advance t).windowsOpen = true) (high : Bool) (v : Nat) :
    let r := s.host.ring
    (bitAt v 0 = true → r.enabled = false → 1 ≤ bitsAt v 7 4 → bitsAt v 7 4 ≤ 8 →
      s.ringBecomes (.controlRingEnable t .ctrl high v)
        { r with enabled := true, log2 := bitsAt v 7 4, fetched := 0, written := 0, reserved := 0 }) ∧
    (bitAt v 0 = true → r.enabled = true → s.ringBecomes (.controlRingEnable t .ctrl high v) r) ∧
    (bitAt v 0 = false →
      s.ringBecomes (.controlRingEnable t .ctrl high v) { r with enabled := false, reserved := 0, heldRsp := [] }) := by
  intro r
  have he : exec (.controlRingEnable t .ctrl high v) s = .next ((s.advance t).crControl v) :=
    exec_controlRingEnable hw .ctrl high v
  have hring : (s.advance t).host.ring.enabled = r.enabled := by simp only [r, State.advance_frame]
  unfold State.crControl at he
  dsimp only at he
  refine ⟨fun hb hr h1 h2 => ?_, fun hb hr => ?_, fun hb => ?_⟩
  · rw [if_neg (by simp [hb]), if_neg (by rw [hring, hr]; simp; omega)] at he
    exact State.ringBecomes_of_setRing he
  · rw [if_neg (by simp [hb]), if_pos (by rw [hring, hr]; rfl)] at he
    exact State.ringBecomes_of_advance he
  · rw [if_pos (by simp [hb])] at he
    exact State.ringBecomes_of_setRing he

end

/-- Settles O37: the registers of a queue block, RESUME, and the registers of the control ring. -/
theorem windowAControlsRings : Obligations.WindowAControlsRings := by
  unfold Obligations.WindowAControlsRings
  refine ⟨fun s t q hs => ?_, fun s t hw => ?_⟩
  · intro u n x hw becomes
    have hu : u.windowsOpen = true := (s.windowsOpen_advance t).trans hw
    have hi : u.Inv := State.advance_inv hs
    refine ⟨fun v => ⟨?_, ?_⟩, fun second high v => ⟨fun hr => ?_, fun hr => ?_⟩, fun high v => ?_, fun hr he => ?_,
      fun he => ?_, ?_⟩
    · exact State.queueBecomes_of_setQueue hs (exec_sqTail rfl hu v)
    · exact State.queueBecomes_of_setQueue hs (exec_cqHead rfl hu v)
    · exact State.queueBecomes_of_setQueue hs
        ((exec_ringEnable rfl hu (.base second) high v).trans (congrArg _ (State.ringBase_clear hr second high v)))
    · exact (exec_ringEnable rfl hu (.base second) high v).trans (congrArg _ (State.ringBase_set hr second high v))
    · intro log2 linked
      have hexec : exec (.ringEnable t q .ctrl high v) s = .next (u.ringControl q v) := exec_ringEnable rfl hu .ctrl high v
      refine ⟨fun hr h1 h2 => ?_, fun hr hb => ?_, fun hr hb => ?_⟩
      · obtain ⟨hsized, hopen, hclosed⟩ := ringCtrl_effect hs rfl hu high hr h1 h2
        refine ⟨hsized, fun hb hl hp => ?_, fun hb hl hp => hclosed hb hl hp⟩
        refine ⟨_, hopen hb hl hp, rfl, rfl, rfl, rfl, rfl, rfl, rfl, rfl, fun hstate hbme hfabric => if_pos ?_⟩
        show (x.state == .halted && !x.haltBme && !x.haltFabric) = true
        rw [hstate, hbme, hfabric]
        rfl
      · exact hexec.trans (congrArg _ (State.ringControl_set hr hb))
      · exact (hexec.trans (congrArg _ (State.ringControl_clear hr hb))).trans (exec_ringDisable rfl hu).symm
    · exact ⟨_, exec_ringDisable rfl hu, State.ringOff_clears hi q.isLt hr he⟩
    · exact (exec_ringDisable rfl hu).trans (congrArg _ (State.ringOff_ignored he))
    · intro v z w
      have hv : v.Inv := State.advanceCharged_inv hs
      have hopen : v.windowsOpen = true := by
        simp only [State.windowsOpen, v, State.advanceCharged_frame]
        exact hw
      have hexec : exec (.resume t q) s = .next (v.resume q) := exec_resume rfl hopen
      refine ⟨fun hstate ho hf hp hr => ?_, fun h => hexec.trans (congrArg _ (State.resume_ignored h))⟩
      exact ⟨_, hexec.trans (congrArg _ (State.resume_halted hstate ho hf hp hr)), State.resumed_effect hv q.isLt⟩
  · intro becomes r
    have hu : (s.advance t).windowsOpen = true := (s.windowsOpen_advance t).trans hw
    refine ⟨fun v => ⟨?_, ?_⟩, controlRing_base hu, controlRing_ctrl hu⟩
    · exact State.ringBecomes_of_setRing (exec_crReqTail hu v)
    · exact State.ringBecomes_of_setRing (exec_crRspHead hu v)

end Sys2Proof.Machine

/-! PROOFS of the statement about FAULT_N and SAFETY_STATE (O42): the rules of `State.FaultPin`, and what faults and accesses to memory keep. -/

namespace Sys2Proof.Machine

/-- R268: FAULT_N is asserted exactly while SAFETY_STATE is not NORMAL. -/
def State.FaultPin (s : State) : Prop := s.bin.faultN = true ↔ s.bin.state ≠ .normal

/-- Every part but the binnacle. -/
def offBinnacle : List Field :=
  [.part, .pending, .dict, .staged, .nvm, .tick, .clock, .tally, .own, .ports, .ingest, .arrs, .queues, .mem, .fabric,
    .host, .log, .keys, .panels, .plat, .power, .sent, .free]

/-- The state in a reply of the protocol. -/
def Reply.state : Reply → State
  | .done _ _ s => s
  | .refused _ _ s => s
  | .later s => s

theorem State.FaultPin.off {s t : State} (k : State.Sound offBinnacle s s.tick.now t) (h : s.FaultPin) : t.FaultPin := by
  rw [State.FaultPin, k.within.bin rfl]
  exact h

theorem State.FaultPin.ite {c : Prop} [Decidable c] {x y : State} (hx : x.FaultPin) (hy : y.FaultPin) :
    (if c then x else y).FaultPin := by split <;> assumption

theorem State.FaultPin.ite_of {α : Type} (g : α → State) {c : Prop} [Decidable c] {x y : α} (hx : (g x).FaultPin)
    (hy : (g y).FaultPin) : (g (if c then x else y)).FaultPin := by split <;> assumption

theorem State.FaultPin.foldl {α : Type} {f : State → α → State} {xs : List α} {s : State} (h : s.FaultPin)
    (hf : ∀ s x, s.FaultPin → (f s x).FaultPin) : (xs.foldl f s).FaultPin :=
  List.foldlRecOn xs f h (fun s h x _ => hf s x h)

theorem State.FaultPin.foldl_of {α β : Type} (g : β → State) {f : β → α → β} {xs : List α} {y : β} (h : (g y).FaultPin)
    (hf : ∀ y x, (g y).FaultPin → (g (f y x)).FaultPin) : (g (xs.foldl f y)).FaultPin :=
  List.foldlRecOn (motive := fun y => (g y).FaultPin) xs f h (fun y h x _ => hf y x h)

theorem State.FaultPin.of_eq {α : Type} (g : α → State) {x y : α} (e : x = y) (h : (g x).FaultPin) : (g y).FaultPin := e ▸ h

/-- A reply of the protocol that touches nothing of the binnacle. -/
theorem State.FaultPin.off_reply {s : State} {r : Reply} (k : State.SoundR offBinnacle s s.tick.now r) (h : s.FaultPin) :
    r.state.FaultPin := by
  cases r <;> exact .off k h

theorem State.FaultPin.off_option {s : State} {y : Option State} (k : State.SoundO offBinnacle s s.tick.now y)
    (h : s.FaultPin) : (y.getD s).FaultPin := by
  cases y with
  | none => exact h
  | some x => exact .off (k x rfl) h

theorem State.FaultPin.send {r : Reply} {p : Port} {route : Route} {service seq a : Nat} (h : r.state.FaultPin) :
    (r.send p route service seq a).FaultPin := by
  cases r with
  | done f b s => exact .off (State.Sound.of_Reply_send (.refl _ s) rfl) h
  | refused f c s => exact .off (State.Sound.of_Reply_send (r := .refused f c s) (.refl _ s) rfl) h
  | later s => exact h

theorem State.FaultPin.ite_getD {c : Prop} [Decidable c] {s : State} {x y : Option State} (hx : (x.getD s).FaultPin)
    (hy : (y.getD s).FaultPin) : ((if c then x else y).getD s).FaultPin := by split <;> assumption

theorem State.FaultPin.ite_elim {α : Type} {c : Prop} [Decidable c] {s : State} {x y : Option (α × State)}
    (hx : (x.elim s Prod.snd).FaultPin) (hy : (y.elim s Prod.snd).FaultPin) :
    ((if c then x else y).elim s Prod.snd).FaultPin := by split <;> assumption

/-- A binnacle that starts asserts FAULT_N (R264, R372). -/
theorem State.FaultPin.starting {s : State} (h : s.bin.state = .starting) (k : s.bin.faultN = true) : s.FaultPin :=
  iff_of_true k (by rw [h]; exact Safety.noConfusion)

theorem State.FaultPin.getD_some {s x : State} (h : x.FaultPin) : ((some x).getD s).FaultPin := h

theorem State.FaultPin.elim_some {α : Type} {s x : State} {a : α} (h : x.FaultPin) :
    ((some (a, x)).elim s Prod.snd).FaultPin := h

theorem State.FaultPin.snd {α : Type} {x : State} {a : α} (h : x.FaultPin) : (a, x).2.FaultPin := h

variable {s : State}

theorem State.FaultPin.latchSafety {mechanism} (h : s.FaultPin) : (s.latchSafety mechanism).FaultPin := by
  unfold State.latchSafety
  extract_lets x1 x2
  have h1 : x1.FaultPin := .off (.bump (.latchMechanism (.refl _ _) rfl) rfl) h
  clear_value x1
  exact h1

theorem State.FaultPin.renumberRefs {k1} (h : s.FaultPin) : (State.renumberRefs s k1).FaultPin := by
  unfold State.renumberRefs
  extract_lets x1 x2
  exact h

theorem State.FaultPin.assignSeq {r} (h : s.FaultPin) : (s.assignSeq r).2.FaultPin := by
  unfold State.assignSeq
  extract_lets x1 x2 x3 x4 x5 x6 x7
  have h1 : x4.FaultPin := .ite h (.renumberRefs h)
  clear_value x4
  exact h1

theorem State.FaultPin.detect {d} (h : s.FaultPin) : (s.detect d).2.FaultPin := by
  unfold State.detect
  extract_lets x1 x2 x3 x4 x5 x6
  have h1 : x1.FaultPin := .off (.countMechanism (.refl _ _) rfl) h
  clear_value x1
  have h2 : x3.FaultPin := h1
  clear_value x3
  have h3 : x5.FaultPin := .latchSafety h2
  clear_value x5
  have h4 : x6.FaultPin := .off (.bump (.refl _ _) rfl) h2
  clear_value x6
  refine .ite_of Prod.snd (.assignSeq h3) ?_
  split
  rename_i y3 y4
  have h5 : y3.FaultPin := .of_eq Prod.snd y4 (.off (.countLogged (.refl _ _) rfl) h4)
  split
  · exact h5
  · exact .assignSeq h5

theorem State.FaultPin.raise {d} (h : s.FaultPin) : (s.raise d).FaultPin := by
  unfold State.raise
  exact .detect h

theorem State.FaultPin.pushReaction {r} (h : s.FaultPin) : (s.pushReaction r).FaultPin := by
  unfold State.pushReaction
  exact h

theorem State.FaultPin.giveVerdict {a verdict} (h : s.FaultPin) : (s.giveVerdict a verdict).FaultPin := by
  unfold State.giveVerdict
  extract_lets x1 x2 x3 x4 x5 x6
  have h2 : x3.FaultPin := .foldl h (fun s1 x7 h1 => .off (.returnSuppressed (.refl _ _) rfl) (.latchSafety h1))
  clear_value x3
  have h3 : x6.FaultPin := h2
  clear_value x6
  exact .foldl h3 (fun s2 x8 h4 => .assignSeq h4)

theorem State.FaultPin.commitRecord {r} (h : s.FaultPin) : (s.commitRecord r).FaultPin := by
  unfold State.commitRecord
  extract_lets x1 x2
  split
  · exact .off (.bump (.returnSuppressed (.refl _ _) rfl) rfl) h
  · extract_lets x3 x4 x5 x6
    have h1 : x3.FaultPin := .ite h (.off (.bump (.refl _ _) rfl) h)
    clear_value x3
    have h2 : x6.FaultPin := h1
    clear_value x6
    exact .off (.bump (.refl _ _) rfl) h2

theorem State.FaultPin.queueMessage {tick kind valid faults meridian} (h : s.FaultPin) : (s.queueMessage tick kind
    valid faults meridian).FaultPin := by
  unfold State.queueMessage
  refine .ite h ?_
  extract_lets x1 x2 x3 x4
  have h1 : x3.FaultPin := .ite (.off (.bump (.refl _ _) rfl) h) h
  clear_value x3
  exact h1

theorem State.FaultPin.eventMessage {r} (h : s.FaultPin) : (s.eventMessage r).FaultPin := by
  unfold State.eventMessage
  refine .ite ?_ ?_
  · extract_lets x1
    exact .queueMessage h
  · split
    · rename_i y3 y4
      have h1 : y3.FaultPin := .of_eq Prod.snd y4 (.off (.takeFree (.refl _ _) rfl) h)
      split
      · rename_i y7 y8
        have h2 : y7.FaultPin := .of_eq Prod.snd y8 (.off (.takeFree (.refl _ _) rfl) h1)
        exact .queueMessage h2

theorem State.FaultPin.assertFault (s : State) : s.assertFault.FaultPin := by
  have h : s.assertFault.bin.state ≠ .normal := by
    simp only [State.assertFault]
    split
    · exact Safety.noConfusion
    · rename_i hs
      exact fun e => hs (by rw [e]; rfl)
  exact ⟨fun _ => h, fun _ => rfl⟩

theorem State.FaultPin.react {r} (h : s.FaultPin) : (s.react r).FaultPin := by
  unfold State.react
  extract_lets x1
  have h1 : x1.FaultPin := .ite h (.commitRecord h)
  clear_value x1
  refine .ite (.off (.notifyFault (.refl _ _) rfl) (.eventMessage (.assertFault _))) ?_
  exact .off (.notifyFault (.refl _ _) rfl) h1

theorem State.FaultPin.binnacleReset (s : State) : s.binnacleReset.FaultPin := by
  unfold State.binnacleReset
  extract_lets x1 x2
  have h1 : x2.FaultPin := .starting rfl rfl
  clear_value x2
  exact .off (.bump (.setNum (.refl _ _) rfl) rfl) h1

theorem State.FaultPin.lockstepMismatch (s : State) : s.lockstepMismatch.FaultPin := .binnacleReset _

theorem State.FaultPin.binnacleUp (h : s.FaultPin) : s.binnacleUp.FaultPin := by
  unfold State.binnacleUp
  refine .ite h ?_
  extract_lets x1 x2
  cases hx : x1 <;> simp [State.FaultPin]

theorem State.FaultPin.faultAck (h : s.FaultPin) : s.faultAck.FaultPin := by
  unfold State.faultAck
  extract_lets x1 x2
  have h1 : x1.FaultPin := .off (.setNum (.refl _ _) rfl) h
  clear_value x1
  exact .ite h1 (by simp [State.FaultPin])

theorem State.FaultPin.violate {w cause a} (h : s.FaultPin) : (s.violate w cause a).2.FaultPin := by
  unfold State.violate
  extract_lets x1 x2
  have h1 : x1.FaultPin := .off (.bump (.refl _ _) rfl) h
  clear_value x1
  exact .detect h1

theorem State.FaultPin.uncorrectable {scrub part queue tag cause a} (h : s.FaultPin) : (s.uncorrectable scrub part
    queue tag cause a).2.FaultPin := by
  unfold State.uncorrectable
  extract_lets x1 x2 x3 x4
  have h1 : x1.FaultPin := .off (.countUe (.refl _ _) rfl) h
  clear_value x1
  exact .ite_of Prod.snd h1 (.detect h1)

theorem State.FaultPin.uncorrectables {part queue tag cause a} {a5 : State} (h : a5.FaultPin) : (State.uncorrectables
    part queue tag cause a a5).2.FaultPin := by
  induction a generalizing part queue tag cause a5
  · unfold State.uncorrectables
    exact h
  · rename_i i2
    unfold State.uncorrectables
    split
    rename_i y3 y4
    have h1 : y3.FaultPin := .of_eq Prod.snd y4 (.uncorrectable h)
    exact i2 h1

theorem State.FaultPin.report {w a k3} (h : s.FaultPin) : (s.report w a k3).2.FaultPin := by
  unfold State.report
  extract_lets x1
  have h1 : x1.FaultPin := .off (.correct (.refl _ _) rfl) h
  clear_value x1
  refine .ite_of Prod.snd ?_ ?_
  · split
    rename_i y3 y4
    have h2 : y3.FaultPin := .of_eq Prod.snd y4 (.violate h1)
    exact h2
  · refine .ite_of Prod.snd h1 ?_
    split
    rename_i y7 y8
    have h3 : y7.FaultPin := .of_eq Prod.snd y8 (.uncorrectables h1)
    exact h3

theorem State.FaultPin.reportIngest {w a k3} (h : s.FaultPin) : (s.reportIngest w a k3).2.FaultPin := by
  unfold State.reportIngest
  extract_lets x1
  have h1 : x1.FaultPin := .off (.correct (.refl _ _) rfl) h
  clear_value x1
  exact .ite_of Prod.snd (.violate h1) (.uncorrectables h1)

theorem State.FaultPin.ingestWrite {k1 a bs} (h : s.FaultPin) : (s.ingestWrite k1 a bs).2.FaultPin := by
  unfold State.ingestWrite
  refine .ite_of Prod.snd h ?_
  extract_lets x1 x2
  have h1 : x1.FaultPin := .off (.countSlotBytes (.refl _ _) rfl) h
  clear_value x1
  split
  rename_i y2 _ y4
  have h2 : y2.FaultPin := .of_eq Prod.fst y4 (.off (.store (.refl _ _) rfl) h1)
  exact .reportIngest h2

theorem State.FaultPin.ingestWrites {k1 pieces} (h : s.FaultPin) : (State.ingestWrites s k1 pieces).2.FaultPin := by
  unfold State.ingestWrites
  refine .foldl_of Prod.snd h (fun s1 x1 h1 => ?_)
  split
  rename_i y3 y4
  have h2 : y3.FaultPin := .of_eq Prod.snd y4 (.ingestWrite h1)
  exact h2

end Sys2Proof.Machine

/-! PROOFS about FAULT_N and SAFETY_STATE (towards O42): what shaping and ingest keep. -/

namespace Sys2Proof.Machine

variable {s : State}

theorem State.FaultPin.writeShaped {ctx g f} (h : s.FaultPin) : (s.writeShaped ctx g f).FaultPin := by
  unfold State.writeShaped
  extract_lets x1
  split
  rename_i y3 y4
  have h1 : y3.FaultPin := .of_eq Prod.snd y4 (.off (.takeFree (.refl _ _) rfl) h)
  split
  rename_i y7 y8
  have h2 : y7.FaultPin := .of_eq Prod.snd y8 (.off (.takeFreeBytes (.refl _ _) rfl) h1)
  extract_lets x2
  split
  rename_i y11 y12
  have h5 : y11.FaultPin := by
    refine .of_eq Prod.snd y12 ?_
    refine .ite_of Prod.snd h2 ?_
    refine .foldl_of Prod.snd h2 (fun s1 x3 h3 => ?_)
    split
    rename_i y15 y16
    have h4 : y15.FaultPin := .of_eq Prod.snd y16 (.off (.takeFreeBytes (.refl _ _) rfl) h3)
    exact h4
  extract_lets x4
  split
  rename_i y19 y20
  have h6 : y19.FaultPin := .of_eq Prod.snd y20 (.ingestWrites h5)
  extract_lets x5 x6
  split
  rename_i y23 y24
  have h7 : y23.FaultPin := .of_eq Prod.snd y24 (.ingestWrites h6)
  extract_lets x7 x8
  have h8 : x8.FaultPin := .ingestWrite h7
  clear_value x8
  exact .ite (.off (.bump (.refl _ _) rfl) h8) (.ite h8 (.off (.bump (.refl _ _) rfl) h8))

theorem State.FaultPin.startShaping {c buffer f torn} (h : s.FaultPin) : (s.startShaping c buffer f torn).FaultPin :=
    by
  unfold State.startShaping
  extract_lets x1 x2 x3 x4 x5
  split
  rename_i y3 y4
  have h5 : y3.FaultPin := by
    refine .of_eq Prod.snd y4 ?_
    refine .ite_of Prod.snd h ?_
    split
    split
    rename_i y11 y12
    have h1 : y11.FaultPin := .of_eq Prod.snd y12 (.reportIngest h)
    extract_lets x6 x7 x8
    split
    split
    rename_i y19 y20
    have h2 : y19.FaultPin := .of_eq Prod.snd y20 (.ite_of Prod.snd h1 (.reportIngest h1))
    split
    split
    rename_i y27 y28
    have h3 : y27.FaultPin := .of_eq Prod.snd y28 (.reportIngest h2)
    extract_lets x9 x10
    have h4 : x10.FaultPin := .off (.bump (.refl _ _) rfl) h3
    clear_value x10
    refine .ite_of Prod.snd h3 ?_
    split
    · exact h4
    · exact h4
  extract_lets x11 x12
  have h6 : x12.FaultPin := .off (.bumpBy (.refl _ _) rfl) h5
  clear_value x12
  exact .off (.setCtx (.refl _ _) rfl) h6

theorem State.FaultPin.beginFrame {k1 fill t torn} (h : s.FaultPin) : (s.beginFrame k1 fill t torn).FaultPin := by
  unfold State.beginFrame
  extract_lets x1 x2 x3 x4 x5 x6 x7
  split
  extract_lets x8 x9 x10
  split
  rename_i y9 y10
  have h1 : y9.FaultPin := .of_eq Prod.snd y10 (.off (.takeBuffer (.refl _ _) rfl) h)
  extract_lets x11 x12
  have h2 : x12.FaultPin := .off (.setSlot (.refl _ _) rfl) h1
  clear_value x12
  split
  · exact .off (.accountDrop (.refl _ _) rfl) h2
  · extract_lets x13
    have h3 : x13.FaultPin := .off (.setBuffer (.refl _ _) rfl) h2
    clear_value x13
    split
    · exact .ite (.startShaping h3) h3
    · exact h3

theorem State.FaultPin.completeFrame {k1 i fl} (h : s.FaultPin) : (s.completeFrame k1 i fl).FaultPin := by
  unfold State.completeFrame
  extract_lets x1 x2 x3
  split
  rename_i y3 y4
  have h1 : y3.FaultPin := .of_eq Prod.snd y4 (.ingestWrites h)
  extract_lets x4 x5 x6
  split
  rename_i y7 y8
  have h2 : y7.FaultPin := .of_eq Prod.snd y8 (.ingestWrite h1)
  extract_lets x7 x8 x9
  have h3 : x7.FaultPin := .off (.setSlot (.refl _ _) rfl) h2
  clear_value x7
  have h4 : x8.FaultPin := .off (.setSlot (.refl _ _) rfl) h3
  clear_value x8
  have h5 : x9.FaultPin := .off (.setBuffer (.refl _ _) rfl) h4
  clear_value x9
  refine .ite (.off (.freeBuffer (.accountDrop (.refl _ _) rfl) rfl) h3) ?_
  split
  · rename_i y10 y11
    have h6 : y10.FaultPin := .off (State.SoundO.of y11 (.shapeEnded (.refl _ _) rfl)) h5
    exact h6
  · exact .off (.deliver (.refl _ _) rfl) h5

theorem State.FaultPin.endFrame {k1 t truncated} (h : s.FaultPin) : (s.endFrame k1 t truncated).FaultPin := by
  unfold State.endFrame
  split
  · exact h
  · extract_lets x1 x2 x3 x4 x5 x6 x7 x8
    have h1 : x5.FaultPin := .ite (.off (.bump (.refl _ _) rfl) h) h
    clear_value x5
    have h2 : x6.FaultPin := .ite (.off (.bump (.refl _ _) rfl) h1) h1
    clear_value x6
    have h3 : x7.FaultPin := by
      unfold x7
      split
      · exact .completeFrame h2
      · exact .off (.setSlot (.refl _ _) rfl) h2
    clear_value x7
    exact .ite (.off (.setSlot (.refl _ _) rfl) h3) h3

theorem State.FaultPin.stopSlot {k1 t} (h : s.FaultPin) : (s.stopSlot k1 t).FaultPin := by
  unfold State.stopSlot
  exact .off (.setSlot (.refl _ _) rfl) (.endFrame h)

theorem State.FaultPin.endTickFrames {t} (h : s.FaultPin) : (s.endTickFrames t).FaultPin := by
  unfold State.endTickFrames
  refine .foldl h (fun s1 x1 h1 => ?_)
  split
  · exact h1
  · exact .ite h1 (.endFrame h1)

theorem State.FaultPin.startCamera {k1 fill t torn bad} (h : s.FaultPin) : (State.startCamera s k1 fill t torn
    bad).FaultPin := by
  unfold State.startCamera
  extract_lets x1
  have h1 : x1.FaultPin := .endFrame h
  clear_value x1
  exact .off (.linkError (.refl _ _) rfl) (.beginFrame h1)

theorem State.FaultPin.frameStartPacket {r vc ecc fill t torn} (h : s.FaultPin) : (State.frameStartPacket s r vc ecc
    fill t torn).FaultPin := by
  unfold State.frameStartPacket
  extract_lets x1
  have h1 : x1.FaultPin := .off (.notePacket (.refl _ _) rfl) h
  clear_value x1
  split
  · exact .off (.bump (.refl _ _) rfl) h1
  · exact .foldl h1 (fun s1 x2 h2 => .startCamera h2)

theorem State.FaultPin.of_doFrameStart {t src fill torn} (h : s.FaultPin) : (doFrameStart t src fill torn s).FaultPin
    := by
  unfold doFrameStart
  extract_lets x1
  have h1 : x1.FaultPin := .off (.advance (.refl _ _) rfl) h
  clear_value x1
  split
  · exact .ite (.frameStartPacket h1) h1
  · exact .ite h1 (.beginFrame h1)

theorem State.FaultPin.endCamera {k1 t bad} (h : s.FaultPin) : (s.endCamera k1 t bad).FaultPin := by
  unfold State.endCamera
  exact .endFrame (.off (.linkError (.refl _ _) rfl) h)

theorem State.FaultPin.frameEndPacket {r vc ecc t} (h : s.FaultPin) : (s.frameEndPacket r vc ecc t).FaultPin := by
  unfold State.frameEndPacket
  extract_lets x1
  have h1 : x1.FaultPin := .off (.notePacket (.refl _ _) rfl) h
  clear_value x1
  split
  · exact .off (.bump (.refl _ _) rfl) h1
  · exact .foldl h1 (fun s1 x2 h2 => .endCamera h2)

theorem State.FaultPin.of_doFrameEnd {t recv vc ecc} (h : s.FaultPin) : (doFrameEnd t recv vc ecc s).FaultPin := by
  unfold doFrameEnd
  extract_lets x1
  have h1 : x1.FaultPin := .off (.advance (.refl _ _) rfl) h
  clear_value x1
  exact .ite (.frameEndPacket h1) h1

theorem State.FaultPin.of_doFrameTimeout {slot} (h : s.FaultPin) : (doFrameTimeout slot s).FaultPin := by
  unfold doFrameTimeout
  extract_lets x1 x2
  split
  · exact h
  · refine .ite h ?_
    refine .ite (.endFrame (.off (.advance (.refl _ _) rfl) h)) ?_
    refine .ite (.endFrame (.off (.advance (.refl _ _) rfl) h)) ?_
    exact h

theorem State.FaultPin.addLine {k1 fl samples bad t} (h : s.FaultPin) : (s.addLine k1 fl samples bad t).FaultPin := by
  unfold State.addLine
  extract_lets x1 x2 x3 x4 x5 x6 x7 x8 x9
  have h1 : x9.FaultPin := .off (.setSlot (.refl _ _) rfl) h
  clear_value x9
  refine .ite (.off (.setSlot (.refl _ _) rfl) h) ?_
  split
  · exact h1
  · split
    rename_i y8 y9
    have h2 : y8.FaultPin := .of_eq Prod.snd y9 (.ingestWrite h1)
    exact .ite (.off (.dropFilling (.refl _ _) rfl) h2) (.off (.shapeLine (.refl _ _) rfl) h2)

theorem State.FaultPin.of_doCsiPacket {p} (h : s.FaultPin) : (doCsiPacket p s).FaultPin := by
  unfold doCsiPacket
  extract_lets x1 x2 x3
  have h1 : x1.FaultPin := .off (.advance (.refl _ _) rfl) h
  clear_value x1
  have h2 : x3.FaultPin := .off (.notePacket (.refl _ _) rfl) h1
  clear_value x3
  refine .ite h1 ?_
  refine .ite h2 ?_
  split
  · exact .off (.bump (.refl _ _) rfl) h2
  · split
    · exact h2
    · exact .addLine h2

theorem State.FaultPin.addBytes {k1 bs t} (h : s.FaultPin) : (s.addBytes k1 bs t).FaultPin := by
  unfold State.addBytes
  split
  · exact h
  · extract_lets x1 x2 x3 x4 x5 x6
    have h1 : x6.FaultPin := .off (.setSlot (.refl _ _) rfl) h
    clear_value x6
    split
    · exact h1
    · split
      rename_i y13 y14
      have h2 : y13.FaultPin := .of_eq Prod.snd y14 (.ingestWrite h1)
      exact .ite (.off (.dropFilling (.refl _ _) rfl) h2) h2

theorem State.FaultPin.openCloud {k1 fill t stored} (h : s.FaultPin) : (s.openCloud k1 fill t stored).FaultPin := by
  unfold State.openCloud
  extract_lets x1 x2 x3 x4 x5
  have h1 : x5.FaultPin := .ite h (.beginFrame (.endFrame h))
  clear_value x5
  exact .ite (.ite h (.beginFrame h)) (.ite h (.off (.setSlot (.refl _ _) rfl) h1))

theorem State.FaultPin.of_doEthernetFrame {f} (h : s.FaultPin) : (doEthernetFrame f s).FaultPin := by
  unfold doEthernetFrame
  extract_lets x1 x2
  have h1 : x1.FaultPin := .off (.advance (.refl _ _) rfl) h
  clear_value x1
  refine .ite h1 ?_
  refine .ite (.off (.bump (.refl _ _) rfl) h1) ?_
  refine .ite h1 ?_
  split
  · exact .off (.bump (.refl _ _) rfl) h1
  · extract_lets x3
    exact .addBytes (.openCloud h1)

theorem State.FaultPin.of_doAudioWordClockEdge {t tdm unit samples fill} (h : s.FaultPin) : (doAudioWordClockEdge t
    tdm unit samples fill s).FaultPin := by
  unfold doAudioWordClockEdge
  extract_lets x1
  have h1 : x1.FaultPin := .off (.advance (.refl _ _) rfl) h
  clear_value x1
  refine .ite h1 ?_
  refine .foldl h1 (fun s1 x2 h2 => ?_)
  extract_lets x3 x4
  have h3 : x4.FaultPin := .ite h2 (.beginFrame h2)
  clear_value x4
  exact .ite h2 (.addBytes h3)

theorem State.FaultPin.writeStats {k1} (h : s.FaultPin) : (s.writeStats k1).FaultPin := by
  unfold State.writeStats
  split
  · exact h
  · extract_lets x1 x2 x3 x4 x5
    have h1 : x1.FaultPin := .off (.setSlot (.refl _ _) rfl) h
    clear_value x1
    split
    rename_i y9 y10
    have h3 : y9.FaultPin := by
      refine .of_eq Prod.snd y10 ?_
      refine .ite_of Prod.snd ?_ (.off (.takeFreeBytes (.refl _ _) rfl) h1)
      split
      split
      rename_i y17 y18
      have h2 : y17.FaultPin := .of_eq Prod.snd y18 (.off (.takeFree (.refl _ _) rfl) h1)
      exact h2
    extract_lets x6 x7
    exact .ingestWrite h3

theorem State.FaultPin.of_doStatisticsRecord {t slot} (h : s.FaultPin) : (doStatisticsRecord t slot s).FaultPin := by
  unfold doStatisticsRecord
  extract_lets x1
  have h1 : x1.FaultPin := .off (.advance (.refl _ _) rfl) h
  clear_value x1
  exact .ite (.writeStats h1) h1

theorem State.FaultPin.finishShaping {c} (h : s.FaultPin) : (s.finishShaping c).FaultPin := by
  unfold State.finishShaping
  split
  · exact h
  · extract_lets x1 x2
    have h1 : x1.FaultPin := .off (.setCtx (.refl _ _) rfl) h
    clear_value x1
    split
    · exact h1
    · exact .ite h1 (.off (.deliver (.refl _ _) rfl) (.writeShaped h1))

theorem State.FaultPin.of_doShapedHeader {t ctx} (h : s.FaultPin) : (doShapedHeader t ctx s).FaultPin := by
  unfold doShapedHeader
  extract_lets x1
  have h1 : x1.FaultPin := .off (.advance (.refl _ _) rfl) h
  clear_value x1
  exact .ite (.finishShaping h1) h1

theorem State.FaultPin.newSettings {k1 torn} (h : s.FaultPin) : (s.newSettings k1 torn).2.FaultPin := by
  unfold State.newSettings
  extract_lets x1 x2 x3 x4
  refine .ite_of Prod.snd (.ite_of Prod.snd (.off (.setSlot (.refl _ _) rfl) h) h) ?_
  split
  split
  rename_i y7 y8
  have h1 : y7.FaultPin := .of_eq Prod.snd y8 (.reportIngest h)
  extract_lets x5
  refine .ite_of Prod.snd h1 ?_
  split
  split
  rename_i y15 y16
  have h2 : y15.FaultPin := .of_eq Prod.snd y16 (.reportIngest h1)
  exact .ite_of Prod.snd h2 h2

theorem State.FaultPin.queueCommit {k1 windowEnd torn} (h : s.FaultPin) : (s.queueCommit k1 windowEnd torn).FaultPin
    := by
  unfold State.queueCommit
  split
  · rename_i y2 y3
    have h1 : y2.FaultPin := .of_eq Prod.snd y3 (.newSettings h)
    exact h1
  · rename_i y7 y8
    have h2 : y7.FaultPin := .of_eq Prod.snd y8 (.newSettings h)
    extract_lets x1 x2 x3 x4
    have h3 : x4.FaultPin := .off (.setCommits (.refl _ _) rfl) h2
    clear_value x4
    exact .ite (.off (.nextSetting (.refl _ _) rfl) h3) h3

theorem State.FaultPin.of_doCommitWindowOpen {torn} (h : s.FaultPin) : (doCommitWindowOpen torn s).FaultPin := by
  unfold doCommitWindowOpen
  extract_lets x1 x2 x3 x4 x5
  have h1 : x2.FaultPin := .off (.advance (.refl _ _) rfl) h
  clear_value x2
  have h2 : x4.FaultPin := h1
  clear_value x4
  exact .ite h (.foldl h2 (fun s1 x6 h3 => .ite (.queueCommit h3) h3))

theorem State.FaultPin.writeFusion {f} (h : s.FaultPin) : (s.writeFusion f).FaultPin := by
  unfold State.writeFusion
  split
  · exact h
  · refine .ite h ?_
    split
    rename_i y9 y10
    have h1 : y9.FaultPin := .of_eq Prod.snd y10 (.off (.takeFreeBytes (.refl _ _) rfl) h)
    extract_lets x1 x2 x3
    have h3 : x3.FaultPin := by
      unfold x3
      split
      · refine .ite ?_ h1
        split
        rename_i y14 _ y16
        have h2 : y14.FaultPin := .of_eq Prod.fst y16 (.off (.rawStore (.refl _ _) rfl) h1)
        exact .reportIngest h2
      · exact .ingestWrite h1
    clear_value x3
    exact .off (.setFusion (.refl _ _) rfl) h3

end Sys2Proof.Machine

/-! PROOFS about FAULT_N and SAFETY_STATE (towards O42): what jobs and the dispatcher keep. -/

namespace Sys2Proof.Machine

variable {s : State}

theorem State.FaultPin.endItemAt {q seq status cause ref detail tick offset} (h : s.FaultPin) : (s.endItemAt q seq
    status cause ref detail tick offset).FaultPin := by
  unfold State.endItemAt
  split
  · exact h
  · split
    · exact .ite (.off (.setJob (.refl _ _) rfl) h) h
    · extract_lets x1 x2 x3 x4 x5 x6 x7 x8
      have h1 : x4.FaultPin := .ite (.off (.clearFault (.refl _ _) rfl) h) h
      clear_value x4
      have h2 : x5.FaultPin := .off (.vacateArrays (.refl _ _) rfl) h1
      clear_value x5
      have h3 : x6.FaultPin := .off (.setJob (.refl _ _) rfl) h2
      clear_value x6
      have h4 : x7.FaultPin := .off (.bump (.countOutcome (.refl _ _) rfl) rfl) h3
      clear_value x7
      exact .ite h4 h4

theorem State.FaultPin.endItem {q seq status cause ref detail} (h : s.FaultPin) : (s.endItem q seq status cause ref
    detail).FaultPin := by
  unfold State.endItem
  exact .endItemAt h

theorem State.FaultPin.endAtMeridian {q seq status cause detail} (h : s.FaultPin) : (s.endAtMeridian q seq status
    cause detail).FaultPin := by
  unfold State.endAtMeridian
  extract_lets x1
  exact .endItemAt h

theorem State.FaultPin.endQueue {q status cause} (h : s.FaultPin) : (s.endQueue q status cause).FaultPin := by
  unfold State.endQueue
  exact .foldl h (fun s1 x1 h1 => .endItem h1)

theorem State.FaultPin.jobFault {q j cls mechanism unit kind cause detail localise} (h : s.FaultPin) : (s.jobFault q
    j cls mechanism unit kind cause detail localise).2.FaultPin := by
  unfold State.jobFault
  exact .detect h

theorem State.FaultPin.amendItem {q seq} (h : s.FaultPin) : (s.amendItem q seq).FaultPin := by
  unfold State.amendItem
  split
  · exact h
  · split
    · exact h
    · refine .ite h ?_
      extract_lets x1 x2 x3 x4
      have h1 : x2.FaultPin := .off (.countOutcome (.uncountOutcome (.refl _ _) rfl) rfl) h
      clear_value x2
      have h2 : x3.FaultPin := .off (.setJob (.refl _ _) rfl) h1
      clear_value x3
      exact .ite h2 h2

theorem State.FaultPin.sweepRecord {q seq} (h : s.FaultPin) : (s.sweepRecord q seq).FaultPin := by
  unfold State.sweepRecord
  exact .ite h (.ite (.amendItem h) (.off (.sweep (.refl _ _) rfl) h))

theorem State.FaultPin.putStanding {q j e} (h : s.FaultPin) : (s.putStanding q j e).FaultPin := by
  unfold State.putStanding
  extract_lets x1 x2
  split
  rename_i y2 _ y4
  have h1 : y2.FaultPin := .of_eq Prod.fst y4 (.off (.store (.chargeAccess (.refl _ _) rfl) rfl) h)
  exact .report h1

theorem State.FaultPin.putRecord {q} (h : s.FaultPin) : (s.putRecord q).2.FaultPin := by
  unfold State.putRecord
  split
  · exact h
  · refine .ite_of Prod.snd h ?_
    extract_lets x1 x2 x3 x4 x5
    have h1 : x1.FaultPin := .ite h (.sweepRecord h)
    clear_value x1
    have h2 : x3.FaultPin := .off (.setQueue (.refl _ _) rfl) h1
    clear_value x3
    split
    · exact h1
    · exact .ite_of Prod.snd (.putStanding h2) (.off (.emit (.refl _ _) rfl) h2)

theorem State.FaultPin.writeRecord {q} (h : s.FaultPin) : (s.writeRecord q).FaultPin := by
  unfold State.writeRecord
  split
  · rename_i y1 y2 y3
    have h1 : y2.FaultPin := .of_eq Prod.snd y3 (.putRecord h)
    exact .off (.sendVector (.refl _ _) rfl) h1
  · rename_i y2 y3
    have h1 : y2.FaultPin := .of_eq Prod.snd y3 (.putRecord h)
    exact h1

theorem State.FaultPin.guardReads {q j a a4} (h : s.FaultPin) : (s.guardReads q j a a4).state.FaultPin := by
  induction a generalizing s q j a4
  · unfold State.guardReads
    exact h
  · rename_i i2
    unfold State.guardReads
    extract_lets x1 x2
    refine .ite_of GuardRun.state h ?_
    split
    · rename_i y2 y3
      have h1 : y2.FaultPin := .of_eq Prod.snd y3 (.report (.off (.chargeAccess (.refl _ _) rfl) h))
      exact i2 h1
    · rename_i y6 y7
      have h2 : y6.FaultPin := .of_eq Prod.snd y7 (.report (.off (.chargeAccess (.refl _ _) rfl) h))
      exact h2

theorem State.FaultPin.of_guardChecks {q j a} {a3 : GuardRun} (h : a3.state.FaultPin) : (guardChecks q j a
    a3).state.FaultPin := by
  induction a generalizing q j a3
  · unfold guardChecks
    exact h
  · rename_i i2
    unfold guardChecks
    extract_lets x1
    have h1 : x1.state.FaultPin := .guardReads h
    clear_value x1
    refine .ite_of GuardRun.state h1 ?_
    refine .ite_of GuardRun.state (i2 h1) ?_
    split
    rename_i y3 y4
    have h2 : y3.FaultPin := .of_eq Prod.snd y4 (.jobFault h1)
    exact h2

theorem State.FaultPin.of_guardMembers {q j a} {a3 : GuardRun} (h : a3.state.FaultPin) : (guardMembers q j a
    a3).state.FaultPin := by
  induction a generalizing q j a3
  · unfold guardMembers
    exact h
  · rename_i i2
    unfold guardMembers
    extract_lets x1 x2 x3 x4 x5 x6
    have h1 : x1.FaultPin := h
    clear_value x1
    have h2 : x5.FaultPin := .off (.setQueue (.refl _ _) rfl) h1
    clear_value x5
    have h3 : x6.state.FaultPin := .of_guardChecks h2
    clear_value x6
    exact .ite_of GuardRun.state h3 (i2 h3)

theorem State.FaultPin.guardStep {q j} (h : s.FaultPin) : (s.guardStep q j).state.FaultPin := by
  unfold State.guardStep
  extract_lets x1
  have h1 : x1.state.FaultPin := h
  clear_value x1
  split
  · exact h1
  · exact .of_guardMembers h1

theorem State.FaultPin.noteHead {q} (h : s.FaultPin) : (s.noteHead q).FaultPin := by
  unfold State.noteHead
  split
  · exact h
  · extract_lets x1 x2
    refine .ite h ?_
    refine .ite (.endItem (.off (.bump (.missAlmanac (.refl _ _) rfl) rfl) h)) ?_
    exact .off (.setJob (.refl _ _) rfl) h

theorem State.FaultPin.noteQueue {k i} (h : s.FaultPin) : (State.noteQueue k i s).FaultPin := by
  induction k generalizing s with
  | zero => exact h
  | succ k ih => exact ih (.noteHead h)

theorem State.FaultPin.noteReady (h : s.FaultPin) : s.noteReady.FaultPin := by
  unfold State.noteReady
  exact .foldl h (fun s1 x1 h1 => .noteQueue h1)

theorem State.FaultPin.carryOut {p} (h : s.FaultPin) : (s.carryOut p).2.FaultPin := by
  unfold State.carryOut
  split
  · exact h
  · exact h
  · exact .ite_of Prod.snd h (.off (.startJob (.refl _ _) rfl) h)

theorem State.FaultPin.dispatchOne {a} (h : s.FaultPin) : (s.dispatchOne a).2.FaultPin := by
  unfold State.dispatchOne
  extract_lets x1 x2 x3
  refine .ite_of Prod.snd h ?_
  split
  · exact .ite_of Prod.snd (.carryOut h) (.ite_of Prod.snd (.carryOut h) (.carryOut h))
  · extract_lets x4
    refine .ite_of Prod.snd h ?_
    refine .ite_of Prod.snd (.off (.requestStop (.refl _ _) rfl) h) ?_
    refine .ite_of Prod.snd h ?_
    refine .ite_of Prod.snd (.off (.requestStop (.refl _ _) rfl) h) ?_
    exact h

theorem State.FaultPin.dispatchRound (h : s.FaultPin) : (s.dispatchRound).2.FaultPin := by
  unfold State.dispatchRound
  have h1 : s.noteReady.FaultPin := .noteReady h
  refine .foldl_of Prod.snd (.snd h1) (fun s1 x1 h2 => ?_)
  split
  rename_i y4
  exact .snd (.of_eq Prod.snd y4 (.dispatchOne h2))

theorem State.FaultPin.dispatchLoop {k} (h : s.FaultPin) : (State.dispatchLoop k s).FaultPin := by
  induction k generalizing s with
  | zero => exact h
  | succ k ih =>
    unfold State.dispatchLoop
    extract_lets x1
    have h1 : x1.2.FaultPin := .dispatchRound h
    clear_value x1
    exact .ite (ih h1) h1

theorem State.FaultPin.dispatch (h : s.FaultPin) : s.dispatch.FaultPin := by
  unfold State.dispatch
  exact .dispatchLoop h

theorem State.FaultPin.finishGuard {q j} (h : s.FaultPin) : (s.finishGuard q j).FaultPin := by
  unfold State.finishGuard
  extract_lets x1 x2
  have h1 : x1.state.FaultPin := .guardStep h
  clear_value x1
  have h2 : x2.FaultPin := .off (.setJob (.refl _ _) rfl) h1
  clear_value x2
  split
  · exact h2
  · exact .endItem h2

theorem State.FaultPin.settleGuards {t a} {a2 : State} (h : a2.FaultPin) : (State.settleGuards t a a2).FaultPin := by
  induction a generalizing t a2
  · unfold State.settleGuards
    exact h
  · rename_i i1
    unfold State.settleGuards
    split
    · exact h
    · refine .ite h ?_
      extract_lets x1
      have h1 : x1.FaultPin := .off (.chargeAll (.advance (.refl _ _) rfl) rfl) h
      clear_value x1
      exact i1 (.dispatch (.finishGuard h1))

theorem State.FaultPin.advanceCharged {t} (h : s.FaultPin) : (s.advanceCharged t).FaultPin := by
  unfold State.advanceCharged
  exact .off (.chargeAll (.advance (.refl _ _) rfl) rfl) (.settleGuards h)

theorem State.FaultPin.imageBytes {q j k} (h : s.FaultPin) : (s.imageBytes q j k).2.FaultPin := by
  unfold State.imageBytes
  extract_lets x1
  split
  split
  rename_i y7 y8
  have h1 : y7.FaultPin := .of_eq Prod.snd y8 (.reportIngest (.off (.chargeAccess (.refl _ _) rfl) h))
  exact h1

theorem State.FaultPin.readImage {q j} (h : s.FaultPin) : (s.readImage q j).2.FaultPin := by
  unfold State.readImage
  refine .ite_of Prod.snd h ?_
  split
  · rename_i y2 y3
    have h1 : y2.FaultPin := .of_eq Prod.snd y3 (.imageBytes h)
    exact h1
  · rename_i y6 y7
    have h2 : y6.FaultPin := .of_eq Prod.snd y7 (.imageBytes h)
    split
    · exact h2
    · split
      rename_i y15 y16
      have h3 : y15.FaultPin := .of_eq Prod.snd y16 (.imageBytes h2)
      exact h3

theorem State.FaultPin.admitJob {q x body j} (h : s.FaultPin) : (s.admitJob q x body j).2.2.FaultPin := by
  unfold State.admitJob
  split
  rename_i y3 y4
  have h1 : y3.FaultPin := .of_eq Prod.snd y4 (.ite_of Prod.snd (.readImage h) h)
  split
  · exact h1
  · extract_lets x1 x2 x3 x4
    refine .ite_of (Prod.snd ∘ Prod.snd) h1 ?_
    refine .ite_of (Prod.snd ∘ Prod.snd) h1 ?_
    refine .ite_of (Prod.snd ∘ Prod.snd) (.off (.bump (.missAlmanac (.refl _ _) rfl) rfl) h1) ?_
    split
    · exact h1
    · exact .ite (.off (.bump (.refl _ _) rfl) h1) h1

theorem State.FaultPin.submit {q x body} (h : s.FaultPin) : (s.submit q x body).FaultPin := by
  unfold State.submit
  extract_lets x1 x2 x3 x4
  have h1 : x3.FaultPin := .off (.setQueue (.refl _ _) rfl) h
  clear_value x3
  split
  rename_i y4 y5
  have h2 : y4.FaultPin := .of_eq (Prod.snd ∘ Prod.snd) y5 (.ite_of (Prod.snd ∘ Prod.snd) h1 (.ite_of (Prod.snd ∘
      Prod.snd) (.admitJob h1) h1))
  extract_lets x5
  have h3 : x5.FaultPin := .off (.setQueue (.refl _ _) rfl) h2
  clear_value x5
  split
  · exact h3
  · exact .endItem h3

theorem State.FaultPin.fetch {q d body} (h : s.FaultPin) : (s.fetch q d body).FaultPin := by
  unfold State.fetch
  refine .ite h ?_
  extract_lets x1 x2 x3 x4
  have h1 : x3.FaultPin := .off (.emit (.refl _ _) rfl) h
  clear_value x3
  have h2 : x4.FaultPin := .off (.setQueue (.refl _ _) rfl) h1
  clear_value x4
  exact .submit h2

theorem State.FaultPin.submitStanding {q k2} (h : s.FaultPin) : (s.submitStanding q k2).FaultPin := by
  unfold State.submitStanding
  extract_lets x1 x2 x3
  exact .submit h

theorem State.FaultPin.gwMet {q j a k4} (h : s.FaultPin) : (s.gwMet q j a k4).state.FaultPin := by
  unfold State.gwMet
  split
  · rename_i y2 y3
    have h1 : y2.FaultPin := .of_eq Prod.snd y3 (.report h)
    exact h1
  · rename_i y7 y8
    have h2 : y7.FaultPin := .of_eq Prod.snd y8 (.report h)
    exact .endItem h2

theorem State.FaultPin.gwClosed {q j} (h : s.FaultPin) : (s.gwClosed q j).state.FaultPin := by
  unfold State.gwClosed
  exact .endItem h

theorem State.FaultPin.gwRead {e q j a k} (h : s.FaultPin) : ((s.gwRead e q j a k).2.state).FaultPin := by
  unfold State.gwRead
  refine .ite_of (Gw.state ∘ Prod.snd) (.gwClosed h) ?_
  split
  exact .gwMet (.off (.chargeAccess (.refl _ _) rfl) h)

theorem State.FaultPin.gwWrite {e q j a b} (h : s.FaultPin) : (s.gwWrite e q j a b).state.FaultPin := by
  unfold State.gwWrite
  refine .ite_of Gw.state (.gwClosed h) ?_
  split
  rename_i y2 _ y4
  have h1 : y2.FaultPin := .of_eq Prod.fst y4 (.off (.store (.chargeAccess (.refl _ _) rfl) rfl) h)
  exact .gwMet h1

theorem State.FaultPin.of_doJob {t q desc body} (h : s.FaultPin) : (doJob t q desc body s).FaultPin := by
  unfold doJob
  exact .dispatch (.fetch (.advanceCharged h))

theorem State.FaultPin.of_doSlotBoundary {t} (h : s.FaultPin) : (doSlotBoundary t s).FaultPin := by
  unfold doSlotBoundary
  exact .dispatch (.advanceCharged h)

theorem State.FaultPin.of_doShareExhausted {a} (h : s.FaultPin) : (doShareExhausted a s).FaultPin := by
  unfold doShareExhausted
  split
  · exact h
  · extract_lets x1
    exact .ite h (.dispatch (.advanceCharged h))

theorem State.FaultPin.missDeadline {q j} (h : s.FaultPin) : (s.missDeadline q j).FaultPin := by
  unfold State.missDeadline
  exact .dispatch (.endItem h)

theorem State.FaultPin.of_doWaypoint {t q} (h : s.FaultPin) : (doWaypoint t q s).FaultPin := by
  unfold doWaypoint
  extract_lets x1
  have h1 : x1.FaultPin := .advanceCharged h
  clear_value x1
  split
  · exact h1
  · exact .ite h1 (.ite (.missDeadline h1) (.off (.stopAtWaypoint (.refl _ _) rfl) h1))

theorem State.FaultPin.operandUe {a word} (h : s.FaultPin) : (s.operandUe a word).FaultPin := by
  unfold State.operandUe
  extract_lets x1 x2 x3
  have h1 : x1.FaultPin := .off (.bump (.refl _ _) rfl) h
  have h2 : x3.FaultPin := h1
  clear_value x3
  split
  · exact h2
  · split
    rename_i y7
    exact .endItem (.of_eq Prod.snd y7 (.jobFault h2))

theorem State.FaultPin.readStoreMet {a reads} (h : s.FaultPin) : (State.readStoreMet s a reads).state.FaultPin := by
  unfold State.readStoreMet
  extract_lets x1 x2 x3 x4 x5
  have h2 : x3.FaultPin := .foldl h (fun s1 x6 h1 => .off (.bump (.refl _ _) rfl) h1)
  clear_value x3
  have h3 : x5.FaultPin := h2
  clear_value x5
  exact .foldl h3 (fun s2 x7 h4 => .operandUe h4)

theorem State.FaultPin.saveContexts {q j a} (h : s.FaultPin) : (s.saveContexts q j a).state.FaultPin := by
  induction a generalizing s q j
  · unfold State.saveContexts
    exact h
  · rename_i i1
    unfold State.saveContexts
    extract_lets x1 x2 x3
    have h1 : x1.state.FaultPin := i1 h
    clear_value x1
    have h2 : x3.state.FaultPin := .readStoreMet h1
    clear_value x3
    exact .ite_of Gw.state h1 (.ite_of Gw.state h2 (.gwWrite h2))

theorem State.FaultPin.loadContexts {q j a} (h : s.FaultPin) : (s.loadContexts q j a).state.FaultPin := by
  induction a generalizing s q j
  · unfold State.loadContexts
    exact h
  · rename_i i1
    unfold State.loadContexts
    extract_lets x1 x2 x3
    have h1 : x1.state.FaultPin := i1 h
    clear_value x1
    have h2 : x3.2.state.FaultPin := .gwRead h1
    clear_value x3
    exact .ite_of Gw.state h1 (.ite_of Gw.state (.off (.writeStore (.refl _ _) rfl) h2) h2)

theorem State.FaultPin.park {q j f} (h : s.FaultPin) : (s.park q j f).FaultPin := by
  unfold State.park
  extract_lets x1 x2 x3
  have h1 : x1.FaultPin := .off (.bump (.refl _ _) rfl) h
  clear_value x1
  have h2 : x2.FaultPin := .off (.setJob (.refl _ _) rfl) h1
  clear_value x2
  have h3 : x3.FaultPin := .off (.setQueue (.refl _ _) rfl) h2
  clear_value x3
  exact .ite (.off (.setJob (.setQueue (.refl _ _) rfl) rfl) h1) (.ite (.endItem h3) h3)

theorem State.FaultPin.contextSaved {q j} (h : s.FaultPin) : (s.contextSaved q j).FaultPin := by
  unfold State.contextSaved
  extract_lets x1 x2
  have h1 : x1.state.FaultPin := .saveContexts h
  clear_value x1
  have h2 : x2.FaultPin := .off (.vacateArrays (.refl _ _) rfl) h1
  clear_value x2
  refine .ite h1 ?_
  split
  · exact .park h2
  · exact .off (.setJob (.refl _ _) rfl) h2

theorem State.FaultPin.of_doContextSaveDone {t q} (h : s.FaultPin) : (doContextSaveDone t q s).FaultPin := by
  unfold doContextSaveDone
  extract_lets x1
  have h1 : x1.FaultPin := .advanceCharged h
  clear_value x1
  split
  · exact h1
  · exact .ite h1 (.ite (.missDeadline h1) (.dispatch (.contextSaved h1)))

theorem State.FaultPin.contextRestored {q j} (h : s.FaultPin) : (s.contextRestored q j).FaultPin := by
  unfold State.contextRestored
  extract_lets x1
  have h1 : x1.state.FaultPin := .loadContexts h
  clear_value x1
  exact .ite h1 (.off (.setJob (.refl _ _) rfl) h1)

theorem State.FaultPin.of_doContextRestoreDone {t q} (h : s.FaultPin) : (doContextRestoreDone t q s).FaultPin := by
  unfold doContextRestoreDone
  extract_lets x1
  have h1 : x1.FaultPin := .advanceCharged h
  clear_value x1
  split
  · exact h1
  · exact .ite (.dispatch (.contextRestored h1)) h1

theorem State.FaultPin.of_doWaypointTimeout {q} (h : s.FaultPin) : (doWaypointTimeout q s).FaultPin := by
  unfold doWaypointTimeout
  split
  · exact h
  · refine .ite h ?_
    extract_lets x1 x2
    have h1 : x1.FaultPin := .advanceCharged h
    clear_value x1
    have h2 : x2.FaultPin := .off (.bump (.refl _ _) rfl) h1
    clear_value x2
    exact .ite (.missDeadline h2) (.dispatch (.endItem h2))

theorem State.FaultPin.of_doJobEnd {t q} (h : s.FaultPin) : (doJobEnd t q s).FaultPin := by
  unfold doJobEnd
  extract_lets x1
  have h1 : x1.FaultPin := .advanceCharged h
  clear_value x1
  split
  · exact h1
  · refine .ite h1 ?_
    refine .ite (.missDeadline h1) ?_
    split
    exact .dispatch (.endItem h1)

theorem State.FaultPin.of_doCompletionRecord {t q} (h : s.FaultPin) : (doCompletionRecord t q s).FaultPin := by
  unfold doCompletionRecord
  exact .writeRecord (.off (.advance (.refl _ _) rfl) h)

theorem State.FaultPin.endOverLimit {q j} (h : s.FaultPin) : (s.endOverLimit q j).FaultPin := by
  unfold State.endOverLimit
  exact .endAtMeridian h

theorem State.FaultPin.of_doCarryLimit {q} (h : s.FaultPin) : (doCarryLimit q s).FaultPin := by
  unfold doCarryLimit
  split
  · exact h
  · exact .dispatch (.endOverLimit h)

theorem State.FaultPin.of_doFusionRecord {t set} (h : s.FaultPin) : (doFusionRecord t set s).FaultPin := by
  unfold doFusionRecord
  extract_lets x1
  have h1 : x1.FaultPin := .advanceCharged h
  clear_value x1
  exact .ite (.dispatch (.writeFusion h1)) h1

theorem State.FaultPin.markJob {q} (h : s.FaultPin) : (s.markJob q).FaultPin := by
  unfold State.markJob
  split
  · exact h
  · refine .ite h ?_
    refine .ite ?_ (.off (.requestStop (.refl _ _) rfl) h)
    split
    · rename_i y6 y7
      have h1 : y6.FaultPin := .of_eq Prod.snd y7 (.jobFault h)
      exact .off (.setJob (.refl _ _) rfl) h1

theorem State.FaultPin.markWaiting {q} (h : s.FaultPin) : (s.markWaiting q).FaultPin := by
  unfold State.markWaiting
  split
  · exact h
  · exact .ite (.endItem h) h

theorem State.FaultPin.of_doHousekeepingMark (h : s.FaultPin) : (doHousekeepingMark s).FaultPin := by
  unfold doHousekeepingMark
  split
  · exact h
  · extract_lets x1 x2 x3 x4 x5
    have h1 : x1.FaultPin := .advanceCharged h
    clear_value x1
    have h2 : x3.FaultPin := h1
    clear_value x3
    have h3 : x4.FaultPin := .foldl h2 (fun s1 y1 k1 => .markJob k1)
    clear_value x4
    have h4 : x5.FaultPin := .ite (.foldl h3 (fun s1 y1 k1 => .markWaiting k1)) h3
    clear_value x5
    exact h4

theorem State.FaultPin.of_doCheckTile {t a} (h : s.FaultPin) : (doCheckTile t a s).FaultPin := by
  unfold doCheckTile
  extract_lets x1 x2 x3
  have h1 : x1.FaultPin := .advanceCharged h
  clear_value x1
  have h2 : x3.FaultPin := .off (.setArr (.refl _ _) rfl) h1
  clear_value x3
  exact .ite h1 (.off (.bump (.bump (.refl _ _) rfl) rfl) h2)

theorem State.FaultPin.of_doCheckTileResult {t a signatureOk mismatchSeen} (h : s.FaultPin) : (doCheckTileResult t a
    signatureOk mismatchSeen s).FaultPin := by
  unfold doCheckTileResult
  extract_lets x1 x2 x3 x4
  have h1 : x1.FaultPin := .advanceCharged h
  clear_value x1
  have h2 : x2.FaultPin := .off (.bump (.refl _ _) rfl) h1
  clear_value x2
  have h3 : x4.FaultPin := .raise h2
  clear_value x4
  exact .ite h1 (.ite (.dispatch (.off (.setArr (.refl _ _) rfl) h1)) (.off (.holdArray (.refl _ _) rfl) h3))

theorem State.FaultPin.of_doLocalisation {t a} (h : s.FaultPin) : (doLocalisation t a s).FaultPin := by
  unfold doLocalisation
  extract_lets x1 x2
  have h1 : x1.FaultPin := .advanceCharged h
  clear_value x1
  exact .ite h1 (.off (.bump (.setArr (.refl _ _) rfl) rfl) h1)

theorem State.FaultPin.of_doLocalisationVerdict {t a v} (h : s.FaultPin) : (doLocalisationVerdict t a v s).FaultPin
    := by
  unfold doLocalisationVerdict
  extract_lets x1 x2 x3
  have h1 : x1.FaultPin := .advanceCharged h
  clear_value x1
  have h2 : x3.FaultPin := .off (.setArr (.refl _ _) rfl) h1
  clear_value x3
  exact .ite h1 (.dispatch (.giveVerdict (.off (.setNum (.refl _ _) rfl) h2)))

theorem State.FaultPin.faultOnArray {a cls mechanism cause detail detailed vector} (h : s.FaultPin) : (s.faultOnArray
    a cls mechanism cause detail detailed vector).FaultPin := by
  unfold State.faultOnArray
  split
  · exact .off (.holdArray (.refl _ _) rfl) (.raise h)
  · split
    rename_i y9 y10
    have h1 : y9.FaultPin := .of_eq Prod.snd y10 (.detect h)
    exact .off (.holdArray (.refl _ _) rfl) (.endItem h1)

theorem State.FaultPin.of_doSequencerMismatch {t a} (h : s.FaultPin) : (doSequencerMismatch t a s).FaultPin := by
  unfold doSequencerMismatch
  extract_lets x1
  have h1 : x1.FaultPin := .advanceCharged h
  clear_value x1
  exact .ite (.dispatch (.faultOnArray h1)) h1

theorem State.FaultPin.of_doDispatcherMismatch {t} (h : s.FaultPin) : (doDispatcherMismatch t s).FaultPin := by
  unfold doDispatcherMismatch
  extract_lets x1
  have h1 : x1.FaultPin := .advanceCharged h
  clear_value x1
  refine .ite h1 ?_
  split
  rename_i y3 y4
  have h2 : y3.FaultPin := .of_eq Prod.snd y4 (.detect h1)
  exact h2

end Sys2Proof.Machine

/-! PROOFS about FAULT_N and SAFETY_STATE (towards O42): what the memory system, arrays and the fabric keep. -/

namespace Sys2Proof.Machine

variable {s : State}

theorem State.FaultPin.scrubAt {a found} (h : s.FaultPin) : (s.scrubAt a found).FaultPin := by
  unfold State.scrubAt
  refine .ite h ?_
  extract_lets x1 x2
  clear_value x2
  split
  · exact h
  · exact .off (.correct (.refl _ _) rfl) h
  · exact .ite (.off (.bump (.refl _ _) rfl) h) (.off (.bump (.refl _ _) rfl) h)
  · exact .uncorrectable (.off (.upsetAt (.refl _ _) rfl) h)
  · exact .off (.upsetAt (.refl _ _) rfl) h

theorem State.FaultPin.operandEcc {a word found} (h : s.FaultPin) : (s.operandEcc a word found).FaultPin := by
  unfold State.operandEcc
  refine .ite h ?_
  extract_lets x1
  clear_value x1
  split
  · exact h
  · exact h
  · exact .readStoreMet (.off (.operandUpset (.refl _ _) rfl) h)
  · exact .operandUe h
  · exact .off (.operandUpset (.refl _ _) rfl) h

theorem State.FaultPin.of_doScrubRead {t place found} (h : s.FaultPin) : (doScrubRead t place found s).FaultPin := by
  unfold doScrubRead
  extract_lets x1
  have h1 : x1.FaultPin := .advanceCharged h
  clear_value x1
  split
  · exact .off (.logbookEcc (.refl _ _) rfl) h1
  · refine .ite h1 ?_
    split
    · exact h1
    · exact .ite (.scrubAt h1) h1
    · exact .ite (.scrubAt h1) h1
    · exact .dispatch (.operandEcc h1)
  · refine .ite h1 ?_
    split
    · exact h1
    · exact .ite (.scrubAt h1) h1
    · exact .ite (.scrubAt h1) h1
    · exact .dispatch (.operandEcc h1)
  · refine .ite h1 ?_
    split
    · exact h1
    · exact .ite (.scrubAt h1) h1
    · exact .ite (.scrubAt h1) h1
    · exact .dispatch (.operandEcc h1)

theorem State.FaultPin.applyTf {q seq f context} (h : s.FaultPin) : (s.applyTf q seq f context).FaultPin := by
  unfold State.applyTf
  extract_lets x1 x2 x3 x4
  have h1 : x2.FaultPin := .off (.setNum (.refl _ _) rfl) h
  clear_value x2
  have h2 : x4.FaultPin := .off (.setQueue (.recordTf (.refl _ _) rfl) rfl) h1
  clear_value x4
  split
  · exact .off (.recordTf (.refl _ _) rfl) h1
  · split
    · rename_i y6 y7
      have h3 : y6.FaultPin := .of_eq Prod.snd y7 (.detect h1)
      clear_value x1
      split
      · exact .endItem (.off (.recordTf (.refl _ _) rfl) h3)
      · exact .ite (.off (.requestStop (.refl _ _) rfl) h2) (.park h2)
      · exact .endItem (.off (.recordTf (.refl _ _) rfl) h1)

theorem State.FaultPin.translationFault {q j f} (h : s.FaultPin) : (s.translationFault q j f).FaultPin := by
  unfold State.translationFault
  exact .ite (.off (.setEngine (.refl _ _) rfl) h) (.applyTf h)

theorem State.FaultPin.releaseHeld (h : s.FaultPin) : s.releaseHeld.FaultPin := by
  unfold State.releaseHeld
  refine .foldl h (fun s1 x1 h1 => ?_)
  split
  · exact .ite h1 (.applyTf (.off (.setEngine (.refl _ _) rfl) h1))
  · exact h1

theorem State.FaultPin.tfAbort {q f} (h : s.FaultPin) : (s.tfAbort q f).FaultPin := by
  unfold State.tfAbort
  split
  · exact .off (.setQueue (.refl _ _) rfl) h
  · exact .endItem h

theorem State.FaultPin.tfResolve {i retry} (h : s.FaultPin) : ((s.tfResolve i retry).getD s).FaultPin := by
  unfold State.tfResolve
  cases (s.queueAt i).fault with
  | none => exact h
  | some f => exact .getD_some (.dispatch (.ite (.off (.tfRetry (.refl _ _) rfl) h) (.tfAbort h)))

theorem State.FaultPin.of_doTfParkTimeout {q} (h : s.FaultPin) : (doTfParkTimeout q s).FaultPin := by
  unfold doTfParkTimeout
  split
  · exact .ite (.dispatch (.endAtMeridian h)) h
  · exact h

theorem State.FaultPin.moveIn {a q j k4} (h : s.FaultPin) : (s.moveIn a q j k4).state.FaultPin := by
  unfold State.moveIn
  extract_lets x1 x2
  have h1 : x1.2.state.FaultPin := .gwRead h
  clear_value x1
  clear_value x2
  exact .ite_of Gw.state (.off (.writeStore (.refl _ _) rfl) h1) h1

theorem State.FaultPin.moveOut {a q j k4} (h : s.FaultPin) : (s.moveOut a q j k4).state.FaultPin := by
  unfold State.moveOut
  extract_lets x1
  have h1 : x1.state.FaultPin := .readStoreMet h
  clear_value x1
  exact .ite_of Gw.state h1 (.gwWrite h1)

theorem State.FaultPin.moves {ms : List StoreMove} {step : State → StoreMove → Gw} (h : s.FaultPin)
    (hs : ∀ s x, s.FaultPin → (step s x).state.FaultPin) : (s.moves step ms).state.FaultPin := by
  unfold State.moves
  exact .foldl_of Gw.state h (fun g x k => .ite_of Gw.state (hs g.state x k) k)

theorem State.FaultPin.arrayWork {a q j p op} (h : s.FaultPin) : (s.arrayWork a q j p op).state.FaultPin := by
  unfold State.arrayWork
  refine .ite_of Gw.state (.off (.combine (.refl _ _) rfl) h) ?_
  extract_lets x1
  have h1 : x1.state.FaultPin := .readStoreMet h
  clear_value x1
  refine .ite_of Gw.state h1 ?_
  split
  · rename_i y2 y3
    have h2 : y2.FaultPin := .of_eq Prod.snd y3 (.off (.multiply (.refl _ _) rfl) h1)
    exact h2
  · rename_i y6 y7
    have h3 : y6.FaultPin := .of_eq Prod.snd y7 (.off (.multiply (.refl _ _) rfl) h1)
    exact .faultOnArray h3

theorem State.FaultPin.runPass {a q j p op} (h : s.FaultPin) : (s.runPass a q j p op).FaultPin := by
  unfold State.runPass
  extract_lets x1 x2 x3
  have h2 : x1.state.FaultPin := .moves h (fun s1 s2 h1 => .moveIn h1)
  clear_value x1
  have h3 : x2.state.FaultPin := .ite_of Gw.state (.arrayWork h2) h2
  clear_value x2
  have h5 : x3.state.FaultPin := .ite_of Gw.state (.moves h3 (fun s3 s4 h4 => .moveOut h4)) h3
  clear_value x3
  exact .dispatch (.off (.setJob (.refl _ _) rfl) h5)

theorem State.FaultPin.of_doPass {a op} (h : s.FaultPin) : (doPass a op s).FaultPin := by
  unfold doPass
  extract_lets x1
  have h1 : x1.FaultPin := .advanceCharged h
  clear_value x1
  split
  · exact h1
  · exact .runPass h1

theorem State.FaultPin.of_doVectorOp {a op} (h : s.FaultPin) : (doVectorOp a op s).FaultPin := by
  unfold doVectorOp
  extract_lets x1 x2
  have h1 : x1.FaultPin := .advanceCharged h
  clear_value x1
  have h2 : x2.state.FaultPin := .readStoreMet h1
  clear_value x2
  split
  · exact h1
  · exact .ite h1 (.ite (.off (.runVector (.refl _ _) rfl) h2) (.dispatch h2))

theorem State.FaultPin.gatherRow {q j op i idx} (h : s.FaultPin) : (s.gatherRow q j op i idx).state.FaultPin := by
  unfold State.gatherRow
  extract_lets x1 x2 x3
  have h1 : x2.2.state.FaultPin := .ite_of (Gw.state ∘ Prod.snd) (.gwRead h) (.off (.bump (.refl _ _) rfl) h)
  clear_value x2
  have h2 : x3.state.FaultPin := .gwWrite h1
  clear_value x3
  exact .ite_of Gw.state h (.ite_of Gw.state h1 (.ite_of Gw.state (.off (.bumpBy (.refl _ _) rfl) h2) h2))

theorem State.FaultPin.of_gatherRows {i j op k xs} (h : s.FaultPin) : (gatherRows i j op k xs s).FaultPin := by
  induction xs generalizing k s with
  | nil => exact h
  | cons x xs ih =>
    unfold gatherRows
    extract_lets x1
    have h1 : x1.state.FaultPin := .gatherRow h
    exact .ite (ih h1) h1

theorem State.FaultPin.of_doIndexedGather {q op} (h : s.FaultPin) : (doIndexedGather q op s).FaultPin := by
  unfold doIndexedGather
  extract_lets x1
  have h1 : x1.FaultPin := .advanceCharged h
  clear_value x1
  split
  · exact h1
  · exact .dispatch (.of_gatherRows h1)

theorem State.FaultPin.segmentStep {q j op i z6 upto} (h : s.FaultPin) : (s.segmentStep q j op i z6
    upto).state.FaultPin := by
  unfold State.segmentStep
  extract_lets x1 x2 x3 x4
  have h1 : x3.FaultPin := .ite h (.off (.bumpBy (.refl _ _) rfl) h)
  clear_value x3
  split
  · rename_i y3 y4
    have h2 : y3.FaultPin := .of_eq Prod.snd y4 (.off (.takeFree (.refl _ _) rfl) h1)
    extract_lets x5 x6 x7 x8 x9
    have h3 : x5.2.state.FaultPin := .ite_of (Gw.state ∘ Prod.snd) h2 (.gwRead h2)
    clear_value x5
    have h4 : x7.FaultPin := h3
    clear_value x7
    have h5 : x9.FaultPin := .ite h4 (.off (.bumpBy (.refl _ _) rfl) h4)
    clear_value x9
    exact .ite_of Gw.state h3 (.gwWrite h5)

theorem State.FaultPin.of_segmentSteps {q j op k xs} (h : s.FaultPin) : (segmentSteps q j op k xs s).FaultPin := by
  induction xs generalizing k s with
  | nil => exact h
  | cons x xs ih =>
    cases xs with
    | nil => exact h
    | cons y xs =>
      unfold segmentSteps
      extract_lets x1
      have h1 : x1.state.FaultPin := .segmentStep h
      exact .ite (ih h1) h1

theorem State.FaultPin.of_doSegmentReduce {q op} (h : s.FaultPin) : (doSegmentReduce q op s).FaultPin := by
  unfold doSegmentReduce
  extract_lets x1
  have h1 : x1.FaultPin := .advanceCharged h
  clear_value x1
  split
  · exact h1
  · exact .dispatch (.of_segmentSteps h1)

theorem State.FaultPin.atomicStep {q j op idx x k} (h : s.FaultPin) : (s.atomicStep q j op idx x k).state.FaultPin :=
    by
  unfold State.atomicStep
  extract_lets x1 x2 x3 x4
  have h1 : x2.2.state.FaultPin := .gwRead h
  clear_value x2
  have h2 : x3.FaultPin := h1
  clear_value x3
  have h3 : x4.state.FaultPin := .gwWrite h2
  clear_value x4
  exact .ite_of Gw.state h1 (.ite_of Gw.state (.off (.bumpBy (.refl _ _) rfl) h3) h3)

theorem State.FaultPin.of_atomicSteps {i j op xs} (h : s.FaultPin) : (atomicSteps i j op xs s).FaultPin := by
  induction xs generalizing s with
  | nil => exact h
  | cons x xs ih =>
    obtain ⟨a, b, c⟩ := x
    unfold atomicSteps
    extract_lets x1
    have h1 : x1.state.FaultPin := .atomicStep h
    exact .ite (ih h1) h1

theorem State.FaultPin.of_doAtomicAdd {q op} (h : s.FaultPin) : (doAtomicAdd q op s).FaultPin := by
  unfold doAtomicAdd
  extract_lets x1 x2 x3
  have h1 : x1.FaultPin := .advanceCharged h
  clear_value x1
  have h2 : x3.FaultPin := .ite h1 (.off (.bumpBy (.refl _ _) rfl) h1)
  clear_value x3
  split
  · exact h1
  · exact .ite h1 (.dispatch (.of_atomicSteps h2))

theorem State.FaultPin.packetMet {k1 k2} (h : s.FaultPin) : (s.packetMet k1 k2).FaultPin := by
  unfold State.packetMet
  refine .ite (.uncorrectables (.off (.correct (.refl _ _) rfl) h)) ?_
  split
  · rename_i y2 y3
    have h1 : y2.FaultPin := .of_eq Prod.snd y3 (.report h)
    exact h1
  · rename_i y7 y8
    have h2 : y7.FaultPin := .of_eq Prod.snd y8 (.report h)
    split
    · exact h2
    · exact .endItem h2

theorem State.FaultPin.packetStore {k1 b} (h : s.FaultPin) : (s.packetStore k1 b).FaultPin := by
  unfold State.packetStore
  extract_lets x1
  have h1 : x1.FaultPin := .off (.chargePacket (.refl _ _) rfl) h
  clear_value x1
  split
  rename_i y2 _ y4
  have h2 : y2.FaultPin := .of_eq Prod.fst y4 (.ite_of Prod.fst (.off (.rawStore (.refl _ _) rfl) h1) (.off (.store
      (.refl _ _) rfl) h1))
  exact .packetMet h2

theorem State.FaultPin.packetLoad {k1 k} (h : s.FaultPin) : (s.packetLoad k1 k).2.FaultPin := by
  unfold State.packetLoad
  extract_lets x1
  have h1 : x1.FaultPin := .off (.chargePacket (.refl _ _) rfl) h
  clear_value x1
  split
  exact .packetMet h1

theorem State.FaultPin.packetAdd {z2} (h : s.FaultPin) : (s.packetAdd z2).FaultPin := by
  unfold State.packetAdd
  extract_lets x1
  split
  · rename_i y3 y4
    have h1 : y3.FaultPin := .of_eq Prod.snd y4 (.packetLoad h)
    exact .packetStore h1

theorem State.FaultPin.applyPacket {z2} (h : s.FaultPin) : (s.applyPacket z2).FaultPin := by
  unfold State.applyPacket
  extract_lets x1
  split
  · exact .ite (.off (.packetToHost (.refl _ _) rfl) h) (.ite (.packetStore h) h)
  · exact .ite (.packetAdd h) h
  · exact h

theorem State.FaultPin.acknowledge {k1} (h : s.FaultPin) : (s.acknowledge k1).FaultPin := by
  unfold State.acknowledge
  extract_lets x1
  split
  · exact .off (.answerTo (.refl _ _) rfl) h
  · exact .off (.answerTo (.refl _ _) rfl) h
  · refine .ite (.off (.packetFromHost (.refl _ _) rfl) h) ?_
    split
    rename_i y9 y10
    have h1 : y9.FaultPin := .of_eq Prod.snd y10 (.off (.takeFree (.refl _ _) rfl) h)
    split
    rename_i y13 y14
    have h2 : y13.FaultPin := .of_eq Prod.snd y14 (.ite_of Prod.snd (.packetLoad h1) (.off (.takeFreeBytes (.refl _
        _) rfl) h1))
    exact .off (.answerTo (.refl _ _) rfl) h2
  · exact .off (.answerTo (.refl _ _) rfl) h
  · exact h

theorem State.FaultPin.acceptPacket {z2} (h : s.FaultPin) : (s.acceptPacket z2).FaultPin := by
  unfold State.acceptPacket
  extract_lets x1
  have h1 : x1.FaultPin := .off (.setNumbering (.refl _ _) rfl) h
  clear_value x1
  exact .acknowledge (.applyPacket h1)

theorem State.FaultPin.drainHeld {k x} (h : s.FaultPin) : (State.drainHeld k x s).FaultPin := by
  induction k generalizing s with
  | zero => exact h
  | succ k ih =>
    unfold State.drainHeld
    extract_lets x1
    split
    · exact h
    · exact ih (.acceptPacket (.off (.setNumbering (.refl _ _) rfl) h))

theorem State.FaultPin.duplicate {k1} (h : s.FaultPin) : (s.duplicate k1).FaultPin := by
  unfold State.duplicate
  exact .acknowledge (.off (.bump (.refl _ _) rfl) h)

theorem State.FaultPin.deliverPacket {z2} (h : s.FaultPin) : (s.deliverPacket z2).FaultPin := by
  unfold State.deliverPacket
  extract_lets x1 x2 x3
  have h1 : x3.FaultPin := .acceptPacket h
  clear_value x3
  refine .ite (.acknowledge (.off (.bump (.refl _ _) rfl) h)) ?_
  refine .ite (.ite h (.off (.setNumbering (.refl _ _) rfl) h)) ?_
  exact .drainHeld h1

theorem State.FaultPin.writeSignal {x} (h : s.FaultPin) : (s.writeSignal x).FaultPin := by
  unfold State.writeSignal
  extract_lets x1 x2 x3
  have h2 : x1.FaultPin := .foldl h (fun s1 x4 h1 => .off (.sweep (.refl _ _) rfl) h1)
  clear_value x1
  have h3 : x2.FaultPin := .off (.setNum (.bump (.refl _ _) rfl) rfl) h2
  clear_value x2
  refine .ite h3 ?_
  split
  rename_i y2 _ y4
  have h4 : y2.FaultPin := .of_eq Prod.fst y4 (.off (.store (.refl _ _) rfl) h3)
  exact .report h4

theorem State.FaultPin.drainSignals (h : s.FaultPin) : s.drainSignals.FaultPin := by
  unfold State.drainSignals
  extract_lets x1 x2
  exact .foldl h (fun s1 x3 h1 => .ite h1 (.ite h1 (.writeSignal h1)))

theorem State.FaultPin.reportFabric {k1} (h : s.FaultPin) : (s.reportFabric k1).2.FaultPin := by
  unfold State.reportFabric
  extract_lets x1 x2 x3 x4
  exact .detect h

theorem State.FaultPin.endOwners {os ref} (h : s.FaultPin) : (s.endOwners os ref).FaultPin := by
  unfold State.endOwners
  refine .foldl h (fun s1 x1 h1 => ?_)
  split
  · exact .amendItem (.endItem h1)
  · exact h1

theorem State.FaultPin.amendWaiting (h : s.FaultPin) : s.amendWaiting.FaultPin := by
  unfold State.amendWaiting
  exact .foldl h (fun s1 x1 h1 => .ite h1 (.foldl h1 (fun s2 x2 h2 => .amendItem h2)))

theorem State.FaultPin.fabricFault {k1 k2} (h : s.FaultPin) : (s.fabricFault k1 k2).FaultPin := by
  unfold State.fabricFault
  extract_lets x1
  have h1 : x1.FaultPin := .off (.bump (.refl _ _) rfl) h
  clear_value x1
  split
  rename_i y3 y4
  have h2 : y3.FaultPin := .of_eq Prod.snd y4 (.reportFabric h1)
  refine .ite (.off (.setNumbering (.refl _ _) rfl) h2) ?_
  extract_lets x2 x3 x4 x5 x6 x7
  have h3 : x3.FaultPin := .off (.setNumbering (.refl _ _) rfl) h2
  clear_value x3
  have h4 : x4.FaultPin := .off (.setNum (.refl _ _) rfl) h3
  clear_value x4
  have h5 : x5.FaultPin := .off (.emit (.bump (.refl _ _) rfl) rfl) h4
  clear_value x5
  have h6 : x6.FaultPin := .endOwners h5
  clear_value x6
  have h7 : x7.FaultPin := .ite (.amendWaiting h6) h6
  clear_value x7
  exact .dispatch (.drainSignals (.releaseHeld (.off (.haltForFabric (.refl _ _) rfl) h7)))

theorem State.FaultPin.resend {k1 seq} (h : s.FaultPin) : (s.resend k1 seq).FaultPin := by
  unfold State.resend
  split
  · exact h
  · refine .ite (.fabricFault h) ?_
    extract_lets x1 x2
    have h1 : x2.FaultPin := .off (.setNumbering (.refl _ _) rfl) h
    clear_value x2
    exact .off (.emit (.bump (.refl _ _) rfl) rfl) h1

theorem State.FaultPin.packetAt {p k2} (h : s.FaultPin) : (s.packetAt p k2).FaultPin := by
  unfold State.packetAt
  exact .ite (.deliverPacket h) (.off (.refusePacket (.refl _ _) rfl) h)

theorem State.FaultPin.packetArrives {type float p} (h : s.FaultPin) : (s.packetArrives type float p).FaultPin := by
  unfold State.packetArrives
  refine .ite h ?_
  extract_lets x1 x2
  split
  · exact .packetAt h
  · refine .ite (.packetAt h) ?_
    refine .ite ?_ (.ite (.packetAt (.off (.sendPacket (.refl _ _) rfl) h)) h)
    split
    · exact .dispatch (.endItem h)
    · exact h

theorem State.FaultPin.ackArrives {types p bulk channel} (h : s.FaultPin) : (s.ackArrives types p bulk
    channel).FaultPin := by
  unfold State.ackArrives
  refine .ite h ?_
  refine .ite (.off (.countRefused (.refl _ _) rfl) h) ?_
  extract_lets x1 x2
  exact .ite (.drainSignals (.releaseHeld (.off (.setNumbering (.refl _ _) rfl) h))) h

theorem State.FaultPin.of_doFabricWrite {t p} (h : s.FaultPin) : (doFabricWrite t p s).FaultPin := by
  unfold doFabricWrite
  exact .packetArrives (.advanceCharged h)

theorem State.FaultPin.of_doFabricReadReq {t p} (h : s.FaultPin) : (doFabricReadReq t p s).FaultPin := by
  unfold doFabricReadReq
  exact .packetArrives (.advanceCharged h)

theorem State.FaultPin.of_doFabricAtomicAdd {t p elem} (h : s.FaultPin) : (doFabricAtomicAdd t p elem s).FaultPin :=
    by
  unfold doFabricAtomicAdd
  exact .packetArrives (.advanceCharged h)

theorem State.FaultPin.of_doSweep {t p} (h : s.FaultPin) : (doSweep t p s).FaultPin := by
  unfold doSweep
  exact .packetArrives (.advanceCharged h)

theorem State.FaultPin.of_doFabricWriteAck {t p ofBulk ofChannel} (h : s.FaultPin) : (doFabricWriteAck t p ofBulk
    ofChannel s).FaultPin := by
  unfold doFabricWriteAck
  exact .ackArrives (.advanceCharged h)

theorem State.FaultPin.of_doFabricReadData {t p ofBulk ofChannel} (h : s.FaultPin) : (doFabricReadData t p ofBulk
    ofChannel s).FaultPin := by
  unfold doFabricReadData
  extract_lets x1 x2 x3
  have h1 : x1.FaultPin := .ackArrives (.advanceCharged h)
  clear_value x1
  exact .ite h1 (.resend h1)

theorem State.FaultPin.of_doSweepDone {t p} (h : s.FaultPin) : (doSweepDone t p s).FaultPin := by
  unfold doSweepDone
  exact .ackArrives (.advanceCharged h)

theorem State.FaultPin.of_doRefuse {t p ofBulk ofChannel} (h : s.FaultPin) : (doRefuse t p ofBulk ofChannel
    s).FaultPin := by
  unfold doRefuse
  extract_lets x1
  have h1 : x1.FaultPin := .advanceCharged h
  clear_value x1
  exact .ite h1 (.ite (.off (.refusePacket (.refl _ _) rfl) h1) (.resend h1))

theorem State.FaultPin.of_doAckTimeout {t src dst bulk channel seq} (h : s.FaultPin) : (doAckTimeout t src dst bulk
    channel seq s).FaultPin := by
  unfold doAckTimeout
  extract_lets x1 x2
  have h1 : x1.FaultPin := .advanceCharged h
  clear_value x1
  split
  · exact h1
  · exact .ite h1 (.resend (.off (.bump (.refl _ _) rfl) h1))

theorem State.FaultPin.of_doChannelReset {t p ofBulk ofChannel} (h : s.FaultPin) : (doChannelReset t p ofBulk
    ofChannel s).FaultPin := by
  unfold doChannelReset
  extract_lets x1 x2
  have h1 : x1.FaultPin := .advanceCharged h
  clear_value x1
  split
  · exact h1
  · refine .ite h1 ?_
    refine .ite (.off (.refusePacket (.refl _ _) rfl) h1) ?_
    extract_lets x3
    have h2 : x3.FaultPin := .off (.setNumbering (.refl _ _) rfl) h1
    clear_value x3
    exact .off (.answerTo (.refl _ _) rfl) h2

theorem State.FaultPin.of_doResetDone {t p ofBulk ofChannel} (h : s.FaultPin) : (doResetDone t p ofBulk ofChannel
    s).FaultPin := by
  unfold doResetDone
  extract_lets x1 x2
  have h1 : x1.FaultPin := .advanceCharged h
  clear_value x1
  exact .ite h1 (.ite (.off (.countRefused (.refl _ _) rfl) h1) (.ite (.off (.setNumbering (.refl _ _) rfl) h1) h1))

end Sys2Proof.Machine

/-! PROOFS about FAULT_N and SAFETY_STATE (towards O42): what the host link and changes of settings keep. -/

namespace Sys2Proof.Machine

variable {s : State}

theorem State.FaultPin.endFor {q seq met} (h : s.FaultPin) : (State.endFor s q seq met).FaultPin := by
  unfold State.endFor
  split
  · exact h
  · exact .endItem h

theorem State.FaultPin.landBytes {q j off b} (h : s.FaultPin) : (s.landBytes q j off b).FaultPin := by
  unfold State.landBytes
  extract_lets x1 x2
  have h1 : x2.FaultPin := .off (.chargeBytes (.refl _ _) rfl) h
  clear_value x2
  split
  · rename_i y2 _ y4
    have h2 : y2.FaultPin := .of_eq Prod.fst y4 (.off (.store (.refl _ _) rfl) h1)
    split
    · rename_i y7 y8
      have h3 : y7.FaultPin := .of_eq Prod.snd y8 (.report h2)
      exact .endFor h3

theorem State.FaultPin.copyOutChunk {q j upto bus bits} (h : s.FaultPin) : (s.copyOutChunk q j upto bus
    bits).FaultPin := by
  unfold State.copyOutChunk
  extract_lets x1 x2 x3
  have h1 : x3.FaultPin := .off (.chargeBytes (.refl _ _) rfl) h
  clear_value x3
  split
  · split
    · rename_i y1 y2 y3 y4 y5 y6 y7 y8
      have h2 : y7.FaultPin := .of_eq Prod.snd y8 (.report h1)
      exact .endFor h2
    · rename_i y6 y7
      have h2 : y6.FaultPin := .of_eq Prod.snd y7 (.report h1)
      exact .off (.moved (.emit (.refl _ _) rfl) rfl) h2

theorem State.FaultPin.copyInChunk {q j e upto bus page size bits host} (h : s.FaultPin) : (s.copyInChunk q j e upto
    bus page size bits host).FaultPin := by
  unfold State.copyInChunk
  extract_lets x1 x2 x3
  have h1 : x3.FaultPin := .off (.setEngine (.refl _ _) rfl) h
  clear_value x3
  exact .ite (.off (.moved (.refl _ _) rfl) (.landBytes h)) (.off (.moved (.emit (.refl _ _) rfl) rfl) h1)

theorem State.FaultPin.copyOutside {q j a} (h : s.FaultPin) : (s.copyOutside q j a).FaultPin := by
  unfold State.copyOutside
  split
  rename_i y3 y4
  have h1 : y3.FaultPin := .of_eq Prod.snd y4 (.violate h)
  exact .endItem h1

theorem State.FaultPin.copyStep {q seq e host} (h : s.FaultPin) : (s.copyStep q seq e host).2.FaultPin := by
  unfold State.copyStep
  split
  · exact h
  · extract_lets x1
    refine .ite_of Prod.snd h ?_
    refine .ite_of Prod.snd (.copyOutside h) ?_
    split
    · rename_i y9 y10
      have h1 : y9.FaultPin := .of_eq Prod.snd y10 (.off (.translate (.refl _ _) rfl) h)
      extract_lets x2
      exact .translationFault h1
    · rename_i y17 y18
      have h2 : y17.FaultPin := .of_eq Prod.snd y18 (.off (.translate (.refl _ _) rfl) h)
      extract_lets x3
      exact .ite_of Prod.snd (.endItem h2) (.ite (.copyOutChunk h2) (.copyInChunk h2))

theorem State.FaultPin.copySteps {k i seq e b} (h : s.FaultPin) : (State.copySteps k i seq e b s).FaultPin := by
  induction k generalizing s with
  | zero => exact h
  | succ k ih =>
    unfold State.copySteps
    split
    · rename_i y1 y2
      exact .of_eq Prod.snd y2 (.copyStep h)
    · rename_i y2
      exact ih (.of_eq Prod.snd y2 (.copyStep h))

theorem State.FaultPin.finishCopy {q seq e} (h : s.FaultPin) : (s.finishCopy q seq e).FaultPin := by
  unfold State.finishCopy
  split
  · exact h
  · extract_lets x1 x2
    have h1 : x2.FaultPin := .off (.setEngine (.refl _ _) rfl) h
    clear_value x2
    exact .ite h (.ite (.endItem h1) (.off (.setJob (.refl _ _) rfl) h1))

theorem State.FaultPin.serveTransfer {q seq host} (h : s.FaultPin) : (s.serveTransfer q seq host).FaultPin := by
  unfold State.serveTransfer
  extract_lets x1 x2
  have h1 : x2.FaultPin := .off (.setEngine (.refl _ _) rfl) h
  clear_value x2
  split
  · exact h
  · refine .ite h ?_
    extract_lets x3
    have h2 : x3.FaultPin := .copySteps h1
    clear_value x3
    exact .finishCopy h2

theorem State.FaultPin.fetchOnce {q d} (h : s.FaultPin) : (s.fetchOnce q d).FaultPin := by
  unfold State.fetchOnce
  exact .ite h (.fetch h)

theorem State.FaultPin.copyDescriptor {q op} (h : s.FaultPin) : (s.copyDescriptor q op).FaultPin := by
  unfold State.copyDescriptor
  extract_lets x1
  have h1 : x1.FaultPin := .fetchOnce h
  clear_value x1
  split
  · exact h1
  · exact .ite (.serveTransfer h1) h1

theorem State.FaultPin.imageTransfer {q op} (h : s.FaultPin) : (s.imageTransfer q op).FaultPin := by
  unfold State.imageTransfer
  extract_lets x1
  split
  · exact h
  · extract_lets x2 x3
    have h1 : x3.FaultPin := .ite h (.off (.setJob (.refl _ _) rfl) h)
    clear_value x3
    refine .ite h ?_
    refine .ite ?_ (.ite (.endItem h) (.ite (.serveTransfer h1) h1))
    split
    rename_i y8 y9
    have h2 : y8.FaultPin := .of_eq Prod.snd y9 (.jobFault h)
    exact .endItem h2

theorem State.FaultPin.of_doCopy {q op} (h : s.FaultPin) : (doCopy q op s).FaultPin := by
  unfold doCopy
  extract_lets x1
  have h1 : x1.FaultPin := .advanceCharged h
  clear_value x1
  exact .dispatch (.ite (.imageTransfer h1) (.copyDescriptor h1))

theorem State.FaultPin.serveFence {q j} (h : s.FaultPin) : (s.serveFence q j).FaultPin := by
  unfold State.serveFence
  extract_lets x1
  exact .ite (.endItem h) (.ite (.endItem h) (.ite (.endItem (.off (.sweep (.refl _ _) rfl) h)) h))

theorem State.FaultPin.of_doFence {t q desc} (h : s.FaultPin) : (doFence t q desc s).FaultPin := by
  unfold doFence
  extract_lets x1
  have h1 : x1.FaultPin := .fetchOnce (.advanceCharged h)
  clear_value x1
  split
  · exact h1
  · exact .dispatch (.serveFence h1)

theorem State.FaultPin.resumeEngine {e} (h : s.FaultPin) : (s.resumeEngine e).FaultPin := by
  unfold State.resumeEngine
  split
  · exact h
  · exact .ite (.dispatch (.serveTransfer h)) h

theorem State.FaultPin.completeRead {e r data} (h : s.FaultPin) : (s.completeRead e r data).FaultPin := by
  unfold State.completeRead
  split
  · exact h
  · split
    · exact h
    · refine .ite h ?_
      extract_lets x1
      have h1 : x1.FaultPin := .off (.setEngine (.refl _ _) rfl) h
      clear_value x1
      exact .resumeEngine (.landBytes h1)

theorem State.FaultPin.of_doHostReadCompletion {t engine tag data} (h : s.FaultPin) : (doHostReadCompletion t engine
    tag data s).FaultPin := by
  unfold doHostReadCompletion
  extract_lets x1 x2
  have h1 : x1.FaultPin := .advanceCharged h
  clear_value x1
  refine .ite (.off (.bump (.setEngine (.refl _ _) rfl) rfl) h1) ?_
  split
  · exact .completeRead h1
  · exact .off (.completeMeshRead (.refl _ _) rfl) h1
  · exact h1

theorem State.FaultPin.writeRecords {k i} (h : s.FaultPin) : (State.writeRecords k i s).FaultPin := by
  induction k generalizing s with
  | zero => exact h
  | succ k ih => exact ih (.writeRecord h)

theorem State.FaultPin.ringOff {q} (h : s.FaultPin) : (s.ringOff q).FaultPin := by
  unfold State.ringOff
  extract_lets x1
  exact .ite h (.off (.setQueue (.refl _ _) rfl) (.writeRecords h))

theorem State.FaultPin.of_doRingDisable {t q} (h : s.FaultPin) : (doRingDisable t q s).FaultPin := by
  unfold doRingDisable
  extract_lets x1
  have h1 : x1.FaultPin := .off (.advance (.refl _ _) rfl) h
  clear_value x1
  exact .ite (.ringOff h1) h1

theorem State.FaultPin.ringControl {q value} (h : s.FaultPin) : (s.ringControl q value).FaultPin := by
  unfold State.ringControl
  extract_lets x1 x2 x3
  have h1 : x3.FaultPin := .off (.setQueue (.refl _ _) rfl) h
  clear_value x3
  exact .ite (.ite h (.ringOff h)) (.ite h (.ite (.off (.ringOn (.refl _ _) rfl) h1) h1))

theorem State.FaultPin.ringRegister {q w} (h : s.FaultPin) : (s.ringRegister q w).FaultPin := by
  unfold State.ringRegister
  split
  · exact .ringControl h
  · exact .ite h (.ite (.off (.setQueue (.refl _ _) rfl) h) (.off (.setQueue (.refl _ _) rfl) h))

theorem State.FaultPin.of_doRingEnable {t q w} (h : s.FaultPin) : (doRingEnable t q w s).FaultPin := by
  unfold doRingEnable
  extract_lets x1
  have h1 : x1.FaultPin := .off (.advance (.refl _ _) rfl) h
  clear_value x1
  exact .ite (.ringRegister h1) h1

theorem State.FaultPin.putRecords {k i} (h : s.FaultPin) : (State.putRecords k i s).FaultPin := by
  induction k generalizing s with
  | zero => exact h
  | succ k ih => exact ih (.putRecord h)

theorem State.FaultPin.resume {q} (h : s.FaultPin) : (s.resume q).FaultPin := by
  unfold State.resume
  extract_lets x1 x2
  have h1 : x2.FaultPin := .off (.setQueue (.refl _ _) rfl) h
  clear_value x2
  exact .ite h (.dispatch (.off (.sendVector (.refl _ _) rfl) (.putRecords h1)))

theorem State.FaultPin.of_doResume {t q} (h : s.FaultPin) : (doResume t q s).FaultPin := by
  unfold doResume
  extract_lets x1
  have h1 : x1.FaultPin := .advanceCharged h
  clear_value x1
  exact .ite (.resume h1) h1

theorem State.FaultPin.mirrorResolve {t q retry} (h : s.FaultPin) : (s.mirrorResolve t q retry).FaultPin := by
  unfold State.mirrorResolve
  extract_lets x1
  have h1 : x1.FaultPin := .advanceCharged h
  clear_value x1
  exact .ite (.tfResolve h1) h1

theorem State.FaultPin.place {requester a p data} (h : s.FaultPin) : (s.place requester a p data).FaultPin := by
  unfold State.place
  extract_lets x1 x2 x3
  have h1 : x1.FaultPin := .off (.bumpBy (.refl _ _) rfl) h
  clear_value x1
  refine .ite h1 ?_
  split
  rename_i y2 _ y4
  have h2 : y2.FaultPin := .of_eq Prod.fst y4 (.off (.store (.refl _ _) rfl) h1)
  extract_lets x4 x5
  have h3 : x4.FaultPin := .report h2
  clear_value x4
  exact .off (.setHost (.refl _ _) (⟨rfl, rfl⟩) rfl) h3

theorem State.FaultPin.signal {requester i e data} (h : s.FaultPin) : (s.signal requester i e data).FaultPin := by
  unfold State.signal
  extract_lets x1
  exact .drainSignals (.off (.setHost (.refl _ _) (⟨rfl, rfl⟩) rfl) h)

theorem State.FaultPin.windowBWrite {requester offset data} (h : s.FaultPin) : (s.windowBWrite requester offset
    data).FaultPin := by
  unfold State.windowBWrite
  extract_lets x1
  split
  · exact .place h
  · split
    · exact .signal h
    · exact .off (.placementRefused (.refl _ _) rfl) h

theorem State.FaultPin.of_doPlacementWrite {t requester offset data} (h : s.FaultPin) : (doPlacementWrite t requester
    offset data s).FaultPin := by
  unfold doPlacementWrite
  extract_lets x1
  have h1 : x1.FaultPin := .off (.advance (.refl _ _) rfl) h
  clear_value x1
  exact .ite (.windowBWrite h1) h1

theorem State.FaultPin.of_doPlacementSignal {t requester entry data} (h : s.FaultPin) : (doPlacementSignal t
    requester entry data s).FaultPin := by
  unfold doPlacementSignal
  extract_lets x1
  have h1 : x1.FaultPin := .off (.advance (.refl _ _) rfl) h
  clear_value x1
  exact .ite (.windowBWrite h1) h1

theorem State.FaultPin.endWhere {test status cause} (h : s.FaultPin) : (s.endWhere test status cause).FaultPin := by
  unfold State.endWhere
  exact .foldl h (fun s1 x1 h1 => .foldl h1 (fun s2 x2 h2 => .endItem h2))

theorem State.FaultPin.bmeLost (h : s.FaultPin) : s.bmeLost.FaultPin := by
  unfold State.bmeLost
  refine .ite h ?_
  extract_lets x1 x2 x3
  have h1 : x1.FaultPin := .off (.setHost (.refl _ _) (⟨rfl, rfl⟩) rfl) h
  clear_value x1
  have h2 : x2.FaultPin := .endWhere h1
  clear_value x2
  have h5 : x3.FaultPin := by
    unfold x3
    refine .foldl h2 (fun s1 x4 h3 => ?_)
    refine .ite ?_ h3
    extract_lets x5 x6
    have h4 : x6.FaultPin := .off (.setQueue (.refl _ _) rfl) h3
    clear_value x6
    exact .ite (.off (.sendVector (.refl _ _) rfl) h4) h4
  clear_value x3
  exact .dispatch (.off (.abandonReads (.refl _ _) rfl) h5)

theorem State.FaultPin.of_doLossOfBusMasterEnable {t} (h : s.FaultPin) : (doLossOfBusMasterEnable t s).FaultPin := by
  unfold doLossOfBusMasterEnable
  exact .bmeLost (.advanceCharged h)

theorem State.FaultPin.of_doFunctionLevelReset {t} (h : s.FaultPin) : (doFunctionLevelReset t s).FaultPin := by
  unfold doFunctionLevelReset
  extract_lets x1 x2 x3 x4
  have h1 : x1.FaultPin := .advanceCharged h
  clear_value x1
  have h2 : x2.FaultPin := .off (.resetFunction (.abandonReads (.resetLinked (.refl _ _) rfl) rfl) rfl) (.endWhere h1)
  clear_value x2
  have h3 : x3.FaultPin := .off (.setHost (.refl _ _) (⟨rfl, rfl⟩) rfl) h2
  clear_value x3
  have h4 : x4.FaultPin := .off (.bump (.setNum (.refl _ _) rfl) rfl) h3
  clear_value x4
  exact .ite h1 (.dispatch (.off (.restartNotifies (.resetPortH (.portHLost (.refl _ _) rfl) rfl) rfl) h4))

theorem State.FaultPin.linkLost (h : s.FaultPin) : s.linkLost.FaultPin := by
  unfold State.linkLost
  extract_lets x1
  have h1 : x1.FaultPin := .off (.setHost (.refl _ _) (⟨rfl, rfl⟩) rfl) (.bmeLost h)
  clear_value x1
  exact .off (.setPort (.portHLost (.refl _ _) rfl) rfl) h1

theorem State.FaultPin.of_doPcieLinkDown {t} (h : s.FaultPin) : (doPcieLinkDown t s).FaultPin := by
  unfold doPcieLinkDown
  extract_lets x1
  have h1 : x1.FaultPin := .advanceCharged h
  clear_value x1
  exact .ite (.linkLost h1) h1

theorem State.FaultPin.endQueueAt {q status cause tick offset} (h : s.FaultPin) : (s.endQueueAt q status cause tick
    offset).FaultPin := by
  unfold State.endQueueAt
  exact .foldl h (fun s1 x1 h1 => .endItemAt h1)

theorem State.FaultPin.settleQueue {old tick offset q} (h : s.FaultPin) : (s.settleQueue old tick offset q).FaultPin
    := by
  unfold State.settleQueue
  extract_lets x1 x2
  exact .ite h (.ite (.off (.setQueue (.refl _ _) rfl) h) (.off (.setQueue (.refl _ _) rfl) (.endQueueAt h)))

theorem State.FaultPin.settlePartition {old tick offset p} (h : s.FaultPin) : (s.settlePartition old tick offset
    p).FaultPin := by
  unfold State.settlePartition
  exact .ite (.foldl h (fun s1 x1 h1 => .ite (.endQueueAt h1) h1)) h

theorem State.FaultPin.settleSlot {t k2} (h : s.FaultPin) : (s.settleSlot t k2).FaultPin := by
  unfold State.settleSlot
  extract_lets x1 x2
  exact .ite (.off (.startSlot (.refl _ _) rfl) h) (.ite (.stopSlot h) h)

theorem State.FaultPin.settleUnits {old t tick offset} (h : s.FaultPin) : (s.settleUnits old t tick offset).FaultPin
    := by
  unfold State.settleUnits
  extract_lets x1 x2 x3
  have h1 : x1.FaultPin := .foldl h (fun s1 x4 h1 => .settlePartition h1)
  clear_value x1
  have h2 : x2.FaultPin := .foldl h1 (fun s1 x4 h2 => .settleQueue h2)
  clear_value x2
  have h3 : x3.FaultPin := .foldl h2 (fun s1 x4 h3 => .settleSlot h3)
  clear_value x3
  exact .foldl h3 (fun s1 x4 h4 => .off (.settleContext (.refl _ _) rfl) h4)

end Sys2Proof.Machine

/-! PROOFS about FAULT_N and SAFETY_STATE (towards O42): what the tick generator keep. -/

namespace Sys2Proof.Machine

variable {s : State}

theorem State.FaultPin.of_doPinEventQualified {t pin falling} (h : s.FaultPin) : (doPinEventQualified t pin falling
    s).FaultPin := by
  unfold doPinEventQualified
  extract_lets x1
  have h1 : x1.FaultPin := .advanceCharged h
  clear_value x1
  exact .ite (.off (.fixEvent (.refl _ _) rfl) h1) h1

theorem State.FaultPin.of_doPinEventUnqualified {t pin falling width} (h : s.FaultPin) : (doPinEventUnqualified t pin
    falling width s).FaultPin := by
  unfold doPinEventUnqualified
  extract_lets x1
  have h1 : x1.FaultPin := .advanceCharged h
  clear_value x1
  exact .ite (.off (.fixEvent (.refl _ _) rfl) h1) h1

theorem State.FaultPin.of_doGptpScheduleEvent {t} (h : s.FaultPin) : (doGptpScheduleEvent t s).FaultPin := by
  unfold doGptpScheduleEvent
  extract_lets x1
  have h1 : x1.FaultPin := .advanceCharged h
  clear_value x1
  exact .ite (.off (.fixEvent (.refl _ _) rfl) h1) h1

theorem State.FaultPin.of_doCaptureWindowClose (h : s.FaultPin) : (doCaptureWindowClose s).FaultPin := by
  unfold doCaptureWindowClose
  extract_lets x1 x2
  have h1 : x2.FaultPin := .advanceCharged h
  clear_value x2
  refine .ite h ?_
  refine .ite (.off (.closeWindow (.refl _ _) rfl) h1) ?_
  exact .off (.setTick [.tick] (.refl _ _) rfl rfl (Nat.le_refl _)) h1

theorem State.FaultPin.of_doRealignSearchTimeout (h : s.FaultPin) : (doRealignSearchTimeout s).FaultPin := by
  unfold doRealignSearchTimeout
  extract_lets x1 x2 x3 x4 x5
  have h1 : x3.FaultPin := .advanceCharged h
  clear_value x3
  have h2 : x5.FaultPin := .off (.bump (.refl _ _) rfl) (.advanceCharged h)
  clear_value x5
  refine .ite h ?_
  refine .ite (.off (.setTick [.tick] (.refl _ _) rfl rfl (Nat.le_refl _)) h1) ?_
  refine .ite h ?_
  exact .off (.setTick [.tick] (.miss (.refl _ _) rfl) rfl rfl (Nat.le_refl _)) h2

theorem State.FaultPin.carryAll {z2 offset} (h : s.FaultPin) : (s.carryAll z2 offset).FaultPin := by
  unfold State.carryAll
  exact .foldl h (fun s1 x1 h1 => .foldl h1 (fun s2 x2 h2 => .ite (.off (.carryItem (.refl _ _) rfl) h2) (.endItemAt
      (.off (.setJob (.refl _ _) rfl) h2))))

theorem State.FaultPin.refill (h : s.FaultPin) : s.refill.FaultPin := by
  unfold State.refill
  extract_lets x1 x2 x3
  have h1 : x1.FaultPin := h
  clear_value x1
  exact h1

theorem State.FaultPin.missTile {a} (h : s.FaultPin) : (s.missTile a).FaultPin := by
  unfold State.missTile
  extract_lets x1 x2 x3
  have h1 : x2.FaultPin := .off (.setArr (.bump (.refl _ _) rfl) rfl) h
  clear_value x2
  split
  · exact h
  · exact .off (.setArr (.refl _ _) rfl) h
  · exact .raise h1
  · exact .raise h1
  · exact .raise h1

theorem State.FaultPin.submitAll {k1} (h : s.FaultPin) : (s.submitAll k1).FaultPin := by
  unfold State.submitAll
  exact .foldl h (fun s1 x1 h1 => .ite (.submitStanding h1) h1)

theorem State.FaultPin.closeBinnacle {z2} (h : s.FaultPin) : (s.closeBinnacle z2).FaultPin := by
  unfold State.closeBinnacle
  exact h

theorem State.FaultPin.closeTick {k1} (h : s.FaultPin) : (s.closeTick k1).FaultPin := by
  unfold State.closeTick
  extract_lets x1 x2 x3
  have h1 : x2.FaultPin := .endTickFrames h
  clear_value x2
  have h2 : x3.FaultPin := .carryAll h1
  clear_value x3
  exact .ite h1 (.off (.setTick [.tally] (.refl _ _) rfl rfl (Nat.le_refl _)) h2)

theorem State.FaultPin.meridian {k1 k2} (h : s.FaultPin) : (s.meridian k1 k2).FaultPin := by
  unfold State.meridian
  extract_lets x1 x2 x3 x4 x5 x6 x7 x8 x9 x10 x11 x12 x13
  clear_value x1
  have h2 : x4.FaultPin := .closeTick h
  clear_value x4
  have h3 : x5.FaultPin := .closeBinnacle (.off (.stepTick (.refl _ _) rfl) h2)
  clear_value x5
  clear_value x6
  have h5 : x7.FaultPin := .off (.applyStaged (.refl _ _) rfl) h3
  clear_value x7
  have h6 : x8.FaultPin := .settleUnits h5
  clear_value x8
  have h7 : x9.FaultPin := .ite (.off (.closeSets (.refl _ _) rfl) h6) h6
  clear_value x9
  have h8 : x10.FaultPin := .off (.decrementLease (.openMonitor (.openTick (.refl _ _) rfl) rfl) rfl) h7
  clear_value x10
  have h9 : x11.FaultPin := .off (.returnBuffers (.openIngest (.refl _ _) rfl) rfl) h8
  clear_value x11
  have h11 : x12.FaultPin := .foldl (.refill h9) (fun s1 x14 h10 => .missTile h10)
  clear_value x12
  have h12 : x13.FaultPin := .ite (.raise h11) h11
  clear_value x13
  exact .dispatch (.submitAll h12)

theorem State.FaultPin.of_doMeridian {t} (h : s.FaultPin) : (doMeridian t s).FaultPin := by
  unfold doMeridian
  split
  · exact h
  · exact .ite h (.off (.setRanAt (.refl _ _) rfl) (.advanceCharged (.meridian (.advanceCharged h))))

theorem State.FaultPin.of_doCamTrigPulse {k0} (h : s.FaultPin) : (doCamTrigPulse k0 s).FaultPin := by
  unfold doCamTrigPulse
  refine .ite h ?_
  extract_lets x1 x2
  have h1 : x2.FaultPin := .advanceCharged h
  clear_value x2
  exact .off (.emit (.setTick [.tick] (.refl _ _) rfl rfl (Nat.le_refl _)) rfl) h1

theorem State.FaultPin.of_doCamTrigPulseEnd {k0} (h : s.FaultPin) : (doCamTrigPulseEnd k0 s).FaultPin := by
  unfold doCamTrigPulseEnd
  split
  · exact h
  · extract_lets x1
    have h1 : x1.FaultPin := .advanceCharged h
    clear_value x1
    exact .off (.emit (.setTick [.tick] (.refl _ _) rfl rfl (Nat.le_refl _)) rfl) h1

theorem State.FaultPin.of_doSyncMessage {t ethPort domain origin interval} (h : s.FaultPin) : (doSyncMessage t
    ethPort domain origin interval s).FaultPin := by
  unfold doSyncMessage
  extract_lets x1 x2 x3 x4 x5 x6 x7
  have h1 : x1.FaultPin := .advanceCharged h
  clear_value x1
  have h2 : x6.FaultPin := .off (.setGptp (.refl _ _) rfl) h1
  clear_value x6
  refine .ite h1 ?_
  refine .ite (.off (.setNum (.refl _ _) rfl) h2) ?_
  split
  rename_i y3 y4
  have h3 : y3.FaultPin := .of_eq Prod.snd y4 (.off (.takeFree (.refl _ _) rfl) h2)
  exact .off (.setNum (.setNum (.setNum (.refl _ _) rfl) rfl) rfl) h3

theorem State.FaultPin.of_doPdelayMessage {t ethPort t1 t2 t3 t4} (h : s.FaultPin) : (doPdelayMessage t ethPort t1 t2
    t3 t4 s).FaultPin := by
  unfold doPdelayMessage
  extract_lets x1
  have h1 : x1.FaultPin := .advanceCharged h
  clear_value x1
  exact .ite h1 (.off (.setGptp (.refl _ _) rfl) h1)

theorem State.FaultPin.of_doGptpTimeout {t} (h : s.FaultPin) : (doGptpTimeout t s).FaultPin := by
  unfold doGptpTimeout
  extract_lets x1 x2
  have h1 : x1.FaultPin := .advanceCharged h
  clear_value x1
  exact .ite (.off (.setGptp (.setNum (.refl _ _) rfl) rfl) h1) h1

end Sys2Proof.Machine

/-! PROOFS about FAULT_N and SAFETY_STATE (towards O42): what storage, power and resets keep. -/

namespace Sys2Proof.Machine

variable {s : State}

theorem State.FaultPin.settleAll {old t tick offset} (h : s.FaultPin) : (s.settleAll old t tick offset).FaultPin := by
  unfold State.settleAll
  extract_lets x1 x2 x3
  have h1 : x1.FaultPin := .settleUnits h
  clear_value x1
  have h3 : x2.FaultPin := .foldl h1 (fun s1 x4 h2 => .off (.settleNoise (.settlePanel (.refl _ _) rfl) rfl) h2)
  clear_value x2
  have h4 : x3.FaultPin := .off (.settleBattery (.settleChannels (.settleWatch (.settlePolarity (.refl _ _) rfl) rfl)
      rfl) rfl) h3
  clear_value x3
  exact .off (.settleKeys (.settleTimeSource (.settleSource (.refl _ _) rfl) rfl) rfl) h4

theorem State.FaultPin.settleNow {old} (h : s.FaultPin) : (s.settleNow old).FaultPin := by
  unfold State.settleNow
  exact .settleAll h

theorem State.FaultPin.restoreImage (h : s.FaultPin) : s.restoreImage.FaultPin := by
  unfold State.restoreImage
  exact .off (.loadOthers (.refl _ _) rfl) (.settleNow (.off (.loadStored (.refl _ _) rfl) h))

theorem State.FaultPin.restoreDefaults (h : s.FaultPin) : s.restoreDefaults.FaultPin := by
  unfold State.restoreDefaults
  exact .settleNow h

theorem State.FaultPin.of_doStandbyToReady {t channelMib trained} (h : s.FaultPin) : (doStandbyToReady t channelMib
    trained s).FaultPin := by
  unfold doStandbyToReady
  extract_lets x1 x2 x3 x4 x5 x6 x7 x8
  have h1 : x1.FaultPin := .off (.advance (.refl _ _) rfl) h
  clear_value x1
  have h2 : x4.FaultPin := .off (.initMemory (.setNum (.refl _ _) rfl) rfl) h1
  clear_value x4
  have h3 : x6.FaultPin := h2
  clear_value x6
  have h4 : x8.FaultPin := .off (.enter (.refl _ _) rfl) h3
  clear_value x8
  exact .ite h1 (.ite (.off (.reportPower (.setPower (.setNum (.refl _ _) rfl) rfl) rfl) h1) (.settleUnits h4))

theorem State.FaultPin.powerArray {switchFail tileFail a} (h : s.FaultPin) : (s.powerArray switchFail tileFail
    a).FaultPin := by
  unfold State.powerArray
  extract_lets x1 x2 x3 x4 x5 x6 x7 x8
  have h1 : x5.FaultPin := .off (.setArr (.refl _ _) rfl) h
  clear_value x5
  have h2 : x6.FaultPin := .off (.bump (.refl _ _) rfl) h1
  clear_value x6
  have h3 : x7.FaultPin := .off (.setArr (.bump (.refl _ _) rfl) rfl) h2
  clear_value x7
  exact .ite (.raise (.off (.setArr (.refl _ _) rfl) h)) (.ite h1 (.ite (.raise h3) h2))

theorem State.FaultPin.of_doReadyToRun {t switchFail tileFail} (h : s.FaultPin) : (doReadyToRun t switchFail tileFail
    s).FaultPin := by
  unfold doReadyToRun
  extract_lets x1 x2 x3 x4 x5 x6
  have h1 : x1.FaultPin := .advanceCharged h
  clear_value x1
  have h2 : x4.FaultPin := h1
  clear_value x4
  have h3 : x5.FaultPin := .foldl h2 (fun s1 x7 h3 => .powerArray h3)
  clear_value x5
  exact .ite h1 (.dispatch (.off (.enter (.refl _ _) rfl) h3))

theorem State.FaultPin.of_doRunToReady {t} (h : s.FaultPin) : (doRunToReady t s).FaultPin := by
  unfold doRunToReady
  extract_lets x1 x2 x3
  have h1 : x1.FaultPin := .advanceCharged h
  clear_value x1
  exact .ite h1 (.off (.enter (.setPower (.gateArrays (.refl _ _) rfl) rfl) rfl) h1)

theorem State.FaultPin.of_doReadyToStandby {t} (h : s.FaultPin) : (doReadyToStandby t s).FaultPin := by
  unfold doReadyToStandby
  extract_lets x1 x2 x3 x4 x5
  have h1 : x1.FaultPin := .off (.advance (.refl _ _) rfl) h
  clear_value x1
  have h2 : x2.FaultPin := .foldl h1 (fun s1 y1 k1 => .endFrame k1)
  clear_value x2
  have h3 : x4.FaultPin := h2
  clear_value x4
  exact .ite h1 (.off (.enter (.refl _ _) rfl) h3)

theorem State.FaultPin.hostOff (s : State) : s.hostOff.FaultPin := .starting rfl rfl

theorem State.FaultPin.of_doStandbyToDormant {t} (h : s.FaultPin) : (doStandbyToDormant t s).FaultPin := by
  unfold doStandbyToDormant
  extract_lets x1 x2 x3 x4 x5 x6 x7 x8
  have h1 : x1.FaultPin := .off (.advance (.refl _ _) rfl) h
  have h6 : x6.FaultPin := .hostOff _
  clear_value x6
  have h7 : x7.FaultPin := .ite h6 (.off (.setTick [.tick] (.setNum (.refl _ _) rfl) rfl rfl (Nat.le_refl _)) h6)
  clear_value x7
  exact .ite h1 (.off (.setPower (.refl _ _) rfl) h7)

theorem State.FaultPin.coldStart (s : State) (cause : Nat) : (s.coldStart cause).FaultPin := by
  unfold State.coldStart
  extract_lets x1 x2 y1 x3 x4 x5
  have h1 : x3.FaultPin := .starting rfl rfl
  clear_value x3
  have h2 : x4.FaultPin := .off (.setNum (.loadStored (.refl _ _) rfl) rfl) h1
  clear_value x4
  have h3 : x5.FaultPin := .settleUnits h2
  clear_value x5
  exact .ite h3 (.off (.setNum (.refl _ _) rfl) h3)

theorem State.FaultPin.of_doPowerOnReset (s : State) : (doPowerOnReset s).FaultPin := by
  unfold doPowerOnReset
  extract_lets x1 x2
  have h1 : x1.FaultPin := .coldStart s 0
  clear_value x1
  have h2 : x2.FaultPin := .off (.bumpBy (.refl _ _) rfl) h1
  clear_value x2
  exact .off (.setNum (.refl _ _) rfl) h2

theorem State.FaultPin.of_doResetN {t lowFor} (h : s.FaultPin) : (doResetN t lowFor s).FaultPin := by
  unfold doResetN
  refine .ite (.off (.advance (.refl _ _) rfl) h) ?_
  extract_lets x1 x2 x3 x4 x5 x6
  have h1 : x2.FaultPin := .coldStart s 1
  clear_value x2
  have h2 : x6.FaultPin := .off (.setPower (.refl _ _) rfl) h1
  clear_value x6
  exact .off (.bump (.setNum (.setNum (.refl _ _) rfl) rfl) rfl) h2

theorem State.FaultPin.endBoot {controller binnacle microcode} (h : s.FaultPin) : (State.endBoot s controller
    binnacle microcode).FaultPin := by
  unfold State.endBoot
  extract_lets x1 x2 x3 x4 x5
  have h1 : x2.FaultPin := .off (.setNum (.setNum (.setNum (.setPower (.refl _ _) rfl) rfl) rfl) rfl) h
  clear_value x2
  have h2 : x4.FaultPin := .ite h1 (.starting rfl rfl)
  clear_value x4
  have h3 : x5.FaultPin := .off (.startKeys (.startGenerator (.refl _ _) rfl) rfl) h2
  clear_value x5
  exact .ite (.starting rfl rfl) (.off (.reportAborted (.startTouch (.enter (.refl _ _) rfl) rfl) rfl) h3)

theorem State.FaultPin.of_doBootComplete {t flash} (h : s.FaultPin) : (doBootComplete t flash s).FaultPin := by
  unfold doBootComplete
  extract_lets x1
  have h1 : x1.FaultPin := .off (.advance (.refl _ _) rfl) h
  clear_value x1
  exact .ite h1 (.endBoot h1)

theorem State.FaultPin.warmReset (h : s.FaultPin) : s.warmReset.FaultPin := by
  unfold State.warmReset
  extract_lets x1 x2 x3 x4 x5 x6 x7 x8 x9 x10
  have h1 : x1.FaultPin := .endWhere h
  clear_value x1
  have h2 : x1.resetLinked.FaultPin := .off (.resetLinked (.refl _ _) rfl) h1
  have h3 : x3.FaultPin := h2
  clear_value x3
  have h4 : x4.FaultPin := .off (.abandonReads (.refl _ _) rfl) h3
  clear_value x4
  have h5 : x5.FaultPin := .foldl h4 (fun s1 y1 k1 => .giveVerdict k1)
  clear_value x5
  have h6 : x9.FaultPin := h5
  clear_value x9
  have h7 : x10.FaultPin := .foldl h6 (fun s1 y1 k1 => .ite (.off (.bump (.refl _ _) rfl) k1) k1)
  clear_value x10
  exact .off (.bump (.setNum (.setNum (.refl _ _) rfl) rfl) rfl) h7

end Sys2Proof.Machine

/-! PROOFS about FAULT_N and SAFETY_STATE (towards O42): what the binnacle, requests and mailboxes keep. -/

namespace Sys2Proof.Machine

variable {s : State}

theorem State.FaultPin.of_doClockFault {t d} (h : s.FaultPin) : (doClockFault t d s).FaultPin := by
  unfold doClockFault
  extract_lets x1 x2 x3
  have h1 : x1.FaultPin := .off (.advance (.refl _ _) rfl) h
  clear_value x1
  have h2 : x3.FaultPin := h1
  clear_value x3
  exact .ite h1 (.ite h2 (.raise h2))

theorem State.FaultPin.of_doVoltageFault {t r} (h : s.FaultPin) : (doVoltageFault t r s).FaultPin := by
  unfold doVoltageFault
  extract_lets x1 x2 x3
  have h1 : x1.FaultPin := .off (.advance (.refl _ _) rfl) h
  clear_value x1
  have h2 : x3.FaultPin := h1
  clear_value x3
  exact .ite h1 (.raise h2)

theorem State.FaultPin.of_doClockFaultCleared {t d} (h : s.FaultPin) : (doClockFaultCleared t d s).FaultPin := by
  unfold doClockFaultCleared
  extract_lets x1 x2
  have h1 : x1.FaultPin := .off (.advance (.refl _ _) rfl) h
  clear_value x1
  exact h1

theorem State.FaultPin.of_doVoltageFaultCleared {t r} (h : s.FaultPin) : (doVoltageFaultCleared t r s).FaultPin := by
  unfold doVoltageFaultCleared
  extract_lets x1 x2
  have h1 : x1.FaultPin := .off (.advance (.refl _ _) rfl) h
  clear_value x1
  exact h1

theorem State.FaultPin.of_doBinnacleLockstepMismatch {t} (h : s.FaultPin) : (doBinnacleLockstepMismatch t s).FaultPin
    := by
  unfold doBinnacleLockstepMismatch
  exact .ite (.off (.advance (.refl _ _) rfl) h) (.lockstepMismatch _)

theorem State.FaultPin.of_doBinnacleWatchdog {t} (h : s.FaultPin) : (doBinnacleWatchdog t s).FaultPin := by
  unfold doBinnacleWatchdog
  exact .ite (.off (.advance (.refl _ _) rfl) h) (.binnacleReset _)

theorem State.FaultPin.of_doBinnacleStart {t} (h : s.FaultPin) : (doBinnacleStart t s).FaultPin := by
  unfold doBinnacleStart
  extract_lets x1 x2
  have h1 : x1.FaultPin := .off (.advance (.refl _ _) rfl) h
  clear_value x1
  exact .ite h1 (.binnacleUp h1)

theorem State.FaultPin.of_doLogbookCommit {t} (h : s.FaultPin) : (doLogbookCommit t s).FaultPin := by
  unfold doLogbookCommit
  extract_lets x1 x2
  have h1 : x1.FaultPin := .off (.advance (.refl _ _) rfl) h
  clear_value x1
  split
  · exact h1
  · exact .ite h1 (.react h1)

theorem State.FaultPin.of_doSafetyMsgPeriodic (h : s.FaultPin) : (doSafetyMsgPeriodic s).FaultPin := by
  unfold doSafetyMsgPeriodic
  split
  · extract_lets x1 x2 x3
    have h1 : x1.FaultPin := .off (.advance (.refl _ _) rfl) h
    clear_value x1
    have h2 : x2.FaultPin := .queueMessage h1
    clear_value x2
    exact .ite h1 h2
  · exact h

theorem State.FaultPin.of_doSafetyMsgTransmit {t} (h : s.FaultPin) : (doSafetyMsgTransmit t s).FaultPin := by
  unfold doSafetyMsgTransmit
  extract_lets x1
  have h1 : x1.FaultPin := .off (.advance (.refl _ _) rfl) h
  clear_value x1
  split
  · exact h1
  · refine .ite h1 ?_
    extract_lets x2 x3
    have h2 : x2.FaultPin := .off (.emit (.refl _ _) rfl) h1
    clear_value x2
    exact .off (.bump (.refl _ _) rfl) h2

theorem State.FaultPin.request {t p sender service seq index sub serve} (h : s.FaultPin) (hs : ∀ s, s.FaultPin →
    (serve s).state.FaultPin) : (s.request t p sender service seq index sub serve).FaultPin := by
  unfold State.request
  extract_lets x1 x2 x3
  have h1 : x1.FaultPin := .off (.settleOwnership (.refl _ _) rfl) (.advanceCharged h)
  clear_value x1
  have h2 : x2.FaultPin := .off (.notePeer (.acceptOn (.refl _ _) rfl) rfl) h1
  clear_value x2
  have h3 : x3.state.FaultPin := .ite_of Reply.state h2 (hs _ h2)
  exact .ite h1 (.ite (.off (.dropPdu (.refl _ _) rfl) h1) (.send h3))

theorem State.FaultPin.applyNow {a v} (h : s.FaultPin) : (s.applyNow a v).FaultPin := by
  unfold State.applyNow
  exact .settleNow (.off (.setVal (.refl _ _) rfl) h)

theorem State.FaultPin.putSetting {a v} (h : s.FaultPin) : (s.putSetting a v).FaultPin := by
  unfold State.putSetting
  extract_lets x1 x2
  have h1 : x2.FaultPin := .off (.setVal (.refl _ _) rfl) h
  clear_value x2
  refine .ite (.off (.stage (.refl _ _) rfl) h) ?_
  refine .ite (.off (.setNum (.refl _ _) rfl) h) ?_
  refine .ite (.off (.setSlot (.setVal (.refl _ _) rfl) rfl) h) ?_
  refine .ite (.off (.setNum (.refl _ _) rfl) h1) ?_
  exact .applyNow h

theorem State.FaultPin.command {a v} (h : s.FaultPin) : ((s.command a v).getD s).FaultPin := by
  unfold State.command
  extract_lets x1 x2 x3 x4
  refine .ite_getD (.getD_some (.off (.requestRealign (.refl _ _) rfl) h)) ?_
  refine .ite_getD (.getD_some (.off (.startStore (.refl _ _) rfl) h)) ?_
  refine .ite_getD (.getD_some (.restoreImage h)) ?_
  refine .ite_getD (.getD_some (.restoreDefaults h)) ?_
  refine .ite_getD (.getD_some (.faultAck h)) ?_
  refine .ite_getD (.getD_some (.off (.setArr (.refl _ _) rfl) h)) ?_
  refine .ite_getD (.getD_some (.off (.clearLogbook (.refl _ _) rfl) h)) ?_
  refine .ite_getD (.getD_some (.off (.ackEvents (.refl _ _) rfl) h)) ?_
  refine .ite_getD (.getD_some (.ite (.off (.requestLock (.refl _ _) rfl) h) (.off (.ownerUnlock (.refl _ _) rfl)
      h))) ?_
  refine .ite_getD (.getD_some (.foldl h (fun s1 x5 h1 => .off (.startTest (.refl _ _) rfl) h1))) ?_
  refine .ite_getD (.getD_some (.off (.startSequence (.refl _ _) rfl) h)) ?_
  refine .ite_getD (.getD_some (.off (.endSequence (.refl _ _) rfl) h)) ?_
  refine .ite_getD (.getD_some (.off (.driveTrip (.refl _ _) rfl) h)) ?_
  refine .ite_getD (.getD_some (.off (.setNum (.refl _ _) rfl) h)) ?_
  refine .ite_getD (.getD_some (.off (.commandPower (.refl _ _) rfl) h)) ?_
  refine .ite_getD (.getD_some (.warmReset h)) ?_
  refine .ite_getD (.getD_some (.off (.setPower (.refl _ _) rfl) h)) ?_
  refine .ite_getD (.getD_some h) ?_
  refine .ite_getD (.getD_some h) ?_
  refine .ite_getD (.getD_some h) ?_
  exact h

theorem State.FaultPin.unitCommand {a x} (h : s.FaultPin) : ((s.unitCommand a x).elim s Prod.snd).FaultPin := by
  unfold State.unitCommand
  extract_lets x1
  refine .ite_elim (.elim_some (.off (.releaseBuffer (.refl _ _) rfl) h)) ?_
  refine .ite_elim (.elim_some (.off (.acquireBuffer (.refl _ _) rfl) h)) ?_
  refine .ite_elim (.elim_some (.dispatch (.endQueue h))) ?_
  refine .ite_elim (.elim_some (.tfResolve h)) ?_
  refine .ite_elim (.elim_some (.off (.ackReports (.refl _ _) rfl) h)) ?_
  exact h

theorem State.FaultPin.perform {p a v} (h : s.FaultPin) : (s.perform p a v).2.FaultPin := by
  unfold State.perform
  refine .ite_of Prod.snd (.off (.putSelector (.refl _ _) rfl) h) ?_
  refine .ite_of Prod.snd (.ite (.off (.setNum (.refl _ _) rfl) h) h) ?_
  refine .ite_of Prod.snd (.off (.presetCounter (.refl _ _) rfl) h) ?_
  refine .ite_of Prod.snd (.off (.answerDebug (.refl _ _) rfl) h) ?_
  split
  · rename_i y2 y3
    have h1 : y2.2.FaultPin := .of_eq (Option.elim · s Prod.snd) y3 (.unitCommand h)
    exact h1
  · split
    · rename_i y7 y8
      have h2 : y7.FaultPin := .of_eq (Option.getD · s) y8 (.command h)
      exact h2
    · exact .putSetting h

theorem State.FaultPin.serveWrite {p sender seq flags a payload} (h : s.FaultPin) : (s.serveWrite p sender seq flags
    a payload).state.FaultPin := by
  unfold State.serveWrite
  extract_lets x1
  split
  · exact h
  · refine .ite_of Reply.state (.off_reply (State.Sound.serveInvalidate (.refl _ _) rfl) h) ?_
    refine .ite_of Reply.state (.off_reply (State.Sound.serveControllerReset (.refl _ _) rfl) h) ?_
    split
    · rename_i y8 y9
      have h1 : y8.FaultPin := .of_eq Prod.snd y9 (.perform h)
      exact h1
    · rename_i y11 y12
      have h2 : y11.FaultPin := .of_eq Prod.snd y12 (.perform h)
      exact .ite h2 (.off (.touchLease (.refl _ _) rfl) h2)

theorem State.FaultPin.takeSegment {p g x data} (h : s.FaultPin) : (s.takeSegment p g x data).state.FaultPin := by
  unfold State.takeSegment
  extract_lets x1 x2 x3 x4
  have h1 : x3.FaultPin := .off (.setPort (.refl _ _) rfl) h
  clear_value x3
  have h2 : ∀ x4a1, x4a1.FaultPin → (x4 x4a1).state.FaultPin := by
    intro x4a1 x4h1
    unfold x4
    exact .off (.touchLease (.setPort (.refl _ _) rfl) rfl) x4h1
  clear_value x4
  refine .ite_of Reply.state (h2 _ h1) ?_
  split
  · exact .off_reply (State.Sound.breakTransfer (.refl _ _) rfl) h1
  · split
    · rename_i y1 y2 y3 y4 y5 y6
      have h3 : y5.FaultPin := .of_eq Prod.snd y6 (.perform h1)
      exact .off_reply (State.Sound.breakTransfer (.refl _ _) rfl) h3
    · rename_i y4 y5
      have h3 : y4.FaultPin := .of_eq Prod.snd y5 (.perform h1)
      exact h2 _ h3

theorem State.FaultPin.initSegment {p g} (h : s.FaultPin) : (s.initSegment p g).state.FaultPin := by
  unfold State.initSegment
  extract_lets x1 x2 x3
  have h1 : x2.FaultPin := .off (.setPort (.discardTransfer (.refl _ _) rfl) rfl) h
  clear_value x2
  refine .ite_of Reply.state h1 ?_
  refine .ite_of Reply.state h1 ?_
  refine .ite_of Reply.state (.off_reply (State.Sound.refuseInit (.refl _ _) rfl) h1) ?_
  split
  · exact .off_reply (State.Sound.refuseInit (.refl _ _) rfl) h1
  · refine .ite_of Reply.state (.takeSegment h1) ?_
    exact .off_reply (State.Sound.sendSegment (.readRecords (.refl _ _) rfl) rfl) h1

theorem State.FaultPin.nextSegment {p g x} (h : s.FaultPin) : (s.nextSegment p g x).state.FaultPin := by
  unfold State.nextSegment
  refine .ite_of Reply.state (.off_reply (State.Sound.breakTransfer (.refl _ _) rfl) h) ?_
  refine .ite_of Reply.state (.off_reply (State.Sound.breakTransfer (.refl _ _) rfl) h) ?_
  split
  · exact .off_reply (State.Sound.breakTransfer (.refl _ _) rfl) h
  · exact .ite_of Reply.state (.takeSegment h) (.off_reply (State.Sound.sendSegment (.refl _ _) rfl) h)

theorem State.FaultPin.freshSegment {p g} (h : s.FaultPin) : (s.freshSegment p g).state.FaultPin := by
  unfold State.freshSegment
  refine .ite_of Reply.state (.off_reply (State.Sound.breakTransfer (.refl _ _) rfl) h) ?_
  refine .ite_of Reply.state (.initSegment h) ?_
  split
  · exact h
  · exact .ite_of Reply.state h (.nextSegment h)

theorem State.FaultPin.serveBlock {p write seq flags a payload} (h : s.FaultPin) : (s.serveBlock p write seq flags a
    payload).state.FaultPin := by
  unfold State.serveBlock
  extract_lets x1 x2
  have h1 : x2.FaultPin := .off (.expireTransfer (.refl _ _) rfl) h
  clear_value x2
  refine .ite_of Reply.state h ?_
  split
  · exact .ite_of Reply.state (.off_reply (State.Sound.repeatResponse (.refl _ _) rfl) h1) (.freshSegment h1)
  · exact .freshSegment h1

theorem State.FaultPin.servePdu {x service serve} (h : s.FaultPin) (hs : ∀ s, s.FaultPin → (serve s).state.FaultPin)
    : (s.servePdu x service serve).FaultPin := by
  unfold State.servePdu
  exact .request h hs

theorem State.FaultPin.of_doClaim {p} (h : s.FaultPin) : (doClaim p s).FaultPin := by
  unfold doClaim
  exact .servePdu h (fun s1 h1 => .off_reply (State.Sound.serveClaim (.refl _ _) rfl) h1)

theorem State.FaultPin.of_doRenew {p} (h : s.FaultPin) : (doRenew p s).FaultPin := by
  unfold doRenew
  exact .servePdu h (fun s1 h1 => .off_reply (State.Sound.serveRenew (.refl _ _) rfl) h1)

theorem State.FaultPin.of_doHandover {p} (h : s.FaultPin) : (doHandover p s).FaultPin := by
  unfold doHandover
  exact .servePdu h (fun s1 h1 => .off_reply (State.Sound.serveHandover (.refl _ _) rfl) h1)

theorem State.FaultPin.of_doAccept {p} (h : s.FaultPin) : (doAccept p s).FaultPin := by
  unfold doAccept
  exact .servePdu h (fun s1 h1 => .off_reply (State.Sound.serveAccept (.refl _ _) rfl) h1)

theorem State.FaultPin.of_doNotifyReceived {p} (h : s.FaultPin) : (doNotifyReceived p s).FaultPin := by
  unfold doNotifyReceived
  exact .servePdu h (fun s1 h1 => h1)

theorem State.FaultPin.of_doUnknownService {p code} (h : s.FaultPin) : (doUnknownService p code s).FaultPin := by
  unfold doUnknownService
  exact .ite h (.servePdu h (fun s1 h1 => h1))

theorem State.FaultPin.of_doRead {p} (h : s.FaultPin) : (doRead p s).FaultPin := by
  unfold doRead
  exact .servePdu h (fun s1 h1 => .off_reply (State.Sound.serveRead (.refl _ _) rfl) h1)

theorem State.FaultPin.of_doWrite {p} (h : s.FaultPin) : (doWrite p s).FaultPin := by
  unfold doWrite
  exact .servePdu h (fun t1 k1 => .serveWrite k1)

theorem State.FaultPin.of_doReadBlock {p} (h : s.FaultPin) : (doReadBlock p s).FaultPin := by
  unfold doReadBlock
  exact .servePdu h (fun t1 k1 => .serveBlock k1)

theorem State.FaultPin.of_doWriteBlock {p} (h : s.FaultPin) : (doWriteBlock p s).FaultPin := by
  unfold doWriteBlock
  exact .servePdu h (fun t1 k1 => .serveBlock k1)

theorem State.FaultPin.writeRow {r a} (h : s.FaultPin) : (s.writeRow r a).FaultPin := by
  unfold State.writeRow
  exact .request h (fun t1 k1 => .serveWrite k1)

theorem State.FaultPin.blockRow {p write a} (h : s.FaultPin) : (s.blockRow p write a).FaultPin := by
  unfold State.blockRow
  exact .request h (fun t1 k1 => .serveBlock k1)

theorem State.FaultPin.of_doRealign {r} (h : s.FaultPin) : (doRealign r s).FaultPin := by
  unfold doRealign
  exact .writeRow h

theorem State.FaultPin.of_doStore {r} (h : s.FaultPin) : (doStore r s).FaultPin := by
  unfold doStore
  exact .writeRow h

theorem State.FaultPin.of_doRestore {r} (h : s.FaultPin) : (doRestore r s).FaultPin := by
  unfold doRestore
  exact .writeRow h

theorem State.FaultPin.of_doRestoreFactory {r} (h : s.FaultPin) : (doRestoreFactory r s).FaultPin := by
  unfold doRestoreFactory
  exact .writeRow h

theorem State.FaultPin.of_doRelease {r slot} (h : s.FaultPin) : (doRelease r slot s).FaultPin := by
  unfold doRelease
  exact .writeRow h

theorem State.FaultPin.of_doAcquire {r slot} (h : s.FaultPin) : (doAcquire r slot s).FaultPin := by
  unfold doAcquire
  exact .writeRow h

theorem State.FaultPin.of_doQueueAbort {r q} (h : s.FaultPin) : (doQueueAbort r q s).FaultPin := by
  unfold doQueueAbort
  exact .writeRow h

theorem State.FaultPin.of_doTlbInvalidate {r} (h : s.FaultPin) : (doTlbInvalidate r s).FaultPin := by
  unfold doTlbInvalidate
  exact .writeRow h

theorem State.FaultPin.of_doFaultAck {r} (h : s.FaultPin) : (doFaultAck r s).FaultPin := by
  unfold doFaultAck
  exact .writeRow h

theorem State.FaultPin.of_doArrayFaultClear {r} (h : s.FaultPin) : (doArrayFaultClear r s).FaultPin := by
  unfold doArrayFaultClear
  exact .writeRow h

theorem State.FaultPin.of_doLogbookClear {r} (h : s.FaultPin) : (doLogbookClear r s).FaultPin := by
  unfold doLogbookClear
  exact .writeRow h

theorem State.FaultPin.of_doEventAck {r} (h : s.FaultPin) : (doEventAck r s).FaultPin := by
  unfold doEventAck
  exact .writeRow h

theorem State.FaultPin.of_doPanelEnable {r p} (h : s.FaultPin) : (doPanelEnable r p s).FaultPin := by
  unfold doPanelEnable
  exact .writeRow h

theorem State.FaultPin.of_doSelfTest {r} (h : s.FaultPin) : (doSelfTest r s).FaultPin := by
  unfold doSelfTest
  exact .writeRow h

theorem State.FaultPin.of_doReportAck {r p} (h : s.FaultPin) : (doReportAck r p s).FaultPin := by
  unfold doReportAck
  exact .writeRow h

theorem State.FaultPin.of_doSeqRun {r} (h : s.FaultPin) : (doSeqRun r s).FaultPin := by
  unfold doSeqRun
  exact .writeRow h

theorem State.FaultPin.of_doSeqAbort {r} (h : s.FaultPin) : (doSeqAbort r s).FaultPin := by
  unfold doSeqAbort
  exact .writeRow h

theorem State.FaultPin.of_doTripClear {r} (h : s.FaultPin) : (doTripClear r s).FaultPin := by
  unfold doTripClear
  exact .writeRow h

theorem State.FaultPin.of_doPlatPendingClear {r} (h : s.FaultPin) : (doPlatPendingClear r s).FaultPin := by
  unfold doPlatPendingClear
  exact .writeRow h

theorem State.FaultPin.of_doPowerCmd {r} (h : s.FaultPin) : (doPowerCmd r s).FaultPin := by
  unfold doPowerCmd
  exact .writeRow h

theorem State.FaultPin.of_doWarmReset {r} (h : s.FaultPin) : (doWarmReset r s).FaultPin := by
  unfold doWarmReset
  exact .writeRow h

theorem State.FaultPin.of_doCtlReset {r} (h : s.FaultPin) : (doCtlReset r s).FaultPin := by
  unfold doCtlReset
  exact .writeRow h

theorem State.FaultPin.of_doDebugLock {r} (h : s.FaultPin) : (doDebugLock r s).FaultPin := by
  unfold doDebugLock
  exact .writeRow h

theorem State.FaultPin.of_doPersistClear {r} (h : s.FaultPin) : (doPersistClear r s).FaultPin := by
  unfold doPersistClear
  exact .writeRow h

theorem State.FaultPin.of_doCounterPreset {r index sub sameCycle} (h : s.FaultPin) : (doCounterPreset r index sub
    sameCycle s).FaultPin := by
  unfold doCounterPreset
  extract_lets x1
  refine .ite h ?_
  refine .request h ?_
  intro t1 k1
  split
  · rename_i y4 y5
    have h1 : y4.FaultPin := .of_eq Reply.state y5 (.serveWrite k1)
    exact .ite (.off (.bump (.refl _ _) rfl) h1) h1
  · exact .serveWrite k1

theorem State.FaultPin.of_doWrapFlagClear {r index sub wrapsInCycle} (h : s.FaultPin) : (doWrapFlagClear r index sub
    wrapsInCycle s).FaultPin := by
  unfold doWrapFlagClear
  extract_lets x1
  refine .ite h ?_
  refine .request h ?_
  intro t1 k1
  split
  · rename_i y4 y5
    have h1 : y4.FaultPin := .of_eq Reply.state y5 (.serveWrite k1)
    refine ?_
    split
    · exact .ite (.off (.bump (.refl _ _) rfl) h1) h1
    · exact h1
  · exact .serveWrite k1

theorem State.FaultPin.resolveRow {via q x} (h : s.FaultPin) : (s.resolveRow via q x).FaultPin := by
  unfold State.resolveRow
  split
  · exact .mirrorResolve h
  · exact .writeRow h

theorem State.FaultPin.of_doTfResolveRetry {via q} (h : s.FaultPin) : (doTfResolveRetry via q s).FaultPin := by
  unfold doTfResolveRetry
  exact .resolveRow h

theorem State.FaultPin.of_doTfResolveAbort {via q} (h : s.FaultPin) : (doTfResolveAbort via q s).FaultPin := by
  unfold doTfResolveAbort
  exact .resolveRow h

theorem State.FaultPin.of_doReadSelectorWrite {r persist} (h : s.FaultPin) : (doReadSelectorWrite r persist
    s).FaultPin := by
  unfold doReadSelectorWrite
  exact .writeRow h

theorem State.FaultPin.of_doLogbookExport {p} (h : s.FaultPin) : (doLogbookExport p s).FaultPin := by
  unfold doLogbookExport
  exact .blockRow h

theorem State.FaultPin.of_doKeyLock {r} (h : s.FaultPin) : (doKeyLock r s).FaultPin := by
  unfold doKeyLock
  exact .writeRow h

theorem State.FaultPin.of_doKeyUnlock {r} (h : s.FaultPin) : (doKeyUnlock r s).FaultPin := by
  unfold doKeyUnlock
  exact .writeRow h

theorem State.FaultPin.of_doKeyEnableMask {p} (h : s.FaultPin) : (doKeyEnableMask p s).FaultPin := by
  unfold doKeyEnableMask
  exact .blockRow h

theorem State.FaultPin.of_doDebugResponse {via} (h : s.FaultPin) : (doDebugResponse via s).FaultPin := by
  unfold doDebugResponse
  split
  · exact .blockRow h
  · exact .off (.tapLoad (.advance (.refl _ _) rfl) rfl) h
  · exact .off (.tapScan (.advance (.refl _ _) rfl) rfl) h

theorem State.FaultPin.of_doTouchRefMapWrite {p} (h : s.FaultPin) : (doTouchRefMapWrite p s).FaultPin := by
  unfold doTouchRefMapWrite
  exact .blockRow h

theorem State.FaultPin.of_doSecurityVersionRaise {p} (h : s.FaultPin) : (doSecurityVersionRaise p s).FaultPin := by
  unfold doSecurityVersionRaise
  exact .blockRow h

theorem State.FaultPin.messageWrite {z2 type a x} (h : s.FaultPin) : (s.messageWrite z2 type a x).FaultPin := by
  unfold State.messageWrite
  extract_lets x1
  split
  · exact .off (.refuseMessage (.refl _ _) rfl) h
  · split
    · rename_i y1 y2 y3 y4 y5 y6
      have h1 : y5.FaultPin := .of_eq Prod.snd y6 (.perform h)
      exact .off (.refuseMessage (.refl _ _) rfl) h1
    · rename_i y4 y5
      have h1 : y4.FaultPin := .of_eq Prod.snd y5 (.perform h)
      exact .off (.touchLease (.refl _ _) rfl) h1

theorem State.FaultPin.takeKeyAck {z2 payload} (h : s.FaultPin) : (s.takeKeyAck z2 payload).FaultPin := by
  unfold State.takeKeyAck
  exact .ite (.off (.refuseMessage (.refl _ _) rfl) h) (.messageWrite h)

theorem State.FaultPin.takeTouchAck {z2 payload} (h : s.FaultPin) : (s.takeTouchAck z2 payload).FaultPin := by
  unfold State.takeTouchAck
  refine .ite (.off (.refuseMessage (.refl _ _) rfl) h) ?_
  extract_lets x1
  exact .ite (.off (.refuseMessage (.refl _ _) rfl) h) (.messageWrite h)

theorem State.FaultPin.of_doKeyAck {t z2 payload} (h : s.FaultPin) : (doKeyAck t z2 payload s).FaultPin := by
  unfold doKeyAck
  extract_lets x1
  have h1 : x1.FaultPin := .off (.settleOwnership (.refl _ _) rfl) (.advanceCharged h)
  clear_value x1
  exact .ite h1 (.takeKeyAck h1)

theorem State.FaultPin.of_doTouchAck {t z2 payload} (h : s.FaultPin) : (doTouchAck t z2 payload s).FaultPin := by
  unfold doTouchAck
  extract_lets x1
  have h1 : x1.FaultPin := .off (.settleOwnership (.refl _ _) rfl) (.advanceCharged h)
  clear_value x1
  exact .ite h1 (.takeTouchAck h1)

theorem State.FaultPin.runPdu {p service} (h : s.FaultPin) : (s.runPdu p service).FaultPin := by
  unfold State.runPdu
  split
  · exact .of_doRead h
  · exact .of_doWrite h
  · exact .of_doReadBlock h
  · exact .of_doWriteBlock h
  · exact .of_doClaim h
  · exact .of_doRenew h
  · exact .of_doHandover h
  · exact .of_doAccept h
  · exact .of_doNotifyReceived h
  · exact .of_doUnknownService h

theorem State.FaultPin.takePdu {t b} (h : s.FaultPin) : (s.takePdu t b).FaultPin := by
  unfold State.takePdu
  exact .ite (.off (.bump (.refl _ _) rfl) h) (.runPdu h)

theorem State.FaultPin.takeMessage {z2 b} (h : s.FaultPin) : (s.takeMessage z2 b).FaultPin := by
  unfold State.takeMessage
  extract_lets x1 x2
  refine .ite (.off (.refuseMessage (.refl _ _) rfl) h) ?_
  refine .ite (.off (.refuseMessage (.refl _ _) rfl) h) ?_
  refine .ite (.takeKeyAck h) ?_
  exact .takeTouchAck h

theorem State.FaultPin.of_doMailboxTake {t k1} (h : s.FaultPin) : (doMailboxTake t k1 s).FaultPin := by
  unfold doMailboxTake
  extract_lets x1 x2 x3 x4
  have h1 : x1.FaultPin := .off (.settleOwnership (.refl _ _) rfl) (.advanceCharged h)
  clear_value x1
  have h2 : x3.FaultPin := .off (.sendVector (.setMailbox (.refl _ _) rfl) rfl) h1
  clear_value x3
  exact .ite h1 (.ite (.takePdu h2) (.takeMessage h2))

theorem State.FaultPin.writeQueue {q k2 value} (h : s.FaultPin) : (s.writeQueue q k2 value).FaultPin := by
  unfold State.writeQueue
  split
  · exact .ringRegister h
  · exact .ringRegister h
  · exact .ringRegister h
  · exact .ringRegister h
  · exact .ringRegister h
  · exact .off (.setQueue (.refl _ _) rfl) h
  · exact .off (.setQueue (.refl _ _) rfl) h
  · exact .ite (.resume h) h
  · exact .ite (.tfResolve h) h
  · exact h

theorem State.FaultPin.windowWrite {k1 value enables} (h : s.FaultPin) : (s.windowWrite k1 value enables).FaultPin :=
    by
  unfold State.windowWrite
  refine .ite (.off (.writeMailBytes (.refl _ _) rfl) h) ?_
  refine .ite h ?_
  refine .ite h ?_
  refine .ite (.off (.invalidate (.refl _ _) rfl) h) ?_
  refine .ite (.writeQueue h) ?_
  refine .ite (.off (.writeMsix (.refl _ _) rfl) h) ?_
  refine .ite (.off (.writeRing (.refl _ _) rfl) h) ?_
  refine .ite (.off (.presetMirror (.refl _ _) rfl) h) ?_
  refine .ite (.off (.writeRegister (.refl _ _) rfl) h) ?_
  exact h

theorem State.FaultPin.of_doMsixVectorUnmask {t offset value enables} (h : s.FaultPin) : (doMsixVectorUnmask t offset
    value enables s).FaultPin := by
  unfold doMsixVectorUnmask
  extract_lets x1
  have h1 : x1.FaultPin := .advanceCharged h
  clear_value x1
  exact .ite (.windowWrite h1) h1

/-! ## Every command -/

theorem State.FaultPin.of_next {x t : State} (h : x.FaultPin) (e : (.next x : Host.Outcome State Fault Refusal) = .next t) :
    t.FaultPin := Host.Outcome.next.inj e ▸ h

/-- A command keeps FAULT_N with SAFETY_STATE: one that touches nothing of the binnacle by `touched`, any other by the
lemma about its meaning. -/
theorem State.FaultPin.of_exec {i : Instr} {s t : State} (h : s.FaultPin) (e : exec i s = .next t) : t.FaultPin := by
  by_cases hb : (touched i).contains .bin = true
  · cases i with
    | meridian _ => exact .of_next (.of_doMeridian h) e
    | pinEventQualified _ _ => exact .of_next (.of_doPinEventQualified h) e
    | gptpScheduleEvent _ => exact .of_next (.of_doGptpScheduleEvent h) e
    | captureWindowClose => exact .of_next (.of_doCaptureWindowClose h) e
    | realign _ => exact .of_next (.of_doRealign h) e
    | realignSearchTimeout => exact .of_next (.of_doRealignSearchTimeout h) e
    | housekeepingMark => exact .of_next (.of_doHousekeepingMark h) e
    | camTrigPulse _ => exact .of_next (.of_doCamTrigPulse h) e
    | syncMessage _ _ _ _ _ => exact .of_next (.of_doSyncMessage h) e
    | pdelayMessage _ _ _ _ _ _ => exact .of_next (.of_doPdelayMessage h) e
    | gptpTimeout _ => exact .of_next (.of_doGptpTimeout h) e
    | read _ => exact .of_next (.of_doRead h) e
    | write _ => exact .of_next (.of_doWrite h) e
    | readBlock _ => exact .of_next (.of_doReadBlock h) e
    | writeBlock _ => exact .of_next (.of_doWriteBlock h) e
    | claim _ => exact .of_next (.of_doClaim h) e
    | renew _ => exact .of_next (.of_doRenew h) e
    | handover _ => exact .of_next (.of_doHandover h) e
    | accept _ => exact .of_next (.of_doAccept h) e
    | notifyReceived _ => exact .of_next (.of_doNotifyReceived h) e
    | unknownService _ _ => exact .of_next (.of_doUnknownService h) e
    | store _ => exact .of_next (.of_doStore h) e
    | restore _ => exact .of_next (.of_doRestore h) e
    | restoreFactory _ => exact .of_next (.of_doRestoreFactory h) e
    | counterPreset _ _ _ _ => exact .of_next (.of_doCounterPreset h) e
    | wrapFlagClear _ _ _ _ => exact .of_next (.of_doWrapFlagClear h) e
    | frameStart _ _ _ _ => exact .of_next (.of_doFrameStart h) e
    | csiPacket _ => exact .of_next (.of_doCsiPacket h) e
    | frameEnd _ _ => exact .of_next (.of_doFrameEnd h) e
    | frameTimeout _ => exact .of_next (.of_doFrameTimeout h) e
    | ethernetFrame _ => exact .of_next (.of_doEthernetFrame h) e
    | statisticsRecord _ _ => exact .of_next (.of_doStatisticsRecord h) e
    | shapedHeader _ _ => exact .of_next (.of_doShapedHeader h) e
    | commitWindowOpen _ => exact .of_next (.of_doCommitWindowOpen h) e
    | fusionRecord _ _ => exact .of_next (.of_doFusionRecord h) e
    | release _ _ => exact .of_next (.of_doRelease h) e
    | acquire _ _ => exact .of_next (.of_doAcquire h) e
    | pass _ _ => exact .of_next (.of_doPass h) e
    | vectorOp _ _ => exact .of_next (.of_doVectorOp h) e
    | indexedGather _ _ => exact .of_next (.of_doIndexedGather h) e
    | segmentReduce _ _ => exact .of_next (.of_doSegmentReduce h) e
    | atomicAdd _ _ => exact .of_next (.of_doAtomicAdd h) e
    | localisation _ _ => exact .of_next (.of_doLocalisation h) e
    | localisationVerdict _ _ _ => exact .of_next (.of_doLocalisationVerdict h) e
    | job _ _ _ _ => exact .of_next (.of_doJob h) e
    | slotBoundary _ => exact .of_next (.of_doSlotBoundary h) e
    | shareExhausted _ => exact .of_next (.of_doShareExhausted h) e
    | waypoint _ _ => exact .of_next (.of_doWaypoint h) e
    | contextSaveDone _ _ => exact .of_next (.of_doContextSaveDone h) e
    | contextRestoreDone _ _ => exact .of_next (.of_doContextRestoreDone h) e
    | waypointTimeout _ => exact .of_next (.of_doWaypointTimeout h) e
    | jobEnd _ _ => exact .of_next (.of_doJobEnd h) e
    | completionRecord _ _ => exact .of_next (.of_doCompletionRecord h) e
    | carryLimit _ => exact .of_next (.of_doCarryLimit h) e
    | queueAbort _ _ => exact .of_next (.of_doQueueAbort h) e
    | checkTile _ _ => exact .of_next (.of_doCheckTile h) e
    | checkTileResult _ _ _ _ => exact .of_next (.of_doCheckTileResult h) e
    | scrubRead _ _ _ => exact .of_next (.of_doScrubRead h) e
    | tlbInvalidate _ => exact .of_next (.of_doTlbInvalidate h) e
    | tfResolveRetry _ _ => exact .of_next (.of_doTfResolveRetry h) e
    | tfResolveAbort _ _ => exact .of_next (.of_doTfResolveAbort h) e
    | tfParkTimeout _ => exact .of_next (.of_doTfParkTimeout h) e
    | fabricWrite _ _ => exact .of_next (.of_doFabricWrite h) e
    | fabricWriteAck _ _ _ _ => exact .of_next (.of_doFabricWriteAck h) e
    | fabricReadReq _ _ => exact .of_next (.of_doFabricReadReq h) e
    | fabricReadData _ _ _ _ => exact .of_next (.of_doFabricReadData h) e
    | fabricAtomicAdd _ _ _ => exact .of_next (.of_doFabricAtomicAdd h) e
    | sweep _ _ => exact .of_next (.of_doSweep h) e
    | sweepDone _ _ => exact .of_next (.of_doSweepDone h) e
    | refuse _ _ _ _ => exact .of_next (.of_doRefuse h) e
    | ackTimeout _ _ _ _ _ _ => exact .of_next (.of_doAckTimeout h) e
    | channelReset _ _ _ _ => exact .of_next (.of_doChannelReset h) e
    | resetDone _ _ _ _ => exact .of_next (.of_doResetDone h) e
    | copy _ _ => exact .of_next (.of_doCopy h) e
    | fence _ _ _ => exact .of_next (.of_doFence h) e
    | ringEnable _ _ _ _ _ => exact .of_next (.of_doRingEnable h) e
    | ringDisable _ _ => exact .of_next (.of_doRingDisable h) e
    | resume _ _ => exact .of_next (.of_doResume h) e
    | placementWrite _ _ _ _ => exact .of_next (.of_doPlacementWrite h) e
    | placementSignal _ _ _ _ => exact .of_next (.of_doPlacementSignal h) e
    | hostReadCompletion _ _ _ _ => exact .of_next (.of_doHostReadCompletion h) e
    | lossOfBusMasterEnable _ => exact .of_next (.of_doLossOfBusMasterEnable h) e
    | functionLevelReset _ => exact .of_next (.of_doFunctionLevelReset h) e
    | pcieLinkDown _ => exact .of_next (.of_doPcieLinkDown h) e
    | mailboxTake _ _ => exact .of_next (.of_doMailboxTake h) e
    | keyAck _ _ _ => exact .of_next (.of_doKeyAck h) e
    | touchAck _ _ _ => exact .of_next (.of_doTouchAck h) e
    | sequencerMismatch _ _ => exact .of_next (.of_doSequencerMismatch h) e
    | dispatcherMismatch _ => exact .of_next (.of_doDispatcherMismatch h) e
    | clockFault _ _ => exact .of_next (.of_doClockFault h) e
    | voltageFault _ _ => exact .of_next (.of_doVoltageFault h) e
    | binnacleLockstepMismatch _ => exact .of_next (.of_doBinnacleLockstepMismatch h) e
    | binnacleWatchdog _ => exact .of_next (.of_doBinnacleWatchdog h) e
    | binnacleStart _ => exact .of_next (.of_doBinnacleStart h) e
    | logbookCommit _ => exact .of_next (.of_doLogbookCommit h) e
    | faultAck _ => exact .of_next (.of_doFaultAck h) e
    | arrayFaultClear _ => exact .of_next (.of_doArrayFaultClear h) e
    | safetyMsgPeriodic => exact .of_next (.of_doSafetyMsgPeriodic h) e
    | safetyMsgTransmit _ => exact .of_next (.of_doSafetyMsgTransmit h) e
    | logbookClear _ => exact .of_next (.of_doLogbookClear h) e
    | readSelectorWrite _ _ => exact .of_next (.of_doReadSelectorWrite h) e
    | logbookExport _ => exact .of_next (.of_doLogbookExport h) e
    | eventAck _ => exact .of_next (.of_doEventAck h) e
    | keyLock _ => exact .of_next (.of_doKeyLock h) e
    | keyUnlock _ => exact .of_next (.of_doKeyUnlock h) e
    | keyEnableMask _ => exact .of_next (.of_doKeyEnableMask h) e
    | panelEnable _ _ => exact .of_next (.of_doPanelEnable h) e
    | selfTest _ => exact .of_next (.of_doSelfTest h) e
    | reportAck _ _ => exact .of_next (.of_doReportAck h) e
    | seqRun _ => exact .of_next (.of_doSeqRun h) e
    | seqAbort _ => exact .of_next (.of_doSeqAbort h) e
    | tripClear _ => exact .of_next (.of_doTripClear h) e
    | platPendingClear _ => exact .of_next (.of_doPlatPendingClear h) e
    | powerCmd _ => exact .of_next (.of_doPowerCmd h) e
    | standbyToReady _ _ _ => exact .of_next (.of_doStandbyToReady h) e
    | readyToRun _ _ _ => exact .of_next (.of_doReadyToRun h) e
    | runToReady _ => exact .of_next (.of_doRunToReady h) e
    | readyToStandby _ => exact .of_next (.of_doReadyToStandby h) e
    | standbyToDormant _ => exact .of_next (.of_doStandbyToDormant h) e
    | powerOnReset => exact .of_next (.of_doPowerOnReset s) e
    | resetN _ _ => exact .of_next (.of_doResetN h) e
    | warmReset _ => exact .of_next (.of_doWarmReset h) e
    | ctlReset _ => exact .of_next (.of_doCtlReset h) e
    | bootComplete _ _ _ _ => exact .of_next (.of_doBootComplete h) e
    | debugResponse _ => exact .of_next (.of_doDebugResponse h) e
    | debugLock _ => exact .of_next (.of_doDebugLock h) e
    | touchRefMapWrite _ => exact .of_next (.of_doTouchRefMapWrite h) e
    | persistClear _ => exact .of_next (.of_doPersistClear h) e
    | securityVersionRaise _ => exact .of_next (.of_doSecurityVersionRaise h) e
    | pinEventUnqualified _ _ => exact .of_next (.of_doPinEventUnqualified h) e
    | audioWordClockEdge _ _ _ _ _ => exact .of_next (.of_doAudioWordClockEdge h) e
    | camTrigPulseEnd _ => exact .of_next (.of_doCamTrigPulseEnd h) e
    | msixVectorUnmask _ _ => exact .of_next (.of_doMsixVectorUnmask h) e
    | clockFaultCleared _ _ => exact .of_next (.of_doClockFaultCleared h) e
    | voltageFaultCleared _ _ => exact .of_next (.of_doVoltageFaultCleared h) e
    | _ => exact absurd hb Bool.false_ne_true
  · have hn : i = .powerOnReset → s.tick.now = 0 := by
      rintro rfl
      exact absurd rfl hb
    have k := (State.Sound.of_exec (State.Sound.refl (touched i) s) (Field.sub_refl _) hn t e).within
    rw [State.FaultPin, k.bin (by simpa using hb)]
    exact h

/-- A cycle without a command leaves the binnacle alone. -/
theorem State.FaultPin.idleCycle {s : State} (h : s.FaultPin) : s.idleCycle.FaultPin :=
  .off (.idleCycle (.refl _ _) rfl) h

/-- Settles O42: FAULT_N and SAFETY_STATE go together right after reset, and both cases of a step keep it so. -/
theorem faultPinFollowsSafetyState : Obligations.FaultPinFollowsSafetyState := by
  unfold Obligations.FaultPinFollowsSafetyState
  refine ⟨⟨rfl, Safety.noConfusion⟩, fun s t h e => ?_⟩
  cases hp : s.pending with
  | nil =>
    rw [step_of_idle hp] at e
    exact State.FaultPin.of_next (.idleCycle h) e
  | cons c rest =>
    rw [step_of_command hp] at e
    exact State.FaultPin.of_exec (s := { s with pending := rest }) h e

end Sys2Proof.Machine

/-! PROOFS about the statement of the detection of SAFETY faults (O43): a concrete state that it lets in, and on which the
model does otherwise. -/

namespace Sys2Proof.Machine

/-! ## The next record number is 0 (R276, R277) -/

/-- The reaction in progress of a SAFETY fault of mechanism 9 that was detected at time 0, under number 1. -/
def earlierFault : FaultRx := { State.reset.reactionOf (Detection.plain 1 9 0 0) with seq := 1 }

/-- An awake controller with one reaction in progress. The next record number reads 0, which R276 skips but no part of
`State.Inv` excludes. -/
def numberAtZero : State :=
  { State.reset with
    power := { PowerCtl.zero with state := .standby },
    bin := { State.reset.bin with reactions := [earlierFault] },
    log := { State.reset.log with nextSeq := 0 } }

theorem numberAtZero_inv : numberAtZero.Inv := by
  unfold State.Inv State.Canonical State.Shaped
  decide +kernel

/-- What the controller clock's leaving its window makes of it (R262). -/
def afterClockFault : State := doClockFault 0 .ctl numberAtZero

theorem exec_clockFault_numberAtZero : exec (.clockFault 0 .ctl) numberAtZero = .next afterClockFault := rfl

/-- The new fault, of mechanism 7, joins the reactions behind the earlier one. -/
theorem afterClockFault_reactions : afterClockFault.bin.reactions.map (·.mechanism) = [9, 7] := by decide +kernel

/-- Refutes O43: in `numberAtZero` the fault of the lower mechanism takes number 1 and the earlier one the next number, which
is 0. A reaction numbered 0 is one whose record R281 suppresses, so the new reaction is not put before it. -/
theorem not_safetyFaultsAreDetected : ¬ Obligations.SafetyFaultsAreDetected := by
  unfold Obligations.SafetyFaultsAreDetected
  intro h
  obtain ⟨-, -, hwindows⟩ := h numberAtZero 0 numberAtZero_inv
  obtain ⟨hclock, -⟩ := hwindows
  obtain ⟨x, hx, ⟨-, -, -, r, -, -, hr, -, -, -, -, horder⟩, -⟩ := hclock .ctl (by decide +kernel) (by decide +kernel)
    (by decide +kernel)
  obtain rfl : afterClockFault = x := Host.Outcome.next.inj (exec_clockFault_numberAtZero.symm.trans hx)
  obtain ⟨-, hlower⟩ := horder earlierFault (by decide +kernel) (by decide +kernel) (by decide +kernel)
  obtain ⟨hfirst, -⟩ := hlower (by decide +kernel)
  have hlist := afterClockFault_reactions
  rw [hfirst, List.map_cons, hr] at hlist
  exact absurd (List.cons.inj hlist).1 (by decide)

end Sys2Proof.Machine

/-! PROOFS: what the statements about faults, keys, touch panels and the platform share: where an operation writes the
register file, and what an update keeps. -/

namespace Sys2Proof.Machine

/-! ## Where an operation writes the register file -/

/-- From `s` to `x` the register file changes at most at the addresses that satisfy `p`. -/
structure State.WritesIn (p : Nat → Prop) (s x : State) : Prop where
  part : x.part = s.part
  wf : Dict.wf s.part.variant s.dict = true → Dict.wf x.part.variant x.dict = true
  kept : Dict.wf s.part.variant s.dict = true → ∀ b, ¬ p b → x.valAt b = s.valAt b

namespace State.WritesIn
variable {p : Nat → Prop} {s x y : State}

theorem of_same (hp : x.part = s.part) (hd : x.dict = s.dict) : State.WritesIn p s x where
  part := hp
  wf h := by rw [hp, hd]; exact h
  kept _ b _ := State.valAt_congr hp hd b

theorem refl (s : State) : State.WritesIn p s s := of_same rfl rfl

theorem trans (h : State.WritesIn p s x) (k : State.WritesIn p x y) : State.WritesIn p s y where
  part := k.part.trans h.part
  wf w := k.wf (h.wf w)
  kept w b hb := (k.kept (h.wf w) b hb).trans (h.kept w b hb)

theorem setVal {a : Nat} (v : Val) (ha : p a) (s : State) : State.WritesIn p s (s.setVal a v) where
  part := rfl
  wf w := Dict.wf_set a _ w
  kept w _ hb := State.valAt_setVal_other _ w fun e => hb (e ▸ ha)

theorem setNum {a : Nat} (n : Nat) (ha : p a) (s : State) : State.WritesIn p s (s.setNum a n) := setVal _ ha s

/-- R80: a counter that counts writes itself and its WRAP flag. -/
theorem bump {a : Nat} (ha : p a) (hw : p (wrapFlagOf a)) (s : State) : State.WritesIn p s (s.bump a) where
  part := by simp
  wf w := State.bump_wf a w
  kept w _ hb := State.valAt_bump_other w (fun e => hb (e ▸ ha)) (fun e => hb (e ▸ hw))

theorem ite {c : Prop} [Decidable c] (hx : State.WritesIn p s x) (hy : State.WritesIn p s y) :
    State.WritesIn p s (if c then x else y) := by
  split
  · exact hx
  · exact hy

theorem foldl {α : Type} {f : State → α → State} (hf : ∀ t a, State.WritesIn p t (f t a)) (xs : List α) (s : State) :
    State.WritesIn p s (xs.foldl f s) :=
  List.foldlRecOn (motive := State.WritesIn p s) xs f (refl s) fun _ ht a _ => ht.trans (hf _ a)

theorem numAt (h : State.WritesIn p s x) (w : Dict.wf s.part.variant s.dict = true) {b : Nat} (hb : ¬ p b) :
    x.numAt b = s.numAt b := congrArg Val.toNat (h.kept w b hb)

theorem bytesAt (h : State.WritesIn p s x) (w : Dict.wf s.part.variant s.dict = true) {b : Nat} (hb : ¬ p b) :
    x.bytesAt b = s.bytesAt b := congrArg Val.toBytes (h.kept w b hb)

end State.WritesIn

theorem State.valAt_advance (s : State) (t a : Nat) : (s.advance t).valAt a = s.valAt a :=
  State.valAt_congr ((s.advance_within t).part rfl) ((s.advance_within t).dict rfl) a

theorem State.flagAt_advance (s : State) (t a : Nat) : (s.advance t).flagAt a = s.flagAt a := by
  simp only [State.flagAt, State.numAt_advance]

theorem State.Inv.wf {s : State} (h : s.Inv) : Dict.wf s.part.variant s.dict = true := h.1.1

/-- A write whose only effect is that of its object's command, once every check has passed. -/
theorem State.writeRow_of_perform {s x : State} {r : Req} {a : Nat} (h : s.grants r a) (hs : isSelector a = false)
    (ht : a ≠ Adr.tlbInvalidate) (hc : a ≠ Adr.ctlReset)
    (hp : (s.heard r.t r.port r.sender).perform r.port a (writeValue a r.payload) = (none, x)) :
    s.writeRow r a =
      x.answered r.port ((s.heard r.t r.port r.sender).routeOf r.port r.sender) 2 r.seq a 0 [] := by
  rw [State.writeRow_granted h hs ht hc (by rw [hp]), hp]

end Sys2Proof.Machine

/-! PROOFS of the statement that the matrix goes idle (O48): what the operations of the key unit leave unchanged. -/

namespace Sys2Proof.Machine

/-! ## What the event FIFO takes (R300, R302) -/

/-- From `s` to `x` the key unit changes in its event FIFO alone. -/
def State.FifoOnly (s x : State) : Prop := ∃ f n, x.keys = { s.keys with fifo := f, nextSeq := n }

theorem State.FifoOnly.of_same {s x : State} (h : x.keys = s.keys) : State.FifoOnly s x := ⟨s.keys.fifo, s.keys.nextSeq, h⟩

theorem State.FifoOnly.trans {s x y : State} (h : State.FifoOnly s x) (k : State.FifoOnly x y) : State.FifoOnly s y := by
  obtain ⟨f, n, hx⟩ := h
  obtain ⟨g, m, hy⟩ := k
  exact ⟨g, m, by rw [hy, hx]⟩

theorem State.queueEvent_fifoOnly (s : State) (kind : Nat) (synthetic : Bool) (code data : Nat) (st : Stamp) (decided : Nat) :
    State.FifoOnly s (s.queueEvent kind synthetic code data st decided) := by
  unfold State.queueEvent
  extract_lets held
  split
  · exact ⟨_, _, by simp only [State.bump_frame]; rfl⟩
  · split
    · exact ⟨_, _, by simp only [State.bump_frame]; rfl⟩
    · exact ⟨countLost s.keys.fifo, s.keys.nextSeq, by simp only [State.bump_frame]; rfl⟩

theorem State.releaseAll_fifoOnly (s : State) (kind : Nat) (codes : List Nat) (t : Nat) :
    State.FifoOnly s (s.releaseAll kind codes t) :=
  List.foldlRecOn (motive := State.FifoOnly s) codes _ (.of_same rfl) fun _ h _ _ => h.trans (State.queueEvent_fifoOnly _ _ _ _ _ _ _)

/-! ## What debounced changes leave of the scan (R294, R295) -/

/-- From `k` to `l` the matrix is scanned as before; the runs of readings and the debounced states are those given. -/
structure Keys.ScansWith (runs : List Run) (pressed : List Nat) (k l : Keys) : Prop where
  scanning : l.scanning = k.scanning
  idleScans : l.idleScans = k.idleScans
  runs : l.runs = runs
  pressed : l.pressed = pressed

/-- From `k` to `l` nothing of the scan changes. -/
def Keys.SameScan (k l : Keys) : Prop := Keys.ScansWith k.runs k.pressed k l

theorem Keys.SameScan.refl (k : Keys) : Keys.SameScan k k := ⟨rfl, rfl, rfl, rfl⟩

theorem Keys.ScansWith.trans {rs : List Run} {ps : List Nat} {k l m : Keys} (h : Keys.ScansWith rs ps k l)
    (g : Keys.SameScan l m) : Keys.ScansWith rs ps k m :=
  ⟨g.scanning.trans h.scanning, g.idleScans.trans h.idleScans, g.runs.trans h.runs, g.pressed.trans h.pressed⟩

theorem State.FifoOnly.sameScan {s x : State} (h : State.FifoOnly s x) : Keys.SameScan s.keys x.keys := by
  obtain ⟨f, n, hx⟩ := h
  exact ⟨by rw [hx], by rw [hx], by rw [hx], by rw [hx]⟩

theorem State.leaveLock_sameScan (s : State) (cause t : Nat) : Keys.SameScan s.keys (s.leaveLock cause t).keys := by
  unfold State.leaveLock
  extract_lets scope a b
  have hb : Keys.SameScan s.keys b.keys := by
    simp only [b]
    split <;> exact ⟨rfl, rfl, rfl, rfl⟩
  exact hb.trans (State.queueEvent_fifoOnly _ _ _ _ _ _ _).sameScan

theorem State.matchPress_sameScan (s : State) (p len t : Nat) : Keys.SameScan s.keys (s.matchPress p len t).keys := by
  unfold State.matchPress
  split
  · exact State.leaveLock_sameScan _ _ _
  · exact ⟨rfl, rfl, rfl, rfl⟩

theorem State.unlockPress_sameScan (s : State) (code t : Nat) : Keys.SameScan s.keys (s.unlockPress code t).keys := by
  unfold State.unlockPress
  extract_lets seq p a b
  have hb : Keys.SameScan s.keys b.keys := by
    simp only [b, a]
    split
    · exact ⟨rfl, rfl, rfl, rfl⟩
    · simp only [State.setKeys_keys, State.bump_frame]
      exact ⟨rfl, rfl, rfl, rfl⟩
  split
  · exact .refl _
  · split
    · exact State.matchPress_sameScan _ _ _ _
    · split
      · exact hb.trans (State.matchPress_sameScan _ _ _ _)
      · exact hb

/-- The debounced states once a change is decided. -/
def Keys.pressedAfter (pressed : List Nat) (x : Sample) : List Nat :=
  if x.down then insertAsc pressed x.code else without pressed x.code

/-- R295: a change of a key is taken into the debounced states. -/
theorem State.keyChange_scansWith (s : State) (x : Sample) (t : Nat) :
    Keys.ScansWith s.keys.runs (Keys.pressedAfter s.keys.pressed x) s.keys (s.keyChange x t).keys := by
  unfold State.keyChange
  extract_lets muted event masked a b
  have ha : Keys.ScansWith s.keys.runs (Keys.pressedAfter s.keys.pressed x) s.keys a.keys := ⟨rfl, rfl, rfl, rfl⟩
  have hb : Keys.SameScan a.keys b.keys := by
    simp only [b]
    split
    · exact .refl _
    · split
      · simp only [State.bump_frame]
        exact .refl _
      · exact (State.queueEvent_fifoOnly _ _ _ _ _ _ _).sameScan
  clear_value a b
  split
  · exact (ha.trans hb).trans (State.unlockPress_sameScan _ _ _)
  · exact ha.trans hb

/-- What a scan's changes make of the key unit. -/
theorem State.keyChanges_scansWith (changes : List Sample) (s : State) (t : Nat) :
    Keys.ScansWith s.keys.runs (changes.foldl Keys.pressedAfter s.keys.pressed) s.keys
      (changes.foldl (fun s x => s.keyChange x t) s).keys := by
  induction changes generalizing s with
  | nil => exact Keys.SameScan.refl _
  | cons x xs ih =>
    obtain ⟨hscanning, hidle, hruns, hpressed⟩ := State.keyChange_scansWith s x t
    obtain ⟨gscanning, gidle, gruns, gpressed⟩ := ih (s.keyChange x t)
    rw [hpressed] at gpressed
    exact ⟨gscanning.trans hscanning, gidle.trans hidle, gruns.trans hruns, gpressed⟩

theorem State.applyMatrix_scan (s : State) (t : Nat) : (s.applyMatrix t).keys.scanning = s.keys.scanning ∧
    (s.applyMatrix t).keys.idleScans = s.keys.idleScans := by
  obtain ⟨f, n, h⟩ := s.releaseAll_fifoOnly 2 (s.keys.reported.filter fun c => !(s.keysInUse.contains c)) t
  simp only [State.applyMatrix, State.retireKeys, State.setKeys_keys, h, and_self]

/-! ## A scan that is due (R292 to R295) -/

/-- The key unit as a scan that starts at `t` finds it. -/
def State.scanStart (s : State) (t : Nat) : State := (s.advance t).applyMatrix t

/-- When a scan that starts at `t` ends. -/
def State.scanFinish (s : State) (t : Nat) : Nat := t + s.numAt Adr.keyColumns * (s.numAt Adr.settleUs + 1) * 1000

/-- The runs and the changes of a scan that starts at `t` and reads the keys `down`. -/
def State.scanned (s : State) (t : Nat) (down : List Nat) : List Run × List Sample :=
  debounce (s.numAt Adr.debounceScans) s.keys.pressed s.keys.runs (scanSamples s.keysInUse (s.numAt Adr.settleUs) t down)

/-- The key unit with the readings of a scan, before its changes are taken. -/
def State.scanRead (s : State) (t : Nat) (down : List Nat) : State :=
  (((s.setKeys (fun k => { k with
    lastScan := some t, scanEnd := s.scanFinish t, scanPeriod := s.numAt Adr.scanPeriodMs })).advance (s.scanFinish t))).setKeys
      (fun k => { k with runs := (s.scanned t down).1 })

/-- The state after a scan's changes. -/
def State.scanTaken (s : State) (t : Nat) (down : List Nat) : State :=
  ((s.scanned t down).2.foldl (fun u x => u.keyChange x (s.scanFinish t)) (s.scanRead t down)).bump Adr.scans

theorem exec_keyScan {s : State} {t : Nat} {down : List Nat} (h : s.scanDue t = true) : exec (.keyScan t down) s =
    .next (((s.scanStart t).scanTaken t down).restScan (((s.scanStart t).scanTaken t down).keys.pressed.isEmpty &&
      (s.scanStart t).keysInUse.all (fun c => !(down.contains c)))) := by
  have he : exec (.keyScan t down) s = .next (doKeyScan t down s) := rfl
  rw [he]
  unfold doKeyScan
  rw [if_neg (by simp [h])]
  have hk : ∀ u : State, ∀ f : Keys → Keys, ∀ b, ((u.setKeys f).advance b).numAt Adr.debounceScans =
      u.numAt Adr.debounceScans := fun u f b => State.numAt_advance _ _ _
  simp only [hk, State.scanTaken, State.scanRead, State.scanStart, State.scanned, State.scanFinish, State.advance_frame,
    State.setKeys_keys]

theorem State.scanRead_keys (s : State) (t : Nat) (down : List Nat) : (s.scanRead t down).keys = { s.keys with
    lastScan := some t, scanEnd := s.scanFinish t, scanPeriod := s.numAt Adr.scanPeriodMs, runs := (s.scanned t down).1 } := by
  simp only [State.scanRead, State.setKeys_keys, State.advance_frame]

theorem State.scanTaken_scansWith (s : State) (t : Nat) (down : List Nat) :
    Keys.ScansWith (s.scanned t down).1 ((s.scanned t down).2.foldl Keys.pressedAfter s.keys.pressed) s.keys
      (s.scanTaken t down).keys := by
  obtain ⟨hscanning, hidle, hruns, hpressed⟩ :=
    State.keyChanges_scansWith (s.scanned t down).2 (s.scanRead t down) (s.scanFinish t)
  simp only [State.scanRead_keys] at hscanning hidle hruns hpressed
  simp only [State.scanTaken]
  constructor <;> simpa only [State.bump_frame]

theorem State.scanning_of_scanDue {s : State} {t : Nat} (h : s.scanDue t = true) : s.keys.scanning = true := by
  unfold State.scanDue at h
  by_contra hn
  simp [hn] at h

/-- R294: the end of a scan. -/
theorem State.restScan_keys (s : State) (quiet : Bool) : (s.restScan quiet).keys =
    if quiet = true ∧ 1 ≤ s.keys.idleScans then { s.keys with scanning := false, idleScans := 0, lastScan := none, scanEnd := 0, runs := [] }
    else { s.keys with idleScans := if quiet then s.keys.idleScans + 1 else 0 } := by
  unfold State.restScan
  extract_lets n
  cases quiet
  · rfl
  · simp only [n, if_true, true_and]
    by_cases h : 1 ≤ s.keys.idleScans
    · rw [if_pos (by omega), if_pos h]; rfl
    · rw [if_neg (by omega), if_neg h]; rfl

/-- Settles O48: the changes of a scan leave `scanning` and `idleScans` to its end. -/
theorem matrixGoesIdle : Obligations.MatrixGoesIdle := by
  unfold Obligations.MatrixGoesIdle
  intro s t down _ hdue v
  refine ⟨_, exec_keyScan hdue, ?_⟩
  have hv : v.scanTaken t down = (s.scanStart t).scanTaken t down := rfl
  have hkept := v.scanTaken_scansWith t down
  obtain ⟨hscanning, hidle⟩ := (s.advance t).applyMatrix_scan t
  simp only [State.advance_frame] at hscanning hidle
  have hon : (v.scanTaken t down).keys.scanning = true :=
    hkept.scanning.trans (hscanning.trans (State.scanning_of_scanDue hdue))
  have hcount : (v.scanTaken t down).keys.idleScans = s.keys.idleScans := hkept.idleScans.trans hidle
  rw [← hv, show s.scanStart t = v from rfl]
  generalize v.scanTaken t down = w at hon hcount
  generalize hq : (w.keys.pressed.isEmpty && v.keysInUse.all fun c => !down.contains c) = quiet
  have hpressed : (w.restScan quiet).keys.pressed = w.keys.pressed := by
    rw [State.restScan_keys]
    split <;> rfl
  have hiff : ((w.restScan quiet).keys.pressed = [] ∧ ∀ c, c ∈ v.keysInUse → down.contains c = false) ↔ quiet = true := by
    rw [hpressed, ← hq]
    simp
  simp only [hiff]
  simp only [State.restScan_keys]
  refine ⟨fun h1 h2 => ?_, fun h1 h2 => ?_, fun h1 => ?_⟩
  · rw [if_pos ⟨h1, by omega⟩]
    exact ⟨rfl, rfl⟩
  · rw [if_neg (by omega)]
    simp [h1, hon, hcount, h2]
  · rw [if_neg (by simp [h1])]
    simp [h1, hon]

end Sys2Proof.Machine

/-! PROOFS of the statement about the shared threshold rule (O55): what a run of samples leaves, by induction on its end. -/

namespace Sys2Proof.Machine

/-- R338: a run of samples against an upward threshold: the state it leaves, and what each sample completed. -/
def upwardRun (high h : Int) (d : Nat) (vs : List Int) : Crossing × List (Option Bool) :=
  vs.foldl (fun (acc : Crossing × List (Option Bool)) v => let x := acc.1.up high h v d; (x.1, acc.2 ++ [x.2])) (Crossing.zero, [])

theorem upwardRun_concat (high h : Int) (d : Nat) (vs : List Int) (v : Int) : upwardRun high h d (vs ++ [v]) =
    (((upwardRun high h d vs).1.up high h v d).1,
      (upwardRun high h d vs).2 ++ [((upwardRun high h d vs).1.up high h v d).2]) := by
  simp only [upwardRun, List.foldl_append, List.foldl_cons, List.foldl_nil]

/-- Whether a sample counts towards a re-arm (of a crossed threshold) or towards a crossing. -/
def counts (high h : Int) (crossed : Bool) (v : Int) : Bool := if crossed then v ≤ high - h else high ≤ v

/-- What one sample does, by whether it counts and whether it completes the dwell. -/
theorem Crossing.up_cases (c : Crossing) (high h v : Int) (d : Nat) :
    (counts high h c.crossed v = true ∧ d ≤ c.run + 1 ∧
      c.up high h v d = ({ crossed := !c.crossed, run := 0 }, some (!c.crossed))) ∨
    (counts high h c.crossed v = true ∧ c.run + 1 < d ∧ c.up high h v d = ({ c with run := c.run + 1 }, none)) ∨
    (counts high h c.crossed v = false ∧ c.up high h v d = ({ c with run := 0 }, none)) := by
  have hup : c.up high h v d = if counts high h c.crossed v then
      (if d ≤ c.run + 1 then ({ crossed := !c.crossed, run := 0 }, some (!c.crossed)) else ({ c with run := c.run + 1 }, none))
      else ({ c with run := 0 }, none) := rfl
  cases hc : counts high h c.crossed v
  · exact .inr (.inr ⟨rfl, by rw [hup, hc]; rfl⟩)
  · by_cases hd : d ≤ c.run + 1
    · exact .inl ⟨rfl, hd, by rw [hup, hc, if_pos rfl, if_pos hd]⟩
    · exact .inr (.inl ⟨rfl, by omega, by rw [hup, hc, if_pos rfl, if_neg hd]⟩)

/-- The last `n` samples up to sample `k` count towards what is decided of a threshold in state `crossed`. -/
def CountsBack (high h : Int) (crossed : Bool) (vs : List Int) (k n : Nat) : Prop :=
  ∀ i, i < n → i ≤ k ∧ ∃ v, vs[k - i]? = some v ∧ counts high h crossed v = true

theorem CountsBack.append {high h : Int} {crossed : Bool} {vs : List Int} {k n : Nat}
    (hc : CountsBack high h crossed vs k n) (ws : List Int) : CountsBack high h crossed (vs ++ ws) k n := by
  intro i hi
  obtain ⟨hk, v, hv, hcount⟩ := hc i hi
  refine ⟨hk, v, ?_, hcount⟩
  have hlt : k - i < vs.length := (List.getElem?_eq_some_iff.1 hv).1
  rw [List.getElem?_append_left hlt, hv]

theorem CountsBack.concat {high h : Int} {crossed : Bool} {vs : List Int} {n : Nat} {v : Int}
    (hc : CountsBack high h crossed vs (vs.length - 1) n) (hv : counts high h crossed v = true) :
    CountsBack high h crossed (vs ++ [v]) vs.length (n + 1) := by
  intro i hi
  cases i with
  | zero => exact ⟨Nat.zero_le _, v, by simp, hv⟩
  | succ i =>
    obtain ⟨hi', w, hw, hcount⟩ := hc i (by omega)
    have hlt : vs.length - 1 - i < vs.length := (List.getElem?_eq_some_iff.1 hw).1
    have hle : i + 1 ≤ vs.length := by omega
    refine ⟨hle, w, ?_, hcount⟩
    rw [show vs.length - (i + 1) = vs.length - 1 - i by omega, List.getElem?_append_left hlt, hw]

/-- What holds after every run of samples: the run in progress, what each decision completes, and that decisions
alternate up to the present state. -/
structure RunKept (high h : Int) (d : Nat) (vs : List Int) (c : Crossing) (es : List (Option Bool)) : Prop where
  length : es.length = vs.length
  run : CountsBack high h c.crossed vs (vs.length - 1) c.run
  back : ∀ (k : Nat) b, es[k]? = some (some b) → CountsBack high h (!b) vs k d
  last : ∀ (k : Nat) b, es[k]? = some (some b) → b ≠ c.crossed → ∃ j, k < j ∧ es[j]? = some (some c.crossed)
  alternate : ∀ (k m : Nat) b, k < m → es[k]? = some (some b) → es[m]? = some (some b) → ∃ j, k < j ∧ j < m ∧ es[j]? = some (some (!b))

theorem RunKept.nil (high h : Int) (d : Nat) : RunKept high h d [] Crossing.zero [] where
  length := rfl
  run _ hi := absurd hi (Nat.not_lt_zero _)
  back _ _ hk := absurd hk (by simp)
  last _ _ hk := absurd hk (by simp)
  alternate _ _ _ _ hk := absurd hk (by simp)

section
variable {high h v : Int} {d : Nat} {vs : List Int} {c : Crossing} {es : List (Option Bool)}

theorem getElem?_append_of_some {α : Type} {xs ys : List α} {i : Nat} {x : α} (h : xs[i]? = some x) : (xs ++ ys)[i]? = some x := by
  rw [List.getElem?_append_left (List.getElem?_eq_some_iff.1 h).1, h]

/-- A decision of a run that one more sample extends is an earlier one, or that of the sample. -/
theorem getElem?_concat_some {k : Nat} {b : Bool} {e : Option Bool} (hk : (es ++ [e])[k]? = some (some b)) :
    (k < es.length ∧ es[k]? = some (some b)) ∨ (k = es.length ∧ e = some b) := by
  rcases lt_trichotomy k es.length with hlt | heq | hgt
  · exact .inl ⟨hlt, by rwa [List.getElem?_append_left hlt] at hk⟩
  · exact .inr ⟨heq, by simpa [heq] using hk⟩
  · rw [List.getElem?_eq_none (by simp; omega)] at hk
    exact absurd hk (by simp)

/-- A sample that decides nothing. -/
theorem RunKept.concat_none (k : RunKept high h d vs c es) {n : Nat} (hrun : CountsBack high h c.crossed (vs ++ [v]) vs.length n) :
    RunKept high h d (vs ++ [v]) { c with run := n } (es ++ [none]) where
  length := by simp [k.length]
  run := by simpa using hrun
  back i b hi := by
    obtain ⟨-, he⟩ | ⟨-, he⟩ := getElem?_concat_some hi
    · exact (k.back i b he).append _
    · exact absurd he (by simp)
  last i b hi hb := by
    obtain ⟨-, he⟩ | ⟨-, he⟩ := getElem?_concat_some hi
    · obtain ⟨j, hj, hlast⟩ := k.last i b he hb
      exact ⟨j, hj, getElem?_append_of_some hlast⟩
    · exact absurd he (by simp)
  alternate i m b him hi hm := by
    obtain ⟨-, he⟩ | ⟨-, he⟩ := getElem?_concat_some hm
    · obtain ⟨hlt, hf⟩ | ⟨-, hf⟩ := getElem?_concat_some hi
      · obtain ⟨j, h1, h2, h3⟩ := k.alternate i m b him hf he
        exact ⟨j, h1, h2, getElem?_append_of_some h3⟩
      · exact absurd hf (by simp)
    · exact absurd he (by simp)

/-- A sample that completes the dwell. -/
theorem RunKept.concat_decides (k : RunKept high h d vs c es) (hrun : CountsBack high h c.crossed (vs ++ [v]) vs.length d) :
    RunKept high h d (vs ++ [v]) { crossed := !c.crossed, run := 0 } (es ++ [some (!c.crossed)]) where
  length := by simp [k.length]
  run _ hi := absurd hi (Nat.not_lt_zero _)
  back i b hi := by
    obtain ⟨-, he⟩ | ⟨rfl, he⟩ := getElem?_concat_some hi
    · exact (k.back i b he).append _
    · obtain rfl := Option.some.inj he
      rw [k.length, Bool.not_not]
      exact hrun
  last i b hi hb := by
    obtain ⟨hlt, -⟩ | ⟨-, he⟩ := getElem?_concat_some hi
    · exact ⟨es.length, hlt, by simp⟩
    · exact absurd (Option.some.inj he).symm hb
  alternate i m b him hi hm := by
    obtain ⟨hm', he⟩ | ⟨rfl, he⟩ := getElem?_concat_some hm
    · obtain ⟨hlt, hf⟩ | ⟨heq, -⟩ := getElem?_concat_some hi
      · obtain ⟨j, h1, h2, h3⟩ := k.alternate i m b him hf he
        exact ⟨j, h1, h2, getElem?_append_of_some h3⟩
      · omega
    · obtain rfl := Option.some.inj he
      obtain ⟨-, hf⟩ | ⟨heq, -⟩ := getElem?_concat_some hi
      · obtain ⟨j, h1, h2⟩ := k.last i _ hf (by simp)
        have hj : j < es.length := (List.getElem?_eq_some_iff.1 h2).1
        exact ⟨j, h1, hj, by rw [Bool.not_not]; exact getElem?_append_of_some h2⟩
      · omega

end

theorem upwardRun_kept (high h : Int) (d : Nat) (vs : List Int) :
    RunKept high h d vs (upwardRun high h d vs).1 (upwardRun high h d vs).2 := by
  induction vs using List.reverseRecOn with
  | nil => exact RunKept.nil high h d
  | append_singleton vs v ih =>
    rw [upwardRun_concat]
    obtain ⟨hc, hd, hup⟩ | ⟨hc, -, hup⟩ | ⟨-, hup⟩ := (upwardRun high h d vs).1.up_cases high h v d
    · rw [hup]
      exact ih.concat_decides fun i hi => ih.run.concat hc i (by omega)
    · rw [hup]
      exact ih.concat_none (ih.run.concat hc)
    · rw [hup]
      exact ih.concat_none fun i hi => absurd hi (Nat.not_lt_zero i)

/-- Samples at or above the threshold cross it once there are enough of them, and do not re-arm it. -/
theorem crossed_of_all_high {high h : Int} {d : Nat} (hh : 0 < h) (ws : List Int) (acc : Crossing × List (Option Bool))
    (hw : ∀ v, v ∈ ws → high ≤ v) : let r := ws.foldl (fun (acc : Crossing × List (Option Bool)) v =>
      let x := acc.1.up high h v d; (x.1, acc.2 ++ [x.2])) acc
    r.1.crossed = true ∨ (r.1.run = acc.1.run + ws.length ∧ (ws ≠ [] → r.1.run < d)) := by
  induction ws using List.reverseRecOn with
  | nil => exact .inr ⟨rfl, fun hn => absurd rfl hn⟩
  | append_singleton ws w ih =>
    have hhigh : high ≤ w := hw w (by simp)
    simp only [List.foldl_append, List.foldl_cons, List.foldl_nil]
    specialize ih fun v hv => hw v (by simp [hv])
    generalize ws.foldl _ acc = r at ih ⊢
    obtain ⟨hc, -, hup⟩ | ⟨hc, hd, hup⟩ | ⟨hc, hup⟩ := r.1.up_cases high h w d
    · rw [hup]
      cases hx : r.1.crossed with
      | false => exact .inl rfl
      | true =>
        simp only [counts, hx, if_true, decide_eq_true_eq] at hc
        omega
    · rw [hup]
      exact ih.imp id fun ⟨hrun, _⟩ => ⟨by simp [hrun]; omega, fun _ => hd⟩
    · rw [hup]
      cases hx : r.1.crossed with
      | true => exact .inl rfl
      | false =>
        simp only [counts, hx, Bool.false_eq_true, if_false, decide_eq_false_iff_not] at hc
        exact absurd hhigh hc

/-- Settles O55: by what holds after every run of samples, and by what samples at or above the threshold do. -/
theorem thresholdsCrossOnce : Obligations.ThresholdsCrossOnce := by
  unfold Obligations.ThresholdsCrossOnce
  refine ⟨fun high h d vs hh hd => ?_, fun c low h v d => ?_⟩
  · have hkept := upwardRun_kept high h d vs
    refine ⟨fun k hk i hi => ?_, fun k hk i hi => ?_, hkept.alternate, fun hlen hall => ?_⟩
    · obtain ⟨hle, v, hv, hc⟩ := hkept.back k true hk i hi
      exact ⟨hle, v, hv, by simpa [counts] using hc⟩
    · obtain ⟨hle, v, hv, hc⟩ := hkept.back k false hk i hi
      exact ⟨hle, v, hv, by simpa [counts] using hc⟩
    · have hsplit := List.take_append_drop (vs.length - d) vs
      have hlast := crossed_of_all_high (d := d) hh (vs.drop (vs.length - d)) (upwardRun high h d (vs.take (vs.length - d))) hall
      rw [← hsplit, List.foldl_append]
      refine hlast.resolve_right fun ⟨hrun, hlt⟩ => ?_
      have hcount : (vs.drop (vs.length - d)).length = d := by simp; omega
      specialize hlt (List.ne_nil_of_length_pos (by omega))
      rw [hrun, hcount] at hlt
      omega
  · have h1 : decide (v ≤ low) = decide (-low ≤ -v) := by simp
    have h2 : decide (low + h ≤ v) = decide (-v ≤ -low - h) := decide_eq_decide.2 (by omega)
    rw [Crossing.down, Crossing.up, h1, h2]

end Sys2Proof.Machine

/-! PROOFS: counters with their WRAP flags, and the parts that a counter leaves (R80). -/

namespace Sys2Proof.Machine

/-- Counters and their WRAP flags. -/
def withFlags (cs : List Nat) : List Nat := cs.flatMap fun a => [a, wrapFlagOf a]

theorem mem_withFlags {cs : List Nat} {a : Nat} (h : a ∈ cs) : a ∈ withFlags cs ∧ wrapFlagOf a ∈ withFlags cs := by
  unfold withFlags
  simp only [List.mem_flatMap, List.mem_cons, List.not_mem_nil, or_false]
  exact ⟨⟨a, h, .inl rfl⟩, ⟨a, h, .inr rfl⟩⟩

theorem State.WritesIn.bumpOf {cs : List Nat} (a : Nat) (h : a ∈ cs) (s : State) :
    State.WritesIn (· ∈ withFlags cs) s (s.bump a) := .bump (mem_withFlags h).1 (mem_withFlags h).2 s

/-- Nothing of the register file differs where an operation begins. -/
theorem State.WritesIn.after {p : Nat → Prop} {s u x : State} (h : State.WritesIn p u x) (hp : u.part = s.part)
    (hd : u.dict = s.dict) : State.WritesIn p s x := (State.WritesIn.of_same hp hd).trans h

section
variable (s : State) (a : Nat)

theorem State.bump_bin : (s.bump a).bin = s.bin := by simp

theorem State.bump_log : (s.bump a).log = s.log := by simp

theorem State.bump_keys : (s.bump a).keys = s.keys := by simp

theorem State.bump_plat : (s.bump a).plat = s.plat := by simp

theorem State.bump_panels : (s.bump a).panels = s.panels := by simp

theorem State.bump_tick : (s.bump a).tick = s.tick := by simp

theorem State.bump_power : (s.bump a).power = s.power := by simp

theorem State.bump_sent : (s.bump a).sent = s.sent := by simp

theorem State.bump_host : (s.bump a).host = s.host := by simp

theorem State.bump_part : (s.bump a).part = s.part := by simp

end

end Sys2Proof.Machine

/-! PROOFS of the statement about the reaction to a fault and its record (O44): what the commit of a record, the EVENT
message and the NOTIFY change. -/

namespace Sys2Proof.Machine

/-! ## The commit of a record (R275, R278 to R280) -/

/-- The counters of the logbook and of safety messages. -/
def reactionCounts : List Nat :=
  [Adr.recordsDiscarded, Adr.recordsOverwritten, Adr.recordsWritten, Adr.safetyMsgReplaced]

theorem State.returnSuppressed_frame (s : State) (signature n : Nat) : ∃ xs,
    s.returnSuppressed signature n = { s with log := { s.log with suppress := xs } } := by
  unfold State.returnSuppressed
  split
  · exact ⟨s.log.suppress, rfl⟩
  · exact ⟨_, rfl⟩

section
variable {s : State} {r : FaultRx}

/-- A record that finds no room. -/
theorem State.commitRecord_none (h : s.ringRoom r.cls = none) : s.commitRecord r =
    (s.returnSuppressed (r.signature s.part) r.suppressed).bump Adr.recordsDiscarded := by
  simp only [State.commitRecord, h]

/-- The entry of the ring that a reaction becomes. -/
def FaultRx.entry (r : FaultRx) (part : Part) : LogRec :=
  { seq := r.seq, cls := r.cls, signature := r.signature part, bytes := r.record part, damaged := false }

/-- What the commit of a record adds to a ring that has room for it. -/
theorem State.commitRecord_some {ring : List LogRec} (h : s.ringRoom r.cls = some ring) :
    (s.commitRecord r).log = { s.log with
        ring := ring ++ [r.entry s.part], lastSeq := r.seq,
        copying := if r.cls == 1 then s.log.copying ++ [r.entry s.part] else s.log.copying } ∧
      (s.commitRecord r).bin = { s.bin with lastSeq := r.seq, lastMechanism := r.mechanism, lastUnit := r.unit } := by
  simp only [State.commitRecord, h]
  rw [State.bump_log, State.bump_bin]
  split
  · exact ⟨rfl, rfl⟩
  · simp only [State.bump_frame, and_true]
    rfl

theorem State.commitRecord_writesIn (s : State) (r : FaultRx) : State.WritesIn (· ∈ withFlags reactionCounts) s (s.commitRecord r) := by
  cases h : s.ringRoom r.cls with
  | none =>
    rw [State.commitRecord_none h]
    obtain ⟨xs, hx⟩ := s.returnSuppressed_frame (r.signature s.part) r.suppressed
    rw [hx]
    exact State.WritesIn.after (.bumpOf (cs := reactionCounts) Adr.recordsDiscarded (by decide) _) rfl rfl
  | some ring =>
    simp only [State.commitRecord, h]
    have hroom : State.WritesIn (· ∈ withFlags reactionCounts) s
        (if (s.log.ring.length == ring.length) = true then s else s.bump Adr.recordsOverwritten) :=
      .ite (.refl _) (.bumpOf Adr.recordsOverwritten (by decide) _)
    exact hroom.trans (State.WritesIn.after (.bumpOf (cs := reactionCounts) Adr.recordsWritten (by decide) _) rfl rfl)

/-- Every commit leaves the reactions, the state of the safety function and the messages. -/
theorem State.commitRecord_bin (s : State) (r : FaultRx) : ∃ a b c,
    (s.commitRecord r).bin = { s.bin with lastSeq := a, lastMechanism := b, lastUnit := c } := by
  cases h : s.ringRoom r.cls with
  | none =>
    rw [State.commitRecord_none h]
    obtain ⟨xs, hx⟩ := s.returnSuppressed_frame (r.signature s.part) r.suppressed
    exact ⟨s.bin.lastSeq, s.bin.lastMechanism, s.bin.lastUnit, by rw [hx]; simp only [State.bump_frame]⟩
  | some ring => exact ⟨_, _, _, (State.commitRecord_some h).2⟩

theorem State.commitRecord_log (s : State) (r : FaultRx) : (s.commitRecord r).log.nextSeq = s.log.nextSeq ∧
    (s.commitRecord r).log.persist = s.log.persist := by
  cases h : s.ringRoom r.cls with
  | none =>
    rw [State.commitRecord_none h]
    obtain ⟨xs, hx⟩ := s.returnSuppressed_frame (r.signature s.part) r.suppressed
    rw [hx]
    simp only [State.bump_frame, and_self]
  | some ring => rw [(State.commitRecord_some h).1]; exact ⟨rfl, rfl⟩

/-- R280: a SAFETY record always finds room. -/
theorem State.ringRoom_safety (s : State) : ∃ ring, s.ringRoom 1 = some ring := by
  unfold State.ringRoom
  extract_lets ring open_ done logged
  split
  · exact ⟨_, rfl⟩
  split
  · exact ⟨_, rfl⟩
  split
  · exact ⟨_, rfl⟩
  split
  · rename_i h
    exact absurd h (by decide)
  split <;> exact ⟨_, rfl⟩

theorem State.ringRoom_free (h : s.log.ring.length < 512) (cls : Nat) : s.ringRoom cls = some s.log.ring := by
  simp only [State.ringRoom, h, if_true]

/-- R280: under policy 1 a LOGGED record finds no room in a full ring of records that are not exported. -/
theorem State.ringRoom_none (h : s.log.ring.length = 512) (hp : s.numAt Adr.logbookPolicy = 1)
    (he : ∀ k, k ∈ s.log.ring → s.exported k.seq = false) : s.ringRoom 2 = none := by
  have hdone : (s.log.ring.any fun k => !(s.exportCovers k.seq) && s.exported k.seq) = false := by
    rw [List.any_eq_false]
    intro k hk
    simp [he k hk]
  unfold State.ringRoom
  extract_lets ring open_ done logged
  rw [if_neg (Nat.not_lt.2 (Nat.le_of_eq h.symm)), if_neg (by rw [hp]; decide),
    if_neg (by rw [show ring.any done = _ from hdone]; decide), if_pos (by decide)]

end

/-! ## The messages of a reaction (R266, R270, R271) -/

section
variable (s : State) (r : FaultRx)

/-- R271: a message that is queued. -/
theorem State.queueMessage_queues {s : State} (he : s.flagAt Adr.safetyMsgEnable = true) (hs : s.bin.state ≠ .starting)
    (tick kind valid faults meridian : Nat) : (s.queueMessage tick kind valid faults meridian).bin = { s.bin with
      alive := (s.bin.alive + 1) % 65536,
      message := some (s.safetyBytes ((s.bin.alive + 1) % 65536) tick kind valid faults meridian) } := by
  unfold State.queueMessage
  rw [if_neg (by simp [he, hs])]
  extract_lets alive bytes a
  have ha : a.bin = s.bin := by
    simp only [a]
    split
    · exact State.bump_bin _ _
    · rfl
  have hx : ∀ b : Binnacle, b = s.bin → ({ b with alive := alive, message := some bytes } : Binnacle) =
      { s.bin with alive := alive, message := some bytes } := by
    rintro b rfl
    rfl
  exact hx a.bin ha

/-- A message is queued or not: the rest of the binnacle stays. -/
theorem State.queueMessage_bin (tick kind valid faults meridian : Nat) : ∃ a m,
    (s.queueMessage tick kind valid faults meridian).bin = { s.bin with alive := a, message := m } := by
  by_cases h : s.flagAt Adr.safetyMsgEnable = true ∧ s.bin.state ≠ .starting
  · exact ⟨_, _, State.queueMessage_queues h.1 h.2 tick kind valid faults meridian⟩
  · have hs : s.queueMessage tick kind valid faults meridian = s := by
      unfold State.queueMessage
      rw [if_pos]
      by_contra hn
      exact h (by simpa using hn)
    exact ⟨s.bin.alive, s.bin.message, by rw [hs]⟩

theorem State.queueMessage_writesIn (tick kind valid faults meridian : Nat) :
    State.WritesIn (· ∈ withFlags reactionCounts) s (s.queueMessage tick kind valid faults meridian) := by
  unfold State.queueMessage
  refine .ite (.refl _) ?_
  extract_lets alive bytes a
  have ha : State.WritesIn (· ∈ withFlags reactionCounts) s a := .ite (.bumpOf Adr.safetyMsgReplaced (by decide) _) (.refl _)
  exact ha.trans (.of_same rfl rfl)

/-- What the EVENT message of a reaction queues, in a state that differs at most in its free values. -/
theorem State.eventMessage_eq : ∃ (u : State) (tick faults meridian : Nat), u.bin = s.bin ∧ u.dict = s.dict ∧ u.part = s.part ∧
    u.log = s.log ∧ s.eventMessage r = u.queueMessage tick 1 0 faults meridian := by
  unfold State.eventMessage
  split
  · exact ⟨s, _, _, _, rfl, rfl, rfl, rfl, rfl⟩
  · exact ⟨((s.takeFree (2 ^ 64)).2.takeFree (2 ^ 64)).2, (s.takeFree (2 ^ 64)).1, s.bin.safetyInTick,
      ((s.takeFree (2 ^ 64)).2.takeFree (2 ^ 64)).1, rfl, rfl, rfl, rfl, rfl⟩

theorem State.eventMessage_writesIn : State.WritesIn (· ∈ withFlags reactionCounts) s (s.eventMessage r) := by
  obtain ⟨u, tick, faults, meridian, -, hd, hp, -, he⟩ := s.eventMessage_eq r
  rw [he]
  exact (State.WritesIn.of_same hp hd).trans (u.queueMessage_writesIn _ _ _ _ _)

theorem State.eventMessage_bin : ∃ a m, (s.eventMessage r).bin = { s.bin with alive := a, message := m } := by
  obtain ⟨u, tick, faults, meridian, hb, -, -, -, he⟩ := s.eventMessage_eq r
  rw [he, ← hb]
  exact u.queueMessage_bin _ _ _ _ _

theorem State.eventMessage_log : (s.eventMessage r).log = s.log :=
  (State.Sound.eventMessage (State.Sound.refl [.dict, .bin, .free] s) rfl).within.log rfl

theorem State.notifyFault_frame : (s.notifyFault r).bin = s.bin ∧ (s.notifyFault r).log = s.log ∧
    (s.notifyFault r).dict = s.dict ∧ (s.notifyFault r).part = s.part := by
  have h := (State.Sound.notifyFault (r := r) (State.Sound.refl [.ports, .host, .sent] s) rfl).within
  exact ⟨h.bin rfl, h.log rfl, h.dict rfl, h.part rfl⟩

end

/-! ## The reaction (R266) -/

section
variable {s : State} {r : FaultRx}

/-- The state in which the EVENT message of a SAFETY reaction is queued: its record is committed and FAULT_N asserted. -/
def State.asserted (s : State) (r : FaultRx) : State := ((s.commitRecord r).latchMechanism r.mechanism).assertFault

theorem State.react_safety (hn : r.seq ≠ 0) (hc : r.cls = 1) : s.react r = ((s.asserted r).eventMessage r).notifyFault r := by
  simp only [State.react, beq_iff_eq, hn, hc, if_false, if_true, State.asserted]

theorem State.react_logged (hn : r.seq ≠ 0) (hc : r.cls ≠ 1) : s.react r = (s.commitRecord r).notifyFault r := by
  simp only [State.react, beq_iff_eq, hn, hc, if_false]

theorem State.asserted_bin (s : State) (r : FaultRx) : ∃ a b c, (s.asserted r).bin = { s.bin with
    lastSeq := a, lastMechanism := b, lastUnit := c, faultN := true,
    state := if s.bin.state == .normal then .faultLatched else s.bin.state, normalSince := false, normalAtLast := false } := by
  obtain ⟨a, b, c, h⟩ := s.commitRecord_bin r
  refine ⟨a, b, c, ?_⟩
  simp only [State.asserted, State.assertFault, State.latchMechanism, State.setNum_frame, h]

theorem State.asserted_log (s : State) (r : FaultRx) : (s.asserted r).log = (s.commitRecord r).log := by
  simp only [State.asserted, State.assertFault, State.latchMechanism, State.setNum_frame]

/-- Where a SAFETY reaction writes the register file, up to its EVENT message. -/
theorem State.asserted_writesIn (s : State) (r : FaultRx) :
    State.WritesIn (fun a => a ∈ withFlags reactionCounts ∨ a = Adr.faultLatchedMask) s (s.asserted r) where
  part := (s.commitRecord_writesIn r).part
  wf w := State.setNum_wf _ _ ((s.commitRecord_writesIn r).wf w)
  kept w b hb := (State.valAt_setNum_other _ ((s.commitRecord_writesIn r).wf w) fun e => hb (.inr e)).trans
    ((s.commitRecord_writesIn r).kept w b fun e => hb (.inl e))

theorem State.asserted_latched (h : Dict.wf s.part.variant s.dict = true) :
    bitAt ((s.asserted r).numAt Adr.faultLatchedMask) r.mechanism = true := by
  have hl : (s.asserted r).numAt Adr.faultLatchedMask = ((s.commitRecord r).latchMechanism r.mechanism).numAt Adr.faultLatchedMask :=
    State.numAt_congr rfl rfl _
  rw [hl, State.latchMechanism, State.numAt_setNum_same _ _ ((s.commitRecord_writesIn r).wf h)]
  exact bitAt_setBit _ _

/-- What a SAFETY reaction does. -/
theorem State.react_safety_spec (h : Dict.wf s.part.variant s.dict = true) (hn : r.seq ≠ 0) (hc : r.cls = 1) :
    let x := s.react r
    x.bin.reactions = s.bin.reactions ∧ x.log.nextSeq = s.log.nextSeq ∧ x.log.persist = s.log.persist ∧
      (∃ k, k ∈ x.log.ring ∧ k.seq = r.seq ∧ k.cls = 1 ∧ k ∈ x.log.copying) ∧ x.log.lastSeq = r.seq ∧ x.bin.faultN = true ∧
      x.bin.state = (if s.bin.state = .normal then .faultLatched else s.bin.state) ∧
      bitAt (x.numAt Adr.faultLatchedMask) r.mechanism = true ∧
      (s.flagAt Adr.safetyMsgEnable = true → s.bin.state ≠ .starting → x.bin.message.isSome ∧
        x.bin.alive = (s.bin.alive + 1) % 65536) := by
  intro x
  have hx : x = ((s.asserted r).eventMessage r).notifyFault r := State.react_safety hn hc
  obtain ⟨hbin, hlog, hdict, hpart⟩ := ((s.asserted r).eventMessage r).notifyFault_frame r
  rw [← hx] at hbin hlog hdict hpart
  rw [State.eventMessage_log, State.asserted_log] at hlog
  obtain ⟨a, m, hmsg⟩ := (s.asserted r).eventMessage_bin r
  obtain ⟨b, c, d, hasserted⟩ := s.asserted_bin r
  obtain ⟨ring, hroom⟩ := s.ringRoom_safety
  have hcommit := (State.commitRecord_some (s := s) (r := r) (hc ▸ hroom)).1
  obtain ⟨hseq, hpersist⟩ := s.commitRecord_log r
  have hnum : ∀ b, b ∉ withFlags reactionCounts → x.numAt b = (s.asserted r).numAt b := fun b hb =>
    (State.numAt_congr hpart hdict b).trans (((s.asserted r).eventMessage_writesIn r).numAt ((s.asserted_writesIn r).wf h) hb)
  refine ⟨by rw [hbin, hmsg, hasserted], by rw [hlog, hseq], by rw [hlog, hpersist],
    ⟨r.entry s.part, ?_, rfl, hc, ?_⟩, by rw [hlog, hcommit], by rw [hbin, hmsg, hasserted], ?_, ?_, fun he hs => ?_⟩
  · rw [hlog, hcommit]
    exact List.mem_append_right _ (List.mem_singleton.2 rfl)
  · rw [hlog, hcommit, if_pos (by rw [hc]; rfl)]
    exact List.mem_append_right _ (List.mem_singleton.2 rfl)
  · rw [hbin, hmsg, hasserted]
    simp only [beq_iff_eq]
  · rw [hnum _ (by decide)]
    exact State.asserted_latched h
  · obtain ⟨u, tick, faults, meridian, hub, hud, hup, -, hevent⟩ := (s.asserted r).eventMessage_eq r
    have hflag : u.flagAt Adr.safetyMsgEnable = true := by
      rw [State.flagAt, State.numAt_congr hup hud, (s.asserted_writesIn r).numAt h (by decide)]
      exact he
    have hstate : u.bin.state ≠ .starting := by
      rw [hub, hasserted]
      simp only [beq_iff_eq]
      split
      · simp
      · exact hs
    rw [hbin, hevent, State.queueMessage_queues hflag hstate, hub, hasserted]
    exact ⟨rfl, rfl⟩

/-- What a LOGGED reaction does. -/
theorem State.react_logged_spec (h : Dict.wf s.part.variant s.dict = true) (hn : r.seq ≠ 0) (hc : r.cls = 2) :
    let x := s.react r
    x.bin.reactions = s.bin.reactions ∧ x.log.nextSeq = s.log.nextSeq ∧ x.log.persist = s.log.persist ∧
      x.bin.faultN = s.bin.faultN ∧ x.bin.state = s.bin.state ∧ x.log.copying = s.log.copying ∧
      (s.log.ring.length < 512 → ∃ k, x.log.ring = s.log.ring ++ [k] ∧ k.seq = r.seq ∧ k.cls = 2) ∧
      (s.log.ring.length = 512 → s.numAt Adr.logbookPolicy = 1 → (∀ k, k ∈ s.log.ring → s.exported k.seq = false) →
        x.log.ring = s.log.ring ∧ x.numAt Adr.recordsDiscarded = (s.numAt Adr.recordsDiscarded + 1) % 2 ^ 64) := by
  intro x
  have hx : x = (s.commitRecord r).notifyFault r := State.react_logged hn (by omega)
  obtain ⟨hbin, hlog, hdict, hpart⟩ := (s.commitRecord r).notifyFault_frame r
  rw [← hx] at hbin hlog hdict hpart
  obtain ⟨a, b, c, hcbin⟩ := s.commitRecord_bin r
  obtain ⟨hseq, hpersist⟩ := s.commitRecord_log r
  refine ⟨by rw [hbin, hcbin], by rw [hlog, hseq], by rw [hlog, hpersist], by rw [hbin, hcbin], by rw [hbin, hcbin], ?_,
    fun hfree => ⟨r.entry s.part, ?_, rfl, hc⟩, fun hfull hp he => ?_⟩
  · rw [hlog]
    cases hroom : s.ringRoom r.cls with
    | none =>
      obtain ⟨xs, hret⟩ := s.returnSuppressed_frame (r.signature s.part) r.suppressed
      rw [State.commitRecord_none hroom, hret]
      simp only [State.bump_frame]
    | some ring => rw [(State.commitRecord_some hroom).1, if_neg (by rw [hc]; decide)]
  · rw [hlog, (State.commitRecord_some (State.ringRoom_free hfree r.cls)).1]
  · have hcommit := State.commitRecord_none (r := r) (hc ▸ State.ringRoom_none hfull hp he)
    obtain ⟨xs, hret⟩ := s.returnSuppressed_frame (r.signature s.part) r.suppressed
    rw [hret] at hcommit
    refine ⟨by rw [hlog, hcommit]; simp only [State.bump_frame], ?_⟩
    rw [State.numAt_congr hpart hdict, hcommit]
    exact State.numAt_bump_same (s := { s with log := { s.log with suppress := xs } }) h (by decide)

end

/-- Settles O44: the reaction commits first, and what follows the commit leaves the ring. -/
theorem recordsReachPersistentArea : Obligations.RecordsReachPersistentArea := by
  unfold Obligations.RecordsReachPersistentArea
  constructor
  · intro s t r rest hinv u hr hd
    rw [show exec (.logbookCommit t) s = .next (doLogbookCommit t s) from rfl]
    refine ⟨fun hv => ?_, fun hv hn => ?_⟩
    · unfold doLogbookCommit
      simp only [show s.advance t = u from rfl, hr, hv, Bool.true_or, if_true]
    · have hdo : doLogbookCommit t s = State.react { u with bin := { u.bin with reactions := rest } } r := by
        unfold doLogbookCommit
        simp only [show s.advance t = u from rfl, hr, hv, hd, Option.isSome_none, Bool.or_self, Bool.false_eq_true, if_false]
      rw [hdo]
      have hwf : Dict.wf u.part.variant u.dict = true := (State.advance_inv hinv).wf
      generalize hw : ({ u with bin := { u.bin with reactions := rest } } : State) = w
      have hww : Dict.wf w.part.variant w.dict = true := by rw [← hw]; exact hwf
      by_cases hc : r.cls = 1
      · obtain ⟨h1, h2, h3, h4⟩ := State.react_safety_spec hww hn hc
        subst hw
        exact ⟨_, rfl, h1, h2, h3, fun _ => h4, fun h => absurd (hc.symm.trans h) (by decide)⟩
      · by_cases hc2 : r.cls = 2
        · obtain ⟨h1, h2, h3, h4⟩ := State.react_logged_spec hww hn hc2
          subst hw
          exact ⟨_, rfl, h1, h2, h3, fun h => absurd h hc, fun _ => h4⟩
        · have hx := State.react_logged (s := w) hn hc
          obtain ⟨hbin, hlog, -, -⟩ := (w.commitRecord r).notifyFault_frame r
          obtain ⟨a, b, c, hcbin⟩ := w.commitRecord_bin r
          obtain ⟨hseq, hpersist⟩ := w.commitRecord_log r
          subst hw
          exact ⟨_, rfl, by rw [hx, hbin, hcbin], by rw [hx, hlog, hseq], by rw [hx, hlog, hpersist], fun h => absurd h hc,
            fun h => absurd h hc2⟩
  · intro s t k rest hk
    refine ⟨(s.advance t).copyOldest, rfl, ?_⟩
    simp only [State.copyOldest, State.advance_frame, hk, State.bump_frame, true_and]
    exact ⟨fun h => by rw [if_pos h], fun h => by rw [if_neg (by omega)]⟩

end Sys2Proof.Machine

/-! PROOFS of the statement about the binnacle's restarts and the safety message (O45). -/

namespace Sys2Proof.Machine

/-- R80: a counter that counts, in a state that has the register file of another. -/
theorem State.numAt_bump_of_same {s u : State} (hp : u.part = s.part) (hd : u.dict = s.dict)
    (h : Dict.wf s.part.variant s.dict = true) (a : Nat) : (u.bump a).numAt a = (s.numAt a + 1) % 2 ^ 64 :=
  (State.numAt_bump_congr hp hd a a).trans (State.numAt_bump_same h (wrapFlagOf_ne a))

/-! ## The binnacle's own reset (R264, R368, R372) -/

section
variable (s : State)

theorem State.binnacleReset_bin : s.binnacleReset.bin = { s.bin with
    state := .starting, faultN := true, reactions := [], message := none, alive := 0, normalSince := false,
    normalAtLast := false } := by
  simp only [State.binnacleReset, State.bump_frame, State.setNum_frame]

theorem State.binnacleReset_frame : s.binnacleReset.log = s.log ∧ s.binnacleReset.tick = s.tick := by
  simp only [State.binnacleReset, State.bump_frame, State.setNum_frame, and_self]

theorem State.binnacleReset_cause {s : State} (h : Dict.wf s.part.variant s.dict = true) : s.binnacleReset.numAt Adr.resetCause = 4 := by
  have hcount : ∀ u : State, Dict.wf u.part.variant u.dict = true →
      ((u.setNum Adr.resetCause 4).bump Adr.resetsBinnacle).numAt Adr.resetCause = 4 := fun u hu => by
    rw [State.numAt, State.valAt_bump_other (State.setNum_wf _ _ hu) (by decide) (by decide), ← State.numAt,
      State.numAt_setNum_same _ _ hu]
  exact hcount _ h

theorem State.binnacleReset_writesIn : State.WritesIn
    (· ∈ Adr.resetCause :: withFlags [Adr.resetsBinnacle]) s s.binnacleReset := by
  have hset : ∀ u : State, State.WritesIn (· ∈ Adr.resetCause :: withFlags [Adr.resetsBinnacle]) u
      ((u.setNum Adr.resetCause 4).bump Adr.resetsBinnacle) := fun u =>
    (State.WritesIn.setNum 4 (by simp) u).trans (.bump (by decide) (by decide) _)
  exact (hset _).after rfl rfl

end

/-- What the binnacle reads as after its reset. -/
def State.binnacleRestarted (x : State) : Prop := x.bin.state = .starting ∧ x.bin.faultN = true ∧ x.bin.reactions = [] ∧
  x.bin.message = none ∧ x.bin.alive = 0 ∧ x.numAt Adr.resetCause = 4

theorem State.binnacleReset_restarted {s : State} (h : s.binnacleReset.numAt Adr.resetCause = 4) :
    s.binnacleReset.binnacleRestarted := by
  unfold State.binnacleRestarted
  rw [State.binnacleReset_bin]
  exact ⟨rfl, rfl, rfl, rfl, rfl, h⟩

/-- The state in which the record of a lockstep mismatch is committed: its number is taken and its bit latched. -/
def State.mismatchTaken (s : State) : State := State.latchSafety { s with
  tick := { s.tick with faults := s.tick.faults + 1 }, log := { s.log with nextSeq := nextSeq s.log.nextSeq } } 0x0D

theorem State.lockstepMismatch_eq (s : State) :
    s.lockstepMismatch = (s.mismatchTaken.commitRecord s.fixedForm).binnacleReset := rfl

theorem State.mismatchTaken_frame (s : State) :
    s.mismatchTaken.log = { s.log with nextSeq := nextSeq s.log.nextSeq } ∧ s.mismatchTaken.tick.faults = s.tick.faults + 1 := by
  simp only [State.mismatchTaken, State.latchSafety, State.latchMechanism, State.bump_frame, State.setNum_frame, and_self]

theorem State.mismatchTaken_latched {s : State} (h : Dict.wf s.part.variant s.dict = true) :
    Dict.wf s.mismatchTaken.part.variant s.mismatchTaken.dict = true ∧
      bitAt (s.mismatchTaken.numAt Adr.faultLatchedMask) 0x0D = true := by
  have hlatch : ∀ u : State, Dict.wf u.part.variant u.dict = true →
      Dict.wf (u.latchSafety 0x0D).part.variant (u.latchSafety 0x0D).dict = true ∧
        bitAt ((u.latchSafety 0x0D).numAt Adr.faultLatchedMask) 0x0D = true := fun u hu => by
    have hw : Dict.wf (u.latchMechanism 0x0D).part.variant (u.latchMechanism 0x0D).dict = true := State.setNum_wf _ _ hu
    refine ⟨State.bump_wf Adr.safetyFaults hw, ?_⟩
    have hn : (u.latchSafety 0x0D).numAt Adr.faultLatchedMask = ((u.latchMechanism 0x0D).bump Adr.safetyFaults).numAt
        Adr.faultLatchedMask := State.numAt_congr rfl rfl _
    rw [hn, State.numAt, State.valAt_bump_other hw (by decide) (by decide), ← State.numAt, State.latchMechanism,
      State.numAt_setNum_same _ _ hu]
    exact bitAt_setBit _ _
  exact hlatch _ h

theorem State.commitRecord_tick (s : State) (r : FaultRx) : (s.commitRecord r).tick = s.tick := by
  cases h : s.ringRoom r.cls with
  | none =>
    obtain ⟨xs, hx⟩ := s.returnSuppressed_frame (r.signature s.part) r.suppressed
    rw [State.commitRecord_none h, State.bump_tick, hx]
  | some ring =>
    simp only [State.commitRecord, h]
    rw [State.bump_tick]
    split
    · rfl
    · exact State.bump_tick _ _

theorem State.queueMessage_tick (s : State) (tick kind valid faults meridian : Nat) :
    (s.queueMessage tick kind valid faults meridian).tick = s.tick := by
  unfold State.queueMessage
  split
  · rfl
  · extract_lets alive bytes a
    simp only [a]
    split
    · exact State.bump_tick _ _
    · rfl

/-- What a lockstep mismatch leaves. -/
theorem State.lockstepMismatch_spec {s x : State} (h : Dict.wf s.part.variant s.dict = true) (hx : s.lockstepMismatch = x) :
    x.binnacleRestarted ∧ bitAt (x.numAt Adr.faultLatchedMask) 0x0D = true ∧ x.log.nextSeq = nextSeq s.log.nextSeq ∧
      x.tick.faults = s.tick.faults + 1 ∧ ∃ k, k ∈ x.log.ring ∧ k.seq = s.log.nextSeq ∧ k.cls = 1 ∧ k ∈ x.log.copying := by
  rw [State.lockstepMismatch_eq] at hx
  obtain ⟨hlog, htick⟩ := s.mismatchTaken_frame
  obtain ⟨hwf, hlatched⟩ := State.mismatchTaken_latched h
  have hcommitted := s.mismatchTaken.commitRecord_writesIn s.fixedForm
  obtain ⟨ring, hroom⟩ := s.mismatchTaken.ringRoom_safety
  obtain ⟨hring, -⟩ := State.commitRecord_some (s := s.mismatchTaken) (r := s.fixedForm) hroom
  obtain ⟨hseq, -⟩ := s.mismatchTaken.commitRecord_log s.fixedForm
  obtain ⟨hxlog, hxtick⟩ := (s.mismatchTaken.commitRecord s.fixedForm).binnacleReset_frame
  have htally := s.mismatchTaken.commitRecord_tick s.fixedForm
  rw [hx] at hxlog hxtick
  refine ⟨?_, ?_, ?_, ?_, s.fixedForm.entry s.mismatchTaken.part, ?_, rfl, rfl, ?_⟩
  · rw [← hx]
    exact State.binnacleReset_restarted (State.binnacleReset_cause (hcommitted.wf hwf))
  · rw [← hx,
      (State.binnacleReset_writesIn _).numAt (hcommitted.wf hwf) (by decide), hcommitted.numAt hwf (by decide)]
    exact hlatched
  · rw [hxlog, hseq, hlog]
  · rw [hxtick, htally, htick]
  · rw [hxlog, hring]
    exact List.mem_append_right _ (List.mem_singleton.2 rfl)
  · rw [hxlog, hring]
    exact List.mem_append_right _ (List.mem_singleton.2 rfl)

/-! ## The safety message (R270 to R272) -/

theorem State.safetyBytes_advance (s : State) (t alive tick kind valid faults meridian : Nat) :
    (s.advance t).safetyBytes alive tick kind valid faults meridian = s.safetyBytes alive tick kind valid faults meridian := by
  simp only [State.safetyBytes, State.outputPresent, State.p0Endings, State.numAt_advance, State.advance_frame]
  rfl

theorem State.outputValid_advance (s : State) (t tick : Nat) : (s.advance t).outputValid tick = s.outputValid tick := by
  simp only [State.outputValid, State.p0Endings, State.enabledP0, State.flagAt_advance, State.numAt_advance,
    State.advance_frame]
  rfl

/-- R272: whether the output of bit `k` is valid in a tick. -/
def State.outputBit (s : State) (tick k : Nat) : Bool :=
  match s.p0Endings (s.numAt (Adr.safetyOutput k)) tick with
  | [e] => s.enabledP0 (s.numAt (Adr.safetyOutput k)) && e.valid
  | _ => false

theorem flagMask_range (p : Nat → Bool) :
    flagMask p (List.range 16) = sumNat ((List.range 16).map fun k => if p k then 2 ^ k else 0) := rfl

/-- OUTPUT_VALID is one bit for each of the sixteen outputs. -/
theorem State.outputValid_eq (s : State) (tick : Nat) : s.outputValid tick =
    if s.bin.safetyInLast != 0 || !s.bin.normalAtLast || s.bin.state != .normal || s.power.debugUnlocked then 0
    else flagMask (s.outputBit tick) (List.range 16) := by
  unfold State.outputValid
  refine if_congr Iff.rfl rfl ?_
  rw [flagMask_range]
  refine congrArg sumNat (List.map_congr_left fun k _ => ?_)
  unfold State.outputBit
  dsimp only
  rcases s.p0Endings (s.numAt (Adr.safetyOutput k)) tick with _ | ⟨e, _ | ⟨f, es⟩⟩ <;> rfl

theorem State.outputValid_bit {s : State} {tick k : Nat} (hk : k < 16) (h : bitAt (s.outputValid tick) k = true) :
    s.outputBit tick k = true := by
  rw [State.outputValid_eq] at h
  split at h
  · simp [bitAt] at h
  · rw [bitAt_flagMask, List.getElem?_range hk] at h
    exact h

theorem State.outputBit_iff {s : State} {tick k : Nat} (h : s.outputBit tick k = true) :
    s.enabledP0 (s.numAt (Adr.safetyOutput k)) = true ∧
      ∃ e, s.p0Endings (s.numAt (Adr.safetyOutput k)) tick = [e] ∧ e.valid = true := by
  unfold State.outputBit at h
  split at h
  · rename_i e he
    rw [Bool.and_eq_true] at h
    exact ⟨h.1, e, he, h.2⟩
  · exact absurd h (by decide)

theorem State.queueMessage_replaced {s : State} (h : Dict.wf s.part.variant s.dict = true)
    (he : s.flagAt Adr.safetyMsgEnable = true) (hs : s.bin.state ≠ .starting) (hm : s.bin.message.isSome = true)
    (tick kind valid faults meridian : Nat) : (s.queueMessage tick kind valid faults meridian).numAt Adr.safetyMsgReplaced =
      (s.numAt Adr.safetyMsgReplaced + 1) % 2 ^ 64 := by
  unfold State.queueMessage
  rw [if_neg (by simp [he, hs])]
  simp only [hm, if_true]
  exact (State.numAt_congr rfl rfl _).trans (State.numAt_bump_same h (by decide))

/-- R271: the PERIODIC message. -/
theorem exec_safetyMsgPeriodic {s u : State} {n m0 m1 k : Nat} {h : List (Nat × Nat)} (hd : s.dormant = false)
    (hh : s.tick.history = (k, m1) :: (n, m0) :: h) (hn : s.bin.described ≠ some n)
    (hu : s.advance (m1 + s.numAt Adr.safetyMsgOffset * 1000) = u) (hv : u.bin = s.bin) : exec .safetyMsgPeriodic s =
      .next { u.queueMessage n 0 (u.outputValid n) s.bin.safetyInLast m0 with
        bin := { (u.queueMessage n 0 (u.outputValid n) s.bin.safetyInLast m0).bin with described := some n } } := by
  have he : exec .safetyMsgPeriodic s = .next (doSafetyMsgPeriodic s) := rfl
  have hdormant : u.dormant = false := by rw [← hu, State.advance_dormant, hd]
  rw [he]
  unfold doSafetyMsgPeriodic
  simp only [hh, hu]
  rw [if_neg (by simp [hdormant, hv, hn]), hv]

/-- R270: the queued message `b` is sent; it is not counted yet. -/
def State.transmitted (s : State) (b : Bytes) : State :=
  { s.emit (.safetyFrame (s.numAt Adr.safetyCanController) (s.numAt Adr.safetyMsgId) b) with
    bin := { s.bin with message := none } }

theorem exec_safetyMsgTransmit {s u : State} {t : Nat} {b : Bytes} (hu : s.advance t = u) (hd : u.dormant = false)
    (hm : u.bin.message = some b) (hr : u.ctlRuns = true) :
    exec (.safetyMsgTransmit t) s = .next ((u.transmitted b).bump Adr.safetyMsgSent) := by
  have he : exec (.safetyMsgTransmit t) s = .next (doSafetyMsgTransmit t s) := rfl
  rw [he]
  unfold doSafetyMsgTransmit
  simp only [hu, hm]
  rw [if_neg (by simp [hr, hd])]
  rfl

/-- R372: the end of a start-up. -/
theorem State.binnacleUp_spec {s : State} (hs : s.bin.state = .starting) : s.binnacleUp.dict = s.dict ∧
    (s.numAt Adr.faultLatchedMask = 0 → s.binnacleUp.bin.state = .normal ∧ s.binnacleUp.bin.faultN = false) ∧
    (s.numAt Adr.faultLatchedMask ≠ 0 → s.binnacleUp.bin.state = .faultLatched ∧ s.binnacleUp.bin.faultN = true) := by
  unfold State.binnacleUp
  rw [if_neg (by simp [hs])]
  exact ⟨rfl, fun h => by simp [h], fun h => by simp [h]⟩

theorem exec_binnacleStart {s u : State} {t : Nat} (hu : s.advance t = u) (hd : u.dormant = false) (hr : u.power.romOnly = false)
    (hok : u.power.binnacleOk = true ∨ u.power.state = .booting) :
    exec (.binnacleStart t) s = .next (State.binnacleUp { u with power := { u.power with binnacleOk := true } }) := by
  have he : exec (.binnacleStart t) s = .next (doBinnacleStart t s) := rfl
  have hopen : (u.power.binnacleOk || u.power.state == .booting) = true := by simpa using hok
  rw [he]
  unfold doBinnacleStart
  rw [hu, if_neg (by simp [hd, hr, hopen])]

theorem exec_binnacleLockstepMismatch {s u : State} {t : Nat} (hu : s.advance t = u) (hd : u.dormant = false) :
    exec (.binnacleLockstepMismatch t) s = .next u.lockstepMismatch := by
  rw [show exec (.binnacleLockstepMismatch t) s = .next (doBinnacleLockstepMismatch t s) from rfl,
    doBinnacleLockstepMismatch, hu, if_neg (by simp [hd])]

theorem exec_binnacleWatchdog {s u : State} {t : Nat} (hu : s.advance t = u) (hd : u.dormant = false) :
    exec (.binnacleWatchdog t) s = .next u.binnacleReset := by
  rw [show exec (.binnacleWatchdog t) s = .next (doBinnacleWatchdog t s) from rfl, doBinnacleWatchdog, hu,
    if_neg (by simp [hd])]

/-- The PERIODIC message is queued once. -/
theorem safetyMsgPeriodic_effect {s : State} {n m0 m1 k : Nat} {h : List (Nat × Nat)} (hinv : s.Inv) (hd : s.dormant = false)
    (hh : s.tick.history = (k, m1) :: (n, m0) :: h) (hn : s.bin.described ≠ some n)
    (he : s.flagAt Adr.safetyMsgEnable = true) (hs : s.bin.state ≠ .starting) :
    ∃ x, exec .safetyMsgPeriodic s = .next x ∧ x.bin.described = some n ∧ x.bin.alive = (s.bin.alive + 1) % 65536 ∧
      x.bin.message = some (s.safetyBytes ((s.bin.alive + 1) % 65536) n 0 (s.outputValid n) s.bin.safetyInLast m0) ∧
      x.tick.now = max s.tick.now (m1 + s.numAt Adr.safetyMsgOffset * 1000) ∧
      (s.bin.message.isSome → x.numAt Adr.safetyMsgReplaced = (s.numAt Adr.safetyMsgReplaced + 1) % 2 ^ 64) := by
  generalize hoff : m1 + s.numAt Adr.safetyMsgOffset * 1000 = off
  have hbin : (s.advance off).bin = s.bin := (s.advance_within off).bin rfl
  have hflag : (s.advance off).flagAt Adr.safetyMsgEnable = true := (s.flagAt_advance off _).trans he
  have hstate : (s.advance off).bin.state ≠ .starting := by rw [hbin]; exact hs
  have hqueued := State.queueMessage_queues hflag hstate n 0 ((s.advance off).outputValid n) (s.advance off).bin.safetyInLast m0
  have htick := State.queueMessage_tick (s.advance off) n 0 ((s.advance off).outputValid n) (s.advance off).bin.safetyInLast m0
  have hreplaced := fun hm => State.queueMessage_replaced (State.advance_inv hinv).wf hflag hstate hm n 0
    ((s.advance off).outputValid n) (s.advance off).bin.safetyInLast m0
  rw [State.safetyBytes_advance, State.outputValid_advance, hbin] at hqueued
  rw [hbin, State.numAt_advance, State.outputValid_advance] at hreplaced
  rw [State.outputValid_advance, hbin] at htick
  have hexec := exec_safetyMsgPeriodic hd hh hn (congrArg s.advance hoff) hbin
  rw [State.outputValid_advance] at hexec
  generalize (s.advance off).queueMessage n 0 (s.outputValid n) s.bin.safetyInLast m0 = v at hqueued htick hreplaced hexec
  refine ⟨_, hexec, rfl, congrArg Binnacle.alive hqueued, congrArg Binnacle.message hqueued, ?_, fun hm => ?_⟩
  · exact (congrArg Tick.now htick).trans (by rw [State.advance_now, hd]; rfl)
  · exact (State.numAt_congr rfl rfl _).trans (hreplaced hm)

/-- The queued message goes out. -/
theorem safetyMsgTransmit_effect {s : State} {t : Nat} {b : Bytes} (hinv : s.Inv) (hd : s.dormant = false)
    (hm : s.bin.message = some b) (hr : (s.advance t).ctlRuns = true) :
    ∃ x, exec (.safetyMsgTransmit t) s = .next x ∧ x.bin = { s.bin with message := none } ∧
      x.sent = s.sent ++ [.safetyFrame (s.numAt Adr.safetyCanController) (s.numAt Adr.safetyMsgId) b] ∧
      x.numAt Adr.safetyMsgSent = (s.numAt Adr.safetyMsgSent + 1) % 2 ^ 64 := by
  have hnum : ∀ a, (s.advance t).numAt a = s.numAt a := s.numAt_advance t
  obtain ⟨hbin, hsent, hdict, hpart⟩ : (s.advance t).bin = s.bin ∧ (s.advance t).sent = s.sent ∧ (s.advance t).dict = s.dict ∧
      (s.advance t).part = s.part := by simp
  have hdormant : (s.advance t).dormant = false := (s.advance_dormant t).trans hd
  generalize hu : s.advance t = u at *
  refine ⟨_, exec_safetyMsgTransmit hu hdormant (by rw [hbin, hm]) hr, ?_, ?_,
    State.numAt_bump_of_same (u := u.transmitted b) hpart hdict hinv.wf _⟩
  · rw [State.bump_bin, State.transmitted, hbin]
  · rw [State.bump_sent, ← hsent, ← hnum, ← hnum]
    rfl

/-- Settles O45: by what each step of the binnacle and of the safety message leaves. -/
theorem binnacleReports : Obligations.BinnacleReports := by
  unfold Obligations.BinnacleReports
  constructor
  · intro s t hinv hd u restarts
    have hu : u.dormant = false := (s.advance_dormant t).trans hd
    have hwf : Dict.wf u.part.variant u.dict = true := (State.advance_inv hinv).wf
    have hlog : u.log = s.log := (s.advance_within t).log rfl
    have hdict : u.dict = s.dict := (s.advance_within t).dict rfl
    refine ⟨⟨_, exec_binnacleLockstepMismatch rfl hu, ?_⟩, ⟨_, exec_binnacleWatchdog rfl hu, ?_, ?_⟩, fun hr hok hs =>
      ⟨_, exec_binnacleStart rfl hu hr hok, ?_⟩⟩
    · exact State.lockstepMismatch_spec hwf rfl
    · exact State.binnacleReset_restarted (State.binnacleReset_cause hwf)
    · exact u.binnacleReset_frame.1.trans hlog
    · obtain ⟨hup, hlatched⟩ := State.binnacleUp_spec (s := { u with power := { u.power with binnacleOk := true } }) hs
      exact ⟨hup.trans hdict, hlatched⟩
  · intro s hinv hd
    refine ⟨fun n m0 m1 k h hh hn he hs => safetyMsgPeriodic_effect hinv hd hh hn he hs,
      fun n => ⟨fun hv => ?_, fun k hk hb => State.outputBit_iff (State.outputValid_bit hk hb)⟩,
      fun t b hm hr => safetyMsgTransmit_effect hinv hd hm hr⟩
    rw [State.outputValid_eq, if_pos]
    rcases hv with hv | hv <;> simp [hv]

end Sys2Proof.Machine

/-! PROOFS of the statement about what the owner clears (O46), with what holds of every command of a single object. -/

namespace Sys2Proof.Machine

/-! ## Commands of single objects (R64) -/

/-- The objects of the safety, key, touch, platform, power and debug commands. -/
def commandRows : List Nat :=
  [Adr.faultAck, Adr.arrayFaultClear, Adr.logbookClear, Adr.persistClear, Adr.keyLock, Adr.eventAck, Adr.selfTest, Adr.seqRun,
    Adr.seqAbort, Adr.tripClear, Adr.platPending, Adr.powerCmd, Adr.warmReset, Adr.debugLock]

theorem commandRows_plain : ∀ a ∈ commandRows, kindAt a = .plain := by decide +kernel

theorem commandRows_single : ∀ a ∈ commandRows, isSelector a = false ∧ a ≠ Adr.tlbInvalidate ∧ a ≠ Adr.ctlReset ∧
    a ≠ Adr.debugResponse := by decide +kernel

theorem commandRows_index : ∀ a ∈ commandRows, ¬ (0x1000 ≤ a / 256 ∧ a / 256 < 0x1180) ∧ ¬ (0x2420 ≤ a / 256 ∧ a / 256 < 0x2460) ∧
    ¬ (0x2840 ≤ a / 256 ∧ a / 256 < 0x2860) ∧ ¬ (0x5400 ≤ a / 256 ∧ a / 256 < 0x5440) := by decide +kernel

section
variable {s x : State} {r : Req} {a : Nat} {v : Val} {p : Port}

theorem State.unitCommand_none (ha : a ∈ commandRows) (n : Nat) : s.unitCommand a n = none := by
  obtain ⟨h1, h2, h3, h4⟩ := commandRows_index a ha
  unfold State.unitCommand
  extract_lets index
  have e1 : (decide (0x1000 ≤ index) && decide (index < 0x1180)) = false := by simpa using h1
  have e2 : (decide (0x2420 ≤ index) && decide (index < 0x2460)) = false := by simpa using h2
  have e3 : (decide (0x2840 ≤ index) && decide (index < 0x2860)) = false := by simpa using h3
  have e4 : (decide (0x5400 ≤ index) && decide (index < 0x5440)) = false := by simpa using h4
  simp only [e1, e2, e3, e4, Bool.false_and, Bool.false_eq_true, if_false]

theorem State.perform_command (ha : a ∈ commandRows) (hc : s.command a v = some x) : s.perform p a v = (none, x) := by
  obtain ⟨hs, -, -, hd⟩ := commandRows_single a ha
  unfold State.perform
  rw [hs, commandRows_plain a ha, State.unitCommand_none ha]
  simp only [beq_iff_eq, hd, if_false, hc, Bool.false_eq_true, reduceCtorEq]

/-- A command that passes every check: its effect, and its response. -/
theorem State.writeRow_command (h : s.grants r a) (ha : a ∈ commandRows)
    (hc : (s.heard r.t r.port r.sender).command a (writeValue a r.payload) = some x) : s.writeRow r a =
      x.answered r.port ((s.heard r.t r.port r.sender).routeOf r.port r.sender) 2 r.seq a 0 [] := by
  obtain ⟨hs, ht, hr, -⟩ := commandRows_single a ha
  exact State.writeRow_of_perform h hs ht hr (State.perform_command ha hc)

/-- What the checks of an accepted write have passed. -/
theorem State.checks_of_refuses (h : s.refuses p a v = none) : s.existCheck a = none ∧ s.writeCheck a = none ∧
    s.storageCheck a = none ∧ s.unitCheck a = none ∧ s.safetyCheck a v.toNat = none ∧ s.platformCheck a v.toNat = none ∧
    s.powerCodes a v.toNat = none ∧ valueCode s.part s.look a v = none ∧ s.commandValueCheck a v.toNat = none ∧
    s.debugValueCheck a v.toBytes = none := by
  have hstate : s.stateCheck a v.toNat = none := firstCode_eq_none h (by simp)
  have hvalue : s.valueCheck a v = none := firstCode_eq_none h (by simp)
  refine ⟨firstCode_eq_none h (by simp), firstCode_eq_none h (by simp), ?_, ?_, ?_, ?_, ?_, ?_, ?_, ?_⟩
  · exact firstCode_eq_none hstate (by simp)
  · exact firstCode_eq_none hstate (by simp)
  · exact firstCode_eq_none hstate (by simp)
  · exact firstCode_eq_none hstate (by simp)
  · exact firstCode_eq_none hstate (by simp)
  · exact firstCode_eq_none hvalue (by simp)
  · exact firstCode_eq_none hvalue (by simp)
  · exact firstCode_eq_none hvalue (by simp)

theorem refuseIf_eq_none {b : Bool} {code : Nat} (h : refuseIf b code = none) : b = false := by
  cases b
  · rfl
  · simp [refuseIf] at h

theorem State.numAt_answered (s : State) (p : Port) (route : Route) (service seq a flags : Nat) (payload : Bytes) (b : Nat) :
    (s.answered p route service seq a flags payload).numAt b = s.numAt b :=
  State.numAt_congr (State.answered_within.part rfl) (State.answered_within.dict rfl) b

/-! ## Faults, held arrays and records (R258, R269, R285 to R287) -/

theorem exec_faultAck (h : s.grants r Adr.faultAck) : exec (.faultAck r) s = .next ((s.heard r.t r.port r.sender).faultAck.answered
    r.port ((s.heard r.t r.port r.sender).routeOf r.port r.sender) 2 r.seq Adr.faultAck 0 []) := by
  show Host.Outcome.next (s.writeRow r Adr.faultAck) = _
  rw [State.writeRow_command h (by decide) rfl]

theorem exec_arrayFaultClear (h : s.grants r Adr.arrayFaultClear) : exec (.arrayFaultClear r) s =
    .next (((s.heard r.t r.port r.sender).setArr (writeValue Adr.arrayFaultClear r.payload).toNat
      (fun y => { y with verdict := 0 })).answered r.port ((s.heard r.t r.port r.sender).routeOf r.port r.sender) 2 r.seq
        Adr.arrayFaultClear 0 []) := by
  show Host.Outcome.next (s.writeRow r Adr.arrayFaultClear) = _
  rw [State.writeRow_command h (by decide) rfl]

theorem exec_logbookClear (h : s.grants r Adr.logbookClear) : exec (.logbookClear r) s =
    .next ((s.heard r.t r.port r.sender).clearLogbook.answered r.port ((s.heard r.t r.port r.sender).routeOf r.port r.sender) 2
      r.seq Adr.logbookClear 0 []) := by
  show Host.Outcome.next (s.writeRow r Adr.logbookClear) = _
  rw [State.writeRow_command h (by decide) rfl]

theorem exec_persistClear (h : s.grants r Adr.persistClear) : exec (.persistClear r) s =
    .next (State.answered { s.heard r.t r.port r.sender with log := { (s.heard r.t r.port r.sender).log with persist := [] } }
      r.port ((s.heard r.t r.port r.sender).routeOf r.port r.sender) 2 r.seq Adr.persistClear 0 []) := by
  show Host.Outcome.next (s.writeRow r Adr.persistClear) = _
  rw [State.writeRow_command h (by decide) rfl]

/-- R269: FAULT_ACK outside a start-up. -/
theorem State.faultAck_spec (h : Dict.wf s.part.variant s.dict = true) (hs : s.bin.state ≠ .starting) :
    s.faultAck.numAt Adr.faultLatchedMask = 0 ∧ s.faultAck.bin.faultN = false ∧ s.faultAck.bin.state = .normal ∧
      s.faultAck.arrs = s.arrs ∧ s.faultAck.log = s.log := by
  unfold State.faultAck
  rw [if_neg (by simpa using hs)]
  exact ⟨(State.numAt_congr (s := s.setNum Adr.faultLatchedMask 0) rfl rfl _).trans (State.numAt_setNum_same _ 0 h), rfl, rfl, rfl, rfl⟩

theorem Variant.arrays_le (v : Variant) : v.arrays ≤ 8 := by cases v <;> decide

/-- R258: the array that an accepted ARRAY_FAULT_CLEAR names is held. -/
theorem State.held_of_granted (h : s.refuses p Adr.arrayFaultClear v = none) : v.toNat < 8 ∧ (s.arrAt v.toNat).state = .heldFault := by
  obtain ⟨-, -, -, -, hsafety, -, -, -, hvalue, -⟩ := State.checks_of_refuses h
  have hlt : v.toNat < s.part.variant.arrays := by simpa using refuseIf_eq_none hvalue
  have hheld := refuseIf_eq_none hsafety
  simp only [hlt, decide_true, Bool.true_and, bne_eq_false_iff_eq] at hheld
  exact ⟨lt_of_lt_of_le hlt (Variant.arrays_le _), hheld⟩

/-- R285: a write of a read selector that passes every check. -/
theorem State.writeRow_selector (h : s.grants r a) (hs : isSelector a = true) : s.writeRow r a =
    ((s.heard r.t r.port r.sender).putSelector r.port a (writeValue a r.payload).toNat).respond r.port
      ((s.heard r.t r.port r.sender).routeOf r.port r.sender) (responsePdu 2 r.seq a 0 []) := by
  obtain ⟨h1, h2, h3, h4, h5⟩ := h
  have e : firstCode [flagCheck r.flags, refuseIf (blockOnly a || tooShort a r.payload) 0x0602,
      (s.heard r.t r.port r.sender).refuses r.port a (writeValue a r.payload)] = none := by
    refine firstCode_none ?_
    simp [flagCheck, refuseIf, h2, h3, h4, h5]
  have ha : a = Adr.logbookReadSeq ∨ a = Adr.persistReadIndex := by simpa [isSelector] using hs
  have ht : (a == Adr.tlbInvalidate) = false := by rcases ha with rfl | rfl <;> decide
  have hr : (a == Adr.ctlReset) = false := by rcases ha with rfl | rfl <;> decide
  unfold State.writeRow
  rw [State.request_heard h1, addr_split]
  simp only [State.serveWrite, e, ht, hr, State.perform, hs, if_true, Bool.false_eq_true, if_false, Reply.send]

/-- A port's selector, and those of the other ports, after the response to a write. -/
theorem State.respond_selectors (s : State) (p q : Port) (route : Route) (pdu : Bytes) :
    ((s.respond p route pdu).portAt q).readSeq = (s.portAt q).readSeq ∧
      ((s.respond p route pdu).portAt q).persistIndex = (s.portAt q).persistIndex := by
  unfold State.respond
  split
  · have h : State.Within [.host, .sent] s (s.sendResponse p route pdu) :=
      (State.Sound.sendResponse (State.Sound.refl _ s) rfl).within
    rw [State.portAt, h.ports rfl, State.portAt]
    exact ⟨rfl, rfl⟩
  · exact ⟨State.portAt_setPort_kept PortState.readSeq (by intro; rfl) s p q,
      State.portAt_setPort_kept PortState.persistIndex (by intro; rfl) s p q⟩

/-- R285: the row of a read selector. -/
theorem exec_readSelectorWrite (persist : Bool) (ha : (if persist then Adr.persistReadIndex else Adr.logbookReadSeq) = a)
    (h : s.grants r a) : exec (.readSelectorWrite r persist) s =
      .next (((s.heard r.t r.port r.sender).putSelector r.port a (writeValue a r.payload).toNat).respond r.port
        ((s.heard r.t r.port r.sender).routeOf r.port r.sender) (responsePdu 2 r.seq a 0 [])) := by
  show Host.Outcome.next (s.writeRow r (if persist then Adr.persistReadIndex else Adr.logbookReadSeq)) = _
  rw [ha, State.writeRow_selector h (by rw [← ha]; cases persist <;> rfl)]

theorem Port.idx_ne {p q : Port} (h : p ≠ q) : p.idx ≠ q.idx := by
  revert h
  cases p <;> cases q <;> decide

/-- Settles O46: each command by its effect, and each selector by that of its port. -/
theorem ownerClearsFaults : Obligations.OwnerClearsFaults := by
  unfold Obligations.OwnerClearsFaults
  intro s r hinv h
  have hh : h.Inv := State.heard_inv hinv
  refine ⟨fun hg hs => ⟨_, exec_faultAck hg, ?_⟩, fun hg => ⟨_, exec_arrayFaultClear hg, ?_⟩, fun hg => ⟨_, exec_logbookClear hg, ?_, ?_⟩,
    fun hg => ⟨_, exec_persistClear hg, State.answered_within.log rfl⟩, fun hg => ?_, fun hg => ?_⟩
  · rw [State.numAt_answered, State.answered_within.bin rfl, State.answered_within.arrs rfl, State.answered_within.log rfl]
    exact State.faultAck_spec hh.wf hs
  · obtain ⟨-, -, -, -, hrefuses⟩ := hg
    obtain ⟨hlt, hheld⟩ := State.held_of_granted hrefuses
    have hkept : ∀ k, (State.answered (h.setArr (writeValue Adr.arrayFaultClear r.payload).toNat (fun y => { y with verdict := 0 }))
        r.port (h.routeOf r.port r.sender) 2 r.seq Adr.arrayFaultClear 0 []).arrAt k =
        (h.setArr (writeValue Adr.arrayFaultClear r.payload).toNat (fun y => { y with verdict := 0 })).arrAt k := fun k => by
      rw [State.arrAt, State.answered_within.arrs rfl, State.arrAt]
    have hsame := State.arrAt_setArr h (writeValue Adr.arrayFaultClear r.payload).toNat (fun y => { y with verdict := 0 })
      (hh.arr_lt hlt)
    refine ⟨(hkept _).trans hsame, ?_, fun k hk => (hkept k).trans (nth_modifyAt_other _ _ hk)⟩
    rw [hkept, hsame]
    exact hheld
  · rw [State.answered_within.log rfl]
    rfl
  · rw [State.numAt_answered]
    exact State.numAt_setNum_same (s := { h with log := { h.log with ring := [] } }) _ _ hh.wf
  · refine ⟨_, exec_readSelectorWrite false rfl hg, ?_, fun p hp => ?_, State.respond_within.own rfl⟩
    · rw [(State.respond_selectors _ _ _ _ _).1, State.putSelector, State.portAt_setPort _ _ _ (hh.port_lt _)]
      rfl
    · rw [(State.respond_selectors _ _ _ _ _).1, State.putSelector,
        State.portAt_setPort_other _ _ _ _ (Port.idx_ne hp.symm)]
  · refine ⟨_, exec_readSelectorWrite true rfl hg, ?_, fun p hp => ?_, State.respond_within.own rfl⟩
    · rw [(State.respond_selectors _ _ _ _ _).2, State.putSelector, State.portAt_setPort _ _ _ (hh.port_lt _)]
      rfl
    · rw [(State.respond_selectors _ _ _ _ _).2, State.putSelector,
        State.portAt_setPort_other _ _ _ _ (Port.idx_ne hp.symm)]

end

end Sys2Proof.Machine

/-! PROOFS of the statement about the event FIFO and the key lock (O49), with what a granted WRITE_BLOCK comes to. -/

namespace Sys2Proof.Machine

/-! ## A value that one segment of a WRITE_BLOCK brings (R49, R50) -/

theorem field_of_leBytes (n : Nat) (v : Bytes) (h : n < 256 ^ 4) : field (leBytes 4 n ++ v) 0 4 = n := by
  have hl : (leBytes 4 n).length = 4 := length_leBytes 4 n
  rw [field, slice, List.drop_zero, List.take_append_of_le_length (by omega), List.take_of_length_le (by omega),
    leNat_leBytes, Nat.mod_eq_of_lt h]

section
variable {s : State} {p : Pdu} {a : Nat} {v : Bytes}

/-- The transfer of a value that its first segment brings whole. -/
def wholeTransfer (s : State) (p : Pdu) (a : Nat) (v : Bytes) : Transfer :=
  Transfer.open_ (segmentOf true p.seq p.flags a p.payload) v.length [] s.tick.now

theorem wholeTransfer_buf (s : State) (p : Pdu) (a : Nat) (v : Bytes) : ((wholeTransfer s p a v).with_ v).buf = v := by
  simp [wholeTransfer, Transfer.with_, Transfer.open_]

/-- R50: the state in which the value of a granted WRITE_BLOCK is written: its transfer is its port's. -/
def State.blockHeld (s : State) (p : Pdu) (a : Nat) (v : Bytes) : State :=
  (s.clearTransfer p.port).holdData p.port (wholeTransfer s p a v) v

theorem State.blockHeld_within (s : State) (p : Pdu) (a : Nat) (v : Bytes) : State.Within [.ports] s (s.blockHeld p a v) :=
  (State.Sound.setPort (State.Sound.setPort (State.Sound.refl [.ports] s) rfl) rfl).within

/-- A granted WRITE_BLOCK is its one segment, taken whole. -/
theorem State.blockRow_take (h : s.grantsBlock p a v) :
    s.blockRow p true a = (((s.heard p.t p.port p.sender).clearTransfer p.port).takeSegment p.port
      (segmentOf true p.seq p.flags a p.payload) (wholeTransfer (s.heard p.t p.port p.sender) p a v) v).send p.port
      ((s.heard p.t p.port p.sender).routeOf p.port p.sender) 4 p.seq a := by
  obtain ⟨h1, h2, h3, h4, h5, h6, h7, h8, h9⟩ := h
  generalize hu : s.heard p.t p.port p.sender = u at *
  generalize hg : segmentOf true p.seq p.flags a p.payload = g at *
  have hpayload : g.payload = leBytes 4 v.length ++ v := by rw [← hg]; exact h4
  have htotal : field g.payload 0 4 = v.length := by rw [hpayload, field_of_leBytes _ _ (by omega)]
  have hlen : g.payload.length = v.length + 4 := by rw [hpayload, List.length_append, length_leBytes]; omega
  have hdata : g.payload.drop 4 = v := by rw [hpayload, List.drop_left' (length_leBytes 4 _)]
  obtain ⟨hf7, hf16, hseg, hfirst, hlast, hwrite, haddr⟩ : bitAt p.flags 7 = false ∧ p.flags % 16 = 0 ∧ g.seg = true ∧
      g.first = true ∧ g.last = true ∧ g.write = true ∧ g.addr = a := by
    rw [← hg]
    simp only [segmentOf, h2, and_true]
    decide
  have hserve : u.serveBlock p.port true p.seq p.flags a p.payload =
      (u.clearTransfer p.port).takeSegment p.port g (wholeTransfer u p a v) v := by
    rw [State.serveBlock_idle hf7 hf16 h7, hg, State.freshSegment_init hseg hfirst, State.initSegment_write h7 hwrite
      (by rw [haddr]; exact h3) (by omega) (by rw [htotal]; exact h5) (lengthOk_of_last hlast (by omega)) h8, htotal, hdata,
      wholeTransfer, hg]
    rfl
  unfold State.blockRow
  rw [if_pos rfl, State.request_heard (by rw [hu] at *; exact h1), addr_split, hu, hserve]

/-- R50: a granted WRITE_BLOCK whose effect succeeds. -/
theorem State.blockRow_done {x : State} (h : s.grantsBlock p a v)
    (hp : ((s.heard p.t p.port p.sender).blockHeld p a v).perform p.port a (.bytes v) = (none, x)) :
    State.Within [.own, .ports, .host, .sent] x (s.blockRow p true a) := by
  rw [State.blockRow_take h]
  obtain ⟨-, h2, -, -, -, -, -, -, h9⟩ := h
  generalize s.heard p.t p.port p.sender = u at *
  have hbuf := wholeTransfer_buf u p a v
  rw [State.takeSegment_last (x := x) (by simp only [segmentOf, h2]; decide) (by rw [hbuf]; exact h9) (by rw [hbuf]; exact hp)]
  exact (State.Sound.respond (State.Sound.touchLease (State.Sound.setPort (State.Sound.refl _ x) rfl) rfl) rfl).within

/-- R50: a granted WRITE_BLOCK whose effect answers a code. -/
theorem State.blockRow_refused {x : State} {code : Nat} (h : s.grantsBlock p a v)
    (hp : ((s.heard p.t p.port p.sender).blockHeld p a v).perform p.port a (.bytes v) = (some code, x)) :
    s.blockRow p true a = ((x.discardTransfer p.port 0x0605).bump (Adr.aborts p.port.idx)).respond p.port
      ((s.heard p.t p.port p.sender).routeOf p.port p.sender) (responsePdu 4 p.seq a (0x80 + 0x40) (leBytes 2 code)) := by
  rw [State.blockRow_take h]
  obtain ⟨-, h2, -, -, -, -, -, -, h9⟩ := h
  generalize s.heard p.t p.port p.sender = u at *
  have hbuf := wholeTransfer_buf u p a v
  have hlast : (segmentOf true p.seq p.flags a p.payload).last = true := by simp only [segmentOf, h2]; decide
  have hv : (u.blockHeld p a v).valueCheck a (.bytes v) = none := h9
  unfold State.takeSegment
  extract_lets y kept w keep
  have hy : y.buf = v := hbuf
  have hw : w = u.blockHeld p a v := rfl
  simp only [hlast, hy, hw, show (segmentOf true p.seq p.flags a p.payload).addr = a from rfl, hv, hp, Bool.not_true,
    Bool.false_eq_true, if_false]
  rfl

end

end Sys2Proof.Machine

/-! PROOFS: what a platform event writes (R346, R347, R349, R353). -/

namespace Sys2Proof.Machine

theorem State.WritesIn.mono {p q : Nat → Prop} {s x : State} (h : State.WritesIn p s x) (hpq : ∀ a, p a → q a) :
    State.WritesIn q s x where
  part := h.part
  wf := h.wf
  kept w b hb := h.kept w b fun hp => hb (hpq b hp)

theorem State.WritesIn.of_within {p : Nat → Prop} {m : List Field} {s x : State} (h : State.Within m s x)
    (hp : m.contains .part = false := by decide) (hd : m.contains .dict = false := by decide) : State.WritesIn p s x :=
  .of_same (h.part hp) (h.dict hd)

/-- Where an event of any class writes the register file. -/
def pendingRows : List Nat := Adr.platPending :: withFlags [Adr.platMsgLost]

/-- Where an event that its class counts writes it. -/
def platRows : List Nat := pendingRows ++ withFlags [Adr.thermalEvents, Adr.supplyEvents]

section
variable (s : State) (t : Nat)

theorem State.platEvent_within (k : Nat) (data : Bytes) : State.Within [.dict, .ports, .host, .sent] s (s.platEvent k t data) :=
  (State.Sound.platEvent (State.Sound.refl _ s) rfl).within

theorem State.platEvent_writesPending (k : Nat) (data : Bytes) :
    State.WritesIn (· ∈ pendingRows) s (s.platEvent k t data) := by
  unfold State.platEvent
  extract_lets d st a b
  have ha : State.WritesIn (· ∈ pendingRows) s a := .setNum _ (by decide) s
  have hb : State.WritesIn (· ∈ pendingRows) s b :=
    ha.trans (.of_within (State.Sound.notifyPorts (State.Sound.refl [.ports, .host, .sent] a) rfl).within)
  clear_value a b
  split
  · exact hb
  · extract_lets c
    have hc : State.WritesIn (· ∈ pendingRows) s c :=
      .ite (hb.trans (.bump (a := Adr.platMsgLost) (by decide) (by decide) b)) hb
    exact hc.trans (.of_same rfl rfl)

theorem State.platEvent_writesIn (k : Nat) (data : Bytes) : State.WritesIn (· ∈ platRows) s (s.platEvent k t data) :=
  (s.platEvent_writesPending t k data).mono fun _ h => List.mem_append_left _ h

theorem State.thermalEvent_within (channel kind level : Nat) (value threshold : Int) :
    State.Within [.dict, .ports, .host, .sent] s (s.thermalEvent t channel kind level value threshold) :=
  (State.Sound.thermalEvent (State.Sound.refl _ s) rfl).within

theorem State.thermalEvent_writesIn (channel kind level : Nat) (value threshold : Int) :
    State.WritesIn (· ∈ platRows) s (s.thermalEvent t channel kind level value threshold) :=
  (State.WritesIn.bump (a := Adr.thermalEvents) (by decide) (by decide) s).trans (State.platEvent_writesIn _ t 0 _)

theorem State.supplyEvent_within (source kind level value threshold : Nat) :
    State.Within [.dict, .ports, .host, .sent] s (s.supplyEvent t source kind level value threshold) :=
  (State.Sound.supplyEvent (State.Sound.refl _ s) rfl).within

theorem State.supplyEvent_writesIn (source kind level value threshold : Nat) :
    State.WritesIn (· ∈ platRows) s (s.supplyEvent t source kind level value threshold) :=
  (State.WritesIn.bump (a := Adr.supplyEvents) (by decide) (by decide) s).trans (State.platEvent_writesIn _ t 1 _)

/-- The trip counts itself and its event. -/
theorem State.driveTrip_writesIn (on : Bool) (temp threshold : Int) :
    State.WritesIn (· ∈ platRows ++ withFlags [Adr.trips]) s (s.driveTrip on t temp threshold) := by
  unfold State.driveTrip
  refine .ite (.refl _) ?_
  extract_lets a b
  have hb : State.WritesIn (· ∈ platRows ++ withFlags [Adr.trips]) s b :=
    .ite (State.WritesIn.after (.bump (a := Adr.trips) (by decide) (by decide) a) rfl rfl) (.of_same rfl rfl)
  clear_value b
  exact hb.trans ((State.thermalEvent_writesIn b t _ _ _ _ _).mono fun a h => List.mem_append_left _ h)

end

end Sys2Proof.Machine

/-! PROOFS of the statement about the event FIFO and the key lock (O49): what a change of settings leaves of
KEY_ENABLE_MASK and of the keys reported. -/

namespace Sys2Proof.Machine

/-! ## KEY_ENABLE_MASK stands while units settle -/

/-- Addresses other than KEY_ENABLE_MASK and PG_POLARITY, which settling compares with what they held. -/
@[reducible] def besideMask (a : Nat) : Prop := a ≠ Adr.keyEnableMask ∧ a ≠ Adr.pgPolarity

/-- From `s` to `x` nothing is written to KEY_ENABLE_MASK or to PG_POLARITY. -/
def State.KeepsMask (s x : State) : Prop := State.WritesIn besideMask s x

namespace State.KeepsMask
variable {s x y : State}

theorem refl (s : State) : State.KeepsMask s s := State.WritesIn.refl s

theorem trans (h : State.KeepsMask s x) (k : State.KeepsMask x y) : State.KeepsMask s y := State.WritesIn.trans h k

theorem same (hp : x.part = s.part) (hd : x.dict = s.dict) : State.KeepsMask s x := .of_same hp hd

theorem ite {c : Prop} [Decidable c] (hx : State.KeepsMask s x) (hy : State.KeepsMask s y) :
    State.KeepsMask s (if c then x else y) := State.WritesIn.ite hx hy

theorem of_within {m : List Field} (h : State.Within m s x) (hp : m.contains .part = false := by decide)
    (hd : m.contains .dict = false := by decide) : State.KeepsMask s x := .of_same (h.part hp) (h.dict hd)

/-- A counter that is at neither, and whose WRAP flag is at neither. -/
theorem bump {a : Nat} (h : besideMask a ∧ besideMask (wrapFlagOf a)) (s : State) : State.KeepsMask s (s.bump a) :=
  State.WritesIn.bump h.1 h.2 s

theorem foldl {α : Type} {f : State → α → State} (hf : ∀ t a, State.KeepsMask t (f t a)) (xs : List α) (s : State) :
    State.KeepsMask s (xs.foldl f s) := State.WritesIn.foldl hf xs s

end State.KeepsMask

/-- A counter whose subindex is that of neither, nor its WRAP flag's. -/
theorem ne_mask_of_sub {a : Nat} (h8 : a % 256 ≠ 8) (hf8 : a % 256 ≠ 0xF8) :
    besideMask a ∧ besideMask (wrapFlagOf a) := by
  unfold besideMask wrapFlagOf Adr.keyEnableMask Adr.pgPolarity
  constructor
  · omega
  · split <;> omega

section
variable (s : State)

theorem State.countLogged_keepsMask (signature tick : Nat) : State.KeepsMask s (s.countLogged signature tick).2 := by
  have hset : ∀ y, State.KeepsMask s (s.setSuppress y) := fun y => .same rfl rfl
  unfold State.countLogged
  extract_lets x
  split
  · split
    · exact (hset _).trans (.bump (by decide) _)
    · exact hset _
  · exact hset _

theorem mechanismCounter_ne_mask (k : Nat) :
    besideMask (mechanismCounter k) ∧ besideMask (wrapFlagOf (mechanismCounter k)) := by
  unfold mechanismCounter
  split <;> decide

theorem State.detect_keepsMask (d : Detection) : State.KeepsMask s (s.detect d).2 := by
  unfold State.detect
  extract_lets x1 x2 x3 x4 x5 x6
  have h1 : State.KeepsMask s x1 :=
    .ite (.refl s) (.bump (mechanismCounter_ne_mask d.mechanism) s)
  have h3 : State.KeepsMask s x3 := h1.trans (.same rfl rfl)
  clear_value x1 x3
  have hassign : ∀ (u : State) y, State.KeepsMask u (u.assignSeq y).2 := fun u y =>
    .of_within (State.Sound.assignSeq (State.Sound.refl [.queues, .bin, .log] u) rfl).snd.within
  split
  · have hset : State.KeepsMask x3 (x3.latchMechanism d.mechanism) :=
      State.WritesIn.setNum (a := Adr.faultLatchedMask) _ (by decide) x3
    have hlatch : State.KeepsMask x3 (x3.latchSafety d.mechanism) :=
      (hset.trans (.bump (a := Adr.safetyFaults) (by decide) _)).trans (.same rfl rfl)
    exact (h3.trans hlatch).trans (hassign _ _)
  · have h6 : State.KeepsMask s x6 := h3.trans (.bump (by decide) x3)
    clear_value x6
    split
    rename_i y carried z e
    have hz : State.KeepsMask s z := by
      have hc := x6.countLogged_keepsMask (x4.loggedSignature x6.part) x4.tick
      rw [e] at hc
      exact h6.trans hc
    split
    · exact hz.trans (.same rfl rfl)
    · exact hz.trans (hassign _ _)

theorem State.uncorrectable_keepsMask (scrub : Bool) (part queue tag : Option Nat) (cause a : Nat) :
    State.KeepsMask s (s.uncorrectable scrub part queue tag cause a).2 := by
  unfold State.uncorrectable
  extract_lets x unit kind
  have hx : State.KeepsMask s x := by
    unfold x State.countUe
    exact .ite (.bump (by decide) s)
      (.bump (ne_mask_of_sub (by unfold Adr.channelUeDetected; omega) (by unfold Adr.channelUeDetected; omega)) s)
  clear_value x
  split
  · exact hx
  · exact hx.trans (x.detect_keepsMask _)

theorem State.uncorrectables_keepsMask (part queue tag : Option Nat) (cause : Nat) (us : List Nat) :
    State.KeepsMask s (State.uncorrectables part queue tag cause us s).2 := by
  induction us generalizing s with
  | nil => exact .refl s
  | cons u us ih => exact (s.uncorrectable_keepsMask false part queue tag cause u).trans (ih _)

theorem State.correct_keepsMask (m : Met) : State.KeepsMask s (s.correct m) := by
  have hone : ∀ t a, State.KeepsMask t (State.countCe t a) := fun t a => by
    unfold State.countCe
    exact .ite (.bump (by decide) t)
      (.bump (ne_mask_of_sub (by unfold Adr.channelCeCorrected; omega) (by unfold Adr.channelCeCorrected; omega)) t)
  unfold State.correct
  extract_lets x
  have hx : State.KeepsMask s x := .foldl hone _ s
  exact hx.trans (.same rfl rfl)

theorem State.reportIngest_keepsMask (w : Actor) (a : Nat) (m : Met) : State.KeepsMask s (s.reportIngest w a m).2 := by
  unfold State.reportIngest
  split
  · refine (s.correct_keepsMask m).trans (.trans ?_ (State.detect_keepsMask _ _))
    exact .bump (ne_mask_of_sub (by unfold Adr.regionViolations; omega) (by unfold Adr.regionViolations; omega)) _
  · exact (s.correct_keepsMask m).trans (State.uncorrectables_keepsMask _ _ _ _ _ _)

/-! ## Frames that end with their slot (R89, R90, R95) -/

/-- A counter of a slot. -/
theorem slotCounter_ne_mask (n k : Nat) (hk : k < 0x10) :
    besideMask ((0x1006 + 8 * n) * 256 + k) ∧ besideMask (wrapFlagOf ((0x1006 + 8 * n) * 256 + k)) := by
  unfold besideMask wrapFlagOf Adr.keyEnableMask Adr.pgPolarity
  constructor
  · omega
  · split <;> omega

theorem State.bump_slot_keepsMask (n k : Nat) (hk : k < 0x10) : State.KeepsMask s (s.bump ((0x1006 + 8 * n) * 256 + k)) :=
  .bump (slotCounter_ne_mask n k hk) s

theorem State.countSlotBytes_keepsMask (n k : Nat) : State.KeepsMask s (s.countSlotBytes n k) := by
  unfold State.countSlotBytes
  extract_lets total x
  have hx : State.KeepsMask s x := .same rfl rfl
  exact .ite (hx.trans (State.WritesIn.after (State.bump_slot_keepsMask _ n 0xB (by decide)) rfl rfl)) hx

theorem State.ingestWrite_keepsMask (n a : Nat) (bs : Bytes) : State.KeepsMask s (s.ingestWrite n a bs).2 := by
  unfold State.ingestWrite
  split
  · exact .refl s
  · extract_lets x w
    have hx : State.KeepsMask s x := s.countSlotBytes_keepsMask n bs.length
    have hstore : State.KeepsMask x (x.store w.partition a bs).1 :=
      .of_within (State.Sound.store (State.Sound.refl [.mem] x) rfl).fst.within
    exact (hx.trans hstore).trans (State.reportIngest_keepsMask _ _ _ _)

theorem State.ingestWrites_keepsMask (n : Nat) (pieces : List (Nat × Bytes)) :
    State.KeepsMask s (s.ingestWrites n pieces).2 :=
  List.foldlRecOn (motive := fun acc : Bool × State => State.KeepsMask s acc.2) pieces _ (.refl s)
    fun acc hacc p _ => hacc.trans (acc.2.ingestWrite_keepsMask n p.1 p.2)

theorem State.accountDrop_keepsMask (n cause : Nat) (f : Frame) : State.KeepsMask s (s.accountDrop n cause f) := by
  unfold State.accountDrop
  extract_lets x1 x2 x3 x4
  have h1 : State.KeepsMask s x1 := s.bump_slot_keepsMask n 3 (by decide)
  have h2 : State.KeepsMask s x2 := by
    refine h1.trans ?_
    unfold x2
    split
    · exact x1.bump_slot_keepsMask n 4 (by decide)
    · exact x1.bump_slot_keepsMask n 5 (by decide)
    · exact x1.bump_slot_keepsMask n 6 (by decide)
    · exact x1.bump_slot_keepsMask n 0xC (by decide)
  exact h2.trans (.same rfl rfl)

theorem State.shapeEnded_keepsMask {s x : State} {n i : Nat} {f : Frame} {rows : List (List Nat)}
    (hx : s.shapeEnded n i f rows = some x) : State.KeepsMask s x := by
  unfold State.shapeEnded at hx
  split at hx
  · exact absurd hx (Option.some_ne_none x).symm
  · split at hx
    · exact absurd hx (Option.some_ne_none x).symm
    · obtain rfl := Option.some.inj hx
      exact .same rfl rfl

theorem State.deliver_keepsMask (n i : Nat) (header : Bytes) : State.KeepsMask s (s.deliver n i header) := by
  have hbuffer : ∀ g, State.KeepsMask s (s.setBuffer n i g) := fun g => .same rfl rfl
  unfold State.deliver
  extract_lets x
  have hx : State.KeepsMask s x := hbuffer _
  clear_value x
  exact hx.trans (State.WritesIn.after (State.bump_slot_keepsMask _ n 2 (by decide)) rfl rfl)

theorem State.completeFrame_keepsMask (n i : Nat) (fl : Filling) : State.KeepsMask s (s.completeFrame n i fl) := by
  unfold State.completeFrame
  extract_lets base words
  have hw := s.ingestWrites_keepsMask n words
  generalize s.ingestWrites n words = r at hw ⊢
  obtain ⟨bad1, u⟩ := r
  dsimp only
  generalize frameHeader n _ = header
  have hh := u.ingestWrite_keepsMask n base header
  generalize u.ingestWrite n base header = r at hh ⊢
  obtain ⟨bad2, v⟩ := r
  dsimp only
  have hslot : ∀ w g, State.KeepsMask w (w.setSlot n g) := fun w g => .same rfl rfl
  have hv := (hw.trans hh).trans (hslot v fun y => { y with filling := none })
  generalize v.setSlot n _ = y at hv ⊢
  split
  · exact (hv.trans (y.accountDrop_keepsMask n 4 _)).trans (.of_within
      (State.Sound.freeBuffer (State.Sound.refl [.ingest] _) rfl).within)
  · have hz := hv.trans (hslot y fun x => { x with dropsBefore := 0, lastDrop := 0 })
    generalize y.setSlot n _ = z at hz ⊢
    have hb : ∀ g, State.KeepsMask s (z.setBuffer n i g) := fun g => hz.trans (.same rfl rfl)
    split
    · rename_i g hg
      exact (hb _).trans (State.shapeEnded_keepsMask hg)
    · exact (hb _).trans (State.deliver_keepsMask _ n i header)

theorem State.endFrame_keepsMask (n t : Nat) (truncated : Bool) : State.KeepsMask s (s.endFrame n t truncated) := by
  have hbump : ∀ (c : Prop) [Decidable c] (u : State) k, k < 0x10 →
      State.KeepsMask u (if c then u.bump ((0x1006 + 8 * n) * 256 + k) else u) := fun c _ u k hk =>
    .ite (u.bump_slot_keepsMask n k hk) (.refl u)
  cases hf : (s.slotAt n).filling with
  | none =>
    rw [State.endFrame_none hf]
    exact .refl s
  | some fl =>
    rw [State.endFrame_some hf]
    unfold State.finishFrame
    extract_lets f x y gone
    have h1 : State.KeepsMask s (s.countTruncated n f) := hbump _ s 8 (by decide)
    have hx : State.KeepsMask s x := h1.trans (hbump _ _ 7 (by decide))
    have hy : State.KeepsMask s y := by
      refine hx.trans ?_
      unfold y
      split
      · exact x.completeFrame_keepsMask _ _ _
      · exact .same rfl rfl
    clear_value x y
    exact .ite (hy.trans (.same rfl rfl)) hy

theorem State.settleSlot_keepsMask (t n : Nat) : State.KeepsMask s (s.settleSlot t n) := by
  unfold State.settleSlot
  extract_lets want runs
  exact .ite (.same rfl rfl) (.ite ((s.endFrame_keepsMask n t true).trans (.same rfl rfl)) (.refl s))

/-! ## The other units (R19, R166, R182, R314, R335) -/

variable (old : State)

theorem State.settleContext_keepsMask (c : Nat) : State.KeepsMask s (s.settleContext old c) :=
  .ite (.same rfl rfl) (.refl s)

theorem State.settlePanel_keepsMask (p : Nat) : State.KeepsMask s (s.settlePanel old p) :=
  .of_within (State.Sound.settlePanel (State.Sound.refl [.panels] s) rfl).within

theorem State.settleNoise_keepsMask (p : Nat) : State.KeepsMask s (s.settleNoise old p) :=
  .of_within (State.Sound.settleNoise (State.Sound.refl [.panels] s) rfl).within

theorem State.settleChannels_keepsMask (t : Nat) : State.KeepsMask s (s.settleChannels t) := by
  unfold State.settleChannels
  extract_lets x
  have hset : ∀ u ch f, State.KeepsMask u (State.setChannel u ch f) := fun u ch f => .same rfl rfl
  have hx : State.KeepsMask s x := .foldl (fun u ch => .ite (.refl u) (hset u ch _)) _ s
  have htrip : ∀ on : Bool, State.KeepsMask x (x.driveTrip on t 0 0) := fun on =>
    (x.driveTrip_writesIn t on 0 0).mono fun a h => by
      constructor <;> exact fun e => absurd (e ▸ h) (by decide)
  clear_value x
  unfold State.settleTrip
  exact hx.trans (.ite (htrip false) (.refl x))

theorem State.settleSource_keepsMask : State.KeepsMask s (s.settleSource old) :=
  .of_within (State.Sound.settleSource (State.Sound.refl [.tick] s) rfl).within

theorem State.settleTimeSource_keepsMask : State.KeepsMask s (s.settleTimeSource old) := by
  unfold State.settleTimeSource
  extract_lets x
  have hset : ∀ n, State.KeepsMask s (s.setNum Adr.gptpStatus n) := fun n => State.WritesIn.setNum n (by decide) s
  exact .ite (.refl s) ((hset _).trans (.same rfl rfl))

/-! ## A write of KEY_ENABLE_MASK (R290) -/

/-- Two states whose settings differ at most at KEY_ENABLE_MASK. -/
def State.SameBesideMask (old s : State) : Prop := ∀ a, a ≠ Adr.keyEnableMask → s.valAt a = old.valAt a

variable {s old}

theorem State.SameBesideMask.flagAt (h : State.SameBesideMask old s) {a : Nat} (ha : a ≠ Adr.keyEnableMask) :
    s.flagAt a = old.flagAt a := by
  simp only [State.flagAt, State.numAt, h a ha]

/-- Queues and partitions whose enables are as they were stay as they are. -/
theorem State.settlePartitions_same (h : State.SameBesideMask old s) (tick offset : Nat) (ps : List Nat) :
    ps.foldl (fun u p => u.settlePartition old tick offset p) s = s := by
  induction ps with
  | nil => rfl
  | cons p ps ih =>
    have hp : s.flagAt (Adr.partEnable p) = old.flagAt (Adr.partEnable p) :=
      h.flagAt (by unfold Adr.partEnable Adr.keyEnableMask; omega)
    have hone : s.settlePartition old tick offset p = s := by
      unfold State.settlePartition
      rw [hp, Bool.and_not_self, if_neg Bool.false_ne_true]
    rw [List.foldl_cons, hone, ih]

theorem State.settleQueues_same (h : State.SameBesideMask old s) (tick offset : Nat) (qs : List Nat) :
    qs.foldl (fun u q => u.settleQueue old tick offset q) s = s := by
  induction qs with
  | nil => rfl
  | cons q qs ih =>
    have hq : s.flagAt (Adr.queueEnable q) = old.flagAt (Adr.queueEnable q) :=
      h.flagAt (by unfold Adr.queueEnable Adr.keyEnableMask; omega)
    have hone : s.settleQueue old tick offset q = s := by
      unfold State.settleQueue
      rw [hq]
      simp
    rw [List.foldl_cons, hone, ih]

/-- Lines whose polarity is as it was stay as they are. -/
theorem State.settlePolarity_same (h : s.numAt Adr.pgPolarity = old.numAt Adr.pgPolarity) (t : Nat) :
    s.settlePolarity old t = s := by
  unfold State.settlePolarity
  refine List.foldlRecOn (motive := fun u => u = s) _ _ rfl ?_
  rintro u rfl k -
  rw [h, if_pos (beq_self_eq_true _)]

theorem State.settleUnits_keepsMask (h : State.SameBesideMask old s) (t tick offset : Nat) :
    State.KeepsMask s (s.settleUnits old t tick offset) := by
  unfold State.settleUnits
  dsimp only
  rw [State.settlePartitions_same h, State.settleQueues_same h]
  exact .trans (.foldl (fun u n => u.settleSlot_keepsMask t n) _ s) (.foldl (fun u c => u.settleContext_keepsMask old c) _ _)

/-- What a write of KEY_ENABLE_MASK has settled before the keys: neither the mask nor a key has changed. -/
theorem State.settleAll_mask (h : State.SameBesideMask old s) (w : Dict.wf s.part.variant s.dict = true) (t tick offset : Nat) :
    ∃ u : State, s.settleAll old t tick offset = u.settleKeys old t ∧ State.KeepsMask s u ∧ u.keys = s.keys := by
  unfold State.settleAll
  extract_lets x y z
  have hx : State.KeepsMask s x := State.settleUnits_keepsMask h t tick offset
  have hkx : x.keys = s.keys :=
    (State.Sound.settleUnits (State.Sound.refl [.dict, .tally, .ports, .ingest, .arrs, .queues, .mem, .host, .bin, .log,
      .sent] s) rfl).within.keys rfl
  clear_value x
  have hy : State.KeepsMask x y :=
    .foldl (fun u p => (u.settlePanel_keepsMask old p).trans (State.settleNoise_keepsMask _ old p)) _ x
  have hky : y.keys = x.keys := (State.Sound.foldl (State.Sound.refl [.panels] x) (fun u p hu =>
    State.Sound.settleNoise (State.Sound.settlePanel hu rfl) rfl)).within.keys rfl
  clear_value y
  have hpol : y.numAt Adr.pgPolarity = old.numAt Adr.pgPolarity :=
    ((hx.trans hy).numAt w (fun e => e.2 rfl)).trans (congrArg Val.toNat (h _ (by decide)))
  have hz : z = (y.settleWatch.settleChannels t).settleBattery := by
    unfold z
    rw [State.settlePolarity_same hpol]
  have hyz : State.KeepsMask y z := by
    rw [hz]
    have hw : State.KeepsMask y y.settleWatch := .same rfl rfl
    exact (hw.trans (State.settleChannels_keepsMask _ t)).trans
      (.of_within (State.Sound.settleBattery (State.Sound.refl [.plat] _) rfl).within)
  have hkz : z.keys = y.keys := by
    rw [hz]
    exact (State.Sound.settleBattery (State.Sound.settleChannels (State.Sound.settleWatch (State.Sound.refl [.dict, .ports,
      .host, .plat, .sent] y) rfl) rfl) rfl).within.keys rfl
  clear_value z
  have hks : ((z.settleSource old).settleTimeSource old).keys = z.keys :=
    (State.Sound.settleTimeSource (State.Sound.settleSource (State.Sound.refl [.dict, .tick] z) rfl) rfl).within.keys rfl
  exact ⟨_, rfl, (((hx.trans hy).trans hyz).trans (z.settleSource_keepsMask old)).trans
    (State.settleTimeSource_keepsMask _ old), hks.trans (hkz.trans (hky.trans hkx))⟩


end

end Sys2Proof.Machine

/-! PROOFS of the statement about the event FIFO and the key lock (O49). -/

namespace Sys2Proof.Machine

section
variable (s : State)

/-! ## The event FIFO (R300, R302) -/

theorem State.queueEvent_room (kind : Nat) (synthetic : Bool) (code data : Nat) (st : Stamp) (decided : Nat)
    (h : s.keys.fifo.length + 2 ≤ 64) : s.queueEvent kind synthetic code data st decided =
      (s.pushEvent kind synthetic code data st).bump Adr.keyEvents := if_pos h

theorem State.queueEvent_last (kind : Nat) (synthetic : Bool) (code data : Nat) (st : Stamp) (decided : Nat)
    (h : s.keys.fifo.length = 63) : s.queueEvent kind synthetic code data st decided =
      (s.pushEvent 8 false 0 1 (s.stampAt decided)).bump Adr.eventsLost := by
  unfold State.queueEvent
  simp only [h]
  rfl

theorem State.queueEvent_full (kind : Nat) (synthetic : Bool) (code data : Nat) (st : Stamp) (decided : Nat)
    (h : 64 ≤ s.keys.fifo.length) : s.queueEvent kind synthetic code data st decided =
      (s.setKeys (fun k => { k with fifo := countLost k.fifo })).bump Adr.eventsLost := by
  unfold State.queueEvent
  extract_lets held
  rw [if_neg (show ¬ held + 2 ≤ 64 by omega), if_neg (show ¬ held < 64 by omega)]

theorem State.queueEvent_writesIn (kind : Nat) (synthetic : Bool) (code data : Nat) (st : Stamp) (decided : Nat) :
    State.WritesIn (· ∈ withFlags [Adr.keyEvents, Adr.eventsLost]) s (s.queueEvent kind synthetic code data st decided) := by
  unfold State.queueEvent
  extract_lets held
  exact .ite (.after (.bumpOf _ (by decide) _) rfl rfl)
    (.ite (.after (.bumpOf _ (by decide) _) rfl rfl) (.after (.bumpOf _ (by decide) _) rfl rfl))

theorem State.releaseAll_writesIn (kind : Nat) (codes : List Nat) (t : Nat) :
    State.WritesIn (· ∈ withFlags [Adr.keyEvents, Adr.eventsLost]) s (s.releaseAll kind codes t) :=
  .foldl (fun u _ => u.queueEvent_writesIn _ _ _ _ _ _) codes s

/-- What is before an element is as it was. -/
theorem take_modifyAt {α : Type} (xs : List α) (i : Nat) (f : α → α) : (modifyAt xs i f).take i = xs.take i := by
  induction xs generalizing i with
  | nil => rfl
  | cons x xs ih =>
    cases i with
    | zero => rfl
    | succ i => simp only [modifyAt, List.take_succ_cons, ih]

theorem countLost_length (fifo : List Event) : (countLost fifo).length = fifo.length := length_modifyAt _ _ _

theorem countLost_take {fifo : List Event} (h : fifo.length = 64) : (countLost fifo).take 63 = fifo.take 63 := by
  unfold countLost
  rw [h]
  exact take_modifyAt _ _ _

/-! ## The key lock (R304, R305) -/

/-- What the keys are once the lock has been entered over the units of `scope`. -/
def Keys.LockedFrom (scope : Nat) (k l : Keys) : Prop := l.lock = .on ∧ l.progress = 0 ∧ l.unlockAt = none ∧
  (l.reported = if bitAt scope 0 then [] else k.reported) ∧
  (l.btnReported = if bitAt scope 1 then [] else k.btnReported) ∧ l.pressed = k.pressed

theorem State.enterLock_keys (cause t : Nat) :
    Keys.LockedFrom (s.numAt Adr.lockScope) s.keys (s.enterLock cause t).keys := by
  unfold State.enterLock
  extract_lets scope a b c
  have ha : a.keys.reported = (if bitAt scope 0 then [] else s.keys.reported) ∧ a.keys.btnReported = s.keys.btnReported ∧
      a.keys.pressed = s.keys.pressed := by
    unfold a
    split
    · obtain ⟨f, n, h⟩ := State.releaseAll_fifoOnly s 2 s.keys.reported t
      simp only [State.setKeys_keys, h, and_self]
    · exact ⟨rfl, rfl, rfl⟩
  obtain ⟨har, hab, hap⟩ := ha
  clear_value a
  have hb : b.keys.reported = a.keys.reported ∧ b.keys.btnReported = (if bitAt scope 1 then [] else a.keys.btnReported) ∧
      b.keys.pressed = a.keys.pressed := by
    unfold b
    split
    · obtain ⟨f, n, h⟩ := State.releaseAll_fifoOnly a 4 a.keys.btnReported t
      simp only [State.setKeys_keys, h, and_self]
    · exact ⟨rfl, rfl, rfl⟩
  obtain ⟨hbr, hbb, hbp⟩ := hb
  clear_value b
  have hc : c.keys.reported = b.keys.reported ∧ c.keys.btnReported = b.keys.btnReported ∧ c.keys.pressed = b.keys.pressed := by
    unfold c
    split <;> exact ⟨rfl, rfl, rfl⟩
  obtain ⟨hcr, hcb, hcp⟩ := hc
  clear_value c
  obtain ⟨f, n, hq⟩ := State.queueEvent_fifoOnly c 6 false cause 0 (c.stampAt t) t
  rw [State.setKeys_keys, hq]
  exact ⟨rfl, rfl, rfl, hcr.trans (hbr.trans har), hcb.trans (hbb.trans (by rw [hab])), hcp.trans (hbp.trans hap)⟩

/-- R304: asked for while the matrix is idle, the lock is entered at once. -/
theorem State.requestLock_idle (cause t : Nat) (ho : s.keys.lock = .off) (hi : s.keys.scanning = false) :
    s.requestLock cause t = s.enterLock cause t := by
  unfold State.requestLock
  rw [ho, hi]
  rfl

theorem State.requestLock_scanning (cause t : Nat) (ho : s.keys.lock = .off) (hi : s.keys.scanning = true) :
    s.requestLock cause t = s.setKeys (fun k => { k with lock := .requested cause }) := by
  unfold State.requestLock
  rw [ho, hi]
  rfl

theorem State.leaveLock_keys (cause t : Nat) : let l := (s.leaveLock cause t).keys; l.lock = .off ∧ l.progress = 0 ∧
    (l.mute = if bitAt (s.numAt Adr.lockScope) 0 then s.keys.pressed else s.keys.mute) ∧
    (l.btnMute = if bitAt (s.numAt Adr.lockScope) 1 then s.keys.btnPressed else s.keys.btnMute) := by
  unfold State.leaveLock
  extract_lets scope a b l
  have hb : b.keys.lock = a.keys.lock ∧ b.keys.progress = a.keys.progress ∧ b.keys.mute = a.keys.mute ∧
      b.keys.btnMute = a.keys.btnMute := by
    unfold b
    split <;> exact ⟨rfl, rfl, rfl, rfl⟩
  obtain ⟨hl, hp, hm, hbm⟩ := hb
  obtain ⟨f, n, hq⟩ := State.queueEvent_fifoOnly b 7 false cause 0 (b.stampAt t) t
  unfold l
  rw [hq]
  exact ⟨hl, hp, hm, hbm⟩

theorem State.ownerUnlock_on (t : Nat) (h : s.keys.lock = .on) : s.ownerUnlock t = s.leaveLock 1 t := by
  unfold State.ownerUnlock
  rw [h]

/-! ## Keys taken out of use (R290) -/

theorem State.retireKeys_reported (gone : Nat → Bool) (t : Nat) :
    (s.retireKeys gone t).keys.reported = s.keys.reported.filter (fun c => !gone c) := by
  obtain ⟨f, n, h⟩ := State.releaseAll_fifoOnly s 2 (s.keys.reported.filter gone) t
  rw [State.retireKeys, State.setKeys_keys, h]

theorem State.retireKeys_keepsMask (gone : Nat → Bool) (t : Nat) : State.KeepsMask s (s.retireKeys gone t) := by
  have h : State.KeepsMask s (s.releaseAll 2 (s.keys.reported.filter gone) t) :=
    (s.releaseAll_writesIn 2 _ t).mono fun a ha => by constructor <;> exact fun e => absurd (e ▸ ha) (by decide)
  exact h.trans (.same rfl rfl)

/-- A write of KEY_ENABLE_MASK is its value, and what follows from it. -/
theorem State.perform_keyEnableMask (p : Port) (v : Val) :
    s.perform p Adr.keyEnableMask v = (none, (s.setVal Adr.keyEnableMask v).settleNow s) := by
  have hk : kindAt Adr.keyEnableMask = .plain := by decide +kernel
  have hu : s.unitCommand Adr.keyEnableMask v.toNat = none := rfl
  have hc : s.command Adr.keyEnableMask v = none := rfl
  have ha : accessAt Adr.keyEnableMask ≠ .rwm := by decide +kernel
  have hp : s.putSetting Adr.keyEnableMask v = (s.setVal Adr.keyEnableMask v).settleNow s := by
    unfold State.putSetting
    extract_lets index
    have h1 : (index == 0x0203) = false := by decide
    have h2 : decide (index < 0x1180) = false := by decide
    have h3 : decide (index < 0x2860) = false := by decide
    rw [beq_false_of_ne ha, h1, h2, h3]
    simp only [Bool.false_and, Bool.and_false, Bool.false_eq_true, if_false]
    rfl
  unfold State.perform
  rw [hk, hu, hc, hp]
  rfl

/-- R290: once KEY_ENABLE_MASK has changed, the keys that it leaves enabled are the ones still reported. -/
theorem State.maskWritten (w : Dict.wf s.part.variant s.dict = true) {v : Bytes} (hne : s.bytesAt Adr.keyEnableMask ≠ v)
    {x : State} (hw : x = (s.setVal Adr.keyEnableMask (.bytes v)).settleNow s) : x.bytesAt Adr.keyEnableMask = v ∧
      ∀ c, c ∈ x.keys.reported ↔ c ∈ s.keys.reported ∧ bitAt ((nth v (c / 8) 0).toNat) (c % 8) = true := by
  have hset : (s.setVal Adr.keyEnableMask (.bytes v)).valAt Adr.keyEnableMask = .bytes v := State.valAt_setVal_same _ _ w
  have hsame : State.SameBesideMask s (s.setVal Adr.keyEnableMask (.bytes v)) := fun a ha =>
    State.valAt_setVal_other _ w ha
  have hwf : Dict.wf (s.setVal Adr.keyEnableMask (.bytes v)).part.variant (s.setVal Adr.keyEnableMask (.bytes v)).dict = true :=
    Dict.wf_set _ _ w
  obtain ⟨u, hu, hkeeps, hkeys⟩ := State.settleAll_mask hsame hwf (s.setVal Adr.keyEnableMask (.bytes v)).tick.now
    (s.setVal Adr.keyEnableMask (.bytes v)).tick.tick
    ((s.setVal Adr.keyEnableMask (.bytes v)).tick.now - (s.setVal Adr.keyEnableMask (.bytes v)).tick.meridian)
  have hmask : u.valAt Adr.keyEnableMask = .bytes v := (hkeeps.kept hwf _ fun e => e.1 rfl).trans hset
  have hx : x = u.maskKeys s.tick.now := by
    refine hw.trans (hu.trans ?_)
    unfold State.settleKeys
    rw [hmask, if_neg]
    · rfl
    · intro e
      exact hne (congrArg Val.toBytes (beq_iff_eq.mp e)).symm
  have hmasked : (u.maskKeys s.tick.now).bytesAt Adr.keyEnableMask = v :=
    ((State.retireKeys_keepsMask u _ _).bytesAt (hkeeps.wf hwf) (fun e => e.1 rfl)).trans (congrArg Val.toBytes hmask)
  rw [hx]
  refine ⟨hmasked, fun c => ?_⟩
  have hbytes : u.bytesAt Adr.keyEnableMask = v := congrArg Val.toBytes hmask
  rw [State.maskKeys, State.retireKeys_reported, List.mem_filter, hkeys, State.keyEnabled, Bool.not_not, hbytes]
  rfl

end

/-! ## The rows -/

theorem exec_eventAck {s : State} {r : Req} (h : s.grants r Adr.eventAck) : exec (.eventAck r) s =
    .next (((s.heard r.t r.port r.sender).ackEvents (writeValue Adr.eventAck r.payload).toNat).answered r.port
      ((s.heard r.t r.port r.sender).routeOf r.port r.sender) 2 r.seq Adr.eventAck 0 []) := by
  show Host.Outcome.next (s.writeRow r Adr.eventAck) = _
  rw [State.writeRow_command h (by decide) rfl]

theorem exec_keyLock {s : State} {r : Req} (h : s.grants { r with payload := leBytes 1 1 } Adr.keyLock) : exec (.keyLock r) s =
    .next (((s.heard r.t r.port r.sender).requestLock 0 (s.heard r.t r.port r.sender).tick.now).answered r.port
      ((s.heard r.t r.port r.sender).routeOf r.port r.sender) 2 r.seq Adr.keyLock 0 []) := by
  show Host.Outcome.next (s.writeRow { r with payload := leBytes 1 1 } Adr.keyLock) = _
  rw [State.writeRow_command h (by decide) rfl]
  rfl

theorem exec_keyUnlock {s : State} {r : Req} (h : s.grants { r with payload := leBytes 1 0 } Adr.keyLock) : exec (.keyUnlock r) s =
    .next (((s.heard r.t r.port r.sender).ownerUnlock (s.heard r.t r.port r.sender).tick.now).answered r.port
      ((s.heard r.t r.port r.sender).routeOf r.port r.sender) 2 r.seq Adr.keyLock 0 []) := by
  show Host.Outcome.next (s.writeRow { r with payload := leBytes 1 0 } Adr.keyLock) = _
  rw [State.writeRow_command h (by decide) rfl]
  rfl

/-- R305: the timer of the unlock sequence runs out. -/
def State.unlockExpired (s : State) (t : Nat) : State :=
  ((s.advance t).bump Adr.unlockFailures).setKeys (fun k => { k with progress := 0, unlockAt := none })

theorem exec_unlockTimeout {s : State} {t : Nat} (hu : s.keys.unlockAt = some t) (hl : s.keys.lock = .on)
    (hd : s.dormant = false) : exec .unlockTimeout s = .next (s.unlockExpired t) := by
  show Host.Outcome.next (doUnlockTimeout s) = _
  unfold doUnlockTimeout
  rw [hu]
  simp only [hl, hd]
  rfl

theorem State.unlockExpired_keys (s : State) (t : Nat) :
    (s.unlockExpired t).keys = { s.keys with progress := 0, unlockAt := none } := by
  rw [State.unlockExpired, State.setKeys_keys, State.bump_keys, (s.advance_within t).keys rfl]

theorem State.unlockExpired_failures (s : State) (t : Nat) (hw : Dict.wf s.part.variant s.dict = true) :
    (s.unlockExpired t).numAt Adr.unlockFailures = (s.numAt Adr.unlockFailures + 1) % 2 ^ 64 := by
  have h := State.numAt_bump_of_same (u := s.advance t) ((s.advance_within t).part rfl) ((s.advance_within t).dict rfl) hw
    Adr.unlockFailures
  unfold State.unlockExpired
  generalize (s.advance t).bump Adr.unlockFailures = u at h ⊢
  exact h

/-- Settles O49: the FIFO by the room it has, the lock by its states, the mask by what settles. -/
theorem keyEventsAndLock : Obligations.KeyEventsAndLock := by
  unfold Obligations.KeyEventsAndLock
  refine ⟨?_, ?_⟩
  · intro s kind code data decided synthetic st hinv x n
    have hlost : ∀ u : State, u.part = s.part → u.dict = s.dict →
        (u.bump Adr.eventsLost).numAt Adr.eventsLost = (s.numAt Adr.eventsLost + 1) % 2 ^ 64 := fun u hp hd =>
      State.numAt_bump_of_same hp hd hinv.wf _
    have hroom (h : n + 2 ≤ 64) : x = (s.pushEvent kind synthetic code data st).bump Adr.keyEvents := s.queueEvent_room _ _ _ _ _ _ h
    have hlast (h : n = 63) : x = (s.pushEvent 8 false 0 1 (s.stampAt decided)).bump Adr.eventsLost :=
      s.queueEvent_last _ _ _ _ _ _ h
    have hfull (h : 64 ≤ n) : x = (s.setKeys (fun k => { k with fifo := countLost k.fifo })).bump Adr.eventsLost :=
      s.queueEvent_full _ _ _ _ _ _ h
    refine ⟨fun h => ?_, fun h => ?_, fun h => ?_, fun h => ?_, ?_⟩
    · rcases Nat.lt_trichotomy n 63 with hn | hn | hn
      · rw [hroom (by omega), State.bump_keys, State.pushEvent, State.setKeys_keys, List.length_append]
        exact (by omega : n + 1 ≤ 64)
      · rw [hlast hn, State.bump_keys, State.pushEvent, State.setKeys_keys, List.length_append]
        exact (by omega : n + 1 ≤ 64)
      · rw [hfull (by omega), State.bump_keys, State.setKeys_keys, countLost_length]
        exact h
    · rw [hroom h, State.bump_keys]
      exact ⟨_, rfl, rfl, rfl, rfl, rfl, rfl, State.valAt_bump_other hinv.wf (by decide) (by decide)⟩
    · rw [hlast h, State.bump_keys]
      exact ⟨_, rfl, rfl, rfl, hlost _ rfl rfl⟩
    · rw [hfull (by omega), State.bump_keys, State.setKeys_keys, countLost_length]
      exact ⟨h, countLost_take h, hlost _ rfl rfl⟩
    · intro r u v hg
      exact ⟨_, exec_eventAck hg, State.answered_within.keys rfl⟩
  · intro s hinv entered
    refine ⟨?_, ?_, ?_, ?_⟩
    · intro r h
      refine ⟨fun hg ho => ⟨fun hi => ⟨_, exec_keyLock hg, ?_⟩, fun hi => ⟨_, exec_keyLock hg, ?_⟩⟩, fun hg ho =>
        ⟨_, exec_keyUnlock hg, ?_⟩⟩
      · unfold entered
        rw [State.answered_within.keys rfl, State.requestLock_idle _ _ _ ho hi]
        exact h.enterLock_keys 0 h.tick.now
      · rw [State.answered_within.keys rfl, State.requestLock_scanning _ _ _ ho hi]
        rfl
      · rw [State.answered_within.keys rfl, State.ownerUnlock_on _ _ ho]
        exact h.leaveLock_keys 1 h.tick.now
    · intro t cause u hl hs he
      have hk : u.keys = s.keys := (s.advance_within t).keys rfl
      refine ⟨_, rfl, ?_⟩
      have hrow : doLockEntry t s = u.enterLock cause u.tick.now := by
        unfold doLockEntry
        simp only [show s.advance t = u from rfl, hk, hl, hs, he, decide_true, Bool.and_self, if_true]
      rw [hrow]
      exact u.enterLock_keys cause u.tick.now
    · intro t hu hl hd
      exact ⟨_, exec_unlockTimeout hu hl hd, s.unlockExpired_keys t, s.unlockExpired_failures t hinv.wf⟩
    · intro p v h hg hne
      have hw := h.blockHeld_within p Adr.keyEnableMask v
      have hd := State.blockRow_done hg (State.perform_keyEnableMask (h.blockHeld p Adr.keyEnableMask v) p.port (.bytes v))
      have hbytes : (h.blockHeld p Adr.keyEnableMask v).bytesAt Adr.keyEnableMask = h.bytesAt Adr.keyEnableMask :=
        congrArg Val.toBytes (State.valAt_congr (hw.part rfl) (hw.dict rfl) _)
      have hwf : Dict.wf (h.blockHeld p Adr.keyEnableMask v).part.variant (h.blockHeld p Adr.keyEnableMask v).dict = true := by
        rw [hw.part rfl, hw.dict rfl]
        exact (State.heard_inv hinv).wf
      have hk : (h.blockHeld p Adr.keyEnableMask v).keys = h.keys := hw.keys rfl
      generalize h.blockHeld p Adr.keyEnableMask v = u at hd hbytes hwf hk
      generalize hx : (u.setVal Adr.keyEnableMask (.bytes v)).settleNow u = x at hd
      obtain ⟨hv, hr⟩ := u.maskWritten hwf (by rw [hbytes]; exact hne) hx.symm
      refine ⟨s.blockRow p true Adr.keyEnableMask, rfl, ?_, fun c => ?_⟩
      · rw [← hv]
        exact congrArg Val.toBytes (State.valAt_congr (hd.part rfl) (hd.dict rfl) _)
      · rw [hd.keys rfl, hr c, hk]

end Sys2Proof.Machine

/-! PROOFS about the statement of the power-good lines (O53): a concrete state that it lets in, and on which the model does
otherwise. -/

namespace Sys2Proof.Machine

/-! ## A sequence with a number that no sequence has (R332, R335) -/

/-- The last step of sequence 24, a WAIT_PG_LOW, waits. There are eight sequences; no part of `State.Inv` says so. -/
def strayWait : Sequence := { s := 24, step := 0, stepAt := 0, startAt := 0, begun := true }

/-- Line 0 is high, watched and armed, and `strayWait` waits for it to fall. Its script would stand at the address of
SEQ_FAILURES, and its result at the address of PG_LOSSES. -/
def strayWaiting : State :=
  { State.reset with
    power := { PowerCtl.zero with state := .standby },
    dict := [(Adr.pgWatchMask, .num 1), (Adr.seqScript 24, .bytes [4, 0, 0, 0, 0, 0, 0, 0])],
    plat := { State.reset.plat with pgState := 1, armed := 1, sequence := some strayWait } }

theorem strayWaiting_inv : strayWaiting.Inv := by
  unfold State.Inv State.Canonical State.Shaped
  decide +kernel

theorem seqLastResult_strayWait : Adr.seqLastResult strayWait.s = Adr.pgLosses := rfl

/-- What the fall of line 0 makes of it. -/
def afterStrayWait : State := doPgChange 0 0 false strayWaiting

theorem exec_pgChange_strayWaiting : exec (.pgChange 0 0 false) strayWaiting = .next afterStrayWait := rfl

/-- The result of the sequence that ends has replaced the count of the loss. -/
theorem afterStrayWait_losses : afterStrayWait.numAt Adr.pgLosses = 0 := by decide +kernel

/-- Refutes O53: in `strayWaiting` the loss of line 0 is counted in PG_LOSSES, and the end of the sequence that waited for it
then writes its result over the count. -/
theorem not_powerGoodIsWatched : ¬ Obligations.PowerGoodIsWatched := by
  unfold Obligations.PowerGoodIsWatched
  rintro ⟨h, -⟩
  obtain ⟨-, hfall⟩ := h strayWaiting 0 0 false strayWaiting_inv (by decide +kernel)
  obtain ⟨x, hx, -, -, hloss, -⟩ := hfall (by decide +kernel)
  obtain rfl : afterStrayWait = x := Host.Outcome.next.inj (exec_pgChange_strayWaiting.symm.trans hx)
  obtain ⟨-, -, hcount, -⟩ := hloss (by decide +kernel) (by decide +kernel) (by decide +kernel)
  rw [afterStrayWait_losses] at hcount
  exact absurd hcount (by decide +kernel)

end Sys2Proof.Machine

/-! PROOFS about the statement of the touch panels (O50): a concrete state that it lets in, and on which the model does
otherwise. -/

namespace Sys2Proof.Machine

/-! ## A slot whose partition does not exist (R89, R189, R323) -/

/-- A frame that has kept buffer 0. -/
def strayFilling : Filling :=
  { buffer := some 0, frame := Frame.zero, rows := [], stored := [], dropCause := 0, marker := 0, lastPacket := 0 }

/-- Slot 0 with that frame. -/
def straySlot : Slot := { Slot.zero with running := true, filling := some strayFilling }

/-- Slot 0 runs although it is not enabled, with a frame in progress, and its partition is 0x2BF0; panel 0
is enabled. No part of `State.Inv` excludes such a slot. REGION_VIOLATIONS of such a partition would stand at the address of PANEL_ENABLE of panel 0. -/
def strayPartition : State :=
  { State.reset with
    power := { PowerCtl.zero with state := .standby },
    own := { State.reset.own with state := .owned, owner := some .S, lease := 10 },
    dict := [(Adr.partition 0, .num 0x2BF0), (Adr.panelEnable 0, .num 1)],
    ingest := { State.reset.ingest with slots := straySlot :: List.replicate 47 Slot.zero } }

theorem strayPartition_inv : strayPartition.Inv := by
  unfold State.Inv State.Canonical State.Shaped
  decide +kernel

theorem regionViolations_strayPartition : Adr.regionViolations 0x2BF0 = Adr.panelEnable 0 := rfl

/-- A write of 0, on port S. -/
def writeZero : Req := { t := 0, port := .S, sender := 0, seq := 1, flags := 0, payload := leBytes 1 0 }

theorem strayPartition_grants : strayPartition.grants writeZero (Adr.panelEnable 0) := by
  unfold State.grants State.hears
  decide +kernel

/-- What the write of PANEL_ENABLE of panel 0 makes of it. -/
def afterStrayPartition : State := doPanelEnable writeZero 0 strayPartition

theorem exec_panelEnable_strayPartition : exec (.panelEnable writeZero 0) strayPartition = .next afterStrayPartition := rfl

/-- The frame that has ended has violated its partition's regions, and that is counted over the write. -/
theorem afterStrayPartition_enable : afterStrayPartition.flagAt (Adr.panelEnable 0) = true := by decide +kernel

/-- Refutes O50: in `strayPartition` the write of 0 to PANEL_ENABLE of panel 0 does not leave the panel disabled. -/
theorem not_touchPanels : ¬ Obligations.TouchPanels := by
  unfold Obligations.TouchPanels
  rintro ⟨h, -⟩
  obtain ⟨hwrite, -⟩ := h strayPartition 0 strayPartition_inv
  obtain ⟨-, hoff⟩ := hwrite writeZero strayPartition_grants
  obtain ⟨x, hx, -, -, hdisabled⟩ := hoff (by decide +kernel) (by decide +kernel)
  obtain rfl : afterStrayPartition = x := Host.Outcome.next.inj (exec_panelEnable_strayPartition.symm.trans hx)
  exact absurd (hdisabled.symm.trans afterStrayPartition_enable) Bool.false_ne_true

end Sys2Proof.Machine

/-! PROOFS about the statement of POWER_CMD, READY and RUN (O57): a concrete state that it lets in, and on which the model does
otherwise. -/

namespace Sys2Proof.Machine

/-! ## A frame in progress in STANDBY (R89, R95, R361) -/

/-- One region: the first page, without ECC, that its partition may read and write. -/
def openPage : Bytes := leBytes 8 0 ++ leBytes 4 1 ++ leBytes 2 3 ++ leBytes 2 0

/-- A step up from STANDBY, with `openPage` as partition 1's region table, while slot 0, of that partition, runs although it
is not enabled and has a frame in progress. READY_TO_STANDBY leaves no such frame, but no part of `State.Inv` excludes
one. -/
def strayFrame : State :=
  { State.reset with
    power := { PowerCtl.zero with state := .standby, target := some .ready },
    dict := [(Adr.regionTable 1, .bytes openPage)],
    ingest := { State.reset.ingest with slots := straySlot :: List.replicate 47 Slot.zero } }

theorem strayFrame_inv : strayFrame.Inv := by
  unfold State.Inv State.Canonical State.Shaped
  decide +kernel

/-- What training finds: one MiB on each channel. -/
def oneEach : List Nat := [1, 1, 1]

/-- What the completed step makes of it. -/
def afterStrayFrame : State := doStandbyToReady 0 oneEach true strayFrame

theorem exec_standbyToReady_strayFrame : exec (.standbyToReady 0 oneEach true) strayFrame = .next afterStrayFrame := rfl

/-- Address 0 is neither in the chart store nor in an INLINE_ECC region. -/
theorem strayFrame_ecc : ∀ p < 4, ∀ r ∈ regionsOf ((strayFrame.advance 0).bytesAt (Adr.regionTable p)), r.ecc = false := by
  decide +kernel

/-- The slot that is not enabled has stopped, and the header of its frame stands at address 0. -/
theorem afterStrayFrame_byte : afterStrayFrame.mem.cells.byte 0 = 1 ∧ strayFrame.mem.cells.byte 0 = 0 := by decide +kernel

/-- Refutes O57: from `strayFrame` the entry into READY writes a frame header to device memory, outside what it zeroes. -/
theorem not_readyAndRun : ¬ Obligations.ReadyAndRun := by
  unfold Obligations.ReadyAndRun
  rintro ⟨-, h, -⟩
  obtain ⟨hup, -⟩ := h strayFrame 0 strayFrame_inv
  obtain ⟨-, htrained⟩ := hup (by decide +kernel)
  obtain ⟨x, hx, -, -, -, -, -, -, -, hbytes⟩ := htrained oneEach 1 (by decide +kernel) (by decide) (by decide)
  obtain rfl : afterStrayFrame = x := Host.Outcome.next.inj (exec_standbyToReady_strayFrame.symm.trans hx)
  obtain ⟨-, hkept⟩ := hbytes 0
  obtain ⟨hwritten, hbefore⟩ := afterStrayFrame_byte
  have hold : ¬ ((chartBase ≤ 0 ∧ 0 < hostWindow) ∨ ∃ p r, p < 4 ∧ r ∈ regionsOf ((strayFrame.advance 0).bytesAt
      (Adr.regionTable p)) ∧ r.ecc = true ∧ afterStrayFrame.regionInForce r = true ∧ r.base ≤ 0 ∧ 0 < r.limit) := by
    rintro (⟨hchart, -⟩ | ⟨p, r, hp, hr, hecc, -⟩)
    · exact absurd hchart (by decide)
    · exact absurd ((strayFrame_ecc p hp r hr).symm.trans hecc) Bool.false_ne_true
  have hsame := hkept hold
  rw [hwritten, hbefore] at hsame
  exact absurd hsame (by decide)

end Sys2Proof.Machine

/-! PROOFS about the statement of resets and signed boot (O59): a concrete state that it lets in, and on which the model does
otherwise. -/

namespace Sys2Proof.Machine

/-! ## A queue whose partition does not exist (R182, R370) -/

/-- A job that waits in its queue. -/
def strayJob : Job :=
  Submission.job
    { kind := 0, standing := false, tag := 0, image := 0, param := 0, inputSet := 0, target := 0, copyAddr := 0,
      copyDev := 0, copyLen := 0, copyOut := false, ringIndex := 0, wellFormed := true } 1

/-- READY, with a job in queue 0, whose partition is 0x2FA0. No part of `State.Inv` excludes that partition. JOBS_ENDED of it
would stand at the address of PANEL_ENABLE of panel 0, which is NVM-backed. -/
def strayQueue : State :=
  { State.reset with
    power := { PowerCtl.zero with state := .ready },
    own := { State.reset.own with state := .owned, owner := some .S, lease := 10 },
    dict := [(Adr.queuePartition 0, .num 0x2FA0)],
    queues := { Queue.zero with jobs := [strayJob] } :: List.replicate 31 Queue.zero }

theorem strayQueue_inv : strayQueue.Inv := by
  unfold State.Inv State.Canonical State.Shaped
  decide +kernel

theorem jobsEnded_strayQueue : Adr.jobsEnded 0x2FA0 = Adr.panelEnable 0 := rfl

/-- WARM_RESET with its key, on port S. -/
def writeWarmReset : Req := { t := 0, port := .S, sender := 0, seq := 1, flags := 0, payload := leBytes 4 0x74737277 }

theorem strayQueue_grants : strayQueue.grants writeWarmReset Adr.warmReset := by
  unfold State.grants State.hears
  decide +kernel

/-- What the warm reset makes of it. -/
def afterStrayQueue : State := doWarmReset writeWarmReset strayQueue

theorem exec_warmReset_strayQueue : exec (.warmReset writeWarmReset) strayQueue = .next afterStrayQueue := rfl

/-- The job that the reset has ended is counted in PANEL_ENABLE of panel 0. -/
theorem afterStrayQueue_enable : afterStrayQueue.valAt (Adr.panelEnable 0) = .num 1 ∧
    (strayQueue.heard 0 .S 0).valAt (Adr.panelEnable 0) = .num 0 := by decide +kernel

/-- Refutes O59: in `strayQueue` a WARM_RESET changes a setting, PANEL_ENABLE of panel 0. -/
theorem not_resetsRestart : ¬ Obligations.ResetsRestart := by
  unfold Obligations.ResetsRestart
  rintro ⟨-, h⟩
  obtain ⟨hwarm, -⟩ := h strayQueue strayQueue_inv
  obtain ⟨x, hx, -, -, -, -, -, -, -, -, -, -, -, hsettings⟩ := hwarm writeWarmReset strayQueue_grants
  obtain rfl : afterStrayQueue = x := Host.Outcome.next.inj (exec_warmReset_strayQueue.symm.trans hx)
  obtain ⟨hafter, hbefore⟩ := afterStrayQueue_enable
  have hsame := hsettings (Adr.panelEnable 0) (by decide +kernel)
  have hne : (.num 1 : Val) = .num 0 := hafter.symm.trans (hsame.trans hbefore)
  exact absurd hne (by decide)

end Sys2Proof.Machine

/-! PROOFS of the statement about the fans (O56), with what the platform's events count. -/

namespace Sys2Proof.Machine

section
variable {s x : State}

/-! ## Events of the platform (R346, R347) -/

theorem State.numAt_thermalEvent (t channel kind level : Nat) (value threshold : Int)
    (h : Dict.wf s.part.variant s.dict = true) :
    (s.thermalEvent t channel kind level value threshold).numAt Adr.thermalEvents = (s.numAt Adr.thermalEvents + 1) % 2 ^ 64 :=
  ((State.platEvent_writesPending _ t 0 _).numAt (State.bump_wf _ h) (by decide)).trans
    (State.numAt_bump_same h (wrapFlagOf_ne _))

theorem State.thermalEvent_plat (t channel kind level : Nat) (value threshold : Int) :
    (s.thermalEvent t channel kind level value threshold).plat = s.plat := (s.thermalEvent_within t _ _ _ _ _).plat rfl

theorem State.fanAt_of_plat (h : x.plat = s.plat) (k : Nat) : x.fanAt k = s.fanAt k := by rw [State.fanAt, h, State.fanAt]

theorem State.channelAt_of_plat (h : x.plat = s.plat) (k : Nat) : x.channelAt k = s.channelAt k := by
  rw [State.channelAt, h, State.channelAt]

theorem State.Inv.fan_lt (h : s.Inv) {n : Nat} (hn : n < 2) : n < s.plat.fans.length := by
  obtain ⟨-, hs⟩ := h
  obtain ⟨-, -, -, -, -, -, -, -, -, -, hf, -⟩ := (State.shaped_iff s).mp hs
  omega

theorem sampleDue_of {last : Option Nat} {period t : Nat} (h : ∀ b, last = some b → b + period * 1000000 ≤ t) :
    sampleDue last period t = true := by
  cases last with
  | none => rfl
  | some b => exact decide_eq_true (h b rfl)

/-! ## Fan speed (R343) -/

/-- What an update of FAN_RPM to `rpm` at `t` makes of a fan with the minimum speed `least`: it stalls and heals after
`stall` and `heal` ns. -/
def Fan.tached (w : Fan) (t : Nat) (ps : List Nat) (rpm least stall heal : Nat) : Fan :=
  let slow := rpm < least
  let low := if slow && 200 ≤ w.duty then some (w.lowSince.getD t) else none
  let ok := if slow then none else some (w.okSince.getD t)
  let stalls := !w.fault && low.any (fun b => b + stall ≤ t)
  let heals := w.fault && ok.any (fun b => b + heal ≤ t)
  { w with pulses := ps, lastUpdate := some t, rpm := rpm, lowSince := low, okSince := ok, fault := (w.fault || stalls) && !heals }

section
variable (w : Fan) (t : Nat) (ps : List Nat) (rpm least stall heal : Nat)

theorem Fan.tached_enters (h : w.fault = false) : (w.tached t ps rpm least stall heal).fault = true ↔
    rpm < least ∧ 200 ≤ w.duty ∧ w.lowSince.getD t + stall ≤ t := by
  unfold Fan.tached
  by_cases hslow : rpm < least <;> by_cases hduty : 200 ≤ w.duty <;> simp [h, hslow, hduty]

theorem Fan.tached_leaves (h : w.fault = true) : (w.tached t ps rpm least stall heal).fault = false ↔
    least ≤ rpm ∧ w.okSince.getD t + heal ≤ t := by
  unfold Fan.tached
  by_cases hslow : rpm < least
  · simp [h, hslow]
  · simp [h, hslow, Nat.le_of_not_lt hslow]

end

/-- What the pulses of the last second are, and the speed that they give. -/
def Fan.window (w : Fan) (pulses : Nat) : List Nat := (pulses :: w.pulses).take 10
def Fan.speed (w : Fan) (pulses ppr : Nat) : Nat := min (sumNat (w.window pulses) * 60 / (max 1 ppr)) 65535

/-- What an update makes of fan `n`, by its settings. -/
def State.fanTached (s : State) (t n pulses : Nat) : Fan :=
  (s.fanAt n).tached t ((s.fanAt n).window pulses) ((s.fanAt n).speed pulses (s.numAt (Adr.fanPulsesPerRev n)))
    (s.numAt (Adr.fanMinRpm n)) (s.numAt (Adr.fanStallMs n) * 1000000) 1000000000

/-- The element changed is known. -/
theorem modifyAt_nth {α : Type} (xs : List α) (i : Nat) (f : α → α) (d : α) :
    modifyAt xs i f = modifyAt xs i (fun _ => f (nth xs i d)) := by
  induction xs generalizing i with
  | nil => rfl
  | cons x xs ih =>
    cases i with
    | zero => rfl
    | succ i => exact congrArg (x :: ·) (ih i)

/-- The state in which fan `n` has been updated, before what is reported of it. -/
def State.withFan (s : State) (n : Nat) (w : Fan) : State :=
  s.setPlat (fun y => { y with fans := modifyAt y.fans n (fun _ => w) })

/-- A fan that has entered FAULT is counted and reported, one that has left it is reported. -/
def State.fanReported (s : State) (t n : Nat) (was : Bool) (w : Fan) : State :=
  if !was && w.fault then ((s.withFan n w).bump Adr.fanFaults).thermalEvent t (0x80 + n) 5 0 (toSigned 16 w.rpm) 0
  else if was && !w.fault then (s.withFan n w).thermalEvent t (0x80 + n) 6 0 (toSigned 16 w.rpm) 0
  else s.withFan n w

theorem exec_fanTachUpdate {t : Nat} {f : Fin 2} {pulses : Nat} (hs : (s.advance t).ctlServes = true)
    (hd : ∀ b, (s.fanAt f.val).lastUpdate = some b → b + 100 * 1000000 ≤ t) :
    exec (.fanTachUpdate t f pulses) s = .next ((s.advance t).fanReported t f.val (s.fanAt f.val).fault
      ((s.advance t).fanTached t f.val pulses)) := by
  have hp : (s.advance t).fanAt f.val = s.fanAt f.val := State.fanAt_of_plat ((s.advance_within t).plat rfl) _
  show Host.Outcome.next (doFanTachUpdate t f pulses s) = _
  unfold doFanTachUpdate
  generalize s.advance t = u at *
  extract_lets v w ps rpm slow low ok stalls heals y
  have hw : w = s.fanAt f.val := hp
  have hdue : sampleDue w.lastUpdate 100 t = true := sampleDue_of (by rw [hw]; exact hd)
  have hy : y = u.withFan f.val (u.fanTached t f.val pulses) :=
    congrArg (fun fans => u.setPlat (fun z => { z with fans := fans })) (modifyAt_nth u.plat.fans f.val _ Fan.zero)
  have hfault : (u.fanTached t f.val pulses).fault = ((w.fault || stalls) && !heals) := rfl
  have hstalls : stalls = (!w.fault && (u.fanTached t f.val pulses).fault) := by
    cases hc : w.fault <;> simp [hfault, stalls, heals, hc]
  have hheals : heals = (w.fault && !(u.fanTached t f.val pulses).fault) := by
    cases hc : w.fault <;> simp [hfault, stalls, heals, hc]
  rw [if_neg (by simp [v, hs, hdue]), hy, hstalls, hheals, ← hp]
  rfl

/-! ## The duty (R342, R382) -/

theorem State.fanDuty_congr {n : Nat} (hp : x.part = s.part) (hd : x.dict = s.dict) (ht : x.plat.trip = s.plat.trip)
    (hc : x.plat.channels = s.plat.channels) (hf : (x.fanAt n).curve = (s.fanAt n).curve) : x.fanDuty n = s.fanDuty n := by
  unfold State.fanDuty
  simp only [State.flagAt, State.channelAt, State.numAt_congr hp hd, ht, hc, hf]
  rfl

/-- From `s` to `x` the platform changes in the fans alone, and the register file not at all. -/
structure State.FansOnly (s x : State) : Prop where
  part : x.part = s.part
  dict : x.dict = s.dict
  plat : x.plat = { s.plat with fans := x.plat.fans }

theorem State.FansOnly.trans {y : State} (h : State.FansOnly s x) (k : State.FansOnly x y) : State.FansOnly s y :=
  ⟨k.part.trans h.part, k.dict.trans h.dict, by rw [k.plat, h.plat]⟩

theorem State.FansOnly.fanDuty (h : State.FansOnly s x) {n : Nat} (hf : (x.fanAt n).curve = (s.fanAt n).curve) :
    x.fanDuty n = s.fanDuty n :=
  State.fanDuty_congr h.part h.dict (by rw [h.plat]) (by rw [h.plat]) hf

/-- Fan `n` changed in a state that differs at most in free values. -/
theorem State.FansOnly.modify {v : State} (h : State.FansOnly s v) (n : Nat) (f : Fan → Fan) :
    State.FansOnly s (v.setPlat (fun p => { p with fans := modifyAt p.fans n f })) :=
  ⟨h.part, h.dict, by rw [State.setPlat_plat, h.plat]⟩

theorem State.fanAt_modify_same (v : State) {n : Nat} (hn : n < v.plat.fans.length) (f : Fan → Fan) :
    (v.setPlat (fun p => { p with fans := modifyAt p.fans n f })).fanAt n = f (v.fanAt n) := nth_modifyAt_same _ _ hn

theorem State.fanAt_modify_other (v : State) {n k : Nat} (hk : k ≠ n) (f : Fan → Fan) :
    (v.setPlat (fun p => { p with fans := modifyAt p.fans n f })).fanAt k = v.fanAt k := nth_modifyAt_other _ _ hk

theorem State.updateCurve_fansOnly (s : State) (n : Nat) : State.FansOnly s (s.updateCurve n) := by
  unfold State.updateCurve
  extract_lets src
  clear_value src
  split
  rename_i v y heq
  have hy : State.FansOnly s y := by
    split at heq <;> cases heq <;> exact ⟨rfl, rfl, rfl⟩
  exact hy.modify n _

theorem State.updateCurve_other (s : State) {n k : Nat} (hk : k ≠ n) : (s.updateCurve n).fanAt k = s.fanAt k := by
  unfold State.updateCurve
  extract_lets src
  clear_value src
  split
  rename_i v y heq
  have hy : y.plat = s.plat := by
    split at heq <;> cases heq <;> rfl
  rw [State.fanAt_modify_other y hk, State.fanAt_of_plat hy]

theorem State.updateCurve_fans (s : State) (n : Nat) : (s.updateCurve n).plat.fans.length = s.plat.fans.length := by
  unfold State.updateCurve
  extract_lets src
  clear_value src
  split
  rename_i v y heq
  have hy : y.plat = s.plat := by
    split at heq <;> cases heq <;> rfl
  rw [State.setPlat_plat, length_modifyAt, hy]

theorem State.updateFan_fansOnly (s : State) (n : Nat) : State.FansOnly s (s.updateFan n) :=
  (s.updateCurve_fansOnly n).modify n _

theorem State.updateFan_other (s : State) {n k : Nat} (hk : k ≠ n) : (s.updateFan n).fanAt k = s.fanAt k :=
  ((s.updateCurve n).fanAt_modify_other hk _).trans (s.updateCurve_other hk)

theorem State.updateFan_fans (s : State) (n : Nat) : (s.updateFan n).plat.fans.length = s.plat.fans.length :=
  (length_modifyAt _ _ _).trans (s.updateCurve_fans n)

/-- R342: a fan's duty is set to what it then is. -/
theorem State.updateFan_duty (s : State) {n : Nat} (hn : n < s.plat.fans.length) :
    ((s.updateFan n).fanAt n).duty = (s.updateFan n).fanDuty n := by
  have hl : n < (s.updateCurve n).plat.fans.length := by rw [s.updateCurve_fans]; exact hn
  unfold State.updateFan
  extract_lets v
  have hv : n < v.plat.fans.length := hl
  clear_value v
  have hset := v.fanAt_modify_same hv (fun y => { y with duty := v.fanDuty n })
  have hsame : State.FansOnly v _ := State.FansOnly.modify (v := v) ⟨rfl, rfl, rfl⟩ n (fun y => { y with duty := v.fanDuty n })
  have hduty := hsame.fanDuty (n := n) (by rw [hset])
  exact (congrArg Fan.duty hset).trans hduty.symm

/-- The duties of both fans, after a thermal sample. -/
theorem State.updateFans_duty (s : State) (hl : s.plat.fans.length = 2) {n : Nat} (hn : n < 2) :
    (((s.updateFan 0).updateFan 1).fanAt n).duty = ((s.updateFan 0).updateFan 1).fanDuty n := by
  have h1 : (s.updateFan 0).plat.fans.length = 2 := (s.updateFan_fans 0).trans hl
  rcases Nat.lt_or_ge n 1 with h0 | h0
  · obtain rfl : n = 0 := by omega
    have ho : ((s.updateFan 0).updateFan 1).fanAt 0 = (s.updateFan 0).fanAt 0 := State.updateFan_other _ (by decide)
    rw [((s.updateFan 0).updateFan_fansOnly 1).fanDuty (congrArg Fan.curve ho), ho]
    exact s.updateFan_duty (by omega)
  · obtain rfl : n = 1 := by omega
    exact (s.updateFan 0).updateFan_duty (by omega)

/-! ## Thermal samples (R336) -/

/-- The channels' samples that are due at `t`. -/
def State.sampled (s : State) (t : Nat) (readings : List TempReading) : State :=
  (readings.take 24).zipIdx.foldl (fun u (e : TempReading × Nat) => u.sampleChannel e.2 t e.1)
    ((s.advance t).setPlat (fun p => { p with thermAt := some t }))

theorem exec_thermalSample {t : Nat} {readings : List TempReading} (hs : (s.advance t).ctlServes = true)
    (hd : ∀ b, s.plat.thermAt = some b → b + (s.advance t).numAt Adr.thermSampleMs * 1000000 ≤ t) :
    exec (.thermalSample t readings) s = .next (((s.sampled t readings).updateFan 0).updateFan 1) := by
  have hp : (s.advance t).plat = s.plat := (s.advance_within t).plat rfl
  have hdue : sampleDue (s.advance t).plat.thermAt ((s.advance t).numAt Adr.thermSampleMs) t = true :=
    sampleDue_of (by rw [hp]; exact hd)
  show Host.Outcome.next (doThermalSample t readings s) = _
  unfold doThermalSample State.sampled
  generalize s.advance t = u at *
  extract_lets v y z
  rw [if_neg (by simp [v, hs, hdue])]

/-- A thermal sample keeps the fans until it updates them. -/
theorem State.sampled_fans (s : State) (t : Nat) (readings : List TempReading) (h : s.Inv) :
    (s.sampled t readings).plat.fans.length = 2 := by
  have hsound : State.Sound [.dict, .clock, .ports, .host, .plat, .sent, .free] s s.tick.now (s.sampled t readings) :=
    State.Sound.foldl (State.Sound.setPlat (State.Sound.advance (State.Sound.refl _ s) rfl) ⟨rfl, rfl⟩ rfl)
      fun _ _ hu => State.Sound.sampleChannel hu rfl
  obtain ⟨-, hs⟩ := hsound.good h
  obtain ⟨-, -, -, -, -, -, -, -, -, -, hf, -⟩ := (State.shaped_iff _).mp hs
  exact hf

theorem State.fanDuty_cases (s : State) (n : Nat) :
    let full := s.plat.trip = true ∧ s.flagAt (Adr.fanTripFull n) = true
    let curve := s.numAt (Adr.fanMode n) = 1
    let failed := ∃ ch, ch < 24 ∧ bitAt (s.numAt (Adr.fanSourceMask n)) ch = true ∧ (s.channelAt ch).fault = true
    (full → s.fanDuty n = 1000) ∧ (¬ full → curve → failed → s.fanDuty n = s.numAt (Adr.fanFailDuty n)) ∧
      (¬ full → ¬ curve → s.fanDuty n = s.numAt (Adr.fanDuty n)) ∧
      (¬ full → curve → ¬ failed → s.fanDuty n = (s.fanAt n).curve) := by
  intro full curve failed
  have hfull : (s.plat.trip && s.flagAt (Adr.fanTripFull n)) = true ↔ full := by simp [full]
  have hcurve : (s.numAt (Adr.fanMode n) == 1) = true ↔ curve := by simp [curve]
  have hfailed : ((bitsOf 24 (s.numAt (Adr.fanSourceMask n))).any fun ch => (s.channelAt ch).fault) = true ↔ failed := by
    simp [failed, bitsOf]
  unfold State.fanDuty
  simp only [Bool.and_eq_true (s.numAt _ == 1), hfull, hcurve, hfailed]
  refine ⟨fun h => if_pos h, fun h hc hf => ?_, fun h hc => ?_, fun h hc hf => ?_⟩
  · rw [if_neg h, if_pos ⟨hc, hf⟩]
  · rw [if_neg h, if_neg (fun e => hc e.1), if_neg hc]
  · rw [if_neg h, if_neg (fun e => hf e.2), if_pos hc]

/-! ## What an update of the speed reports -/

variable {t n : Nat} {was : Bool} {w : Fan}

theorem State.fanReported_enters (hw : was = false) (hf : w.fault = true) : s.fanReported t n was w =
    ((s.withFan n w).bump Adr.fanFaults).thermalEvent t (0x80 + n) 5 0 (toSigned 16 w.rpm) 0 := by
  unfold State.fanReported
  rw [hw, hf]
  exact if_pos rfl

theorem State.fanReported_leaves (hw : was = true) (hf : w.fault = false) : s.fanReported t n was w =
    (s.withFan n w).thermalEvent t (0x80 + n) 6 0 (toSigned 16 w.rpm) 0 := by
  unfold State.fanReported
  rw [hw, hf, if_neg (by decide)]
  exact if_pos rfl

theorem State.fanReported_same (h : was = w.fault) : s.fanReported t n was w = s.withFan n w := by
  unfold State.fanReported
  rw [h, Bool.not_and_self, Bool.and_not_self, if_neg Bool.false_ne_true, if_neg Bool.false_ne_true]

theorem State.fanReported_plat : (s.fanReported t n was w).plat = (s.withFan n w).plat := by
  unfold State.fanReported
  split
  · rw [State.thermalEvent_plat, State.bump_plat]
  · split
    · exact State.thermalEvent_plat _ _ _ _ _ _
    · rfl

theorem State.fanReported_faults (h : Dict.wf s.part.variant s.dict = true) : (s.fanReported t n was w).numAt Adr.fanFaults =
    if was = false ∧ w.fault = true then (s.numAt Adr.fanFaults + 1) % 2 ^ 64 else s.numAt Adr.fanFaults := by
  have hevent : ∀ (u : State) c k l v d, Dict.wf u.part.variant u.dict = true →
      (u.thermalEvent t c k l v d).numAt Adr.fanFaults = u.numAt Adr.fanFaults := fun u _ _ _ _ _ hu =>
    (u.thermalEvent_writesIn t _ _ _ _ _).numAt hu (by decide)
  have hkept : (s.withFan n w).numAt Adr.fanFaults = s.numAt Adr.fanFaults := State.numAt_congr rfl rfl _
  have hwf : Dict.wf (s.withFan n w).part.variant (s.withFan n w).dict = true := h
  cases hw : was <;> cases hf : w.fault
  · rw [State.fanReported_same hf.symm, hkept, if_neg (by decide)]
  · rw [State.fanReported_enters rfl hf, hevent _ _ _ _ _ _ (State.bump_wf _ hwf), State.numAt_bump_same hwf (wrapFlagOf_ne _),
      hkept, if_pos ⟨rfl, rfl⟩]
  · rw [State.fanReported_leaves rfl hf, hevent _ _ _ _ _ _ hwf, hkept, if_neg (by decide)]
  · rw [State.fanReported_same hf.symm, hkept, if_neg (by decide)]

theorem State.fanReported_events (h : Dict.wf s.part.variant s.dict = true) : (s.fanReported t n was w).numAt Adr.thermalEvents =
    if was = w.fault then s.numAt Adr.thermalEvents else (s.numAt Adr.thermalEvents + 1) % 2 ^ 64 := by
  have hkept : (s.withFan n w).numAt Adr.thermalEvents = s.numAt Adr.thermalEvents := State.numAt_congr rfl rfl _
  have hwf : Dict.wf (s.withFan n w).part.variant (s.withFan n w).dict = true := h
  have hcounted : ((s.withFan n w).bump Adr.fanFaults).numAt Adr.thermalEvents = s.numAt Adr.thermalEvents :=
    (congrArg Val.toNat (State.valAt_bump_other hwf (by decide) (by decide))).trans hkept
  cases hw : was <;> cases hf : w.fault
  · rw [State.fanReported_same hf.symm, hkept, if_pos rfl]
  · rw [State.fanReported_enters rfl hf, State.numAt_thermalEvent _ _ _ _ _ _ (State.bump_wf _ hwf), hcounted,
      if_neg Bool.false_ne_true]
  · rw [State.fanReported_leaves rfl hf, State.numAt_thermalEvent _ _ _ _ _ _ hwf, hkept, if_neg Bool.false_ne_true.symm]
  · rw [State.fanReported_same hf.symm, hkept, if_pos rfl]

end

/-- Settles O56: the update by what it makes of a fan and what it reports, the sample by its last two steps. -/
theorem fansAreSupervised : Obligations.FansAreSupervised := by
  unfold Obligations.FansAreSupervised
  intro s t f pulses hinv u n w ps rpm
  have hwithin := s.advance_within t
  have hplat : u.plat = s.plat := hwithin.plat rfl
  have hwf : Dict.wf u.part.variant u.dict = true := by
    rw [hwithin.part rfl, hwithin.dict rfl]
    exact hinv.wf
  have hfan : u.fanAt n = w := State.fanAt_of_plat hplat n
  refine ⟨fun hs hd hppr => ⟨_, exec_fanTachUpdate hs hd, ?_⟩, fun readings hs hd => ⟨_, exec_thermalSample hs hd, ?_⟩,
    s.fanDuty_cases n⟩
  · have hspeed : w.speed pulses (u.numAt (Adr.fanPulsesPerRev n)) = rpm := by
      unfold Fan.speed rpm
      rw [Nat.max_eq_right (show 1 ≤ u.numAt (Adr.fanPulsesPerRev n) from hppr)]
      rfl
    have htached : u.fanTached t n pulses = w.tached t ps rpm (u.numAt (Adr.fanMinRpm n))
        (u.numAt (Adr.fanStallMs n) * 1000000) 1000000000 := by
      unfold State.fanTached
      rw [hfan, hspeed]
      rfl
    rw [htached]
    generalize hz : w.tached t ps rpm (u.numAt (Adr.fanMinRpm n)) (u.numAt (Adr.fanStallMs n) * 1000000) 1000000000 = z
    have hreported : (u.fanReported t n w.fault z).plat = (u.withFan n z).plat := State.fanReported_plat
    have hsame : (u.fanReported t n w.fault z).fanAt n = z :=
      (State.fanAt_of_plat hreported n).trans (u.fanAt_modify_same (by rw [hplat]; exact hinv.fan_lt f.isLt) _)
    have hother : ∀ k, k ≠ n → (u.fanReported t n w.fault z).fanAt k = s.fanAt k := fun k hk =>
      (State.fanAt_of_plat hreported k).trans ((u.fanAt_modify_other hk _).trans (State.fanAt_of_plat hplat k))
    refine ⟨?_, ?_, hother, fun hf => ?_, fun hf => ?_, ?_, ?_, ?_⟩
    · rw [hsame, ← hz]
      rfl
    · rw [hsame, ← hz]
      rfl
    · rw [hsame, ← hz]
      exact Fan.tached_enters _ _ _ _ _ _ _ hf
    · rw [hsame, ← hz]
      exact Fan.tached_leaves _ _ _ _ _ _ _ hf
    · rw [hsame]
      exact State.fanReported_faults hwf
    · rw [hsame]
      exact State.fanReported_events hwf
    · rw [hreported, ← hplat]
      rfl
  · exact State.updateFans_duty _ (s.sampled_fans t readings hinv) f.isLt

end Sys2Proof.Machine

/-! PROOFS of the statement about temperatures, vehicle supply and battery (O54). -/

namespace Sys2Proof.Machine

/-! ## What a channel reports (R338 to R340) -/

/-- Where thermal samples write the register file. -/
def sampleRows : List Nat := platRows ++ withFlags [Adr.trips, Adr.sensorFaults]

/-- The settings that a thermal sample of a channel reads. -/
def channelSettings (ch : Nat) : List Nat :=
  [Adr.chEnable ch, Adr.warn ch, Adr.high ch, Adr.critical ch, Adr.offset ch, Adr.smbTempAddr (ch - 20), Adr.thermHyst,
    Adr.thermDwell, Adr.tripMask, Adr.tripLatch]

theorem channelSettings_kept : ∀ ch < 24, ∀ a ∈ channelSettings ch, a ∉ sampleRows := by decide

/-- From `s` to `x` only THERM_TRIP_N may change of the platform, and counters and PLAT_PENDING of the register file. -/
structure State.Reports (s x : State) : Prop where
  writes : State.WritesIn (· ∈ sampleRows) s x
  plat : x.plat = { s.plat with trip := x.plat.trip }

section
variable {s x y : State}

theorem State.Reports.refl (s : State) : State.Reports s s := ⟨.refl s, rfl⟩

theorem State.Reports.trans (h : State.Reports s x) (k : State.Reports x y) : State.Reports s y :=
  ⟨h.writes.trans k.writes, by rw [k.plat, h.plat]⟩

theorem State.Reports.ite {c : Prop} [Decidable c] (h : State.Reports s x) (k : State.Reports s y) :
    State.Reports s (if c then x else y) := by
  split
  · exact h
  · exact k

theorem State.Reports.channelAt (h : State.Reports s x) (k : Nat) : x.channelAt k = s.channelAt k := by
  rw [State.channelAt, h.plat, State.channelAt]

theorem State.thermalEvent_reports (s : State) (t c k l : Nat) (v d : Int) : State.Reports s (s.thermalEvent t c k l v d) :=
  ⟨(s.thermalEvent_writesIn t c k l v d).mono fun _ h => List.mem_append_left _ h, by rw [State.thermalEvent_plat]⟩

theorem State.driveTrip_reports (s : State) (on : Bool) (t : Nat) (v d : Int) : State.Reports s (s.driveTrip on t v d) := by
  refine ⟨(s.driveTrip_writesIn t on v d).mono fun a h => ?_, ?_⟩
  · rcases List.mem_append.mp h with h | h
    · exact List.mem_append_left _ h
    · exact List.mem_append_right _ (List.mem_append_left _ h)
  · unfold State.driveTrip
    split
    · rfl
    · extract_lets a b
      have hb : b.plat = a.plat := by
        unfold b
        split
        · exact State.bump_plat _ _
        · rfl
      rw [State.thermalEvent_plat, hb]
      rfl

theorem State.driveTrip_trip (s : State) (on : Bool) (t : Nat) (v d : Int) : (s.driveTrip on t v d).plat.trip = on := by
  unfold State.driveTrip
  split
  · rename_i h
    exact beq_iff_eq.mp h
  · extract_lets a b
    have hb : b.plat = a.plat := by
      unfold b
      split
      · exact State.bump_plat _ _
      · rfl
    rw [State.thermalEvent_plat, hb]
    rfl

/-- What keeps the pin asserted (R340): TRIP_LATCH, or a channel of TRIP_MASK that is crossed at CRITICAL. -/
def State.tripKept (s : State) : Prop := s.flagAt Adr.tripLatch = true ∨ s.tripHeld = true

theorem State.Reports.tripKept (h : State.Reports s x) (w : Dict.wf s.part.variant s.dict = true) : x.tripKept ↔ s.tripKept := by
  have hlatch : x.flagAt Adr.tripLatch = s.flagAt Adr.tripLatch := by
    simp only [State.flagAt, h.writes.numAt w (b := Adr.tripLatch) (by decide)]
  have hheld : x.tripHeld = s.tripHeld := by
    simp only [State.tripHeld, h.writes.numAt w (b := Adr.tripMask) (by decide), h.channelAt]
  rw [State.tripKept, hlatch, hheld, State.tripKept]

theorem State.settleTrip_kept (t : Nat) (v d : Int) (h : s.tripKept) : s.settleTrip t v d = s := by
  unfold State.settleTrip
  rw [if_neg]
  rcases h with h | h <;> simp [h]

theorem State.settleTrip_reports (s : State) (t : Nat) (v d : Int) : State.Reports s (s.settleTrip t v d) :=
  .ite (s.driveTrip_reports false t v d) (.refl s)

/-- What an event of a threshold does to the pin. -/
def State.levelTrip (s : State) (ch level t : Nat) (v d : Int) (up : Bool) : State :=
  if level != 3 then s
  else if up then (if bitAt (s.numAt Adr.tripMask) ch then s.driveTrip true t v d else s)
  else s.settleTrip t v d

theorem State.levelEvent_some (s : State) (ch level t : Nat) (v d : Int) (up : Bool) : s.levelEvent ch level t v d (some up) =
    (s.thermalEvent t ch (if up then 1 else 2) level v d).levelTrip ch level t v d up := rfl

theorem State.levelEvent_reports (s : State) (ch level t : Nat) (v d : Int) (ev : Option Bool) :
    State.Reports s (s.levelEvent ch level t v d ev) := by
  cases ev with
  | none => exact .refl s
  | some up =>
    rw [State.levelEvent_some]
    refine (s.thermalEvent_reports t ch (if up then 1 else 2) level v d).trans ?_
    exact .ite (.refl _) (.ite (.ite (State.driveTrip_reports _ true t v d) (.refl _)) (State.settleTrip_reports _ t v d))

theorem State.levelTrip_trip (ch level t : Nat) (v d : Int) (up : Bool) (hk : s.tripKept) (h : s.plat.trip = true) :
    (s.levelTrip ch level t v d up).plat.trip = true := by
  unfold State.levelTrip
  split
  · exact h
  · split
    · split
      · exact s.driveTrip_trip true t v d
      · exact h
    · rw [State.settleTrip_kept t v d hk]
      exact h

theorem State.levelEvent_trip (ch level t : Nat) (v d : Int) (ev : Option Bool) (hk : s.tripKept)
    (w : Dict.wf s.part.variant s.dict = true) (h : s.plat.trip = true) : (s.levelEvent ch level t v d ev).plat.trip = true := by
  cases ev with
  | none => exact h
  | some up =>
    rw [State.levelEvent_some]
    exact State.levelTrip_trip _ _ _ _ _ _ (((s.thermalEvent_reports _ _ _ _ _ _).tripKept w).mpr hk)
      (by rw [State.thermalEvent_plat]; exact h)

/-- R340: a CRITICAL crossing of a channel of TRIP_MASK asserts the pin. -/
theorem State.levelEvent_crosses (ch t : Nat) (v d : Int) (w : Dict.wf s.part.variant s.dict = true)
    (h : bitAt (s.numAt Adr.tripMask) ch = true) : (s.levelEvent ch 3 t v d (some true)).plat.trip = true := by
  have hmask := (s.thermalEvent_reports t ch 1 3 v d).writes.numAt w (b := Adr.tripMask) (by decide)
  rw [State.levelEvent_some, State.levelTrip, if_neg (by decide), if_pos rfl, if_pos rfl, hmask, if_pos h]
  exact State.driveTrip_trip _ true t v d

/-! ## What a sample makes of its channel (R336 to R339) -/

/-- From `s` to `x` channel `ch` alone of the channels may change, and what the sample reports. -/
structure State.Samples (ch : Nat) (s x : State) : Prop where
  writes : State.WritesIn (· ∈ sampleRows) s x
  plat : x.plat = { s.plat with trip := x.plat.trip, channels := x.plat.channels }
  count : x.plat.channels.length = s.plat.channels.length
  others : ∀ k, k ≠ ch → x.channelAt k = s.channelAt k

theorem State.Samples.trans {ch : Nat} (h : State.Samples ch s x) (k : State.Samples ch x y) : State.Samples ch s y where
  writes := h.writes.trans k.writes
  plat := by rw [k.plat, h.plat]
  count := k.count.trans h.count
  others j hj := (k.others j hj).trans (h.others j hj)

theorem State.Reports.samples (h : State.Reports s x) (ch : Nat) : State.Samples ch s x where
  writes := h.writes
  plat := by rw [h.plat]
  count := by rw [h.plat]
  others k _ := h.channelAt k

theorem State.setChannel_samples (s : State) (ch : Nat) (f : Channel → Channel) : State.Samples ch s (s.setChannel ch f) where
  writes := .of_same rfl rfl
  plat := rfl
  count := length_modifyAt _ _ _
  others _ hk := nth_modifyAt_other _ _ hk

theorem State.channelAt_setChannel {ch : Nat} (h : ch < s.plat.channels.length) (f : Channel → Channel) :
    (s.setChannel ch f).channelAt ch = f (s.channelAt ch) := nth_modifyAt_same _ _ h

/-- The pin stays asserted while the other channels or TRIP_LATCH keep it. -/
def State.keptBeside (s : State) (ch : Nat) : Prop := s.flagAt Adr.tripLatch = true ∨
  ∃ k, k ≠ ch ∧ k < 24 ∧ bitAt (s.numAt Adr.tripMask) k = true ∧ (s.channelAt k).critical.crossed = true

theorem State.tripHeld_of {k : Nat} (hk : k < 24) (hm : bitAt (s.numAt Adr.tripMask) k = true)
    (hc : (s.channelAt k).critical.crossed = true) : s.tripHeld = true :=
  List.any_eq_true.mpr ⟨k, List.mem_filter.mpr ⟨List.mem_range.mpr hk, hm⟩, hc⟩

theorem State.keptBeside.kept {ch : Nat} (h : s.keptBeside ch) : s.tripKept := by
  rcases h with h | ⟨k, -, hk, hm, hc⟩
  · exact .inl h
  · exact .inr (State.tripHeld_of hk hm hc)

theorem State.Samples.keptBeside {ch : Nat} (h : State.Samples ch s x) (w : Dict.wf s.part.variant s.dict = true)
    (hk : s.keptBeside ch) : x.keptBeside ch := by
  rcases hk with hk | ⟨k, hne, hlt, hm, hc⟩
  · refine .inl ?_
    simp only [State.flagAt, h.writes.numAt w (b := Adr.tripLatch) (by decide)]
    exact hk
  · refine .inr ⟨k, hne, hlt, ?_, ?_⟩
    · rw [h.writes.numAt w (by decide)]
      exact hm
    · rw [h.others k hne]
      exact hc

/-- What a good value makes of a channel. -/
def State.judged (s : State) (ch : Nat) (temp : Int) (y : Channel) : Channel :=
  { y with
    warn := (y.warn.up (s.intAt 16 (Adr.warn ch)) (s.numAt Adr.thermHyst) temp (s.numAt Adr.thermDwell)).1,
    high := (y.high.up (s.intAt 16 (Adr.high ch)) (s.numAt Adr.thermHyst) temp (s.numAt Adr.thermDwell)).1,
    critical := (y.critical.up (s.intAt 16 (Adr.critical ch)) (s.numAt Adr.thermHyst) temp (s.numAt Adr.thermDwell)).1 }

/-- The state in which the crossings of a channel are judged, before they are reported. -/
def State.withJudged (s : State) (ch : Nat) (temp : Int) : State :=
  let w := s.judged ch temp (s.channelAt ch)
  s.setChannel ch fun y => { y with warn := w.warn, high := w.high, critical := w.critical }

/-- The state in which the outcomes of the thresholds WARN and HIGH are reported. -/
def State.judgedTwo (s : State) (ch t : Nat) (temp : Int) : State :=
  let x := s.channelAt ch
  ((s.withJudged ch temp).levelEvent ch 1 t temp (s.intAt 16 (Adr.warn ch))
    (x.warn.up (s.intAt 16 (Adr.warn ch)) (s.numAt Adr.thermHyst) temp (s.numAt Adr.thermDwell)).2).levelEvent ch 2 t temp
    (s.intAt 16 (Adr.high ch)) (x.high.up (s.intAt 16 (Adr.high ch)) (s.numAt Adr.thermHyst) temp (s.numAt Adr.thermDwell)).2

theorem State.judgeChannel_eq (s : State) (ch t : Nat) (temp : Int) : s.judgeChannel ch t temp =
    (s.judgedTwo ch t temp).levelEvent ch 3 t temp (s.intAt 16 (Adr.critical ch)) ((s.channelAt ch).critical.up
      (s.intAt 16 (Adr.critical ch)) (s.numAt Adr.thermHyst) temp (s.numAt Adr.thermDwell)).2 := rfl

variable {ch t : Nat} {temp : Int}

theorem State.judgedTwo_reports : State.Reports (s.withJudged ch temp) (s.judgedTwo ch t temp) :=
  (State.levelEvent_reports _ _ _ _ _ _ _).trans (State.levelEvent_reports _ _ _ _ _ _ _)

theorem State.judgeChannel_reports : State.Reports (s.withJudged ch temp) (s.judgeChannel ch t temp) := by
  rw [State.judgeChannel_eq]
  exact State.judgedTwo_reports.trans (State.levelEvent_reports _ _ _ _ _ _ _)

theorem State.judgeChannel_samples : State.Samples ch s (s.judgeChannel ch t temp) :=
  (s.setChannel_samples ch _).trans (State.judgeChannel_reports.samples ch)

theorem State.judgeChannel_channel (h : ch < s.plat.channels.length) :
    (s.judgeChannel ch t temp).channelAt ch = s.judged ch temp (s.channelAt ch) := by
  rw [State.judgeChannel_reports.channelAt, State.withJudged, State.channelAt_setChannel h]
  rfl

theorem State.judgeChannel_kept (w : Dict.wf s.part.variant s.dict = true) (hk : s.keptBeside ch) (h : s.plat.trip = true) :
    (s.judgeChannel ch t temp).plat.trip = true := by
  have hv : (s.withJudged ch temp).tripKept := ((s.setChannel_samples ch _).keptBeside w hk).kept
  have hw : Dict.wf (s.withJudged ch temp).part.variant (s.withJudged ch temp).dict = true := w
  have ht : (s.withJudged ch temp).plat.trip = true := h
  rw [State.judgeChannel_eq]
  refine State.levelEvent_trip _ _ _ _ _ _ ((State.judgedTwo_reports.tripKept hw).mpr hv)
    (State.judgedTwo_reports.writes.wf hw) ?_
  have h1 : State.Reports (s.withJudged ch temp) _ := State.levelEvent_reports (s.withJudged ch temp) ch 1 t temp
    (s.intAt 16 (Adr.warn ch)) ((s.channelAt ch).warn.up (s.intAt 16 (Adr.warn ch)) (s.numAt Adr.thermHyst) temp
      (s.numAt Adr.thermDwell)).2
  exact State.levelEvent_trip _ _ _ _ _ _ ((h1.tripKept hw).mpr hv) (h1.writes.wf hw)
    (State.levelEvent_trip _ _ _ _ _ _ hv hw ht)

theorem Crossing.up_crosses {c : Crossing} {threshold hyst v : Int} {d : Nat} (h : c.crossed = false)
    (hx : (c.up threshold hyst v d).1.crossed = true) : (c.up threshold hyst v d).2 = some true := by
  unfold Crossing.up Crossing.sample at *
  by_cases hit : threshold ≤ v <;> by_cases hd : d ≤ c.run + 1 <;> simp_all

theorem State.judgeChannel_crosses (w : Dict.wf s.part.variant s.dict = true) (hm : bitAt (s.numAt Adr.tripMask) ch = true)
    (hc : (s.channelAt ch).critical.crossed = false) (hx : (s.judged ch temp (s.channelAt ch)).critical.crossed = true) :
    (s.judgeChannel ch t temp).plat.trip = true := by
  have hw : Dict.wf (s.withJudged ch temp).part.variant (s.withJudged ch temp).dict = true := w
  have hmask : (s.judgedTwo ch t temp).numAt Adr.tripMask = s.numAt Adr.tripMask :=
    (State.judgedTwo_reports.writes.numAt hw (by decide)).trans (State.numAt_congr rfl rfl _)
  rw [State.judgeChannel_eq, Crossing.up_crosses hc hx]
  exact State.levelEvent_crosses _ _ _ _ (State.judgedTwo_reports.writes.wf hw) (by rw [hmask]; exact hm)

theorem State.faultChannel_samples : State.Samples ch s (s.faultChannel ch t) := by
  unfold State.faultChannel
  split
  · exact (State.Reports.refl s).samples ch
  · extract_lets a
    have ha : State.Samples ch s a := by
      refine (s.setChannel_samples ch fun y => { y with fault := true }).trans (State.Reports.samples ⟨?_, ?_⟩ ch)
      · exact .bump (a := Adr.sensorFaults) (by decide) (by decide) _
      · rw [State.bump_plat]
    exact ha.trans ((State.thermalEvent_reports _ _ _ _ _ _ _).samples ch)

theorem State.faultChannel_channel (h : ch < s.plat.channels.length) :
    (s.faultChannel ch t).channelAt ch = { s.channelAt ch with fault := true } := by
  unfold State.faultChannel
  split
  · rename_i hf
    rw [← hf]
  · extract_lets a
    rw [(State.thermalEvent_reports _ _ _ _ _ _ _).channelAt]
    exact (State.channelAt_of_plat (State.bump_plat _ _) ch).trans (State.channelAt_setChannel h _)

theorem State.faultChannel_trip : (s.faultChannel ch t).plat.trip = s.plat.trip := by
  unfold State.faultChannel
  split
  · rfl
  · extract_lets a
    rw [State.thermalEvent_plat]
    have ha : a.plat = (s.setChannel ch fun y => { y with fault := true }).plat := State.bump_plat _ _
    rw [ha]
    rfl

/-! ## One channel's sample (R336, R337) -/

/-- What a reading does to its channel. -/
def State.takeReading (s : State) (ch t : Nat) (got : Reading) : State :=
  match got with
  | .nothing => s
  | .broken => s.faultChannel ch t
  | .failed =>
    let n := (s.channelAt ch).fails + 1
    let s := s.setChannel ch (fun y => { y with fails := n })
    if 3 ≤ n then s.faultChannel ch t else s
  | .good x =>
    let temp := clampInt (x + s.intAt 16 (Adr.offset ch)) (-32768) 32767
    let was := (s.channelAt ch).fault
    let s := s.setChannel ch (fun y => { y with temp := temp, fault := false, fails := 0 })
    let s := if was then s.thermalEvent t ch 4 0 temp 0 else s
    s.judgeChannel ch t temp

/-- A channel with a good value, before its thresholds are judged. -/
def State.withTemp (s : State) (ch t : Nat) (temp : Int) : State :=
  let v := s.setChannel ch (fun y => { y with temp := temp, fault := false, fails := 0 })
  if (s.channelAt ch).fault then v.thermalEvent t ch 4 0 temp 0 else v

theorem State.takeReading_good (x : Int) : s.takeReading ch t (.good x) =
    (s.withTemp ch t (clampInt (x + s.intAt 16 (Adr.offset ch)) (-32768) 32767)).judgeChannel ch t
      (clampInt (x + s.intAt 16 (Adr.offset ch)) (-32768) 32767) := rfl

theorem State.withTemp_reports : State.Reports (s.setChannel ch (fun y => { y with temp := temp, fault := false, fails := 0 }))
    (s.withTemp ch t temp) :=
  .ite (State.thermalEvent_reports _ _ _ _ _ _ _) (.refl _)

theorem State.withTemp_samples : State.Samples ch s (s.withTemp ch t temp) :=
  (s.setChannel_samples ch _).trans (State.withTemp_reports.samples ch)

theorem State.withTemp_channel (h : ch < s.plat.channels.length) : (s.withTemp ch t temp).channelAt ch =
    { s.channelAt ch with temp := temp, fault := false, fails := 0 } := by
  rw [State.withTemp_reports.channelAt, State.channelAt_setChannel h]

theorem State.withTemp_trip : (s.withTemp ch t temp).plat.trip = s.plat.trip := by
  unfold State.withTemp
  extract_lets v
  split
  · rw [State.thermalEvent_plat]
    rfl
  · rfl

/-- A failed reading, counted. -/
def State.withFail (s : State) (ch : Nat) : State :=
  s.setChannel ch (fun y => { y with fails := (s.channelAt ch).fails + 1 })

theorem State.takeReading_failed : s.takeReading ch t .failed =
    if 3 ≤ (s.channelAt ch).fails + 1 then (s.withFail ch).faultChannel ch t else s.withFail ch := rfl

theorem State.takeReading_samples (got : Reading) : State.Samples ch s (s.takeReading ch t got) := by
  cases got with
  | nothing => exact (State.Reports.refl s).samples ch
  | broken => exact State.faultChannel_samples
  | failed =>
    rw [State.takeReading_failed]
    split
    · exact (s.setChannel_samples ch _).trans State.faultChannel_samples
    · exact s.setChannel_samples ch _
  | good x =>
    rw [State.takeReading_good]
    exact State.withTemp_samples.trans State.judgeChannel_samples

theorem State.takeReading_kept (got : Reading) (w : Dict.wf s.part.variant s.dict = true) (hk : s.keptBeside ch)
    (h : s.plat.trip = true) : (s.takeReading ch t got).plat.trip = true := by
  cases got with
  | nothing => exact h
  | broken => exact State.faultChannel_trip.trans h
  | failed =>
    rw [State.takeReading_failed]
    split
    · exact State.faultChannel_trip.trans h
    · exact h
  | good x =>
    rw [State.takeReading_good]
    exact State.judgeChannel_kept (State.withTemp_samples.writes.wf w) (State.withTemp_samples.keptBeside w hk)
      (State.withTemp_trip.trans h)

/-- R339, R340: only a good value crosses a threshold, and a CRITICAL crossing asserts the pin. -/
theorem State.takeReading_crosses (got : Reading) (hl : ch < s.plat.channels.length) (w : Dict.wf s.part.variant s.dict = true)
    (hm : bitAt (s.numAt Adr.tripMask) ch = true) (hc : (s.channelAt ch).critical.crossed = false)
    (hx : ((s.takeReading ch t got).channelAt ch).critical.crossed = true) : (s.takeReading ch t got).plat.trip = true := by
  have hne : (s.channelAt ch).critical.crossed ≠ true := by rw [hc]; exact Bool.false_ne_true
  have hfail : (s.withFail ch).channelAt ch = { s.channelAt ch with fails := (s.channelAt ch).fails + 1 } :=
    State.channelAt_setChannel hl _
  cases got with
  | nothing => exact absurd hx hne
  | broken =>
    rw [State.takeReading, State.faultChannel_channel hl] at hx
    exact absurd hx hne
  | failed =>
    rw [State.takeReading_failed] at hx
    split at hx
    · rw [State.faultChannel_channel ((State.setChannel_samples s ch _).count ▸ hl), hfail] at hx
      exact absurd hx hne
    · rw [hfail] at hx
      exact absurd hx hne
  | good x =>
    rw [State.takeReading_good] at hx ⊢
    generalize clampInt (x + s.intAt 16 (Adr.offset ch)) (-32768) 32767 = temp at hx ⊢
    have hs : State.Samples ch s (s.withTemp ch t temp) := State.withTemp_samples
    have hl' : ch < (s.withTemp ch t temp).plat.channels.length := by rw [hs.count]; exact hl
    rw [State.judgeChannel_channel hl'] at hx
    exact State.judgeChannel_crosses (hs.writes.wf w) (by rw [hs.writes.numAt w (by decide)]; exact hm)
      (by rw [State.withTemp_channel hl]; exact hc) hx

theorem State.sampleChannel_off (r : TempReading) (h : s.flagAt (Adr.chEnable ch) = false) : s.sampleChannel ch t r =
    s.setChannel ch (fun y => { y with warn := Crossing.zero, high := Crossing.zero, critical := Crossing.zero }) := by
  unfold State.sampleChannel
  rw [h]
  rfl

theorem State.sampleChannel_on (r : TempReading) (h : s.flagAt (Adr.chEnable ch) = true) : s.sampleChannel ch t r =
    (s.readChannel ch r).2.takeReading ch t (s.readChannel ch r).1 := by
  unfold State.sampleChannel
  rw [h]
  rfl

/-- A reading takes at most a free value. -/
theorem State.readChannel_reports (r : TempReading) : State.Reports s (s.readChannel ch r).2 := by
  have hw : State.Within [.free] s (s.readChannel ch r).2 :=
    (State.Sound.readChannel (State.Sound.refl [.free] s) rfl).within
  exact ⟨.of_within hw, by rw [hw.plat rfl]⟩

theorem State.sampleChannel_samples (r : TempReading) : State.Samples ch s (s.sampleChannel ch t r) := by
  cases h : s.flagAt (Adr.chEnable ch)
  · rw [State.sampleChannel_off r h]
    exact s.setChannel_samples ch _
  · rw [State.sampleChannel_on r h]
    exact ((s.readChannel_reports r).samples ch).trans (State.takeReading_samples _)

theorem State.sampleChannel_kept (r : TempReading) (w : Dict.wf s.part.variant s.dict = true) (hk : s.keptBeside ch)
    (h : s.plat.trip = true) : (s.sampleChannel ch t r).plat.trip = true := by
  cases he : s.flagAt (Adr.chEnable ch)
  · rw [State.sampleChannel_off r he]
    exact h
  · rw [State.sampleChannel_on r he]
    have hr : State.Reports s (s.readChannel ch r).2 := s.readChannel_reports r
    have hw : State.Within [.free] s (s.readChannel ch r).2 :=
      (State.Sound.readChannel (State.Sound.refl [.free] s) rfl).within
    exact State.takeReading_kept _ (hr.writes.wf w) ((hr.samples ch).keptBeside w hk) (by rw [hw.plat rfl]; exact h)

theorem State.sampleChannel_crosses (r : TempReading) (hl : ch < s.plat.channels.length)
    (w : Dict.wf s.part.variant s.dict = true) (hm : bitAt (s.numAt Adr.tripMask) ch = true)
    (hc : (s.channelAt ch).critical.crossed = false) (hx : ((s.sampleChannel ch t r).channelAt ch).critical.crossed = true) :
    (s.sampleChannel ch t r).plat.trip = true := by
  cases he : s.flagAt (Adr.chEnable ch)
  · rw [State.sampleChannel_off r he, State.channelAt_setChannel hl] at hx
    exact absurd hx Bool.false_ne_true
  · rw [State.sampleChannel_on r he] at hx ⊢
    have hr : State.Reports s (s.readChannel ch r).2 := s.readChannel_reports r
    exact State.takeReading_crosses _ ((hr.samples ch).count ▸ hl) (hr.writes.wf w)
      (by rw [hr.writes.numAt w (by decide)]; exact hm) (by rw [hr.channelAt]; exact hc) hx

/-- A channel is judged by its settings alone. -/
theorem State.judged_congr (hn : ∀ a ∈ channelSettings ch, x.numAt a = s.numAt a) (v : Int) (y : Channel) :
    x.judged ch v y = s.judged ch v y := by
  unfold State.judged State.intAt
  rw [hn (Adr.warn ch) (by simp [channelSettings]), hn (Adr.high ch) (by simp [channelSettings]),
    hn (Adr.critical ch) (by simp [channelSettings]), hn Adr.thermHyst (by simp [channelSettings]),
    hn Adr.thermDwell (by simp [channelSettings])]

theorem State.Samples.judged (h : State.Samples ch s x) (hch : ch < 24) (w : Dict.wf s.part.variant s.dict = true) (v : Int)
    (y : Channel) : x.judged ch v y = s.judged ch v y :=
  State.judged_congr (fun a ha => h.writes.numAt w (channelSettings_kept ch hch a ha)) v y

section
variable (he : s.flagAt (Adr.chEnable ch) = true) (hl : ch < s.plat.channels.length)
include he hl

/-- R336, R338: a good reading of an on-die channel. -/
theorem State.sampleChannel_onDie (hch : ch < 12) (w : Dict.wf s.part.variant s.dict = true) (v : Int) :
    (s.sampleChannel ch t (.onDie v)).channelAt ch =
      s.judged ch (clampInt (v + s.intAt 16 (Adr.offset ch)) (-32768) 32767) { s.channelAt ch with
        temp := clampInt (v + s.intAt 16 (Adr.offset ch)) (-32768) 32767, fault := false, fails := 0 } := by
  have hread : s.readChannel ch (.onDie v) = (.good v, s) := if_pos hch
  rw [State.sampleChannel_on _ he, hread, State.takeReading_good]
  generalize clampInt (v + s.intAt 16 (Adr.offset ch)) (-32768) 32767 = temp
  have hs : State.Samples ch s (s.withTemp ch t temp) := State.withTemp_samples
  rw [State.judgeChannel_channel (hs.count ▸ hl), hs.judged (by omega) w, State.withTemp_channel hl]

/-- R337: a short or an open NTC. -/
theorem State.sampleChannel_ntc {c : Nat} (h1 : 12 ≤ ch) (h2 : ch < 20) (hc : c ≤ 8 ∨ 4087 ≤ c) :
    (s.sampleChannel ch t (.ntc c)).channelAt ch = { s.channelAt ch with fault := true } := by
  have hread : s.readChannel ch (.ntc c) = (.broken, s) := by
    unfold State.readChannel
    dsimp only
    rw [if_neg (by simp; omega), if_pos (by simpa using hc)]
  rw [State.sampleChannel_on _ he, hread]
  exact State.faultChannel_channel hl

/-- R337: a failed SMBus read; the third in a row is FAULT. -/
theorem State.sampleChannel_smbusFail (h1 : 20 ≤ ch) (ha : s.numAt (Adr.smbTempAddr (ch - 20)) ≠ 0) :
    (s.sampleChannel ch t .smbusFail).channelAt ch = { s.channelAt ch with
      fails := (s.channelAt ch).fails + 1, fault := (s.channelAt ch).fault || 3 ≤ (s.channelAt ch).fails + 1 } := by
  have hread : s.readChannel ch .smbusFail = (.failed, s) := by
    unfold State.readChannel
    dsimp only
    rw [if_neg (by simp; exact ⟨h1, ha⟩)]
  have hfail : (s.withFail ch).channelAt ch = { s.channelAt ch with fails := (s.channelAt ch).fails + 1 } :=
    State.channelAt_setChannel hl _
  rw [State.sampleChannel_on _ he, hread, State.takeReading_failed]
  split
  · rename_i h3
    rw [State.faultChannel_channel ((s.setChannel_samples ch _).count ▸ hl), hfail, decide_eq_true h3, Bool.or_true]
  · rename_i h3
    rw [hfail, decide_eq_false h3, Bool.or_false]

end

/-! ## All channels (R336) -/

/-- A run of samples, each with its channel. -/
def State.sampleRun (s : State) (t : Nat) (es : List (TempReading × Nat)) : State :=
  es.foldl (fun u e => u.sampleChannel e.2 t e.1) s

theorem State.sampleRun_others {es : List (TempReading × Nat)} (h : ∀ e ∈ es, e.2 ≠ ch) :
    (s.sampleRun t es).channelAt ch = s.channelAt ch := by
  induction es generalizing s with
  | nil => rfl
  | cons e es ih =>
    obtain ⟨he, hes⟩ := List.forall_mem_cons.mp h
    exact (ih hes).trans ((State.sampleChannel_samples (ch := e.2) e.1).others ch he.symm)

theorem State.sampleRun_writes (es : List (TempReading × Nat)) : State.WritesIn (· ∈ sampleRows) s (s.sampleRun t es) :=
  State.WritesIn.foldl (f := fun u (e : TempReading × Nat) => u.sampleChannel e.2 t e.1)
    (fun _ _ => State.Samples.writes (State.sampleChannel_samples _)) es s

theorem State.sampleRun_cons (e : TempReading × Nat) (es : List (TempReading × Nat)) :
    s.sampleRun t (e :: es) = (s.sampleChannel e.2 t e.1).sampleRun t es := rfl

theorem State.sampleRun_append (es fs : List (TempReading × Nat)) :
    s.sampleRun t (es ++ fs) = (s.sampleRun t es).sampleRun t fs := List.foldl_append

theorem State.sampleRun_plat (es : List (TempReading × Nat)) : (s.sampleRun t es).plat.thermAt = s.plat.thermAt ∧
    (s.sampleRun t es).plat.channels.length = s.plat.channels.length := by
  induction es generalizing s with
  | nil => exact ⟨rfl, rfl⟩
  | cons e es ih =>
    have h : State.Samples e.2 s (s.sampleChannel e.2 t e.1) := State.sampleChannel_samples e.1
    rw [State.sampleRun_cons]
    obtain ⟨hp, hc⟩ := ih (s := s.sampleChannel e.2 t e.1)
    exact ⟨hp.trans (by rw [h.plat]), hc.trans h.count⟩

/-- The pin stays asserted while TRIP_LATCH, or a channel that is not sampled, keeps it. -/
theorem State.sampleRun_kept {es : List (TempReading × Nat)} (w : Dict.wf s.part.variant s.dict = true)
    (hc : s.flagAt Adr.tripLatch = true ∨ ∃ ch, (∀ e ∈ es, e.2 ≠ ch) ∧ ch < 24 ∧ bitAt (s.numAt Adr.tripMask) ch = true ∧
      (s.channelAt ch).critical.crossed = true) (h : s.plat.trip = true) : (s.sampleRun t es).plat.trip = true := by
  induction es generalizing s with
  | nil => exact h
  | cons e es ih =>
    have hs : State.Samples e.2 s (s.sampleChannel e.2 t e.1) := State.sampleChannel_samples e.1
    have hbeside : s.keptBeside e.2 := by
      rcases hc with hc | ⟨ch, hes, hc⟩
      · exact .inl hc
      · exact .inr ⟨ch, (hes e List.mem_cons_self).symm, hc⟩
    refine ih (hs.writes.wf w) ?_ (State.sampleChannel_kept e.1 w hbeside h)
    rcases hc with hc | ⟨ch, hes, hlt, hm, hx⟩
    · refine .inl ?_
      simp only [State.flagAt, hs.writes.numAt w (b := Adr.tripLatch) (by decide)]
      exact hc
    · refine .inr ⟨ch, fun f hf => hes f (List.mem_cons_of_mem _ hf), hlt, ?_, ?_⟩
      · rw [hs.writes.numAt w (by decide)]
        exact hm
      · rw [hs.others ch (hes e List.mem_cons_self).symm]
        exact hx

/-- The readings before and after that of a channel. -/
theorem zipIdx_split {α : Type} {xs : List α} {k : Nat} {x : α} (h : xs[k]? = some x) :
    ∃ es fs, xs.zipIdx = es ++ (x, k) :: fs ∧ (∀ e ∈ es, e.2 ≠ k) ∧ ∀ e ∈ fs, e.2 ≠ k := by
  obtain ⟨hk, hx⟩ := List.getElem?_eq_some_iff.mp h
  have hxs : xs = xs.take k ++ x :: xs.drop (k + 1) := by rw [← hx, List.getElem_cons_drop, List.take_append_drop]
  have hlen : (xs.take k).length = k := List.length_take_of_le hk.le
  refine ⟨(xs.take k).zipIdx, (xs.drop (k + 1)).zipIdx (k + 1), ?_, fun e he => ?_, fun e he => ?_⟩
  · rw [hxs, List.zipIdx_append, List.zipIdx_cons, ← hxs, hlen, Nat.zero_add]
  · have := List.snd_lt_of_mem_zipIdx he
    omega
  · have := List.le_snd_of_mem_zipIdx he
    omega

/-! ## A thermal sample (R336 to R340) -/

/-- The channels before any of a thermal sample at `t` has been taken. -/
def State.sampleStart (s : State) (t : Nat) : State := (s.advance t).setPlat (fun p => { p with thermAt := some t })

theorem State.sampled_eq (readings : List TempReading) :
    s.sampled t readings = (s.sampleStart t).sampleRun t (readings.take 24).zipIdx := rfl

theorem State.sampleStart_channelAt (k : Nat) : (s.sampleStart t).channelAt k = s.channelAt k := by
  have hp : (s.advance t).plat = s.plat := (s.advance_within t).plat rfl
  rw [State.channelAt, State.sampleStart, State.setPlat_plat, hp, State.channelAt]

theorem State.sampleStart_numAt (a : Nat) : (s.sampleStart t).numAt a = (s.advance t).numAt a := State.numAt_congr rfl rfl a

theorem State.sampleStart_wf (h : s.Inv) : Dict.wf (s.sampleStart t).part.variant (s.sampleStart t).dict = true := by
  have hw := s.advance_within t
  show Dict.wf (s.advance t).part.variant (s.advance t).dict = true
  rw [hw.part rfl, hw.dict rfl]
  exact h.wf

theorem State.Inv.channel_lt (h : s.Inv) (hc : ch < 24) : ch < (s.sampleStart t).plat.channels.length := by
  have hp : (s.advance t).plat = s.plat := (s.advance_within t).plat rfl
  obtain ⟨-, hs⟩ := h
  obtain ⟨-, -, -, -, -, -, -, -, -, hcount, -⟩ := (State.shaped_iff s).mp hs
  rw [State.sampleStart, State.setPlat_plat, hp]
  exact hcount ▸ hc

/-- The state in which channel `ch` is sampled: nothing of it has changed since the start, and nothing changes afterwards. -/
structure State.SampledFrom (s : State) (t ch : Nat) (r : TempReading) (pre x : State) : Prop where
  before : pre.channelAt ch = s.channelAt ch
  settings : ∀ a ∈ channelSettings ch, pre.numAt a = (s.advance t).numAt a
  wf : Dict.wf pre.part.variant pre.dict = true
  count : ch < pre.plat.channels.length
  after : x.channelAt ch = (pre.sampleChannel ch t r).channelAt ch
  trip : (pre.sampleChannel ch t r).plat.trip = true → bitAt (pre.numAt Adr.tripMask) ch = true →
    (x.channelAt ch).critical.crossed = true → x.plat.trip = true

theorem State.sampled_from (h : s.Inv) {readings : List TempReading} {r : TempReading} (hch : ch < 24)
    (hr : readings[ch]? = some r) : ∃ pre, State.SampledFrom s t ch r pre (s.sampled t readings) := by
  have htake : (readings.take 24)[ch]? = some r := by rw [List.getElem?_take_of_lt hch, hr]
  obtain ⟨es, fs, hsplit, hes, hfs⟩ := zipIdx_split htake
  have hv := State.sampleStart_wf (t := t) h
  have hwrites : State.WritesIn (· ∈ sampleRows) (s.sampleStart t) ((s.sampleStart t).sampleRun t es) := State.sampleRun_writes es
  obtain ⟨-, hcount⟩ := State.sampleRun_plat (s := s.sampleStart t) (t := t) es
  have hbefore := State.sampleRun_others (s := s.sampleStart t) (t := t) hes
  rw [State.sampled_eq, hsplit, State.sampleRun_append, State.sampleRun_cons]
  generalize (s.sampleStart t).sampleRun t es = pre at hwrites hcount hbefore ⊢
  have hstep : State.Samples ch pre (pre.sampleChannel ch t r) := State.sampleChannel_samples r
  have hafter := State.sampleRun_others (s := pre.sampleChannel ch t r) (t := t) hfs
  refine ⟨pre, hbefore.trans (s.sampleStart_channelAt ch), fun a ha => ?_, hwrites.wf hv, hcount ▸ h.channel_lt hch, hafter,
    fun htrip hm hc => ?_⟩
  · exact (hwrites.numAt hv (channelSettings_kept ch hch a ha)).trans (State.sampleStart_numAt a)
  · refine State.sampleRun_kept (hstep.writes.wf (hwrites.wf hv)) (.inr ⟨ch, hfs, hch, ?_, hafter ▸ hc⟩) htrip
    rw [hstep.writes.numAt (hwrites.wf hv) (by decide)]
    exact hm

theorem State.SampledFrom.flagAt {pre : State} {r : TempReading} (h : State.SampledFrom s t ch r pre x) {a : Nat}
    (ha : a ∈ channelSettings ch) : pre.flagAt a = (s.advance t).flagAt a := by
  simp only [State.flagAt, h.settings a ha]

/-- The updates of the fans, with which a thermal sample ends, keep the rest. -/
theorem State.updateFans_plat (s : State) : ((s.updateFan 0).updateFan 1).plat =
    { s.plat with fans := ((s.updateFan 0).updateFan 1).plat.fans } :=
  ((s.updateFan_fansOnly 0).trans ((s.updateFan 0).updateFan_fansOnly 1)).plat

/-- What a thermal sample makes of channel `ch`, which reads `r`. -/
theorem State.SampledFrom.on {pre : State} {r : TempReading} (h : State.SampledFrom s t ch r pre x)
    (he : (s.advance t).flagAt (Adr.chEnable ch) = true) :
    (∀ v, r = .onDie v → ch < 12 → x.channelAt ch = (s.advance t).judged ch
      (clampInt (v + (s.advance t).intAt 16 (Adr.offset ch)) (-32768) 32767) { s.channelAt ch with
        temp := clampInt (v + (s.advance t).intAt 16 (Adr.offset ch)) (-32768) 32767, fault := false, fails := 0 }) ∧
    (∀ c, r = .ntc c → 12 ≤ ch → ch < 20 → c ≤ 8 ∨ 4087 ≤ c → x.channelAt ch = { s.channelAt ch with fault := true }) ∧
    (r = .smbusFail → 20 ≤ ch → (s.advance t).numAt (Adr.smbTempAddr (ch - 20)) ≠ 0 → x.channelAt ch = { s.channelAt ch with
      fails := (s.channelAt ch).fails + 1, fault := (s.channelAt ch).fault || 3 ≤ (s.channelAt ch).fails + 1 }) := by
  have hon : pre.flagAt (Adr.chEnable ch) = true := (h.flagAt (by simp [channelSettings])).trans he
  rw [h.after, ← h.before]
  refine ⟨?_, ?_, ?_⟩
  · rintro v rfl h12
    have hoffset : pre.intAt 16 (Adr.offset ch) = (s.advance t).intAt 16 (Adr.offset ch) :=
      congrArg (toSigned 16) (h.settings _ (by simp [channelSettings]))
    rw [State.sampleChannel_onDie hon h.count h12 h.wf, hoffset, State.judged_congr h.settings]
  · rintro c rfl h1 h2 hc
    exact State.sampleChannel_ntc hon h.count h1 h2 hc
  · rintro rfl h1 ha
    exact State.sampleChannel_smbusFail hon h.count h1 (by rw [h.settings _ (by simp [channelSettings])]; exact ha)

theorem State.SampledFrom.off {pre : State} {r : TempReading} (h : State.SampledFrom s t ch r pre x)
    (he : (s.advance t).flagAt (Adr.chEnable ch) = false) : x.channelAt ch = { s.channelAt ch with
      warn := Crossing.zero, high := Crossing.zero, critical := Crossing.zero } := by
  rw [h.after, State.sampleChannel_off r ((h.flagAt (by simp [channelSettings])).trans he), State.channelAt_setChannel h.count,
    h.before]

theorem State.SampledFrom.crosses {pre : State} {r : TempReading} (h : State.SampledFrom s t ch r pre x)
    (hm : bitAt ((s.advance t).numAt Adr.tripMask) ch = true) (hc : (s.channelAt ch).critical.crossed = false)
    (hx : (x.channelAt ch).critical.crossed = true) : x.plat.trip = true := by
  have hmask : bitAt (pre.numAt Adr.tripMask) ch = true := by
    rw [h.settings _ (by simp [channelSettings])]
    exact hm
  exact h.trip (State.sampleChannel_crosses r h.count h.wf hmask (h.before ▸ hc) (h.after ▸ hx)) hmask hx

/-- R340: with TRIP_LATCH set nothing of a sample releases the pin. -/
theorem State.sampled_latched (h : s.Inv) (readings : List TempReading) (ht : s.plat.trip = true)
    (hl : (s.advance t).flagAt Adr.tripLatch = true) : (s.sampled t readings).plat.trip = true := by
  have hp : (s.advance t).plat = s.plat := (s.advance_within t).plat rfl
  have hlatch : (s.sampleStart t).flagAt Adr.tripLatch = true := by
    rw [State.flagAt, State.sampleStart_numAt]
    exact hl
  refine State.sampleRun_kept (s := s.sampleStart t) (State.sampleStart_wf h) (.inl hlatch) ?_
  rw [State.sampleStart, State.setPlat_plat, hp]
  exact ht

/-! ## TRIP_CLEAR (R340) -/

theorem exec_tripClear {r : Req} (h : s.grants r Adr.tripClear) : exec (.tripClear r) s =
    .next (((s.heard r.t r.port r.sender).driveTrip false (s.heard r.t r.port r.sender).tick.now 0 0).answered r.port
      ((s.heard r.t r.port r.sender).routeOf r.port r.sender) 2 r.seq Adr.tripClear 0 []) := by
  show Host.Outcome.next (s.writeRow r Adr.tripClear) = _
  rw [State.writeRow_command h (by decide) rfl]

theorem State.driveTrip_off_plat (s : State) (t : Nat) (v d : Int) :
    (s.driveTrip false t v d).plat = { s.plat with trip := false } := by
  rw [(s.driveTrip_reports false t v d).plat, s.driveTrip_trip false t v d]

theorem State.driveTrip_off_events (t : Nat) (v d : Int) (w : Dict.wf s.part.variant s.dict = true) :
    (s.driveTrip false t v d).numAt Adr.thermalEvents =
      if s.plat.trip then (s.numAt Adr.thermalEvents + 1) % 2 ^ 64 else s.numAt Adr.thermalEvents := by
  unfold State.driveTrip
  cases h : s.plat.trip
  · rfl
  · rw [if_neg (by decide), if_pos rfl]
    exact (State.numAt_thermalEvent (s := s.setPlat fun x => { x with trip := false }) t 255 8 0 v d w).trans
      (congrArg (fun n => (n + 1) % 2 ^ 64) (State.numAt_congr rfl rfl _))

/-! ## Vehicle supply (R344) -/

theorem State.vsupEvent_plat (s : State) (t level mv threshold : Nat) (ev : Option Bool) :
    (s.vsupEvent t level mv threshold ev).plat = s.plat :=
  (State.Sound.vsupEvent (State.Sound.refl [.dict, .ports, .host, .sent] s) rfl).within.plat rfl

/-- The voltage that a sample stores. -/
def State.vsupOf (s : State) (code : Nat) : Nat := (2 * code * 1800 * s.numAt Adr.vsupDiv + 4095000) / (2 * 4095000)

/-- The four thresholds, judged against it. -/
def State.vsupJudged (s : State) (mv : Nat) : List Crossing :=
  let h : Int := s.numAt Adr.vsupHyst
  let d := s.numAt Adr.vsupDwell
  let level := fun (i : Nat) => nth s.plat.vsup i Crossing.zero
  [((level 0).down (s.numAt Adr.underCrit) h mv d).1, ((level 1).down (s.numAt Adr.under) h mv d).1,
    ((level 2).up (s.numAt Adr.over) h mv d).1, ((level 3).up (s.numAt Adr.overCrit) h mv d).1]

theorem doVsupSample_plat {code : Nat} (hs : (s.advance t).ctlServes = true)
    (hd : ∀ b, s.plat.vsupAt = some b → b + (s.advance t).numAt Adr.vsupSampleMs * 1000000 ≤ t) :
    (doVsupSample t code s).plat = { (s.advance t).plat with
      vsupAt := some t, vsupMv := (s.advance t).vsupOf code, vsup := (s.advance t).vsupJudged ((s.advance t).vsupOf code) } := by
  have hp : (s.advance t).plat = s.plat := (s.advance_within t).plat rfl
  have hdue : sampleDue (s.advance t).plat.vsupAt ((s.advance t).numAt Adr.vsupSampleMs) t = true :=
    sampleDue_of (by rw [hp]; exact hd)
  unfold doVsupSample
  generalize s.advance t = u at *
  extract_lets v mv h d level
  rw [if_neg (by simp [v, hs, hdue])]
  dsimp only
  rw [State.vsupEvent_plat, State.vsupEvent_plat, State.vsupEvent_plat, State.vsupEvent_plat]
  rfl

/-! ## Battery (R345) -/

theorem State.supplyEvent_plat (s : State) (t source kind level value threshold : Nat) :
    (s.supplyEvent t source kind level value threshold).plat = s.plat := (s.supplyEvent_within t _ _ _ _ _).plat rfl

/-- An outcome of a threshold of the state of charge, reported. -/
def State.socEvent (s : State) (t level soc threshold : Nat) (ev : Option Bool) : State :=
  match ev with
  | none => s
  | some up => s.supplyEvent t 1 (if up then 1 else 2) level soc threshold

theorem State.socEvent_plat (s : State) (t level soc threshold : Nat) (ev : Option Bool) :
    (s.socEvent t level soc threshold ev).plat = s.plat := by
  cases ev
  · rfl
  · exact State.supplyEvent_plat _ _ _ _ _ _ _

/-- The thresholds of the state of charge, judged. -/
def State.socJudged (s : State) (soc : Nat) : List Crossing :=
  [((nth s.plat.battSoc 0 Crossing.zero).down (s.numAt Adr.battLowSoc) (s.numAt Adr.battHyst) soc 1).1,
    ((nth s.plat.battSoc 1 Crossing.zero).down (s.numAt Adr.battCritSoc) (s.numAt Adr.battHyst) soc 1).1]

/-- What a good poll stores. -/
def State.withPoll (s : State) (w : BattWords) : State :=
  s.setPlat (fun x => { x with battFails := 0, battStatus := 2, battWords := battBytes w, battSoc := s.socJudged w.soc })

/-- The battery has become PRESENT, and the outcomes of the state of charge, reported. -/
def State.pollReported (s : State) (t : Nat) (w : BattWords) : State :=
  let v := s.withPoll w
  let v := if s.plat.battStatus == 2 then v else v.supplyEvent t 1 4 0 w.soc 0
  let v := v.socEvent t 1 w.soc (v.numAt Adr.battLowSoc)
    ((nth s.plat.battSoc 0 Crossing.zero).down (s.numAt Adr.battLowSoc) (s.numAt Adr.battHyst) w.soc 1).2
  v.socEvent t 2 w.soc (v.numAt Adr.battCritSoc)
    ((nth s.plat.battSoc 1 Crossing.zero).down (s.numAt Adr.battCritSoc) (s.numAt Adr.battHyst) w.soc 1).2

theorem State.goodPoll_eq (s : State) (t : Nat) (w : BattWords) : s.goodPoll t w =
    if field s.plat.battWords 12 2 / 256 == (w.status % 65536) / 256 then s.pollReported t w
    else (s.pollReported t w).supplyEvent t 1 5 0 w.status 0 := rfl

theorem State.goodPoll_plat (s : State) (t : Nat) (w : BattWords) : (s.goodPoll t w).plat = { s.plat with
    battFails := 0, battStatus := 2, battWords := battBytes w, battSoc := s.socJudged w.soc } := by
  have h : (s.pollReported t w).plat = (s.withPoll w).plat := by
    unfold State.pollReported
    extract_lets v0 v1 v2
    have h1 : v1.plat = v0.plat := by
      unfold v1
      split
      · rfl
      · exact State.supplyEvent_plat _ _ _ _ _ _ _
    rw [State.socEvent_plat, show v2.plat = v1.plat from State.socEvent_plat _ _ _ _ _ _, h1]
  rw [State.goodPoll_eq]
  split
  · exact h
  · rw [State.supplyEvent_plat]
    exact h

/-- A failed poll, counted. -/
def State.pollFailed (s : State) : State :=
  (s.setPlat (fun x => { x with battFails := s.plat.battFails + 1 })).bump Adr.battPollFails

theorem State.pollFailed_plat (s : State) : s.pollFailed.plat = { s.plat with battFails := s.plat.battFails + 1 } :=
  State.bump_plat _ _

theorem State.badPoll_eq (s : State) (t : Nat) : s.badPoll t =
    if 3 ≤ s.plat.battFails + 1 && s.pollFailed.plat.battStatus != 1 then
      (s.pollFailed.setPlat (fun x => { x with battStatus := 1 })).supplyEvent t 1 3 0 0 0
    else s.pollFailed := rfl

theorem State.badPoll_plat (s : State) (t : Nat) : (s.badPoll t).plat = { s.plat with
    battFails := s.plat.battFails + 1, battStatus := if 3 ≤ s.plat.battFails + 1 then 1 else s.plat.battStatus } := by
  rw [State.badPoll_eq, s.pollFailed_plat]
  split
  · rename_i h
    obtain ⟨h3, -⟩ := Bool.and_eq_true_iff.mp h
    rw [State.supplyEvent_plat, State.setPlat_plat, s.pollFailed_plat, if_pos (of_decide_eq_true h3)]
  · rename_i h
    rw [s.pollFailed_plat]
    by_cases h3 : 3 ≤ s.plat.battFails + 1
    · have hs : s.plat.battStatus = 1 := by simpa [h3] using h
      rw [if_pos h3, ← hs]
    · rw [if_neg h3]

theorem State.badPoll_count (t : Nat) (w : Dict.wf s.part.variant s.dict = true) :
    (s.badPoll t).numAt Adr.battPollFails = (s.numAt Adr.battPollFails + 1) % 2 ^ 64 := by
  have hf : s.pollFailed.numAt Adr.battPollFails = (s.numAt Adr.battPollFails + 1) % 2 ^ 64 :=
    State.numAt_bump_of_same (s := s) (u := s.setPlat fun x => { x with battFails := s.plat.battFails + 1 }) rfl rfl w _
  have hw : Dict.wf s.pollFailed.part.variant s.pollFailed.dict = true := State.bump_wf _ w
  rw [State.badPoll_eq]
  generalize s.pollFailed = v at hf hw ⊢
  split
  · have h : State.WritesIn (· ∈ platRows) v ((v.setPlat (fun x => { x with battStatus := 1 })).supplyEvent t 1 3 0 0 0) :=
      State.WritesIn.after (State.supplyEvent_writesIn _ t 1 3 0 0 0) rfl rfl
    exact (h.numAt hw (by decide)).trans hf
  · exact hf

/-- A poll that is due. -/
theorem doBatteryPoll_due {words : Option BattWords} (hs : (s.advance t).ctlServes = true)
    (he : (s.advance t).flagAt Adr.battEnable = true)
    (hd : ∀ b, s.plat.battAt = some b → b + (s.advance t).numAt Adr.battPollMs * 1000000 ≤ t) :
    doBatteryPoll t words s = words.elim (((s.advance t).setPlat fun x => { x with battAt := some t }).badPoll t)
      (((s.advance t).setPlat fun x => { x with battAt := some t }).goodPoll t) := by
  have hp : (s.advance t).plat = s.plat := (s.advance_within t).plat rfl
  have hdue : sampleDue (s.advance t).plat.battAt ((s.advance t).numAt Adr.battPollMs) t = true :=
    sampleDue_of (by rw [hp]; exact hd)
  unfold doBatteryPoll
  generalize s.advance t = u at *
  extract_lets v x
  rw [if_neg (by simp [v, hs, he, hdue])]
  cases words <;> rfl

/-- A voltage of an ADC code, rounded half up (R344). -/
theorem roundHalfUp (n : Nat) : (n + 4095000) / (2 * 4095000) * 8190000 ≤ n + 4095000 ∧
    n + 4095000 < ((n + 4095000) / (2 * 4095000) + 1) * 8190000 := by omega

end

/-- Settles O54: the thermal sample channel by channel, the others by what they store. -/
theorem environmentIsMonitored : Obligations.EnvironmentIsMonitored := by
  unfold Obligations.EnvironmentIsMonitored
  refine ⟨?_, ?_⟩
  · intro s hinv
    refine ⟨?_, ?_⟩
    · intro t readings u h d hs hd
      refine ⟨_, exec_thermalSample hs hd, ?_, ?_, ?_⟩
      · rw [State.updateFans_plat]
        exact (State.sampleRun_plat _).1
      · intro ch r hch hr y z
        obtain ⟨pre, hfrom⟩ := State.sampled_from (t := t) hinv hch hr
        have hz : z = (s.sampled t readings).channelAt ch := by
          unfold z
          rw [State.channelAt, State.updateFans_plat, State.channelAt]
        rw [State.updateFans_plat, hz]
        exact ⟨hfrom.off, hfrom.on, fun hc hx hm => hfrom.crosses hm hc hx⟩
      · rw [State.updateFans_plat]
        exact State.sampled_latched hinv readings
    · intro r h hg
      have hwf : Dict.wf h.part.variant h.dict = true := (State.heard_inv hinv).wf
      obtain ⟨-, -, -, -, hrefuses⟩ := id hg
      obtain ⟨-, -, -, -, -, hplat, -⟩ := State.checks_of_refuses hrefuses
      refine ⟨refuseIf_eq_none hplat, _, exec_tripClear hg, ?_, ?_⟩
      · rw [State.answered_within.plat rfl]
        exact h.driveTrip_off_plat _ _ _
      · rw [State.numAt_answered]
        exact State.driveTrip_off_events _ _ _ hwf
  · intro s t hinv u level soc hs
    have hp : u.plat = s.plat := (s.advance_within t).plat rfl
    have hwf : Dict.wf u.part.variant u.dict = true := by
      rw [(s.advance_within t).part rfl, (s.advance_within t).dict rfl]
      exact hinv.wf
    refine ⟨fun code hd => ⟨doVsupSample t code s, rfl, ?_⟩, fun he hd => ⟨fun w => ⟨doBatteryPoll t (some w) s, rfl, ?_⟩,
      doBatteryPoll t none s, rfl, ?_⟩⟩
    · rw [doVsupSample_plat hs hd]
      have hround := roundHalfUp (2 * (code * 1800 * u.numAt Adr.vsupDiv))
      have hmv : u.vsupOf code = (2 * (code * 1800 * u.numAt Adr.vsupDiv) + 4095000) / (2 * 4095000) := by
        rw [State.vsupOf, Nat.mul_assoc 2 code, Nat.mul_assoc 2]
      have hjudged : ∀ mv, u.vsupJudged mv = [((level 0).down (u.numAt Adr.underCrit) (u.numAt Adr.vsupHyst) mv (u.numAt Adr.vsupDwell)).1,
          ((level 1).down (u.numAt Adr.under) (u.numAt Adr.vsupHyst) mv (u.numAt Adr.vsupDwell)).1,
          ((level 2).up (u.numAt Adr.over) (u.numAt Adr.vsupHyst) mv (u.numAt Adr.vsupDwell)).1,
          ((level 3).up (u.numAt Adr.overCrit) (u.numAt Adr.vsupHyst) mv (u.numAt Adr.vsupDwell)).1] := by
        intro mv
        unfold State.vsupJudged
        rw [hp]
      rw [← hmv] at hround
      exact ⟨hround.1, hround.2, hjudged _⟩
    · have hrow : (doBatteryPoll t (some w) s).plat = _ :=
        (congrArg State.plat (doBatteryPoll_due hs he hd)).trans (State.goodPoll_plat _ t w)
      rw [hrow]
      refine ⟨rfl, rfl, rfl, ?_⟩
      unfold State.socJudged
      rw [State.setPlat_plat, hp]
      rfl
    · have hrow := doBatteryPoll_due (words := none) hs he hd
      have hplat : (doBatteryPoll t none s).plat = _ := (congrArg State.plat hrow).trans (State.badPoll_plat _ t)
      have hcount : (doBatteryPoll t none s).numAt Adr.battPollFails = _ :=
        (congrArg (fun x => x.numAt Adr.battPollFails) hrow).trans
          (State.badPoll_count (s := u.setPlat fun x => { x with battAt := some t }) t hwf)
      rw [hplat, hcount, State.setPlat_plat, hp]
      exact ⟨rfl, rfl, rfl, rfl, rfl⟩

end Sys2Proof.Machine

/-! PROOFS of the statement about power sequences (O52). -/

namespace Sys2Proof.Machine

/-! ## Bits of a mask -/

/-- A bit that is 0 may be added without another changing. -/
theorem bitAt_add_two_pow {m k j : Nat} (h : m / 2 ^ k % 2 = 0) (hj : j ≠ k) : bitAt (m + 2 ^ k) j = bitAt m j := by
  unfold bitAt
  rcases Nat.lt_or_gt_of_ne hj with hlt | hgt
  · obtain ⟨d, rfl⟩ := Nat.exists_eq_add_of_lt hlt
    have hpow : 2 ^ (j + d + 1) = 2 ^ j * (2 * 2 ^ d) := by ring
    rw [hpow, Nat.add_mul_div_left _ _ (Nat.two_pow_pos j), Nat.add_mul_mod_self_left]
  · obtain ⟨d, rfl⟩ := Nat.exists_eq_add_of_lt hgt
    have hpow : 2 ^ (k + d + 1) = 2 ^ k * (2 * 2 ^ d) := by ring
    have hhalf : (m / 2 ^ k + 1) / 2 = m / 2 ^ k / 2 := by omega
    rw [hpow, ← Nat.div_div_eq_div_mul, ← Nat.div_div_eq_div_mul, ← Nat.div_div_eq_div_mul, ← Nat.div_div_eq_div_mul,
      Nat.add_div_right _ (Nat.two_pow_pos k), hhalf]

/-- A mask with bit `k` set is one without it, and the bit. -/
theorem exists_add_two_pow {m k : Nat} (h : bitAt m k = true) : ∃ n, m = n + 2 ^ k ∧ n / 2 ^ k % 2 = 0 := by
  have hodd : m / 2 ^ k % 2 = 1 := by simpa [bitAt] using h
  have hle : 2 ^ k ≤ m := by
    by_contra hlt
    rw [Nat.div_eq_of_lt (by omega)] at hodd
    omega
  obtain ⟨n, rfl⟩ := Nat.exists_eq_add_of_le' hle
  rw [Nat.add_div_right _ (Nat.two_pow_pos k)] at hodd
  exact ⟨n, rfl, by omega⟩

theorem bitAt_setBit_clear (m k : Nat) : bitAt (setBit m k false) k = false := by
  unfold setBit
  split
  · rename_i h
    exact beq_iff_eq.mp h
  · rename_i h
    obtain ⟨n, rfl, hn⟩ := exists_add_two_pow (m := m) (k := k) (by simpa using h)
    rw [if_neg Bool.false_ne_true, Nat.add_sub_cancel, bitAt, hn]
    rfl

theorem bitAt_setBit_other (m : Nat) (b : Bool) {j k : Nat} (hj : j ≠ k) : bitAt (setBit m k b) j = bitAt m j := by
  unfold setBit
  split
  · rfl
  · rename_i h
    cases b
    · obtain ⟨n, rfl, hn⟩ := exists_add_two_pow (m := m) (k := k) (by simpa using h)
      rw [if_neg Bool.false_ne_true, Nat.add_sub_cancel, bitAt_add_two_pow hn hj]
    · rw [if_pos rfl]
      exact bitAt_add_two_pow (by simpa [bitAt] using h) hj

section
variable {s u : State} {q : Sequence} {st : SeqStep} {line : Nat}

/-! ## Results (R332, R348) -/

theorem State.platEvent_pending (k t : Nat) (data : Bytes) (w : Dict.wf s.part.variant s.dict = true) :
    bitAt ((s.platEvent k t data).numAt Adr.platPending) k = true := by
  unfold State.platEvent
  extract_lets d st a b
  have ha : bitAt (a.numAt Adr.platPending) k = true := by
    rw [show a.numAt Adr.platPending = setBit (s.numAt Adr.platPending) k true from State.numAt_setNum_same _ _ w]
    exact bitAt_setBit _ _
  have hb : b.numAt Adr.platPending = a.numAt Adr.platPending := by
    have hw : State.Within [.ports, .host, .sent] a b := (State.Sound.notifyPorts (State.Sound.refl _ a) rfl).within
    exact State.numAt_congr (hw.part rfl) (hw.dict rfl) _
  have hwb : Dict.wf b.part.variant b.dict = true := by
    have hw : State.Within [.ports, .host, .sent] a b := (State.Sound.notifyPorts (State.Sound.refl _ a) rfl).within
    rw [hw.part rfl, hw.dict rfl]
    exact Dict.wf_set _ _ w
  clear_value a b
  split
  · rw [hb]
    exact ha
  · rename_i m _
    extract_lets c
    have hc : c.numAt Adr.platPending = b.numAt Adr.platPending := by
      unfold c
      split
      · exact congrArg Val.toNat (State.valAt_bump_other hwb (by decide) (by decide))
      · rfl
    have hm : ∀ f, (c.setMailbox m f).numAt Adr.platPending = c.numAt Adr.platPending := fun f => State.numAt_congr rfl rfl _
    rw [hm, hc, hb]
    exact ha

theorem seqResult_result (s : State) (k result step line duration : Nat) :
    field (s.seqResult k result step line duration) 1 1 = result % 256 := by
  unfold State.seqResult
  simp [field, slice, leBytes, leNat, byteOf]

theorem State.reportSeq_plat (k result step line duration t : Nat) : (s.reportSeq k result step line duration t).plat = s.plat := by
  unfold State.reportSeq
  extract_lets b
  rw [(State.platEvent_within _ t 2 b).plat rfl]
  rfl

/-- SEQ_LAST_RESULT of the eight sequences is apart from PLAT_PENDING and the counters. -/
theorem seqLastResult_apart : ∀ k < 8, Adr.seqLastResult k ∉ pendingRows ∧ Adr.seqLastResult k ≠ Adr.seqFailures := by decide

theorem State.reportSeq_rows {k : Nat} (hk : k < 8) (result step line duration t : Nat)
    (w : Dict.wf s.part.variant s.dict = true) :
    (s.reportSeq k result step line duration t).bytesAt (Adr.seqLastResult k) = s.seqResult k result step line duration ∧
      bitAt ((s.reportSeq k result step line duration t).numAt Adr.platPending) 2 = true ∧
      (s.reportSeq k result step line duration t).numAt Adr.seqFailures = s.numAt Adr.seqFailures := by
  obtain ⟨hp, hf⟩ := seqLastResult_apart k hk
  unfold State.reportSeq
  extract_lets b
  have hw : Dict.wf (s.setVal (Adr.seqLastResult k) (.bytes b)).part.variant (s.setVal (Adr.seqLastResult k) (.bytes b)).dict =
      true := Dict.wf_set _ _ w
  have hev := State.platEvent_writesPending (s.setVal (Adr.seqLastResult k) (.bytes b)) t 2 b
  refine ⟨?_, State.platEvent_pending 2 t b hw, ?_⟩
  · rw [hev.bytesAt hw hp]
    exact congrArg Val.toBytes (State.valAt_setVal_same _ _ w)
  · rw [hev.numAt hw (by decide)]
    exact congrArg Val.toNat (State.valAt_setVal_other _ w hf.symm)

/-! ## The end of a sequence (R332) -/

/-- The state in which a sequence has ended, before its result is written: a failure is counted. -/
def State.seqOver (s : State) (result : Nat) : State :=
  let v := s.setPlat (fun x => { x with sequence := none })
  if result == 1 || result == 2 then v.bump Adr.seqFailures else v

theorem State.seqOver_plat (result : Nat) : (s.seqOver result).plat = { s.plat with sequence := none } := by
  unfold State.seqOver
  extract_lets v
  split
  · rw [State.bump_plat]
    rfl
  · rfl

theorem State.seqOver_wf (result : Nat) (w : Dict.wf s.part.variant s.dict = true) :
    Dict.wf (s.seqOver result).part.variant (s.seqOver result).dict = true := by
  unfold State.seqOver
  extract_lets v
  split
  · exact State.bump_wf _ w
  · exact w

theorem State.seqOver_failures (result : Nat) (w : Dict.wf s.part.variant s.dict = true) :
    (s.seqOver result).numAt Adr.seqFailures =
      if result = 1 ∨ result = 2 then (s.numAt Adr.seqFailures + 1) % 2 ^ 64 else s.numAt Adr.seqFailures := by
  unfold State.seqOver
  extract_lets v
  have hv : v.numAt Adr.seqFailures = s.numAt Adr.seqFailures := State.numAt_congr rfl rfl _
  by_cases h : result = 1 ∨ result = 2
  · rw [if_pos (by simpa using h), if_pos h, State.numAt_bump_same (s := v) w (wrapFlagOf_ne _), hv]
  · rw [if_neg (by simpa using h), if_neg h, hv]

theorem State.endSequence_some (hq : s.plat.sequence = some q) (result line t : Nat) : s.endSequence result line t =
    (s.seqOver result).reportSeq q.s result q.step line ((t - q.startAt) / 1000) t := by
  unfold State.endSequence
  rw [hq]
  rfl

/-- What the end of sequence `q` leaves: its result with the levels, and nothing else of the platform. -/
structure State.SeqEnded (s : State) (q : Sequence) (result line t : Nat) (y : State) : Prop where
  plat : y.plat = { s.plat with sequence := none }
  pending : bitAt (y.numAt Adr.platPending) 2 = true
  written : y.bytesAt (Adr.seqLastResult q.s) = s.seqResult q.s result q.step line ((t - q.startAt) / 1000)
  failures : y.numAt Adr.seqFailures =
    if result = 1 ∨ result = 2 then (s.numAt Adr.seqFailures + 1) % 2 ^ 64 else s.numAt Adr.seqFailures

theorem State.endSequence_ends (hq : s.plat.sequence = some q) (hk : q.s < 8) (w : Dict.wf s.part.variant s.dict = true)
    (result line t : Nat) : State.SeqEnded s q result line t (s.endSequence result line t) := by
  rw [State.endSequence_some hq]
  obtain ⟨hbytes, hpending, hfailures⟩ := State.reportSeq_rows hk result q.step line ((t - q.startAt) / 1000) t
    (State.seqOver_wf result w)
  refine ⟨?_, hpending, ?_, hfailures.trans (State.seqOver_failures result w)⟩
  · rw [State.reportSeq_plat, State.seqOver_plat]
  · rw [hbytes, State.seqResult, State.seqOver_plat]
    rfl

/-! ## The next step (R328, R331) -/

theorem State.script_congr (hp : u.part = s.part) (hd : u.dict = s.dict) (k : Nat) : u.script k = s.script k := by
  rw [State.script, State.bytesAt, State.valAt_congr hp hd, State.script, State.bytesAt]

/-- A step of `q` has ended at `t`: the platform keeps its levels and armed lines, and `q` goes on or is over. -/
structure State.GoesOn (s : State) (q : Sequence) (steps t : Nat) (y : State) : Prop where
  plat : y.plat = { s.plat with sequence := y.plat.sequence }
  next : q.step + 1 < steps → y.plat.sequence = some { q with step := q.step + 1, stepAt := t, begun := false }
  last : steps ≤ q.step + 1 → y.plat.sequence = none ∧ field (y.bytesAt (Adr.seqLastResult q.s)) 1 1 = 0 ∧
    bitAt (y.numAt Adr.platPending) 2 = true

theorem State.nextStep_goesOn (hq : s.plat.sequence = some q) (hk : q.s < 8) (w : Dict.wf s.part.variant s.dict = true)
    (t : Nat) : State.GoesOn s q (s.script q.s).length t (s.nextStep t) := by
  unfold State.nextStep
  rw [hq]
  dsimp only
  split
  · rename_i hlt
    exact ⟨rfl, fun _ => rfl, fun hle => absurd hlt (by omega)⟩
  · rename_i hge
    have hend := State.endSequence_ends hq hk w 0 255 t
    refine ⟨by rw [hend.plat], fun hlt => absurd hlt hge, fun _ => ⟨by rw [hend.plat], ?_, hend.pending⟩⟩
    rw [hend.written, seqResult_result]

/-! ## The steps (R331) -/

theorem State.atStep_some {op : Nat} {begun : Bool} (h : s.atStep op begun = some (q, st)) : s.plat.sequence = some q := by
  unfold State.atStep at h
  split at h
  · exact absurd h (Option.some_ne_none _).symm
  · rename_i q' hq
    split at h
    · exact absurd h (Option.some_ne_none _).symm
    · split at h
      · obtain ⟨rfl, rfl⟩ := Prod.mk.inj (Option.some.inj h)
        exact hq
      · exact absurd h (Option.some_ne_none _).symm

/-- A step has one operation. -/
theorem State.atStep_none {op op' : Nat} {begun : Bool} (h : s.atStep op begun = some (q, st)) (hne : op' ≠ op) :
    s.atStep op' begun = none := by
  unfold State.atStep at h ⊢
  split at h
  · exact absurd h (Option.some_ne_none _).symm
  · rename_i q' hq
    split at h
    · exact absurd h (Option.some_ne_none _).symm
    · rename_i x hx
      split at h
      · rename_i hop
        have hx3 : x.op = op := by
          simp only [Bool.and_eq_true, beq_iff_eq] at hop
          exact hop.1.2
        simp only [hx3, beq_false_of_ne hne.symm, Bool.and_false, Bool.false_and, Bool.false_eq_true, if_false]
      · exact absurd h (Option.some_ne_none _).symm

/-- `u` holds the present step of the sequence as `s` does, with the settings. -/
structure State.SameStep (s : State) (q : Sequence) (u : State) : Prop where
  part : u.part = s.part
  dict : u.dict = s.dict
  sequence : u.plat.sequence = some q

theorem State.SameStep.refl (h : s.plat.sequence = some q) : State.SameStep s q s := ⟨rfl, rfl, h⟩

theorem State.SameStep.advance (h : State.SameStep s q u) (t : Nat) : State.SameStep s q (u.advance t) :=
  have hw := u.advance_within t
  ⟨(hw.part rfl).trans h.part, (hw.dict rfl).trans h.dict, (congrArg Platform.sequence (hw.plat rfl)).trans h.sequence⟩

theorem State.SameStep.armLine (h : State.SameStep s q u) (line : Nat) : State.SameStep s q (u.armLine line) := by
  unfold State.armLine
  split
  · exact ⟨h.part, h.dict, h.sequence⟩
  · exact h

theorem State.SameStep.nextStep (h : State.SameStep s q u) (hk : q.s < 8) (w : Dict.wf s.part.variant s.dict = true) (t : Nat) :
    State.GoesOn u q (s.script q.s).length t (u.nextStep t) := by
  have hs := State.nextStep_goesOn h.sequence hk (by rw [h.part, h.dict]; exact w) t
  rw [State.script_congr h.part h.dict] at hs
  exact hs

theorem State.plat_advance (s : State) (t : Nat) : (s.advance t).plat = s.plat := (s.advance_within t).plat rfl

theorem State.armLine_levels (s : State) (line : Nat) : (s.armLine line).plat.enState = s.plat.enState ∧
    (s.armLine line).plat.pgState = s.plat.pgState := by
  unfold State.armLine
  split
  · exact ⟨rfl, rfl⟩
  · exact ⟨rfl, rfl⟩

theorem State.armLine_armed (h : bitAt (s.numAt Adr.pgWatchMask) line = true) : bitAt (s.armLine line).plat.armed line = true := by
  unfold State.armLine
  rw [if_pos h]
  exact bitAt_setBit _ _

theorem State.GoesOn.levels {y : State} {steps t en pg : Nat} (h : State.GoesOn u q steps t y) (he : u.plat.enState = en)
    (hp : u.plat.pgState = pg) : y.plat.enState = en ∧ y.plat.pgState = pg ∧
      (q.step + 1 < steps → y.plat.sequence = some { q with step := q.step + 1, stepAt := t, begun := false }) ∧
      (steps ≤ q.step + 1 → y.plat.sequence = none ∧ field (y.bytesAt (Adr.seqLastResult q.s)) 1 1 = 0 ∧
        bitAt (y.numAt Adr.platPending) 2 = true) :=
  ⟨by rw [h.plat]; exact he, by rw [h.plat]; exact hp, h.next, h.last⟩

theorem State.GoesOn.armed {y : State} {steps t : Nat} (h : State.GoesOn u q steps t y) : y.plat.armed = u.plat.armed := by
  rw [h.plat]

/-- The state in which a line that a step has found at 1 is armed where it is watched. -/
def State.found (s : State) (q : Sequence) (st : SeqStep) (high : Bool) : State :=
  if high then (s.advance q.stepAt).armLine st.line else s.advance q.stepAt

theorem State.found_sameStep (h : s.plat.sequence = some q) (high : Bool) : State.SameStep s q (s.found q st high) := by
  cases high
  · exact (State.SameStep.refl h).advance _
  · exact ((State.SameStep.refl h).advance _).armLine _

theorem State.found_levels (s : State) (q : Sequence) (st : SeqStep) (high : Bool) :
    (s.found q st high).plat.enState = s.plat.enState ∧ (s.found q st high).plat.pgState = s.plat.pgState := by
  cases high
  · exact ⟨congrArg Platform.enState (s.plat_advance _), congrArg Platform.pgState (s.plat_advance _)⟩
  · obtain ⟨he, hp⟩ := (s.advance q.stepAt).armLine_levels st.line
    exact ⟨he.trans (congrArg Platform.enState (s.plat_advance _)), hp.trans (congrArg Platform.pgState (s.plat_advance _))⟩

theorem State.found_armed (h : bitAt (s.numAt Adr.pgWatchMask) st.line = true) :
    bitAt (s.found q st true).plat.armed st.line = true :=
  State.armLine_armed (by rw [State.numAt_advance]; exact h)

section
variable {op : Nat} {high on : Bool}

theorem State.enableStep_eq (h : s.atStep op false = some (q, st)) : s.enableStep op on =
    (((s.advance q.stepAt).setPlat (fun y => { y with enState := setBit y.enState st.line on })).advance
      (q.stepAt + 1000)).nextStep (q.stepAt + 1000) := by
  unfold State.enableStep
  rw [h]

theorem State.enableStep_goesOn (h : s.atStep op false = some (q, st)) (hk : q.s < 8)
    (w : Dict.wf s.part.variant s.dict = true) : ∃ u : State, u.plat.enState = setBit s.plat.enState st.line on ∧
      u.plat.pgState = s.plat.pgState ∧ State.GoesOn u q (s.script q.s).length (q.stepAt + 1000) (s.enableStep op on) := by
  have hs := (State.SameStep.refl (State.atStep_some h)).advance q.stepAt
  have hset : State.SameStep s q ((s.advance q.stepAt).setPlat (fun y => { y with enState := setBit y.enState st.line on })) :=
    ⟨hs.part, hs.dict, hs.sequence⟩
  rw [State.enableStep_eq h]
  refine ⟨_, ?_, ?_, (hset.advance _).nextStep hk w _⟩
  · rw [State.plat_advance, State.setPlat_plat, State.plat_advance]
  · rw [State.plat_advance, State.setPlat_plat, State.plat_advance]

theorem State.waitStep_meets (h : s.atStep op false = some (q, st)) (hp : bitAt s.plat.pgState st.line = high) :
    s.waitStep op high = (s.found q st high).nextStep q.stepAt := by
  unfold State.waitStep
  rw [h]
  dsimp only
  rw [State.plat_advance, hp, if_pos (beq_self_eq_true high)]
  rfl

theorem State.waitStep_waits (h : s.atStep op false = some (q, st)) (hp : bitAt s.plat.pgState st.line = !high) :
    s.waitStep op high = (s.advance q.stepAt).setPlat (fun y => { y with sequence := some { q with begun := true } }) := by
  unfold State.waitStep
  rw [h]
  dsimp only
  rw [State.plat_advance, hp, if_neg (by cases high <;> decide)]

theorem State.requireStep_meets (h : s.atStep op false = some (q, st)) (hp : bitAt s.plat.pgState st.line = high) :
    s.requireStep op high = ((s.found q st high).advance (q.stepAt + 1000)).nextStep (q.stepAt + 1000) := by
  unfold State.requireStep
  rw [h]
  dsimp only
  rw [State.plat_advance, hp, if_pos (beq_self_eq_true high)]
  rfl

theorem State.requireStep_fails (h : s.atStep op false = some (q, st)) (hp : bitAt s.plat.pgState st.line = !high) :
    s.requireStep op high = (s.advance q.stepAt).endSequence 2 st.line q.stepAt := by
  unfold State.requireStep
  rw [h]
  dsimp only
  rw [State.plat_advance, hp, if_neg (by cases high <;> decide)]

theorem State.waitStep_goesOn (h : s.atStep op false = some (q, st)) (hp : bitAt s.plat.pgState st.line = high) (hk : q.s < 8)
    (w : Dict.wf s.part.variant s.dict = true) :
    State.GoesOn (s.found q st high) q (s.script q.s).length q.stepAt (s.waitStep op high) := by
  rw [State.waitStep_meets h hp]
  exact (State.found_sameStep (State.atStep_some h) high).nextStep hk w _

theorem State.requireStep_goesOn (h : s.atStep op false = some (q, st)) (hp : bitAt s.plat.pgState st.line = high) (hk : q.s < 8)
    (w : Dict.wf s.part.variant s.dict = true) : State.GoesOn ((s.found q st high).advance (q.stepAt + 1000)) q
      (s.script q.s).length (q.stepAt + 1000) (s.requireStep op high) := by
  rw [State.requireStep_meets h hp]
  exact ((State.found_sameStep (State.atStep_some h) high).advance _).nextStep hk w _

theorem doDelay_eq (h : s.atStep 5 false = some (q, st)) :
    doDelay s = (s.advance q.stepAt).setPlat (fun y => { y with sequence := some { q with begun := true } }) := by
  unfold doDelay
  rw [h]

theorem doDelayExpiry_eq (h : s.atStep 5 true = some (q, st)) :
    doDelayExpiry s = (s.advance (q.stepAt + st.arg * 1000)).nextStep (q.stepAt + st.arg * 1000) := by
  unfold doDelayExpiry
  rw [h]

theorem doSeqEnd_eq (h : s.atStep 0 false = some (q, st)) :
    doSeqEnd s = (s.advance q.stepAt).endSequence 0 255 q.stepAt := by
  unfold doSeqEnd
  rw [h]

theorem doWaitTimeout_eq (h : s.atStep 3 true = some (q, st) ∨ s.atStep 4 true = some (q, st)) :
    doWaitTimeout s = (s.advance (q.stepAt + st.arg * 1000)).endSequence 1 st.line (q.stepAt + st.arg * 1000) := by
  unfold doWaitTimeout
  rcases h with h | h
  · rw [h]
    rfl
  · rw [State.atStep_none h (by decide), h]
    rfl

end

/-- The end of a sequence, seen from the state before time went on. -/
theorem State.endSequence_from (hu : State.SameStep s q u) (hp : u.plat = s.plat) (hk : q.s < 8)
    (w : Dict.wf s.part.variant s.dict = true) (result line t : Nat) :
    State.SeqEnded s q result line t (u.endSequence result line t) := by
  have h := State.endSequence_ends hu.sequence hk (by rw [hu.part, hu.dict]; exact w) result line t
  refine ⟨by rw [h.plat, hp], h.pending, ?_, ?_⟩
  · rw [h.written, State.seqResult, hp]
    rfl
  · rw [h.failures, State.numAt_congr hu.part hu.dict]

theorem State.SeqEnded.answered {y : State} {result line t : Nat} (h : State.SeqEnded s q result line t y) (p : Port)
    (route : Route) (service seq a : Nat) :
    State.SeqEnded s q result line t (y.answered p route service seq a 0 []) := by
  refine ⟨?_, ?_, ?_, ?_⟩
  · rw [State.answered_within.plat rfl]
    exact h.plat
  · rw [State.numAt_answered]
    exact h.pending
  · rw [State.bytesAt, State.valAt_congr (State.answered_within.part rfl) (State.answered_within.dict rfl)]
    exact h.written
  · rw [State.numAt_answered]
    exact h.failures

/-! ## The start of a sequence (R330, R335) -/

/-- The lines of some steps are disarmed. -/
theorem disarm_all (xs : List SeqStep) (s : State) :
    let y := xs.foldl (fun s x => s.disarmLine x.line) s
    y.plat.enState = s.plat.enState ∧ (∀ k, bitAt s.plat.armed k = false → bitAt y.plat.armed k = false) ∧
      ∀ x ∈ xs, bitAt y.plat.armed x.line = false := by
  induction xs generalizing s with
  | nil => exact ⟨rfl, fun _ h => h, fun x hx => absurd hx (List.not_mem_nil)⟩
  | cons x xs ih =>
    obtain ⟨he, hk, hx⟩ := ih (s.disarmLine x.line)
    have hline : bitAt (s.disarmLine x.line).plat.armed x.line = false := bitAt_setBit_clear _ _
    refine ⟨he, fun k h => hk k ?_, fun y hy => ?_⟩
    · by_cases hkx : k = x.line
      · rw [hkx]
        exact hline
      · exact (bitAt_setBit_other _ _ hkx).trans h
    · rcases List.mem_cons.mp hy with rfl | hy
      · exact hk _ hline
      · exact hx y hy

theorem exec_seqRun {r : Req} (h : s.grants r Adr.seqRun) : exec (.seqRun r) s =
    .next (((s.heard r.t r.port r.sender).startSequence (writeValue Adr.seqRun r.payload).toNat
      (s.heard r.t r.port r.sender).tick.now).answered r.port ((s.heard r.t r.port r.sender).routeOf r.port r.sender) 2 r.seq
        Adr.seqRun 0 []) := by
  show Host.Outcome.next (s.writeRow r Adr.seqRun) = _
  rw [State.writeRow_command h (by decide) rfl]

theorem exec_seqAbort {r : Req} (h : s.grants r Adr.seqAbort) : exec (.seqAbort r) s =
    .next (((s.heard r.t r.port r.sender).endSequence 3 255 (s.heard r.t r.port r.sender).tick.now).answered r.port
      ((s.heard r.t r.port r.sender).routeOf r.port r.sender) 2 r.seq Adr.seqAbort 0 []) := by
  show Host.Outcome.next (s.writeRow r Adr.seqAbort) = _
  rw [State.writeRow_command h (by decide) rfl]

/-- The steps of a script that expect their line low. -/
def State.lowSteps (s : State) (k : Nat) : List SeqStep := (s.script k).filter (fun x => x.op == 4 || x.op == 7)

theorem State.startSequence_eq (s : State) (k t : Nat) : s.startSequence k t =
    (((s.lowSteps k).foldl (fun s x => s.disarmLine x.line) (s.takeFree 10001).2).bump Adr.seqRuns).setPlat (fun x => { x with
      sequence := some ⟨k, 0, t + (s.takeFree 10001).1, t + (s.takeFree 10001).1, false⟩ }) := rfl

theorem State.takeFree_le (s : State) : (s.takeFree 10001).1 ≤ 10000 :=
  Nat.le_of_lt_succ (Nat.mod_lt _ (by decide))

theorem State.startSequence_starts (s : State) (k t : Nat) : (s.startSequence k t).plat.enState = s.plat.enState ∧
    (∃ d, d ≤ 10000 ∧ (s.startSequence k t).plat.sequence =
      some { s := k, step := 0, stepAt := t + d, startAt := t + d, begun := false }) ∧
    ∀ st ∈ s.script k, st.op = 4 ∨ st.op = 7 → bitAt (s.startSequence k t).plat.armed st.line = false := by
  obtain ⟨he, -, hlow⟩ := disarm_all (s.lowSteps k) (s.takeFree 10001).2
  rw [State.startSequence_eq]
  generalize (s.lowSteps k).foldl (fun s x => s.disarmLine x.line) (s.takeFree 10001).2 = v at he hlow ⊢
  rw [State.setPlat_plat, State.bump_plat]
  refine ⟨he, ⟨_, s.takeFree_le, rfl⟩, fun st hst hop => hlow st (List.mem_filter.mpr ⟨hst, ?_⟩)⟩
  simpa using hop

end

/-- Settles O52: each step by its equation, each end by what it leaves. -/
theorem sequencesFollowScripts : Obligations.SequencesFollowScripts := by
  unfold Obligations.SequencesFollowScripts
  refine ⟨?_, ?_⟩
  · intro s q st hinv hk goesOn armed en pg t0 t1 waiting
    have hfound : ∀ high, (s.found q st high).plat.enState = en ∧ (s.found q st high).plat.pgState = pg := fun high =>
      s.found_levels q st high
    refine ⟨fun h => ⟨_, rfl, ?_⟩, fun h => ⟨_, rfl, ?_⟩, fun h => ⟨fun hp => ⟨_, rfl, ?_, ?_⟩, fun hp => ?_⟩,
      fun h => ⟨fun hp => ⟨_, rfl, ?_⟩, fun hp => ?_⟩, fun h => congrArg Host.Outcome.next (doDelay_eq h), fun h => ⟨_, rfl, ?_⟩,
      fun h hp => ⟨_, rfl, ?_, ?_⟩, fun h hp => ⟨_, rfl, ?_⟩⟩
    · obtain ⟨u, he, hpg, hgoes⟩ := State.enableStep_goesOn (on := true) h hk hinv.wf
      exact hgoes.levels he hpg
    · obtain ⟨u, he, hpg, hgoes⟩ := State.enableStep_goesOn (on := false) h hk hinv.wf
      exact hgoes.levels he hpg
    · exact (State.waitStep_goesOn (high := true) h hp hk hinv.wf).levels (hfound true).1 (hfound true).2
    · intro hm
      rw [show (doWaitPgHigh s).plat.armed = _ from (State.waitStep_goesOn (high := true) h hp hk hinv.wf).armed]
      exact State.found_armed hm
    · exact congrArg Host.Outcome.next (State.waitStep_waits (high := true) h hp)
    · exact (State.waitStep_goesOn (high := false) h hp hk hinv.wf).levels (hfound false).1 (hfound false).2
    · exact congrArg Host.Outcome.next (State.waitStep_waits (high := false) h hp)
    · rw [doDelayExpiry_eq h]
      exact (((State.SameStep.refl (State.atStep_some h)).advance _).nextStep hk hinv.wf _).levels
        (congrArg Platform.enState (s.plat_advance _)) (congrArg Platform.pgState (s.plat_advance _))
    · refine (State.requireStep_goesOn (high := true) h hp hk hinv.wf).levels ?_ ?_
      · rw [State.plat_advance]
        exact (hfound true).1
      · rw [State.plat_advance]
        exact (hfound true).2
    · intro hm
      rw [show (doRequirePgHigh s).plat.armed = _ from (State.requireStep_goesOn (high := true) h hp hk hinv.wf).armed,
        State.plat_advance]
      exact State.found_armed hm
    · refine (State.requireStep_goesOn (high := false) h hp hk hinv.wf).levels ?_ ?_
      · rw [State.plat_advance]
        exact (hfound false).1
      · rw [State.plat_advance]
        exact (hfound false).2
  · intro s q hinv hk ended
    have hended : ∀ {u y result line t}, State.SeqEnded u q result line t y → ended u y result line t := fun h =>
      ⟨by rw [h.plat], by rw [h.plat], h.pending, h.written, h.failures⟩
    have hpast : ∀ {st : SeqStep} {op begun} (t result line t'), s.atStep op begun = some (q, st) →
        State.SeqEnded s q result line t' ((s.advance t).endSequence result line t') := fun t result line t' h =>
      State.endSequence_from ((State.SameStep.refl (State.atStep_some h)).advance t) (s.plat_advance t) hk hinv.wf _ _ _
    refine ⟨?_, ?_, fun st h => ⟨_, rfl, ?_⟩, fun st h hp => ⟨_, rfl, ?_⟩, fun st h hp => ⟨_, rfl, ?_⟩, fun st h => ⟨_, rfl, ?_⟩⟩
    · intro r h k hg
      refine ⟨_, exec_seqRun hg, ?_⟩
      rw [State.answered_within.plat rfl]
      exact h.startSequence_starts k h.tick.now
    · intro r h hg hq
      exact ⟨_, exec_seqAbort hg, hended
        ((State.endSequence_ends hq hk (State.heard_inv hinv).wf 3 255 h.tick.now).answered _ _ _ _ _)⟩
    · rw [doSeqEnd_eq h]
      exact hended (hpast _ _ _ _ h)
    · rw [show doRequirePgHigh s = _ from State.requireStep_fails (high := true) h hp]
      exact hended (hpast _ _ _ _ h)
    · rw [show doRequirePgLow s = _ from State.requireStep_fails (high := false) h hp]
      exact hended (hpast _ _ _ _ h)
    · rw [doWaitTimeout_eq h]
      rcases h with h | h
      · exact hended (hpast _ _ _ _ h)
      · exact hended (hpast _ _ _ _ h)

end Sys2Proof.Machine

/-! PROOFS of the statement about DORMANT and wake (O58). -/

namespace Sys2Proof.Machine

/-! ## What the entry into DORMANT stops (R361) -/

/-- Where the entry into DORMANT writes the register file. -/
def dormantRows : List Nat := Adr.gptpStatus :: withFlags ([0, 1, 2, 3].map Adr.transfersDiscarded)

theorem dormantRows_volatile (v : Variant) : ∀ a ∈ dormantRows, nvmAt v a = false := by
  cases v <;> decide +kernel

section
variable {s x : State}

/-- The parts of the tick generator apart from device time and the counts of a tick. -/
theorem State.Within.generator {m : List Field} (h : State.Within m s x) (hm : m.contains .tick = false) :
    x.tick.gen = s.tick.gen ∧ x.tick.next = s.tick.next ∧ x.tick.realignAt = s.tick.realignAt :=
  ⟨by rw [h.tick hm]; rfl, by rw [h.tick hm]; rfl, by rw [h.tick hm]; rfl⟩

theorem State.discardTransfer_writesIn (s : State) (p : Port) (code : Nat) :
    State.WritesIn (· ∈ dormantRows) s (s.discardTransfer p code) := by
  unfold State.discardTransfer
  refine .ite (State.WritesIn.after (State.WritesIn.bump (a := Adr.transfersDiscarded p.idx) ?_ ?_ _) rfl rfl) (.refl s)
  · cases p <;> decide
  · cases p <;> decide

theorem State.dropOwner_writesIn (s : State) (cause : Nat) : State.WritesIn (· ∈ dormantRows) s (s.dropOwner cause) := by
  unfold State.dropOwner
  extract_lets x
  have hx : State.WritesIn (· ∈ dormantRows) s x := by
    unfold x
    split
    · exact s.discardTransfer_writesIn _ _
    · exact .refl s
  exact hx.trans (.of_same rfl rfl)

/-- Whether an owner leaves or there is none, ownership is vacant. -/
def State.vacated (s : State) : State :=
  if s.own.owner.isSome then s.vacate 0 allPorts else s.dropOwner s.own.vacancyCause

theorem State.vacate_owner (s : State) (cause : Nat) (ports : List Port) : (s.vacate cause ports).own = (s.dropOwner cause).own :=
  (State.Sound.notifyPorts (State.Sound.refl [.ports, .host, .sent] (s.dropOwner cause)) rfl).within.own rfl

theorem State.vacated_owner (s : State) : s.vacated.own.owner = none := by
  unfold State.vacated
  split
  · rw [State.vacate_owner]
    rfl
  · rfl

theorem State.vacated_writesIn (s : State) : State.WritesIn (· ∈ dormantRows) s s.vacated := by
  refine .ite ((s.dropOwner_writesIn 0).trans ?_) (s.dropOwner_writesIn _)
  exact .of_within (State.Sound.notifyPorts (State.Sound.refl [.ports, .host, .sent] _) rfl).within

theorem State.vacated_within (s : State) : State.Within [.dict, .own, .ports, .host, .sent] s s.vacated :=
  (State.Sound.ite (State.Sound.vacate (State.Sound.refl _ s) rfl) (State.Sound.dropOwner (State.Sound.refl _ s) rfl)).within

theorem State.forgetResponses_writesIn (s : State) (p : Port) : State.WritesIn (· ∈ dormantRows) s (s.forgetResponses p) :=
  .of_within (State.Sound.forgetResponses (State.Sound.refl [.ports, .mem] s) rfl).within

theorem State.stopPorts_writesIn (s : State) : State.WritesIn (· ∈ dormantRows) s s.stopPorts :=
  .foldl (fun u p => (u.discardTransfer_writesIn p _).trans (State.forgetResponses_writesIn _ p)) allPorts s

theorem State.stopPorts_within (s : State) : State.Within [.dict, .ports, .mem] s s.stopPorts :=
  (State.Sound.stopPorts (State.Sound.refl _ s) rfl).within

theorem State.resetPortH_writesIn (s : State) : State.WritesIn (· ∈ dormantRows) s s.resetPortH :=
  ((s.discardTransfer_writesIn .H _).trans (State.forgetResponses_writesIn _ .H)).trans (.of_same rfl rfl)

theorem State.hostOff_writesIn (s : State) : State.WritesIn (· ∈ dormantRows) s s.hostOff := by
  unfold State.hostOff
  extract_lets a b
  have ha : State.WritesIn (· ∈ dormantRows) s a := .of_within (State.Sound.setHost (State.Sound.resetFunction
    (State.Sound.resetLinked (State.Sound.refl [.queues, .mem, .host] s) rfl) rfl) (by simp) rfl).within
  have hb : State.WritesIn (· ∈ dormantRows) a b := a.resetPortH_writesIn.trans (.of_same rfl rfl)
  exact (ha.trans hb).trans (.of_same rfl rfl)

theorem State.hostOff_within (s : State) : State.Within [.dict, .ports, .queues, .mem, .host, .bin] s s.hostOff :=
  (State.Sound.hostOff (State.Sound.refl _ s) rfl).within

theorem State.stopTouch_within (s : State) : State.Within [.panels] s s.stopTouch :=
  (State.Sound.stopTouch (State.Sound.refl _ s) rfl).within

/-- R323: in DORMANT panel `p` is off and holds no report. -/
def State.panelOff (s : State) (p : Nat) : State := (s.stopPanel p).setPanel p (fun x => { x with reports := [] })

theorem State.panelOff_panel {s : State} {p : Nat} (h : p < s.panels.length) :
    ((s.panelOff p).panelAt p).state = .off ∧ ((s.panelOff p).panelAt p).reports = [] := by
  have hp : p < (s.stopPanel p).panels.length := by simpa [State.stopPanel] using h
  rw [State.panelOff, State.panelAt_setPanel _ _ _ hp, State.stopPanel, State.panelAt_setPanel _ _ _ h]
  exact ⟨rfl, rfl⟩

theorem State.panelOff_other {s : State} {p q : Nat} (h : q ≠ p) : (s.panelOff p).panelAt q = s.panelAt q :=
  (nth_modifyAt_other _ _ h).trans (nth_modifyAt_other _ _ h)

theorem State.panelOff_length (s : State) (p : Nat) : (s.panelOff p).panels.length = s.panels.length := by
  simp [State.panelOff, State.stopPanel]

/-- R323: after the first `n` panels, these are off and hold no report. -/
theorem State.stopTouch_upto (h : s.panels.length = 4) : ∀ n ≤ 4,
    let x := (List.range n).foldl State.panelOff s
    x.panels.length = 4 ∧ ∀ p < n, (x.panelAt p).state = .off ∧ (x.panelAt p).reports = [] := by
  intro n
  induction n with
  | zero => exact fun _ => ⟨h, fun p hp => absurd hp p.not_lt_zero⟩
  | succ n ih =>
    intro hn x
    obtain ⟨hlen, hoff⟩ := ih (by omega)
    have hx : x = ((List.range n).foldl State.panelOff s).panelOff n := by
      simp only [x, List.range_succ, List.foldl_append, List.foldl_cons, List.foldl_nil]
    rw [hx]
    refine ⟨(State.panelOff_length _ n).trans hlen, fun p hp => ?_⟩
    by_cases hpn : p = n
    · subst hpn
      exact State.panelOff_panel (by omega)
    · rw [State.panelOff_other hpn]
      exact hoff p (by omega)

theorem State.stopTouch_panels (h : s.panels.length = 4) : ∀ p < 4, (s.stopTouch.panelAt p).state = .off ∧
    (s.stopTouch.panelAt p).reports = [] := (State.stopTouch_upto h 4 (le_refl 4)).2

end

/-! ## The entry in steps -/

/-- The entry of the subsystems that are unpowered: the key FIFO and the touch reports go, sampling and the tick stop, and
the HOST and BIN domains lose their state. -/
def State.unpowered (x : State) : State :=
  let y := (x.setKeys (fun k => { k with fifo := [] })).stopTouch
  ({ y with plat := y.plat.stopSampling, ingest := y.ingest.dormant }).haltGenerator.hostOff

/-- With a port selected, GPTP_STATUS becomes acquiring and the run of Syncs starts again (log 16). -/
def State.reacquired (x : State) : State :=
  if x.numAt Adr.timeSource == 0 then x
  else (x.setNum Adr.gptpStatus 1).setTick (fun k => { k with gptp := { k.gptp with syncs := 0 } })

/-- DORMANT is the power state; a wake command that waits begins the way back. -/
def State.asleep (x : State) : State :=
  x.setPower (fun p => { p with
    state := .dormant, target := if x.power.wakePending == 0 then none else some .standby,
    cause := if x.power.wakePending == 0 then 0 else 1,
    stepAt := x.tick.now, dormantAt := x.tick.now, wakePending := 0, wakeCause := x.power.wakePending })

theorem doStandbyToDormant_eq {s : State} {t : Nat} (h : (s.advance t).goesDown .standby = true) :
    doStandbyToDormant t s = (((s.advance t).reportPower .dormant .standby 0 0
      (s.advance t).stepTime).vacated.stopPorts.unpowered.reacquired).asleep := by
  unfold doStandbyToDormant
  extract_lets u x2 x3 x4 x5 x6 x7 wake
  have h3 : x3 = x2.vacated := rfl
  have h6 : x6 = x4.unpowered := rfl
  have h7 : x7 = x6.reacquired := rfl
  have hn : ¬ (!(u.goesDown .standby)) = true := by simp [u, h]
  rw [if_neg hn]
  show State.asleep x7 = _
  rw [h7, h6, show x4 = x3.stopPorts from rfl, h3]

section
variable (x : State)

theorem State.unpowered_writesIn : State.WritesIn (· ∈ dormantRows) x x.unpowered :=
  (State.hostOff_writesIn _).after (State.stopTouch_within _ |>.part rfl) (State.stopTouch_within _ |>.dict rfl)

theorem State.unpowered_within : State.Within [.dict, .ports, .queues, .mem, .host, .bin, .panels, .keys, .plat, .ingest,
    .tick] x x.unpowered :=
  (State.Sound.hostOff (State.Sound.haltGenerator (State.Sound.dormantParts (State.Sound.stopTouch
    (State.Sound.setKeys (State.Sound.refl _ x) rfl rfl) rfl) rfl) rfl) rfl).within

/-- What the unpowered subsystems read as. -/
structure State.Unpowered (x y : State) : Prop where
  gen : y.tick.gen = .halted
  next : y.tick.next = none
  realignAt : y.tick.realignAt = []
  fifo : y.keys.fifo = []
  trip : y.plat.trip = false
  enables : y.plat.enState = x.plat.enState
  safety : y.bin.state = .starting
  faultN : y.bin.faultN = true
  panels : ∀ p < 4, (y.panelAt p).state = .off ∧ (y.panelAt p).reports = []

theorem State.unpowered_parts (h : x.panels.length = 4) : State.Unpowered x x.unpowered := by
  unfold State.unpowered
  extract_lets y
  have hy : State.Within [.panels] (x.setKeys (fun k => { k with fifo := [] })) y := State.stopTouch_within _
  have hp : ∀ p < 4, (y.panelAt p).state = .off ∧ (y.panelAt p).reports = [] := State.stopTouch_panels h
  clear_value y
  generalize hz : State.haltGenerator { y with plat := y.plat.stopSampling, ingest := y.ingest.dormant } = z
  have hw := z.hostOff_within
  obtain ⟨hg, hn, hr⟩ := hw.generator rfl
  subst hz
  refine ⟨hg, hn, hr, ?_, ?_, ?_, rfl, rfl, ?_⟩
  · exact (congrArg Keys.fifo (hw.keys rfl)).trans (congrArg Keys.fifo (hy.keys rfl))
  · exact congrArg Platform.trip (hw.plat rfl)
  · have hplat : y.plat.enState = x.plat.enState := congrArg Platform.enState (hy.plat rfl)
    exact Eq.trans (congrArg Platform.enState (hw.plat rfl)) hplat
  · intro p hlt
    have hat : ∀ w : State, w.panels = y.panels → (w.panelAt p).state = .off ∧ (w.panelAt p).reports = [] := fun w e => by
      rw [State.panelAt, e]
      exact hp p hlt
    exact hat _ (hw.panels rfl)

theorem State.reacquired_writesIn : State.WritesIn (· ∈ dormantRows) x x.reacquired := by
  unfold State.reacquired
  have h : State.WritesIn (· ∈ dormantRows) x (x.setNum Adr.gptpStatus 1) := .setNum 1 (by decide) x
  exact .ite (.refl x) (h.trans (.of_same rfl rfl))

theorem State.reacquired_within : State.Within [.dict, .tick] x x.reacquired :=
  (State.Sound.ite (State.Sound.refl _ x) (State.Sound.setTick [.tick] (State.Sound.setNum (State.Sound.refl _ x) rfl) rfl rfl
    (Nat.le_refl _))).within

theorem State.reacquired_generator : x.reacquired.tick.gen = x.tick.gen ∧ x.reacquired.tick.next = x.tick.next ∧
    x.reacquired.tick.realignAt = x.tick.realignAt := by
  unfold State.reacquired
  split <;> exact ⟨rfl, rfl, rfl⟩

end

/-! ## The two ways through DORMANT -/

section
variable {s : State} {t : Nat}

/-- R365: of the power control a report writes POWER_LAST_RESULT. -/
theorem State.reportPower_power (x : State) (p q : Power) (cause result d : Nat) :
    (x.reportPower p q cause result d).power = { x.power with
      lastResult := powerBytes p.code q.code cause result d (if cause == 1 then x.power.wakeCause else 0) } := by
  have h (y : State) (v : Nat) (b : Bytes) : State.Within [.ports, .host, .sent] y (y.notify evPowerState v b) :=
    (State.Sound.notify (State.Sound.refl _ y) rfl).within
  exact (h _ _ _).power rfl

/-- The entry up to the state that the subsystems leave. -/
def State.falling (u : State) : State :=
  (u.reportPower .dormant .standby 0 0 u.stepTime).vacated.stopPorts

theorem State.falling_writesIn (u : State) : State.WritesIn (· ∈ dormantRows) u u.falling := by
  have h : State.WritesIn (· ∈ dormantRows) u (u.reportPower .dormant .standby 0 0 u.stepTime) :=
    .of_within (State.Sound.reportPower (State.Sound.refl [.ports, .host, .power, .sent] u) rfl).within
  exact (h.trans (State.vacated_writesIn _)).trans (State.stopPorts_writesIn _)

theorem State.falling_within (u : State) : State.Within [.dict, .own, .ports, .mem, .host, .power, .sent] u u.falling :=
  (State.Sound.stopPorts (State.Sound.ite (State.Sound.vacate (State.Sound.reportPower (State.Sound.refl _ u) rfl) rfl)
    (State.Sound.dropOwner (State.Sound.reportPower (State.Sound.refl _ u) rfl) rfl)) rfl).within

theorem State.falling_owner (u : State) : u.falling.own.owner = none := by
  unfold State.falling
  rw [(State.stopPorts_within _).own rfl]
  exact State.vacated_owner _

/-- A wake command that came meanwhile waits through the entry. -/
theorem State.falling_wakePending (u : State) : u.falling.power.wakePending = u.power.wakePending := by
  unfold State.falling
  rw [(State.stopPorts_within _).power rfl, (State.vacated_within _).power rfl]
  rw [State.reportPower_power]

/-- R361: the entry into DORMANT, but for the wake command that waits. -/
def State.fallen (u : State) : State := u.falling.unpowered.reacquired

theorem State.fallen_writesIn (u : State) : State.WritesIn (· ∈ dormantRows) u u.fallen :=
  (u.falling_writesIn.trans (State.unpowered_writesIn _)).trans (State.reacquired_writesIn _)

theorem State.fallen_wakePending (u : State) : u.fallen.power.wakePending = u.power.wakePending := by
  unfold State.fallen
  rw [(State.reacquired_within _).power rfl, (State.unpowered_within _).power rfl, State.falling_wakePending]

theorem State.fallen_owner (u : State) : u.fallen.own.owner = none := by
  unfold State.fallen
  rw [(State.reacquired_within _).own rfl, (State.unpowered_within _).own rfl, State.falling_owner]

theorem State.fallen_parts (u : State) (h : u.panels.length = 4) : State.Unpowered u u.fallen := by
  have hw := u.falling_within
  obtain ⟨gen, next, realignAt, fifo, trip, enables, safety, faultN, panels⟩ :=
    u.falling.unpowered_parts ((congrArg List.length (hw.panels rfl)).trans h)
  unfold State.fallen
  have hr := State.reacquired_within u.falling.unpowered
  obtain ⟨hg, hn, ha⟩ := State.reacquired_generator u.falling.unpowered
  refine ⟨hg.trans gen, hn.trans next, ha.trans realignAt, ?_, ?_, ?_, ?_, ?_, ?_⟩
  · rw [hr.keys rfl, fifo]
  · rw [hr.plat rfl, trip]
  · rw [hr.plat rfl, enables, hw.plat rfl]
  · rw [hr.bin rfl, safety]
  · rw [hr.bin rfl, faultN]
  · intro p hp
    rw [State.panelAt, hr.panels rfl]
    exact panels p hp

theorem State.fallen_asleep (h : (s.advance t).goesDown .standby = true) :
    doStandbyToDormant t s = (s.advance t).fallen.asleep := doStandbyToDormant_eq h

theorem State.startGenerator_runs (x : State) (n : Nat) : (x.startGenerator n).tick.gen ≠ .halted := by
  unfold State.startGenerator
  extract_lets src search
  show (if src == 0 then Gen.freeRun else .pullIn) ≠ .halted
  split <;> decide

/-- The exit up to the entry into STANDBY: device time passes, a free number is taken, the keys and the tick start. -/
def State.risen (s : State) (k : Nat) : State :=
  let y := (((s.setTick (fun x => { x with now := x.now + k })).takeFree 10001).2).setKeys Keys.restart
  y.startGenerator y.tick.now

theorem doDormantToStandby_eq {n : Nat} (h : s.goesUp .dormant = true) : doDormantToStandby n s =
    ((s.risen (n * 1000000000 / 32768)).enter .standby .dormant 1 0
      ((s.setTick (fun x => { x with now := x.now + n * 1000000000 / 32768 })).takeFree 10001).1).startTouch := by
  unfold doDormantToStandby
  generalize n * 1000000000 / 32768 = k
  have hn : ¬ (!(s.goesUp .dormant)) = true := by simp [h]
  rw [if_neg hn]
  rfl

theorem State.risen_within (s : State) (k : Nat) : State.Within [.tick, .clock, .keys, .free] s (s.risen k) :=
  (State.Sound.startGenerator (State.Sound.setKeys (State.Sound.takeFree (State.Sound.skipTime (State.Sound.refl _ s) rfl)
    rfl) (by simp [Keys.restart]) rfl) rfl).within

theorem State.risen_parts (s : State) (k : Nat) : (s.risen k).tick.now = s.tick.now + k ∧
    (s.risen k).tick.gen ≠ .halted ∧ (s.risen k).keys.fifo = [] := ⟨rfl, State.startGenerator_runs _ _, rfl⟩

/-- R361: the exit from DORMANT, from the state whose keys and tick have started. -/
theorem State.exit_reported (y : State) (d : Nat) : let x := (y.enter .standby .dormant 1 0 d).startTouch
    State.Within [.ports, .host, .power, .sent, .panels] y x ∧ x.power.state = .standby ∧
      x.power.target = (if y.power.target = some .standby then none else y.power.target) ∧
      x.power.lastResult = powerBytes Power.standby.code Power.dormant.code 1 0 d y.power.wakeCause := by
  intro x
  have ht : State.Within [.panels] (y.enter .standby .dormant 1 0 d) x :=
    (State.Sound.startTouch (State.Sound.refl _ _) rfl).within
  have hp : x.power = (y.enter .standby .dormant 1 0 d).power := ht.power rfl
  have he : (y.enter .standby .dormant 1 0 d).power = _ := State.reportPower_power _ _ _ _ _ _
  rw [he] at hp
  refine ⟨(State.Sound.startTouch (State.Sound.enter (State.Sound.refl _ y) rfl) rfl).within, ?_, ?_, ?_⟩
  · rw [hp]
    rfl
  · rw [hp]
    show (if y.power.target == some .standby then none else y.power.target) = _
    simp only [beq_iff_eq]
  · rw [hp]
    rfl

theorem field_powerBytes (p q c r d w : Nat) : let b := powerBytes p q c r d w
    field b 0 1 = p % 256 ∧ field b 1 1 = q % 256 ∧ field b 2 1 = c % 256 ∧ field b 8 1 = w % 256 := by
  simp [powerBytes, field, slice, leBytes, leNat, byteOf]

/-- R361: what the exit leaves. -/
theorem State.exit_effect {n : Nat} (h : s.goesUp .dormant = true) : ∃ x, exec (.dormantToStandby n) s = .next x ∧
    x.power.state = .standby ∧ x.power.target = (if s.power.target = some .standby then none else s.power.target) ∧
    x.tick.now = s.tick.now + n * 1000000000 / 32768 ∧ x.tick.gen ≠ .halted ∧ x.keys.fifo = [] ∧
    x.plat.enState = s.plat.enState ∧ x.staged = s.staged ∧ x.nvm = s.nvm ∧
    field x.power.lastResult 0 1 = 1 ∧ field x.power.lastResult 1 1 = 0 ∧ field x.power.lastResult 2 1 = 1 ∧
    field x.power.lastResult 8 1 = s.power.wakeCause % 256 := by
  refine ⟨_, rfl, ?_⟩
  rw [doDormantToStandby_eq h]
  generalize n * 1000000000 / 32768 = k
  generalize ((s.setTick (fun x => { x with now := x.now + k })).takeFree 10001).1 = d
  have hw := s.risen_within k
  obtain ⟨hnow, hgen, hfifo⟩ := s.risen_parts k
  generalize s.risen k = y at hw hnow hgen hfifo ⊢
  obtain ⟨hx, hstate, htarget, hlast⟩ := y.exit_reported d
  generalize (y.enter .standby .dormant 1 0 d).startTouch = x at hx hstate htarget hlast ⊢
  obtain ⟨h0, h1, h2, h8⟩ := field_powerBytes Power.standby.code Power.dormant.code 1 0 d y.power.wakeCause
  have hpow : y.power = s.power := hw.power rfl
  rw [hpow] at htarget h8 hlast
  rw [hpow] at h0 h1 h2
  refine ⟨hstate, htarget, (hx.clock rfl).1.trans hnow, ?_, ?_, ?_, ?_, ?_, ?_⟩
  · rw [(hx.generator rfl).1]
    exact hgen
  · rw [hx.keys rfl, hfifo]
  · rw [hx.plat rfl, hw.plat rfl]
  · rw [hx.staged rfl, hw.staged rfl]
  · rw [hx.nvm rfl, hw.nvm rfl]
  · rw [hlast]
    exact ⟨h0, h1, h2, h8⟩

theorem wakeTarget (k : Nat) : (if k == 0 then (none : Option Power) else some .standby) =
    if k = 0 then none else some .standby := by simp

/-- R361: what the entry leaves. -/
theorem State.entry_effect (hi : s.Inv) (h : (s.advance t).goesDown .standby = true) : let u := s.advance t
    ∃ x, exec (.standbyToDormant t) s = .next x ∧ x.power.state = .dormant ∧
      x.tick.gen = .halted ∧ x.tick.next = none ∧ x.tick.realignAt = [] ∧ x.own.owner = none ∧ x.keys.fifo = [] ∧
      x.plat.trip = false ∧ x.bin.state = .starting ∧ x.bin.faultN = true ∧
      (∀ p, p < 4 → (x.panelAt p).state = .off ∧ (x.panelAt p).reports = []) ∧
      x.plat.enState = s.plat.enState ∧ x.staged = s.staged ∧ x.nvm = s.nvm ∧ x.log = s.log ∧
      (∀ a, nvmAt s.part.variant a = true → x.valAt a = s.valAt a) ∧
      x.power.target = (if u.power.wakePending = 0 then none else some .standby) ∧
      x.power.wakeCause = u.power.wakePending := by
  intro u
  have hin : State.Within _ s (doStandbyToDormant t s) :=
    (State.Sound.of_doStandbyToDormant (State.Sound.refl [.dict, .tick, .clock, .own, .ports, .ingest, .queues, .mem, .host,
      .bin, .keys, .panels, .plat, .power, .sent] s) rfl).within
  have hu : u.Inv := State.advance_inv hi
  have hadv : State.Within [.clock] s u := s.advance_within t
  obtain ⟨gen, next, realignAt, fifo, trip, enables, safety, faultN, panels⟩ :=
    u.fallen_parts ((State.shaped_iff u).1 hu.2).2.2.2.1
  have hrows := u.fallen_writesIn
  have howner := u.fallen_owner
  have hwake := u.fallen_wakePending
  have heq : doStandbyToDormant t s = u.fallen.asleep := State.fallen_asleep h
  rw [heq] at hin
  generalize u.fallen = y at *
  refine ⟨y.asleep, congrArg Host.Outcome.next heq, rfl, gen, next, realignAt, howner, fifo, trip, safety, faultN, panels,
    enables.trans (congrArg Platform.enState (hadv.plat rfl)), hin.staged rfl, hin.nvm rfl, hin.log rfl, fun a ha => ?_, ?_, hwake⟩
  · have hv : y.asleep.valAt a = y.valAt a := State.valAt_congr rfl rfl a
    rw [hv, hrows.kept hu.1.1 a fun hm => by simp [dormantRows_volatile _ a hm] at ha, State.valAt_advance]
  · show (if y.power.wakePending == 0 then none else some Power.standby) = _
    rw [hwake]
    exact wakeTarget _

/-- What a wake command of bit `k` makes of `u` (R366). -/
structure State.Woken (u x : State) (k : Nat) : Prop where
  off : bitAt (u.numAt Adr.wakeEnable) k = false → x = u
  dormant : bitAt (u.numAt Adr.wakeEnable) k = true → u.power.state = .dormant → x.power.target = some .standby ∧
    bitAt x.power.wakeCause k = true ∧ x.power.state = .dormant ∧ x.keys.wakeRequest = false
  falling : bitAt (u.numAt Adr.wakeEnable) k = true → u.power.state = .standby → u.power.target = some .dormant →
    bitAt x.power.wakePending k = true ∧ x.power.state = .standby ∧ x.power.target = some .dormant
  other : bitAt (u.numAt Adr.wakeEnable) k = true → u.power.state ≠ .dormant → u.power.state ≠ .standby → x = u

theorem State.wakeCommand_woken (u : State) (k : Nat) : State.Woken u (u.wakeCommand k) k where
  off h := by simp [State.wakeCommand, h]
  dormant h hs := by
    have hx : u.wakeCommand k = (u.setPower (fun p => { p with
      wakeCause := setBit p.wakeCause k true, target := some .standby, cause := 1 })).setKeys
      (fun x => { x with wakeRequest := false }) := by simp [State.wakeCommand, h, hs]
    rw [hx]
    exact ⟨rfl, bitAt_setBit _ _, hs, rfl⟩
  falling h hs ht := by
    have hx : u.wakeCommand k = u.setPower (fun p => { p with wakePending := setBit p.wakePending k true }) := by
      simp [State.wakeCommand, h, hs, ht]
    rw [hx]
    exact ⟨bitAt_setBit _ _, hs, ht⟩
  other h hd hs := by simp [State.wakeCommand, h, hd, hs]

/-- R366: WAKE_N and the frame of the node, as the wake commands of bits 0 and 1. -/
theorem State.wakes (s : State) (t : Nat) : let u := s.advance t
    (∀ low, low < 50000 → exec (.wakeN t low) s = .next u) ∧
      (∀ low, 50000 ≤ low → exec (.wakeN t low) s = .next (u.wakeCommand 0)) ∧
      (∀ id, id ≠ u.numAt Adr.canReqBase + u.numAt Adr.canNodeId → exec (.canWakeFrame t id) s = .next u) ∧
      exec (.canWakeFrame t (u.numAt Adr.canReqBase + u.numAt Adr.canNodeId)) s = .next (u.wakeCommand 1) := by
  intro u
  refine ⟨fun low h => congrArg Host.Outcome.next (if_pos h), fun low h => congrArg Host.Outcome.next (if_neg (by omega)),
    fun id h => congrArg Host.Outcome.next (if_neg (by simpa using h)), congrArg Host.Outcome.next (if_pos (beq_self_eq_true _))⟩

end

/-- Settles O58: the entry by what each of its steps leaves, the wake commands by the bit they wake with, the exit by the report
of its step. -/
theorem dormantRetainsAndWakes : Obligations.DormantRetainsAndWakes := by
  unfold Obligations.DormantRetainsAndWakes
  intro s t hi u
  refine ⟨State.entry_effect hi, ?_, fun n => State.exit_effect⟩
  obtain ⟨hshort, hlong, hother, hown⟩ := s.wakes t
  have hwoken (k : Nat) := u.wakeCommand_woken k
  intro woken
  have h (k : Nat) : woken (u.wakeCommand k) k :=
    ⟨(hwoken k).off, fun hb => ⟨(hwoken k).dormant hb, (hwoken k).falling hb, (hwoken k).other hb⟩⟩
  exact ⟨hshort, fun low hl => ⟨_, hlong low hl, h 0⟩, hother, ⟨_, hown, h 1⟩⟩

end Sys2Proof.Machine

/-! PROOFS of the statement about debug access, the TAP and boot images (O60). -/

namespace Sys2Proof.Machine

/-! ## The answer to a debug response (R379) -/

section
variable {s x : State} {b : Bytes}

/-- A response is judged by the challenge, and by DEVICE_ID in what is signed. -/
theorem State.debugOk_congr (hp : x.power.challenge = s.power.challenge) (hd : x.numAt Adr.deviceId = s.numAt Adr.deviceId)
    (b : Bytes) : x.debugOk b = s.debugOk b := by
  simp only [State.debugOk, State.challengeDigest, State.challengeBytes, hp, hd]

/-- R379: after a response the challenge is drawn anew. -/
def State.redrawn (s : State) : State := { s with free := s.free + 1 }.setPower (fun p => { p with challenge := s.free })

/-- R379: the access that a right response gives. -/
def State.unlocked (s : State) : State := s.redrawn.setPower (fun p => { p with debugUnlocked := true })

/-- R379: the failure that a wrong response counts as. -/
def State.failed (s : State) : State := s.redrawn.setPower (fun p => { p with debugFailures := p.debugFailures + 1 })

theorem State.answerDebug_eq (s : State) (b : Bytes) : s.answerDebug b =
    if s.debugOk b then (none, s.unlocked.bump Adr.debugUnlocks) else (some 0x0403, s.failed) := rfl

/-- A right response: access is unlocked and counted. -/
theorem State.unlocked_counted (hw : Dict.wf s.part.variant s.dict = true) : let x := s.unlocked.bump Adr.debugUnlocks
    x.power.debugUnlocked = true ∧ x.power.debugFailures = s.power.debugFailures ∧ x.sent = s.sent ∧
      x.numAt Adr.debugUnlocks = (s.numAt Adr.debugUnlocks + 1) % 2 ^ 64 := by
  intro x
  have hx : State.Within [.dict] s.unlocked x := (State.Sound.bump (State.Sound.refl _ _) rfl).within
  have hn : x.numAt Adr.debugUnlocks = (s.unlocked.numAt Adr.debugUnlocks + 1) % 2 ^ 64 := State.numAt_bump_same hw (by decide)
  rw [hx.power rfl, hx.sent rfl, hn]
  exact ⟨rfl, rfl, rfl, rfl⟩

/-! ## A response that Shevy carries -/

variable {p : Pdu} {v : Bytes} {a : Nat}

/-- What the checks of a granted WRITE_BLOCK have passed. -/
theorem State.checks_of_grantsBlock (h : s.grantsBlock p a v) : let u := s.heard p.t p.port p.sender
    u.writeCheck a = none ∧ u.powerCodes a 0 = none ∧ valueCode u.part u.look a (.bytes v) = none ∧
      u.debugValueCheck a v = none := by
  intro u
  obtain ⟨-, -, -, -, -, -, -, hseg, hval⟩ := h
  have hval' : firstCode [valueCode u.part u.look a (.bytes v), u.commandValueCheck a (Val.bytes v).toNat,
    u.debugValueCheck a v] = none := hval
  have hseg' : firstCode [u.ownerCheck p.port, u.existCheck a, u.writeCheck a, u.stateCheck a 0] = none := hseg
  have hstate : u.stateCheck a 0 = none := firstCode_eq_none hseg' (by simp)
  exact ⟨firstCode_eq_none hseg' (by simp), firstCode_eq_none hstate (by simp), firstCode_eq_none hval' (by simp),
    firstCode_eq_none hval' (by simp)⟩

/-- Where a refused WRITE_BLOCK counts. -/
def refusalRows (q : Port) : List Nat := withFlags [Adr.transfersDiscarded q.idx, Adr.aborts q.idx]

theorem State.refused_writesIn (y : State) (q : Port) (code : Nat) :
    State.WritesIn (· ∈ refusalRows q) y ((y.discardTransfer q code).bump (Adr.aborts q.idx)) := by
  refine State.WritesIn.trans ?_ (.bumpOf (Adr.aborts q.idx) (by simp) _)
  unfold State.discardTransfer
  exact .ite (State.WritesIn.after (.bumpOf (Adr.transfersDiscarded q.idx) (by simp) _) rfl rfl) (.refl y)

theorem debugUnlocks_not_refusal (q : Port) : Adr.debugUnlocks ∉ refusalRows q := by cases q <;> decide

/-- R49: a granted WRITE_BLOCK whose effect answers a code, to the rest of the state. -/
theorem State.blockRow_failed {x : State} {code : Nat} (h : s.grantsBlock p a v)
    (hp : ((s.heard p.t p.port p.sender).blockHeld p a v).perform p.port a (.bytes v) = (some code, x)) :
    State.Within [.dict, .ports, .host, .sent] x (s.blockRow p true a) ∧
      State.WritesIn (· ∈ refusalRows p.port) x (s.blockRow p true a) := by
  rw [State.blockRow_refused h hp]
  refine ⟨(State.Sound.respond (State.Sound.bump (State.Sound.discardTransfer (State.Sound.refl _ x) rfl) rfl) rfl).within,
    (x.refused_writesIn p.port 0x0605).trans ?_⟩
  exact .of_within (State.Sound.respond (State.Sound.refl [.ports, .host, .sent] _) rfl).within

/-- R379: a response that passes every check answers the challenge. -/
theorem exec_debugResponse (hi : s.Inv) (h : s.grantsBlock p Adr.debugResponse v) : let u := s.heard p.t p.port p.sender
    u.power.debugFailures < 3 ∧ ∃ x, exec (.debugResponse (.request p)) s = .next x ∧
      (u.debugOk v = true → x.power.debugUnlocked = true ∧ x.power.debugFailures = u.power.debugFailures ∧
        x.numAt Adr.debugUnlocks = (u.numAt Adr.debugUnlocks + 1) % 2 ^ 64) ∧
      (u.debugOk v = false → x.power.debugUnlocked = u.power.debugUnlocked ∧
        x.power.debugFailures = u.power.debugFailures + 1 ∧ x.valAt Adr.debugUnlocks = u.valAt Adr.debugUnlocks) := by
  intro u
  obtain ⟨-, hcode, -, -⟩ := State.checks_of_grantsBlock h
  have hfew : decide (3 ≤ u.power.debugFailures) = false := refuseIf_eq_none hcode
  have hu : u.Inv := State.heard_inv hi
  have hin : State.Within [.ports] u (u.blockHeld p Adr.debugResponse v) := u.blockHeld_within p _ v
  generalize hy : u.blockHeld p Adr.debugResponse v = y at hin
  have hok : y.debugOk v = u.debugOk v :=
    State.debugOk_congr (congrArg PowerCtl.challenge (hin.power rfl)) (State.numAt_congr (hin.part rfl) (hin.dict rfl) _) v
  have hval (c : Nat) : y.valAt c = u.valAt c := State.valAt_congr (hin.part rfl) (hin.dict rfl) c
  have hnum : y.numAt Adr.debugUnlocks = u.numAt Adr.debugUnlocks := congrArg Val.toNat (hval _)
  have hw : Dict.wf y.part.variant y.dict = true := by
    rw [hin.part rfl, hin.dict rfl]
    exact hu.1.1
  have hperform : (u.blockHeld p Adr.debugResponse v).perform p.port Adr.debugResponse (.bytes v) =
      if y.debugOk v then (none, y.unlocked.bump Adr.debugUnlocks) else (some 0x0403, y.failed) := by rw [hy]; rfl
  refine ⟨by simpa using hfew, s.blockRow p true Adr.debugResponse, rfl, fun hright => ?_, fun hwrong => ?_⟩
  · have hrow := State.blockRow_done h (hperform.trans (if_pos (hok.trans hright)))
    obtain ⟨hunlocked, hfailures, -, hcount⟩ := State.unlocked_counted hw
    rw [hrow.power rfl, State.numAt_congr (hrow.part rfl) (hrow.dict rfl), hunlocked, hfailures, hcount, hin.power rfl, hnum]
    exact ⟨rfl, rfl, rfl⟩
  · obtain ⟨hrow, hrows⟩ := State.blockRow_failed h (hperform.trans (if_neg (by rw [hok, hwrong]; decide)))
    rw [hrow.power rfl, hrows.kept hw _ (debugUnlocks_not_refusal _), ← hval, ← hin.power rfl]
    exact ⟨rfl, rfl, rfl⟩

/-! ## DEBUG_LOCK and the TAP (R378, R379) -/

theorem exec_debugLock {r : Req} (h : s.grants r Adr.debugLock) : let u := s.heard r.t r.port r.sender
    ∃ x, exec (.debugLock r) s = .next x ∧ x.power = { u.power with debugUnlocked := false } := by
  intro u
  have hrow := State.writeRow_command h (by decide) rfl
  exact ⟨_, congrArg Host.Outcome.next hrow, State.answered_within.power rfl⟩

theorem Variant.deviceId_lt (w : Variant) : w.deviceId < 2 ^ 16 := by cases w <;> decide

/-- R378: the part number stands in bits 12 to 27 of IDCODE. -/
theorem State.idcode_part (s : State) : s.idcode / 2 ^ 12 % 2 ^ 16 = s.part.variant.deviceId := by
  have h := Variant.deviceId_lt s.part.variant
  unfold State.idcode
  omega

theorem State.tapScan_bypass (h : s.tapSelected = .bypass) (b : Bytes) :
    s.tapScan b = s.emit (.tapData (List.replicate b.length 0)) := by
  unfold State.tapScan
  rw [h]

theorem State.tapScan_idcode (h : s.tapSelected = .idcode) (b : Bytes) : s.tapScan b = s.emit (.tapData (leBytes 4 s.idcode)) := by
  unfold State.tapScan
  rw [h]

theorem State.tapScan_dbgAuth (h : s.tapSelected = .dbgAuth) (b : Bytes) :
    s.tapScan b = (s.emit (.tapData s.challengeBytes)).tapAnswer b := by
  unfold State.tapScan
  rw [h]

/-- An instruction that the TAP always provides is selected, whether access is locked or not. -/
theorem State.tapSelected_always (h : tapAlways s.power.tap = true) : s.tapSelected = s.power.tap := by
  simp [State.tapSelected, h]

/-- A debug instruction selects BYPASS while access is locked. -/
theorem State.tapSelected_locked (h : s.power.debugUnlocked = false) (ht : tapAlways s.power.tap = false) :
    s.tapSelected = .bypass := by
  simp [State.tapSelected, h, ht]

/-- R379: the DBG_AUTH register: a response is answered while there are fewer than three failures. -/
theorem State.tapAnswer_effect (hw : Dict.wf s.part.variant s.dict = true) (b : Bytes) : let x := s.tapAnswer b
    x.sent = s.sent ∧ (3 ≤ s.power.debugFailures ∨ b.length ≠ 128 → x.power = s.power) ∧
      (s.power.debugFailures < 3 → b.length = 128 →
        (s.debugOk b = true → x.power.debugUnlocked = true ∧ x.power.debugFailures = s.power.debugFailures) ∧
        (s.debugOk b = false → x.power.debugUnlocked = s.power.debugUnlocked ∧
          x.power.debugFailures = s.power.debugFailures + 1)) := by
  intro x
  by_cases hc : 3 ≤ s.power.debugFailures ∨ b.length ≠ 128
  · have hx : x = s := if_pos (by simpa [or_comm] using hc)
    rw [hx]
    exact ⟨rfl, fun _ => rfl, fun hf hl => by omega⟩
  · have hx : x = (s.answerDebug b).2 := if_neg (by simpa [and_comm] using hc)
    rw [hx, State.answerDebug_eq]
    obtain ⟨hunlocked, hfailures, hsent, -⟩ := State.unlocked_counted hw
    cases hok : s.debugOk b
    · exact ⟨rfl, fun h => absurd h hc, fun _ _ => ⟨fun h => by simp at h, fun _ => ⟨rfl, rfl⟩⟩⟩
    · exact ⟨hsent, fun h => absurd h hc, fun _ _ => ⟨fun _ => ⟨hunlocked, hfailures⟩, fun h => by simp at h⟩⟩

/-- R378, R379: a scan by the instruction that is loaded. -/
theorem exec_tapScan (hi : s.Inv) (t : Nat) (b : Bytes) : let scan := exec (.debugResponse (.tapScan t b)) s
    (s.power.debugUnlocked = false → tapAlways s.power.tap = false →
      scan = .next ((s.advance t).emit (.tapData (List.replicate b.length 0)))) ∧
    (s.power.tap = .idcode → scan = .next ((s.advance t).emit (.tapData (leBytes 4 s.idcode))) ∧
      s.idcode / 2 ^ 12 % 2 ^ 16 = s.part.variant.deviceId) ∧
    (s.power.tap = .dbgAuth → ∃ x, scan = .next x ∧ x.sent = s.sent ++ [.tapData s.challengeBytes] ∧
      (3 ≤ s.power.debugFailures ∨ b.length ≠ 128 → x.power = s.power) ∧
      (s.power.debugFailures < 3 → b.length = 128 →
        (s.debugOk b = true → x.power.debugUnlocked = true ∧ x.power.debugFailures = s.power.debugFailures) ∧
        (s.debugOk b = false → x.power.debugUnlocked = s.power.debugUnlocked ∧
          x.power.debugFailures = s.power.debugFailures + 1))) := by
  intro scan
  have hadv : State.Within [.clock] s (s.advance t) := s.advance_within t
  have hu : (s.advance t).Inv := State.advance_inv hi
  have hscan : scan = .next ((s.advance t).tapScan b) := rfl
  have hp : (s.advance t).power = s.power := hadv.power rfl
  have hpart : (s.advance t).part = s.part := hadv.part rfl
  have hdict : (s.advance t).dict = s.dict := hadv.dict rfl
  have hsent : (s.advance t).sent = s.sent := hadv.sent rfl
  rw [hscan]
  generalize s.advance t = u at *
  have hid : u.idcode = s.idcode := by rw [State.idcode, State.idcode, hpart]
  have hch : u.challengeBytes = s.challengeBytes := by rw [State.challengeBytes, State.challengeBytes, hp]
  refine ⟨fun h ht => ?_, fun ht => ⟨?_, s.idcode_part⟩, fun ht => ⟨u.tapScan b, rfl, ?_⟩⟩
  · rw [State.tapScan_bypass (State.tapSelected_locked (by rw [hp, h]) (by rw [hp, ht]))]
  · have hsel : u.tapSelected = u.power.tap := State.tapSelected_always (by rw [hp, ht]; rfl)
    rw [State.tapScan_idcode (by rw [hsel, hp, ht]), hid]
  · have hsel : u.tapSelected = u.power.tap := State.tapSelected_always (by rw [hp, ht]; rfl)
    have hok : (u.emit (.tapData u.challengeBytes)).debugOk b = s.debugOk b :=
      State.debugOk_congr (congrArg PowerCtl.challenge hp) (State.numAt_congr hpart hdict _) b
    rw [State.tapScan_dbgAuth (by rw [hsel, hp, ht])]
    obtain ⟨hs, hrefused, htaken⟩ := State.tapAnswer_effect (s := u.emit (.tapData u.challengeBytes)) hu.1.1 b
    have hep : (u.emit (.tapData u.challengeBytes)).power = s.power := hp
    rw [hok, hep] at htaken
    rw [hep] at hrefused
    have hes : (u.emit (.tapData u.challengeBytes)).sent = s.sent ++ [.tapData s.challengeBytes] := by
      rw [← hsent, ← hch]
      rfl
    exact ⟨hs.trans hes, hrefused, htaken⟩

/-! ## The images of signed boot (R374, R375) -/

/-- R374, R375: the copy, the form and the validity of an image that is taken. -/
theorem State.imageIn_valid {flash : List FlashRun} {copy kind w : Nat} (h : s.imageIn flash copy kind = some w) :
    let d := flashRead flash (directoryAt copy) 28; let at_ := field d (8 * (kind - 1)) 4
    let g := flashRead flash at_ 256
    field d 24 4 = crc32c (d.take 24) ∧ field g 4 1 = kind ∧ field g 8 4 = w ∧
      s.imageValid kind g (flashRead flash (at_ + 256) (field g 16 4)) = true := by
  intro d at_ g
  unfold State.imageIn directoryEntryOf at h
  by_cases hcrc : field d 24 4 = crc32c (d.take 24)
  · simp only [d, hcrc, beq_self_eq_true, if_true] at h
    split at h
    · cases h
    · next hform =>
      split at h
      · next hvalid =>
        have hkind : field g 4 1 = kind := by
          simp only [imageFormed, Bool.not_eq_true, Bool.not_eq_false', Bool.and_eq_true, beq_iff_eq] at hform
          exact hform.1.1.1.2
        exact ⟨hcrc, hkind, Option.some.inj h, hvalid⟩
      · cases h
  · simp only [d, beq_iff_eq, hcrc, if_false] at h
    cases h

theorem State.imageValid_iff {kind : Nat} {g body : Bytes} : s.imageValid kind g body = true ↔
    Config.sha256 (slice g 64 64) = Config.keyDigest (field g 5 1) ∧ Config.keyRevoked (field g 5 1) = false ∧
      Config.p256Verify (slice g 64 64) (Config.sha256 (g.take 128)) (slice g 128 64) = true ∧
      Config.sha256 body = slice g 32 32 ∧ bitAt (field g 20 2) (deviceBit s.part.variant) = true ∧
      nth s.nvm.minSecurity (kind - 1) 0 ≤ field g 12 4 := by
  simp [State.imageValid, and_assoc]

/-- R375: copy B is taken only where copy A has no valid image. -/
theorem State.bootImage_copyB {flash : List FlashRun} {kind w : Nat} (h : s.bootImage flash kind = some (1, w)) :
    s.imageIn flash 0 kind = none := by
  unfold State.bootImage at h
  split at h
  · cases h
  · assumption

/-! ## SECURITY_VERSION_RAISE (R380) -/

/-- R380: the fused minimum of the KIND that a value names becomes its version. -/
def State.raised (u : State) (b : Bytes) : State :=
  { u with nvm := { u.nvm with minSecurity := modifyAt u.nvm.minSecurity (field b 0 1 - 1) (fun _ => field b 4 4) } }

theorem State.perform_securityVersionRaise (u : State) (q : Port) (b : Bytes) :
    u.perform q Adr.securityVersionRaise (.bytes b) = (none, u.raised b) := rfl

/-- R72: the address is reached only while access is unlocked. -/
theorem State.unlocked_of_writeCheck (h : s.writeCheck Adr.securityVersionRaise = none) : s.power.debugUnlocked = true := by
  cases hb : s.power.debugUnlocked
  · have : s.lockedOut Adr.securityVersionRaise = true := by
      simp only [State.lockedOut, hb]
      decide
    simp [State.writeCheck, this] at h
  · rfl

/-- R8, R9: the KIND of an accepted value is one of the three. -/
theorem kind_of_valueCode {part : Part} {look : Look} (h : valueCode part look Adr.securityVersionRaise (.bytes v) = none) :
    1 ≤ field v 0 1 ∧ field v 0 1 ≤ 3 := by
  have hobj : (objAt Adr.securityVersionRaise).map (fun e => e.1.check) = some (.len 8) := by decide +kernel
  unfold valueCode at h
  split at h
  · cases h
  · next o i he =>
    have hlen : o.check = .len 8 := by simpa [he] using hobj
    split at h
    · cases h
    · next hlay =>
      rw [hlen] at h
      have hl : v.length = 8 := by
        by_contra hl
        simp [checkAlone, hl] at h
      have hne : v.isEmpty = false := by
        cases v
        · simp at hl
        · rfl
      have hkind : (field v 1 3 != 0 || (!v.isEmpty && (field v 0 1 == 0 || decide (3 < field v 0 1)))) = false :=
        (Bool.not_eq_true _).mp hlay
      simp only [hne, Bool.or_eq_false_iff, Bool.not_false, Bool.true_and, beq_eq_false_iff_ne, decide_eq_false_iff_not] at hkind
      omega

theorem exec_securityVersionRaise (h : s.grantsBlock p Adr.securityVersionRaise v)
    (hl : (s.heard p.t p.port p.sender).nvm.minSecurity.length = 3) : let u := s.heard p.t p.port p.sender
    let k := field v 0 1
    u.power.debugUnlocked = true ∧ ∃ x, exec (.securityVersionRaise p) s = .next x ∧
      nth x.nvm.minSecurity (k - 1) 0 = field v 4 4 ∧ nth u.nvm.minSecurity (k - 1) 0 ≤ field v 4 4 ∧
      ∀ i, i ≠ k - 1 → nth x.nvm.minSecurity i 0 = nth u.nvm.minSecurity i 0 := by
  intro u k
  obtain ⟨hwrite, -, hvalue, hdebug⟩ := State.checks_of_grantsBlock h
  obtain ⟨hk1, hk3⟩ := kind_of_valueCode hvalue
  have hin : State.Within [.ports] u (u.blockHeld p Adr.securityVersionRaise v) := u.blockHeld_within p _ v
  have hrow := State.blockRow_done h (State.perform_securityVersionRaise _ _ _)
  have hmin : (s.blockRow p true Adr.securityVersionRaise).nvm.minSecurity =
      modifyAt u.nvm.minSecurity (k - 1) (fun _ => field v 4 4) := by
    rw [hrow.nvm rfl, ← hin.nvm rfl]
    rfl
  refine ⟨State.unlocked_of_writeCheck hwrite, s.blockRow p true Adr.securityVersionRaise, rfl, ?_, ?_, fun i hne => ?_⟩
  · rw [hmin]
    exact nth_modifyAt_same _ _ (lt_of_lt_of_eq (by omega) hl.symm)
  · have : decide (field v 4 4 < nth u.nvm.minSecurity (field v 0 1 - 1) 0) = false := refuseIf_eq_none hdebug
    simpa using this
  · rw [hmin]
    exact nth_modifyAt_other _ _ hne

end

/-- Settles O60: the responses by the answer to the challenge, the images by what makes one valid, the raise by its checks. -/
theorem debugAccessIsGuarded : Obligations.DebugAccessIsGuarded := by
  unfold Obligations.DebugAccessIsGuarded
  intro s hi
  refine ⟨fun p v => exec_debugResponse hi, fun r => exec_debugLock, fun t i => ?_, fun t b => exec_tapScan hi t b,
    fun flash copy kind w h => ?_, fun flash kind w => State.bootImage_copyB, fun p v => exec_securityVersionRaise⟩
  · have hadv := s.advance_within t
    exact ⟨(s.advance t).tapLoad i, rfl, congrArg (fun q : PowerCtl => { q with tap := i }) (hadv.power rfl), hadv.sent rfl⟩
  · obtain ⟨hcrc, hkind, hversion, hvalid⟩ := State.imageIn_valid h
    obtain ⟨hkey, hrevoked, hsigned, hbody, hdevice, hsecurity⟩ := State.imageValid_iff.1 hvalid
    exact ⟨hcrc, hkind, hversion, hrevoked, hkey, hsigned, hbody, hdevice, hsecurity⟩

end Sys2Proof.Machine

/-! PROOFS of the statement about touch frames and their contacts (O51). -/

namespace Sys2Proof.Machine

/-! ## At most ten contacts, each under an ID of its own (R319) -/

/-- The IDs of contacts are below 10, and none is used twice. -/
def DistinctIds (ks : List Contact) : Prop := (ks.map (·.id)).Nodup ∧ ∀ k ∈ ks, k.id < 10

theorem DistinctIds.length_le {ks : List Contact} (h : DistinctIds ks) : ks.length ≤ 10 := by
  have hsub : ks.map (·.id) ⊆ List.range 10 := fun i hi => by
    obtain ⟨k, hk, rfl⟩ := List.mem_map.1 hi
    exact List.mem_range.2 (h.2 k hk)
  simpa using (List.subperm_of_subset h.1 hsub).length_le

/-- While fewer than ten IDs are in use, the lowest free one is free. -/
theorem freeId_free {ks : List Contact} (hl : ks.length < 10) : freeId ks < 10 ∧ freeId ks ∉ ks.map (·.id) := by
  unfold freeId
  cases hf : (List.range 10).find? (fun i => ks.all (fun k => k.id != i)) with
  | none =>
    exfalso
    have hsub : List.range 10 ⊆ ks.map (·.id) := fun i hi => by
      obtain ⟨k, hk, hid⟩ : ∃ k ∈ ks, k.id = i := by simpa using List.find?_eq_none.1 hf i hi
      exact List.mem_map.2 ⟨k, hk, hid⟩
    have := (List.subperm_of_subset List.nodup_range hsub).length_le
    simp only [List.length_range, List.length_map] at this
    omega
  | some i =>
    have hall : ∀ k ∈ ks, k.id ≠ i := by simpa using List.find?_some hf
    refine ⟨List.mem_range.1 (List.mem_of_find?_eq_some hf), fun hm => ?_⟩
    obtain ⟨k, hk, hid⟩ := List.mem_map.1 hm
    exact hall k hk hid

/-- The contacts that peaks become, one after the other. -/
def touchDowns (early : Peak → Bool) (ks : List Contact) (qs : List Peak) : List Contact :=
  qs.foldl (fun ks q => ks ++ [q.touchDown (freeId ks) (early q)]) ks

theorem DistinctIds.touchDowns {early : Peak → Bool} {qs : List Peak} {ks : List Contact} (h : DistinctIds ks)
    (hl : ks.length + qs.length ≤ 10) : DistinctIds (touchDowns early ks qs) := by
  induction qs generalizing ks with
  | nil => exact h
  | cons q qs ih =>
    rw [List.length_cons] at hl
    obtain ⟨hlow, hfree⟩ := freeId_free (ks := ks) (by omega)
    refine ih (ks := ks ++ [q.touchDown (freeId ks) (early q)]) ⟨?_, ?_⟩ (by rw [List.length_append, List.length_singleton]; omega)
    · rw [List.map_append, List.nodup_append]
      refine ⟨h.1, List.nodup_singleton _, fun a ha b hb hab => ?_⟩
      rw [List.map_singleton, List.mem_singleton] at hb
      exact hfree (by rw [show freeId ks = b from hb.symm, ← hab]; exact ha)
    · intro k hk
      rw [List.mem_append, List.mem_singleton] at hk
      obtain hk | rfl := hk
      · exact h.2 k hk
      · exact hlow

/-- The peaks of a frame are of different nodes. -/
theorem peaksOf_nodup (c : PanelCfg) (ds : List Int) : (peaksOf c ds).Nodup := by
  refine List.Nodup.of_map Peak.node ?_
  unfold peaksOf
  rw [List.map_map]
  have hid : Peak.node ∘ peakAt c.drives c.senses ds ((c.threshold : Int) - c.hyst) = id := rfl
  rw [hid, List.map_id]
  exact List.nodup_range.filter _

/-- Of a list without repetitions at most `room` are chosen. -/
theorem length_strongest_le {room : Nat} {ready : List Peak} (h : ready.Nodup) : (strongest room ready).length ≤ room := by
  unfold strongest
  extract_lets best
  have hsub : ready.filter best.contains ⊆ best := fun q hq => by simpa using (List.mem_filter.1 hq).2
  have hbest : best.length ≤ room := List.length_take_le _ _
  exact (List.subperm_of_subset (h.filter _) hsub).length_le.trans hbest

theorem nodup_filter_zipIdx {xs : List Peak} (h : xs.Nodup) (f : Peak × Nat → Bool) : ((xs.zipIdx.filter f).map (·.1)).Nodup := by
  have hsub : ((xs.zipIdx.filter f).map (·.1)).Sublist (xs.zipIdx.map (·.1)) := List.filter_sublist.map _
  rw [List.zipIdx_map_fst] at hsub
  exact h.sublist hsub

/-- A contact keeps its ID through a frame. -/
theorem Contact.track_id (k : Contact) (lift : Nat) (q : Option Peak) : (k.track lift q).id = k.id := by cases q <;> rfl

theorem tracked_ids (ks : List Contact) (lift : Nat) (peak : Nat → Option Peak) :
    (ks.zipIdx.map (fun e => e.1.track lift (peak e.2))).map (·.id) = ks.map (·.id) := by
  rw [List.map_map]
  have hid : (fun k : Contact => k.id) ∘ (fun e : Contact × Nat => e.1.track lift (peak e.2)) = (fun k => k.id) ∘ Prod.fst :=
    funext fun e => Contact.track_id _ _ _
  rw [hid, ← List.map_map, List.zipIdx_map_fst]

theorem DistinctIds.tracked {ks : List Contact} (h : DistinctIds ks) (lift : Nat) (peak : Nat → Option Peak) :
    DistinctIds (ks.zipIdx.map (fun e => e.1.track lift (peak e.2))) := by
  refine ⟨(tracked_ids ks lift peak).symm ▸ h.1, fun k hk => ?_⟩
  have hm : k.id ∈ ks.map (·.id) := tracked_ids ks lift peak ▸ List.mem_map_of_mem hk
  obtain ⟨k', hk', hid⟩ := List.mem_map.1 hm
  exact hid ▸ h.2 k' hk'

/-- R319: the contacts of a frame have distinct IDs where those before it had. -/
theorem trackFrame_ids {c : PanelCfg} {ks : List Contact} {cands : List Candidate} {start : List Nat} {peaks : List Peak}
    (h : DistinctIds ks) (hp : peaks.Nodup) : DistinctIds (trackFrame c ks cands start peaks).contacts := by
  unfold trackFrame
  extract_lets cs ps pairs kept fresh seenBy seen ready chosen all
  have hkept : DistinctIds kept := h.tracked c.lift fun i => (pairs.find? (fun a => a.1 == i)).bind (fun a => peaks[a.2]?)
  have hready : ready.Nodup := nodup_filter_zipIdx (nodup_filter_zipIdx hp _) _
  have hchosen : chosen.length ≤ 10 - kept.length := length_strongest_le hready
  exact hkept.touchDowns (early := fun q => start.contains q.node) (by have := hkept.length_le; omega)

/-! ## What a step of a frame's end leaves of its panel -/

/-- What the steps of a frame's end leave as it is where they do not say so. -/
structure Panel.FrameKept (x y : Panel) : Prop where
  state : y.state = x.state
  frameSeq : y.frameSeq = x.frameSeq
  frameStart : y.frameStart = x.frameStart
  raw : y.raw = x.raw
  delta : y.delta = x.delta
  calibrated : y.calibrated = x.calibrated
  reports : y.reports = x.reports
  nextSeq : y.nextSeq = x.nextSeq

theorem Panel.FrameKept.refl (x : Panel) : Panel.FrameKept x x := ⟨rfl, rfl, rfl, rfl, rfl, rfl, rfl, rfl⟩

theorem Panel.FrameKept.trans {x y z : Panel} (h : Panel.FrameKept x y) (k : Panel.FrameKept y z) : Panel.FrameKept x z :=
  ⟨k.state.trans h.state, k.frameSeq.trans h.frameSeq, k.frameStart.trans h.frameStart, k.raw.trans h.raw,
    k.delta.trans h.delta, k.calibrated.trans h.calibrated, k.reports.trans h.reports, k.nextSeq.trans h.nextSeq⟩

/-- From `s` to `x` panel `p` keeps its frame. -/
structure State.KeepsFrame (p : Nat) (s x : State) : Prop where
  lt : p < s.panels.length → p < x.panels.length
  kept : p < s.panels.length → Panel.FrameKept (s.panelAt p) (x.panelAt p)

namespace State.KeepsFrame
variable {p : Nat} {s x y : State}

theorem refl (s : State) : State.KeepsFrame p s s := ⟨id, fun _ => .refl _⟩

theorem trans (h : State.KeepsFrame p s x) (k : State.KeepsFrame p x y) : State.KeepsFrame p s y :=
  ⟨fun hp => k.lt (h.lt hp), fun hp => (h.kept hp).trans (k.kept (h.lt hp))⟩

theorem of_panels (h : x.panels = s.panels) : State.KeepsFrame p s x :=
  ⟨fun hp => h ▸ hp, fun _ => by rw [State.panelAt, State.panelAt, h]; exact .refl _⟩

/-- A write of other parts of the panel. -/
theorem setPanel {f : Panel → Panel} (s : State)
    (h : ∀ z, Panel.FrameKept z (f z) := by exact fun z => ⟨rfl, rfl, rfl, rfl, rfl, rfl, rfl, rfl⟩) :
    State.KeepsFrame p s (s.setPanel p f) :=
  ⟨fun hp => by simpa [State.setPanel] using hp, fun hp => by rw [State.panelAt_setPanel _ _ _ hp]; exact h _⟩

theorem ite {c : Prop} [Decidable c] (hx : State.KeepsFrame p s x) (hy : State.KeepsFrame p s y) :
    State.KeepsFrame p s (if c then x else y) := by
  split
  · exact hx
  · exact hy

end State.KeepsFrame

section
variable {s : State} {p : Nat}

theorem State.panels_bumpBy (s : State) (a k : Nat) : (s.bumpBy a k).panels = s.panels := by simp

theorem State.listenSlot_keepsFrame (s : State) (p : Nat) (c : PanelCfg) (levels : List Nat) :
    State.KeepsFrame p s (s.listenSlot p c levels) := .setPanel s

theorem State.setBaseline_keepsFrame (s : State) (p f : Nat) (g : List Nat → List Nat) :
    State.KeepsFrame p s (s.setBaseline p f g) := .setPanel s

theorem State.updateBaselines_keepsFrame (s : State) (p : Nat) (c : PanelCfg) (f : Nat) (raw : List Nat) (calm : Bool) :
    State.KeepsFrame p s (s.updateBaselines p c f raw calm) := by
  unfold State.updateBaselines
  extract_lets n y
  have hy : State.KeepsFrame p s y := .setPanel s
  exact .ite (.setPanel s)
    (.ite (hy.trans (y.setBaseline_keepsFrame p f _)) hy)

theorem State.recalibrate_keepsFrame (s : State) (p : Nat) (c : PanelCfg) (f : Nat) (raw : List Nat) (ds : List Int) :
    State.KeepsFrame p s (s.recalibrate p c f raw ds) := by
  unfold State.recalibrate
  extract_lets runs y
  have hy : State.KeepsFrame p s y := s.setBaseline_keepsFrame p f _
  exact .ite ((hy.trans (.setPanel y)).trans
    (.of_panels (State.panels_bumpBy _ _ _))) (.setPanel s)

/-- A counted frame is over. -/
theorem State.countFrame_panel (h : p < s.panels.length) : p < (s.countFrame p).panels.length ∧
    (s.countFrame p).panelAt p = { s.panelAt p with frameSeq := ((s.panelAt p).frameSeq + 1) % 2 ^ 32, frameStart := none } := by
  unfold State.countFrame
  have hp := State.panels_bumpBy (s.setPanel p (fun x => { x with frameSeq := (x.frameSeq + 1) % 2 ^ 32, frameStart := none }))
    (Adr.framesScanned p) 1
  refine ⟨?_, ?_⟩
  · rw [State.bump, hp]
    simpa [State.setPanel] using h
  · rw [State.bump, State.panelAt, hp]
    exact State.panelAt_setPanel _ _ _ h

/-- R321: panel `z` with the report `b` held as the newest, the `n` oldest discarded. -/
def Panel.held (z : Panel) (n : Nat) (b : Bytes) : Panel :=
  { z with reports := z.reports.drop n ++ [{ seq := z.nextSeq, bytes := b }], nextSeq := (z.nextSeq + 1) % 2 ^ 32,
           hopped := false }

theorem State.holdReport_panels (s : State) (p : Nat) (b : Bytes) :
    ∃ n, (s.holdReport p b).panels = (s.setPanel p (fun z => z.held n b)).panels := by
  unfold State.holdReport
  extract_lets x full gone x4 x5 x6 x7
  have h6 : State.Within [.dict, .host] x4 x6 :=
    (State.Sound.ite (State.Sound.bump (State.Sound.bump (State.Sound.refl _ x4) rfl) rfl)
      (State.Sound.bump (State.Sound.refl _ x4) rfl)).within
  clear_value x6
  have h7 : State.Sound [.host] x6 x6.tick.now x7 := State.Sound.foldl (State.Sound.refl _ x6) fun _ _ h =>
    State.Sound.congr [.host] h rfl rfl rfl (Nat.le_refl _) rfl rfl (by simp [State.shape])
  clear_value x7
  have hx : x7.panels = x4.panels := (h7.within.panels rfl).trans (h6.panels rfl)
  refine ⟨gone.length, ?_⟩
  split
  · exact hx
  · exact hx

/-- R321: a report that is held is the newest, under the next number; the rest of the frame stands. -/
theorem State.holdReport_panel (h : p < s.panels.length) (b : Bytes) : p < (s.holdReport p b).panels.length ∧
    ∃ n, (s.holdReport p b).panelAt p = (s.panelAt p).held n b := by
  obtain ⟨n, hn⟩ := s.holdReport_panels p b
  refine ⟨?_, n, ?_⟩
  · rw [hn]
    simpa [State.setPanel] using h
  · rw [State.panelAt, hn]
    exact State.panelAt_setPanel _ _ _ h

/-! ## The end of a frame of an ACTIVE panel (R316 to R320) -/

/-- The deltas of a frame: what the baselines of its frequency stand above its raw counts. -/
def Panel.deltas (x : Panel) (raw : List Nat) : List Int :=
  List.zipWith (fun (e r : Nat) => (e : Int) - r) (padTo (nth x.baselines x.scanFreq []) raw.length 0) raw

/-- R319: what a frame makes of the contacts of a panel. -/
def Panel.tracked (x : Panel) (c : PanelCfg) (raw : List Nat) : Tracked :=
  trackFrame c x.contacts x.candidates (if x.atStartFirst then x.atStart else []) (peaksOf c (x.deltas raw))

/-- R320: what the end of the frame with counts `raw` leaves of panel `x`. -/
structure Panel.Closed (x : Panel) (c : PanelCfg) (raw : List Nat) (y : Panel) : Prop where
  frameSeq : y.frameSeq = (x.frameSeq + 1) % 2 ^ 32
  frameStart : y.frameStart = none
  counts : y.raw = raw
  delta : y.delta = x.deltas raw
  unreported : (x.tracked c raw).contacts = [] → y.reports = x.reports
  reported : (x.tracked c raw).contacts ≠ [] → ∃ r, y.reports.getLast? = some r ∧ r.seq = x.nextSeq
  contacts : y.contacts = sortContacts ((x.tracked c raw).contacts.filter (fun k => k.state != 3))

theorem State.closeFrame_closed (h : p < s.panels.length) (c : PanelCfg) (b : Nat) (raw levels : List Nat) :
    Panel.Closed (s.panelAt p) c raw ((s.closeFrame p c b raw levels).panelAt p) := by
  unfold State.closeFrame
  extract_lets x f base ds s1 s2 peaks tr calm s3 s4 s5
  have htr : tr = x.tracked c raw := rfl
  obtain ⟨h0, hcount⟩ := State.countFrame_panel h
  have hs1 : p < s1.panels.length := by simpa [s1, State.setPanel] using h0
  have hp1 : s1.panelAt p = { x with
      frameSeq := (x.frameSeq + 1) % 2 ^ 32, frameStart := none, raw := raw, delta := ds } := by
    rw [State.panelAt_setPanel _ _ _ h0, hcount]
  clear_value s1
  have k2 : State.KeepsFrame p s1 s2 := .ite (.refl s1) (s1.listenSlot_keepsFrame p c levels)
  have k4 : State.KeepsFrame p s1 s4 := ((k2.trans (.of_panels (State.panels_bumpBy s2 _ _))).trans
    (s3.updateBaselines_keepsFrame p c f raw calm)).trans (State.recalibrate_keepsFrame _ p c f raw ds)
  clear_value s4
  have hs4 := k4.lt hs1
  have k := hp1 ▸ k4.kept hs1
  obtain ⟨-, hseq, hstart, hraw, hdelta, -, hreports, hnext⟩ := k
  clear_value tr
  subst htr
  by_cases hc : (x.tracked c raw).contacts = []
  · have h5 : s5 = s4 := if_pos (by rw [hc]; rfl)
    rw [h5, State.panelAt_setPanel _ _ _ hs4]
    exact ⟨hseq, hstart, hraw, hdelta, fun _ => hreports, fun hne => absurd hc hne, rfl⟩
  · have h5 : s5 = s4.holdReport p (s4.reportTouch p (x.tracked c raw).contacts (s4.stampAt b) false) :=
      if_neg (by simpa using hc)
    obtain ⟨hlt, n, hheld⟩ := State.holdReport_panel hs4 (s4.reportTouch p (x.tracked c raw).contacts (s4.stampAt b) false)
    rw [h5, State.panelAt_setPanel _ _ _ hlt, hheld]
    exact ⟨hseq, hstart, hraw, hdelta, fun he => absurd he hc, fun _ => ⟨_, List.getLast?_concat, hnext⟩, rfl⟩

/-! ## The end of a calibration frame (R323, R324) -/

/-- R323: the entries that calibration scans. -/
def State.calibrationWanted (s : State) (p : Nat) : List Nat :=
  bitsOf 8 (s.numAt (Adr.freqEnable p)) ++ (if s.mapStatusOf p = 0 then [8] else [])

theorem State.nextCalibration_isNone : (s.nextCalibration p).isNone = true ↔
    ∀ k ∈ s.calibrationWanted p, k ∈ (s.panelAt p).calibrated.map (·.1) := by
  simp only [State.nextCalibration, State.calibrationWanted, beq_iff_eq, Option.isNone_iff_eq_none, List.find?_eq_none,
    Bool.not_eq_true, Bool.not_eq_false', List.contains_iff_mem]

/-- The registers that the entries of panel `p` and the state of its map depend on. -/
def calibrationRows (p : Nat) : List Nat :=
  [Adr.freqEnable p, Adr.driveFirst p, Adr.driveCount p, Adr.senseFirst p, Adr.senseCount p]

theorem calibrationRows_unframed : ∀ p < 4, ∀ a ∈ calibrationRows p, a ∉ withFlags [Adr.framesScanned p] := by decide

theorem State.calibrationWanted_congr {x : State} (hn : x.nvm = s.nvm) (h : ∀ a ∈ calibrationRows p, x.numAt a = s.numAt a) :
    x.calibrationWanted p = s.calibrationWanted p := by
  have h1 := h (Adr.freqEnable p) (by simp [calibrationRows])
  have h2 := h (Adr.driveFirst p) (by simp [calibrationRows])
  have h3 := h (Adr.driveCount p) (by simp [calibrationRows])
  have h4 := h (Adr.senseFirst p) (by simp [calibrationRows])
  have h5 := h (Adr.senseCount p) (by simp [calibrationRows])
  have hmap : x.mapStatusOf p = s.mapStatusOf p := by
    unfold State.mapStatusOf
    rw [hn, h2, h3, h4, h5]
  rw [State.calibrationWanted, State.calibrationWanted, h1, hmap]

theorem State.endCalibration_panel (h : p < s.panels.length) (t : Nat) : ((s.endCalibration p t).panelAt p).state = .active ∧
    ((s.endCalibration p t).panelAt p).calibrated = [] ∧
    ((s.endCalibration p t).panelAt p).frameStart = (s.panelAt p).frameStart := by
  unfold State.endCalibration
  extract_lets x c nodes m ref
  split
  next free y hy =>
    have hw : State.Sound [.free] s s.tick.now y :=
      State.SoundP.of hy (State.SoundP.ite (State.Sound.takeFree (State.Sound.refl _ s) rfl) (State.SoundP.mk (State.Sound.refl _ s)))
    have hp := hw.within.panels rfl
    have hat : y.panelAt p = s.panelAt p := by rw [State.panelAt, State.panelAt, hp]
    extract_lets ratio present base
    rw [State.panelAt_setPanel _ _ _ (hp ▸ h), hat]
    exact ⟨rfl, rfl, rfl⟩

/-- R323: the end of a calibration frame: the next entry is wanted, or the panel is ACTIVE. -/
theorem State.closeCalibration_effect (hw : Dict.wf s.part.variant s.dict = true) (h : p < s.panels.length) (h4 : p < 4)
    (hs : (s.panelAt p).state = .calibrating) (t : Nat) (raw levels : List Nat) :
    let x := s.panelAt p; let y := (s.closeCalibration p t raw levels).panelAt p
    let done := (x.calibrated ++ [(x.scanFreq, raw)]).map (·.1)
    y.frameStart = none ∧
      ((∃ k, k ∈ s.calibrationWanted p ∧ k ∉ done) → y.state = .calibrating ∧
        y.calibrated = x.calibrated ++ [(x.scanFreq, raw)]) ∧
      ((∀ k, k ∈ s.calibrationWanted p → k ∈ done) → y.state = .active ∧ y.calibrated = []) := by
  intro x y done
  obtain ⟨h0, hcount⟩ := State.countFrame_panel h
  have hrows : State.WritesIn (· ∈ withFlags [Adr.framesScanned p]) s (s.countFrame p) :=
    State.WritesIn.after (.bumpOf (Adr.framesScanned p) (by simp) _) rfl rfl
  have hnvm : (s.countFrame p).nvm = s.nvm :=
    (State.Sound.bump (State.Sound.setPanel (State.Sound.refl [.dict, .panels] s) rfl) rfl).within.nvm rfl
  have hwant : (s.countFrame p).calibrationWanted p = s.calibrationWanted p :=
    State.calibrationWanted_congr hnvm fun a ha => hrows.numAt hw (calibrationRows_unframed p h4 a ha)
  obtain ⟨z, hz⟩ : ∃ z, z = (s.countFrame p).setPanel p (fun y => { y with
    calibrated := y.calibrated ++ [(x.scanFreq, raw)], raw := raw, delta := List.replicate raw.length 0,
    noiseLevels := levels }) := ⟨_, rfl⟩
  have hy : y = (if (z.nextCalibration p).isNone then z.endCalibration p t else z).panelAt p := by rw [hz]; rfl
  have hlt : p < z.panels.length := by
    rw [hz]
    simpa [State.setPanel] using h0
  have hat : z.panelAt p = { x with
      frameSeq := (x.frameSeq + 1) % 2 ^ 32, frameStart := none, calibrated := x.calibrated ++ [(x.scanFreq, raw)],
      raw := raw, delta := List.replicate raw.length 0, noiseLevels := levels } := by
    rw [hz, State.panelAt_setPanel _ _ _ h0, hcount]
  have hzw : z.calibrationWanted p = s.calibrationWanted p := by
    rw [← hwant, hz]
    exact State.calibrationWanted_congr rfl fun a _ => State.numAt_congr rfl rfl a
  have hnone := State.nextCalibration_isNone (s := z) (p := p)
  rw [hzw, hat] at hnone
  obtain ⟨hstate, hempty, hstart⟩ := State.endCalibration_panel hlt t
  rw [hat] at hstart
  by_cases hn : (z.nextCalibration p).isNone = true
  · rw [hy, if_pos hn]
    exact ⟨hstart, fun ⟨k, hk, hd⟩ => absurd (hnone.1 hn k hk) hd, fun _ => ⟨hstate, hempty⟩⟩
  · rw [hy, if_neg hn, hat]
    exact ⟨rfl, fun _ => ⟨hs, rfl⟩, fun hall => absurd (hnone.2 hall) hn⟩

end

/-- R311: a frame that is over, by the state of its panel. -/
theorem doTouchFrameEnd_over {s : State} {p : Fin 4} {f : TouchFrame} {b : Nat} {c : PanelCfg}
    (hserves : (s.advance f.t).touchServes = true)
    (hstart : (s.panelAt p.val).frameStart = some b) (hcfg : (s.panelAt p.val).cfg = some c)
    (hfree : c.quiet = false → frameOver c.drives ((s.advance f.t).scanAt p.val c (s.panelAt p.val).scanFreq).2 c.listen
      ((s.advance f.t).scanAt p.val c (s.panelAt p.val).scanFreq).1 b f.t = true)
    (hquiet : c.quiet = true → c.drives ≤ c.quietSteps ((s.advance f.t).scanAt p.val c (s.panelAt p.val).scanFreq).1 b f.t
      (s.panelAt p.val).edges) :
    let raw := (padTo f.raw (c.drives * c.senses) 0).map (fun v => min v 65535)
    let levels := (padTo f.noise 8 0).map (fun v => min v 65535)
    ((s.panelAt p.val).state = .active → doTouchFrameEnd p f s = (s.advance f.t).closeFrame p.val c b raw levels) ∧
      ((s.panelAt p.val).state = .calibrating → doTouchFrameEnd p f s = (s.advance f.t).closeCalibration p.val f.t raw levels) := by
  intro raw levels
  have hat : (s.advance f.t).panelAt p.val = s.panelAt p.val := by
    rw [State.panelAt, State.panelAt, (s.advance_within f.t).panels rfl]
  unfold doTouchFrameEnd
  simp only [hat, hstart, hcfg, hserves, Bool.true_and]
  generalize (s.advance f.t).scanAt p.val c (s.panelAt p.val).scanFreq = e at *
  have hdone : if c.quiet = true then c.drives ≤ c.quietSteps e.1 b f.t (s.panelAt p.val).edges
      else frameOver c.drives e.2 c.listen e.1 b f.t = true := by
    split
    · next hq => exact hquiet hq
    · next hq => exact hfree (by simpa using hq)
  simp only [hdone, decide_true, Bool.not_true, Bool.false_eq_true, if_false]
  exact ⟨fun hx => by rw [hx], fun hx => by rw [hx]⟩

/-- Settles O51: the contacts by the IDs that are free, the end of a frame by what its steps leave of the panel. -/
theorem touchFramesTrackContacts : Obligations.TouchFramesTrackContacts := by
  unfold Obligations.TouchFramesTrackContacts
  intro s p f b c hi n u x raw
  refine ⟨fun ks cands start ds hnodup hlow => ?_, ?_⟩
  · intro tr
    have h : DistinctIds tr.contacts := trackFrame_ids ⟨hnodup, hlow⟩ (peaksOf_nodup c ds)
    exact ⟨h.1, h.length_le, h.2⟩
  · intro scan hserves hstart hcfg hfree hquiet
    have hu : u.Inv := State.advance_inv hi
    have hp : n < u.panels.length := hu.panel_lt p.isLt
    have hat : u.panelAt n = x := congrArg (nth · n Panel.zero) ((s.advance_within f.t).panels rfl)
    obtain ⟨hactive, hcal⟩ := doTouchFrameEnd_over hserves hstart hcfg hfree hquiet
    refine ⟨fun hx => ⟨_, congrArg Host.Outcome.next (hactive hx), ?_⟩, fun hx => ⟨_, congrArg Host.Outcome.next (hcal hx), ?_⟩⟩
    · have h := State.closeFrame_closed hp c b raw ((padTo f.noise 8 0).map (fun v => min v 65535))
      rw [hat] at h
      exact ⟨h.frameSeq, h.frameStart, h.counts, h.delta, h.unreported, h.reported, h.contacts⟩
    · have h := State.closeCalibration_effect hu.1.1 hp p.isLt (by rw [hat]; exact hx) f.t raw
        ((padTo f.noise 8 0).map (fun v => min v 65535))
      rw [hat] at h
      exact h

end Sys2Proof.Machine

/-! PROOFS of the statement about keys, buttons and encoders (O47). -/

namespace Sys2Proof.Machine

/-! ## Debounce (R295) -/

/-- How many consecutive readings of a unit have been opposite to its debounced state. -/
def runLength (runs : List Run) (c : Nat) : Nat := ((runs.find? (fun r => r.code == c)).map (·.len)).getD 0

/-- Whether a sample completes the run of readings opposite to the debounced state. -/
def Sample.decides (need : Nat) (pressed : List Nat) (runs : List Run) (x : Sample) : Bool :=
  x.down != pressed.contains x.code && decide (need ≤ runLength runs x.code + 1)

/-- When a unit's run of opposite readings began, with the reading `x`. -/
def Sample.runStart (runs : List Run) (x : Sample) : Nat :=
  ((runs.find? (fun r => r.code == x.code)).map (·.first)).getD x.time

/-- A sample with the time at which its run began. -/
def Sample.dated (runs : List Run) (x : Sample) : Sample := { x with time := x.runStart runs }

/-- The run that goes on with a reading. -/
def Sample.prolonged (runs : List Run) (x : Sample) : Run :=
  { code := x.code, len := runLength runs x.code + 1, first := x.runStart runs }

/-- The runs of the other units. -/
def Sample.others (runs : List Run) (x : Sample) : List Run := runs.filter (fun r => r.code != x.code)

section
variable {need : Nat} {pressed : List Nat} {runs : List Run} {x : Sample} {c : Nat}

/-- R295: a reading that agrees ends the run, one that completes it is a change, any other prolongs it. -/
theorem debounceOne_eq (need : Nat) (pressed : List Nat) (runs : List Run) (x : Sample) : debounceOne need pressed runs x =
    if x.down = pressed.contains x.code then (x.others runs, none)
    else if need ≤ runLength runs x.code + 1 then (x.others runs, some (x.dated runs))
    else (x.others runs ++ [x.prolonged runs], none) := by
  unfold debounceOne Sample.prolonged Sample.dated Sample.others Sample.runStart runLength
  extract_lets others run
  have hrun : run = { code := x.code, len := ((runs.find? (fun r => r.code == x.code)).map (·.len)).getD 0 + 1,
                      first := ((runs.find? (fun r => r.code == x.code)).map (·.first)).getD x.time } := by
    unfold run
    cases hf : runs.find? (fun r => r.code == x.code) with
    | none => rfl
    | some r =>
      have hr : r.code = x.code := by simpa using List.find?_some hf
      simp [hr]
  simp only [hrun, beq_iff_eq]
  rfl

theorem debounceOne_change : (debounceOne need pressed runs x).2 =
    if x.decides need pressed runs then some (x.dated runs) else none := by
  rw [debounceOne_eq]
  by_cases hsame : x.down = pressed.contains x.code
  · rw [if_pos hsame, if_neg (by simp [Sample.decides, hsame])]
  · rw [if_neg hsame]
    by_cases hneed : need ≤ runLength runs x.code + 1
    · rw [if_pos hneed, if_pos (by simpa [Sample.decides, hneed] using hsame)]
    · rw [if_neg hneed, if_neg (by simp [Sample.decides, hneed])]

theorem find_others (h : c ≠ x.code) : (x.others runs).find? (fun r => r.code == c) = runs.find? (fun r => r.code == c) := by
  unfold Sample.others
  rw [List.find?_filter]
  refine congrArg (fun q => runs.find? q) (funext fun r => ?_)
  by_cases hr : r.code = c
  · simp [hr, h]
  · simp [hr]

/-- A sample leaves the runs of the other units. -/
theorem debounceOne_find (h : c ≠ x.code) :
    (debounceOne need pressed runs x).1.find? (fun r => r.code == c) = runs.find? (fun r => r.code == c) := by
  have hnot : ((x.prolonged runs).code == c) = false := beq_eq_false_iff_ne.2 (Ne.symm h)
  rw [debounceOne_eq]
  split
  · exact find_others h
  · split
    · exact find_others h
    · rw [List.find?_append, find_others h, List.find?_singleton, hnot]
      simp

/-- A run that a sample leaves is of its own unit, or was there. -/
theorem mem_debounceOne {r : Run} (h : r ∈ (debounceOne need pressed runs x).1) : r.code = x.code ∨ r ∈ runs := by
  have ho : r ∈ x.others runs → r ∈ runs := fun hr => (List.mem_filter.1 hr).1
  rw [debounceOne_eq] at h
  split at h
  · exact .inr (ho h)
  · split at h
    · exact .inr (ho h)
    · obtain h | h := List.mem_append.1 h
      · exact .inr (ho h)
      · exact .inl (congrArg Run.code (List.mem_singleton.1 h))

/-- A reading that agrees leaves no run of its unit. -/
theorem debounceOne_agrees (h : x.down = pressed.contains x.code) {r : Run} (hr : r ∈ (debounceOne need pressed runs x).1) :
    r.code ≠ x.code := by
  rw [debounceOne_eq, if_pos h] at hr
  simpa using (List.mem_filter.1 hr).2

/-- What a unit's sample decides depends on the runs of that unit alone. -/
theorem decides_congr {rs : List Run} (h : rs.find? (fun r => r.code == x.code) = runs.find? (fun r => r.code == x.code)) :
    x.decides need pressed rs = x.decides need pressed runs ∧ x.dated rs = x.dated runs := by
  unfold Sample.decides Sample.dated Sample.runStart runLength
  rw [h]
  exact ⟨rfl, rfl⟩

/-! ## The samples of one scan -/

/-- The samples of a scan one after the other, from runs and changes already there. -/
def debounceFrom (need : Nat) (pressed : List Nat) (acc : List Run × List Sample) (xs : List Sample) : List Run × List Sample :=
  xs.foldl (fun acc x => ((debounceOne need pressed acc.1 x).1, acc.2 ++ (debounceOne need pressed acc.1 x).2.toList)) acc

theorem debounce_eq (need : Nat) (pressed : List Nat) (runs : List Run) (xs : List Sample) :
    debounce need pressed runs xs = debounceFrom need pressed (runs, []) xs := rfl

/-- R295: the changes of a scan are the samples that complete their runs. -/
theorem debounceFrom_changes {xs : List Sample} (hxs : (xs.map (·.code)).Nodup) (acc : List Run × List Sample) :
    (debounceFrom need pressed acc xs).2 = acc.2 ++ (xs.filter (·.decides need pressed acc.1)).map (·.dated acc.1) := by
  induction xs generalizing acc with
  | nil => simp [debounceFrom]
  | cons x xs ih =>
    rw [List.map_cons, List.nodup_cons] at hxs
    obtain ⟨hx, hrest⟩ := hxs
    have hcongr (y : Sample) (hy : y ∈ xs) := decides_congr (need := need) (pressed := pressed) (x := y)
      (debounceOne_find (need := need) (pressed := pressed) (runs := acc.1) (x := x) (c := y.code)
        fun e => hx (e ▸ List.mem_map_of_mem hy))
    have hstep : debounceFrom need pressed acc (x :: xs) = debounceFrom need pressed
      ((debounceOne need pressed acc.1 x).1, acc.2 ++ (debounceOne need pressed acc.1 x).2.toList) xs := rfl
    have hfilter : xs.filter (·.decides need pressed (debounceOne need pressed acc.1 x).1) =
        xs.filter (·.decides need pressed acc.1) := List.filter_congr fun y hy => (hcongr y hy).1
    have hmap : (xs.filter (·.decides need pressed acc.1)).map (·.dated (debounceOne need pressed acc.1 x).1) =
        (xs.filter (·.decides need pressed acc.1)).map (·.dated acc.1) :=
      List.map_congr_left fun y hy => (hcongr y (List.mem_filter.1 hy).1).2
    rw [hstep, ih hrest, hfilter, hmap, debounceOne_change]
    cases hd : x.decides need pressed acc.1
    · rw [List.filter_cons_of_neg (by simp [hd])]
      simp
    · rw [List.filter_cons_of_pos hd]
      simp

theorem mem_debounceFrom {xs : List Sample} {acc : List Run × List Sample} {r : Run}
    (h : r ∈ (debounceFrom need pressed acc xs).1) (hr : r.code ∉ xs.map (·.code)) : r ∈ acc.1 := by
  induction xs generalizing acc with
  | nil => exact h
  | cons x xs ih =>
    rw [List.map_cons, List.mem_cons, not_or] at hr
    exact (mem_debounceOne (ih h hr.2)).resolve_left hr.1

/-- R295: a reading that agrees ends the run. -/
theorem debounceFrom_agrees {xs : List Sample} (hxs : (xs.map (·.code)).Nodup) {acc : List Run × List Sample} {x : Sample}
    (hx : x ∈ xs) (h : x.down = pressed.contains x.code) {r : Run} (hr : r ∈ (debounceFrom need pressed acc xs).1) :
    r.code ≠ x.code := by
  induction xs generalizing acc with
  | nil => cases hx
  | cons y ys ih =>
    rw [List.map_cons, List.nodup_cons] at hxs
    obtain rfl | hy := List.mem_cons.1 hx
    · intro hc
      exact debounceOne_agrees h (mem_debounceFrom (xs := ys) hr (by rw [hc]; exact hxs.1)) hc
    · exact ih hxs.2 hy hr

/-! ## The debounced states after a scan -/

theorem mem_insertAsc {xs : List Nat} {a b : Nat} : a ∈ insertAsc xs b ↔ a = b ∨ a ∈ xs := by
  induction xs with
  | nil => simp [insertAsc]
  | cons y ys ih =>
    unfold insertAsc
    split
    · simp
    · split
      · next h => simp [eq_of_beq h]
      · rw [List.mem_cons, ih, List.mem_cons]
        tauto

theorem contains_pressedAfter (ps : List Nat) (x : Sample) (c : Nat) :
    (Keys.pressedAfter ps x).contains c = if c = x.code then x.down else ps.contains c := by
  unfold Keys.pressedAfter
  cases hd : x.down
  · by_cases hc : c = x.code <;> simp [without, hc]
  · rw [Bool.eq_iff_iff]
    by_cases hc : c = x.code <;> simp [mem_insertAsc, hc]

theorem contains_pressed_other {ys : List Sample} (h : ∀ y ∈ ys, y.code ≠ c) (ps : List Nat) :
    (ys.foldl Keys.pressedAfter ps).contains c = ps.contains c := by
  induction ys generalizing ps with
  | nil => rfl
  | cons y ys ih =>
    rw [List.foldl_cons, ih (fun z hz => h z (List.mem_cons_of_mem _ hz)), contains_pressedAfter,
      if_neg (Ne.symm (h y List.mem_cons_self))]

theorem contains_pressed_change {ys : List Sample} (hys : (ys.map (·.code)).Nodup) {y : Sample} (hy : y ∈ ys) (ps : List Nat) :
    (ys.foldl Keys.pressedAfter ps).contains y.code = y.down := by
  induction ys generalizing ps with
  | nil => cases hy
  | cons z zs ih =>
    rw [List.map_cons, List.nodup_cons] at hys
    rw [List.foldl_cons]
    obtain rfl | hy := List.mem_cons.1 hy
    · rw [contains_pressed_other (fun w hw e => hys.1 (List.mem_map.2 ⟨w, hw, e⟩)), contains_pressedAfter, if_pos rfl]
    · exact ih hys.2 hy _

/-- The changes of a scan. -/
theorem debounce_changes {xs : List Sample} (hxs : (xs.map (·.code)).Nodup) : (debounce need pressed runs xs).2 =
    (xs.filter (·.decides need pressed runs)).map (·.dated runs) := by
  rw [debounce_eq, debounceFrom_changes hxs, List.nil_append]

theorem debounce_codes {xs : List Sample} (hxs : (xs.map (·.code)).Nodup) :
    ((debounce need pressed runs xs).2.map (·.code)).Nodup := by
  rw [debounce_changes hxs, List.map_map]
  exact hxs.sublist (List.filter_sublist.map _)

/-- R295: the debounced state of a unit changes exactly when its sample completes the run. -/
theorem debounce_contains {xs : List Sample} (hxs : (xs.map (·.code)).Nodup) (hx : x ∈ xs) :
    ((debounce need pressed runs xs).2.foldl Keys.pressedAfter pressed).contains x.code =
      if x.decides need pressed runs then x.down else pressed.contains x.code := by
  have hcodes := debounce_codes (need := need) (pressed := pressed) (runs := runs) hxs
  rw [debounce_changes hxs] at hcodes ⊢
  cases hd : x.decides need pressed runs
  · rw [if_neg (by decide)]
    refine contains_pressed_other (fun y hy hc => ?_) _
    obtain ⟨z, hz, rfl⟩ := List.mem_map.1 hy
    obtain ⟨hzx, hzd⟩ := List.mem_filter.1 hz
    have : z = x := List.inj_on_of_nodup_map hxs hzx hx hc
    rw [this, hd] at hzd
    cases hzd
  · rw [if_pos rfl]
    have hm : x.dated runs ∈ (xs.filter (·.decides need pressed runs)).map (·.dated runs) :=
      List.mem_map_of_mem (List.mem_filter.2 ⟨hx, hd⟩)
    exact contains_pressed_change hcodes hm pressed

end

/-! ## The keys in use (R289, R290) -/

theorem keyCodes_nodup (columns : Nat) {rows : Nat} (h : rows ≤ 16) :
    (((List.range columns).map (fun c => (List.range rows).map (fun r => 16 * c + r))).flatten).Nodup := by
  rw [List.nodup_flatten]
  refine ⟨fun l hl => ?_, ?_⟩
  · obtain ⟨c, -, rfl⟩ := List.mem_map.1 hl
    exact List.nodup_range.map_on fun a _ b _ hab => by omega
  · rw [List.pairwise_map]
    refine List.nodup_range.imp_of_mem fun {c d} _ _ hne => ?_
    intro k hc hd
    obtain ⟨a, ha, rfl⟩ := List.mem_map.1 hc
    obtain ⟨b, hb, hab⟩ := List.mem_map.1 hd
    rw [List.mem_range] at ha hb
    omega

theorem State.keysInUse_nodup {s : State} (h : s.numAt Adr.keyRows ≤ 16) : s.keysInUse.Nodup := keyCodes_nodup _ h

theorem scanSamples_codes (used : List Nat) (settle t : Nat) (down : List Nat) :
    (scanSamples used settle t down).map (·.code) = used := by
  unfold scanSamples
  rw [List.map_map]
  exact List.map_id _

/-- The sample of a key of a scan that starts at `t`. -/
def keySample (settle t : Nat) (down : List Nat) (c : Nat) : Sample :=
  { code := c, down := down.contains c, time := t + ((c / 16) * (settle + 1) + settle) * 1000 }

theorem mem_scanSamples {used : List Nat} {c : Nat} (h : c ∈ used) (settle t : Nat) (down : List Nat) :
    keySample settle t down c ∈ scanSamples used settle t down := List.mem_map_of_mem h

/-! ## What the changes of a scan write (R295, R302, R305) -/

/-- Where the changes of a scan write the register file. -/
def changeRows : List Nat := withFlags [Adr.keyEvents, Adr.eventsLost, Adr.suppressedEvents, Adr.unlockFailures]

section
variable {s : State}

theorem State.queueEvent_changeRows (s : State) (kind : Nat) (synthetic : Bool) (code data : Nat) (st : Stamp) (decided : Nat) :
    State.WritesIn (· ∈ changeRows) s (s.queueEvent kind synthetic code data st decided) :=
  (s.queueEvent_writesIn kind synthetic code data st decided).mono fun a ha => by
    unfold withFlags at ha
    unfold changeRows withFlags
    simp only [List.flatMap_cons, List.flatMap_nil, List.mem_append] at ha ⊢
    tauto

theorem State.leaveLock_changeRows (s : State) (cause t : Nat) : State.WritesIn (· ∈ changeRows) s (s.leaveLock cause t) := by
  unfold State.leaveLock
  extract_lets scope a b
  have hb : State.WritesIn (· ∈ changeRows) s b := by
    unfold b
    exact .ite (.of_same rfl rfl) (.of_same rfl rfl)
  exact hb.trans (State.queueEvent_changeRows _ _ _ _ _ _ _)

theorem State.matchPress_changeRows (s : State) (p len t : Nat) : State.WritesIn (· ∈ changeRows) s (s.matchPress p len t) :=
  .ite (s.leaveLock_changeRows 0 t) (.of_same rfl rfl)

theorem State.unlockPress_changeRows (s : State) (code t : Nat) : State.WritesIn (· ∈ changeRows) s (s.unlockPress code t) := by
  unfold State.unlockPress
  extract_lets seq p a b
  have ha : State.WritesIn (· ∈ changeRows) s a := .ite (.refl s) (.bumpOf _ (by decide) s)
  have hb : State.WritesIn (· ∈ changeRows) s b := ha.trans (.of_same rfl rfl)
  clear_value b
  exact .ite (.refl s) (.ite (s.matchPress_changeRows p _ t) (.ite (hb.trans (b.matchPress_changeRows 0 _ t)) hb))

theorem State.keyChange_changeRows (s : State) (x : Sample) (t : Nat) : State.WritesIn (· ∈ changeRows) s (s.keyChange x t) := by
  unfold State.keyChange
  extract_lets muted event masked a b
  have ha : State.WritesIn (· ∈ changeRows) s a := .of_same rfl rfl
  have hb : State.WritesIn (· ∈ changeRows) s b :=
    .ite ha (.ite (ha.trans (.bumpOf _ (by decide) a)) (ha.trans (State.queueEvent_changeRows a _ _ _ _ _ _)))
  clear_value b
  exact .ite (hb.trans (b.unlockPress_changeRows _ t)) hb

theorem State.keyChanges_changeRows (ys : List Sample) (s : State) (t : Nat) :
    State.WritesIn (· ∈ changeRows) s (ys.foldl (fun u x => u.keyChange x t) s) :=
  .foldl (fun u x => u.keyChange_changeRows x t) ys s

theorem State.applyMatrix_changeRows (s : State) (t : Nat) : State.WritesIn (· ∈ changeRows) s (s.applyMatrix t) := by
  have h : State.WritesIn (· ∈ changeRows) s (s.releaseAll 2 (s.keys.reported.filter fun c => !(s.keysInUse.contains c)) t) :=
    .foldl (fun u _ => u.queueEvent_changeRows _ _ _ _ _ _) _ s
  exact h.trans (.of_same rfl rfl)

/-! ## The events of a scan without a lock (R295, R302) -/

/-- What a change of a key adds to the FIFO while there is no lock and the FIFO has room. -/
structure State.Reported (s : State) (x : Sample) (u : State) (zs : List Event) : Prop where
  lock : u.keys.lock = .off
  mute : ∀ c, s.keys.mute.contains c = false → u.keys.mute.contains c = false
  fifo : u.keys.fifo = s.keys.fifo ++ zs
  length : zs.length ≤ 1
  press : x.down = true → s.keyEnabled x.code = true → s.keys.mute.contains x.code = false →
    ∃ e ∈ zs, e.kind = 1 ∧ e.synthetic = false ∧ e.code = x.code

/-- The entry that `pushEvent` puts at the end of the FIFO (R300). -/
def State.entry (s : State) (kind : Nat) (synthetic : Bool) (code data : Nat) (st : Stamp) : Event :=
  { kind := kind, synthetic := synthetic, unticked := st.unticked, code := code, data := data, seq := s.keys.nextSeq,
    tick := st.tick, offset := st.offset }

theorem State.pushEvent_fifo (s : State) (kind : Nat) (synthetic : Bool) (code data : Nat) (st : Stamp) :
    (s.pushEvent kind synthetic code data st).keys.fifo = s.keys.fifo ++ [s.entry kind synthetic code data st] := rfl

theorem State.keyChange_reported (hl : s.keys.lock = .off) (hroom : s.keys.fifo.length + 2 ≤ 64) (x : Sample) (t : Nat) :
    ∃ zs, State.Reported s x (s.keyChange x t) zs := by
  unfold State.keyChange
  extract_lets muted event masked a b
  have hmasked : masked = false := by simp [masked, State.locked, hl]
  have hmute : ∀ c, s.keys.mute.contains c = false → a.keys.mute.contains c = false := fun c hc => by
    show (if x.down then s.keys.mute else without s.keys.mute x.code).contains c = false
    cases x.down
    · have hc' : c ∉ s.keys.mute := by simpa using hc
      simp [without, hc']
    · exact hc
  by_cases he : event = true
  · have hb : b = (a.pushEvent (if x.down then 1 else 2) false x.code 0 (a.stampAt x.time)).bump Adr.keyEvents := by
      simp only [b, he, hmasked, Bool.not_true, Bool.false_eq_true, if_false]
      exact State.queueEvent_room _ _ _ _ _ _ _ hroom
    have hk : b.keys = (a.pushEvent (if x.down then 1 else 2) false x.code 0 (a.stampAt x.time)).keys := by
      rw [hb, State.bump_keys]
    have hlock : b.keys.lock = .off := by
      rw [hk]
      exact hl
    rw [if_neg (by simp [hlock])]
    refine ⟨[a.entry (if x.down then 1 else 2) false x.code 0 (a.stampAt x.time)], hlock, fun c hc => ?_, ?_, le_refl 1,
      fun hd _ _ => ⟨_, List.mem_singleton_self _, if_pos hd, rfl, rfl⟩⟩
    · rw [hk]
      exact hmute c hc
    · rw [hk, State.pushEvent_fifo]
      rfl
  · have hb : b = a := by simp [b, he]
    have hlock : a.keys.lock = .off := hl
    rw [hb, if_neg (by simp [hlock])]
    refine ⟨[], hl, hmute, (List.append_nil _).symm, Nat.zero_le 1, fun _ hen hm => absurd ?_ he⟩
    simp only [event, muted, hen, hm, Bool.not_false, Bool.and_self]

/-- Whether the register file lets a key report. -/
theorem State.keyEnabled_changed {u : State} (hw : Dict.wf s.part.variant s.dict = true)
    (h : State.WritesIn (· ∈ changeRows) s u) (c : Nat) : u.keyEnabled c = s.keyEnabled c := by
  rw [State.keyEnabled, State.keyEnabled, h.bytesAt hw (by decide)]

/-- R295, R302: while there is no lock and room for all of them, every press among the changes is in the FIFO. -/
theorem State.keyChanges_press {ys : List Sample} (hw : Dict.wf s.part.variant s.dict = true) (hl : s.keys.lock = .off)
    (hroom : s.keys.fifo.length + ys.length + 1 ≤ 64) (t : Nat) :
    let u := ys.foldl (fun u x => u.keyChange x t) s
    (∃ zs, u.keys.fifo = s.keys.fifo ++ zs) ∧
      ∀ y ∈ ys, y.down = true → s.keyEnabled y.code = true → s.keys.mute.contains y.code = false →
        ∃ e ∈ u.keys.fifo, e.kind = 1 ∧ e.synthetic = false ∧ e.code = y.code := by
  induction ys generalizing s with
  | nil => exact ⟨⟨[], (List.append_nil _).symm⟩, fun y hy => by cases hy⟩
  | cons x xs ih =>
    intro u
    rw [List.length_cons] at hroom
    have hrows := s.keyChange_changeRows x t
    obtain ⟨zs, hlock, hmute, hfifo, hlength, hpress⟩ := State.keyChange_reported hl (by omega) x t
    have hlen : (s.keyChange x t).keys.fifo.length = s.keys.fifo.length + zs.length := by rw [hfifo, List.length_append]
    obtain ⟨⟨ws, hws⟩, hrest⟩ := ih (s := s.keyChange x t) (hrows.wf hw) hlock (by omega)
    have hu : u.keys.fifo = s.keys.fifo ++ (zs ++ ws) := by
      rw [← List.append_assoc, ← hfifo]
      exact hws
    refine ⟨⟨_, hu⟩, fun y hy hd hen hm => ?_⟩
    obtain rfl | hy := List.mem_cons.1 hy
    · obtain ⟨e, he, hkind, hsynthetic, hcode⟩ := hpress hd hen hm
      exact ⟨e, hu ▸ by simp [he], hkind, hsynthetic, hcode⟩
    · exact hrest y hy hd ((State.keyEnabled_changed hw hrows _).trans hen) (hmute _ hm)

end

/-! ## A scan that is due -/

section
variable {s : State} {t : Nat} {down : List Nat}

theorem State.scanStart_changeRows (s : State) (t : Nat) : State.WritesIn (· ∈ changeRows) s (s.scanStart t) :=
  ((s.advance t).applyMatrix_changeRows t).after (s.advance_within t |>.part rfl) (s.advance_within t |>.dict rfl)

theorem State.restScan_within (s : State) (quiet : Bool) : State.Within [.keys] s (s.restScan quiet) :=
  (State.Sound.restScan (State.Sound.refl _ s) rfl).within

/-- R294: the end of a scan keeps the debounced states and the FIFO, and no run that was not there. -/
theorem State.restScan_kept (s : State) (quiet : Bool) : (s.restScan quiet).keys.pressed = s.keys.pressed ∧
    (s.restScan quiet).keys.fifo = s.keys.fifo ∧ ∀ r ∈ (s.restScan quiet).keys.runs, r ∈ s.keys.runs := by
  rw [State.restScan_keys]
  split
  · exact ⟨rfl, rfl, fun r hr => by cases hr⟩
  · exact ⟨rfl, rfl, fun r hr => hr⟩

/-- The readings of the scan that starts at `t`, of the keys in use. -/
def State.scanReadings (v : State) (t : Nat) (down : List Nat) : List Sample :=
  scanSamples v.keysInUse (v.numAt Adr.settleUs) t down

/-- Whether the scan that starts at `t` decides a change of key `c`. -/
def State.keyDecides (v : State) (need : Nat) (down : List Nat) (c : Nat) : Bool :=
  down.contains c != v.keys.pressed.contains c && decide (need ≤ runLength v.keys.runs c + 1)

theorem State.keyDecides_sample (v : State) (need settle t : Nat) (down : List Nat) (c : Nat) :
    (keySample settle t down c).decides need v.keys.pressed v.keys.runs = v.keyDecides need down c := rfl

theorem State.scanned_length {v : State} (h : v.numAt Adr.keyRows ≤ 16) :
    (v.scanned t down).2.length = (v.keysInUse.filter (v.keyDecides (v.numAt Adr.debounceScans) down)).length := by
  have hcodes : ((v.scanReadings t down).map (·.code)).Nodup := by
    rw [State.scanReadings, scanSamples_codes]
    exact State.keysInUse_nodup h
  have hs : v.scanReadings t down = v.keysInUse.map (keySample (v.numAt Adr.settleUs) t down) := rfl
  rw [State.scanned, ← State.scanReadings, debounce_changes hcodes, List.length_map, hs, List.filter_map, List.length_map]
  rfl

/-- R295: what a scan leaves of a key in use: its debounced state, and no run where the reading agrees. -/
theorem State.scanned_key {v : State} (h : v.numAt Adr.keyRows ≤ 16) {c : Nat} (hc : c ∈ v.keysInUse) :
    ((v.scanned t down).2.foldl Keys.pressedAfter v.keys.pressed).contains c =
      (if v.keyDecides (v.numAt Adr.debounceScans) down c then down.contains c else v.keys.pressed.contains c) ∧
    (down.contains c = v.keys.pressed.contains c → ∀ r ∈ (v.scanned t down).1, r.code ≠ c) ∧
    (v.keyDecides (v.numAt Adr.debounceScans) down c = true →
      ∃ y ∈ (v.scanned t down).2, y.code = c ∧ y.down = down.contains c) := by
  have hcodes : ((v.scanReadings t down).map (·.code)).Nodup := by
    rw [State.scanReadings, scanSamples_codes]
    exact State.keysInUse_nodup h
  have hmem : keySample (v.numAt Adr.settleUs) t down c ∈ v.scanReadings t down := mem_scanSamples hc _ _ _
  rw [State.scanned, ← State.scanReadings]
  refine ⟨debounce_contains hcodes hmem, fun hagree r hr => debounceFrom_agrees hcodes hmem hagree hr, fun hd => ?_⟩
  rw [debounce_changes hcodes]
  exact ⟨_, List.mem_map_of_mem (List.mem_filter.2 ⟨hmem, hd⟩), rfl, rfl⟩

/-- R292 to R295: the end of a scan from the state `v` that its start has made. -/
theorem State.scanTaken_effect {v : State} (hw : Dict.wf v.part.variant v.dict = true) (t : Nat) (down : List Nat) (quiet : Bool) :
    let x := (v.scanTaken t down).restScan quiet
    x.keys.pressed = (v.scanned t down).2.foldl Keys.pressedAfter v.keys.pressed ∧
      (∀ r ∈ x.keys.runs, r ∈ (v.scanned t down).1) ∧
      (v.keys.lock = .off → v.keys.fifo.length + (v.scanned t down).2.length + 1 ≤ 64 → ∀ y ∈ (v.scanned t down).2,
        y.down = true → v.keyEnabled y.code = true → v.keys.mute.contains y.code = false →
        ∃ e ∈ x.keys.fifo, e.kind = 1 ∧ e.synthetic = false ∧ e.code = y.code) ∧
      x.numAt Adr.scans = (v.numAt Adr.scans + 1) % 2 ^ 64 := by
  intro x
  obtain ⟨hpressed, hfifo, hruns⟩ := (v.scanTaken t down).restScan_kept quiet
  obtain ⟨-, -, hr, hp⟩ := v.scanTaken_scansWith t down
  have hread : State.WritesIn (· ∈ changeRows) v (v.scanRead t down) := .of_same (by simp [State.scanRead, State.setKeys])
    (by simp [State.scanRead, State.setKeys])
  have hrw := hread.wf hw
  have hk := v.scanRead_keys t down
  have hchanges := State.keyChanges_changeRows (v.scanned t down).2 (v.scanRead t down) (v.scanFinish t)
  refine ⟨hpressed.trans hp, fun r h => hr ▸ hruns r h, fun hl hroom y hy hd hen hm => ?_, ?_⟩
  · obtain ⟨-, h⟩ := State.keyChanges_press (s := v.scanRead t down) (ys := (v.scanned t down).2) hrw
      ((congrArg Keys.lock hk).trans hl) (by rw [hk]; exact hroom) (v.scanFinish t)
    have hx : x.keys.fifo =
        ((v.scanned t down).2.foldl (fun u x => u.keyChange x (v.scanFinish t)) (v.scanRead t down)).keys.fifo := by
      rw [hfifo, State.scanTaken, State.bump_keys]
    rw [hx]
    exact h y hy hd ((State.keyEnabled_changed hw hread _).trans hen) (by rw [hk]; exact hm)
  · have hrest := (v.scanTaken t down).restScan_within quiet
    have hx : x.numAt Adr.scans = (v.scanTaken t down).numAt Adr.scans := State.numAt_congr (hrest.part rfl) (hrest.dict rfl) _
    rw [hx, State.scanTaken, State.numAt_bump_same (hchanges.wf hrw) (by decide), hchanges.numAt hrw (by decide),
      hread.numAt hw (by decide)]

end

/-! ## Activity and the buttons (R291, R296, R367) -/

section
variable {s : State} {t : Nat}

theorem State.not_dormant_of_ctlServes (h : s.ctlServes = true) : s.dormant = false := by
  unfold State.ctlServes at h
  by_contra hd
  simp [hd] at h

theorem exec_keyActivity_idle (h : (s.advance t).ctlServes = true) (hs : s.keys.scanning = false) :
    ∃ x, exec (.keyActivity t) s = .next x ∧ x.keys.scanning = true ∧ x.keys.activeAt = t ∧ x.keys.lastScan = none ∧
      x.keys.idleScans = 0 := by
  have hd := State.not_dormant_of_ctlServes h
  have hk : (s.advance t).keys.scanning = false := by rw [(s.advance_within t).keys rfl, hs]
  have hx : doKeyActivity t s = (s.advance t).setKeys (fun k => { k with
      scanning := true, activeAt := t, lastScan := none, scanEnd := 0, idleScans := 0,
      scanPeriod := (s.advance t).numAt Adr.scanPeriodMs }) := by
    unfold doKeyActivity
    simp only [hd, h, hk, Bool.not_true, Bool.or_self, Bool.false_eq_true, if_false]
  exact ⟨_, congrArg Host.Outcome.next hx, rfl, rfl, rfl, rfl⟩

theorem exec_keyActivity_dormant (h : s.dormant = true) (he : bitAt (s.numAt Adr.wakeEnable) 2 = true) :
    ∃ x, exec (.keyActivity t) s = .next x ∧ x.keys.wakeRequest = true ∧ bitAt x.power.wakeCause 2 = true := by
  have hd : (s.advance t).dormant = true := by rw [State.advance_dormant, h]
  have hn : bitAt ((s.advance t).numAt Adr.wakeEnable) 2 = true := by rw [State.numAt_advance, he]
  have hx : doKeyActivity t s = { s.advance t with
      power := { (s.advance t).power with wakeCause := setBit (s.advance t).power.wakeCause 2 true },
      keys := { (s.advance t).keys with wakeRequest := true } } := by
    unfold doKeyActivity
    simp only [hd, hn, if_true]
  exact ⟨_, congrArg Host.Outcome.next hx, rfl, bitAt_setBit _ _⟩

/-- From `s` to `x` the buttons change in their debounced states, which are `ps`. -/
structure State.ButtonsWith (ps : List Nat) (s x : State) : Prop where
  btnPressed : x.keys.btnPressed = ps
  btnLast : x.keys.btnLast = s.keys.btnLast
  pressed : x.keys.pressed = s.keys.pressed

theorem State.FifoOnly.buttonsWith {ps : List Nat} {u x : State} (hu : State.ButtonsWith ps s u) (h : State.FifoOnly u x) :
    State.ButtonsWith ps s x := by
  obtain ⟨f, n, hx⟩ := h
  exact ⟨by rw [hx]; exact hu.btnPressed, by rw [hx]; exact hu.btnLast, by rw [hx]; exact hu.pressed⟩

theorem State.buttonChange_buttonsWith (s : State) (y : Sample) (t : Nat) :
    State.ButtonsWith (Keys.pressedAfter s.keys.btnPressed y) s (s.buttonChange y t) := by
  unfold State.buttonChange
  extract_lets event masked a
  have ha : State.ButtonsWith (Keys.pressedAfter s.keys.btnPressed y) s a := ⟨rfl, rfl, rfl⟩
  clear_value a
  split
  · exact ha
  · split
    · exact (State.FifoOnly.of_same (State.bump_keys _ _)).buttonsWith ha
    · exact (State.queueEvent_fifoOnly _ _ _ _ _ _ _).buttonsWith ha

theorem State.buttonChanges_buttonsWith (ys : List Sample) (s : State) (t : Nat) :
    State.ButtonsWith (ys.foldl Keys.pressedAfter s.keys.btnPressed) s (ys.foldl (fun u y => u.buttonChange y t) s) := by
  induction ys generalizing s with
  | nil => exact ⟨rfl, rfl, rfl⟩
  | cons y ys ih =>
    have hy := s.buttonChange_buttonsWith y t
    have h := ih (s.buttonChange y t)
    rw [hy.btnPressed] at h
    exact ⟨h.btnPressed, h.btnLast.trans hy.btnLast, h.pressed.trans hy.pressed⟩

/-- The sample of button `b` at `t`. -/
def State.buttonReading (s : State) (t levels b : Nat) : Sample := { code := b, down := s.buttonDown levels b, time := t }

theorem State.buttonReadings_codes (s : State) (t levels : Nat) :
    (((List.range 16).map (s.buttonReading t levels)).map (·.code)).Nodup := by
  rw [List.map_map]
  exact List.nodup_range.map fun a b h => h

/-- What a sample of the buttons finds, from the state `u` at its time. -/
def State.buttonsScanned (u : State) (t levels : Nat) : List Run × List Sample :=
  debounce (u.numAt Adr.btnDebounce) u.keys.btnPressed u.keys.btnRuns ((List.range 16).map (u.buttonReading t levels))

/-- The buttons once the runs and the changes of a sample are taken. -/
def State.takeButtons (u : State) (t : Nat) (found : List Run × List Sample) : State :=
  found.2.foldl (fun v x => v.buttonChange x t) (u.setKeys (fun k => { k with btnLast := some t, btnRuns := found.1 }))

theorem State.takeButtons_keys (u : State) (t : Nat) (found : List Run × List Sample) :
    (u.takeButtons t found).keys.btnPressed = found.2.foldl Keys.pressedAfter u.keys.btnPressed ∧
      (u.takeButtons t found).keys.btnLast = some t ∧ (u.takeButtons t found).keys.pressed = u.keys.pressed := by
  obtain ⟨hp, hl, hk⟩ := State.buttonChanges_buttonsWith found.2
    (u.setKeys (fun k => { k with btnLast := some t, btnRuns := found.1 })) t
  exact ⟨hp, hl, hk⟩

theorem doButtonSample_due {levels : Nat} (h : (s.advance t).ctlServes = true)
    (hdue : ∀ p, s.keys.btnLast = some p → p + s.numAt Adr.btnPeriodMs * 1000000 ≤ t) :
    doButtonSample t levels s =
    (s.advance t).takeButtons t ((s.advance t).buttonsScanned t levels) := by
  have hn := State.numAt_advance s t Adr.btnPeriodMs
  have hk := (s.advance_within t).keys rfl
  unfold doButtonSample
  extract_lets u due
  have hd : due = true := by
    unfold due
    cases hl : u.keys.btnLast with
    | none => rfl
    | some p =>
      have := hdue p (hk ▸ hl)
      rw [← hn] at this
      exact decide_eq_true this
  have hu : u.ctlServes = true := h
  rw [if_neg (by simp [hd, hu])]
  rfl

/-- R296: each button is decided by the rule of the keys. -/
theorem State.buttonsScanned_contains (u : State) (t levels : Nat) {b : Nat} (hb : b < 16) :
    ((u.buttonsScanned t levels).2.foldl Keys.pressedAfter u.keys.btnPressed).contains b =
      if (u.buttonReading t levels b).decides (u.numAt Adr.btnDebounce) u.keys.btnPressed u.keys.btnRuns
      then u.buttonDown levels b else u.keys.btnPressed.contains b :=
  debounce_contains (x := u.buttonReading t levels b) (u.buttonReadings_codes t levels)
    (List.mem_map_of_mem (List.mem_range.2 hb))

/-- R296: a sample of the buttons that is due. -/
theorem exec_buttonSample {levels : Nat} (h : (s.advance t).ctlServes = true)
    (hdue : ∀ p, s.keys.btnLast = some p → p + s.numAt Adr.btnPeriodMs * 1000000 ≤ t) :
    ∃ x, exec (.buttonSample t levels) s = .next x ∧ x.keys.btnLast = some t ∧ x.keys.pressed = s.keys.pressed ∧
      ∀ b, b < 16 → x.keys.btnPressed.contains b =
        if (s.advance t).buttonDown levels b != s.keys.btnPressed.contains b &&
          decide ((s.advance t).numAt Adr.btnDebounce ≤ runLength s.keys.btnRuns b + 1)
        then (s.advance t).buttonDown levels b else s.keys.btnPressed.contains b := by
  have hk : (s.advance t).keys = s.keys := (s.advance_within t).keys rfl
  refine ⟨_, congrArg Host.Outcome.next (doButtonSample_due h hdue), ?_⟩
  generalize s.advance t = u at *
  have hdecided := fun b hb => u.buttonsScanned_contains t levels (b := b) hb
  generalize u.buttonsScanned t levels = found at hdecided ⊢
  obtain ⟨hp, hl, hpressed⟩ := u.takeButtons_keys t found
  refine ⟨hl, hpressed.trans (congrArg Keys.pressed hk), fun b hb => ?_⟩
  rw [← hk, hp]
  exact hdecided b hb

end

/-! ## Encoders (R297 to R299) -/

section
variable {s : State} {n : Nat}

theorem State.encoderAt_setEncoder (f : Encoder → Encoder) (h : n < s.keys.encoders.length) :
    (s.setEncoder n f).encoderAt n = f (s.encoderAt n) := nth_modifyAt_same _ _ h

theorem State.encoderAt_setEncoder_other (f : Encoder → Encoder) {k : Nat} (h : k ≠ n) :
    (s.setEncoder n f).encoderAt k = s.encoderAt k := nth_modifyAt_other _ _ h

theorem State.length_setEncoder (s : State) (n : Nat) (f : Encoder → Encoder) :
    (s.setEncoder n f).keys.encoders.length = s.keys.encoders.length := by simp [State.setEncoder, State.setKeys]

theorem State.Inv.encoder_lt (h : s.Inv) (hn : n < 8) : n < s.keys.encoders.length := by
  obtain ⟨-, -, -, -, -, -, -, -, -, -, -, he⟩ := (State.shaped_iff s).1 h.2
  exact he ▸ hn

/-- R298: where ENC_POSITION counts on, and where it wraps. -/
theorem State.countDetent_counts (hw : Dict.wf s.part.variant s.dict = true) (n : Nat) (d : Int) :
    let now := s.intAt 32 (Adr.encPosition n)
    (s.countDetent n d).numAt (Adr.encPosition n) = ofSigned 32 (now + d) ∧
      (s.countDetent n d).numAt (Adr.encWrap n) =
        (if now + d < -(2 ^ 31) ∨ 2 ^ 31 ≤ now + d then 1 else s.numAt (Adr.encWrap n)) := by
  intro now
  have hne : Adr.encPosition n ≠ Adr.encWrap n := by
    unfold Adr.encPosition Adr.encWrap
    omega
  have hset := State.numAt_setNum_same (s := s) (Adr.encPosition n) (ofSigned 32 (now + d)) hw
  have hother := State.numAt_setNum_other (s := s) (a := Adr.encPosition n) (b := Adr.encWrap n) (ofSigned 32 (now + d)) hw
    (Ne.symm hne)
  have hw' : Dict.wf (s.setNum (Adr.encPosition n) (ofSigned 32 (now + d))).part.variant
    (s.setNum (Adr.encPosition n) (ofSigned 32 (now + d))).dict = true := Dict.wf_set _ _ hw
  have hx : s.countDetent n d = if now + d < -(2 ^ 31) ∨ 2 ^ 31 ≤ now + d
      then (s.setNum (Adr.encPosition n) (ofSigned 32 (now + d))).setNum (Adr.encWrap n) 1
      else s.setNum (Adr.encPosition n) (ofSigned 32 (now + d)) := by
    unfold State.countDetent
    simp only [Bool.or_eq_true, decide_eq_true_eq]
    rfl
  rw [hx]
  split
  · exact ⟨(State.numAt_setNum_other _ hw' hne).trans hset, State.numAt_setNum_same _ _ hw'⟩
  · exact ⟨hset, hother⟩

theorem State.countDetent_keys (s : State) (n : Nat) (d : Int) : (s.countDetent n d).keys = s.keys :=
  (State.Sound.countDetent (State.Sound.refl [.dict] s) rfl).within.keys rfl

/-- R299: a detent in a report window leaves the levels and the sub-count, the other encoders and the register file. -/
theorem State.countWindow_kept (h : n < s.keys.encoders.length) (d : Int) (t : Nat) : let x := s.countWindow n d t
    (x.encoderAt n).a = (s.encoderAt n).a ∧ (x.encoderAt n).b = (s.encoderAt n).b ∧
      (x.encoderAt n).sub = (s.encoderAt n).sub ∧ (∀ k, k ≠ n → x.encoderAt k = s.encoderAt k) ∧
      ∀ c, x.numAt c = s.numAt c := by
  intro x
  unfold x State.countWindow
  split
  · exact ⟨rfl, rfl, rfl, fun _ _ => rfl, fun _ => rfl⟩
  · rw [State.encoderAt_setEncoder _ h]
    exact ⟨rfl, rfl, rfl, fun k hk => State.encoderAt_setEncoder_other _ hk, fun c => State.numAt_congr rfl rfl c⟩

/-- R297, R298: one accepted step counted with its sign. -/
theorem State.countStep_effect (hw : Dict.wf s.part.variant s.dict = true) (hl : n < s.keys.encoders.length)
    (step : Int) (t : Nat) : let x := s.countStep n step t; let w := s.encoderAt n
    let per : Int := s.numAt (Adr.countsPerDetent n)
    let sub : Int := w.sub + (if s.numAt (Adr.encDirection n) = 1 then -step else step)
    (x.encoderAt n).a = w.a ∧ (x.encoderAt n).b = w.b ∧ (∀ k, k ≠ n → x.encoderAt k = s.encoderAt k) ∧
      (-per < sub → sub < per → (x.encoderAt n).sub = sub ∧ x.dict = s.dict) ∧
      (per ≤ sub ∨ sub ≤ -per → (x.encoderAt n).sub = 0 ∧
        let up : Int := if 0 < sub then 1 else -1
        let now := s.intAt 32 (Adr.encPosition n)
        x.numAt (Adr.encPosition n) = ofSigned 32 (now + up) ∧
        x.numAt (Adr.encWrap n) = (if now + up < -(2 ^ 31) ∨ 2 ^ 31 ≤ now + up then 1 else s.numAt (Adr.encWrap n))) := by
  intro x w per sub
  have hx : x = if per ≤ sub ∨ sub ≤ -per then
      ((s.setEncoder n (fun y => { y with sub := 0 })).countDetent n (if 0 < sub then 1 else -1)).countWindow n
        (if 0 < sub then 1 else -1) t
      else s.setEncoder n (fun y => { y with sub := sub }) := by
    unfold x State.countStep
    simp only [Bool.or_eq_true, decide_eq_true_eq, beq_iff_eq]
    rfl
  rw [hx]
  split
  · next hdetent =>
    generalize (if 0 < sub then (1 : Int) else -1) = up
    obtain ⟨y, hy⟩ : ∃ y, y = s.setEncoder n (fun y => { y with sub := 0 }) := ⟨_, rfl⟩
    have hly : n < y.keys.encoders.length := by rw [hy, State.length_setEncoder]; exact hl
    have hyw : Dict.wf y.part.variant y.dict = true := by rw [hy]; exact hw
    have hyn (c : Nat) : y.numAt c = s.numAt c := by rw [hy]; exact State.numAt_congr rfl rfl c
    have hyi : y.intAt 32 (Adr.encPosition n) = s.intAt 32 (Adr.encPosition n) := by rw [State.intAt, State.intAt, hyn]
    have hat : y.encoderAt n = { w with sub := 0 } := by rw [hy, State.encoderAt_setEncoder _ hl]
    have hother (k : Nat) (hk : k ≠ n) : y.encoderAt k = s.encoderAt k := by rw [hy, State.encoderAt_setEncoder_other _ hk]
    rw [← hy]
    obtain ⟨hpos, hwrap⟩ := State.countDetent_counts hyw n up
    have hk := y.countDetent_keys n up
    have he (k : Nat) : (y.countDetent n up).encoderAt k = y.encoderAt k := by rw [State.encoderAt, State.encoderAt, hk]
    obtain ⟨ha, hb, hsub, hrest, hnum⟩ := State.countWindow_kept (s := y.countDetent n up) (by rw [hk]; exact hly) up t
    rw [he, hat] at ha hb hsub
    refine ⟨ha, hb, fun k hne => (hrest k hne).trans ((he k).trans (hother k hne)), fun h1 h2 => by omega,
      fun _ => ⟨hsub, ?_, ?_⟩⟩
    · rw [hnum, hpos, hyi]
    · rw [hnum, hwrap, hyi, hyn]
  · next hbetween =>
    rw [State.encoderAt_setEncoder _ hl]
    exact ⟨rfl, rfl, fun k hk => State.encoderAt_setEncoder_other _ hk, fun _ _ => ⟨rfl, rfl⟩, fun h => absurd h hbetween⟩

/-- R297: a step in which one input changes counts with the sign of its direction. -/
theorem grayStep_one {a b a' b' : Bool} (h : (a' != a) != (b' != b)) :
    grayStep a b a' b' = if (if a' != a then a' != b else b' == a) then 1 else -1 := by
  revert h
  cases a <;> cases b <;> cases a' <;> cases b' <;> decide

variable {t : Nat} {e : Fin 8}

/-- R297: a step that the filter can accept, on an enabled encoder. -/
theorem doEncoderStep_enabled (hc : (s.advance t).ctlServes = true) (he : s.flagAt (Adr.encEnable e.val) = true) (a b : Bool) :
    let w := s.encoderAt e.val
    let y := (s.advance t).setEncoder e.val (fun y => { y with a := a, b := b, lastStep := some t })
    doEncoderStep t e a b s = if w.a ≠ a ∧ w.b ≠ b then y.bump Adr.encErrors
      else if w.a = a ∧ w.b = b then y else y.countStep e.val (grayStep w.a w.b a b) t := by
  intro w y
  have hw : (s.advance t).encoderAt e.val = w := by rw [State.encoderAt, (s.advance_within t).keys rfl]; rfl
  have hf : ((s.advance t).setEncoder e.val (fun y => { y with a := a, b := b, lastStep := some t })).flagAt
      (Adr.encEnable e.val) = true := by
    rw [← he]
    exact State.flagAt_advance s t _
  unfold doEncoderStep
  simp only [hw, hc, hf, Bool.not_true, Bool.false_eq_true, if_false, Bool.and_eq_true, bne_iff_ne, beq_iff_eq]
  rfl

theorem exec_encoderStep_slow (h : s.stepTooFast e.val t = false) (a b : Bool) :
    exec (.encoderStep t e a b) s = .next (doEncoderStep t e a b s) := if_neg (by simp [h])

theorem exec_encoderStep_fast (hc : s.ctlServes = true) (h : s.stepTooFast e.val t = true) (a b : Bool) :
    exec (.encoderStep t e a b) s = .fault .outsideRating := if_pos (by simp [hc, h])

/-- R297: both inputs together count an error. -/
theorem exec_encoderStep_both (h : s.stepTooFast e.val t = false) (hc : (s.advance t).ctlServes = true)
    (he : s.flagAt (Adr.encEnable e.val) = true) : let w := s.encoderAt e.val
    exec (.encoderStep t e (!w.a) (!w.b)) s = .next (((s.advance t).setEncoder e.val (fun y => { y with
      a := !w.a, b := !w.b, lastStep := some t })).bump Adr.encErrors) := by
  intro w
  rw [exec_encoderStep_slow h, doEncoderStep_enabled hc he, if_pos (by simp [w])]

/-- R297, R298: one input counts one step. -/
theorem exec_encoderStep_one (hi : s.Inv) (h : s.stepTooFast e.val t = false) (hc : (s.advance t).ctlServes = true)
    (he : s.flagAt (Adr.encEnable e.val) = true) {a b : Bool} : let n := e.val; let w := s.encoderAt n
    (a != w.a) != (b != w.b) →
    let lead : Int := if (if a != w.a then a != w.b else b == w.a) then 1 else -1
    let d : Int := if s.numAt (Adr.encDirection n) = 1 then -lead else lead
    let per : Int := s.numAt (Adr.countsPerDetent n)
    let sub : Int := w.sub + d
    ∃ x, exec (.encoderStep t e a b) s = .next x ∧ (x.encoderAt n).a = a ∧ (x.encoderAt n).b = b ∧
      (∀ k, k ≠ n → x.encoderAt k = s.encoderAt k) ∧
      (-per < sub → sub < per → (x.encoderAt n).sub = sub ∧ x.dict = s.dict) ∧
      (per ≤ sub ∨ sub ≤ -per → (x.encoderAt n).sub = 0 ∧
        let up : Int := if 0 < sub then 1 else -1
        let now := s.intAt 32 (Adr.encPosition n)
        x.numAt (Adr.encPosition n) = ofSigned 32 (now + up) ∧
        (x.numAt (Adr.encWrap n) = if now + up < -(2 ^ 31) ∨ 2 ^ 31 ≤ now + up then 1
          else s.numAt (Adr.encWrap n))) := by
  intro n w hone lead d per sub
  have hadv : State.Within [.clock] s (s.advance t) := s.advance_within t
  have hl : n < (s.advance t).keys.encoders.length := State.Inv.encoder_lt (State.advance_inv hi) e.isLt
  have hat (k : Nat) : (s.advance t).encoderAt k = s.encoderAt k := by rw [State.encoderAt, State.encoderAt, hadv.keys rfl]
  obtain ⟨y, hy⟩ : ∃ y, y = (s.advance t).setEncoder n (fun y => { y with a := a, b := b, lastStep := some t }) := ⟨_, rfl⟩
  have hd : y.dict = s.dict := by rw [hy]; exact hadv.dict rfl
  have hp : y.part = s.part := by rw [hy]; exact hadv.part rfl
  have hyn (c : Nat) : y.numAt c = s.numAt c := State.numAt_congr hp hd c
  have hyw : Dict.wf y.part.variant y.dict = true := by rw [hp, hd]; exact hi.1.1
  have hly : n < y.keys.encoders.length := by rw [hy, State.length_setEncoder]; exact hl
  have hyat : y.encoderAt n = { w with a := a, b := b, lastStep := some t } := by rw [hy, State.encoderAt_setEncoder _ hl, hat]
  have hother (k : Nat) (hk : k ≠ n) : y.encoderAt k = s.encoderAt k := by rw [hy, State.encoderAt_setEncoder_other _ hk, hat]
  have hyi : y.intAt 32 (Adr.encPosition n) = s.intAt 32 (Adr.encPosition n) := by rw [State.intAt, State.intAt, hyn]
  have hx : doEncoderStep t e a b s = y.countStep n lead t := by
    have hgray : grayStep w.a w.b a b = lead := grayStep_one hone
    have hboth : ¬ (w.a ≠ a ∧ w.b ≠ b) := fun ⟨ha, hb⟩ => by
      rw [bne_iff_ne.2 (Ne.symm ha), bne_iff_ne.2 (Ne.symm hb)] at hone
      cases hone
    have hnone : ¬ (w.a = a ∧ w.b = b) := fun ⟨ha, hb⟩ => by simp [← ha, ← hb] at hone
    rw [doEncoderStep_enabled hc he, if_neg hboth, if_neg hnone, hgray, hy]
  have hstep := State.countStep_effect hyw hly lead t
  rw [hyat, hyn, hyn, hyi, hyn, hd] at hstep
  obtain ⟨ha, hb, hrest, hbetween, hdetent⟩ := hstep
  exact ⟨y.countStep n lead t, (exec_encoderStep_slow h a b).trans (congrArg Host.Outcome.next hx), ha, hb,
    fun k hk => (hrest k hk).trans (hother k hk), hbetween, hdetent⟩

/-- R299: the report window of an encoder closes. -/
theorem exec_encoderReport (hi : s.Inv) {first : Nat} (hf : (s.encoderAt e.val).windowAt = some first) (hc : s.ctlServes = true) :
    let n := e.val; let w := s.encoderAt n; let v := s.advance w.windowEnd
    ∃ x, exec (.encoderReport e) s = .next x ∧ (x.encoderAt n).windowAt = none ∧
      (w.net = 0 → x.keys.fifo = s.keys.fifo) ∧
      (w.net ≠ 0 → s.keys.fifo.length + 2 ≤ 64 → ∃ y, x.keys.fifo = s.keys.fifo ++ [y] ∧ y.kind = 5 ∧ y.code = n ∧
        y.data = ofSigned 16 w.net ∧ y.tick = (v.stampAt first).tick ∧ y.offset = (v.stampAt first).offset) := by
  intro n w v
  have hadv : State.Within [.clock] s v := s.advance_within _
  have hl : n < v.keys.encoders.length := State.Inv.encoder_lt (State.advance_inv hi) e.isLt
  obtain ⟨y, hy⟩ : ∃ y, y = v.setEncoder n (fun y => { y with windowAt := none, net := 0 }) := ⟨_, rfl⟩
  have hx : doEncoderReport e s = if w.net = 0 then y
      else y.queueEvent 5 false n (ofSigned 16 w.net) (y.stampAt first) w.windowEnd := by
    unfold doEncoderReport
    simp only [hf, hc, Bool.not_true, Bool.false_eq_true, if_false, beq_iff_eq, hy]
    rfl
  have hnone : (y.encoderAt n).windowAt = none := by rw [hy, State.encoderAt_setEncoder _ hl]
  have hfifo : y.keys.fifo = s.keys.fifo := by
    rw [hy]
    show v.keys.fifo = s.keys.fifo
    rw [hadv.keys rfl]
  have hstamp : y.stampAt first = v.stampAt first := by rw [hy]; rfl
  refine ⟨_, congrArg Host.Outcome.next hx, ?_, fun h0 => ?_, fun h0 hroom => ?_⟩
  · split
    · exact hnone
    · obtain ⟨f, m, hk⟩ := y.queueEvent_fifoOnly 5 false n (ofSigned 16 w.net) (y.stampAt first) w.windowEnd
      rw [State.encoderAt, hk]
      exact hnone
  · rw [if_pos h0, hfifo]
  · rw [if_neg h0, State.queueEvent_room _ _ _ _ _ _ _ (by rw [hfifo]; exact hroom), State.bump_keys, State.pushEvent_fifo, hfifo]
    exact ⟨_, rfl, rfl, rfl, rfl, congrArg Stamp.tick hstamp, congrArg Stamp.offset hstamp⟩

end

/-- R292 to R295: a scan that is due, in the words of the statement. -/
theorem exec_keyScan_effect {s : State} {t : Nat} {down : List Nat} (hi : s.Inv) (hdue : s.scanDue t = true)
    (hrows : s.numAt Adr.keyRows ≤ 16) {v : State} (hstart : s.scanStart t = v) :
    let change := v.keyDecides (s.numAt Adr.debounceScans) down
    ∃ x, exec (.keyScan t down) s = .next x ∧
      (∀ c, c ∈ v.keysInUse →
        (x.keys.pressed.contains c = if change c then down.contains c else v.keys.pressed.contains c)) ∧
      (∀ c, c ∈ v.keysInUse → down.contains c = v.keys.pressed.contains c → ∀ r, r ∈ x.keys.runs → r.code ≠ c) ∧
      (∀ c, c ∈ v.keysInUse → change c = true → down.contains c = true → v.keyEnabled c = true →
        v.keys.mute.contains c = false → v.keys.lock = .off →
        v.keys.fifo.length + (v.keysInUse.filter change).length + 1 ≤ 64 → ∃ e, e ∈ x.keys.fifo ∧ e.kind = 1 ∧ e.synthetic = false ∧ e.code = c) ∧
      x.numAt Adr.scans = (v.numAt Adr.scans + 1) % 2 ^ 64 := by
  intro change
  have hv : State.WritesIn (· ∈ changeRows) s v := hstart ▸ s.scanStart_changeRows t
  have hvw : Dict.wf v.part.variant v.dict = true := hv.wf hi.1.1
  have hrows' : v.numAt Adr.keyRows ≤ 16 := by rw [hv.numAt hi.1.1 (by decide)]; exact hrows
  have hneed : v.numAt Adr.debounceScans = s.numAt Adr.debounceScans := hv.numAt hi.1.1 (by decide)
  have hkey (c : Nat) (hc : c ∈ v.keysInUse) := State.scanned_key (t := t) (down := down) hrows' hc
  have hlen := State.scanned_length (t := t) (down := down) hrows'
  have hx := exec_keyScan (down := down) hdue
  rw [hstart] at hx
  have hchange : v.keyDecides (v.numAt Adr.debounceScans) down = change := by rw [hneed]
  rw [hchange] at hlen
  simp only [hchange] at hkey
  clear_value change
  refine ⟨_, hx, ?_⟩
  obtain ⟨hpressed, hruns, hpress, hscans⟩ := State.scanTaken_effect hvw t down
    ((v.scanTaken t down).keys.pressed.isEmpty && v.keysInUse.all (fun c => !(down.contains c)))
  refine ⟨fun c hc => ?_, fun c hc hagree r hr => (hkey c hc).2.1 hagree r (hruns r hr),
    fun c hc hd hdown hen hm hl hroom => ?_, hscans⟩
  · rw [hpressed]
    exact (hkey c hc).1
  · obtain ⟨y, hy, hcode, hyd⟩ := (hkey c hc).2.2 hd
    obtain ⟨e, he, hkind, hsynthetic, hec⟩ := hpress hl (by rw [hlen]; exact hroom) y hy (hyd.trans hdown)
      (by rw [hcode]; exact hen) (by rw [hcode]; exact hm)
    exact ⟨e, he, hkind, hsynthetic, hec.trans hcode⟩

/-- Settles O47: keys and buttons by what a debounced scan decides, encoders by what a step and a window count. -/
theorem keysButtonsEncoders : Obligations.KeysButtonsEncoders := by
  unfold Obligations.KeysButtonsEncoders
  refine ⟨fun s t hi => ⟨⟨exec_keyActivity_idle, exec_keyActivity_dormant⟩,
      fun down hdue hrows => exec_keyScan_effect hi hdue hrows rfl⟩,
    fun s t levels hi hc hdue => ?_, fun s t e hi => ⟨fun a b hc h => exec_encoderStep_fast hc h a b, fun h hc he =>
      ⟨exec_encoderStep_both h hc he, fun a b => exec_encoderStep_one hi h hc he⟩,
      fun first hf hc => exec_encoderReport hi hf hc⟩⟩
  obtain ⟨x, hx, hlast, hpressed, hbuttons⟩ := exec_buttonSample hc hdue
  have hn := State.numAt_advance s t
  refine ⟨x, hx, hlast, hpressed, fun b hb => ?_⟩
  have h := hbuttons b hb
  simp only [State.buttonDown, hn] at h
  exact h

end Sys2Proof.Machine
